-- ==== Sys2Proof/Word.lean ====
section
/-! DEFINITION. The plainest words of the model: bytes, and tables of indexed things.
A `Tab` is the one form in which the model holds anything the spec numbers (memory bytes, dictionary values,
cores, channels, ports): a list of (number, value) pairs, numbers strictly rising, no value equal to what an
unlisted number reads as. The operations that read and write one are in `Machine/Ops.lean`. -/

namespace Sys2Proof

/-- One byte (Table 0.4). -/
abbrev Byte := BitVec 8

/-- A table of values by number, canonical when `tabWf` holds of it. -/
abbrev Tab (α : Type) := List (Nat × α)

end Sys2Proof
end

