-- ==== Sys2Proof/Syntax.lean ====
section
/-! DEFINITION. The commands of the block and the data they carry: what the outside world does to the part (accesses,
pins, messages, samples), and the events inside it that the opcode table lists. Data that a command reads from host
memory, and measurements of the outside world, are operands. -/

namespace Sys2Proof

/-- A bit upset in a core memory (R103): memory 0 program, 1 weight, 2 table; word as in code 0x2041; double-bit or
single-bit. -/
structure Upset where
  mem : Nat
  word : Nat
  double : Bool
deriving DecidableEq, Repr

/-- What the host has set in the configuration space of the port (Table 14.1): MSI-X enable and function mask, the payload and read request
sizes in bytes, ECRC, D3hot. -/
structure HostCfg where
  msixOn : Bool
  msixHold : Bool
  payload : Nat
  readReq : Nat
  ecrc : Bool
  d3 : Bool
deriving DecidableEq, Repr

/-- What the host has set of the port by the time its link is up: ASPM L1.2, and the rest of configuration space. -/
structure HostConf where
  l12 : Bool
  cfg : HostCfg
deriving DecidableEq, Repr

/-- A stream segment's write: the channel, and how many bursts leave at most before another event of the block (R318, R319). -/
structure SegWrite where
  ch : Nat
  bursts : Nat
deriving DecidableEq, Repr

/-- What has come back for a PTP delay message (Table 16.3): for a Delay_Req, `far` is the master's time of its arrival; for a Pdelay_Req,
`far` is how long the other side kept it, and `back` the ac at which the answer came. Times are in 2^-16 ns, corrections included. -/
structure PtpReply where
  far : Nat
  back : Nat
deriving DecidableEq, Repr

/-- What an NPP READ and an NPP WRITE carry: COUNT of the header (Table 15.9), and the items that the payload holds. -/
structure ReadBody where
  count : Nat
  items : List (Nat × Nat)
deriving DecidableEq, Repr

structure WriteBody where
  count : Nat
  items : List (Nat × Nat × List Nat)
deriving DecidableEq, Repr

/-- The commands of the block: one constructor for each row of spec/opcode_table.json, in its order. -/
inductive Instr where
  /-- DICT_WRITE (R368): A client's write to a dictionary entry that has no row of its own is checked against access code, type, range and reserved fields, then accepted or refused with an abort code. -/
  | dictWrite (client idx sub len val : Nat)
  /-- DICT_CUTOFF (R371): At C_g = t0(g) − 128 ac the device latches the dictionary effects that will apply at the growth ring of frame g. -/
  | dictCutoff
  /-- FRAME_BOUNDARY (R37): At B_n, which is also E_(n−1), the port dies release sample tick 0 of frame n on every channel, and frame n−1's input is complete. -/
  | frameBoundary
  /-- GROWTH_RING (R155): At t0 of frame n the origin copse injects the growth-ring marker with the current context, and the hub and port dies apply the effects due at that frame. -/
  | growthRing (phi : List Int) (misaligned : List Nat)
  /-- GROWTH_RING_AT_CORE (R116): When the marker reaches a core, the core sets its current context and discards stale tokens and instances. -/
  | growthRingAtCore (core : Nat)
  /-- SYSREF_EDGE (R38): A SYSREF edge on a port is checked against the frame grid, and off-grid edges are counted and reported. -/
  | sysrefEdge (port t : Nat) (margin : Int)
  /-- CLOCK_RELOCK_DONE (R35): The array PLL completes a frequency-only relock to the new clock-reference port, and CLOCK_STATE returns to 1. -/
  | clockRelockDone
  /-- PRESENT_N_FALL (R61): PRESENT_N goes low on an enabled port, which starts the 10 ms debounce of discovery. -/
  | presentNFall (port : Nat)
  /-- DISCOVERY_DEBOUNCE_DONE (R61): After PRESENT_N has been low for 10 ms the device assigns the I3C address and reads and checks the Front-End Descriptor. -/
  | discoveryDebounceDone (port : Nat) (desc : List Nat)
  /-- LANE_LOCK_DONE (R61): CDR lock, adaptation and JESD204 synchronisation complete, and the port moves to ALIGNED or ALIGNING. -/
  | laneLockDone (port : Nat) (ilasOk : Bool) (ppm : Int)
  /-- DISCOVERY_TIMEOUT (R61): A discovery step's time bound (1 ms, 5 ms or 1 ms) expires, and the port is refused with reason 7 or 9. -/
  | discoveryTimeout (port : Nat)
  /-- PRESENT_N_RISE (R70): PRESENT_N rises: the port's channels are marked absent, discovery or retrain stops, and FE_STATE becomes EMPTY. -/
  | presentNRise (port : Nat)
  /-- IBI (R63): An in-band interrupt from a front end increments IBI_COUNT and writes an event record. -/
  | ibi (port byte : Nat)
  /-- PORT_REINSTATE (R69): A host write of 1 abandons any discovery or retrain and restarts discovery from step 1. -/
  | portReinstate (client port : Nat)
  /-- LANE_CODE_ERROR (R66): A CRC-12 or 8b/10b error is counted, the affected frames are made INVALID, and a retrain starts if the 1 ms limit is exceeded. -/
  | laneCodeError (lane unit : Nat)
  /-- LANE_SYNC_LOSS (R67): Loss of sync-header or code-group synchronisation starts a retrain of the port. -/
  | laneSyncLoss (lane : Nat)
  /-- CDR_LOSS_OF_LOCK (R67): A lane's CDR loses lock, which starts a retrain of the port. -/
  | cdrLossOfLock (lane : Nat)
  /-- RELEASE_MARGIN_VIOLATION (R39): A sample arrives outside its release margin: the frame is made INVALID, a class T event is raised and the lane retrains. -/
  | releaseMarginViolation (lane : Nat) (margin : Int)
  /-- RETRAIN_TIMEOUT (R67): A retrain attempt that has not reached step 11 within 10 ms plus one SYSREF period fails. -/
  | retrainTimeout (port : Nat)
  /-- RETRAIN_EPISODE_END (R68): After 60 s without a retrain the lane's episode ends and LANE_RETRAINS returns to 0. -/
  | retrainEpisodeEnd (lane : Nat)
  /-- MARGIN_UPDATE (R60): Every 1 ms the eye height and width are updated, and a margin event is recorded when either falls below its warning. -/
  | marginUpdate (lane h w : Nat)
  /-- ADAPT_UPDATE (R59): A continuous equaliser adaptation update moves the sampling point by at most 1/64 UI. -/
  | adaptUpdate (lane : Nat) (delta : Int)
  /-- ADAPT_HOLD (R59): A write of ADAPT_HOLD pauses or resumes adaptation, and it is refused while TEST_EN is low. -/
  | adaptHold (client lane val : Nat)
  /-- PRBS_MODE (R72): A write of PRBS_MODE switches the lane to a test pattern or back, and the port's channels go absent while it is non-zero. -/
  | prbsMode (client lane val : Nat)
  /-- INJECT_RATE (R73): A write of INJECT_RATE injects one bit error, or sets periodic injection, into a lane's received data. -/
  | injectRate (client lane val : Nat)
  /-- TDC_CAL_TABLE (R96): After 2^20 calibration hits a new TDC bin-width table is built and applied at the next growth ring. -/
  | tdcCalTable (die : Nat)
  /-- EDGE_INPUT (R98): A selected edge on EDGE_k is timed and sets the input's external bit in the condition vector. -/
  | edgeInput (k : Nat) (rising : Bool) (t : Nat)
  /-- COND_PARITY_ERROR (R434): A parity error in a channel's coefficients or delay line is a class T fault, and the channel is retired at the third error within 1 s. -/
  | condParityError (ch kind : Nat)
  /-- TOKEN_ADMIT (R110): In one ac up to two tokens move from input queues into free tag slots in round-robin order, and stray tokens are discarded. -/
  | tokenAdmit (core : Nat)
  /-- NOP (R138): A NOP occupies one issue cycle and has no effect. -/
  | nop (core : Nat) (up : List Upset)
  /-- LUTMAC (R124): Product-table multiply-accumulate of CNT activations into P0–P15 and A, and with OL also into the outlier lanes. -/
  | lutmac (core : Nat) (up : List Upset)
  /-- OMAC (R126): Outlier-lane multiply-accumulate into acc16 and acc17. -/
  | omac (core : Nat) (up : List Upset)
  /-- ZCORR (R127): Sets the weight and input zero points for the following block closes. -/
  | zcorr (core : Nat) (up : List Upset)
  /-- BCLOSE (R174): Corrects, scales and adds the block sums into acc0–acc15, then clears P and A. -/
  | bclose (core : Nat) (up : List Upset)
  /-- RESCALE (R177): Converts accumulators to 16-bit activations through the rescale table, with rounding, saturation and clip monitoring. -/
  | rescale (core : Nat) (up : List Upset)
  /-- ACTLUT (R131): Maps registers through a 256-entry activation table, with optional interpolation. -/
  | actlut (core : Nat) (up : List Upset)
  /-- STATE_READ (R139): Copies state registers that carry the previous frame's marker into activation registers. -/
  | stateRead (core : Nat) (up : List Upset)
  /-- STATE_WRITE (R139): Writes activation registers into state registers and sets their frame markers. -/
  | stateWrite (core : Nat) (up : List Upset)
  /-- SEND (R132): Emits one token to each output named in DMASK, including the firebreak egress buffer and the verdict collector. -/
  | send (core : Nat) (up : List Upset)
  /-- RECV (R133): Writes a token's payload into registers or an accumulator. -/
  | recv (core : Nat) (up : List Upset)
  /-- REDUCE (R134): Combines left, local and right operands in fixed order, saturating after each step. -/
  | reduce (core : Nat) (up : List Upset)
  /-- CMP (R136): Compares registers or an immediate and sets a predicate. -/
  | cmp (core : Nat) (up : List Upset)
  /-- SEL (R119): Chooses between two register runs by predicate. -/
  | sel (core : Nat) (up : List Upset)
  /-- MAXP (R136): Takes the signed maximum over registers, with an optional index. -/
  | maxp (core : Nat) (up : List Upset)
  /-- MOV_REGISTER_RUN (R136): MOV mode 0 copies a register run. -/
  | movRegisterRun (core : Nat) (up : List Upset)
  /-- MOV_IMMEDIATE (R136): MOV mode 1 writes an immediate to CNT registers. -/
  | movImmediate (core : Nat) (up : List Upset)
  /-- MOV_CLEAR_ACCUMULATORS (R136): MOV mode 2 clears the accumulators named in ACCMASK and their poison bits. -/
  | movClearAccumulators (core : Nat) (up : List Upset)
  /-- LDW (R136): Loads four constants from a table word into registers. -/
  | ldw (core : Nat) (up : List Upset)
  /-- WAIT_COUNT (R137): WAIT mode 0 holds the instance for N ac. -/
  | waitCount (core : Nat) (up : List Upset)
  /-- WAIT_TOKEN_PRESENT (R137): WAIT mode 1 holds the instance until a token with its tag is present from SRC. -/
  | waitTokenPresent (core : Nat) (up : List Upset)
  /-- WAIT_GROWTH_RING (R137): WAIT mode 2 holds the instance until the next growth ring has passed the core. -/
  | waitGrowthRing (core : Nat) (up : List Upset)
  /-- RING (R135): Writes four registers as a ring contribution slot of the instance's frame into the hub. -/
  | ring (core : Nat) (up : List Upset)
  /-- FIRE_WATCHDOG_EXPIRY (R117): The firing watchdog of a core reaches FIRE_WATCHDOG and reports a class J fault. -/
  | fireWatchdogExpiry (core : Nat)
  /-- SCRUBBER_PASS (R103): The background scrubber reads and corrects core memory words, and reports class P on a double-bit error. -/
  | scrubberPass (core : Nat) (ups : List Upset)
  /-- RIDE_HOP (R145): A token moves one hop over a ride into a neighbour's queue or pass-through register. -/
  | rideHop (core dir : Nat) (parityErr : Bool)
  /-- FB_DEPART (R159): A token leaves the egress buffer in the first owned slot for its core and context. -/
  | fbDepart (core : Nat)
  /-- FB_INGRESS (R160): A firebreak token reaches its destination copse port and enters the named core's F queue, or is discarded as stray. -/
  | fbIngress (bad : List Nat)
  /-- FB_SLOT_TIMEOUT (R162): A token waits FB_SLOT_TIMEOUT ac in the egress buffer and is dropped as a schedule fault. -/
  | fbSlotTimeout (core : Nat)
  /-- DIE_LINK_REALIGN_TIMEOUT (R163): A die link found out of alignment that does not realign within 1 µs raises a class J fault. -/
  | dieLinkRealignTimeout (link : Nat)
  /-- VERDICT_TOKEN (R273): A verdict token reaches the collector and is ORed into its class word, or is discarded if poisoned, out of range or late. -/
  | verdictToken
  /-- VERDICT_CLOSE (R274): At E_n + 62 + L_a the collector closes frame n and compares its token count with VERDICT_EXPECTED. -/
  | verdictClose
  /-- CONTRIB_SEND (R412): At S_n the hub sends the frame's CONTRIB flit on both ring ports. -/
  | contribSend
  /-- RING_WRITE_ARRIVAL (R135): A RING write reaches the hub and fills its slot, or is discarded as late and made a schedule fault. -/
  | ringWriteArrival
  /-- RING_DEADLINE (R415): At D_n each enabled ring word takes its reading, absences set RING_LATE, and the frame's class bits enter the condition vector. -/
  | ringDeadline
  /-- MIRROR_VERDICT_SEND (R421): At E_n + L_c − 4 the device sends the MIRROR_VERDICT flit with the verdict word and fingerprint. -/
  | mirrorVerdictSend
  /-- MIRROR_ALONE_CHECK (R420): At E_n + 136 ac MIRROR_ALONE is set if no partner status flit arrived, and takeover and giveback counts are applied. -/
  | mirrorAloneCheck
  /-- VERDICT_ISSUE (R41): At E_n + VERDICT_LATENCY the verdict lines take frame n's levels, and the verdict record enters the queue or joins a gap. -/
  | verdictIssue
  /-- VLINE_PULSE_END (R278): A PULSE-mode line deasserts after VLINE_PULSE_WIDTH. -/
  | vlinePulseEnd (line : Nat)
  /-- VLINE_UNLATCH (R279): A write releases latched lines from the first frame with b_n = 0 after the next growth ring. -/
  | vlineUnlatch (client mask : Nat)
  /-- CONDITION_VECTOR_EVAL (R289): Each ac the pattern unit evaluates all patterns against the condition vector, and fires those whose match rises outside hold-off. -/
  | conditionVectorEval
  /-- PAT_AUTO_EXPIRY (R290): A pattern's auto timer reaches PAT_AUTO and the pattern fires as forced. -/
  | patAutoExpiry (p : Nat)
  /-- TRIGGER_RECORD (R295): At E_m + VERDICT_LATENCY a trigger's record enters the trigger queue with frame m's flags. -/
  | triggerRecord
  /-- COPY_UNIT (R305): The copier copies one channel's copy block of the highest-priority open copy from the ring into the elastic buffers. -/
  | copyUnit (half : Nat)
  /-- COPY_TRUNCATE (R307): The ring is about to overwrite an unread sample of an open copy, so the copy ends TRUNCATED or SHED. -/
  | copyTruncate (half : Nat)
  /-- PSRAM_TRANSACTION_DONE (R301): A PSRAM transaction of up to 1 KiB completes, possibly delayed by refresh. -/
  | psramTransactionDone (die : Nat) (refresh : Bool)
  /-- PSRAM_TIMEOUT (R301): A transaction open after 4 µs is ended and retried as class T, and the third failure retires the die. -/
  | psramTimeout (page : Nat)
  /-- CAPTURE_RELEASE (R312): A handle written to CAPTURE_RELEASE frees the capture's pages and slot. -/
  | captureRelease (client handle : Nat)
  /-- STREAM_SEGMENT (R313): A stream segment is written from the ring to the data buffer once it has room, and its record follows. -/
  | streamSegment (seg : SegWrite)
  /-- STREAM_OVERRUN (R315): The ring is about to overwrite the segment under the cursor, so unwritten segments are dropped and the cursor advances. -/
  | streamOverrun (ch : Nat)
  /-- DESC_PRODUCER (R320): A host write of DESC_PRODUCER makes new descriptors available to a transfer channel. -/
  | descProducer (client ch val : Nat)
  /-- DESC_FETCH_TIMEOUT (R323): A descriptor read exceeds 50 µs and is retried, and after the third attempt the channel writes FETCH and enters ERROR. -/
  | descFetchTimeout (ch : Nat)
  /-- DESC_COPY (R321): Descriptor operation 1 copies a range of a capture to host memory in the chosen layout. -/
  | descCopy (ch : Nat) (desc : List Nat) (moved : Nat)
  /-- DESC_COPY_RELEASE (R323): Descriptor operation 2 copies and then releases the capture after status DONE. -/
  | descCopyRelease (ch : Nat) (desc : List Nat) (moved : Nat)
  /-- DESC_RELEASE (R312): Descriptor operation 3 releases the capture only. -/
  | descRelease (ch : Nat) (desc : List Nat)
  /-- TRANSFER_DONE (R323): A descriptor's transfer ends, its status record is written and DESC_CONSUMER advances. -/
  | transferDone (ch : Nat)
  /-- CHANNEL_START (R325): A write of 1 starts an engine channel after checking its buffers lie inside host windows. -/
  | channelStart (client ch : Nat)
  /-- CHANNEL_ABORT (R324): A write of 1 asks the channel to abort after the burst in progress. -/
  | channelAbort (client ch : Nat)
  /-- CHANNEL_ABORT_DONE (R324): After the burst finishes the channel writes an ABORTED status with RESIDUE, raises MSI-X and stops. -/
  | channelAbortDone (ch : Nat)
  /-- REVIEW_DISPATCH (R335): A free cluster checks and dispatches its highest-priority queued job. -/
  | reviewDispatch (cluster : Nat)
  /-- REVIEW_JOB_AGED (R336): A job queued for REVIEW_MAX_AGE ends AGED. -/
  | reviewJobAged (cluster : Nat)
  /-- REVIEW_INPUT_READ_DONE (R337): The job's input blocks have been read into pinned pages, and the capture is no longer needed. -/
  | reviewInputReadDone (cluster : Nat)
  /-- REVIEW_PASS_START (R338): All pages of a pass are resident and loaded into the cores, and the pass starts. -/
  | reviewPassStart (cluster : Nat)
  /-- REVIEW_PASS_END (R338): A pass finishes, and the pager begins the next pass's pages. -/
  | reviewPassEnd (cluster choices : Nat)
  /-- REVIEW_JOB_END (R344): A job ends and writes its review record. -/
  | reviewJobEnd (cluster : Nat) (fault : Bool)
  /-- ENC_START (R189): A write of 1 starts staging the update list and sets ENC_STATE to STAGING. -/
  | encStart (client : Nat)
  /-- ENC_BLOCK_STAGED (R195): The encoder reads, checks and quantises one update block into the target core's overlay. -/
  | encBlockStaged (words : List Nat)
  /-- ENC_READ_TIMEOUT (R198): The update-list read fails or exceeds 50 µs, and the block is refused with cause 8. -/
  | encReadTimeout
  /-- ENC_COMMIT (R190): A write of 1 commits a staged update for the next growth ring, or at once if the array is not armed. -/
  | encCommit (client : Nat)
  /-- ENC_ABANDON (R192): A write of 1 discards an update not yet committed and returns ENC_STATE to IDLE. -/
  | encAbandon (client : Nat)
  /-- ENC_RETIRE (R191): Every core has copied its overlays, so the update retires and ENC_STATE returns to IDLE. -/
  | encRetire
  /-- CLIP_COUNT_MERGE (R184): Once no instance of a frame can remain, the hub merges its clip counts, closes sub-windows and updates stale state. -/
  | clipCountMerge
  /-- LOAD (R228): LOAD_COMMAND 1 loads or patches an object into LOAD_SLOT through the read, verify, check, map and write phases. -/
  | load (client : Nat)
  /-- UNLOAD (R231): LOAD_COMMAND 2 unloads a slot and releases its resources, firebreak entries and monitors. -/
  | unload (client : Nat)
  /-- LOAD_CHECK (R228): LOAD_COMMAND 3 runs phases 1 to 4 against a slot without writing anything. -/
  | loadCheck (client : Nat)
  /-- LOAD_PHASE_DONE (R228): A load phase that took time completes, and the load moves to the next phase, Done or Failed. -/
  | loadPhaseDone (data : List Nat)
  /-- LOAD_READ_TIMEOUT (R230): A host-memory read of the load fails or exceeds 50 µs, and the load ends with 0x001D. -/
  | loadReadTimeout
  /-- RETIRE_CORE (R232): A write names a physical core as a pending retirement. -/
  | retireCore (client x y : Nat)
  /-- CONTEXT_SWITCH (R237): A write requests a switch to a slot at frame g, replacing any pending switch. -/
  | contextSwitch (client frame slot : Nat)
  /-- SLOT_DRAINED (R235): A DRAINING slot becomes LOADED once frame g + 2's marker has passed and no egress buffer holds its token. -/
  | slotDrained (slot : Nat)
  /-- FALLBACK_ENABLE (R242): A write declares or clears slot 3 as the fallback context. -/
  | fallbackEnable (client val : Nat)
  /-- PAUSE (R245): PAUSE_COMMAND code 1 requests a pause at frame p. -/
  | pause (client frame : Nat)
  /-- RESUME (R247): PAUSE_COMMAND code 2 restores the saved state and resumes at frame r. -/
  | resume (client frame : Nat)
  /-- RESUME_NO_RESTORE (R247): PAUSE_COMMAND code 3 resumes at frame r with cleared state. -/
  | resumeNoRestore (client frame : Nat)
  /-- SAVE_IMAGE_WRITTEN (R246): After frame p + 2's marker has passed, the save image is written and PAUSE_STATE becomes PAUSED. -/
  | saveImageWritten
  /-- RESTORE_DONE (R248): The saved state is written back, and PAUSE_STATE becomes RESUME_PENDING. -/
  | restoreDone
  /-- AUDIT_TIMEOUT (R269): A non-verdict record not hashed within 100 µs is written with an all-zero digest. -/
  | auditTimeout (r : Nat)
  /-- RECORD_WRITE (R355): A record from a hub queue is written into its host ring when the ring has room, with the valid word last. -/
  | recordWrite (r : Nat)
  /-- CI_FETCH (R356): Every 8 µs the device starts a read of the consumer block. -/
  | ciFetch
  /-- CI_FETCH_DONE (R356): The consumer-block read completes and updates each enabled ring's consumer word. -/
  | ciFetchDone (words : List Nat)
  /-- CI_FETCH_TIMEOUT (R356): A consumer-block read not completed in 50 µs keeps the old values as a class T fault. -/
  | ciFetchTimeout
  /-- MSIX_DELAY_EXPIRY (R363): IRQ_DELAY µs after an unannounced record, the ring sends its MSI-X message. -/
  | msixDelayExpiry (r : Nat)
  /-- RING_ENABLE (R357): Setting ENABLE in RING_CTRL enables a record ring after checking windows and parameters. -/
  | ringEnable (r ctrl : Nat)
  /-- RING_DISABLE (R357): Clearing ENABLE disables the ring after the record being written, and later records are lost. -/
  | ringDisable (r ctrl : Nat)
  /-- HOST_WINDOW_WRITE (R351): A host write to window registers takes effect, or is ignored and counted while the window is locked. -/
  | hostWindowWrite (offset width val : Nat)
  /-- FUNCTION_LEVEL_RESET (R364): An FLR returns windows, rings and MSI-X to reset and stops channels, loads and staging. -/
  | functionLevelReset
  /-- PERST_N_ASSERT (R364): PERST_N asserted acts as a function-level reset. -/
  | perstNAssert
  /-- PERST_N_RELEASE (R491): PERST_N released starts link training and configuration readiness. -/
  | perstNRelease
  /-- LINK_DOWN (R364): The PCI Express link goes down, HOST_LINK reads 0, and records are lost until the rings are re-enabled. -/
  | linkDown
  /-- HOST_LINK_UP (R491): PCI Express link training completes, and HOST_LINK reads 1. -/
  | hostLinkUp (rate width : Nat) (conf : HostConf)
  /-- GROUP_MEMBER_WRITE (R375): A write to an RWG member stages the value and makes the writer the group's holder. -/
  | groupMemberWrite (client idx sub val : Nat)
  /-- GROUP_COMMIT (R376): Commits one held group, after its checks, for the next growth ring. -/
  | groupCommit (client gid : Nat)
  /-- GROUP_COMMIT_ALL (R376): Commits every group the client holds in STAGING. -/
  | groupCommitAll (client : Nat)
  /-- GROUP_DISCARD (R377): Releases one group the client holds in STAGING. -/
  | groupDiscard (client gid : Nat)
  /-- GROUP_DISCARD_ALL (R377): GROUP_DISCARD written with 0xFFFF_FFFF releases every group the client holds in STAGING. -/
  | groupDiscardAll (client : Nat)
  /-- BULK_READ (R381): BULK_CTRL operation 1 reads a large entry into BULK_DATA. -/
  | bulkRead (idx sub : Nat)
  /-- BULK_WRITE (R381): BULK_CTRL operation 2 writes a large entry from BULK_DATA. -/
  | bulkWrite (idx sub : Nat) (data : List Nat)
  /-- NPP_OPEN (R383): An NPP OPEN assigns a session, or is answered 0xA013. -/
  | nppOpen (seq : Nat)
  /-- NPP_CLOSE (R383): An NPP CLOSE ends the session and discards its staging holds. -/
  | nppClose (session seq : Nat)
  /-- NPP_READ (R384): An NPP READ returns the values of the listed entries. -/
  | nppRead (session seq : Nat) (body : ReadBody)
  /-- NPP_WRITE (R384): An NPP WRITE processes its items in order until the first refusal. -/
  | nppWrite (session seq : Nat) (body : WriteBody)
  /-- NPP_COMMIT (R382): An NPP COMMIT commits one group, or all held groups, and returns frame g. -/
  | nppCommit (session seq gid : Nat)
  /-- NPP_DISCARD (R382): An NPP DISCARD releases one group, or all held groups. -/
  | nppDiscard (session seq gid : Nat)
  /-- NPP_KEEPALIVE (R383): An NPP KEEPALIVE keeps the session alive. -/
  | nppKeepalive (session seq : Nat)
  /-- NPP_WAKE (R459): An NPP WAKE carrying the device serial acts as a wake request, with no reply. -/
  | nppWake (serial : Nat)
  /-- NPP_SESSION_EXPIRY (R383): A session with no valid request for 2 s expires, and its holds are discarded. -/
  | nppSessionExpiry (session : Nat)
  /-- NPP_PORT (R382): A write of NPP_PORT changes the UDP port and closes every session. -/
  | nppPort (client port : Nat)
  /-- PTP_ANNOUNCE (R395): An Announce message feeds the best-master algorithm and may change the master. -/
  | ptpAnnounce (domain ident key : Nat) (utc : Int)
  /-- PTP_SYNC (R396): A Sync and its timing messages give an offset measurement that drives the servo's acquisition, lock, step or slew. -/
  | ptpSync (domain ident t1 : Nat) (reply : Option PtpReply)
  /-- PTP_PDELAY_REQ (R393): In the power utility profile the device answers a Pdelay_Req, two-step. -/
  | ptpPdelayReq
  /-- PTP_DELAY_REQ_SEND (R393): In the default profile the device sends a Delay_Req to measure path delay. -/
  | ptpDelayReqSend
  /-- PTP_ANNOUNCE_TIMEOUT (R395): The announce receipt timeout expires, so the master is lost and holdover starts. -/
  | ptpAnnounceTimeout
  /-- PTP_SYNC_TIMEOUT (R395): No Sync arrives within 3 intervals, so the master is lost and holdover starts. -/
  | ptpSyncTimeout
  /-- PTP_PORT_RESTART (R393): A write of PTP_PROFILE or PTP_DOMAIN restarts the PTP port, entering holdover if locked. -/
  | ptpPortRestart (client : Nat) (dom : Bool) (val : Nat)
  /-- TIME_RESTEP (R399): A write of 1 makes a re-step pending for the next lock. -/
  | timeRestep (client : Nat)
  /-- PPS_IN_EDGE (R400): A PPS_IN edge is timestamped and corrects the clock's fraction of a second, or is checked. -/
  | ppsInEdge (rising : Bool)
  /-- PPS_IN_LOSS (R400): No PPS_IN edge arrives within 1.1 s, and PPS_IN is lost. -/
  | ppsInLoss
  /-- PPS_OUT_ASSERT (R402): At each second boundary plus PPS_OUT_DELAY, PPS_OUT asserts if its mode allows. -/
  | ppsOutAssert
  /-- PPS_OUT_END (R402): PPS_OUT falls after PPS_OUT_WIDTH ms. -/
  | ppsOutEnd
  /-- FLIT_CRC_FAIL (R406): A flit fails its CRC, and the receiver sends a NAK. -/
  | flitCrcFail (port seq : Nat)
  /-- NAK (R406): A received NAK replays the failed flit and later flits, and many NAKs in 1 ms start a retrain. -/
  | nak (port seq : Nat)
  /-- CONTRIB (R413): A received CONTRIB flit is accepted if its frame matches and it is in time, and is forwarded with TTL decremented. -/
  | contrib (port seq : Nat) (words : List Nat)
  /-- HELLO (R408): A HELLO flit decides whether the ring or mirror link joins. -/
  | hello (port : Nat) (words : List Nat)
  /-- FORM (R408): A FORM flit updates the known ring membership. -/
  | form (port seq : Nat) (members : List (Nat × Nat))
  /-- FORM_ROUND (R408): Every 1 ms the device sends FORM flits, and the ring forms or is refused after three stable rounds. -/
  | formRound
  /-- BARRIER (R259): A BARRIER flit reports WAITING to the leader, or gives a member the leader's e0 and K. -/
  | barrier (port seq kind half pos size k path at0 : Nat)
  /-- BARRIER_TIMEOUT (R496): No arming edge is taken within BARRIER_TIMEOUT, so the barrier fails and arming ends. -/
  | barrierTimeout
  /-- SYNC (R261): A SYNC flit lets the device measure a neighbour's frame-boundary offset. -/
  | sync (port seq frame at16 : Nat)
  /-- MIRROR_STATUS (R420): A partner's MIRROR_STATUS flit records the partner's presence for the frame. -/
  | mirrorStatus (seq frame role active : Nat)
  /-- MIRROR_VERDICT (R421): A partner's MIRROR_VERDICT flit is compared with the device's own verdict under Table 17.5. -/
  | mirrorVerdict (seq frame word fp : Nat)
  /-- MIRROR_DICT (R424): A MIRROR_DICT flit applies a forwarded setting on the secondary at its effect frame. -/
  | mirrorDict (seq kind key val frame : Nat) (members : List Nat)
  /-- WAKE_COMB (R461): A WAKE_COMB flit acts as a wake and is propagated. -/
  | wakeComb (port seq : Nat)
  /-- RESERVED_FLIT (R405): A flit of a reserved type is discarded and counted in RING_LOST_FLITS. -/
  | reservedFlit (port ty : Nat)
  /-- LINK_TRAINED (R404): A ring or mirror link completes training and FEC alignment and exchanges HELLO. -/
  | linkTrained (port lat : Nat)
  /-- FEC_ALIGNMENT_LOSS (R407): A ring or mirror link loses FEC alignment and retrains as class T. -/
  | fecAlignmentLoss (port : Nat)
  /-- LINK_TRAIN_TIMEOUT (R407): A link training attempt exceeds 10 ms and fails, and a fourth attempt retires the link. -/
  | linkTrainTimeout (port : Nat)
  /-- RING_REINSTATE (R407): A host write returns retired ring or mirror links to training. -/
  | ringReinstate (client mask : Nat)
  /-- FAULT_REPORT (R430): The fault collector receives a fault or event, records it and starts its class reaction. -/
  | faultReport (code a0 a1 : Nat)
  /-- RESTART_PHASE_DONE (R435): A phase of the job restart completes, and the next phase begins. -/
  | restartPhaseDone (data : List (Nat × List Nat))
  /-- RESTART_TIMEOUT (R439): A job restart that has not rejoined within 250 ms fails as a class D fault. -/
  | restartTimeout
  /-- FAULT_CLEAR (R440): A host write of 1 clears a class D fault and runs a job restart. -/
  | faultClear (client : Nat)
  /-- QUIET_PERIOD_EXPIRY (R442): With all reactions complete and no enabled fault for QUIET_PERIOD, faults clear and FAULT_N releases. -/
  | quietPeriodExpiry
  /-- MP_WATCHDOG_EXPIRY (R446): The MP watchdog expires, the MP reboots, and a third expiry in 10 s is class D. -/
  | mpWatchdogExpiry
  /-- POWER_REQUEST (R453): A write names a target power state, starting an entry's prepare or an exit, or going pending. -/
  | powerRequest (client target : Nat)
  /-- PREPARE_DONE (R454): Every block has voted to accept, so prepare ends and the commit begins. -/
  | prepareDone
  /-- PREPARE_TIMEOUT (R454): Not every block answers within 50 µs, and the request ends REFUSED. -/
  | prepareTimeout (block : Nat)
  /-- POWER_TRANSITION_DONE (R456): A power transition completes, and any pending request runs. -/
  | powerTransitionDone
  /-- LANE_SIGNAL_DETECT (R458): Signal present for 100 µs on a front-end lane or link lane that had none acts as a wake. -/
  | laneSignalDetect (which : Nat)
  /-- WAKE_COMB_BURSTS (R458): Sixteen 1 µs bursts on lane 0 of a down ring link act as a wake. -/
  | wakeCombBursts (port : Nat)
  /-- CLKREQ_N_ASSERT (R458): In SLEEP, CLKREQ_N asserted by the root port acts as a wake. -/
  | clkreqNAssert
  /-- CANOPY_POWER_SAMPLE (R464): Every 10 µs the canopy samples power and current, counts the peak budget and updates causes. -/
  | canopyPowerSample (p i : Nat)
  /-- CANOPY_THERMAL_SAMPLE (R463): Every 1 ms the canopy samples junctions, coolant and flow, and updates causes. -/
  | canopyThermalSample (js : List Int) (inlet outlet : Int) (flow : Nat)
  /-- CANOPY_ESCALATE (R465): While a cause is present, the canopy raises its shedding stage at once and after each further interval. -/
  | canopyEscalate
  /-- CANOPY_RELEASE_EXPIRY (R466): After CANOPY_RELEASE with no cause, the canopy lowers its stage by one. -/
  | canopyReleaseExpiry
  /-- CANOPY_STAGE3_REPORT (R467): Once per second while stage 3 is due without a fallback, the canopy reports 0x04C1. -/
  | canopyStage3Report
  /-- OWNER_KEY_PROVISION (R475): A host write fuses an owner public key into the lowest empty slot. -/
  | ownerKeyProvision (client key : Nat)
  /-- OWNER_KEY_REVOKE (R475): A host write fuses the revocation of an owner key slot. -/
  | ownerKeyRevoke (client slot : Nat)
  /-- SVN_ADVANCE (R479): A host write fuses a new SVN_FUSED value. -/
  | svnAdvance (client svn : Nat)
  /-- QUOTE_COMMAND (R485): A write of 1 snapshots the measurement registers and starts building a signed quote. -/
  | quoteCommand (client : Nat)
  /-- QUOTE_READY (R485): The signed quote is complete, and QUOTE_STATE reads 2. -/
  | quoteReady
  /-- FIRMWARE_EXTEND (R483): The MP extends MR3 with a firmware event, event 15. -/
  | firmwareExtend (digest : List Nat)
  /-- MP_BOOT (R478): At an MP boot the ROM reads and verifies the flash image through the checks of Table 20.2. -/
  | mpBoot
  /-- BOOT_VERIFY_DONE (R478): Verification ends: the image runs, or the ROM enters RECOVERY_WAIT. -/
  | bootVerifyDone (err : Bool)
  /-- REBOOT_TO_RECOVERY (R481): RECOVERY_COMMAND 1 reboots the MP into RECOVERY_WAIT. -/
  | rebootToRecovery (client : Nat) (toFlash : Bool)
  /-- VERIFY_HOST_IMAGE (R481): RECOVERY_COMMAND 2 verifies an image at RECOVERY_ADDR in host memory. -/
  | verifyHostImage (client : Nat) (toFlash : Bool) (image : List Nat)
  /-- VERIFY_STAGED_IMAGE (R481): RECOVERY_COMMAND 3 verifies the image staged through RECOVERY_CHUNK. -/
  | verifyStagedImage (client : Nat) (toFlash : Bool)
  /-- RECOVERY_CHUNK (R482): A write stages 1,024 bytes at RECOVERY_OFFSET, which then advances. -/
  | recoveryChunk (client : Nat) (chunk : List Nat)
  /-- RECOVERY_IMAGE_DONE (R481): Verification, and any flash write and read-back, of a recovery image completes, and the image boots or RECOVERY_STATUS reports a failure. -/
  | recoveryImageDone (ok : Bool)
  /-- POR_N_ASSERT (R488): An assertion of POR_N resets the whole device. -/
  | porNAssert
  /-- POR_N_RELEASE (R489): POR_N released starts the understorey step: straps sampled, FAULT_N low, clock started. -/
  | porNRelease (safe0 safe1 : Bool)
  /-- START_STEP_DONE (R489): A start-up step completes and the next begins: hub up, coolant hold, dies up or READY. -/
  | startStepDone
  /-- COOLANT_HOLD_REPORT (R490): Every 10 s during COOLANT_HOLD the device writes a 0x04C1 event record. -/
  | coolantHoldReport
  /-- STORE_INIT (R493): A write of 1 initialises all PSRAM dies and the capture-store regions. -/
  | storeInit (client : Nat)
  /-- STORE_INIT_DONE (R494): Initialisation ends, and STORE_STATE becomes READY or FAILED. -/
  | storeInitDone (failed : Nat)
  /-- ARM (R495): ARM_COMMAND 1 requests arming after checking Table 21.3, and ARRAY_STATE becomes ARMING. -/
  | arm (client : Nat)
  /-- STOP (R497): ARM_COMMAND 2 requests a stop at the next growth ring. -/
  | stop (client : Nat)
  /-- RAIL_SAMPLE (R507): Every 1 ms the understorey reports each rail's voltage and current. -/
  | railSample (volts amps : List Nat)
  /-- RAIL_FAULT (R507): A rail outside its tolerance for 10 µs resets the device as POR_N does. -/
  | railFault
  /-- TEST_EN_RISE (R462): TEST_EN rising saves the dictionary settings, and the lines follow VLINE_TEST_DRIVE. -/
  | testEnRise
  /-- TEST_EN_FALL (R462): TEST_EN falling restores the saved settings before any block restarts. -/
  | testEnFall
  /-- SAMPLE_TICK (R90): At each sample tick's release instant the port dies release the tick on every channel. They unpack and condition it, run the comparators and TDC crossing, write it to the history ring and the fingerprint, and form input-slot tokens for the edge cores. -/
  | sampleTick (samples : List (Nat × Nat)) (margins : List (Nat × Nat))
  /-- HOST_COPY_READ_TIMEOUT (R439): In restart phase 3, a read of a retired core's weight rows from the host copy that fails or exceeds 50 µs is a class T fault and is made again. The third failure for one core is restart failure reason 3. -/
  | hostCopyReadTimeout
  /-- PTP_PDELAY_REQ_SEND (R393): In the power utility profile the device sends Pdelay_Req to measure peer delay for PTP_PATH_DELAY. -/
  | ptpPdelayReqSend
  /-- NPP_DATAGRAM_DISCARD (R382): A datagram to NPP_PORT that is too short, has a wrong MAGIC or VERSION, or carries an unknown OP gets no reply and is counted in NPP_ERRORS. -/
  | nppDatagramDiscard
  /-- RING_CONTROL_WRITE (R353): A host write to RING_BASE, RING_ENTRIES, the IRQ fields of RING_CTRL or CONSUMER_BLOCK stores the value. A write to RING_BASE or RING_ENTRIES while the ring is enabled is ignored. -/
  | ringControlWrite (offset width val : Nat)
deriving DecidableEq, Repr

end Sys2Proof
end

