-- ==== Sys2Proof/WellFormed.lean ====
section
/-! DEFINITION. When a command names only what the part has: ports, lanes, cores, clients, field widths. -/

namespace Sys2Proof

/-- Payload and read request sizes that the port supports (Table 14.1). -/
def cfgOk (c : HostCfg) : Bool := [128, 256, 512].contains c.payload && [128, 256, 512, 1024, 2048, 4096].contains c.readReq

/-- A core key names a physical array core (x * 256 + y, x < 200, y < 128) or a review core (65536 on). -/
def coreKey (key : Nat) : Bool := decide (key / 256 < 200 ∧ key % 256 < 128) || decide (65536 ≤ key ∧ key < 65536 + 512)

/-- Numbers that fit 64 bits, and bytes. -/
def words64 (ws : List Nat) : Bool := ws.all (fun w => decide (w < 2 ^ 64))
def bytes8 (bs : List Nat) : Bool := bs.all (fun b => decide (b < 256))

/-- A host copy of the objects of some slots: slot, its words (R227). -/
def hostCopy (data : List (Nat × List Nat)) : Bool := data.all (fun p => decide (p.1 < 4) && words64 p.2)

/-- Codes of Table 18.3. -/
def faultCodes : List Nat :=
  [0x2041, 0x3042, 0x1043, 0x2043, 0x1081, 0x1101, 0x10C1, 0x30C2, 0x40C3, 0x1141, 0x2142, 0x0143, 0x0181, 0x1182, 0x1183, 0x0184,
   0x0185, 0x11C1, 0x21C2, 0x0201, 0x0202, 0x0203, 0x0241, 0x1281, 0x2282, 0x0283, 0x12C1, 0x1301, 0x1302, 0x0303, 0x0304, 0x0341,
   0x0381, 0x13C1, 0x23C2, 0x1401, 0x1402, 0x2403, 0x0404, 0x0441, 0x0442, 0x0443, 0x0444, 0x0445, 0x0481, 0x0482, 0x0483, 0x0484,
   0x0485, 0x04C1, 0x44C2, 0x04C3, 0x1501, 0x4502, 0x1503, 0x0541, 0x4542]

/-- An entry with access code RWG (Table 15.5). -/
def memberAt (idx sub : Nat) : Bool :=
  decide ((0x2600 ≤ idx ∧ idx < 0x2640 ∧ 1 ≤ sub ∧ sub ≤ 9) ∨ (0x2410 ≤ idx ∧ idx < 0x2440 ∧ 1 ≤ sub ∧ sub ≤ 128)
    ∨ (0x2810 ≤ idx ∧ idx < 0x2850 ∧ 1 ≤ sub ∧ sub ≤ 10) ∨ (0x2C10 ≤ idx ∧ idx < 0x2C20 ∧ 1 ≤ sub ∧ sub ≤ 4))

/-- Bytes of the items of an NPP WRITE: 8 and the value, padded to 4 (Table 15.10). -/
def writeItemBytes (items : List (Nat × Nat × List Nat)) : Nat :=
  (items.map (fun i => 8 + (i.2.2.length + 3) / 4 * 4)).foldl (· + ·) 0

/-- The items of an NPP WRITE name an index and a subindex, and fit one datagram (R382). -/
def writeItems (items : List (Nat × Nat × List Nat)) : Bool :=
  items.all (fun i => decide (i.1 < 65536 ∧ i.2.1 < 256) && bytes8 i.2.2) && decide (16 + writeItemBytes items ≤ 1472)

/-- The items of an NPP READ, likewise. -/
def readItems (items : List (Nat × Nat)) : Bool :=
  items.all (fun i => decide (i.1 < 65536 ∧ i.2 < 256)) && decide (16 + 4 * items.length ≤ 1472)

/-- A command names only what the part has. -/
def Instr.wf : Instr → Bool
  | .dictWrite client idx sub len val => decide (client < 10 ∧ idx < 65536 ∧ sub < 256 ∧ len ≤ 1464 ∧ val < 2 ^ (8 * len)) && (decide (client ≠ 0) || [1, 2, 4, 8].contains len)
  | .dictCutoff => true
  | .frameBoundary => true
  | .growthRing phi misaligned => phi.all (fun x => decide (-32768 ≤ x ∧ x < 32768)) && misaligned.all (fun l => decide (l < 256))
  | .growthRingAtCore core => coreKey core && decide (core < 65536)
  | .sysrefEdge port _ margin => decide (port < 16 ∧ -128 ≤ margin ∧ margin < 128)
  | .clockRelockDone => true
  | .presentNFall port => decide (port < 16)
  | .discoveryDebounceDone port desc => decide (port < 16) && decide (desc = [] ∨ desc.length = 256) && desc.all (fun b => decide (b < 256))
  | .laneLockDone port _ _ => decide (port < 16)
  | .discoveryTimeout port => decide (port < 16)
  | .presentNRise port => decide (port < 16)
  | .ibi port byte => decide (port < 16 ∧ byte < 256)
  | .portReinstate client port => decide (client < 10 ∧ port < 16)
  | .laneCodeError lane unit => decide (lane < 64 ∧ unit < 2 ^ 64)
  | .laneSyncLoss lane => decide (lane < 64)
  | .cdrLossOfLock lane => decide (lane < 64)
  | .releaseMarginViolation lane margin => decide (lane < 64 ∧ (margin < 4 ∨ 480 < margin) ∧ -32768 ≤ margin ∧ margin < 32767)
  | .retrainTimeout port => decide (port < 16)
  | .retrainEpisodeEnd lane => decide (lane < 64)
  | .marginUpdate lane h w => decide (lane < 64 ∧ h < 65536 ∧ w < 256)
  | .adaptUpdate lane delta => decide (lane < 64 ∧ -64 ≤ delta ∧ delta ≤ 64)
  | .adaptHold client lane val => decide (client < 10 ∧ lane < 128 ∧ val < 256)
  | .prbsMode client lane val => decide (client < 10 ∧ lane < 128 ∧ val < 256)
  | .injectRate client lane val => decide (client < 10 ∧ lane < 128 ∧ val < 256)
  | .tdcCalTable die => decide (die < 2)
  | .edgeInput k _ _ => decide (k < 32)
  | .condParityError ch kind => decide (ch < 1024 ∧ kind < 2)
  | .tokenAdmit core => coreKey core
  | .nop core _ => coreKey core
  | .lutmac core _ => coreKey core
  | .omac core _ => coreKey core
  | .zcorr core _ => coreKey core
  | .bclose core _ => coreKey core
  | .rescale core _ => coreKey core
  | .actlut core _ => coreKey core
  | .stateRead core _ => coreKey core
  | .stateWrite core _ => coreKey core
  | .send core _ => coreKey core
  | .recv core _ => coreKey core
  | .reduce core _ => coreKey core
  | .cmp core _ => coreKey core
  | .sel core _ => coreKey core
  | .maxp core _ => coreKey core
  | .movRegisterRun core _ => coreKey core
  | .movImmediate core _ => coreKey core
  | .movClearAccumulators core _ => coreKey core
  | .ldw core _ => coreKey core
  | .waitCount core _ => coreKey core
  | .waitTokenPresent core _ => coreKey core
  | .waitGrowthRing core _ => coreKey core
  | .ring core _ => coreKey core
  | .fireWatchdogExpiry core => coreKey core
  | .scrubberPass core ups => coreKey core && ups.all (fun u => decide (u.mem < 3 ∧ u.word < 4096))
  | .rideHop core dir _ => coreKey core && decide (core < 65536 ∧ dir < 4)
  | .fbDepart core => coreKey core && decide (core < 65536)
  | .fbIngress bad => bad.all (fun l => decide (l < 256))
  | .fbSlotTimeout core => coreKey core && decide (core < 65536)
  | .dieLinkRealignTimeout link => decide (link < 256)
  | .verdictToken => true
  | .verdictClose => true
  | .contribSend => true
  | .ringWriteArrival => true
  | .ringDeadline => true
  | .mirrorVerdictSend => true
  | .mirrorAloneCheck => true
  | .verdictIssue => true
  | .vlinePulseEnd line => decide (line < 32)
  | .vlineUnlatch client mask => decide (client < 10 ∧ mask < 2 ^ 32)
  | .conditionVectorEval => true
  | .patAutoExpiry p => decide (p < 64)
  | .triggerRecord => true
  | .copyUnit half => decide (half < 2)
  | .copyTruncate half => decide (half < 2)
  | .psramTransactionDone die _ => decide (die < 32)
  | .psramTimeout page => decide (page < 32768)
  | .captureRelease client handle => decide (client < 10 ∧ handle < 2 ^ 32)
  | .streamSegment seg => decide (seg.ch < 16)
  | .streamOverrun ch => decide (ch < 16)
  | .descProducer client ch val => decide (client < 10 ∧ ch < 16 ∧ val < 2 ^ 32)
  | .descFetchTimeout ch => decide (ch < 16)
  | .descCopy ch desc moved => decide (ch < 16 ∧ desc.length = 8 ∧ moved < 2 ^ 64) && desc.all (fun w => decide (w < 2 ^ 64))
  | .descCopyRelease ch desc moved => decide (ch < 16 ∧ desc.length = 8 ∧ moved < 2 ^ 64) && desc.all (fun w => decide (w < 2 ^ 64))
  | .descRelease ch desc => decide (ch < 16 ∧ desc.length = 8) && desc.all (fun w => decide (w < 2 ^ 64))
  | .transferDone ch => decide (ch < 16)
  | .channelStart client ch => decide (client < 10 ∧ ch < 16)
  | .channelAbort client ch => decide (client < 10 ∧ ch < 16)
  | .channelAbortDone ch => decide (ch < 16)
  | .reviewDispatch cluster => decide (cluster < 2)
  | .reviewJobAged cluster => decide (cluster < 2)
  | .reviewInputReadDone cluster => decide (cluster < 2)
  | .reviewPassStart cluster => decide (cluster < 2)
  | .reviewPassEnd cluster _ => decide (cluster < 2)
  | .reviewJobEnd cluster _ => decide (cluster < 2)
  | .encStart client => decide (client < 10)
  | .encBlockStaged words => decide (words.length = 140) && words.all (fun w => decide (w < 2 ^ 64))
  | .encReadTimeout => true
  | .encCommit client => decide (client < 10)
  | .encAbandon client => decide (client < 10)
  | .encRetire => true
  | .clipCountMerge => true
  | .load client => decide (client < 10)
  | .unload client => decide (client < 10)
  | .loadCheck client => decide (client < 10)
  | .loadPhaseDone data => words64 data
  | .loadReadTimeout => true
  | .retireCore client x y => decide (client < 10 ∧ x < 256 ∧ y < 256)
  | .contextSwitch client frame slot => decide (client < 10 ∧ frame < 2 ^ 56 ∧ slot < 4)
  | .slotDrained slot => decide (slot < 4)
  | .fallbackEnable client val => decide (client < 10 ∧ val < 256)
  | .pause client frame => decide (client < 10 ∧ frame < 2 ^ 56)
  | .resume client frame => decide (client < 10 ∧ frame < 2 ^ 56)
  | .resumeNoRestore client frame => decide (client < 10 ∧ frame < 2 ^ 56)
  | .saveImageWritten => true
  | .restoreDone => true
  | .auditTimeout r => decide (r = 1 ∨ r = 2 ∨ r = 4)
  | .recordWrite r => decide (r < 5 ∨ (16 ≤ r ∧ r < 32))
  | .ciFetch => true
  | .ciFetchDone words => decide (words.length = 32) && words.all (fun w => decide (w < 2 ^ 64))
  | .ciFetchTimeout => true
  | .msixDelayExpiry r => decide (r < 5 ∨ (16 ≤ r ∧ r < 32))
  | .ringEnable r ctrl => decide ((r < 5 ∨ (16 ≤ r ∧ r < 32)) ∧ ctrl < 2 ^ 32 ∧ ctrl % 2 = 1)
  | .ringDisable r ctrl => decide ((r < 5 ∨ (16 ≤ r ∧ r < 32)) ∧ ctrl < 2 ^ 32 ∧ ctrl % 2 = 0)
  | .hostWindowWrite offset width val => decide ((offset < 0x2000 ∨ 0x2808 ≤ offset) ∧ offset < 0x100000 ∧ (width = 8 ∨ width = 16 ∨ width = 32 ∨ width = 64) ∧ val < 2 ^ width)
  | .functionLevelReset => true
  | .perstNAssert => true
  | .perstNRelease => true
  | .linkDown => true
  | .hostLinkUp rate width conf => decide (1 ≤ rate ∧ rate ≤ 6) && [1, 2, 4, 8, 16].contains width && cfgOk conf.cfg
  | .groupMemberWrite client idx sub val => decide (client < 10) && memberAt idx sub && decide (val < 2 ^ 2048)
  | .groupCommit client gid => decide (client < 10 ∧ gid < 2 ^ 32)
  | .groupCommitAll client => decide (client < 10)
  | .groupDiscard client gid => decide (client < 10 ∧ gid < 0xFFFFFFFF)
  | .groupDiscardAll client => decide (client < 10)
  | .bulkRead idx sub => decide (idx < 65536 ∧ sub < 256)
  | .bulkWrite idx sub data => decide (idx < 65536 ∧ sub < 256 ∧ data.length ≤ 1024) && bytes8 data
  | .nppOpen seq => decide (seq < 2 ^ 32)
  | .nppClose session seq => decide (session < 2 ^ 32 ∧ seq < 2 ^ 32)
  | .nppRead session seq body => decide (session < 2 ^ 32 ∧ seq < 2 ^ 32 ∧ body.count < 65536) && readItems body.items
  | .nppWrite session seq body => decide (session < 2 ^ 32 ∧ seq < 2 ^ 32 ∧ body.count < 65536) && writeItems body.items
  | .nppCommit session seq gid => decide (session < 2 ^ 32 ∧ seq < 2 ^ 32 ∧ gid < 2 ^ 32)
  | .nppDiscard session seq gid => decide (session < 2 ^ 32 ∧ seq < 2 ^ 32 ∧ gid < 2 ^ 32)
  | .nppKeepalive session seq => decide (session < 2 ^ 32 ∧ seq < 2 ^ 32)
  | .nppWake serial => decide (serial < 2 ^ 128)
  | .nppSessionExpiry session => decide (session < 8)
  | .nppPort client port => decide (client < 10 ∧ port < 65536)
  | .ptpAnnounce domain ident _ _ => decide (domain < 128 ∧ ident < 2 ^ 64)
  | .ptpSync domain ident _ _ => decide (domain < 128 ∧ ident < 2 ^ 64)
  | .ptpPdelayReq => true
  | .ptpDelayReqSend => true
  | .ptpAnnounceTimeout => true
  | .ptpSyncTimeout => true
  | .ptpPortRestart client _ val => decide (client < 10 ∧ val < 256)
  | .timeRestep client => decide (client < 10)
  | .ppsInEdge _ => true
  | .ppsInLoss => true
  | .ppsOutAssert => true
  | .ppsOutEnd => true
  | .flitCrcFail port seq => decide (port < 3 ∧ seq < 4096)
  | .nak port seq => decide (port < 3 ∧ seq < 4096)
  | .contrib port seq words => decide (port < 2 ∧ seq < 4096 ∧ words.length = 5) && words.all (fun w => decide (w < 2 ^ 64))
  | .hello port words => decide (port < 3 ∧ words.length = 6)
  | .form port seq members => decide (port < 2 ∧ seq < 4096 ∧ members.length ≤ 33)
  | .formRound => true
  | .barrier port seq kind half pos size k _ _ => decide (port < 3 ∧ seq < 4096 ∧ kind < 2 ∧ half < 6 ∧ pos < 32 ∧ size ≤ 32 ∧ k < 65536)
  | .barrierTimeout => true
  | .sync port seq frame _ => decide (port < 3 ∧ seq < 4096 ∧ frame < 2 ^ 64)
  | .mirrorStatus seq frame role active => decide (seq < 4096 ∧ frame < 2 ^ 24 ∧ role < 3 ∧ active < 2)
  | .mirrorVerdict seq frame word fp => decide (seq < 4096 ∧ frame < 2 ^ 24 ∧ word < 2 ^ 64 ∧ fp < 2 ^ 128)
  | .mirrorDict seq kind key _ frame _ => decide (seq < 4096 ∧ kind < 4 ∧ key < 2 ^ 32 ∧ frame < 2 ^ 64)
  | .wakeComb port seq => decide (port < 2 ∧ seq < 4096)
  | .reservedFlit port ty => decide (port < 3 ∧ 11 ≤ ty ∧ ty < 16)
  | .linkTrained port lat => decide (port < 3 ∧ lat < 65536)
  | .fecAlignmentLoss port => decide (port < 3)
  | .linkTrainTimeout port => decide (port < 3)
  | .ringReinstate client mask => decide (client < 10 ∧ mask < 256)
  | .faultReport code a0 a1 => decide (a0 < 2 ^ 64 ∧ a1 < 2 ^ 64) && faultCodes.contains code
  | .restartPhaseDone data => hostCopy data
  | .restartTimeout => true
  | .faultClear client => decide (client < 10)
  | .quietPeriodExpiry => true
  | .mpWatchdogExpiry => true
  | .powerRequest client target => decide (client < 10 ∧ target < 256)
  | .prepareDone => true
  | .prepareTimeout block => [15, 14, 13, 11, 10, 8, 16, 12, 20].contains block
  | .powerTransitionDone => true
  | .laneSignalDetect which => decide (which < 67)
  | .wakeCombBursts port => decide (port < 2)
  | .clkreqNAssert => true
  | .canopyPowerSample p i => decide (p < 65536 ∧ i < 65536)
  | .canopyThermalSample js inlet outlet flow => decide (js.length = 100 ∧ -32768 ≤ inlet ∧ inlet < 32768 ∧ -32768 ≤ outlet ∧ outlet < 32768 ∧ flow < 65536) && js.all (fun j => decide (-32768 ≤ j ∧ j < 32768))
  | .canopyEscalate => true
  | .canopyReleaseExpiry => true
  | .canopyStage3Report => true
  | .ownerKeyProvision client key => decide (client < 10 ∧ key < 2 ^ 512)
  | .ownerKeyRevoke client slot => decide (client < 10 ∧ slot < 256)
  | .svnAdvance client svn => decide (client < 10 ∧ svn < 256)
  | .quoteCommand client => decide (client < 10)
  | .quoteReady => true
  | .firmwareExtend digest => decide (digest.length = 32) && bytes8 digest
  | .mpBoot => true
  | .bootVerifyDone _ => true
  | .rebootToRecovery client _ => decide (client < 10)
  | .verifyHostImage client _ image => decide (client < 10) && bytes8 image
  | .verifyStagedImage client _ => decide (client < 10)
  | .recoveryChunk client chunk => decide (client < 10 ∧ chunk.length = 1024) && bytes8 chunk
  | .recoveryImageDone _ => true
  | .porNAssert => true
  | .porNRelease _ _ => true
  | .startStepDone => true
  | .coolantHoldReport => true
  | .storeInit client => decide (client < 10)
  | .storeInitDone failed => decide (failed < 2 ^ 32)
  | .arm client => decide (client < 10)
  | .stop client => decide (client < 10)
  | .railSample volts amps => decide (volts.length = 9 ∧ amps.length = 9) && (volts ++ amps).all (fun v => decide (v < 65536))
  | .railFault => true
  | .testEnRise => true
  | .testEnFall => true
  | .sampleTick samples margins => samples.all (fun x => decide (x.1 < 1024 ∧ x.2 < 65536)) && margins.all (fun m => decide (m.1 < 64 ∧ 4 ≤ m.2 ∧ m.2 ≤ 480))
  | .hostCopyReadTimeout => true
  | .ptpPdelayReqSend => true
  | .nppDatagramDiscard => true
  | .ringControlWrite offset width val => decide (0x2000 ≤ offset ∧ offset < 0x2808 ∧ (width = 8 ∨ width = 16 ∨ width = 32 ∨ width = 64) ∧ val < 2 ^ width)

end Sys2Proof
end

