-- ==== Sys2Proof/Config.lean ====
section
/-! DEFINITION. The values the spec leaves open, as constants with no body: nothing in Lean can evaluate them, so
whatever is proved holds for every value of them. -/

namespace Sys2Proof

/-- A value the spec leaves undefined (R15, R447), drawn afresh for each number: `State.freeCtr` counts the draws.
DESIGN CHOICE (log entry 1): one family of free values for every undefined result. -/
opaque Config.freeWord : Nat → BitVec 64

/-- What the device logs of a fault while an undefined use is in force (R15): free value, of the ac and the code (log entry 131). -/
opaque Config.freeReport : Nat → BitVec 64

/-- Output value k of a review network in ordered mode, of its pass table, the words of its pages and the samples of its input: the page
format is not given, so the function is free, and it is one function (R252, R341; log entry 132). -/
opaque Config.reviewOut : List (List Nat) → List Nat → List Nat → Nat → BitVec 16

/-- The same in fast mode for a job in which no sum met a saturation before its last addition: its sums are exact, whatever order their
operands came in (R340; log entry 132). -/
opaque Config.reviewExact : List (List Nat) → List Nat → List Nat → Nat → BitVec 16

/-- The same in fast mode otherwise: the order of arrival enters, which the job's handle and trigger stand for. It is one for each job,
however often that is requeued, and no other job enters it (R341; log entry 132). -/
opaque Config.reviewFast : List (List Nat) → List Nat → List Nat → Nat → Nat → Nat → BitVec 16

/-- The instruction words that the words of a network's code pages hold (R329, R330): the page format is not given (log entry 132). -/
opaque Config.reviewCode : List Nat → List Nat

/-- The private identity key, which no path reads out (R476), and the random number that the security unit draws for the SM2 signature of a
quote, by the quote's digest (R473, R485). Free values (log entry 2). -/
opaque Config.identityKey : BitVec 256
opaque Config.quoteNonce : Nat → BitVec 256

/-- What one device carries from manufacture and no rule states a value for (R8, R474, R476, R477, R483): serial number, the boot
ROM's two Vuwald keys and its digest, the certificates, the image in the boot flash. Constants of the device (log entry 9). -/
opaque Config.serial : BitVec 128
opaque Config.romKey : Nat → BitVec 512
opaque Config.romDigest : BitVec 256
opaque Config.deviceCert : BitVec 128 → BitVec 256 → BitVec 8192
opaque Config.deviceCertBytes : BitVec 16
opaque Config.caCert : BitVec 8192
opaque Config.caCertBytes : BitVec 16
opaque Config.bootFlash : List Nat

end Sys2Proof
end

