-- ==== Sys2Proof/Machine/State.lean ====
section
/-! DEFINITION. The state of the MV-6400 as plain data: everything the spec gives the block, and the queue of
commands that wait. Dictionary entries that hold a value live in one table (`Dev.dict`), under index * 256 + subindex;
the structures here hold what lies behind them. -/

namespace Sys2Proof.Machine

/-- Why the machine stops with a fault. The spec gives every event of the block an effect, so one reason is left. -/
inductive Fault where
  /-- Raised by no meaning of the model: the spec describes a reaction for every fault of the part (Table 18.3), and
  those reactions are next states. Safe: nothing ends in it. -/
  | none
deriving DecidableEq, Repr

/-- Why a command gets no meaning. -/
inductive Refusal where
  /-- Answered by an arm of `exec` whose command has no meaning yet. Safe: no state follows. -/
  | notModelled (mnemonic : String)
  /-- Answered by a meaning whose command names something the part does not have (port 16, lane 64, a byte of
  300): `Instr.wf` is false of it, so it is no command of the part. Safe: no state follows. -/
  | malformed
deriving DecidableEq, Repr

/-- What the spec fixes for one device at manufacture and what is fused into it (R5, R6, R8, R475, R479, R482). -/
structure Fuses where
  grade : Nat
  stepping : Nat
  serial : Nat
  /-- G20: bit c of entry die = column c of that array die is enabled (R6). Unlisted: columns 0 to 19. -/
  g20cols : Tab Nat
  /-- Physical cores windthrown at manufacture, px * 256 + py (R216). -/
  windthrow : List Nat
  /-- Owner-key slots: the 64-byte public key as one big-endian number, `none` while empty (R475). -/
  ownerKeys : Tab (Option Nat)
  /-- Revoked slots, one bit each (R475). -/
  revoked : Nat
  /-- The fused minimum security version (R479). -/
  svn : Nat
  /-- The Vuwald public keys in the boot ROM, 64 bytes each as one big-endian number, index 0 and 1; key 0 revoked; the
  SM3 digest of the ROM (R474, R483). -/
  romKeys : List Nat
  rom0Revoked : Bool
  romDigest : Nat
  /-- The private identity key (R476). -/
  identity : Nat
  /-- The device certificate and its issuer's: bytes, least significant first, and lengths (R476). -/
  cert : Nat
  certBytes : Nat
  caCert : Nat
  caBytes : Nat
deriving DecidableEq, Repr

/-- The frame grid and the events of it that are still to come (R30, R37, R41, R274, R371, R412, R415). -/
structure Grid where
  /-- ac of the arming SYSREF edge. -/
  edge : Nat
  /-- ac of B_0. -/
  b0 : Nat
  /-- ac at which the arming request was accepted. -/
  reqAt : Nat
  /-- A stop request that waits for its growth ring (R497). -/
  stopReq : Bool
  /-- Frame s of the stop that ended the grid, until the next arming edge. -/
  endF : Option Nat
  /-- Lowest frame whose boundary, cut-off, growth ring, contribution, close, deadline and issue are still to come. -/
  nextB : Nat
  nextC : Nat
  nextT : Nat
  nextSend : Nat
  nextClose : Nat
  nextDead : Nat
  nextIssue : Nat
  /-- The same for the checks of MIRROR_ALONE and the sending of MIRROR_VERDICT. -/
  nextAlone : Nat
  nextMv : Nat
  /-- Frame whose fingerprint is complete, and the ac from which it shows, 64 ac after its end (R265). -/
  fpNext : Option (Nat × Nat)
deriving DecidableEq, Repr

/-- The array PLL and the SYSREF monitor (R33 to R38). -/
structure Pll where
  /-- Offset of each port's reference clock from nominal, in ppm, as measured (R34); set by the front end's answer. -/
  ppm : Tab Int
  /-- TDC tables built and not yet applied: bit 0 West, bit 1 East (R96). -/
  calDue : Nat
  /-- The last SYSREF edge on the clock-reference port. -/
  lastEdge : Option Nat
  /-- Offset of the frequency that the PLL follows or holds, in ppm (R33 to R35). -/
  off : Int
deriving DecidableEq, Repr

/-- A front-end port beside its entries (R61, R62, R67 to R70). -/
structure Port where
  /-- PRESENT_N pin; the reset level is high. -/
  presentN : Bool
  /-- ac from which step 1 of Table 3.3 counts, while it runs; ac at which PRESENT_N last rose. -/
  fellAt : Option Nat
  roseAt : Option Nat
  /-- A refusal that PRESENT_N low after a short high period returns to (R61). -/
  held : Bool
  /-- FE_STATE before PORT_ENABLE went to 0, when it was REFUSED or RETIRED, and the retired lane: enabling the port starts no
  discovery (R61, R69). -/
  kept : Nat
  retiredLane : Nat
  /-- First frame in which its channels are present, once known (R62); none while they are absent. -/
  presentFrom : Option Nat
  /-- The retrain attempt running: the ac it began, the lane it belongs to, the cause (R67). -/
  retrainAt : Option Nat
  retrainLane : Nat
  retrainCause : Nat
  /-- Least SYSREF sampling margin since arming, 1/16 ac. -/
  phase : Option Int
  /-- Declared by the last accepted descriptor (R64): L, M, n (rate over 50 MS/s), F, S, E or K, wide mode, offset
  binary, N, profile. -/
  lanes : Nat
  chans : Nat
  rate : Nat
  fOct : Nat
  sPer : Nat
  blocks : Nat
  wide : Bool
  offBin : Bool
  bitsN : Nat
  profile : Nat
  /-- FESYNC_N pin (R53). -/
  fesyncN : Bool
  /-- Since the port was last discovered: ac of its latest SYSREF edge, and the least spacing of two of its edges, in ac, 0
  until a second one comes (R57, R67; log entry 149). -/
  sysAt : Option Nat
  sysPer : Nat
deriving DecidableEq, Repr

/-- A lane beside its entries (R39, R59, R60, R66, R73). -/
structure Lane where
  /-- ac of the code errors within the last 1 ms. -/
  errs : List Nat
  /-- ac of the last adaptation update, and the signed sum of all updates, 1/4096 UI (R59). -/
  adaptAt : Option Nat
  adapt : Int
  /-- ac since which the lane has run without a retrain (R68). -/
  cleanFrom : Option Nat
deriving DecidableEq, Repr

/-- A rising edge of a flag or of an edge input, with its crossing time (R94, R95, R98). -/
structure Rise where
  /-- ac at which the pattern unit sees it. -/
  seen : Nat
  /-- Frame and offset from its B, 1/256 ac, before carry or borrow (R95). -/
  frame : Nat
  t : Int
  /-- TDC_CAL_STATE in force (R97). -/
  cal : Bool
  /-- The phase of the frame is not latched yet, and is still to be added (R93). -/
  pend : Bool
deriving DecidableEq, Repr

/-- A conditioning channel (Tables 4.1 and 4.2, R85 to R95, R434). -/
structure Chan where
  /-- Biquad 1 and 2 histories, x[n-1], x[n-2] and y[n-1], y[n-2]. -/
  x1 : List Int
  y1 : List Int
  x2 : List Int
  y2 : List Int
  /-- FIR delay line, newest first. -/
  fir : List Int
  /-- Baseline b, Q16.16. -/
  base : Int
  /-- Raw samples unpacked and conditioned samples emitted in the current frame. -/
  rawIdx : Nat
  outIdx : Nat
  /-- The frame's unpacked samples (R264) and conditioned samples (R209), newest first; conditioned samples that have
  been offered to the array input slots. -/
  raw : List Nat
  outs : List Int
  fed : Nat
  /-- Hysteresis latch of the level comparator, the slope history (newest first), c[n-1], and the comparators that were
  true at the last sample: bit 0 level, 1 slope, 2 window. -/
  lev : Bool
  hist : List Int
  cPrev : Bool
  cmps : Nat
  /-- The history ring by sample number frame * (raw samples per frame) + raw sample (R84). -/
  ring : Tab Nat
  /-- Flag values with the ac from which each holds, newest first (R90). -/
  flags : List (Nat × Bool)
  /-- ac of the last sample whose flag was true: the flag holds through it (R90). -/
  litAt : Option Nat
  /-- ac since which the flag counts: what it was before is cleared from the stretch (R283). -/
  cut : Nat
  /-- Recent rising edges, newest first, and the one at which the stretched bit of the latest of them rose (R293). -/
  rises : List Rise
  origin : Option Rise
  /-- ac of the parity errors within the last 1 s; retired until reset; state to be cleared at the next growth ring
  (R434). -/
  parityAt : List Nat
  retired : Bool
  clearDue : Bool
deriving DecidableEq, Repr

/-- A fast-edge input (R98, R99). -/
structure EdgeIn where
  /-- The last timed edge, 1/256 ac; it came less than 4 ac after the one before it. -/
  lastAt : Option Nat
  close : Bool
  /-- ac at which the external bit is set, newest first. -/
  bits : List Nat
  rises : List Rise
  origin : Option Rise
deriving DecidableEq, Repr

/-- A consistency group (R375): 0 FREE, 1 STAGING, 2 COMMITTED; the holder, 255 when none; the staged members by
member number from 0 (`none` = not staged) and the frame at whose growth ring a commit takes effect, once its cut-off
has passed. -/
structure Grp where
  st : Nat
  holder : Nat
  staged : Tab (Option Nat)
  latched : Bool
  /-- Frame g of a commit that waits. -/
  due : Nat
deriving DecidableEq, Repr

/-- An NPP session (R383): open, next SEQ, the stored reply of the previous request, ac of the last valid request. -/
structure Sess where
  isOpen : Bool
  ident : Nat
  nextSeq : Nat
  reply : List Nat
  lastAt : Nat
deriving DecidableEq, Repr

/-- Behind the object dictionary: pending effects, groups, sessions and the registers of Table 15.8. -/
structure Ctl where
  /-- RWL values accepted since the last cut-off, and those latched by it (R18, R371). -/
  rwlNew : Tab (Option Nat)
  rwlLatched : Tab (Option Nat)
  /-- What the entries that changed at the latest growth ring held before it. -/
  rwlOld : Tab (Option Nat)
  groups : Tab Grp
  /-- Frame of each client's latest commit (R376). -/
  commitFrame : Tab Nat
  sess : Tab Sess
  /-- The reply datagrams sent, the latest only (Table 15.9): words of one byte. -/
  reply : List Nat
  bulkCtrl : Nat
  bulkStatus : Nat
  bulkData : Tab Nat
  lastAbort : Nat
  abortCount : Nat
  /-- The code of the latest refusal of a single access by each client but the host (R16). -/
  aborts : Tab Nat
deriving DecidableEq, Repr

/-- A record in a hub queue or on its way there: kind, epoch, the frame it names, and its words from word 1 up to the
one before the valid word (R352 to R361). `link` is the trigger it belongs to, `flag` says that its audit digest is
still to be filled in (R267). `free` says that it was made while an undefined use was in force (R15), and `due` is the ac from
which it may be written (Table 10.2). -/
structure Rec where
  kind : Nat
  epoch : Nat
  frame : Option Nat
  words : List Nat
  link : Option Nat
  audit : Bool
  free : Bool := false
  due : Nat := 0
  /-- In the verdict ring, the two words of B of its frame as a TIME field (R358). -/
  bTime : List Nat := []
deriving DecidableEq, Repr

/-- Records lost and not yet accounted for (R358, R359). For the verdict ring it is the pending gap. -/
structure Loss where
  count : Nat
  first : Option Nat
  last : Option Nat
  reason : Nat
  epoch : Nat
  /-- TIME of the first frame: two words (Table 16.1). -/
  time : List Nat
  /-- The pending gap holds lost frames and waits for the recovery or the stop (R360, R440). -/
  held : Bool
deriving DecidableEq, Repr

/-- One record ring: its control registers (Table 14.5), consumer word, hub queue and interrupt state. -/
structure Ring where
  base : Nat
  entries : Nat
  ctrl : Nat
  seq : Nat
  epoch : Nat
  enabled : Bool
  consumer : Nat
  queue : List Rec
  loss : Loss
  /-- Records written since the last message, and ac of the oldest of them (R363). -/
  unann : Nat
  oldestAt : Nat
  /-- The link went down and the host has not enabled the ring since (Table 14.10). -/
  downed : Bool
deriving DecidableEq, Repr

/-- A host window (Table 14.3). -/
structure Win where
  base : Nat
  limit : Nat
  enable : Bool
deriving DecidableEq, Repr

/-- The host port (R347 to R364). -/
structure HostPort where
  wins : Tab Win
  rings : Tab Ring
  consumerBlock : Nat
  /-- Consumer-block reads in progress, each since its ac, oldest first (R356). -/
  fetches : List Nat
  /-- MSI-X table, 64-bit words, and the pending-bit array (Table 14.2). -/
  msixTable : Tab Nat
  msixPba : Nat
  /-- Messages sent, per vector. -/
  msixSent : Tab Nat
  /-- PERST_N pin, link trained, config requests answered (R491). -/
  perstN : Bool
  linkUp : Bool
  /-- Sequence number and epoch that each trigger's record, or the loss record that counted it, took (R359). -/
  trigSeq : Tab (Option (Nat × Nat))
  /-- Triggers whose record was lost and is counted in the pending loss record. -/
  trigLost : List Nat
  /-- The same for each loss record that is in the trigger ring's hub queue, oldest first. -/
  trigBatch : List (List Nat)
  /-- Configuration space (Table 14.1). -/
  cfg : HostCfg
deriving DecidableEq, Repr

/-- One frame between its boundary and the end of everything that refers to it. -/
structure Frame where
  seen : Bool
  ctx : Nat
  la : Nat
  lr : Nat
  /-- Not run: lost to a restart or device fault, or paused (R245, R435). -/
  lost : Bool
  paused : Bool
  invalid : Bool
  late : Bool
  resumed : Bool
  calStale : Bool
  alone : Bool
  /-- A secondary under policy 1 was ACTIVE in the frame, as its check found (R422). -/
  active : Bool
  /-- Class vector, 512 bits; tokens counted, and whether one was poisoned or out of range (R273 to R275). -/
  cls : Nat
  tokens : Nat
  bad : Bool
  closed : Bool
  word : Nat
  /-- Own contribution words by slot, `none` while not written (R135, R412). -/
  contrib : Tab (Option Nat)
  /-- Epoch in force at its growth ring. -/
  epoch : Nat
  /-- Ports present at its growth ring (R264); its input fingerprint (R263). -/
  fpMask : Nat
  /-- VLINE settings that apply to its edge, by line: mode, source, width, invalid action (R297); AUDIT_ENABLE in force
  (R272); program and live weight digest of its slot (Table 10.6); ring time of its B (R303). -/
  vl : List (Nat × Nat × Nat × Nat)
  audit : Nat
  pDigest : Nat
  wDigest : Nat
  ringB : Nat
  fpDigest : Option Nat
deriving DecidableEq, Repr

/-- The state of a pattern (R289, R290). -/
structure Pat where
  matched : Bool
  firedAt : Option Nat
  autoFrom : Option Nat
deriving DecidableEq, Repr

/-- A trigger whose record waits for its queue time (R295). -/
structure Trigger where
  ident : Nat
  frame : Nat
  tick : Nat
  fired : Nat
  forced : Nat
  primary : Nat
  post : Nat
  groups : Nat
  source : Nat
  cal : Bool
  xframe : Nat
  xoffset : Nat
  vframe : Nat
deriving DecidableEq, Repr

/-- The pattern unit and the verdict lines. -/
structure Trig where
  /-- Last ac evaluated. -/
  lastEval : Option Nat
  pats : Tab Pat
  waiting : List Trigger
  count : Nat
  /-- Class vector and ring words in the condition vector, with the frame they belong to (R284, R286). -/
  cls : Nat
  ringWords : Tab Nat
  vframe : Option Nat
  /-- The ac of the first evaluation: of sample tick B_0, or of B_r after a restart (R290, R294). -/
  start : Nat
  /-- Line k is latched; the end of its pulse; an unlatch that waits for a growth ring and one in effect (R279). -/
  latched : Nat
  pulseEnd : Tab (Option Nat)
  unlatchNew : Nat
  unlatch : Tab (Option Nat)
deriving DecidableEq, Repr

/-- The fault collector and the job restart (R430 to R442). -/
structure Flt where
  /-- ac of the last event record written, by code; by rule-limited key (code * 65536 + unit) (R430, R38, R60). -/
  lastAt : Tab (Option Nat)
  lastUnitAt : Tab (Option Nat)
  /-- FAULT_LOG, newest first: code, frame, the two words of the time. -/
  log : List (Nat × Nat × Nat × Nat)
  /-- ac of the latest fault of an enabled class, from which the quiet period counts (R442). -/
  quietFrom : Option Nat
  /-- A restart waits for its stop frame (R435). -/
  pending : Bool
  /-- The first lost frame and the ac of the stop of the running restart. -/
  firstLost : Nat
  stopAt : Nat
  /-- The restart will not rejoin (R516). -/
  noRejoin : Bool
  /-- Frames are being lost: no sample enters the array. -/
  losing : Bool
  /-- A device fault is uncleared, and the code that it was raised with (R440). -/
  dev : Option Nat
  /-- ac at which the restarts of the last 60 s began (Table 18.8). -/
  begun : List Nat
  /-- Reads of the host copy that have failed in the restart, by slot * 65536 + logical core (R439). -/
  copyTries : Tab Nat
  /-- FAULT_N pin. -/
  faultN : Bool
  /-- ac of the MP watchdog expiries within the last 10 s (R446). -/
  mpAt : List Nat
  /-- ac from which the running restart's 250 ms count (R439). -/
  runAt : Nat
  /-- Retirements of the map in force before the running restart: what WINDTHROW_MAP shows until it completes (R233). -/
  mapWas : Option (List Nat)
  /-- Frames below this number leave the verdict lines at their safe level: a device fault, or the commit into DOZE or SLEEP, came before
  their issue (R440, R443, R451). -/
  safeBelow : Nat
deriving DecidableEq, Repr

/-- Input and output pins with state of their own (chapter 22). -/
structure Pins where
  porN : Bool
  testEn : Bool
  safe0 : Bool
  safe1 : Bool
  clkreqN : Bool
  ppsOut : Bool
deriving DecidableEq, Repr

/-- The station clock and its servo (R388 to R401). -/
structure Time where
  /-- The clock in 2^-32 ns since its zero, and the rate correction in parts per 10^12. -/
  clk : Nat
  rate : Int
  /-- Frame stamps T_n, 2^-16 ns, by n mod 1025, for the frames since arming or the latest step (R391). -/
  stamps : Tab Nat
  /-- TIME_STEPS modulo 256 and TIME_SOURCE, 256 * steps + source, as they stood when each of them was taken (R390). -/
  tags : Tab Nat
  /-- First frame whose stamp counts for AC_PERIOD. -/
  stampFrom : Nat
  /-- The first lock since POR_N has not happened yet; a re-step is pending (R396, R399). -/
  stepDue : Bool
  restep : Bool
  /-- The latest offset measurements of an acquisition, newest first, 16 at most (R396). -/
  offs : List Int
  /-- Source in use: 0 none, 1 PTP, 2 PPS_IN. -/
  src : Nat
  /-- What TIME_SOURCE stands for now (Table 1.4 follows it, R28). -/
  source : Nat
  /-- Selected master's clockIdentity and its Announce data set, if any. -/
  master : Option Nat
  masterKey : Nat
  /-- ac of the last PPS_IN edge, and its time on the clock. -/
  ppsAt : Option Nat
  ppsPresent : Bool
  /-- ac at which the current holdover began. -/
  holdAt : Option Nat
  /-- Width of the PPS_OUT pulse in effect (R402). -/
  outWidth : Nat
  /-- ac at which PPS_OUT was asserted, while it is high. -/
  outAt : Option Nat
  /-- The second of the clock in which PPS_OUT_MODE or PPS_OUT_WIDTH was written last, and what both were at its beginning (R402). -/
  outSec : Option Nat
  outWas : Nat × Nat
  /-- The delay message sent last, 1 Delay_Req or 2 Pdelay_Req, and its timestamp in ns, while no answer to it has been used; the
  timestamps of the last Pdelay_Req answered and of the answer (R393, R394). -/
  ptpTx : List Nat
  ptpAns : List Nat
deriving DecidableEq, Repr

/-- A token (R105): 64-bit payload, 16-bit tag, poison bit. -/
structure Tok where
  payload : Nat
  tag : Nat
  poison : Bool
deriving DecidableEq, Repr

/-- A token in a queue, a buffer or a register, with the ac from which it is there. -/
structure Timed where
  due : Nat
  tok : Tok
  /-- Order in which an output register takes tokens of one ac: 0 to 3 passed from N, E, S, W, 4 the core's own (R148). -/
  pr : Nat
deriving DecidableEq, Repr

/-- A tag slot (Table 5.1): the token and the code of the input it came from, in the order of admission. -/
structure Slot where
  tok : Tok
  input : Nat
  admitted : Nat
deriving DecidableEq, Repr

/-- A running strand instance (R112): head address, tag, next instruction, MAC lock, the ac from which that next
instruction may issue, and the ac at which the instance ends once its E instruction has issued. -/
structure Inst where
  head : Nat
  tag : Nat
  pc : Nat
  lock : Bool
  freeAt : Nat
  endAt : Option Nat
  /-- Held by a WAIT since its issue: 0 none, 1 count, 2 token, 3 growth ring; the input of a token wait. -/
  wait : Nat
  waitSrc : Nat
deriving DecidableEq, Repr

/-- A register with its poison bit. -/
structure PReg where
  v : Int
  poison : Bool
deriving DecidableEq, Repr

/-- A state register (R139): value, poison, frame marker, initial mark. -/
structure SReg where
  v : Int
  poison : Bool
  marker : Nat
  initial : Bool
deriving DecidableEq, Repr

/-- Memory words that an overlay of the weight encoder replaces from a frame on (R188, R190): address and content. -/
structure Overlay where
  ctx : Nat
  addr : Nat
  words : List Nat
  tag : Nat
deriving DecidableEq, Repr

/-- Output and merge counts of a monitor on their way from a core to the hub (R184): monitor, frame, outputs, clips. -/
structure ClipCount where
  mon : Nat
  frame : Nat
  outs : Nat
  clips : Nat
deriving DecidableEq, Repr

/-- One array core or review core (Table 5.1, Table 6.2, R151, R188). -/
structure Core where
  /-- Program words by context * 256 + address. -/
  prog : Tab Nat
  /-- Weight words by row * 32 + position, row tags by row. -/
  weight : Tab Nat
  rowTag : Tab Nat
  /-- Rows that hold outlier weights (R102). -/
  outRows : List Nat
  /-- Table words and sideband tags by address. -/
  table : Tab Nat
  sideTag : Tab Nat
  ar : Tab PReg
  acc : Tab PReg
  pred : Tab PReg
  /-- State registers by context * 16 + index. -/
  sreg : Tab SReg
  /-- Block accumulators, sum lane, their poison, latched row tags, zero points (R114, R125). -/
  pAcc : Tab Int
  aSum : Int
  pPoison : Bool
  latch : List Nat
  zw : Nat
  za : Int
  zPoison : Bool
  /-- LUTMAC elements since the last close (R170). -/
  blockLen : Nat
  /-- ac from which a register's pending write has landed: 0 to 31 ar, 32 to 49 acc, 64 to 71 predicates, 80 to 143
  state registers. -/
  land : Tab Nat
  /-- ac from which each unit is free: 1 MAC, 2 RESCALE, 3 ACTLUT, 4 STATE, 5 ALU, 6 TOKEN. -/
  unit : Tab Nat
  /-- Last ac in which an instruction issued, and last ac in which tokens were admitted. -/
  lastIssue : Option Nat
  lastAdmit : Option Nat
  /-- Input queues by input code. -/
  queues : Tab (List Timed)
  rr : Nat
  slots : List Slot
  insts : List Inst
  /-- Ride route words by context; pad chains and output registers by side; tokens of the last ac per output. -/
  route : Tab Nat
  outs : Tab (List Timed)
  /-- Firebreak egress buffer. -/
  egress : List Timed
  /-- Clip monitor words by context (Table 7.7). -/
  monitor : Tab Nat
  /-- Current context, the last growth ring that passed. -/
  ctx : Nat
  lastRing : Option Nat
  maxSlots : Nat
  maxQueue : Nat
  lastTag : Nat
  /-- Firing watchdog: ac counted, and the ac up to which they are counted (R117). -/
  wdCount : Nat
  wdAt : Nat
  /-- Overlays in place by kind: 0 code row, 1 record, 2 outlier quarter, 3 rescale run (R188); the frame from which
  they are read, once committed. -/
  ovl : Tab (Option Overlay)
  ovlFrom : Option Nat
  /-- Frame from which code and scale overlays that are sent again after a mismatch are read (R181). -/
  ovlHeld : Option Nat
  /-- Resynchronisation due at the next growth ring; frames that have mismatched since the block last closed with matching tags, and
the block's record (R181, R182). -/
  resync : Bool
  skewed : List Nat
  skewRec : Nat
  /-- Frames made INVALID from a mismatch until the resent blocks apply (R181). -/
  skewFrom : Option Nat
deriving DecidableEq, Repr

/-- A RING write on its way to the hub (R135): ac of arrival, tag, slot, the four values, poison. -/
structure RWrite where
  due : Nat
  tag : Nat
  slot : Nat
  val : Nat
  poison : Bool
deriving DecidableEq, Repr

/-- A token on its way through the firebreak: ac of arrival at its F queue, die * 24 + copse (1536: at none), the die links crossed
(die * 4 + side), and the number of the departure, which the copies of one token share. -/
structure Flight where
  due : Nat
  copse : Nat
  tok : Tok
  links : List Nat
  ident : Nat
deriving DecidableEq, Repr

/-- Firebreak tables and die links (Table 6.4, R163). -/
structure Fabric where
  /-- Entry bytes by die * 4864 + byte offset. -/
  fb : Tab Nat
  /-- A die link out of alignment, by die * 4 + side: ac since which. -/
  misaligned : Tab (Option Nat)
  flight : List Flight
  /-- Departures so far; and by departure what the die links have found of its token, while copies of it are on their way (R163). -/
  sent : Nat
  judged : Tab (List (Nat × Bool))
  /-- Verdict tokens on their way to the collector and ring writes on their way to the hub: ac of arrival. -/
  vtoks : List Timed
  rwrites : List RWrite
  /-- Frames with a schedule fault already counted (R166), newest first. -/
  faulted : List Nat
deriving DecidableEq, Repr

/-- A clip monitor (R184 to R187): the running sub-window, the closed ones (newest first), stale state. -/
structure Mon where
  outs : Nat
  clips : Nat
  subs : List (Nat × Nat)
  stale : Bool
deriving DecidableEq, Repr

/-- A staged update block (R188, Table 7.9), after quantisation. -/
structure EncBlock where
  core : Nat
  kind : Nat
  ctx : Nat
  row : Nat
  tword : Nat
  oq : Nat
  words : List Nat
  record : List Nat
  tag : Nat
deriving DecidableEq, Repr

/-- The weight encoder and the clip monitors' merge (R184 to R198). -/
structure Enc where
  staged : List EncBlock
  next : Nat
  mons : Tab Mon
  /-- Counts not yet merged; the next frame to merge. -/
  counts : List ClipCount
  nextMerge : Nat
  /-- Run frames merged, newest first, with the set of stale monitors' slots after each: frame and slot mask. -/
  merged : List (Nat × Nat)
  /-- By slot: counts of frames before this one are not merged (R187). -/
  floor : Tab Nat
  /-- Words that the encoder has read of the list, 140 for each block (R258). -/
  read : List Nat
  /-- Cores whose overlays are still to be copied. -/
  toCopy : List Nat
deriving DecidableEq, Repr

/-- A loaded context (R216, R222, R226, R239): what the loader keeps of its object. -/
structure Loaded where
  present : Bool
  /-- The words of its object, with what the encoder has retired (R226, R437), and in front of them those of the patches
  loaded over it, newest first (R231); the object's place in host memory (R227). -/
  layers : List (List Nat)
  addr : Nat
  bytes : Nat
  /-- Logical cores with a record, x * 256 + y. -/
  cores : List Nat
  la : Nat
  lr : Nat
  lc : Nat
  /-- Its frame length (R48). -/
  f : Nat
  /-- Input-map entries (Table 8.5) and the pads of the input slots (R224), by side * 512 + row * 4 + lane. -/
  inputs : List Nat
  slotPads : Tab Nat
  /-- Rate n and decimation of the channels it uses (R208). -/
  rates : Tab (Nat × Nat)
  monCount : Nat
  retained : Nat
deriving DecidableEq, Repr

/-- A loaded review network (R331, R332): geometry, pass table, first page of the West copy in the review-weight region,
and the words of its pages. -/
structure Net where
  inFirst : Nat
  inBlocks : Nat
  inChans : Nat
  sc : Nat
  outCount : Nat
  pages : Nat
  /-- CODE_PAGE, CODE_PAGES, WEIGHT_PAGE, WEIGHT_PAGES, ACT_PAGES. -/
  passes : List (List Nat)
  base : Nat
  words : List Nat
deriving DecidableEq, Repr

/-- A load, patch, unload or check in progress (R228). -/
structure LoadJob where
  /-- LOAD_COMMAND code, the slot, its place in host memory. -/
  cmd : Nat
  slot : Nat
  addr : Nat
  bytes : Nat
  /-- The object's words as read. -/
  obj : List Nat
  /-- The retirements of the map that the load will bring into force. -/
  map : List Nat
  /-- Monitor base. -/
  base : Nat
  /-- Owner keys in force at the start of the verify phase, and whether one had been provisioned by then (R486). -/
  keys : List Nat
  keyed : Bool
  /-- The slot's state before it. -/
  was : Nat
deriving DecidableEq, Repr

/-- The loader beside its entries (R216 to R233). -/
structure Ldr where
  /-- Retired physical cores in the map in force beside those of manufacture, and retirements still pending (R220). -/
  map : List Nat
  pend : List Nat
  ctxs : Tab Loaded
  /-- Networks by global number. -/
  nets : Tab (Option Net)
  job : Option LoadJob
deriving DecidableEq, Repr

/-- A channel of a capture as its copy reads it: number, n of its raw rate, decimation of its ring entries. -/
structure CapChan where
  chan : Nat
  rate : Nat
  dec : Nat
deriving DecidableEq, Repr

/-- A capture, open or held, or one whose record still waits for its trigger record (R302 to R312). -/
structure Cap where
  /-- Slot and generation of its handle; none when shed at request. -/
  slot : Option Nat
  gen : Nat
  group : Nat
  prio : Nat
  /-- Number of its trigger, the trigger's frame and tick, and its ring time. -/
  trig : Nat
  frame : Nat
  tick : Nat
  /-- First copy block of its window, and how many; the window start as frame and offset. -/
  start : Int
  blocks : Nat
  winFrame : Nat
  winOff : Nat
  west : List CapChan
  east : List CapChan
  /-- Channels in the set, existing or not, CONFIG_FRAME, review network and mode of the group at the tick. -/
  chans : Nat
  cfg : Nat
  net : Nat
  mode : Nat
  /-- PAT_PRIORITY of the trigger's primary pattern (R333). -/
  jprio : Nat
  pages : List Nat
  /-- Units read on each half, and the samples read, by channel. -/
  doneW : Nat
  doneE : Nat
  data : Tab (List Nat)
  /-- Status of Table 12.3 once it has ended, reason, VALID_BLOCKS. -/
  status : Option Nat
  reason : Nat
  valid : Nat
  /-- Its record has not entered the capture ring's queue yet. -/
  recDue : Bool
  /-- Its record carries a digest; first 80 bytes of the audit message (R267, R268). -/
  audit : Bool
  head : List Nat
  /-- AUDIT_ENABLE's bit for review records in the trigger's frame (R272). -/
  revAudit : Bool
  /-- Channels whose descriptors, or a review job's input read, are reading it (R312). -/
  reading : List Nat
  revReading : Bool
deriving DecidableEq, Repr

/-- The capture store (R298 to R312). -/
structure Store where
  caps : List Cap
  /-- Current generation by slot (R328: 1). -/
  gens : Tab Nat
  d0 : Nat
  /-- Bytes in the elastic buffers, and failures of the transaction in progress, by die. -/
  elastic : Tab Nat
  fails : Tab Nat
  /-- STORE_STATE has read READY (R300). -/
  ready : Bool
deriving DecidableEq, Repr

/-- A mark that waits for its segment record (R316). -/
structure Mark where
  trig : Nat
  frame : Nat
  tick : Nat
  /-- Ring time of the tick. -/
  time : Nat
deriving DecidableEq, Repr

/-- A segment in the data buffer: bytes, and the sequence number of its record once written (R314). -/
structure Seg where
  bytes : Nat
  seq : Option Nat
deriving DecidableEq, Repr

/-- A descriptor in work: its words, the status its record will carry, bytes moved (R320 to R323). -/
structure Desc where
  words : List Nat
  status : Nat
  moved : Nat
deriving DecidableEq, Repr

/-- An engine channel beside its entries (R313 to R325). -/
structure Eng where
  /-- Credit counter in bytes / 12, the ac it is counted to, and the share it has gained since (R319). -/
  credit : Nat
  credAt : Nat
  share : Nat
  /-- Attempts of the descriptor read that have failed, the descriptor in work. -/
  tries : Nat
  cur : Option Desc
  /-- The stream has taken its first segment; the segment under the cursor; segments dropped since the last record. -/
  begun : Bool
  /-- Started, and waiting for the growth ring from which its first segment is counted. -/
  starting : Bool
  /-- It has taken a segment since its latest start. -/
  live : Bool
  seg : Nat
  lost : Nat
  /-- Bursts and bytes of the segment under the cursor that have been written; ring time at which an aborted stream stood. -/
  sent : Nat
  sentBytes : Nat
  stoodAt : Nat
  /-- Next free offset of the data buffer, segments not consumed, oldest first; marks waiting; SEQ of the last segment
  record. -/
  head : Nat
  used : List Seg
  marks : List Mark
  lastSeg : Nat
deriving DecidableEq, Repr

/-- A review job (R333 to R344). -/
structure Job where
  net : Nat
  mode : Nat
  prio : Nat
  east : Bool
  trig : Nat
  frame : Nat
  group : Nat
  handle : Nat
  /-- The part: s_c of its channels, VALID_BLOCKS. -/
  sc : List Nat
  valid : Nat
  audit : Bool
  head : List Nat
  queuedAt : Nat
  /-- QUEUED_US, fixed at the latest dispatch; ac of that dispatch. -/
  queuedUs : Nat
  runAt : Nat
  requeued : Bool
  misses : Nat
  choices : Nat
  /-- Input has been read; the pass running or next, and whether it has started; output values. -/
  inputRead : Bool
  pass : Nat
  passOn : Bool
  outs : List Nat
  /-- Samples in the pinned input pages, channel-planar (R337). -/
  input : List Nat
deriving DecidableEq, Repr

/-- A review cluster beside its entries (R329, R338). -/
structure Clus where
  queue : List Job
  job : Option Job
  /-- Resident code and weight pages, network * 65536 + page, most recently used first. -/
  cache : List Nat
  /-- Words of the pages that the cluster loader wrote into slot 0 of the cores for the pass (R330). -/
  image : List Nat
deriving DecidableEq, Repr

/-- The save image (R246, Table 9.4). -/
structure Save where
  slot : Nat
  prog : Nat
  live : Nat
  p : Nat
  /-- State registers of the saved context by logical core x * 256 + y. -/
  sregs : Tab (Tab SReg)
  chans : Tab Chan
  edges : Tab EdgeIn
  pats : Tab Pat
  /-- Clip monitors of its context by number from the monitor base, and for each run frame merged last whether one was stale. -/
  mons : Tab Mon
  merged : List Bool
  /-- ac of B of frame p, ring frame at which the ring stands, ac from which the pattern unit evaluates. -/
  pAc : Nat
  ring : Nat
  start : Nat
deriving DecidableEq, Repr

/-- Pause and context switching beside their entries (R234 to R248). -/
structure Ctx where
  /-- Draining slots with the frame g at which each stopped being current. -/
  drain : Tab (Option Nat)
  /-- A switch by the canopy: 1 take the fallback, 2 release it, at the next growth ring; the slot to return to. -/
  canopy : Nat
  prevSlot : Nat
  /-- Requested r of a resume (0: next), and whether it restores; r not yet known to be reached. -/
  resumeAt : Nat
  restore : Bool
  /-- Paused frames so far in this arming: ring time leaves them out (R303). -/
  skipped : Nat
  /-- The pauses: ring frame at which each lies, and what it adds to the frame number (R303); an arming during a pause adds a negative
  number, since frame numbers begin anew. -/
  pauses : List (Nat × Int)
  /-- Ring frame of frame 0 of this arming: not 0 after an arming during a pause (R249). -/
  ringBase : Nat
  save : Option Save
deriving DecidableEq, Repr

/-- A Barvia flit as sent: TYPE, LINK_SEQ, and its content: header bits below LINK_SEQ and words 1 on for a CONTRIB flit
(Table 17.4), the listed items of Table 17.3 in order for the others. -/
structure Flit where
  ty : Nat
  seq : Nat
  words : List Nat
deriving DecidableEq, Repr

/-- A ring or mirror link beside its entries (R404 to R408). -/
structure Link where
  /-- The partner's HELLO: serial, RING_DOMAIN, RING_POSITION_CFG, MIRROR_ROLE, FRAME_LENGTH, path latency. -/
  hello : Option (List Nat)
  /-- Next LINK_SEQ sent; the replay buffer, newest first. -/
  txSeq : Nat
  replay : List Flit
  /-- Flits that failed their CRC once, by LINK_SEQ: ac of the first arrival. -/
  failed : Tab (Option Nat)
  /-- ac of the NAKs within the last 1 ms. -/
  naks : List Nat
  /-- Retrain attempts in the episode; ac since which the link runs without one. -/
  attempt : Nat
  cleanFrom : Nat
  /-- Members beyond this link, eastward, as its FORM flits list them: serial, RING_POSITION_CFG. -/
  known : List (Nat × Nat)
  /-- Trained while the array was armed: joins at the next arming (R411). -/
  late : Bool
  /-- Path latency measured at training, 1/16 ac. -/
  lat : Nat
  /-- What the latest NAK made the sender replay, oldest first; ac of flits acted on while a failed one waited, by LINK_SEQ (R406). -/
  resent : List Flit
  got : Tab (Option Nat)
  /-- Wake combs sent as bursts while the link was down (R461). -/
  bursts : Nat
deriving DecidableEq, Repr

/-- A contribution accepted for a frame (R414). -/
structure Contrib where
  frame : Nat
  src : Nat
  valid : Nat
  poison : Nat
  slots : List Nat
deriving DecidableEq, Repr

/-- A mirrored setting (R424): kind 0 an entry's value, 1 a group's commit, 2 a context switch, 3 an entry of a
resynchronisation; key or group or slot, value, effect frame, group members by number. -/
structure Fwd where
  kind : Nat
  key : Nat
  val : Nat
  frame : Nat
  members : Tab (Option Nat)
deriving DecidableEq, Repr

/-- The device ring, the mirror pair and the barrier (chapters 10 and 17). -/
structure Links where
  /-- 0 RING_W, 1 RING_E, 2 mirror. -/
  links : Tab Link
  /-- Membership found by the latest FORM round, the rounds it has been stable, and whether the ring is closed. -/
  found : List (Nat × Nat)
  stable : Nat
  closed : Bool
  /-- Members of the ring as it formed, of which RING_SIZE shows none but this device while no ring link has joined (R427); newcomers
  that have had their event record since the arming, by serial (R411). -/
  size : Nat
  seenLate : List Nat
  /-- Contributions accepted, newest first. -/
  inbox : List Contrib
  /-- Mirror: frames with a partner status in time; partner and own verdict words with fingerprints; consecutive frames
  with and without MIRROR_ALONE; this device's latest rejoin, and the frame in which the partner's status came back after a miss that the
  link does not explain; such a miss runs; a mirror flit was lost, or the link was not joined, since the last check. -/
  status : List Nat
  theirs : Tab (Option (Nat × Nat))
  ours : Tab (Option (Nat × Nat))
  aloneRun : Nat
  okRun : Nat
  rejoin : Option Nat
  peerBack : Option Nat
  missed : Bool
  flawed : Bool
  /-- Primary: writes forwarded too late for the coming cut-off (R424). Secondary: settings received and not yet due. -/
  hold : Tab (Option Nat)
  dictIn : List Fwd
  /-- Frame at whose growth ring a resynchronisation takes effect. -/
  resyncAt : Option Nat
  /-- Barrier: members reporting WAITING, 0 to 31 of the device's own ring, 32 to 63 of its mirror partner's, 1000 plus the
  partner ring's size, and 2000 plus the role of the own ring's mirror member, each with its ac; and the arming edge once the leader's message has named it (Table 10.4). -/
  waiting : List (Nat × Nat)
  barEdge : Option Nat
  /-- Frame numbers, low 24 bits, and positions of contributions counted as late on their arrival (R45). -/
  lateSeen : List (Nat × Nat)
deriving DecidableEq, Repr

/-- Power states and the canopy beside their entries (chapter 19). -/
structure Pwr where
  /-- Target of the transition in progress, ac at which it began, and the wake source to record when it ends in an exit. -/
  target : Nat
  since : Nat
  source : Nat
  /-- Wake source that stands behind the pending request (0: a host or NPP request). -/
  pendSource : Nat
  /-- ASPM L1.2 enabled by the host in configuration space. -/
  aspm : Bool
  /-- 1 ms ticks over a continuous limit in the last 600 s, newest first; the budget cause is latched (R464). -/
  overAt : List Nat
  latched : Bool
  /-- Junction readings by die, 1/16 degC; causes 3, 4 and 5 present. -/
  junctions : Tab Int
  hot : Nat
  /-- ac of the last stage rise, and ac since which no cause has been present or of the last release. -/
  raised : Option Nat
  clear : Option Nat
  /-- ac of the last report that stage 3 is unavailable. -/
  noFallback : Option Nat
deriving DecidableEq, Repr

/-- A measurement log entry (Table 20.4). -/
structure LogEntry where
  mr : Nat
  event : Nat
  frame : Nat
  digest : Nat
  time : List Nat
deriving DecidableEq, Repr

/-- Boot, recovery and measurement beside their entries (chapter 20). -/
structure Sec where
  /-- The boot flash: bytes from offset 0. -/
  flash : List Nat
  /-- The measurement log, newest first. -/
  log : List LogEntry
  /-- Staged chunks by offset / 1,024. -/
  chunks : Tab (List Nat)
  /-- The image in verification or use for recovery, bit 7 of its command; the ROM is to enter RECOVERY_WAIT (code 1). -/
  image : List Nat
  toFlash : Bool
  wait : Bool
  /-- The running image is a recovery image; its OWNER_KEY_ID. -/
  recovered : Bool
  signer : Nat
  /-- A boot check has failed, and no verified firmware has run since (R480). -/
  unproven : Bool
  /-- The quote being built, bytes 0 to 255. -/
  quote : List Nat
deriving DecidableEq, Repr

/-- Start-up and test beside their entries (chapters 19, 21, 22). -/
structure Sys where
  /-- Step of Table 21.1: 0 POR_N low, 1 understorey, 2 hub, 3 COOLANT_HOLD, 4 DIES_UP running, 5 DIES_UP complete. -/
  step : Nat
  /-- ac of the last report of the coolant hold. -/
  holdAt : Option Nat
  /-- Save-restore memory: settings and groups saved at TEST_EN rising (Table 19.5). -/
  saved : Option (Tab Nat × Tab Grp)
deriving DecidableEq, Repr

/-- The block: everything but host memory and the queue of commands. -/
structure Dev where
  /-- ac since the release of POR_N. -/
  now : Nat
  /-- Dictionary values in effect, by index * 256 + subindex; an unlisted entry holds its default. -/
  dict : Tab Nat
  fuses : Fuses
  pins : Pins
  ctl : Ctl
  grid : Grid
  pll : Pll
  ports : Tab Port
  lanes : Tab Lane
  chans : Tab Chan
  edges : Tab EdgeIn
  cores : Tab Core
  fab : Fabric
  enc : Enc
  ldr : Ldr
  frames : Tab Frame
  trig : Trig
  flt : Flt
  host : HostPort
  time : Time
  store : Store
  engs : Tab Eng
  clus : Tab Clus
  ctx : Ctx
  lnk : Links
  pwr : Pwr
  sec : Sec
  sys : Sys
  /-- MODEL's own: undefined uses met since the last job restart or reset (R15, R447), and the count of free values
  drawn. -/
  undef : Bool
  /-- One of them has come since the last job restart began. -/
  undefNew : Bool
  freeCtr : Nat
deriving DecidableEq, Repr

/-- The machine: the block, host memory as the block has written it (an unlisted byte was not written by the block),
and the commands that wait, first in, first out. -/
structure State where
  dev : Dev
  mem : List Host.Cell
  pending : List Instr
deriving DecidableEq, Repr

/-- A session table entry that is closed; and the other resting values of indexed things. -/
def Grp.rest : Grp := ⟨0, 255, [], false, 0⟩
def Sess.rest : Sess := ⟨false, 0, 1, [], 0⟩
def Ctl.rest : Ctl := ⟨[], [], [], [], [], [], [], 0, 0, [], 0, 0, []⟩
def Loss.rest : Loss := ⟨0, none, none, 0, 0, [], false⟩
def Ring.rest : Ring := ⟨0, 0, 0, 0, 0, false, 0, [], Loss.rest, 0, 0, false⟩
def Win.rest : Win := ⟨0, 0, false⟩
/-- Configuration space after a reset (PCI Express; log entry 133). -/
def HostCfg.rest : HostCfg := ⟨false, false, 128, 512, false, false⟩
def HostPort.rest : HostPort := ⟨[], [], 0, [], [], 0, [], false, false, [], [], [], HostCfg.rest⟩
def Frame.rest : Frame :=
  ⟨false, 0, 0, 0, false, false, false, false, false, false, false, false, 0, 0, false, false, 0, [], 0, 0, [], 0, 0, 0, 0, none⟩
def Pat.rest : Pat := ⟨false, none, none⟩
def Trig.rest : Trig := ⟨none, [], [], 0, 0, [], none, 0, 0, [], 0, []⟩
def Flt.rest : Flt := ⟨[], [], [], none, false, 0, 0, false, false, none, [], [], false, [], 0, none, 0⟩
def Pins.rest : Pins := ⟨false, false, false, false, true, false⟩
def Grid.rest : Grid := ⟨0, 0, 0, false, none, 0, 0, 0, 0, 0, 0, 0, 0, 0, none⟩
def Port.rest : Port :=
  ⟨true, none, none, false, 0, 0, none, none, 0, 0, none, 0, 0, 0, 0, 0, 0, false, false, 16, 0, true, none, 0⟩
def Lane.rest : Lane := ⟨[], none, 0, none⟩
def Chan.rest : Chan where
  x1 := []
  y1 := []
  x2 := []
  y2 := []
  fir := []
  base := 0
  rawIdx := 0
  outIdx := 0
  raw := []
  outs := []
  fed := 0
  lev := false
  hist := []
  cPrev := false
  cmps := 0
  ring := []
  flags := []
  litAt := none
  cut := 0
  rises := []
  origin := none
  parityAt := []
  retired := false
  clearDue := false
def EdgeIn.rest : EdgeIn := ⟨none, false, [], [], none⟩
def PReg.rest : PReg := ⟨0, false⟩
def SReg.rest : SReg := ⟨0, false, 0, true⟩
/-- A core after reset (R141): memories 0, queues and slots empty, every state register marked initial. -/
def Core.rest : Core where
  prog := []
  weight := []
  rowTag := []
  outRows := []
  table := []
  sideTag := []
  ar := []
  acc := []
  pred := []
  sreg := []
  pAcc := []
  aSum := 0
  pPoison := false
  latch := []
  zw := 0
  za := 0
  zPoison := false
  blockLen := 0
  land := []
  unit := []
  lastIssue := none
  lastAdmit := none
  queues := []
  rr := 6
  slots := []
  insts := []
  route := []
  outs := []
  egress := []
  monitor := []
  ctx := 0
  lastRing := none
  maxSlots := 0
  maxQueue := 0
  lastTag := 0
  wdCount := 0
  wdAt := 0
  ovl := []
  ovlFrom := none
  ovlHeld := none
  resync := false
  skewed := []
  skewRec := 0
  skewFrom := none
def Fabric.rest : Fabric := ⟨[], [], [], 0, [], [], [], []⟩
def Mon.rest : Mon := ⟨0, 0, [], false⟩
def Loaded.rest : Loaded := ⟨false, [], 0, 0, [], 0, 0, 0, 0, [], [], [], 0, 0⟩
/-- Nothing loaded, no core retired since manufacture. -/
def Ldr.rest : Ldr := ⟨[], [], [], [], none⟩
def Enc.rest : Enc := ⟨[], 0, [], [], 0, [], [], [], []⟩
def Eng.rest : Eng := ⟨0, 0, 0, 0, none, false, false, false, 0, 0, 0, 0, 0, 0, [], [], 0⟩
def Clus.rest : Clus := ⟨[], none, [], []⟩
def Link.rest : Link := ⟨none, 0, [], [], [], 0, 0, [], false, 0, [], [], 0⟩
def Links.rest : Links := ⟨[], [], 0, false, 1, [], [], [], [], [], 0, 0, none, none, false, false, [], [], none, [], none, []⟩
def Pwr.rest : Pwr := ⟨0, 0, 0, 0, false, [], false, [], 0, none, none, none⟩
def Sec.rest : Sec := ⟨[], [], [], [], false, false, false, 0, false, []⟩
def Sys.rest : Sys := ⟨0, none, none⟩
def Ctx.rest : Ctx := ⟨[], 0, 0, 0, false, 0, [], 0, none⟩
def Time.rest : Time where
  clk := 0
  rate := 0
  stamps := []
  tags := []
  stampFrom := 0
  stepDue := true
  restep := false
  offs := []
  src := 0
  source := 0
  master := none
  masterKey := 0
  ppsAt := none
  ppsPresent := false
  holdAt := none
  outWidth := 100
  outAt := none
  outSec := none
  outWas := (0, 0)
  ptpTx := []
  ptpAns := []
/-- The values of one device: a G24 B0 with no core retired at manufacture, nothing provisioned (DESIGN CHOICE, log entry 9); what
else it carries are constants without a value. -/
def Fuses.rest : Fuses where
  grade := 24
  stepping := 0xB0
  serial := Config.serial.toNat
  g20cols := []
  windthrow := []
  ownerKeys := []
  revoked := 0
  svn := 0
  romKeys := [(Config.romKey 0).toNat, (Config.romKey 1).toNat]
  rom0Revoked := false
  romDigest := Config.romDigest.toNat
  identity := Config.identityKey.toNat
  cert := (Config.deviceCert Config.serial Config.identityKey).toNat
  certBytes := Config.deviceCertBytes.toNat
  caCert := Config.caCert.toNat
  caBytes := Config.caCertBytes.toNat

/-- The block with POR_N asserted: every entry at its default, every unit at rest. -/
def Dev.reset : Dev where
  now := 0
  dict := []
  fuses := Fuses.rest
  pins := Pins.rest
  ctl := Ctl.rest
  grid := Grid.rest
  pll := ⟨[], 0, none, 0⟩
  ports := []
  lanes := []
  chans := []
  edges := []
  cores := []
  fab := Fabric.rest
  enc := Enc.rest
  ldr := Ldr.rest
  frames := []
  trig := Trig.rest
  flt := Flt.rest
  host := HostPort.rest
  time := Time.rest
  store := ⟨[], [], 0, [], [], false⟩
  engs := []
  clus := []
  ctx := Ctx.rest
  lnk := Links.rest
  pwr := Pwr.rest
  sec := { Sec.rest with flash := Config.bootFlash }
  sys := Sys.rest
  undef := false
  undefNew := false
  freeCtr := 0

/-- The machine at reset (R488): POR_N low, nothing written to host memory, no command waiting. -/
def State.reset : State := ⟨Dev.reset, [], []⟩

end Sys2Proof.Machine
end

