-- ==== Sys2Proof/Machine/Regs.lean ====
section
/-! DEFINITION. The dictionary entries by name (the chapters' entry tables): where each lies and what it reads
when nothing has changed it. Their types, access codes and ranges are in `Machine/Entries.lean`. -/

namespace Sys2Proof.Machine

/-- An entry: index * 256 + subindex, and its default. -/
structure Reg where
  key : Nat
  dflt : Nat
deriving DecidableEq, Repr

/-- Table 0.3, 0x1000:01, U16 CONST: Family member. -/
def R.PART_NUMBER : Reg := ⟨0x100001, 0x6400⟩
/-- Table 0.3, 0x1000:02, U8 CONST: 24 = G24, 20 = G20. -/
def R.GRADE : Reg := ⟨0x100002, 0⟩
/-- Table 0.3, 0x1000:03, U8 CONST: 0xA1 = A1, 0xB0 = B0. -/
def R.STEPPING : Reg := ⟨0x100003, 0⟩
/-- Table 0.3, 0x1000:04, U16 CONST: 192 or 160. -/
def R.LOGICAL_COLUMNS : Reg := ⟨0x100004, 0⟩
/-- Table 0.3, 0x1000:05, STR16 CONST: Serial number, ASCII, zero-padded. -/
def R.SERIAL : Reg := ⟨0x100005, 0⟩
/-- Table 1.4, 0x1000:08, U16 RO: Bit p = 1: the channels of port p are present (FE_STATE = PRESENT), or, while the array is not armed, port p waits in state ALIGNED (R62). -/
def R.FE_PRESENT : Reg := ⟨0x100008, 0x0000⟩
/-- Table 1.4, 0x1000:09, U8 RO: Bit 0: RING_W trained and HELLO exchanged. Bit 1: RING_E trained and HELLO exchanged. Bits [7:2] reserved. -/
def R.RING_LINKS : Reg := ⟨0x100009, 0x00⟩
/-- Table 1.4, 0x1000:0A, U8 RO: Devices in the ring, this one included, 1 to 32. -/
def R.RING_SIZE : Reg := ⟨0x10000A, 1⟩
/-- Table 1.4, 0x1000:0B, U8 RO: 0 = no partner; 1 = partner trained and HELLO exchanged. -/
def R.MIRROR_LINK : Reg := ⟨0x10000B, 0⟩
/-- Table 1.4, 0x1000:0C, U8 RO: 0 = link down; 1 = link up; 2 = link up and verdict ring enabled. -/
def R.HOST_LINK : Reg := ⟨0x10000C, 0⟩
/-- Table 1.4, 0x1000:0D, U8 RO: 0 = free-running; 1 = PTP locked; 2 = PPS_IN locked; 3 = holdover. -/
def R.TIME_SOURCE : Reg := ⟨0x10000D, 0⟩
/-- Table 2.6, 0x2000:01, U16 RWS: Offset of B_0 after the arming SYSREF edge, in ac, 24 to 480. -/
def R.RELEASE_OFFSET : Reg := ⟨0x200001, 96⟩
/-- Table 2.6, 0x2000:02, U32 RO: SYSREF edges off the frame grid since arming; saturates at 0xFFFF_FFFF. -/
def R.SYSREF_MISPLACED : Reg := ⟨0x200002, 0⟩
/-- Table 2.6, 0x2000:03, U8 RO: Current clock-reference port, 0 to 15; 0xFF = none. -/
def R.CLOCK_REF_PORT : Reg := ⟨0x200003, 0xFF⟩
/-- Table 2.6, 0x2001:01–80, I16 RO: Least release margin of LANE_0 to LANE_127 since arming, in ac; 0x7FFF = no data yet. -/
def R.LANE_MARGIN (i : Nat) : Reg := ⟨0x200101 + i, 0x7FFF⟩
/-- Table 2.6, 0x3000:01, U16 RWS: F in ac, 600 to 9,600, multiple of 24. -/
def R.FRAME_LENGTH : Reg := ⟨0x300001, 1200⟩
/-- Table 2.6, 0x3000:02, U16 RWS: Verdict-line edge after E_n, in ac, 360 to 2,400. -/
def R.VERDICT_LATENCY : Reg := ⟨0x300002, 576⟩
/-- Table 2.6, 0x3000:03, U64 RO: Number of the frame most recently issued. -/
def R.FRAME_NUMBER : Reg := ⟨0x300003, 0⟩
/-- Table 2.6, 0x3000:04, U8 RO: 0 = understorey oscillator; 1 = locked to CLOCK_REF_PORT; 2 = holding. -/
def R.CLOCK_STATE : Reg := ⟨0x300004, 0⟩
/-- Table 2.6, 0x3000:05, U16 RO: L_c of the current context, in ac. -/
def R.COMPILED_LATENCY : Reg := ⟨0x300005, 0⟩
/-- Table 2.6, 0x4000:10, U32 RO: Contributions discarded as late since reset; saturates at 0xFFFF_FFFF. -/
def R.RING_LATE_COUNT : Reg := ⟨0x400010, 0⟩
/-- Table 3.7, 0x2010–0x201F:01, U8 RWS: 0 = port p ignored; PRESENT_N not watched, lanes powered down. -/
def R.PORT_ENABLE (i : Nat) : Reg := ⟨0x201001 + 256 * i, 1⟩
/-- Table 3.7, 0x2010–0x201F:02, U8 RWS: 0 = as declared; 1 = standard; 2 = wide. -/
def R.PORT_MODE (i : Nat) : Reg := ⟨0x201002 + 256 * i, 0⟩
/-- Table 3.7, 0x2010–0x201F:03, U8 RWS: 0 = as declared; 0x0B = JESD204B; 0x0C = JESD204C. -/
def R.PORT_PROFILE (i : Nat) : Reg := ⟨0x201003 + 256 * i, 0⟩
/-- Table 3.7, 0x2010–0x201F:04, U32 RWS: kS/s per channel; 0 = as declared. -/
def R.PORT_SAMPLE_RATE (i : Nat) : Reg := ⟨0x201004 + 256 * i, 0⟩
/-- Table 3.7, 0x2010–0x201F:05, U8 RWS: 1 to 64; 0 = as declared. -/
def R.PORT_CHANNELS (i : Nat) : Reg := ⟨0x201005 + 256 * i, 0⟩
/-- Table 3.7, 0x2010–0x201F:06, U8 RWS: Bits [2i+1:2i]: link lane feeding LANE_(4p+i). -/
def R.LANE_MAP (i : Nat) : Reg := ⟨0x201006 + 256 * i, 0xE4⟩
/-- Table 3.7, 0x2010–0x201F:07, U8 RWS: Bit i = 1 inverts LANE_(4p+i); bits [7:4] reserved. -/
def R.LANE_POLARITY (i : Nat) : Reg := ⟨0x201007 + 256 * i, 0x00⟩
/-- Table 3.7, 0x2010–0x201F:08, U8 RWS: SYSREF sampling delay, 0 to 15, in 1/16 ac. -/
def R.SYSREF_DELAY (i : Nat) : Reg := ⟨0x201008 + 256 * i, 0⟩
/-- Table 3.7, 0x2010–0x201F:09, U8 RO: 0 EMPTY, 1 DISCOVERING, 2 REFUSED, 3 TRAINING, 4 ALIGNED, 5 ALIGNING, 6 PRESENT, 7 RETRAINING, 8 RETIRED, 9 DISABLED. -/
def R.FE_STATE (i : Nat) : Reg := ⟨0x201009 + 256 * i, 0⟩
/-- Table 3.7, 0x2010–0x201F:0A, U8 RO: 0 none; reasons 1, 3, 4, 6, 7, 8, 9 as in Table 3.3. -/
def R.FE_REFUSE_REASON (i : Nat) : Reg := ⟨0x20100A + 256 * i, 0⟩
/-- Table 3.7, 0x2010–0x201F:0B, OCT256 RO: Last descriptor read, as received. -/
def R.FE_DESCRIPTOR (i : Nat) : Reg := ⟨0x20100B + 256 * i, 0⟩
/-- Table 3.7, 0x2010–0x201F:0C, U8 WO: Write 1 to start discovery afresh. -/
def R.PORT_REINSTATE (i : Nat) : Reg := ⟨0x20100C + 256 * i, 0⟩
/-- Table 3.7, 0x2010–0x201F:0D, I8 RO: Least SYSREF sampling margin since arming, in 1/16 ac. -/
def R.SYSREF_PHASE_MARGIN (i : Nat) : Reg := ⟨0x20100D + 256 * i, 0⟩
/-- Table 3.7, 0x2010–0x201F:0E, U32 RO: In-band interrupts received; saturates at 0xFFFF_FFFF. -/
def R.IBI_COUNT (i : Nat) : Reg := ⟨0x20100E + 256 * i, 0⟩
/-- Table 3.8, 0x2002:01–80, U8 RO: 0 unused, 1 training, 2 up, 3 retraining, 4 retired, 5 test. -/
def R.LANE_STATE (i : Nat) : Reg := ⟨0x200201 + i, 0⟩
/-- Table 3.8, 0x2003:01–80, U32 RO: CRC-12 mismatches (C) or 8b/10b errors (B); saturates. -/
def R.LANE_CODE_ERRORS (i : Nat) : Reg := ⟨0x200301 + i, 0⟩
/-- Table 3.8, 0x2004:01–80, U8 RO: Attempts in the current episode, 0 to 3. -/
def R.LANE_RETRAINS (i : Nat) : Reg := ⟨0x200401 + i, 0⟩
/-- Table 3.8, 0x2005:01–80, U16 RO: Eye height, mV. -/
def R.LANE_EYE_HEIGHT (i : Nat) : Reg := ⟨0x200501 + i, 0⟩
/-- Table 3.8, 0x2006:01–80, U8 RO: Eye width, UI/64. -/
def R.LANE_EYE_WIDTH (i : Nat) : Reg := ⟨0x200601 + i, 0⟩
/-- Table 3.8, 0x2007:01–80, U32 RO: Margin events since reset; saturates. -/
def R.LANE_MARGIN_EVENTS (i : Nat) : Reg := ⟨0x200701 + i, 0⟩
/-- Table 3.8, 0x2008:01, U16 RW: mV. -/
def R.MARGIN_WARN_HEIGHT : Reg := ⟨0x200801, 30⟩
/-- Table 3.8, 0x2008:02, U8 RW: UI/64. -/
def R.MARGIN_WARN_WIDTH : Reg := ⟨0x200802, 16⟩
/-- Table 3.8, 0x2008:03, U16 RW: Code errors per 1 ms that start a retrain, 1 to 65,535. -/
def R.RETRAIN_ERROR_LIMIT : Reg := ⟨0x200803, 16⟩
/-- Table 3.8, 0x5010:01–80, U8 RWS: [2:0]: 0 off, 1 PRBS7, 2 PRBS9, 3 PRBS15, 4 PRBS23, 5 PRBS31; [7] = 1 internal generator and loopback; [6:3] reserved. -/
def R.PRBS_MODE (i : Nat) : Reg := ⟨0x501001 + i, 0⟩
/-- Table 3.8, 0x5011:01–80, U32 RO: Checker bit errors since PRBS_MODE was last written; saturates. -/
def R.PRBS_ERRORS (i : Nat) : Reg := ⟨0x501101 + i, 0⟩
/-- Table 3.8, 0x5012:01–80, U8 RW: 0 off; 1 one error; 10 to 40: one error every 2^k bits. -/
def R.INJECT_RATE (i : Nat) : Reg := ⟨0x501201 + i, 0⟩
/-- Table 3.8, 0x5013:01–80, U8 RW: 1 pauses adaptation; refused while TEST_EN is low. -/
def R.ADAPT_HOLD (i : Nat) : Reg := ⟨0x501301 + i, 0⟩
/-- Table 4.4, 0x2400–0x2407:01–80, U8 RWL: Filter profile 0 to 63. -/
def R.CH_PROFILE (i : Nat) : Reg := ⟨0x240001 + 256 * (i / 128) + i % 128, 0⟩
/-- Table 4.4, 0x2408–0x240F:01–80, U8 RWL: 0 = conditioned; 1 = unpacked. -/
def R.CH_RING_TAP (i : Nat) : Reg := ⟨0x240801 + 256 * (i / 128) + i % 128, 0⟩
/-- Table 4.4, 0x2410–0x2417:01–80, U16 RWG: [0] level, [1] slope, [2] window enable; [3] AND; [4] edge mode; [5] level falling; [6] window inside; [11:8] slope span − 1; [15:12], [7] reserved. -/
def R.CMP_CONFIG (i : Nat) : Reg := ⟨0x241001 + 256 * (i / 128) + i % 128, 0x0000⟩
/-- Table 4.4, 0x2418–0x241F:01–80, I16 RWG: Level threshold. -/
def R.LEVEL (i : Nat) : Reg := ⟨0x241801 + 256 * (i / 128) + i % 128, 0⟩
/-- Table 4.4, 0x2420–0x2427:01–80, U16 RWG: Hysteresis, 0 to 32,767. -/
def R.LEVEL_HYST (i : Nat) : Reg := ⟨0x242001 + 256 * (i / 128) + i % 128, 0⟩
/-- Table 4.4, 0x2428–0x242F:01–80, I16 RWG: Slope threshold. -/
def R.SLOPE_THRESHOLD (i : Nat) : Reg := ⟨0x242801 + 256 * (i / 128) + i % 128, 0⟩
/-- Table 4.4, 0x2430–0x2437:01–80, I16 RWG: Window lower bound. -/
def R.WIN_LO (i : Nat) : Reg := ⟨0x243001 + 256 * (i / 128) + i % 128, 0⟩
/-- Table 4.4, 0x2438–0x243F:01–80, I16 RWG: Window upper bound; WIN_HI < WIN_LO is refused at commit. -/
def R.WIN_HI (i : Nat) : Reg := ⟨0x243801 + 256 * (i / 128) + i % 128, 0⟩
/-- Table 4.4, 0x2440–0x2447:01–80, U32 RO: Conditioning saturations; saturates at 0xFFFF_FFFF. -/
def R.COND_SAT (i : Nat) : Reg := ⟨0x244001 + 256 * (i / 128) + i % 128, 0⟩
/-- Table 4.4, 0x2448–0x244F:01–80, U32 RO: Rising edges of c; saturates at 0xFFFF_FFFF. -/
def R.FLAG_COUNT (i : Nat) : Reg := ⟨0x244801 + 256 * (i / 128) + i % 128, 0⟩
/-- Table 4.5, 0x2600–0x263F:01, I16[5] RWG: b0, b1, b2, a1, a2, Q2.14. -/
def R.BQ1_COEF (i : Nat) : Reg := ⟨0x260001 + 256 * i, 0⟩
/-- Table 4.5, 0x2600–0x263F:02, I16[5] RWG: As BQ1_COEF. -/
def R.BQ2_COEF (i : Nat) : Reg := ⟨0x260002 + 256 * i, 0⟩
/-- Table 4.5, 0x2600–0x263F:03, U8 RWG: [0] biquad 1, [1] biquad 2, [2] FIR; 0 = bypass; [7:3] reserved. -/
def R.FILTER_ENABLE (i : Nat) : Reg := ⟨0x260003 + 256 * i, 0x00⟩
/-- Table 4.5, 0x2600–0x263F:04, I16[32] RWG: h0 to h31, Q1.15. -/
def R.FIR_TAPS (i : Nat) : Reg := ⟨0x260004 + 256 * i, 0⟩
/-- Table 4.5, 0x2600–0x263F:05, U8 RWG: D = 1, 2, 4 or 8; any other value refused. -/
def R.FIR_DECIMATION (i : Nat) : Reg := ⟨0x260005 + 256 * i, 1⟩
/-- Table 4.5, 0x2600–0x263F:06, U8 RWG: 0 OFF, 1 TRACK, 2 GATED. -/
def R.BLR_MODE (i : Nat) : Reg := ⟨0x260006 + 256 * i, 0⟩
/-- Table 4.5, 0x2600–0x263F:07, U8 RWG: k, 4 to 20. -/
def R.BLR_SHIFT (i : Nat) : Reg := ⟨0x260007 + 256 * i, 16⟩
/-- Table 4.5, 0x2600–0x263F:08, U16 RWG: G. -/
def R.BLR_GATE (i : Nat) : Reg := ⟨0x260008 + 256 * i, 1024⟩
/-- Table 4.5, 0x2600–0x263F:09, U32 RWG: In 1/256 ac. -/
def R.GROUP_DELAY_COMP (i : Nat) : Reg := ⟨0x260009 + 256 * i, 0⟩
/-- Table 4.5, 0x2700:01–10, I16 RO: φ_p of ports 0 to 15, last latched. -/
def R.TDC_PHASE (i : Nat) : Reg := ⟨0x270001 + i, 0⟩
/-- Table 4.5, 0x2701:01, U8 RO: 0 = nominal table; 1 = calibrated. -/
def R.TDC_CAL_STATE : Reg := ⟨0x270101, 0⟩
/-- Table 4.5, 0x2701:02, U32 RO: Tables applied since reset; saturates at 0xFFFF_FFFF. -/
def R.TDC_CAL_UPDATES : Reg := ⟨0x270102, 0⟩
/-- Table 4.5, 0x2710:01–20, U8 RWL: EDGE_0 to EDGE_31: 0 off, 1 rising, 2 falling, 3 both. -/
def R.EDGE_CONFIG (i : Nat) : Reg := ⟨0x271001 + i, 0⟩
/-- Table 4.5, 0x2711:01–20, U8 RWL: 0 to 255 ac. -/
def R.EDGE_DELAY (i : Nat) : Reg := ⟨0x271101 + i, 0⟩
/-- Table 4.5, 0x2712:01–20, U32 RO: Merged edges; saturates at 0xFFFF_FFFF. -/
def R.EDGE_MERGED (i : Nat) : Reg := ⟨0x271201 + i, 0⟩
/-- Table 4.5, 0x2720:01, U32 RO: Guaranteed pre-trigger depth, ac, undecimated. -/
def R.HISTORY_DEPTH : Reg := ⟨0x272001, 280800⟩
/-- Table 5.20, 0x3000:08, U32 RO: Tokens discarded under R116, all cores; saturates at 0xFFFF_FFFF. -/
def R.STALE_TOKENS : Reg := ⟨0x300008, 0⟩
/-- Table 5.20, 0x3000:09, U32 RO: Tokens discarded under R110, all cores; saturates at 0xFFFF_FFFF. -/
def R.STRAY_TOKENS : Reg := ⟨0x300009, 0⟩
/-- Table 5.20, 0x3000:0A, U32 RO: Corrected core SRAM errors, including scrubber corrections; saturates at 0xFFFF_FFFF. -/
def R.ECC_CORRECTED : Reg := ⟨0x30000A, 0⟩
/-- Table 5.20, 0x3000:0B, U32 RO: Uncorrectable core SRAM errors; saturates at 0xFFFF_FFFF. -/
def R.ECC_UNCORRECTED : Reg := ⟨0x30000B, 0⟩
/-- Table 5.20, 0x3000:0C, U16 RWS: Firing watchdog in ac, 2,400 to 65,535. -/
def R.FIRE_WATCHDOG : Reg := ⟨0x30000C, 4096⟩
/-- Table 5.20, 0x3000:0D, U32 RO: Firing-watchdog faults; saturates at 0xFFFF_FFFF. -/
def R.FIRE_WATCHDOG_EVENTS : Reg := ⟨0x30000D, 0⟩
/-- Table 5.20, 0x3010:01, U16 RW: [15:8] physical x, 0–199; [7:0] physical y, 0–127. -/
def R.CORE_SELECT : Reg := ⟨0x301001, 0x0000⟩
/-- Table 5.20, 0x3010:02, U8 RO: Current context of the selected core; 0xFF when the core holds no logical core of the map in force (R143). -/
def R.CORE_CONTEXT : Reg := ⟨0x301002, 0⟩
/-- Table 5.20, 0x3010:03, U8 RO: Running instances, 0–4. -/
def R.CORE_INSTANCES : Reg := ⟨0x301003, 0⟩
/-- Table 5.20, 0x3010:04, U8 RO: Occupied tag slots, 0–8. -/
def R.CORE_SLOTS : Reg := ⟨0x301004, 0⟩
/-- Table 5.20, 0x3010:05, U8 RO: Largest slot occupancy since arming. -/
def R.CORE_MAX_SLOTS : Reg := ⟨0x301005, 0⟩
/-- Table 5.20, 0x3010:06, U16 RO: Tag of the instance started last, as Table 5.2. -/
def R.CORE_LAST_TAG : Reg := ⟨0x301006, 0x0000⟩
/-- Table 6.10, 0x3010:07, U8 RO: Largest occupancy of any input queue of the selected core since arming, 0–8. -/
def R.CORE_MAX_QUEUE : Reg := ⟨0x301007, 0⟩
/-- Table 6.10, 0x3020:01, U32 RO: Tokens dropped at full queues, all cores; saturates at 0xFFFF_FFFF. -/
def R.QUEUE_OVERFLOWS : Reg := ⟨0x302001, 0⟩
/-- Table 6.10, 0x3020:02, U32 RO: Tokens dropped at output registers; saturates at 0xFFFF_FFFF. -/
def R.RIDE_CONFLICTS : Reg := ⟨0x302002, 0⟩
/-- Table 6.10, 0x3020:03, U32 RO: Tokens dropped at full egress buffers; saturates at 0xFFFF_FFFF. -/
def R.FB_EGRESS_DROPS : Reg := ⟨0x302003, 0⟩
/-- Table 6.10, 0x3020:04, U16 RWS: Egress timeout in ac, 65 to 4,096. -/
def R.FB_SLOT_TIMEOUT : Reg := ⟨0x302004, 128⟩
/-- Table 6.10, 0x3020:05, U32 RO: Tokens dropped under FB_SLOT_TIMEOUT; saturates at 0xFFFF_FFFF. -/
def R.FB_SLOT_TIMEOUTS : Reg := ⟨0x302005, 0⟩
/-- Table 6.10, 0x3020:06, U32 RO: Parity failures on die links; saturates at 0xFFFF_FFFF. -/
def R.DIE_LINK_ERRORS : Reg := ⟨0x302006, 0⟩
/-- Table 6.10, 0x3020:07, U32 RO: Frames with one or more schedule faults; saturates at 0xFFFF_FFFF. -/
def R.SCHEDULE_FAULT_FRAMES : Reg := ⟨0x302007, 0⟩
/-- Table 6.10, 0x3020:08, U64 RO: Frame number of the latest schedule fault. -/
def R.LAST_SCHEDULE_FAULT_FRAME : Reg := ⟨0x302008, 0⟩
/-- Table 6.10, 0x3020:09, U16 RO: Ac from t0 to the marker's arrival at the last core, for the map in force; 0 before the first load. -/
def R.GROWTH_RING_SPAN : Reg := ⟨0x302009, 0⟩
/-- Table 7.13, 0x3800:01, U32 RO: Saturating additions into main accumulators, all cores; saturates at 0xFFFF_FFFF. -/
def R.ACC_SAT : Reg := ⟨0x380001, 0⟩
/-- Table 7.13, 0x3800:02, U32 RO: Saturated RESCALE results, monitored or not; saturates at 0xFFFF_FFFF. -/
def R.RESCALE_SAT : Reg := ⟨0x380002, 0⟩
/-- Table 7.13, 0x3800:03, U32 RO: Tag mismatches at BCLOSE; saturates at 0xFFFF_FFFF. -/
def R.SCALE_SKEW_EVENTS : Reg := ⟨0x380003, 0⟩
/-- Table 7.13, 0x3800:04, U16 RO: Core of the latest mismatch: [15:8] physical x, [7:0] physical y. -/
def R.SCALE_SKEW_LAST : Reg := ⟨0x380004, 0x0000⟩
/-- Table 7.13, 0x3800:05, U64 RO: Frame of the latest mismatch. -/
def R.SCALE_SKEW_LAST_FRAME : Reg := ⟨0x380005, 0⟩
/-- Table 7.13, 0x3800:06, U16 RWL: Stale threshold, Q0.16, 1 to 65,535. -/
def R.CLIP_SHARE_LIMIT : Reg := ⟨0x380006, 64⟩
/-- Table 7.13, 0x3800:07, U16 RO: Monitors stale now, 0–4,096. -/
def R.STALE_MONITORS : Reg := ⟨0x380007, 0⟩
/-- Table 7.13, 0x3800:08, U16 RO: Lowest stale monitor number; 0xFFFF = none. -/
def R.FIRST_STALE_MONITOR : Reg := ⟨0x380008, 0xFFFF⟩
/-- Table 7.13, 0x3810:01, U64 RW: Host address of the update list; a value that is not a multiple of 64 is refused. -/
def R.ENC_LIST_ADDR : Reg := ⟨0x381001, 0⟩
/-- Table 7.13, 0x3810:02, U32 RW: Update blocks in the list, 1 to 76,800. -/
def R.ENC_LIST_COUNT : Reg := ⟨0x381002, 0⟩
/-- Table 7.13, 0x3810:03, U8 WO: Write 1 to stage the list. -/
def R.ENC_START : Reg := ⟨0x381003, 0⟩
/-- Table 7.13, 0x3810:04, U8 WO: Write 1 to commit a staged update. -/
def R.ENC_COMMIT : Reg := ⟨0x381004, 0⟩
/-- Table 7.13, 0x3810:05, U8 WO: Write 1 to discard an update not yet committed. -/
def R.ENC_ABANDON : Reg := ⟨0x381005, 0⟩
/-- Table 7.13, 0x3810:06, U8 RO: As Table 7.8. -/
def R.ENC_STATE : Reg := ⟨0x381006, 0⟩
/-- Table 7.13, 0x3810:07, U64 RO: Frame g of the latest commit. -/
def R.ENC_COMMIT_FRAME : Reg := ⟨0x381007, 0⟩
/-- Table 7.13, 0x3810:08, U32 RO: [31:24] cause of Table 7.11, [23:0] block index; 0 = none. -/
def R.ENC_ERROR : Reg := ⟨0x381008, 0⟩
/-- Table 7.13, 0x3810:09, U32 RO: Clamped weights since reset; saturates at 0xFFFF_FFFF. -/
def R.ENC_CLAMPS : Reg := ⟨0x381009, 0⟩
/-- Table 7.13, 0x3810:0A, U32 RO: Blocks retired into core memory since reset; saturates at 0xFFFF_FFFF. -/
def R.ENC_BLOCKS_APPLIED : Reg := ⟨0x38100A, 0⟩
/-- Table 7.13, 0x3820–0x383F:01–80, U32 RO: Clips of monitor m since its context was loaded; saturates at 0xFFFF_FFFF. -/
def R.CLIP_COUNT (i : Nat) : Reg := ⟨0x382001 + 256 * (i / 128) + i % 128, 0⟩
/-- Table 7.13, 0x3840–0x385F:01–80, U16 RO: Clip share of monitor m, Q0.16. -/
def R.CLIP_SHARE (i : Nat) : Reg := ⟨0x384001 + 256 * (i / 128) + i % 128, 0⟩
/-- Table 8.13, 0x3030:01, U64 RW: Host address of the object; not a multiple of 4,096 is refused. -/
def R.LOAD_ADDR : Reg := ⟨0x303001, 0⟩
/-- Table 8.13, 0x3030:02, U64 RW: Object length. -/
def R.LOAD_BYTES : Reg := ⟨0x303002, 0⟩
/-- Table 8.13, 0x3030:03, U8 RW: Target slot, 0 to 3. -/
def R.LOAD_SLOT : Reg := ⟨0x303003, 0⟩
/-- Table 8.13, 0x3030:04, U8 WO: 1 load or patch, 2 unload, 3 check only: phases 1 to 4 with nothing written. -/
def R.LOAD_COMMAND : Reg := ⟨0x303004, 0⟩
/-- Table 8.13, 0x3030:05, U8 RO: 0 idle, 1–7 as Table 8.11. -/
def R.LOAD_STATE : Reg := ⟨0x303005, 0⟩
/-- Table 8.13, 0x3030:06, U16 RO: As Table 8.12. -/
def R.LOAD_ERROR : Reg := ⟨0x303006, 0x0000⟩
/-- Table 8.13, 0x3030:07, U64 RO: Directory entry, record, path or relocation index of the failure. -/
def R.LOAD_ERROR_DETAIL : Reg := ⟨0x303007, 0⟩
/-- Table 8.13, 0x3030:08, U8 RO: Smallest pad of the last load; 0xFF = none. -/
def R.PAD_MARGIN : Reg := ⟨0x303008, 0xFF⟩
/-- Table 8.13, 0x3030:09, U32 RO: Program-image region in use, bytes. -/
def R.RETAINED_BYTES : Reg := ⟨0x303009, 0⟩
/-- Table 8.13, 0x3030:0A, U16 RO: Retired cores in the map in force. -/
def R.WINDTHROW_COUNT : Reg := ⟨0x30300A, 0⟩
/-- Table 8.13, 0x3030:0B, U16 WO: [15:8] physical x, 0–199; [7:0] physical y, 0–127; other values refused with 0xA005 (R232). -/
def R.RETIRE_CORE : Reg := ⟨0x30300B, 0⟩
/-- Table 8.13, 0x3031:01–04, OCT32 RO: Program digest of slots 0 to 3. -/
def R.PROGRAM_DIGEST (i : Nat) : Reg := ⟨0x303101 + i, 0⟩
/-- Table 8.13, 0x3032:01–04, OCT32 RO: Weight digest of slots 0 to 3, as loaded. -/
def R.WEIGHT_DIGEST (i : Nat) : Reg := ⟨0x303201 + i, 0⟩
/-- Table 8.13, 0x3033:01–04, U16 RO: Monitor base of slots 0 to 3; 0xFFFF = empty. -/
def R.MONITOR_BASE (i : Nat) : Reg := ⟨0x303301 + i, 0xFFFF⟩
/-- Table 8.13, 0x3041–0x3048:01–80, U32 RO: Retired columns of one die-row segment, [24:0]; [31:25] reserved. -/
def R.WINDTHROW_MAP (i : Nat) : Reg := ⟨0x304101 + 256 * (i / 128) + i % 128, 0⟩
/-- Table 9.7, 0x3050:01, U8 RWS: Slot current at arming, 0 to 3. -/
def R.ARM_CONTEXT : Reg := ⟨0x305001, 0⟩
/-- Table 9.7, 0x3050:02, U64 WO: Request a switch; [1:0] target slot. -/
def R.CONTEXT_SWITCH : Reg := ⟨0x305002, 0⟩
/-- Table 9.7, 0x3050:03, U64 RO: Pending switch, if any. -/
def R.PENDING_SWITCH : Reg := ⟨0x305003, 0⟩
/-- Table 9.7, 0x3050:04, U8 RO: Slot named by the latest growth ring. -/
def R.CURRENT_CONTEXT : Reg := ⟨0x305004, 0⟩
/-- Table 9.7, 0x3050:05, U64 RO: Frame g of the latest switch. -/
def R.SWITCH_FRAME : Reg := ⟨0x305005, 0⟩
/-- Table 9.7, 0x3050:06, U32 RO: Switches since reset, fallback switches included; saturates at 0xFFFF_FFFF. -/
def R.CONTEXT_SWITCHES : Reg := ⟨0x305006, 0⟩
/-- Table 9.7, 0x3050:07, U8 RW: 1 = slot 3 is the fallback context. -/
def R.FALLBACK_ENABLE : Reg := ⟨0x305007, 0⟩
/-- Table 9.7, 0x3050:08, U8 RO: 1 = the canopy holds the fallback. -/
def R.FALLBACK_HELD : Reg := ⟨0x305008, 0⟩
/-- Table 9.7, 0x3050:09, U64 WO: [1:0]: 1 pause at p; 2 resume at r; 3 resume at r without restore; 0 refused. -/
def R.PAUSE_COMMAND : Reg := ⟨0x305009, 0⟩
/-- Table 9.7, 0x3050:0A, U8 RO: As Table 9.3. -/
def R.PAUSE_STATE : Reg := ⟨0x30500A, 0⟩
/-- Table 9.7, 0x3050:0B, U64 RO: p of the latest pause. -/
def R.PAUSE_FRAME : Reg := ⟨0x30500B, 0⟩
/-- Table 9.7, 0x3050:0C, U64 RO: Frame at which the latest resume took effect. -/
def R.RESUME_FRAME : Reg := ⟨0x30500C, 0⟩
/-- Table 9.7, 0x3050:0D, OCT32 RO: SM3 digest of the save image; all 0 = no image. -/
def R.SAVE_DIGEST : Reg := ⟨0x30500D, 0⟩
/-- Table 9.7, 0x3051:01–04, U8 RO: State of slots 0 to 3, as Table 9.1. -/
def R.SLOT_STATE (i : Nat) : Reg := ⟨0x305101 + i, 0⟩
/-- Table 10.9, 0x3060:01, U8 RWL: [0] verdict, [1] trigger, [2] capture, [3] review records carry a digest; [7:4] reserved. -/
def R.AUDIT_ENABLE : Reg := ⟨0x306001, 0x00⟩
/-- Table 10.9, 0x3060:02, OCT16 RWS: H of R263; 0 refused. -/
def R.FP_KEY : Reg := ⟨0x306002, 0x0123456789ABCDEFFEDCBA9876543210⟩
/-- Table 10.9, 0x3060:03, OCT16 RO: Most recent input fingerprint. -/
def R.LAST_FINGERPRINT : Reg := ⟨0x306003, 0⟩
/-- Table 10.9, 0x3060:04, U64 RO: Frame of LAST_FINGERPRINT. -/
def R.LAST_FP_FRAME : Reg := ⟨0x306004, 0⟩
/-- Table 10.9, 0x3060:05, U32 RO: Records written with an all-zero digest (R269); saturates at 0xFFFF_FFFF. -/
def R.AUDIT_SKIPPED : Reg := ⟨0x306005, 0⟩
/-- Table 10.9, 0x3060:06, U32 RO: Timing-dependent choices (R257); saturates at 0xFFFF_FFFF. -/
def R.TIMING_CHOICES : Reg := ⟨0x306006, 0⟩
/-- Table 10.9, 0x3061:01–04, OCT32 RO: Live weight digest of slots 0 to 3 (R258). -/
def R.LIVE_WEIGHT_DIGEST (i : Nat) : Reg := ⟨0x306101 + i, 0⟩
/-- Table 10.9, 0x4020:01, U8 RWS: 1 = arm at the ring barrier. -/
def R.BARRIER_MODE : Reg := ⟨0x402001, 0⟩
/-- Table 10.9, 0x4020:02, U16 RWS: K, 1 to 65,535 SYSREF periods. -/
def R.BARRIER_LEAD_PERIODS : Reg := ⟨0x402002, 64⟩
/-- Table 10.9, 0x4020:03, U16 RW: Step 2 timeout, ms, 1 to 10,000. -/
def R.BARRIER_TIMEOUT : Reg := ⟨0x402003, 100⟩
/-- Table 10.9, 0x4020:04, U8 RO: 0 IDLE, 1 WAITING, 2 ARMED, 3 FAILED, 4 ALONE. -/
def R.BARRIER_STATE : Reg := ⟨0x402004, 0⟩
/-- Table 10.9, 0x4020:05, U8 RO: Largest neighbour frame-boundary offset since arming, ac. -/
def R.BARRIER_SKEW_MAX : Reg := ⟨0x402005, 0⟩
/-- Table 10.9, 0x4020:06, U32 RO: Offsets above 3 ac (R261); saturates at 0xFFFF_FFFF. -/
def R.BARRIER_SKEW_EVENTS : Reg := ⟨0x402006, 0⟩
/-- Table 11.9, 0x2800:01, U32 RO: Frames with a token count different from VERDICT_EXPECTED; saturates at 0xFFFF_FFFF. -/
def R.VERDICT_MISSING : Reg := ⟨0x280001, 0⟩
/-- Table 11.9, 0x2800:02, U32 RO: Poisoned verdict tokens; saturates. -/
def R.VERDICT_POISONED : Reg := ⟨0x280002, 0⟩
/-- Table 11.9, 0x2800:03, U32 RO: Verdict tokens with ITER above 7; saturates. -/
def R.VERDICT_BAD_ITER : Reg := ⟨0x280003, 0⟩
/-- Table 11.9, 0x2800:04, U32 RO: Verdict tokens after close; saturates. -/
def R.VERDICT_LATE_TOKENS : Reg := ⟨0x280004, 0⟩
/-- Table 11.9, 0x2800:05, U32 RO: Verdict words with INVALID set; saturates. -/
def R.INVALID_FRAMES : Reg := ⟨0x280005, 0⟩
/-- Table 11.9, 0x2800:06, U16 RWL: Vector bits [1599:1584]. -/
def R.HOST_BITS : Reg := ⟨0x280006, 0x0000⟩
/-- Table 11.9, 0x2800:07, U32 RO: Triggers issued; saturates. -/
def R.TRIGGERS : Reg := ⟨0x280007, 0⟩
/-- Table 11.9, 0x2800:08, U64 RO: Frame of the latest trigger. -/
def R.LAST_TRIGGER_FRAME : Reg := ⟨0x280008, 0⟩
/-- Table 11.9, 0x2801:01–04, U16 RO: Verdict tokens per frame for slots 0 to 3. -/
def R.VERDICT_EXPECTED (i : Nat) : Reg := ⟨0x280101 + i, 0⟩
/-- Table 11.9, 0x2802:01–07, U8 RWL: Ring word 0 to 6: [7:3] ring position, [2:1] slot, [0] enable. -/
def R.RING_WORD_SELECT (i : Nat) : Reg := ⟨0x280201 + i, 0x00⟩
/-- Table 11.9, 0x2810–0x284F:01, U8 RWG: 1 = enabled. -/
def R.PAT_ENABLE (i : Nat) : Reg := ⟨0x281001 + 256 * i, 0⟩
/-- Table 11.9, 0x2810–0x284F:02, U8 RWG: 0 ALL, 1 ANY_K. -/
def R.PAT_MODE (i : Nat) : Reg := ⟨0x281002 + 256 * i, 0⟩
/-- Table 11.9, 0x2810–0x284F:03, U16 RWG: K for ANY_K, 1 to 2,048. -/
def R.PAT_K (i : Nat) : Reg := ⟨0x281003 + 256 * i, 1⟩
/-- Table 11.9, 0x2810–0x284F:04, OCT256 RWG: Care bits; byte j holds vector bits [8j+7:8j]. -/
def R.PAT_MASK (i : Nat) : Reg := ⟨0x281004 + 256 * i, 0⟩
/-- Table 11.9, 0x2810–0x284F:05, OCT256 RWG: Required values, laid out as PAT_MASK. -/
def R.PAT_VALUE (i : Nat) : Reg := ⟨0x281005 + 256 * i, 0⟩
/-- Table 11.9, 0x2810–0x284F:06, U32 RWG: Hold-off, ac. -/
def R.PAT_HOLDOFF (i : Nat) : Reg := ⟨0x281006 + 256 * i, 0⟩
/-- Table 11.9, 0x2810–0x284F:07, U32 RWG: Post-trigger count, ac. -/
def R.PAT_POST (i : Nat) : Reg := ⟨0x281007 + 256 * i, 0⟩
/-- Table 11.9, 0x2810–0x284F:08, U8 RWG: Capture group 0 to 15; 0xFF = none. -/
def R.PAT_GROUP (i : Nat) : Reg := ⟨0x281008 + 256 * i, 0xFF⟩
/-- Table 11.9, 0x2810–0x284F:09, U8 RWG: 0 to 7, used by the review scheduler. -/
def R.PAT_PRIORITY (i : Nat) : Reg := ⟨0x281009 + 256 * i, 0⟩
/-- Table 11.9, 0x2810–0x284F:0A, U32 RWG: Auto timeout, ac; 0 = off. -/
def R.PAT_AUTO (i : Nat) : Reg := ⟨0x28100A + 256 * i, 0⟩
/-- Table 11.9, 0x2810–0x284F:0B, U32 RO: Firings; saturates. -/
def R.PAT_HITS (i : Nat) : Reg := ⟨0x28100B + 256 * i, 0⟩
/-- Table 11.9, 0x2810–0x284F:0C, U32 RO: Forced firings; saturates. -/
def R.PAT_FORCED (i : Nat) : Reg := ⟨0x28100C + 256 * i, 0⟩
/-- Table 11.9, 0x2810–0x284F:0D, U32 RO: Matches suppressed by hold-off; saturates. -/
def R.PAT_SUPPRESSED (i : Nat) : Reg := ⟨0x28100D + 256 * i, 0⟩
/-- Table 11.9, 0x2880–0x2887:01–80, U16 RWL: Flag stretch of channel c, 0 to 1,023 ac. -/
def R.COINC_WINDOW (i : Nat) : Reg := ⟨0x288001 + 256 * (i / 128) + i % 128, 0⟩
/-- Table 11.9, 0x2888:01–20, U16 RWL: Stretch of EDGE_k, 0 to 1,023 ac. -/
def R.EDGE_WINDOW (i : Nat) : Reg := ⟨0x288801 + i, 0⟩
/-- Table 11.9, 0x2890:01–20, U8 RWL: [1:0] mode (Table 11.3); [2] invert; [7:3] reserved. -/
def R.VLINE_MODE (i : Nat) : Reg := ⟨0x289001 + i, 0x00⟩
/-- Table 11.9, 0x2891:01–20, U16 RWL: Class bit 0 to 511 for VLINE_k. -/
def R.VLINE_SOURCE (i : Nat) : Reg := ⟨0x289101 + i, i⟩
/-- Table 11.9, 0x2892:01–20, U16 RWL: PULSE width, 24 to F − 24 ac. -/
def R.VLINE_PULSE_WIDTH (i : Nat) : Reg := ⟨0x289201 + i, 600⟩
/-- Table 11.9, 0x2893:01–20, U8 RWL: 0 safe level, 1 hold (R281). -/
def R.VLINE_INVALID_ACTION (i : Nat) : Reg := ⟨0x289301 + i, 0⟩
/-- Table 11.9, 0x2894:01, U32 WO: Bit k releases latched VLINE_k (R279). -/
def R.VLINE_UNLATCH : Reg := ⟨0x289401, 0⟩
/-- Table 11.9, 0x2894:02, U32 RO: Pin levels after the latest edge. -/
def R.VLINE_STATE : Reg := ⟨0x289402, 0⟩
/-- Table 11.9, 0x2894:03, U8 RO: [0] SAFE_LEVEL_0, [1] SAFE_LEVEL_1; [7:2] reserved. -/
def R.SAFE_LEVEL_STRAPS : Reg := ⟨0x289403, 0⟩
/-- Table 11.9, 0x2894:04, U32 RW: Pin levels while TEST_EN is high. -/
def R.VLINE_TEST_DRIVE : Reg := ⟨0x289404, 0⟩
/-- Table 12.10, 0x2C00:01, U8 RO: 0 OFF, 1 INITIALISING, 2 READY, 3 FAILED. -/
def R.STORE_STATE : Reg := ⟨0x2C0001, 0⟩
/-- Table 12.10, 0x2C00:02, U16 RW: R, 0 to 4,096, multiple of 32 (R300). -/
def R.REVIEW_REGION_PAGES : Reg := ⟨0x2C0002, 4096⟩
/-- Table 12.10, 0x2C00:03, U16 RO: Capture pages in both halves. -/
def R.CAPTURE_PAGES : Reg := ⟨0x2C0003, 26624⟩
/-- Table 12.10, 0x2C00:04, U16 RO: Free capture pages, West half. -/
def R.FREE_PAGES_WEST : Reg := ⟨0x2C0004, 13312⟩
/-- Table 12.10, 0x2C00:05, U16 RO: Free capture pages, East half. -/
def R.FREE_PAGES_EAST : Reg := ⟨0x2C0005, 13312⟩
/-- Table 12.10, 0x2C00:06, U16 RW: Free-page event threshold per half. -/
def R.STORE_LOW_WATER : Reg := ⟨0x2C0006, 1024⟩
/-- Table 12.10, 0x2C00:07, U8 RW: Read share in sixteenths, 0 to 8. -/
def R.STORE_READ_SHARE : Reg := ⟨0x2C0007, 2⟩
/-- Table 12.10, 0x2C00:08, U32 WO: Handle to release. -/
def R.CAPTURE_RELEASE : Reg := ⟨0x2C0008, 0⟩
/-- Table 12.10, 0x2C00:09, U16 RO: Slots in use, 0 to 4,096. -/
def R.CAPTURES_HELD : Reg := ⟨0x2C0009, 0⟩
/-- Table 12.10, 0x2C00:0A, U32 RO: COMPLETE records; saturates at 0xFFFF_FFFF. -/
def R.CAPTURES_COMPLETE : Reg := ⟨0x2C000A, 0⟩
/-- Table 12.10, 0x2C00:0B, U32 RO: TRUNCATED records; saturates. -/
def R.CAPTURES_TRUNCATED : Reg := ⟨0x2C000B, 0⟩
/-- Table 12.10, 0x2C00:0C, U32 RO: SHED records; saturates. -/
def R.CAPTURES_SHED : Reg := ⟨0x2C000C, 0⟩
/-- Table 12.10, 0x2C00:0D, U32 RO: R301; saturates. -/
def R.REFRESH_COLLISIONS : Reg := ⟨0x2C000D, 0⟩
/-- Table 12.10, 0x2C00:0E, U32 RO: Largest elastic-buffer occupancy since reset, bytes. -/
def R.ELASTIC_MAX : Reg := ⟨0x2C000E, 0⟩
/-- Table 12.10, 0x2C00:0F, U32 RO: Retried transactions; saturates. -/
def R.PSRAM_RETRIES : Reg := ⟨0x2C000F, 0⟩
/-- Table 12.10, 0x2C00:10, U32 RO: Bit d = PSRAM die d retired. -/
def R.PSRAM_RETIRED : Reg := ⟨0x2C0010, 0x00000000⟩
/-- Table 12.10, 0x2C00:11, U16 RW: Share cap while the canopy sheds stream rates, 1 to 256. -/
def R.CANOPY_STREAM_SHARE : Reg := ⟨0x2C0011, 32⟩
/-- Table 12.10, 0x2C10–0x2C1F:01, U8 RWG: 0 OFF, 1 CIRCULAR, 2 STREAMING. -/
def R.GROUP_MODE (i : Nat) : Reg := ⟨0x2C1001 + 256 * i, 0⟩
/-- Table 12.10, 0x2C10–0x2C1F:02, OCT128 RWG: Bit c = channel c; byte j holds channels 8j to 8j + 7. -/
def R.GROUP_CHANNELS (i : Nat) : Reg := ⟨0x2C1002 + 256 * i, 0⟩
/-- Table 12.10, 0x2C10–0x2C1F:03, U32 RWG: Pre-trigger ac, 0 to 279,264. -/
def R.GROUP_PRE (i : Nat) : Reg := ⟨0x2C1003 + 256 * i, 0⟩
/-- Table 12.10, 0x2C10–0x2C1F:04, U8 RWG: 0 to 7. -/
def R.GROUP_PRIORITY (i : Nat) : Reg := ⟨0x2C1004 + 256 * i, 0⟩
/-- Table 12.10, 0x2C10–0x2C1F:05, U32 RO: Captures requested; saturates. -/
def R.GROUP_CAPTURES (i : Nat) : Reg := ⟨0x2C1005 + 256 * i, 0⟩
/-- Table 12.10, 0x2C10–0x2C1F:06, U32 RO: Captures shed; saturates. -/
def R.GROUP_SHED (i : Nat) : Reg := ⟨0x2C1006 + 256 * i, 0⟩
/-- Table 12.10, 0x2C10–0x2C1F:07, U32 RO: R316; saturates. -/
def R.GROUP_MARKS_DROPPED (i : Nat) : Reg := ⟨0x2C1007 + 256 * i, 0⟩
/-- Table 12.10, 0x2C10–0x2C1F:08, U64 RO: Frame of the latest commit. -/
def R.GROUP_CONFIG_FRAME (i : Nat) : Reg := ⟨0x2C1008 + 256 * i, 0⟩
/-- Table 12.10, 0x2C10–0x2C1F:09, U32 RO: Triggers that named the group while it was OFF (R317); saturates. -/
def R.GROUP_OFF_HITS (i : Nat) : Reg := ⟨0x2C1009 + 256 * i, 0⟩
/-- Table 12.10, 0x2C20–0x2C2F:01, U8 RWS: 0 OFF, 1 transfer, 2 stream. -/
def R.DMA_KIND (i : Nat) : Reg := ⟨0x2C2001 + 256 * i, 0⟩
/-- Table 12.10, 0x2C20–0x2C2F:02, U8 RWS: Group streamed, 0 to 15. -/
def R.STREAM_GROUP (i : Nat) : Reg := ⟨0x2C2002 + 256 * i, 0⟩
/-- Table 12.10, 0x2C20–0x2C2F:03, U8 RWS: Table 12.5. -/
def R.STREAM_LAYOUT (i : Nat) : Reg := ⟨0x2C2003 + 256 * i, 0⟩
/-- Table 12.10, 0x2C20–0x2C2F:04, U16 RWS: Copy blocks per segment, 1 to 1,024. -/
def R.SEG_BLOCKS (i : Nat) : Reg := ⟨0x2C2004 + 256 * i, 16⟩
/-- Table 12.10, 0x2C20–0x2C2F:05, U64 RWS: 4 KiB aligned. -/
def R.DATA_BUF_ADDR (i : Nat) : Reg := ⟨0x2C2005 + 256 * i, 0⟩
/-- Table 12.10, 0x2C20–0x2C2F:06, U64 RWS: Multiple of 4 KiB, at least one segment. -/
def R.DATA_BUF_BYTES (i : Nat) : Reg := ⟨0x2C2006 + 256 * i, 0⟩
/-- Table 12.10, 0x2C20–0x2C2F:07, U64 RWS: 64-byte aligned. -/
def R.DESC_RING_ADDR (i : Nat) : Reg := ⟨0x2C2007 + 256 * i, 0⟩
/-- Table 12.10, 0x2C20–0x2C2F:08, U32 RWS: Power of 2, 16 to 65,536. -/
def R.DESC_RING_ENTRIES (i : Nat) : Reg := ⟨0x2C2008 + 256 * i, 0⟩
/-- Table 12.10, 0x2C20–0x2C2F:09, U32 RW: Index after the last descriptor written. -/
def R.DESC_PRODUCER (i : Nat) : Reg := ⟨0x2C2009 + 256 * i, 0⟩
/-- Table 12.10, 0x2C20–0x2C2F:0A, U32 RO: Index of the next descriptor to process. -/
def R.DESC_CONSUMER (i : Nat) : Reg := ⟨0x2C200A + 256 * i, 0⟩
/-- Table 12.10, 0x2C20–0x2C2F:0B, U16 RW: 1 to 256, in 1/256. -/
def R.RATE_SHARE (i : Nat) : Reg := ⟨0x2C200B + 256 * i, 256⟩
/-- Table 12.10, 0x2C20–0x2C2F:0C, U8 WO: Write 1 to start. -/
def R.CHANNEL_START (i : Nat) : Reg := ⟨0x2C200C + 256 * i, 0⟩
/-- Table 12.10, 0x2C20–0x2C2F:0D, U8 WO: Write 1 to abort (R324). -/
def R.CHANNEL_ABORT (i : Nat) : Reg := ⟨0x2C200D + 256 * i, 0⟩
/-- Table 12.10, 0x2C20–0x2C2F:0E, U8 RO: 0 STOPPED, 1 RUNNING, 2 ABORTING, 3 ERROR. -/
def R.CHANNEL_STATE (i : Nat) : Reg := ⟨0x2C200E + 256 * i, 0⟩
/-- Table 12.10, 0x2C20–0x2C2F:0F, U64 RO: Bytes written to host memory. -/
def R.BYTES_MOVED (i : Nat) : Reg := ⟨0x2C200F + 256 * i, 0⟩
/-- Table 12.10, 0x2C20–0x2C2F:10, U32 RO: R315; saturates. -/
def R.LOST_SEGMENTS (i : Nat) : Reg := ⟨0x2C2010 + 256 * i, 0⟩
/-- Table 13.6, 0x3070:01, U8 RW: 0 = no dispatch; queued jobs still age. -/
def R.REVIEW_ENABLE : Reg := ⟨0x307001, 1⟩
/-- Table 13.6, 0x3070:02, U16 RW: Queue age limit, ms, 1 to 60,000. -/
def R.REVIEW_MAX_AGE : Reg := ⟨0x307002, 1000⟩
/-- Table 13.6, 0x3070:03, U8 RO: 1 = the canopy sheds the review engine. -/
def R.REVIEW_SHED : Reg := ⟨0x307003, 0⟩
/-- Table 13.6, 0x3070:04, U32 RO: Status DONE; saturates at 0xFFFF_FFFF. -/
def R.REVIEW_JOBS_DONE : Reg := ⟨0x307004, 0⟩
/-- Table 13.6, 0x3070:05, U32 RO: Status AGED; saturates. -/
def R.REVIEW_JOBS_AGED : Reg := ⟨0x307005, 0⟩
/-- Table 13.6, 0x3070:06, U32 RO: Status DROPPED; saturates. -/
def R.REVIEW_JOBS_DROPPED : Reg := ⟨0x307006, 0⟩
/-- Table 13.6, 0x3070:07, U32 RO: R342; saturates. -/
def R.REVIEW_JOBS_REQUEUED : Reg := ⟨0x307007, 0⟩
/-- Table 13.6, 0x3070:08, U32 RO: R339; saturates. -/
def R.REVIEW_PAGE_HITS : Reg := ⟨0x307008, 0⟩
/-- Table 13.6, 0x3070:09, U32 RO: R339; saturates. -/
def R.REVIEW_PAGE_MISSES : Reg := ⟨0x307009, 0⟩
/-- Table 13.6, 0x3070:0A, U16 RO: Pages of loaded networks in each half. -/
def R.REVIEW_PAGES_USED : Reg := ⟨0x30700A, 0⟩
/-- Table 13.6, 0x3071:01–02, U8 RO: 0 IDLE, 1 RUNNING, 2 SHED, 3 RETIRED. -/
def R.CLUSTER_STATE (i : Nat) : Reg := ⟨0x307101 + i, 0⟩
/-- Table 13.6, 0x3071:03–04, U16 RO: Jobs queued, 0 to 1,024. -/
def R.CLUSTER_QUEUED (i : Nat) : Reg := ⟨0x307103 + i, 0⟩
/-- Table 13.6, 0x3072:01–10, U8 RWL: Network for group k, 0 to 15; 0xFF = none. -/
def R.GROUP_REVIEW_NET (i : Nat) : Reg := ⟨0x307201 + i, 0xFF⟩
/-- Table 13.6, 0x3073:01–10, U8 RWL: 0 fast, 1 ordered. -/
def R.GROUP_REVIEW_MODE (i : Nat) : Reg := ⟨0x307301 + i, 0⟩
/-- Table 13.6, 0x3074:01–10, U8 RO: 0 none, 1 loaded. -/
def R.NET_STATE (i : Nat) : Reg := ⟨0x307401 + i, 0⟩
/-- Table 13.6, 0x3075:01–10, U16 RO: Pages of network n. -/
def R.NET_PAGES (i : Nat) : Reg := ⟨0x307501 + i, 0⟩
/-- Table 14.12, 0x1010:01, U64 RO: Frames covered by gap records. -/
def R.GAP_FRAMES : Reg := ⟨0x101001, 0⟩
/-- Table 14.12, 0x1010:02, U32 RO: Gap records written; saturates at 0xFFFF_FFFF. -/
def R.GAP_RECORDS : Reg := ⟨0x101002, 0⟩
/-- Table 14.12, 0x1010:03, U32 RO: Records counted in loss records; saturates. -/
def R.RECORDS_LOST : Reg := ⟨0x101003, 0⟩
/-- Table 14.12, 0x1010:04, U32 RO: R350; saturates. -/
def R.WINDOW_VIOLATIONS : Reg := ⟨0x101004, 0⟩
/-- Table 14.12, 0x1010:05, U32 RO: R351; saturates. -/
def R.WINDOW_WRITES_IGNORED : Reg := ⟨0x101005, 0⟩
/-- Table 14.12, 0x1010:06, U32 RO: R356; saturates. -/
def R.CI_FETCH_ERRORS : Reg := ⟨0x101006, 0⟩
/-- Table 14.12, 0x1010:07, U32 RO: Function-level resets and PERST_N assertions; saturates. -/
def R.HOST_RESETS : Reg := ⟨0x101007, 0⟩
/-- Table 14.12, 0x1010:08, U32 RO: Link losses; saturates. -/
def R.LINK_DOWN_EVENTS : Reg := ⟨0x101008, 0⟩
/-- Table 14.12, 0x1010:09, U8 RO: 0 down; 1 to 6 for 2.5, 5, 8, 16, 32 and 64 GT/s. -/
def R.LINK_RATE : Reg := ⟨0x101009, 0⟩
/-- Table 14.12, 0x1010:0A, U8 RO: Lanes, 0, 1, 2, 4, 8 or 16. -/
def R.LINK_WIDTH : Reg := ⟨0x10100A, 0⟩
/-- Table 14.12, 0x1011:01–20, U8 RO: Ring r: 0 disabled, 1 enabled, 2 enable refused (R357). -/
def R.RING_STATE (i : Nat) : Reg := ⟨0x101101 + i, 0⟩
/-- Table 15.14, 0x1020:01, U32 WO: Group identifier to commit (R376). -/
def R.GROUP_COMMIT : Reg := ⟨0x102001, 0⟩
/-- Table 15.14, 0x1020:02, U8 WO: Write 1 to commit every group the client holds. -/
def R.GROUP_COMMIT_ALL : Reg := ⟨0x102002, 0⟩
/-- Table 15.14, 0x1020:03, U32 WO: Group to discard; 0xFFFF_FFFF = all held (R377). -/
def R.GROUP_DISCARD : Reg := ⟨0x102003, 0⟩
/-- Table 15.14, 0x1020:04, U64 RO: Per client: frame at which its latest commit takes effect. -/
def R.COMMIT_FRAME : Reg := ⟨0x102004, 0⟩
/-- Table 15.14, 0x1020:05, U16 RO: Per client: groups it holds. -/
def R.GROUPS_HELD : Reg := ⟨0x102005, 0⟩
/-- Table 15.14, 0x1020:06, U32 RO: Holds lost under R377 other than by GROUP_DISCARD; saturates at 0xFFFF_FFFF. -/
def R.HOLDS_DISCARDED : Reg := ⟨0x102006, 0⟩
/-- Table 15.14, 0x1030:01, U16 RW: UDP port, 1 to 65,535; a write closes every session. -/
def R.NPP_PORT : Reg := ⟨0x103001, 4417⟩
/-- Table 15.14, 0x1030:02, U8 RW: 0 = NPP reads only; host only (R370). -/
def R.NPP_WRITE_ENABLE : Reg := ⟨0x103002, 1⟩
/-- Table 15.14, 0x1030:03, U8 RO: Open sessions, 0 to 8. -/
def R.NPP_SESSIONS : Reg := ⟨0x103003, 0⟩
/-- Table 15.14, 0x1030:04, U32 RO: Requests processed; saturates. -/
def R.NPP_REQUESTS : Reg := ⟨0x103004, 0⟩
/-- Table 15.14, 0x1030:05, U32 RO: Datagrams discarded under R382; saturates. -/
def R.NPP_ERRORS : Reg := ⟨0x103005, 0⟩
/-- Table 15.14, 0x1030:06, U32 RO: Sessions expired (R383); saturates. -/
def R.NPP_EXPIRIES : Reg := ⟨0x103006, 0⟩
/-- Table 16.5, 0x3C00:01, OCT16 RO: Clock at the read, as Table 16.1. -/
def R.TIME_NOW : Reg := ⟨0x3C0001, 0⟩
/-- Table 16.5, 0x3C00:02, U8 RO: 0 no source, 1 acquiring, 2 locked, 3 holdover. -/
def R.SERVO_STATE : Reg := ⟨0x3C0002, 0⟩
/-- Table 16.5, 0x3C00:03, U8 RW: 0 PTP only; 1 PTP with PPS_IN fallback; 2 PPS_IN only. -/
def R.TIME_SOURCE_SELECT : Reg := ⟨0x3C0003, 1⟩
/-- Table 16.5, 0x3C00:04, U8 WO: Write 1 to request a re-step (R399). -/
def R.TIME_RESTEP : Reg := ⟨0x3C0004, 0⟩
/-- Table 16.5, 0x3C00:05, U32 RO: Steps since POR_N. -/
def R.TIME_STEPS : Reg := ⟨0x3C0005, 0⟩
/-- Table 16.5, 0x3C00:06, U32 RO: Rate, parts per 10^12, offset by 0x8000_0000. -/
def R.RATE_CORRECTION : Reg := ⟨0x3C0006, 0x80000000⟩
/-- Table 16.5, 0x3C00:07, U64 RO: Last measured offset, source minus local clock (R396), 2^−16 ns, offset by 2^63. -/
def R.OFFSET_FROM_SOURCE : Reg := ⟨0x3C0007, 0x8000000000000000⟩
/-- Table 16.5, 0x3C00:08, U32 RO: R391, 2^−32 ns. -/
def R.AC_PERIOD : Reg := ⟨0x3C0008, 3579139413⟩
/-- Table 16.5, 0x3C00:09, I16 RO: currentUtcOffset, s. -/
def R.UTC_OFFSET : Reg := ⟨0x3C0009, 0⟩
/-- Table 16.5, 0x3C00:0A, U32 RO: Seconds in the current holdover. -/
def R.HOLDOVER_SECONDS : Reg := ⟨0x3C000A, 0⟩
/-- Table 16.5, 0x3C00:0B, U32 RW: ns, 10 to 1,000,000. -/
def R.LOCK_THRESHOLD : Reg := ⟨0x3C000B, 200⟩
/-- Table 16.5, 0x3C00:0C, U32 RW: ns, 1,000 to 1,000,000,000. -/
def R.STEP_ALARM : Reg := ⟨0x3C000C, 1000000⟩
/-- Table 16.5, 0x3C10:01, U8 RW: Table 16.3. -/
def R.PTP_PROFILE : Reg := ⟨0x3C1001, 1⟩
/-- Table 16.5, 0x3C10:02, U8 RW: 0 to 127. -/
def R.PTP_DOMAIN : Reg := ⟨0x3C1002, 0⟩
/-- Table 16.5, 0x3C10:03, U16 RW: ns. -/
def R.PTP_INGRESS_LATENCY : Reg := ⟨0x3C1003, 0⟩
/-- Table 16.5, 0x3C10:04, U16 RW: ns. -/
def R.PTP_EGRESS_LATENCY : Reg := ⟨0x3C1004, 0⟩
/-- Table 16.5, 0x3C10:05, OCT8 RO: clockIdentity of the selected master. -/
def R.PTP_PARENT_ID : Reg := ⟨0x3C1005, 0⟩
/-- Table 16.5, 0x3C10:06, U32 RO: Mean path or peer delay, ns. -/
def R.PTP_PATH_DELAY : Reg := ⟨0x3C1006, 0⟩
/-- Table 16.5, 0x3C10:07, U32 RO: R395; saturates at 0xFFFF_FFFF. -/
def R.PTP_MASTER_CHANGES : Reg := ⟨0x3C1007, 0⟩
/-- Table 16.5, 0x3C20:01, U8 RW: 0 rising, 1 falling. -/
def R.PPS_IN_POLARITY : Reg := ⟨0x3C2001, 0⟩
/-- Table 16.5, 0x3C20:02, U8 RW: 1 = check (R401). -/
def R.PPS_IN_CHECK : Reg := ⟨0x3C2002, 0⟩
/-- Table 16.5, 0x3C20:03, I16 RW: ns. -/
def R.PPS_IN_DELAY : Reg := ⟨0x3C2003, 0⟩
/-- Table 16.5, 0x3C20:04, U32 RO: ns, offset by 0x8000_0000. -/
def R.PPS_OFFSET : Reg := ⟨0x3C2004, 0x80000000⟩
/-- Table 16.5, 0x3C20:05, U32 RW: ns. -/
def R.PPS_CHECK_LIMIT : Reg := ⟨0x3C2005, 1000⟩
/-- Table 16.5, 0x3C20:06, U32 RO: Saturates at 0xFFFF_FFFF. -/
def R.PPS_CHECK_EVENTS : Reg := ⟨0x3C2006, 0⟩
/-- Table 16.5, 0x3C20:07, U8 RW: 0 off, 1 always, 2 with a source or in holdover. -/
def R.PPS_OUT_MODE : Reg := ⟨0x3C2007, 2⟩
/-- Table 16.5, 0x3C20:08, U16 RW: ms, 1 to 999. -/
def R.PPS_OUT_WIDTH : Reg := ⟨0x3C2008, 100⟩
/-- Table 16.5, 0x3C20:09, I16 RW: ns. -/
def R.PPS_OUT_DELAY : Reg := ⟨0x3C2009, 0⟩
/-- Table 17.8, 0x4000:01, U8 RWS: 0 to 31; 0xFF = automatic (R410). -/
def R.RING_POSITION_CFG : Reg := ⟨0x400001, 0xFF⟩
/-- Table 17.8, 0x4000:02, U8 RO: Position in force, 0 to 31; a ring of one has position 0. -/
def R.RING_POSITION : Reg := ⟨0x400002, 0⟩
/-- Table 17.8, 0x4000:03, U32 RWS: Carried in HELLO (R408). -/
def R.RING_DOMAIN : Reg := ⟨0x400003, 0⟩
/-- Table 17.8, 0x4000:04, U8 RO: 0 NONE, 1 FORMING, 2 RING, 3 LINE, 4 REFUSED. -/
def R.DEVICE_RING_STATE : Reg := ⟨0x400004, 0⟩
/-- Table 17.8, 0x4000:05, U8 RO: 0 none, 1 over 32 members, 2 position repeated, 3 positions not consecutive eastward. -/
def R.RING_REFUSE_REASON : Reg := ⟨0x400005, 0⟩
/-- Table 17.8, 0x4000:06, U8 RO: 0 down, 1 training, 2 joined, 3 up not joined, 4 retraining, 5 retired. -/
def R.RING_LINK_STATE_W : Reg := ⟨0x400006, 0⟩
/-- Table 17.8, 0x4000:07, U8 RO: As RING_LINK_STATE_W. -/
def R.RING_LINK_STATE_E : Reg := ⟨0x400007, 0⟩
/-- Table 17.8, 0x4000:08, U16 RO: Hop latency from training, 1/16 ac. -/
def R.RING_PATH_LATENCY_W : Reg := ⟨0x400008, 0⟩
/-- Table 17.8, 0x4000:09, U16 RO: As RING_PATH_LATENCY_W. -/
def R.RING_PATH_LATENCY_E : Reg := ⟨0x400009, 0⟩
/-- Table 17.8, 0x4000:0A, U32 RO: R406, all links; saturates at 0xFFFF_FFFF. -/
def R.RING_RETRIES : Reg := ⟨0x40000A, 0⟩
/-- Table 17.8, 0x4000:0B, U32 RO: R406; saturates. -/
def R.RING_LOST_FLITS : Reg := ⟨0x40000B, 0⟩
/-- Table 17.8, 0x4000:0C, U8 WO: Bit 0 RING_W, bit 1 RING_E, bit 2 mirror; host only. -/
def R.RING_REINSTATE : Reg := ⟨0x40000C, 0⟩
/-- Table 17.8, 0x4000:0D, U16 RW: NAKs per 1 ms, 1 to 65,535. -/
def R.RING_RETRAIN_LIMIT : Reg := ⟨0x40000D, 64⟩
/-- Table 17.8, 0x4000:0E, U32 RO: R415; saturates. -/
def R.RING_POISONED : Reg := ⟨0x40000E, 0⟩
/-- Table 17.8, 0x4000:0F, U32 RO: R416; saturates. -/
def R.RING_WRITES_LATE : Reg := ⟨0x40000F, 0⟩
/-- Table 17.8, 0x4000:11, U32 RO: R414; saturates. -/
def R.RING_FRAME_MISMATCH : Reg := ⟨0x400011, 0⟩
/-- Table 17.8, 0x4001:01–07, U64 RWL: Value of ring word k when its slot is empty or absent. -/
def R.RING_WORD_FILL (i : Nat) : Reg := ⟨0x400101 + i, 0⟩
/-- Table 17.8, 0x4002:01–20, STR16 RO: Serial at position i. -/
def R.RING_MEMBER_SERIAL (i : Nat) : Reg := ⟨0x400201 + i, 0⟩
/-- Table 17.8, 0x4010:01, U8 RWS: 0 none, 1 primary, 2 secondary. -/
def R.MIRROR_ROLE : Reg := ⟨0x401001, 0⟩
/-- Table 17.8, 0x4010:02, U8 RWS: R422. -/
def R.MIRROR_LINE_POLICY : Reg := ⟨0x401002, 0⟩
/-- Table 17.8, 0x4010:03, U8 RWS: 1 = mirrored settings (R424). -/
def R.MIRROR_SYNC : Reg := ⟨0x401003, 0⟩
/-- Table 17.8, 0x4010:04, U8 RO: 0 down, 1 training, 2 joined, 3 REFUSED, 4 retraining, 5 retired. -/
def R.MIRROR_LINK_STATE : Reg := ⟨0x401004, 0⟩
/-- Table 17.8, 0x4010:05, U8 RO: 1 = lines follow their modes. -/
def R.MIRROR_ACTIVE : Reg := ⟨0x401005, 0⟩
/-- Table 17.8, 0x4010:06, U16 RWL: 1 to 1,000. -/
def R.TAKEOVER_FRAMES : Reg := ⟨0x401006, 2⟩
/-- Table 17.8, 0x4010:07, U32 RWL: 1 to 10,000,000. -/
def R.GIVEBACK_FRAMES : Reg := ⟨0x401007, 10000⟩
/-- Table 17.8, 0x4010:08, U32 RWL: Frames after a rejoin, 0 to 10,000,000. -/
def R.MIRROR_SETTLE : Reg := ⟨0x401008, 65536⟩
/-- Table 17.8, 0x4010:09, U32 RO: R420; saturates. -/
def R.MIRROR_ALONE_FRAMES : Reg := ⟨0x401009, 0⟩
/-- Table 17.8, 0x4010:0A, U32 RO: Table 17.5; saturates. -/
def R.MIRROR_DISAGREE : Reg := ⟨0x40100A, 0⟩
/-- Table 17.8, 0x4010:0B, U32 RO: Table 17.5; saturates. -/
def R.MIRROR_INPUT_DIFFER : Reg := ⟨0x40100B, 0⟩
/-- Table 17.8, 0x4010:0C, U32 RO: Table 17.5; saturates. -/
def R.MIRROR_SETTLING : Reg := ⟨0x40100C, 0⟩
/-- Table 17.8, 0x4010:0D, U32 RO: R422; saturates. -/
def R.MIRROR_TAKEOVERS : Reg := ⟨0x40100D, 0⟩
/-- Table 17.8, 0x4010:0E, U8 RO: 0 off, 1 IN_SYNC, 2 RESYNCING, 3 LOST. -/
def R.MIRROR_SYNC_STATE : Reg := ⟨0x40100E, 0⟩
/-- Table 17.8, 0x4010:0F, STR16 RO: Partner's serial from HELLO. -/
def R.MIRROR_PARTNER_SERIAL : Reg := ⟨0x40100F, 0⟩
/-- Table 18.14, 0x4800:01, U8 RO: Bit k = a fault of class k uncleared, k = 1 to 4; [0], [7:5] reserved. -/
def R.FAULT_ACTIVE : Reg := ⟨0x480001, 0x00⟩
/-- Table 18.14, 0x4800:02, U16 RO: Latest fault or event code. -/
def R.LAST_FAULT_CODE : Reg := ⟨0x480002, 0x0000⟩
/-- Table 18.14, 0x4800:03, U64 RO: Frame of LAST_FAULT_CODE. -/
def R.LAST_FAULT_FRAME : Reg := ⟨0x480003, 0⟩
/-- Table 18.14, 0x4800:04, U32 RO: Class T faults; saturates at 0xFFFF_FFFF. -/
def R.FAULTS_T : Reg := ⟨0x480004, 0⟩
/-- Table 18.14, 0x4800:05, U32 RO: Class P faults; saturates. -/
def R.FAULTS_P : Reg := ⟨0x480005, 0⟩
/-- Table 18.14, 0x4800:06, U32 RO: Class J faults; saturates. -/
def R.FAULTS_J : Reg := ⟨0x480006, 0⟩
/-- Table 18.14, 0x4800:07, U32 RO: Class D faults; saturates. -/
def R.FAULTS_D : Reg := ⟨0x480007, 0⟩
/-- Table 18.14, 0x4800:08, U32 RO: Automatic releases of FAULT_N (R442); saturates. -/
def R.RECOVERY_COUNT : Reg := ⟨0x480008, 0⟩
/-- Table 18.14, 0x4800:09, U16 RW: s, 1 to 3,600; host only. -/
def R.QUIET_PERIOD : Reg := ⟨0x480009, 10⟩
/-- Table 18.14, 0x4800:0A, U8 RW: Bit k enables class k, k = 1 to 4; host only. -/
def R.FAULT_N_CLASSES : Reg := ⟨0x48000A, 0x1C⟩
/-- Table 18.14, 0x4800:0B, U8 WO: Write 1 to clear a class D fault (R440); host only. -/
def R.FAULT_CLEAR : Reg := ⟨0x48000B, 0⟩
/-- Table 18.14, 0x4800:0C, U32 RO: Restarts begun; saturates. -/
def R.JOB_RESTARTS : Reg := ⟨0x48000C, 0⟩
/-- Table 18.14, 0x4800:0D, U8 RO: 0 idle; 1 to 5 as Table 18.6. -/
def R.RESTART_STATE : Reg := ⟨0x48000D, 0⟩
/-- Table 18.14, 0x4800:0E, U64 RO: First lost frame of the latest restart. -/
def R.LAST_RESTART_FIRST : Reg := ⟨0x48000E, 0⟩
/-- Table 18.14, 0x4800:0F, U64 RO: Frame r of the latest restart. -/
def R.LAST_RESTART_REJOIN : Reg := ⟨0x48000F, 0⟩
/-- Table 18.14, 0x4800:10, U32 RO: Stop to rejoin, µs. -/
def R.LAST_RESTART_US : Reg := ⟨0x480010, 0⟩
/-- Table 18.14, 0x4800:11, U32 RO: R430; saturates. -/
def R.EVENTS_SUPPRESSED : Reg := ⟨0x480011, 0⟩
/-- Table 18.14, 0x4800:12, U32 RO: R446; saturates. -/
def R.MP_WATCHDOG_EVENTS : Reg := ⟨0x480012, 0⟩
/-- Table 18.14, 0x4801:01–40, OCT32 RO: Entry i: bytes 0–1 code, 2–7 reserved, 8–15 frame, 16–31 time as Table 16.1; subindex 1 is the most recent. -/
def R.FAULT_LOG (i : Nat) : Reg := ⟨0x480101 + i, 0⟩
/-- Table 19.11, 0x4400:01, U8 RO: Table 19.1. -/
def R.POWER_STATE : Reg := ⟨0x440001, 0⟩
/-- Table 19.11, 0x4400:02, U8 WO: Target state 0 to 3. -/
def R.POWER_REQUEST : Reg := ⟨0x440002, 0⟩
/-- Table 19.11, 0x4400:03, U8 RO: Pending target; 0xFF = none. -/
def R.POWER_PENDING : Reg := ⟨0x440003, 0xFF⟩
/-- Table 19.11, 0x4400:04, U8 RO: 0 none, 1 prepare, 2 commit, 3 exit. -/
def R.POWER_TRANSITION : Reg := ⟨0x440004, 0⟩
/-- Table 19.11, 0x4400:05, U8 RO: Block of Table 18.2; 0xFF = none. -/
def R.POWER_LAST_REFUSER : Reg := ⟨0x440005, 0xFF⟩
/-- Table 19.11, 0x4400:06, U32 RO: R455; saturates at 0xFFFF_FFFF. -/
def R.POWER_REFUSALS : Reg := ⟨0x440006, 0⟩
/-- Table 19.11, 0x4400:07, U8 RW: Bits of Table 19.4; [7:5] reserved. -/
def R.WAKE_ENABLE : Reg := ⟨0x440007, 0x1F⟩
/-- Table 19.11, 0x4400:08, U8 RO: Value of Table 19.4; 0 = none. -/
def R.LAST_WAKE_SOURCE : Reg := ⟨0x440008, 0⟩
/-- Table 19.11, 0x4400:09, U32 RO: Saturates. -/
def R.WAKES : Reg := ⟨0x440009, 0⟩
/-- Table 19.11, 0x4400:0A, U8 RW: R461. -/
def R.RING_WAKE_PROPAGATE : Reg := ⟨0x44000A, 1⟩
/-- Table 19.11, 0x4410:01, U8 RO: 0 to 3. -/
def R.CANOPY_STAGE : Reg := ⟨0x441001, 0⟩
/-- Table 19.11, 0x4410:02, U8 RO: Bits of Table 19.6; [7:6] reserved. -/
def R.CANOPY_CAUSE : Reg := ⟨0x441002, 0x00⟩
/-- Table 19.11, 0x4410:03, U16 RO: 0.1 W. -/
def R.POWER_NOW : Reg := ⟨0x441003, 0⟩
/-- Table 19.11, 0x4410:04, U16 RO: 0.1 A. -/
def R.CURRENT_NOW : Reg := ⟨0x441004, 0⟩
/-- Table 19.11, 0x4410:05, U16 RO: 0.1 s, 0 to 6,000. The count covers the whole 600 s window, and it can exceed the 120 s budget while the cause stays latched or while R467 applies. -/
def R.PEAK_BUDGET_USED : Reg := ⟨0x441005, 0⟩
/-- Table 19.11, 0x4410:06, U16 RW: 0.1 W, 1,000 to 4,800; host only. -/
def R.POWER_CONT_LIMIT : Reg := ⟨0x441006, 4800⟩
/-- Table 19.11, 0x4410:07, U16 RW: 0.1 W, POWER_CONT_LIMIT to 5,600; host only. -/
def R.POWER_PEAK_LIMIT : Reg := ⟨0x441007, 5600⟩
/-- Table 19.11, 0x4410:08, U16 RW: 0.1 A, 1,000 to 6,900; host only. -/
def R.CURRENT_CONT_LIMIT : Reg := ⟨0x441008, 6900⟩
/-- Table 19.11, 0x4410:09, U16 RW: 0.1 A, CURRENT_CONT_LIMIT to 7,800; host only. -/
def R.CURRENT_PEAK_LIMIT : Reg := ⟨0x441009, 7800⟩
/-- Table 19.11, 0x4410:0A, U32 RW: µs, 100 to 100,000. -/
def R.CANOPY_SETTLE : Reg := ⟨0x44100A, 1000⟩
/-- Table 19.11, 0x4410:0B, U16 RW: ms, 100 to 60,000. -/
def R.CANOPY_RELEASE : Reg := ⟨0x44100B, 1000⟩
/-- Table 19.11, 0x4410:0C, U32 RO: Stage rises; saturates. -/
def R.SHED_EVENTS : Reg := ⟨0x44100C, 0⟩
/-- Table 19.11, 0x4420:01, I16 RO: Hottest die, 1/16 °C. -/
def R.JUNCTION_MAX : Reg := ⟨0x442001, 0⟩
/-- Table 19.11, 0x4420:02, U8 RO: Die number of R468. -/
def R.JUNCTION_MAX_DIE : Reg := ⟨0x442002, 0⟩
/-- Table 19.11, 0x4420:03, I16 CONST: 95 °C, 1/16 °C. -/
def R.JUNCTION_CONTROL : Reg := ⟨0x442003, 1520⟩
/-- Table 19.11, 0x4420:04, I16 CONST: 105 °C, 1/16 °C. -/
def R.JUNCTION_TRIP : Reg := ⟨0x442004, 1680⟩
/-- Table 19.11, 0x4420:05, I16 RO: 1/16 °C. -/
def R.INLET_TEMP : Reg := ⟨0x442005, 0⟩
/-- Table 19.11, 0x4420:06, I16 RO: 1/16 °C. -/
def R.OUTLET_TEMP : Reg := ⟨0x442006, 0⟩
/-- Table 19.11, 0x4420:07, U16 RO: 0.01 L/min. -/
def R.FLOW : Reg := ⟨0x442007, 0⟩
/-- Table 19.11, 0x4420:08, I16 CONST: 40 °C, 1/16 °C. -/
def R.INLET_LIMIT : Reg := ⟨0x442008, 640⟩
/-- Table 19.11, 0x4420:09, U16 CONST: 2.00 L/min. -/
def R.FLOW_MIN : Reg := ⟨0x442009, 200⟩
/-- Table 20.7, 0x4C00:01, U8 RO: 0 ROM, 1 verifying, 2 running, 3 RECOVERY_WAIT. -/
def R.BOOT_STATE : Reg := ⟨0x4C0001, 0⟩
/-- Table 20.7, 0x4C00:02, U8 RO: Table 20.2; 0 = none. -/
def R.BOOT_FAIL_REASON : Reg := ⟨0x4C0002, 0⟩
/-- Table 20.7, 0x4C00:03, U32 RO: VERSION of the running image. -/
def R.FW_VERSION : Reg := ⟨0x4C0003, 0⟩
/-- Table 20.7, 0x4C00:04, U8 RO: SVN of the running image. -/
def R.FW_SVN : Reg := ⟨0x4C0004, 0⟩
/-- Table 20.7, 0x4C00:05, U8 RO: R479. -/
def R.SVN_FUSED : Reg := ⟨0x4C0005, 0⟩
/-- Table 20.7, 0x4C00:06, U8 WO: Host only. -/
def R.SVN_ADVANCE : Reg := ⟨0x4C0006, 0⟩
/-- Table 20.7, 0x4C00:07, U32 RO: MP boots since POR_N; saturates at 0xFFFF_FFFF. -/
def R.MP_BOOTS : Reg := ⟨0x4C0007, 0⟩
/-- Table 20.7, 0x4C01:01–02, OCT64 RO: Owner key slots 0 and 1; all 0 = empty. -/
def R.OWNER_KEY (i : Nat) : Reg := ⟨0x4C0101 + i, 0⟩
/-- Table 20.7, 0x4C01:03, U8 RO: [0], [1] slot fused; [2], [3] slot revoked; [4] Vuwald key 0 revoked; [7:5] reserved. -/
def R.OWNER_KEY_STATE : Reg := ⟨0x4C0103, 0⟩
/-- Table 20.7, 0x4C01:04, OCT64 WO: R475; host only. -/
def R.OWNER_KEY_PROVISION : Reg := ⟨0x4C0104, 0⟩
/-- Table 20.7, 0x4C01:05, U8 WO: Slot 0 or 1; host only. -/
def R.OWNER_KEY_REVOKE : Reg := ⟨0x4C0105, 0⟩
/-- Table 20.7, 0x4C02:01, OCT1024 RO: DER, zero-padded. -/
def R.DEVICE_CERT : Reg := ⟨0x4C0201, 0⟩
/-- Table 20.7, 0x4C02:02, U16 RO: Certificate length. -/
def R.DEVICE_CERT_BYTES : Reg := ⟨0x4C0202, 0⟩
/-- Table 20.7, 0x4C02:03, OCT1024 RO: Issuing CA certificate, DER, zero-padded. -/
def R.CA_CERT : Reg := ⟨0x4C0203, 0⟩
/-- Table 20.7, 0x4C02:04, U16 RO: Length. -/
def R.CA_CERT_BYTES : Reg := ⟨0x4C0204, 0⟩
/-- Table 20.7, 0x4C03:01, OCT32 RW: Verifier's nonce. -/
def R.QUOTE_NONCE : Reg := ⟨0x4C0301, 0⟩
/-- Table 20.7, 0x4C03:02, U8 WO: Write 1 to build a quote. -/
def R.QUOTE_COMMAND : Reg := ⟨0x4C0302, 0⟩
/-- Table 20.7, 0x4C03:03, U8 RO: 0 none, 1 building, 2 ready. -/
def R.QUOTE_STATE : Reg := ⟨0x4C0303, 0⟩
/-- Table 20.7, 0x4C03:04, OCT320 RO: Table 20.5. -/
def R.QUOTE : Reg := ⟨0x4C0304, 0⟩
/-- Table 20.7, 0x4C04:01–04, OCT32 RO: MR0 to MR3. -/
def R.MR (i : Nat) : Reg := ⟨0x4C0401 + i, 0⟩
/-- Table 20.7, 0x4C04:05, U32 RO: Extends since POR_N. -/
def R.LOG_COUNT : Reg := ⟨0x4C0405, 0⟩
/-- Table 20.7, 0x4C04:06, U32 RO: R484. -/
def R.LOG_DROPPED : Reg := ⟨0x4C0406, 0⟩
/-- Table 20.7, 0x4C04:07, U32 RW: Entry that LOG_ENTRY returns, 0 to 4,095. -/
def R.LOG_READ_INDEX : Reg := ⟨0x4C0407, 0⟩
/-- Table 20.7, 0x4C04:08, OCT64 RO: Table 20.4. -/
def R.LOG_ENTRY : Reg := ⟨0x4C0408, 0⟩
/-- Table 20.7, 0x4C10:01, U8 WO: R481. -/
def R.RECOVERY_COMMAND : Reg := ⟨0x4C1001, 0⟩
/-- Table 20.7, 0x4C10:02, U64 RW: Host address of the image. -/
def R.RECOVERY_ADDR : Reg := ⟨0x4C1002, 0⟩
/-- Table 20.7, 0x4C10:03, U32 RW: Image length, 512 to 8 MiB. -/
def R.RECOVERY_BYTES : Reg := ⟨0x4C1003, 0⟩
/-- Table 20.7, 0x4C10:04, U32 RW: Next staging offset, multiple of 1,024. -/
def R.RECOVERY_OFFSET : Reg := ⟨0x4C1004, 0⟩
/-- Table 20.7, 0x4C10:05, OCT1024 WO: R482. -/
def R.RECOVERY_CHUNK : Reg := ⟨0x4C1005, 0⟩
/-- Table 20.7, 0x4C10:06, U8 RO: 0 idle, 1 waiting, 2 verifying, 3 writing flash, 4 booting, 5 verify failed, 6 flash write failed. -/
def R.RECOVERY_STATUS : Reg := ⟨0x4C1006, 0⟩
/-- Table 21.5, 0x1000:06, U8 RO: Table 21.1: 0 understorey and hub, 1 COOLANT_HOLD, 2 DIES_UP, 3 READY. -/
def R.START_STATE : Reg := ⟨0x100006, 0⟩
/-- Table 21.5, 0x2C00:12, U8 WO: Write 1 to initialise the capture store (R493). -/
def R.STORE_INIT : Reg := ⟨0x2C0012, 0⟩
/-- Table 21.5, 0x3000:06, U8 WO: 1 arm, 2 stop; other values refused with 0xA005. -/
def R.ARM_COMMAND : Reg := ⟨0x300006, 0⟩
/-- Table 21.5, 0x3000:07, U8 RO: 0 STOPPED, 1 ARMING, 2 RUNNING. -/
def R.ARRAY_STATE : Reg := ⟨0x300007, 0⟩
/-- Table 22.13, 0x5000:01, U8 RO: Level of TEST_EN, after the filter of Table 22.10. -/
def R.TEST_EN_STATE : Reg := ⟨0x500001, 0⟩
/-- Table 22.13, 0x5020:01–09, U16 RO: Rail voltage, mV. -/
def R.RAIL_VOLTAGE (i : Nat) : Reg := ⟨0x502001 + i, 0⟩
/-- Table 22.13, 0x5021:01–09, U16 RO: Rail current, 0.1 A. -/
def R.RAIL_CURRENT (i : Nat) : Reg := ⟨0x502101 + i, 0⟩
/-- Table 22.13, 0x5022:01–09, U16 RO: Lowest rail voltage since POR_N, mV. -/
def R.RAIL_VOLTAGE_MIN (i : Nat) : Reg := ⟨0x502201 + i, 0xFFFF⟩
end Sys2Proof.Machine
end

