-- ==== Sys2Proof/Machine/Ops.lean ====
section
/-! DEFINITION. The named operations that every meaning is made of: tables, numbers, dictionary values, time, records,
faults. -/

namespace Sys2Proof.Machine

/-! ### Tables -/

/-- What a table holds under `i`; `d` is what an unlisted number reads as. -/
def tget {α : Type} (d : α) : Tab α → Nat → α
  | [], _ => d
  | (k, v) :: t, i => if k = i then v else tget d t i

/-- The table with nothing listed under `i`. -/
def terase {α : Type} : Tab α → Nat → Tab α
  | [], _ => []
  | (k, v) :: t, i => if k = i then terase t i else (k, v) :: terase t i

/-- The table with (i, v) put in its place. -/
def tins {α : Type} (i : Nat) (v : α) : Tab α → Tab α
  | [] => [(i, v)]
  | (k, w) :: t => if i < k then (i, v) :: (k, w) :: t else (k, w) :: tins i v t

/-- The table with `v` under `i`, in canonical form: the default is never listed. -/
def tset {α : Type} [DecidableEq α] (d : α) (t : Tab α) (i : Nat) (v : α) : Tab α :=
  if v = d then terase t i else tins i v (terase t i)

/-- All numbers listed lie above `i`. -/
def tabAbove {α : Type} (i : Nat) : Tab α → Bool
  | [] => true
  | (k, _) :: t => decide (i < k) && tabAbove i t

/-- Canonical form: numbers strictly rising, no default listed. -/
def tabWf {α : Type} [DecidableEq α] (d : α) : Tab α → Bool
  | [] => true
  | (k, v) :: t => tabAbove k t && decide (v ≠ d) && tabWf d t

/-- Write a run of values from number `i` on. -/
def tsetRun {α : Type} [DecidableEq α] (d : α) (t : Tab α) (i : Nat) : List α → Tab α
  | [] => t
  | v :: vs => tsetRun d (tset d t i v) (i + 1) vs

/-- The values under `i`, `i + 1`, …, `n` of them. -/
def tgetRun {α : Type} (d : α) (t : Tab α) (i : Nat) : Nat → List α
  | 0 => []
  | n + 1 => tget d t i :: tgetRun d t (i + 1) n

/-! ### Numbers (R10, R106, R178) -/

/-- Bits [hi:lo] of a word. -/
def bits (w hi lo : Nat) : Nat := (w / 2 ^ lo) % 2 ^ (hi + 1 - lo)

/-- Bit i of a word. -/
def bit (w i : Nat) : Bool := (w / 2 ^ i) % 2 = 1

/-- A word with bit `i` set to `b`. -/
def setBit (w i : Nat) (b : Bool) : Nat :=
  if b = bit w i then w else if b then w + 2 ^ i else w - 2 ^ i

/-- The two's complement reading of an n-bit field. -/
def sgn (n w : Nat) : Int :=
  if w % 2 ^ n < 2 ^ (n - 1) then (w % 2 ^ n : Nat) else (w % 2 ^ n : Nat) - (2 ^ n : Nat)

/-- The n-bit two's complement field of an integer. -/
def unsgn (n : Nat) (i : Int) : Nat := (i % (2 ^ n : Nat)).toNat

/-- Clamp to a range. -/
def clampI (lo hi x : Int) : Int := if x < lo then lo else if hi < x then hi else x

/-- Saturate to n-bit two's complement. -/
def sat (n : Nat) (x : Int) : Int := clampI (-(2 ^ (n - 1) : Nat)) ((2 ^ (n - 1) : Nat) - 1) x

/-- p / q rounded to the nearest integer, ties to even (R178); q positive. -/
def rneDiv (p : Int) (q : Nat) : Int :=
  let f := p / (q : Int)
  let r := p - f * q
  if (q : Int) < 2 * r ∨ (2 * r = (q : Int) ∧ f % 2 = 1) then f + 1 else f

/-- Saturating 32-bit counter step. -/
def satAdd32 (a b : Nat) : Nat := min (a + b) 0xFFFFFFFF

/-- The bytes of a number, least significant first. -/
def bytesOf (w : Nat) : Nat → List Nat
  | 0 => []
  | n + 1 => w % 256 :: bytesOf (w / 256) n

/-- The number whose little-endian bytes these are. -/
def ofBytes : List Nat → Nat
  | [] => 0
  | b :: bs => b % 256 + 256 * ofBytes bs

/-! ### Dictionary values -/

/-- The value in effect of an entry. -/
def dget (r : Reg) (d : Dev) : Nat := tget r.dflt d.dict r.key

/-- An entry takes a value. -/
def dset (r : Reg) (v : Nat) (d : Dev) : Dev := { d with dict := tset r.dflt d.dict r.key v }

/-- A saturating 32-bit counter rises by `n`. -/
def bumpBy (r : Reg) (n : Nat) (d : Dev) : Dev := if n = 0 then d else dset r (satAdd32 (dget r d) n) d

/-- A saturating 32-bit counter rises by one. -/
def bump (r : Reg) (d : Dev) : Dev := bumpBy r 1 d

/-! ### Indexed state -/

def frameOf (d : Dev) (n : Nat) : Frame := tget Frame.rest d.frames n
def setFrame (n : Nat) (f : Frame) (d : Dev) : Dev := { d with frames := tset Frame.rest d.frames n f }
def modFrame (n : Nat) (g : Frame → Frame) (d : Dev) : Dev := setFrame n (g (frameOf d n)) d
def portOf (d : Dev) (p : Nat) : Port := tget Port.rest d.ports p
def setPort (p : Nat) (x : Port) (d : Dev) : Dev := { d with ports := tset Port.rest d.ports p x }
def modPort (p : Nat) (g : Port → Port) (d : Dev) : Dev := setPort p (g (portOf d p)) d
def laneOf (d : Dev) (l : Nat) : Lane := tget Lane.rest d.lanes l
def setLane (l : Nat) (x : Lane) (d : Dev) : Dev := { d with lanes := tset Lane.rest d.lanes l x }
def modLane (l : Nat) (g : Lane → Lane) (d : Dev) : Dev := setLane l (g (laneOf d l)) d
def chanOf (d : Dev) (c : Nat) : Chan := tget Chan.rest d.chans c
def setChan (c : Nat) (x : Chan) (d : Dev) : Dev := { d with chans := tset Chan.rest d.chans c x }
def modChan (c : Nat) (g : Chan → Chan) (d : Dev) : Dev := setChan c (g (chanOf d c)) d
def coreOf (d : Dev) (k : Nat) : Core := tget Core.rest d.cores k
def setCore (k : Nat) (x : Core) (d : Dev) : Dev := { d with cores := tset Core.rest d.cores k x }
def modCore (k : Nat) (g : Core → Core) (d : Dev) : Dev := setCore k (g (coreOf d k)) d
def ringOf (d : Dev) (r : Nat) : Ring := tget Ring.rest d.host.rings r
def setRing (r : Nat) (x : Ring) (d : Dev) : Dev :=
  { d with host := { d.host with rings := tset Ring.rest d.host.rings r x } }
def modRing (r : Nat) (g : Ring → Ring) (d : Dev) : Dev := setRing r (g (ringOf d r)) d

/-- Every frame from `n` on for which there is a record. -/
def modFramesFrom (n : Nat) (g : Frame → Frame) (d : Dev) : Dev :=
  (d.frames.map Prod.fst).foldl (fun d k => if n ≤ k then modFrame k g d else d) d

/-! ### Time -/

/-- What a 10 ns tick adds to the clock, 2^-32 ns, at a rate correction in parts per 10^12 (R388). -/
def tickInc (rate : Int) : Nat := (10 * 2 ^ 32 * (10 ^ 12 + rate) / 10 ^ 12).toNat

/-- The array clock's offset from 1.2 GHz in ppm: that of the reference the PLL tracks, within its range, or holds; none on the
understorey oscillator (R33 to R36). -/
def pllOff (d : Dev) : Int := if tget R.CLOCK_STATE.dflt d.dict R.CLOCK_STATE.key = 0 then 0 else clampI (-100) 100 d.pll.off

/-- The 10 ns ticks of the time base up to ac `t`: 12 ac each at the nominal array clock, which runs `o` ppm off. -/
def tickAt (o : Int) (t : Nat) : Nat := t * 1000000 / (12 * (1000000 + o).toNat)

/-- The block's time moves on to ac `t`, if that still lies ahead: the station clock takes its 10 ns ticks; while POR_N is low it stands
(R389, Table 21.1). -/
def advTo (t : Nat) (d : Dev) : Dev :=
  { d with now := max t d.now
           time := { d.time with
             clk := if d.pins.porN then d.time.clk + (tickAt (pllOff d) (max t d.now) - tickAt (pllOff d) d.now) * tickInc d.time.rate
               else d.time.clk } }

/-- ac in a second, a millisecond, a microsecond, at the nominal array clock (R9). -/
def acPerS : Nat := 1200000000
def acPerMs : Nat := 1200000
def acPerUs : Nat := 1200

/-- Frame length in ac. -/
def fLen (d : Dev) : Nat := dget R.FRAME_LENGTH d

/-- B_n, t0 and E_n of frame n, and its cut-off C_n (R37, Table 2.4, R371). -/
def bAt (d : Dev) (n : Nat) : Nat := d.grid.b0 + n * fLen d
def t0At (d : Dev) (n : Nat) : Nat := bAt d n + 56
/-- The fingerprint that waits to be shown is shown (R265). -/
def showFp (d : Dev) : Dev :=
  match d.grid.fpNext with
  | none => d
  | some (n, _) =>
    dset R.LAST_FP_FRAME n (dset R.LAST_FINGERPRINT ((frameOf d n).fpDigest.getD 0) { d with grid := { d.grid with fpNext := none } })

def eAt (d : Dev) (n : Nat) : Nat := bAt d n + fLen d
def cutAt (d : Dev) (n : Nat) : Nat := t0At d n - 128

/-- ARRAY_STATE: 0 STOPPED, 1 ARMING, 2 RUNNING (Table 21.5). -/
def arrayState (d : Dev) : Nat := dget R.ARRAY_STATE d

/-- RESTART_STATE: 0, or the phase of Table 18.6. -/
def restartState (d : Dev) : Nat := dget R.RESTART_STATE d

/-- Armed, as R28 and the refusals of R16 mean it. DESIGN CHOICE (log entry 114): ARMING counts as armed, though no growth ring
passes in it. -/
def armed (d : Dev) : Bool := arrayState d ≠ 0

/-- The frame grid runs: the array is RUNNING, and no stop has ended the grid. -/
def running (d : Dev) : Bool := decide (arrayState d = 2) && d.grid.endF.isNone

/-- The growth ring of a stop has passed, and the array is not STOPPED yet (R497). -/
def ending (d : Dev) : Bool := decide (arrayState d = 2) && d.grid.endF.isSome

/-- The frame whose growth ring passed last. -/
def curFrame (d : Dev) : Nat := d.grid.nextT - 1

/-- R153: the full number of the frame whose low 8 bits are `f8`, at or before `last`. -/
def fullFrame (last f8 : Nat) : Nat :=
  let k := (last % 256 + 256 - f8 % 256) % 256
  if k ≤ last then last - k else f8

/-- Frame a is older than frame b, by their low 8 bits (R107). -/
def older8 (a b : Nat) : Bool :=
  let k := (b % 256 + 256 - a % 256) % 256
  decide (1 ≤ k ∧ k ≤ 127)

/-- The clock in 2^-16 ns. -/
def clk16 (d : Dev) : Nat := d.time.clk / 2 ^ 16

/-- Station time at ac x, not later than now, in 2^-32 ns: the clock between its ticks, as events are stamped (R391, R394, R400). -/
def stationAc (d : Dev) (x : Nat) : Nat :=
  let tick := 12 * (1000000 + pllOff d).toNat
  d.time.clk + d.now * 1000000 % tick * tickInc d.time.rate / tick - (d.now - x) * 1000000 * tickInc d.time.rate / tick

/-- R392: station time, in 2^-16 ns, of an instant counted in 1/256 ac from t0 of frame n. -/
def stationAt (d : Dev) (n : Nat) (x : Int) : Nat :=
  (((tget (clk16 d) d.time.stamps (n % 1025) : Nat) : Int) + rneDiv (x * dget R.AC_PERIOD d) (2 ^ 24)).toNat

/-- STEPS and SOURCE of a time taken now (Table 16.1). -/
def timeTag (d : Dev) : Nat := dget R.TIME_STEPS d % 256 * 256 + d.time.source

/-- The two words of a TIME field (Table 16.1): the time in 2^-16 ns, with STEPS and SOURCE as they stood when it was taken (R390). -/
def timeWords (t16 tag : Nat) : List Nat :=
  let s := t16 / (10 ^ 9 * 2 ^ 16)
  let r := t16 % (10 ^ 9 * 2 ^ 16)
  [s % 2 ^ 64, (r / 2 ^ 16) * 2 ^ 32 + (r % 2 ^ 16) * 2 ^ 16 + tag]

/-- The clock as it reads now. -/
def clockWords (d : Dev) : List Nat := timeWords (clk16 d) (timeTag d)

/-- An instant counted from t0 of frame n (R392), taken when the frame's stamp was. -/
def stationWords (d : Dev) (n : Nat) (x : Int) : List Nat := timeWords (stationAt d n x) (tget 0 d.time.tags (n % 1025))

/-- TIME of now: converted from the latest frame stamp while the array runs, else read from the clock. -/
def nowWords (d : Dev) : List Nat :=
  if running d ∧ 0 < d.grid.nextT ∧ t0At d (curFrame d) ≤ d.now then
    stationWords d (curFrame d) (((d.now - t0At d (curFrame d)) * 256 : Nat) : Int)
  else clockWords d

/-- TIME of B of frame n: from the frame's own stamp while it is held, else reckoned from the latest stamp, or from the clock before the
first. -/
def bWords (d : Dev) (n : Nat) : List Nat :=
  if n < d.grid.nextT ∧ d.grid.nextT ≤ n + 1025 then stationWords d n (-(56 * 256))
  else if 0 < d.grid.nextT then stationWords d (curFrame d) (((n : Int) - curFrame d) * fLen d * 256 - 56 * 256)
  else timeWords ((clk16 d : Int) + rneDiv (((bAt d n : Int) - d.now) * 256 * dget R.AC_PERIOD d) (2 ^ 24)).toNat (timeTag d)

/-- The clocks of the array cores and review clusters run (R449, R451). -/
def coresOn (d : Dev) : Bool := decide (dget R.POWER_STATE d = 0 ∧ dget R.POWER_TRANSITION d ≠ 2)

/-! ### Free values (R15) -/

/-- The next free value, and the block with the draw counted. -/
def draw (d : Dev) : Nat × Dev := ((Config.freeWord d.freeCtr).toNat, { d with freeCtr := d.freeCtr + 1 })

/-- An undefined use was met: results are free until the next job restart or reset; that is one that begins after it (R15). -/
def setUndef (d : Dev) : Dev := { d with undef := true, undefNew := true }

/-! ### MSI-X and records -/

/-- Vector control word of a vector after reset: masked (PCI Express). -/
def msixDefault (i : Nat) : Nat := if i % 2 = 1 then 2 ^ 32 else 0

/-- Messages of vector v leave: the link is up in D0, MSI-X is enabled, and neither the function nor the vector is masked (R363, PCI
Express). -/
def msiOpen (v : Nat) (d : Dev) : Bool :=
  d.host.linkUp && d.host.cfg.msixOn && !d.host.cfg.msixHold && !d.host.cfg.d3
    && !bit (tget (msixDefault (2 * v + 1)) d.host.msixTable (2 * v + 1)) 32

/-- A message of vector v: sent, or pending (R363). -/
def msi (v : Nat) (d : Dev) : Dev :=
  if msiOpen v d then { d with host := { d.host with msixSent := tset 0 d.host.msixSent v (tget 0 d.host.msixSent v + 1) } }
  else { d with host := { d.host with msixPba := setBit d.host.msixPba v true } }

/-- A pending message of vector v leaves once nothing holds it back. -/
def msiFlush (v : Nat) (d : Dev) : Dev :=
  if bit d.host.msixPba v && msiOpen v d then msi v { d with host := { d.host with msixPba := setBit d.host.msixPba v false } } else d

/-- Records that the hub queue of ring r holds (Table 14.4). -/
def queueCap (r : Nat) : Nat := if r = 0 ∨ r = 3 ∨ r = 4 then 256 else if r < 5 then 1024 else 64

/-- Words of an entry of ring r (Table 14.4). -/
def entryWords (r : Nat) : Nat := if r = 3 ∨ 16 ≤ r then 8 else 16

def optMin : Option Nat → Option Nat → Option Nat
  | none, b => b
  | a, none => a
  | some a, some b => some (min a b)

def optMax : Option Nat → Option Nat → Option Nat
  | none, b => b
  | a, none => a
  | some a, some b => some (max a b)

/-- A record joins what ring r has lost (R358, R359); a gap's TIME is that of its first frame. -/
def loseRec (r reason : Nat) (e : Rec) (d : Dev) : Dev :=
  let g := ringOf d r
  let l := g.loss
  let n := if e.kind = 7 then e.words.headD 0 else 1
  let fst := if e.kind = 5 ∨ e.kind = 7 then some (e.words.getD (if e.kind = 5 then 0 else 1) 0) else e.frame
  let lst := if e.kind = 5 then some (e.words.getD 1 0) else if e.kind = 7 then some (e.words.getD 2 0) else e.frame
  let keep : Option Nat → Option Nat := fun o => if o = some (2 ^ 64 - 1) then none else o
  let t := if e.kind = 5 then [e.words.getD 3 0, e.words.getD 4 0] else e.bTime
  let first := match l.first, keep fst with
    | some a, some b => decide (b < a)
    | some _, none => false
    | none, _ => true
  let l' := { l with
    count := l.count + n
    first := optMin l.first (keep fst)
    last := optMax l.last (keep lst)
    reason := l.reason ||| reason ||| (if e.kind = 5 then e.words.getD 2 0 else if e.kind = 7 then e.words.getD 3 0 else 0)
    epoch := if l.count = 0 ∧ l.first = none then e.epoch else l.epoch
    time := if r ≠ 0 then [] else if first then t else l.time }
  let d := setRing r { g with loss := l' } d
  if r ≠ 1 then d
  else if e.kind = 7 then
    { d with host := { d.host with trigLost := d.host.trigBatch.headD [] ++ d.host.trigLost, trigBatch := d.host.trigBatch.tail } }
  else match e.link with
    | some k => { d with host := { d.host with trigLost := d.host.trigLost ++ [k] } }
    | none => d

/-- The pending loss of a ring as a record: a gap record in the verdict ring, else a loss record. -/
def lossRec (r : Nat) (d : Dev) : Rec :=
  let l := (ringOf d r).loss
  if r = 0 then
    { kind := 5, epoch := l.epoch, frame := none, link := none, audit := false
      words := [l.first.getD 0, l.last.getD 0, l.reason, l.time.getD 0 0, l.time.getD 1 0] }
  else
    { kind := 7, epoch := l.epoch, frame := none, link := none, audit := false
      words := [l.count, l.first.getD (2 ^ 64 - 1), l.last.getD (2 ^ 64 - 1), l.reason] }

/-- Whether ring r has a pending gap or loss. -/
def lossPending (r : Nat) (d : Dev) : Bool :=
  let l := (ringOf d r).loss
  decide (l.count ≠ 0 ∨ l.first ≠ none)

/-- A record enters the hub queue of ring r, behind the pending gap or loss record if there is one; with no room for
all of it, or the ring disabled, it joins the gap or loss (R357, R358, R359). While the gap holds lost frames, only
a verdict of a frame before it enters, and carries the epoch of the gap (R360, R440). -/
def pushRec (r : Nat) (e0 : Rec) (d : Dev) : Dev :=
  let g := ringOf d r
  let e := { e0 with epoch := if r = 0 ∧ g.loss.held then g.loss.epoch else g.epoch
                     bTime := if r = 0 then bWords d (e0.frame.getD 0) else [] }
  let room := fun k => decide (g.queue.length + k ≤ queueCap r)
  if g.enabled = false then loseRec r (if g.downed then 16 else 8) e d
  else if g.loss.held ∧ g.loss.first.getD 0 ≤ e.frame.getD 0 then loseRec r 0 e d
  else if lossPending r d ∧ g.loss.held = false then
    if room 2 then
      let d := if r = 1 then
          { d with host := { d.host with trigBatch := d.host.trigBatch ++ [d.host.trigLost], trigLost := [] } } else d
      setRing r { g with queue := g.queue ++ [lossRec r d, e], loss := Loss.rest } d
    else loseRec r 4 e d
  else if room 1 then setRing r { g with queue := g.queue ++ [e] } d
  else loseRec r 4 e d

/-- Prepare is in progress: a block that quiesces starts no new work (R454). -/
def preparing (d : Dev) : Bool := decide (dget R.POWER_TRANSITION d = 1)

/-! ### Summary entries (R28, R33, Table 1.4) -/

/-- FE_PRESENT as the ports stand (Table 1.4). -/
def presentMask (d : Dev) : Nat :=
  (List.range 16).foldl (fun m p =>
    if dget (R.FE_STATE p) d = 6 ∨ (armed d = false ∧ dget (R.FE_STATE p) d = 4) then m + 2 ^ p else m) 0

/-- The lowest port of a mask; 0xFF when none. -/
def lowestPort (m : Nat) : Nat :=
  match (List.range 16).find? (fun p => bit m p) with
  | some p => p
  | none => 0xFF

/-- While the array is not armed, FE_PRESENT follows the ports at once, and the lowest port whose bit is set is the clock
reference; the PLL relocks to it when it moves (R28, R33, R36). -/
def showPresent (d : Dev) : Dev :=
  if armed d then d
  else
    let d := dset R.FE_PRESENT (presentMask d) d
    let r := lowestPort (presentMask d)
    let old := dget R.CLOCK_REF_PORT d
    if r = 0xFF then dset R.CLOCK_STATE 0 (dset R.CLOCK_REF_PORT r d)
    else if r = old then d
    else dset R.CLOCK_STATE (if old = 0xFF then dget R.CLOCK_STATE d else 2) (dset R.CLOCK_REF_PORT r d)

/-- HOST_LINK as the link stands (Table 1.4). -/
def hostLinkNow (d : Dev) : Nat := if d.host.linkUp = false then 0 else if (ringOf d 0).enabled then 2 else 1

/-- HOST_LINK follows at once while the array is not armed (R28). -/
def showHost (d : Dev) : Dev := if armed d then d else dset R.HOST_LINK (hostLinkNow d) d

/-- The entry that shows the state of a link: 0 down, 1 training, 2 joined, 3 up not joined (REFUSED for the mirror),
4 retraining, 5 retired. -/
def linkReg (p : Nat) : Reg := if p = 0 then R.RING_LINK_STATE_W else if p = 1 then R.RING_LINK_STATE_E else R.MIRROR_LINK_STATE
def linkState (d : Dev) (p : Nat) : Nat := dget (linkReg p) d

/-- RING_LINKS and MIRROR_LINK as the links stand (Table 1.4). -/
def linksNow (d : Dev) : Nat := (if linkState d 0 = 2 then 1 else 0) + (if linkState d 1 = 2 then 2 else 0)
def mirrorNow (d : Dev) : Nat := if linkState d 2 = 2 then 1 else 0

/-- Some ring link has joined. -/
def ringJoined (d : Dev) : Bool := decide (linkState d 0 = 2 ∨ linkState d 1 = 2)

/-- Members of the ring: as it formed, and this device alone while no ring link has joined (R25, R427). -/
def ringSize (d : Dev) : Nat := if ringJoined d then d.lnk.size else 1

/-- They follow at once while the array is not armed (R28). -/
def showLinks (d : Dev) : Dev :=
  if armed d then d else dset R.RING_SIZE (ringSize d) (dset R.MIRROR_LINK (mirrorNow d) (dset R.RING_LINKS (linksNow d) d))

/-- The summary entries of Table 1.4 follow their owning ranges at every change while the array is not armed (R28); this
one shows the time source. -/
def showSource (d : Dev) : Dev := if armed d then d else dset R.TIME_SOURCE d.time.source d

/-- The summary entries follow their ranges again once the array is not armed (R28). -/
def showAll (d : Dev) : Dev := showSource (showLinks (showHost (showPresent d)))

/-! ### Faults (R428 to R442) -/

/-- FAULT_N is low while an uncleared class is enabled, from POR_N until the device is READY with verified firmware, and from a
failed boot check until verified firmware runs (R441, R480, Table 21.1). -/
def faultNLow (d : Dev) : Bool :=
  decide (dget R.FAULT_ACTIVE d &&& dget R.FAULT_N_CLASSES d ≠ 0) || decide (dget R.START_STATE d ≠ 3)
    || d.sec.unproven

/-- The class counters of Table 18.14. -/
def classCounter (c : Nat) : Reg :=
  if c = 1 then R.FAULTS_T else if c = 2 then R.FAULTS_P else if c = 3 then R.FAULTS_J else R.FAULTS_D

/-- The event record of a code (Table 14.8). -/
def eventRec (code a0 a1 : Nat) (d : Dev) : Rec :=
  { kind := 6, epoch := 0, frame := some (curFrame d), link := none, audit := false
    words := [curFrame d, code, a0, a1] ++ nowWords d }

/-- The code and the frame that a report leaves in FAULT_LOG, LAST_FAULT_CODE and LAST_FAULT_FRAME: while an undefined use is in force
free values (R15, log entry 131). -/
def logged (d : Dev) (code : Nat) : Nat × Nat :=
  if d.undef then
    let v := (Config.freeReport (d.now * 65536 + code)).toNat
    (v % 65536, v / 65536)
  else (code, curFrame d)

/-- The collector's bookkeeping for one fault or event; `withheld` says that a rule elsewhere limits its record. -/
def collect (code a0 a1 : Nat) (withheld : Bool) (d : Dev) : Dev :=
  let c := code / 0x1000
  let rep := decide (c ≠ 3 ∧ c ≠ 4) && (withheld ||
    (match tget none d.flt.lastAt code with | none => false | some t => decide (d.now - t < acPerMs)))
  let d := if c = 0 then d else bump (classCounter c) d
  let d := dset R.LAST_FAULT_FRAME (logged d code).2 (dset R.LAST_FAULT_CODE (logged d code).1 d)
  let d := if rep then bump R.EVENTS_SUPPRESSED d
    else
      let w := nowWords d
      let d := pushRec 3 (eventRec code a0 a1 d) d
      let d := { d with flt := { d.flt with
        lastAt := tset none d.flt.lastAt code (some d.now)
        log := (((logged d code).1, (logged d code).2, w.headD 0, w.getD 1 0) :: d.flt.log).take 64 } }
      if c = 0 then d else msi 5 d
  if c = 0 then d
  else
    let d := dset R.FAULT_ACTIVE (setBit (dget R.FAULT_ACTIVE d) c true) d
    if bit (dget R.FAULT_N_CLASSES d) c then { d with flt := { d.flt with quietFrom := some d.now } } else d

/-- The reaction to a class T fault, a retry or a retrain, is complete: a quiet period that waits for it starts again (R442, R444). -/
def reactionOver (d : Dev) : Dev :=
  if bit (dget R.FAULT_N_CLASSES d) 1 && bit (dget R.FAULT_ACTIVE d) 1 then { d with flt := { d.flt with quietFrom := some d.now } } else d

/-- Frames whose verdict word has not reached the hub are lost from here on (R435, R440). -/
def loseFrames (d : Dev) : Dev :=
  let n := d.grid.nextClose
  let d := modFramesFrom n (fun f => { f with lost := true }) d
  if d.flt.losing then d
  else
    let g := ringOf d 0
    let l := g.loss
    let d := setRing 0 { g with loss := { l with
      first := optMin l.first (some n), reason := l.reason ||| 1, held := true
      epoch := if l.first = none then g.epoch else l.epoch
      time := if l.first = none then bWords d n else l.time } } d
    { d with flt := { d.flt with losing := true, firstLost := n } }

/-- Tokens, instances and MAC locks of a core go; registers, accumulators and predicates are cleared (Table 18.6). -/
def stopCore (c : Core) : Core :=
  { c with ar := [], acc := [], pred := [], pAcc := [], aSum := 0, pPoison := false, latch := [], zw := 0, za := 0, zPoison := false,
           blockLen := 0, land := [], unit := [], lastIssue := none, queues := [], slots := [], insts := [], outs := [],
           egress := [], wdCount := 0, resync := false, skewed := [] }

/-- Phase 1 of a restart on every array core, and on the fabric's tokens. -/
def stopArray (d : Dev) : Dev :=
  { d with
    cores := d.cores.map (fun p => if p.1 < 65536 then (p.1, stopCore p.2) else p)
    fab := { d.fab with flight := [], judged := [], vtoks := [], rwrites := [] } }

/-! #### Safe levels (R280) -/

/-- Safe level of line k (R280). -/
def safeLevel (d : Dev) (k : Nat) : Bool := bit (dget R.SAFE_LEVEL_STRAPS d) (k / 16)

/-- Every line at its safe level. -/
def safeLines (d : Dev) : Nat := (List.range 32).foldl (fun w k => if safeLevel d k then w + 2 ^ k else w) 0

/-- The lines go to their safe level, and pulses end. -/
def linesSafe (d : Dev) : Dev := dset R.VLINE_STATE (safeLines d) { d with trig := { d.trig with pulseEnd := [] } }

/-! #### Closing the gap of lost frames (R360, R435, R440, R497) -/

/-- The pending gap of the verdict ring is written now, behind the records that wait, if there is room. -/
def flushGap (d : Dev) : Dev :=
  let g := ringOf d 0
  if lossPending 0 d ∧ g.enabled ∧ g.queue.length < queueCap 0 then
    setRing 0 { g with queue := g.queue ++ [lossRec 0 d], loss := Loss.rest } d
  else d

/-- The lost frames end before frame `e`: the gap covers them, and is held no longer; a gap with no frame in it goes. -/
def closeGap (e : Nat) (d : Dev) : Dev :=
  let g := ringOf d 0
  let l := g.loss
  if l.held = false then d
  else if e ≤ l.first.getD 0 then setRing 0 { g with loss := Loss.rest } d
  else setRing 0 { g with loss := { l with last := some (e - 1), held := false } } d

/-- After a stop at frame e, a pending gap is written up to e - 1 as soon as the verdicts before it have been issued. -/
def gapAtEnd (d : Dev) : Dev :=
  match d.grid.endF with
  | none => d
  | some e =>
    let l := (ringOf d 0).loss
    if l.held then (if l.first.getD 0 ≤ d.grid.nextIssue then flushGap (closeGap e d) else d)
    else if e ≤ d.grid.nextIssue ∧ lossPending 0 d then flushGap d
    else d

/-- A stop is over once every frame before its own has been issued, or covered by the gap, and no restart is in progress (R497,
R516): the gap is written, for which the array waits while the hub queue is full, and the array is STOPPED. DESIGN CHOICE (log entry
163): a restart that a fault has asked for after the growth ring of the stop waits for the first growth ring of the next arming, because
no other comes (R435). -/
def endStop (d : Dev) : Dev :=
  match d.grid.endF with
  | none => d
  | some e =>
    if ending d = false ∨ d.grid.nextIssue < e ∨ dget R.RESTART_STATE d ≠ 0 then d
    else
      let d := gapAtEnd d
      if lossPending 0 d ∧ (ringOf d 0).enabled then d
      else
        let d := showAll (dset R.ARRAY_STATE 0 d)
        { d with flt := { d.flt with losing := false, noRejoin := false } }

/-- Ring numbers of Table 14.4. -/
def rings : List Nat := [0, 1, 2, 3, 4] ++ (List.range 16).map (· + 16)

/-- Every ring's epoch rises (R360). -/
def raiseEpochs (d : Dev) : Dev :=
  rings.foldl (fun d r => modRing r (fun g => { g with epoch := (g.epoch + 1) % 65536 }) d) d

/-- R440: the reaction to a class D fault, in the ac in which it is received. Phase 1 of Table 18.6 begins at once while the
array runs or a stop of it is ending; any restart in progress ends without rejoining, and the epochs rise for it (R360, Table 18.11). -/
def deviceFault (code : Nat) (d : Dev) : Dev :=
  let on := running d || ending d
  let stop := if d.flt.losing then d.flt.stopAt else d.now
  let d := if restartState d ≠ 0 ∧ d.flt.dev = none then raiseEpochs d else d
  let d := if on then loseFrames d else d
  let d := stopArray d
  let d := { d with
    flt := { d.flt with dev := some code, pending := false, noRejoin := false, stopAt := stop
                        safeBelow := if on then d.flt.firstLost else d.flt.safeBelow } }
  dset R.RESTART_STATE (if on then 1 else 0) (linesSafe d)

/-- R435, R438: the reaction to a class J fault, or to a class P fault that Table 18.5 escalates: a restart in progress starts
again from phase 1; otherwise one waits for the next growth ring. -/
def wantRestart (d : Dev) : Dev :=
  if d.flt.dev ≠ none then d
  else if dget R.RESTART_STATE d ≠ 0 then
    dset R.RESTART_STATE 1 (stopArray { d with flt := { d.flt with copyTries := [] } })
  else { d with flt := { d.flt with pending := true } }

/-- The pin follows R441. -/
def driveFaultN (d : Dev) : Dev := { d with flt := { d.flt with faultN := !faultNLow d } }

/-- FAULT_REPORT as units make it: bookkeeping, and the reactions of classes J and D (R430). -/
def reportW (code a0 a1 : Nat) (withheld : Bool) (d : Dev) : Dev :=
  let d := collect code a0 a1 withheld d
  let c := code / 0x1000
  driveFaultN (if c = 4 then deviceFault code d else if c = 3 then wantRestart d else d)

def report (code a0 a1 : Nat) (d : Dev) : Dev := reportW code a0 a1 false d

/-- A report whose record a rule limits to one in `period` ac for one unit (R38, R60, R186, R397, R401). DESIGN CHOICE (log entry
115): the limit runs from the last record that this rule let through, written or suppressed under R430. -/
def reportLim (period unit code a0 a1 : Nat) (d : Dev) : Dev :=
  let k := code * 65536 + unit
  let w := match tget none d.flt.lastUnitAt k with | none => false | some t => decide (d.now - t < period)
  let d := reportW code a0 a1 w d
  if w then d else { d with flt := { d.flt with lastUnitAt := tset none d.flt.lastUnitAt k (some d.now) } }

/-- A frame whose verdict word has not been issued is INVALID (R166, R180). -/
def invalidate (n : Nat) (d : Dev) : Dev :=
  if n < d.grid.nextIssue then d else modFrame n (fun f => { f with invalid := true }) d

/-- R166: a schedule fault of row `row` of Table 6.6 for frame n, beside its counter. -/
def schedFrame (row n : Nat) (d : Dev) : Dev :=
  let d := if d.fab.faulted.contains n then d
    else bump R.SCHEDULE_FAULT_FRAMES { d with fab := { d.fab with faulted := (n :: d.fab.faulted).take 512 } }
  invalidate n (report 0x1081 row n (dset R.LAST_SCHEDULE_FAULT_FRAME n d))

/-- A schedule fault with its counter. -/
def schedFault (row n : Nat) (counter : Reg) (d : Dev) : Dev := schedFrame row n (bump counter d)

/-- One array cycle in which no command comes: time passes, and nothing else happens. -/
def idleTick (d : Dev) : Dev := advTo (d.now + 1) d

/-! ### Outcomes -/

/-- A command with effect `f` on the block: no command of the part when its operands name nothing the part has. -/
def run (ok : Bool) (f : Dev → Dev) (s : State) : Host.Outcome State Fault Refusal :=
  if ok then .next { s with dev := f s.dev } else .refused .malformed

end Sys2Proof.Machine
end

