-- ==== Sys2Proof/Machine/Map.lean ====
section
/-! DEFINITION. Where logical cores lie (R11, R12, R216 to R220), how far apart they are on the rides (R145, R149,
Table 6.1), and when the growth-ring marker reaches them (R155). A core key is physical x * 256 + physical y. -/

namespace Sys2Proof.Machine

/-- Logical columns of one die: 24, or 20 on a G20 device (R6). -/
def perDie (d : Dev) : Nat := if d.fuses.grade = 20 then 20 else 24

/-- Column c < 24 of array die `die` is enabled (R6). -/
def colEnabled (d : Dev) (die c : Nat) : Bool :=
  if d.fuses.grade = 20 then bit (tget 0xFFFFF d.fuses.g20cols die) c else true

/-- Cores retired in the map that WINDTHROW_MAP shows and the cores act on, which until a restart completes is the one before it (R143,
R220, R233). -/
def shownGone (d : Dev) : List Nat := d.fuses.windthrow ++ d.flt.mapWas.getD d.ldr.map

/-- Cores retired in the map that the cores were last written for. -/
def retiredSet (d : Dev) : List Nat := d.fuses.windthrow ++ d.ldr.map

/-- Die number 8 dy + dx of a physical core. -/
def dieOf (key : Nat) : Nat := 8 * ((key % 256) / 16) + key / 256 / 25

/-- The columns of the die-row segment (dx, physical row y) that hold its logical cores, in order, on a given set of
retired cores (R217). -/
def segCols (d : Dev) (gone : List Nat) (dx y : Nat) : List Nat :=
  let ok := fun c => !gone.contains ((25 * dx + c) * 256 + y)
  let cs := (List.range 24).filter (fun c => colEnabled d (8 * (y / 16) + dx) c && ok c)
  if cs.length < perDie d ∧ ok 24 then cs ++ [24] else cs.take (perDie d)

/-- Physical core of logical (x, y) on a set of retired cores. -/
def physOn (d : Dev) (gone : List Nat) (x y : Nat) : Option Nat :=
  match (segCols d gone (x / perDie d) y)[x % perDie d]? with
  | some c => if x / perDie d < 8 ∧ y < 128 then some ((25 * (x / perDie d) + c) * 256 + y) else none
  | none => none

/-- Physical core of logical (x, y) on the map in force. -/
def physOf (d : Dev) (x y : Nat) : Option Nat := physOn d (retiredSet d) x y

/-- Logical coordinates of a physical core on a set of retired cores, if it holds any. -/
def logOn (d : Dev) (gone : List Nat) (key : Nat) : Option (Nat × Nat) :=
  let px := key / 256
  let y := key % 256
  let cs := segCols d gone (px / 25) y
  let j := cs.findIdx (· == px % 25)
  if px < 200 ∧ y < 128 ∧ j < cs.length ∧ j < perDie d then some (perDie d * (px / 25) + j, y) else none

/-- Logical coordinates that a physical core acts as, if it holds a logical core of the map in force (R143). -/
def actsAs (d : Dev) (key : Nat) : Option (Nat × Nat) := logOn d (shownGone d) key

/-- Logical coordinates of a physical core on the map that the cores were last written for. -/
def logOf (d : Dev) (key : Nat) : Option (Nat × Nat) := logOn d (retiredSet d) key

/-- Die-crossing extra: 3 ac on B0, 4 on A1 (Table 6.1). -/
def dieExtra (d : Dev) : Nat := if d.fuses.stepping = 0xA1 then 4 else 3

/-- Ac that an E-W hop between two neighbouring columns takes, west column first, and whether it crosses a die
boundary (R149). -/
def hopEW (d : Dev) (a b : Nat) : Nat :=
  let c1 := a / 256 % 25
  let c2 := b / 256 % 25
  if a / 256 / 25 = b / 256 / 25 then c2 - c1 else 1 + (23 - c1) + c2 + dieExtra d

/-- Ac that an N-S hop takes: 1, plus 1 for a diagonal take, plus the extra at a die-row boundary (R219). -/
def hopNS (d : Dev) (a b : Nat) : Nat :=
  1 + (if a / 256 = b / 256 then 0 else 1) + (if (a % 256) / 16 = (b % 256) / 16 then 0 else dieExtra d)

/-- Columns of the logical grid of the grade. -/
def gridCols (d : Dev) : Nat := 8 * perDie d

/-- The logical core next to (x, y) on side dir (0 N, 1 E, 2 S, 3 W). -/
def neighbour (d : Dev) (x y dir : Nat) : Option (Nat × Nat) :=
  if dir = 0 then (if 0 < y then some (x, y - 1) else none)
  else if dir = 1 then (if x + 1 < gridCols d then some (x + 1, y) else none)
  else if dir = 2 then (if y + 1 < 128 then some (x, y + 1) else none)
  else (if 0 < x then some (x - 1, y) else none)

/-- Ac of the hop from the core `a` to its neighbour `b` on side dir. -/
def hopAc (d : Dev) (a b dir : Nat) : Nat :=
  if dir = 1 then hopEW d a b else if dir = 3 then hopEW d b a else hopNS d a b

/-- Ac the marker takes south along logical column 0 to row y on a set of retired cores. -/
def markerSouth (d : Dev) (gone : List Nat) : Nat → Nat
  | 0 => 0
  | y + 1 =>
    markerSouth d gone y + (match physOn d gone 0 y, physOn d gone 0 (y + 1) with
      | some a, some b => hopNS d a b
      | _, _ => 1)

/-- Ac the marker takes east along row y to column x on a set of retired cores. -/
def markerEast (d : Dev) (gone : List Nat) (y : Nat) : Nat → Nat
  | 0 => 0
  | x + 1 =>
    markerEast d gone y x + (match physOn d gone x y, physOn d gone (x + 1) y with
      | some a, some b => hopEW d a b
      | _, _ => 1)

/-- Ac from t0 to the marker's arrival at logical (x, y) (R155), on the map in force. -/
def markerDelay (d : Dev) (x y : Nat) : Nat :=
  markerSouth d (shownGone d) y + markerEast d (shownGone d) y x

/-- GROWTH_RING_SPAN of the map that the cores are written for: the latest arrival. -/
def markerSpan (d : Dev) : Nat :=
  let g := retiredSet d
  (List.range 128).foldl (fun m y => max m (markerSouth d g y + markerEast d g y (gridCols d - 1))) 0

/-- The loaded context of a slot. -/
def loadedOf (d : Dev) (k : Nat) : Loaded := tget Loaded.rest d.ldr.ctxs k

/-- A physical core holds a logical core of some loaded context on the map in force (R433). -/
def coreUsed (d : Dev) (key : Nat) : Bool :=
  match logOf d key with
  | some (x, y) => d.ldr.ctxs.any (fun p => p.2.present && p.2.cores.contains (x * 256 + y))
  | none => false

/-- A core retired under class P joins the pending retirements; the job restarts if the core holds a logical core of a
loaded context (R433). -/
def retireCoreP (key : Nat) (d : Dev) : Dev :=
  let used := coreUsed d key
  let d := if (retiredSet d).contains key ∨ d.ldr.pend.contains key then d
    else { d with ldr := { d.ldr with pend := d.ldr.pend ++ [key] } }
  if used then wantRestart d else d

/-- A slot may be switched to (Table 9.1). -/
def switchable (d : Dev) (slot : Nat) : Bool :=
  decide (2 ≤ dget (R.SLOT_STATE slot) d ∧ dget (R.SLOT_STATE slot) d ≤ 4)

end Sys2Proof.Machine
end

