-- ==== Sys2Proof/Machine/Operands.lean ====
section
/-! DEFINITION. The instruction word of a core (Tables 5.4 to 5.17): its fields, the token operands and registers it
names, its unit, occupancy and latency (Table 5.5), and the memory words it reads. -/

namespace Sys2Proof.Machine

/-- Header fields (Table 5.4). -/
def opOf (w : Nat) : Nat := bits w 63 58
def hBit (w : Nat) : Bool := bit w 57
def eBit (w : Nat) : Bool := bit w 56
def pnBit (w : Nat) : Bool := bit w 55
def prOf (w : Nat) : Nat := bits w 54 52

/-- LUTMAC and OMAC fields (Table 5.6). -/
def macSrc (w : Nat) : Nat := bits w 51 49
def macArb (w : Nat) : Nat := bits w 47 43
def macCnt (w : Nat) : Nat := bits w 42 38 + 1
def macRow (w : Nat) : Nat := bits w 37 31
def macOff (w : Nat) : Nat := bits w 30 26
def macOl (w : Nat) : Bool := bit w 25
def macORow (w : Nat) : Nat := bits w 24 18
def macOq (w : Nat) : Nat := bits w 17 16

/-- A token operand: its input code and its keep bit (R111, R122). -/
abbrev TokOp := Nat × Bool

/-- Token operands an instruction consumes or keeps. A WAIT for a token reads none (R137). -/
def tokOps (w : Nat) : List TokOp :=
  match opOf w with
  | 0x01 | 0x02 => if macSrc w = 7 then [] else [(macSrc w, bit w 48)]
  | 0x08 => if bit w 29 then [(bits w 28 26, bit w 25)] else []
  | 0x09 => [(bits w 51 49, bit w 48)]
  | 0x0A => (bits w 51 49, bit w 48) :: (if bits w 47 45 = 7 then [] else [(bits w 47 45, bit w 44)])
  | _ => []

/-- `n` register codes from `a` on. -/
def codes (a n : Nat) : List Nat := (List.range n).map (a + ·)

/-- Register codes: ar from 0, acc from 32, predicates from 64 (`Core.land`). -/
def accBase : Nat := 32
def predBase : Nat := 64

/-- Registers, accumulators and predicates an instruction reads (R113); 72 stands for the zero-point state, which a
BCLOSE reads after a ZCORR's latency. -/
def readsOf (w : Nat) : List Nat :=
  let pr := if prOf w = 0 then [] else [predBase + prOf w]
  pr ++ match opOf w with
  | 0x01 => (if macSrc w = 7 then codes (macArb w) (macCnt w) else []) ++ (if macOl w then codes (accBase + 16) 2 else [])
  | 0x02 => (if macSrc w = 7 then codes (macArb w) (macCnt w) else []) ++ codes (accBase + 16) 2
  | 0x04 => 72 :: (if bit w 41 then [] else codes accBase 16)
  | 0x05 => codes (accBase + bits w 42 38) (bits w 37 33 + 1)
  | 0x06 => codes (bits w 51 47) (bits w 41 40 + 1)
  | 0x07 => if bit w 51 then codes (bits w 44 40) (bits w 46 45 + 1) else []
  | 0x08 => if bit w 29 then [] else if bit w 24 then [accBase + bits w 44 40]
            else codes (bits w 44 40) (bits w 31 30 + 1)
  | 0x0A => if bit w 41 then (if bits w 43 42 = 0 then [accBase + bits w 40 36] else codes (bits w 40 36) 4) else []
  | 0x0B => [bits w 51 47] ++ (if bit w 41 then [] else [bits w 46 42])
            ++ (if bits w 34 33 = 0 then [] else [predBase + bits w 40 38])
  | 0x0C => codes (bits w 51 47) (bits w 36 35 + 1) ++ codes (bits w 46 42) (bits w 36 35 + 1)
  | 0x0D => codes (bits w 51 47) (bits w 46 42 + 1)
  | 0x0E => if bits w 51 50 = 0 then codes (bits w 44 40) (bits w 39 38 + 1) else []
  | 0x11 => codes (bits w 49 45) 4
  | _ => []

/-- Registers, accumulators and predicates an instruction writes (R113). -/
def writesOf (w : Nat) : List Nat :=
  match opOf w with
  | 0x01 => if macOl w then codes (accBase + 16) 2 else []
  | 0x02 => codes (accBase + 16) 2
  | 0x04 => codes accBase 16
  | 0x05 => codes (bits w 32 28) (bits w 37 33 + 1)
            ++ (if bit w 27 then codes (accBase + bits w 42 38) (bits w 37 33 + 1) else [])
  | 0x06 => codes (bits w 46 42) (bits w 41 40 + 1)
  | 0x07 => if bit w 51 then [] else codes (bits w 44 40) (bits w 46 45 + 1)
  | 0x09 => if bit w 42 then [accBase + bits w 47 43] else codes (bits w 47 43) 4
  | 0x0A => if bits w 43 42 = 0 then [accBase + bits w 40 36] else codes (bits w 40 36) 4
  | 0x0B => [predBase + bits w 40 38]
  | 0x0C => codes (bits w 41 37) (bits w 36 35 + 1)
  | 0x0D => codes (bits w 41 37) (if bit w 36 then 2 else 1)
  | 0x0E => if bits w 51 50 = 2 then ((List.range 18).filter (fun k => bit w (k + 4))).map (accBase + ·)
            else codes (bits w 49 45) (bits w 39 38 + 1)
  | 0x0F => codes (bits w 42 38) 4
  | _ => []

/-- Unit of an operation (Table 5.5): 0 none, 1 MAC, 2 RESCALE, 3 ACTLUT, 4 STATE, 5 ALU, 6 TOKEN. -/
def unitOf (w : Nat) : Nat :=
  match opOf w with
  | 0x01 | 0x02 | 0x03 | 0x04 => 1
  | 0x05 => 2
  | 0x06 => 3
  | 0x07 => 4
  | 0x08 | 0x09 | 0x0A | 0x11 => 6
  | 0x0B | 0x0C | 0x0D | 0x0E | 0x0F => 5
  | _ => 0

/-- An operation takes the MAC lock (R114). -/
def needsLock (w : Nat) : Bool := unitOf w = 1

/-- Occupancy in ac (Table 5.5). DESIGN CHOICE (log entry 155): MOV MODE 2, which lacks the field CNT of the table, occupies 1 ac. A WAIT for a count holds its instance N ac; the other waits end as R137 says. -/
def occOf (w : Nat) : Nat :=
  match opOf w with
  | 0x01 | 0x02 => macCnt w
  | 0x05 => (bits w 37 33 + 1 + 3) / 4
  | 0x06 => bits w 41 40 + 1
  | 0x0C => bits w 36 35 + 1
  | 0x0D => (bits w 46 42 + 1 + 3) / 4
  | 0x0E => if bits w 51 50 = 2 then 1 else bits w 39 38 + 1
  | 0x10 => if bits w 51 50 = 0 then bits w 49 40 + 1 else 1
  | _ => 1

/-- Latency L of an operation on stepping A1 or B0 (Table 5.5). -/
def latOf (a1 : Bool) (w : Nat) : Nat :=
  match opOf w with
  | 0x01 => if a1 then 6 else 5
  | 0x02 => if a1 then 5 else 4
  | 0x03 => 2
  | 0x04 => if a1 then 9 else 8
  | 0x05 => if a1 then 5 else 4
  | 0x06 => if bit w 26 then 4 else 3
  | 0x07 => 2
  | 0x0A => if a1 then 3 else 2
  | 0x0D => 2
  | 0x0F => 2
  | 0x11 => 2
  | _ => 1

/-- The table unit latency of opcode n that an object's LATENCY section states (Table 8.6); 0 where none. -/
def unitLatency (a1 : Bool) (n : Nat) : Nat :=
  if n = 0 ∨ n = 0x10 then 0 else latOf a1 (n * 2 ^ 58)

/-- Outlier weight word of quarter q, position p: its word within the row and its bit offset for lane k (R102). -/
def outlierPos (q p k : Nat) : Nat × Nat := (8 * q + (2 * p + k) / 8, 8 * ((2 * p + k) % 8))

/-- Table words that an ACTLUT reads for one value: that of entry i, and under interpolation that of the next (R131). -/
def lutWords (w : Nat) (x : Int) : List Nat :=
  let sh := bits w 30 27
  let v := x / (2 ^ sh : Nat) + 128
  let i := (clampI 0 255 v).toNat
  (bits w 39 31 + i / 4) :: if bit w 26 ∧ 0 < sh ∧ 0 ≤ v ∧ v ≤ 254 then [bits w 39 31 + (i + 1) / 4] else []

/-- Memory words an instruction at `pc` of context `ctx` reads, as (memory, word) of code 0x2041 (Table 18.3); `ar` are the
activation registers. -/
def memReads (ar : Tab PReg) (ctx pc w : Nat) : List (Nat × Nat) :=
  (0, ctx * 256 + pc) ::
  match opOf w with
  | 0x01 => ((codes (macOff w) (macCnt w)).map (fun p => (1, macRow w * 32 + p)))
      ++ (if macOl w then (codes (macOff w) (macCnt w)).map (fun p => (1, macORow w * 32 + (outlierPos (macOq w) p 0).1)) else [])
  | 0x02 => (codes (macOff w) (macCnt w)).map (fun p => (1, macORow w * 32 + (outlierPos (macOq w) p 0).1))
  | 0x03 => [(2, bits w 51 43)]
  | 0x04 => (codes (bits w 51 43) (if bit w 42 then 6 else 2)).map (fun a => (2, a))
  | 0x05 => (codes (bits w 51 43) (bits w 37 33 + 1)).map (fun a => (2, a))
  | 0x06 => ((codes (bits w 51 47) (bits w 41 40 + 1)).flatMap (fun i => lutWords w (tget PReg.rest ar i).v)).map (fun a => (2, a))
  | 0x0F => [(2, bits w 51 43)]
  | _ => []

/-! ### Registers of a core -/

def arOf (c : Core) (i : Nat) : PReg := tget PReg.rest c.ar i
def accOf (c : Core) (i : Nat) : PReg := tget PReg.rest c.acc i
/-- p0 always reads 1 (Table 5.1). -/
def predOf (c : Core) (i : Nat) : PReg := if i = 0 then ⟨1, false⟩ else tget PReg.rest c.pred i
def sregOf (c : Core) (ctx i : Nat) : SReg := tget SReg.rest c.sreg (ctx * 16 + i)
def queueOf (c : Core) (i : Nat) : List Timed := tget [] c.queues i
def outOf (c : Core) (i : Nat) : List Timed := tget [] c.outs i

/-- The values of a token read as V4, and as W (R106). -/
def v4 (p k : Nat) : Int := sgn 16 (bits p (16 * k + 15) (16 * k))
def w40 (p : Nat) : Int := sgn 40 p

/-- Payloads in V4 and in W. -/
def mkV4 (vs : List Int) : Nat := ((List.range 4).map (fun k => unsgn 16 (vs.getD k 0) * 2 ^ (16 * k))).foldl (· + ·) 0
def mkW (v : Int) : Nat := unsgn 64 v

/-- Tag fields (Table 5.2). -/
def tagFrame (t : Nat) : Nat := bits t 15 8
def tagIter (t : Nat) : Nat := bits t 7 2
def tagCtx (t : Nat) : Nat := bits t 1 0
def mkTag (frame iter ctx : Nat) : Nat := (frame % 256) * 256 + (iter % 64) * 4 + ctx % 4

/-- R107: tag a is older than tag b. -/
def tagOlder (a b : Nat) : Bool :=
  if tagFrame a = tagFrame b then decide (tagIter a < tagIter b) else older8 (tagFrame a) (tagFrame b)

end Sys2Proof.Machine
end

