-- ==== Sys2Proof/Machine/Flags.lean ====
section
/-! DEFINITION. What an instruction does beside its result: guards and poison (R119, Table 5.3), saturation and its
counts (R175, R179), tag checks (R125, R129), and reads of core memories through the encoder's overlays (R190). -/

namespace Sys2Proof.Machine

/-- What the guard of an instruction lets it do: write, write nothing, or keep values and poison them (R119,
Table 5.3). -/
inductive Guard where
  | run | skip | poison
deriving DecidableEq, Repr

/-- The guard of an instruction word on a core. -/
def guardOf (c : Core) (w : Nat) : Guard :=
  let p := predOf c (prOf w)
  if p.poison then .poison else if (p.v = 1) = (pnBit w = false) then .run else .skip

/-- What an instruction has done to its core, and what it hands to the block. -/
structure Fx where
  core : Core
  /-- Saturating additions into accumulators, saturated RESCALE results. -/
  accSat : Nat
  resSat : Nat
  clips : List ClipCount
  /-- A block close compared its tags: whether they differ, and its record. -/
  skew : Option (Bool × Nat)
  undef : Bool
  /-- Token emitted, and the outputs it goes to (DMASK). -/
  emit : Option (Nat × Tok)
  ringW : Option (Nat × Nat × Bool)
  /-- Free values drawn. -/
  drawn : Nat
deriving DecidableEq, Repr

def Fx.of (c : Core) : Fx := ⟨c, 0, 0, [], none, false, none, none, 0⟩

/-! ### Register writes -/

/-- Write an activation register; the landing ac makes it pending (R113). -/
def putAr (land i : Nat) (v : Int) (p : Bool) (c : Core) : Core :=
  { c with ar := tset PReg.rest c.ar i ⟨v, p⟩, land := tset 0 c.land i land }

/-- Write an accumulator. -/
def putAcc (land i : Nat) (v : Int) (p : Bool) (c : Core) : Core :=
  { c with acc := tset PReg.rest c.acc i ⟨v, p⟩, land := tset 0 c.land (accBase + i) land }

/-- Write a predicate; p0 cannot be written. -/
def putPred (land i : Nat) (v : Int) (p : Bool) (c : Core) : Core :=
  if i = 0 then c else { c with pred := tset PReg.rest c.pred i ⟨v, p⟩, land := tset 0 c.land (predBase + i) land }

/-- Keep a register's value and poison it (Table 5.3, guard poisoned). -/
def poisonCode (land code : Nat) (c : Core) : Core :=
  if code < 32 then putAr land code (arOf c code).v true c
  else if code < 64 then putAcc land (code - 32) (accOf c (code - 32)).v true c
  else putPred land (code - 64) (predOf c (code - 64)).v true c

/-! ### Saturation (R175) -/

/-- Add into a 40-bit accumulator: the sum, and whether it saturated. A poisoned result neither saturates nor counts
(R175): it is the low 40 bits (DEDUCED, log entry 3). -/
def accAdd (a x : Int) (poison : Bool) : Int × Nat :=
  if poison then (sgn 40 (unsgn 40 (a + x)), 0)
  else (sat 40 (a + x), if sat 40 (a + x) = a + x then 0 else 1)

/-! ### Core memories through the overlays (R188, R190) -/

/-- The overlay of a kind that an instance of context `ctx` and frame `f` reads; a code or scale overlay that is being sent again
counts from the frame at which it applies again (R181). -/
def ovlFor (c : Core) (kind ctx f : Nat) : Option Overlay :=
  match c.ovlFrom with
  | none => none
  | some g =>
    match tget none c.ovl kind with
    | some o =>
      let held := match c.ovlHeld with | some h => decide (kind ≤ 1) && older8 f (h % 256) | none => false
      if o.ctx = ctx ∧ older8 f (g % 256) = false ∧ held = false then some o else none
    | none => none

/-- What an overlay serves in place of a table word (R190). -/
def tblOvl (c : Core) (ctx f a : Nat) : Option Nat :=
  let from' := fun kind => match ovlFor c kind ctx f with
    | some o => if o.addr ≤ a ∧ a < o.addr + o.words.length then o.words[a - o.addr]? else none
    | none => none
  match from' 1 with
  | some w => some w
  | none => from' 3

/-- A table word as an instance reads it. -/
def tblWord (c : Core) (ctx f a : Nat) : Nat := (tblOvl c ctx f a).getD (tget 0 c.table a)

/-- An overlay covers a table word for an instance. -/
def tblCovered (c : Core) (ctx f a : Nat) : Bool := (tblOvl c ctx f a).isSome

/-- The sideband tag of a table word as an instance reads it. -/
def sideTagOf (c : Core) (ctx f a : Nat) : Nat :=
  match ovlFor c 1 ctx f with
  | some o => if o.addr = a then o.tag else tget 0 c.sideTag a
  | none => tget 0 c.sideTag a

/-- What an overlay serves in place of a weight word (R190). -/
def wtOvl (c : Core) (ctx f row pos : Nat) : Option Nat :=
  let code := match ovlFor c 0 ctx f with
    | some o => if o.addr = row then o.words[pos]? else none
    | none => none
  match code with
  | some w => some w
  | none => match ovlFor c 2 ctx f with
    | some o => if o.addr = row * 4 + pos / 8 then some (o.words.getD (pos % 8) 0) else none
    | none => none

/-- A weight word as an instance reads it. -/
def wtWord (c : Core) (ctx f row pos : Nat) : Nat := (wtOvl c ctx f row pos).getD (tget 0 c.weight (row * 32 + pos))

/-- An overlay covers a weight word for an instance. -/
def wtCovered (c : Core) (ctx f row pos : Nat) : Bool := (wtOvl c ctx f row pos).isSome

/-- The row tag of a weight row as an instance reads it. -/
def rowTagOf (c : Core) (ctx f row : Nat) : Nat :=
  match ovlFor c 0 ctx f with
  | some o => if o.addr = row then o.tag else tget 0 c.rowTag row
  | none => tget 0 c.rowTag row

/-- The latched row tags do not all equal the block tag, or each other (R125, R129). -/
def tagsDiffer (latch : List Nat) (block : Nat) : Bool := latch.any (· ≠ block)

end Sys2Proof.Machine
end

