-- ==== Sys2Proof/Machine/CoreOps.lean ====
section
/-! DEFINITION. What each core operation computes when it issues under a true guard (R124 to R136, R139, R174 to
R179): functions of the core's own registers, memories and the operand tokens. -/

namespace Sys2Proof.Machine

/-- What an operation is issued with: word, tag of its instance, its operand tokens by input, landing ac, whether an
uncorrectable error was read (R103), the frame in full, and the number of the next free value. -/
structure IssueArgs where
  w : Nat
  tag : Nat
  toks : List (Nat × Tok)
  land : Nat
  bad : Bool
  frame : Nat
  free : Nat
deriving DecidableEq, Repr

/-- The token that satisfies an input. -/
def tokAt (x : IssueArgs) (i : Nat) : Tok :=
  match x.toks.find? (·.1 = i) with
  | some p => p.2
  | none => ⟨0, 0, false⟩

/-- Activation of element e of a LUTMAC or OMAC, and its poison (R124). -/
def macAct (x : IssueArgs) (c : Core) (e : Nat) : Int × Bool :=
  if macSrc x.w = 7 then ((arOf c (macArb x.w + e)).v, (arOf c (macArb x.w + e)).poison)
  else (v4 (tokAt x (macSrc x.w)).payload e, (tokAt x (macSrc x.w)).poison)

/-- A source that the outlier lanes read is poisoned: an activation, or one of their two accumulators (Table 5.3). -/
def outlierPoison (x : IssueArgs) (c : Core) : Bool :=
  (List.range (macCnt x.w)).any (fun e => (macAct x c e).2) || (accOf c 16).poison || (accOf c 17).poison

/-- Add the outlier products of lane k (R126, R176); `p` says that a source of the operation is poisoned. -/
def outlierLane (x : IssueArgs) (p : Bool) (k : Nat) (fx : Fx) : Fx :=
  let c := fx.core
  let step := fun (s : Int × Nat) (e : Nat) =>
    let (wd, lo) := outlierPos (macOq x.w) (macOff x.w + e) k
    let v := sgn 8 (bits (wtWord c (tagCtx x.tag) (tagFrame x.tag) (macORow x.w) wd) (lo + 7) lo)
    let (r, n) := accAdd s.1 ((macAct x c e).1 * v) p
    (r, s.2 + n)
  let r := (List.range (macCnt x.w)).foldl step ((accOf c (16 + k)).v, 0)
  { fx with core := putAcc x.land (16 + k) r.1 p c, accSat := fx.accSat + r.2 }

/-- Both outlier lanes. -/
def outliers (x : IssueArgs) (p : Bool) (fx : Fx) : Fx := outlierLane x p 1 (outlierLane x p 0 fx)

/-- The next free value of an operation (log entry 1). -/
def freeAt (x : IssueArgs) (fx : Fx) : Nat := (Config.freeWord (x.free + fx.drawn)).toNat

/-- A block of more than 32 elements: block accumulators and sum lane are free values (R170). -/
def freeBlock (x : IssueArgs) (fx : Fx) : Fx :=
  let v := fun (k : Nat) => sgn 64 (freeAt x { fx with drawn := fx.drawn + k })
  { fx with core := { fx.core with pAcc := tsetRun 0 [] 0 ((List.range 16).map v), aSum := v 16 }, drawn := fx.drawn + 17, undef := true }

/-- A source of a LUTMAC is poisoned: an activation, the block accumulators, or with OL what the outlier lanes read (Table 5.3). -/
def lutmacPoison (x : IssueArgs) (c : Core) : Bool :=
  c.pPoison || (List.range (macCnt x.w)).any (fun e => (macAct x c e).2) || (macOl x.w && outlierPoison x c)

/-- LUTMAC (R124, R125, R173): T[q] = a q per lane and element, the activations into A, the row tag latched. -/
def fxLutmac (x : IssueArgs) (c : Core) : Fx :=
  let es := List.range (macCnt x.w)
  let acts := es.map (macAct x c)
  let lane : Nat → Int := fun j => (es.zip acts).foldl (fun s p =>
    s + p.2.1 * (bits (wtWord c (tagCtx x.tag) (tagFrame x.tag) (macRow x.w) (macOff x.w + p.1)) (4 * j + 3) (4 * j) : Nat))
    (tget 0 c.pAcc j)
  let c' : Core := { c with
    pAcc := tsetRun 0 c.pAcc 0 ((List.range 16).map lane)
    aSum := acts.foldl (fun s a => s + a.1) c.aSum
    pPoison := x.bad || lutmacPoison x c
    latch := if c.outRows.contains (macRow x.w) then c.latch else c.latch ++ [rowTagOf c (tagCtx x.tag) (tagFrame x.tag) (macRow x.w)]
    blockLen := c.blockLen + macCnt x.w }
  let fx := if 32 < c'.blockLen then freeBlock x (Fx.of c') else Fx.of c'
  if macOl x.w then outliers x (x.bad || lutmacPoison x c) fx else fx

/-- OMAC (R126). -/
def fxOmac (x : IssueArgs) (c : Core) : Fx := outliers x (x.bad || outlierPoison x c) (Fx.of c)

/-- ZCORR (R127). -/
def fxZcorr (x : IssueArgs) (c : Core) : Fx :=
  Fx.of { c with zw := tblWord c (tagCtx x.tag) (tagFrame x.tag) (bits x.w 51 43), za := sgn 16 (bits x.w 42 27),
                 zPoison := x.bad, land := tset 0 c.land 72 x.land }

/-- C_jb of a lane (R174). -/
def closeSum (p a za q zw : Int) : Int := p - zw * a - za * q + 32 * za * zw

/-- BCLOSE (R128, R129, R174, R175); of a block of more than 32 elements every sum is a free value (R170). A poisoned source, also an
accumulator that is added to, poisons all sixteen (Table 5.3). -/
def fxBclose (x : IssueArgs) (c : Core) : Fx :=
  let rd := fun i => tblWord c (tagCtx x.tag) (tagFrame x.tag) (bits x.w 51 43 + i)
  let long := bit x.w 42
  let clr := bit x.w 41
  let mism := tagsDiffer c.latch (sideTagOf c (tagCtx x.tag) (tagFrame x.tag) (bits x.w 51 43))
  let p := x.bad || mism || c.pPoison || c.zPoison || (!clr && (List.range 16).any (fun j => (accOf c j).poison))
  let step := fun (fx : Fx) (j : Nat) =>
    let s : Nat := bits (rd (j / 8)) (8 * (j % 8) + 7) (8 * (j % 8))
    let q : Nat := if long then bits (rd (2 + j / 4)) (16 * (j % 4) + 15) (16 * (j % 4)) else 0
    let zwj : Nat := bits c.zw (4 * j + 3) (4 * j)
    let a0 := if clr then PReg.rest else accOf c j
    if 32 < c.blockLen then
      let v := freeAt x fx
      { fx with core := putAcc x.land j (sgn 40 v) p fx.core, accSat := fx.accSat + v / 2 ^ 40 % 2, drawn := fx.drawn + 1, undef := true }
    else
      let (v, n) := accAdd a0.v (s * closeSum (tget 0 c.pAcc j) c.aSum c.za q zwj) p
      { fx with core := putAcc x.land j v p fx.core, accSat := fx.accSat + n }
  let fx := (List.range 16).foldl step (Fx.of c)
  { fx with
    core := { fx.core with pAcc := [], aSum := 0, pPoison := false, latch := [], blockLen := 0 }
    skew := if c.latch = [] then none else some (mism, bits x.w 51 43) }

/-- One element of RESCALE: y and whether it saturated (R177, R178). -/
def rescaleVal (acc : Int) (ent : Nat) : Int × Bool :=
  let y := rneDiv (acc * (bits ent 63 48 : Nat)) (2 ^ bits ent 31 26) + sgn 16 (bits ent 47 32)
  (sat 16 y, decide (sat 16 y ≠ y))

/-- RESCALE (R130, R177, R183, R184); poison goes element by element (R179). An uncorrectable error poisons every result, the cleared
accumulators among them (R103). A shift above 47 gives an undefined result: the value and whether it saturated are free
(R15). -/
def fxRescale (x : IssueArgs) (c : Core) : Fx :=
  let m := tget 0 c.monitor (tagCtx x.tag)
  let step := fun (fx : Fx) (k : Nat) =>
    let wd := bits x.w 51 43 + k
    let ent := tblWord c (tagCtx x.tag) (tagFrame x.tag) wd
    let a := accOf c (bits x.w 42 38 + k)
    let p := a.poison || x.bad
    let wild := decide (47 < bits ent 31 26)
    let (y, s) := if wild then (sgn 16 (freeAt x fx), bit (freeAt x fx) 16) else rescaleVal a.v ent
    let mon := decide (bits m 63 55 ≤ wd ∧ wd < bits m 63 55 + bits m 54 50) && !p
    let core := putAr x.land (bits x.w 32 28 + k) y p fx.core
    { fx with
      core := if bit x.w 27 then putAcc x.land (bits x.w 42 38 + k) 0 x.bad core else core
      resSat := fx.resSat + (if s && !p then 1 else 0)
      clips := if mon then fx.clips ++ [⟨bits m 49 38 + (wd - bits m 63 55), x.frame, 1, if s then 1 else 0⟩] else fx.clips
      drawn := if wild then fx.drawn + 1 else fx.drawn
      undef := fx.undef || wild }
  (List.range (bits x.w 37 33 + 1)).foldl step (Fx.of c)

/-- ACTLUT on one value (R131), with the 256-entry table as a function. -/
def actLut (t : Nat → Int) (sh : Nat) (interp : Bool) (x : Int) : Int :=
  let v := x / (2 ^ sh : Nat)
  let i := (clampI 0 255 (v + 128)).toNat
  if interp = true ∧ 0 < sh ∧ 0 ≤ v + 128 ∧ v + 128 ≤ 254 then
    sat 16 (t i + rneDiv ((t (i + 1) - t i) * (x - v * (2 ^ sh : Nat))) (2 ^ sh))
  else t i

/-- A register of a run is poisoned (Table 5.3: one poisoned source poisons every destination). -/
def arRunPoison (c : Core) (a n : Nat) : Bool := (codes a n).any (fun i => (arOf c i).poison)

/-- ACTLUT (R131); the sources are read before any element is written (DESIGN CHOICE, log entry 154). -/
def fxActlut (x : IssueArgs) (c : Core) : Fx :=
  let t := fun (i : Nat) => v4 (tblWord c (tagCtx x.tag) (tagFrame x.tag) (bits x.w 39 31 + i / 4)) (i % 4)
  let p := arRunPoison c (bits x.w 51 47) (bits x.w 41 40 + 1) || x.bad
  let step := fun (core : Core) (k : Nat) =>
    putAr x.land (bits x.w 46 42 + k) (actLut t (bits x.w 30 27) (bit x.w 26) (arOf c (bits x.w 51 47 + k)).v) p core
  Fx.of ((List.range (bits x.w 41 40 + 1)).foldl step c)

/-- STATE write (R139) of one register. DESIGN CHOICE (log entry 126): a write clears the initial mark. -/
def putState (x : IssueArgs) (i : Nat) (v : Int) (p : Bool) (c : Core) : Core :=
  let k := tagCtx x.tag * 16 + i
  { c with sreg := tset SReg.rest c.sreg k ⟨v, p, tagFrame x.tag, false⟩, land := tset 0 c.land (80 + k) x.land }

/-- STATE with DIR = 1. -/
def fxStateWrite (x : IssueArgs) (c : Core) : Fx :=
  Fx.of ((List.range (bits x.w 46 45 + 1)).foldl (fun core k =>
    putState x (bits x.w 50 47 + k) (arOf c (bits x.w 44 40 + k)).v ((arOf c (bits x.w 44 40 + k)).poison || x.bad) core) c)

/-- STATE with DIR = 0: values and poison are copied; a register marked initial loses the mark, and its value counts as
the previous frame's (R139; the marker left behind is DEDUCED, log entry 4). -/
def fxStateRead (x : IssueArgs) (c : Core) : Fx :=
  Fx.of ((List.range (bits x.w 46 45 + 1)).foldl (fun core k =>
    let i := tagCtx x.tag * 16 + (bits x.w 50 47 + k)
    let s := tget SReg.rest c.sreg i
    let core := putAr x.land (bits x.w 44 40 + k) s.v (s.poison || x.bad) core
    if s.initial then
      { core with sreg := tset SReg.rest core.sreg i ⟨s.v, s.poison, (tagFrame x.tag + 255) % 256, false⟩ }
    else core) c)

/-- SEND (R132): the token and its outputs. -/
def fxSend (x : IssueArgs) (c : Core) : Fx :=
  let w := x.w
  let t := tokAt x (bits w 28 26)
  let rs := codes (bits w 44 40) (bits w 31 30 + 1)
  let pay := if bit w 29 then t.payload else if bit w 24 then mkW (accOf c (bits w 44 40)).v
    else mkV4 (rs.map (fun i => (arOf c i).v))
  let p := if bit w 29 then t.poison else if bit w 24 then (accOf c (bits w 44 40)).poison
    else rs.any (fun i => (arOf c i).poison)
  let it := if bits w 39 38 = 0 then tagIter x.tag else if bits w 39 38 = 1 then tagIter x.tag + 1 else bits w 37 32
  { Fx.of c with emit := some (bits w 51 45, ⟨pay, mkTag (tagFrame x.tag) it (tagCtx x.tag), p || x.bad⟩) }

/-- RECV (R133). An accumulator loses its poison only when it is cleared, so one that is poisoned stays so (Table 5.3). -/
def fxRecv (x : IssueArgs) (c : Core) : Fx :=
  let t := tokAt x (bits x.w 51 49)
  let p := t.poison || x.bad
  if bit x.w 42 then Fx.of (putAcc x.land (bits x.w 47 43) (w40 t.payload) (p || (accOf c (bits x.w 47 43)).poison) c)
  else Fx.of ((List.range 4).foldl (fun core k => putAr x.land (bits x.w 47 43 + k) (v4 t.payload k) p core) c)

/-- One step of REDUCE on 16-bit values (R134). -/
def reduce16 (fn : Nat) (a b : Int) : Int :=
  if fn = 1 then sat 16 (a + b) else if fn = 2 then max a b else min a b

/-- REDUCE (R134): left, local, right, saturating after each step. A poisoned source poisons every destination, and a poisoned
accumulator stays poisoned (Table 5.3). -/
def fxReduce (x : IssueArgs) (c : Core) : Fx :=
  let w := x.w
  let l := tokAt x (bits w 51 49)
  let hasR := decide (bits w 47 45 ≠ 7)
  let r := tokAt x (bits w 47 45)
  let la := bit w 41
  let dst := bits w 40 36
  let fn := bits w 43 42
  if fn = 0 then
    let p := l.poison || x.bad || (accOf c dst).poison || (hasR && r.poison)
    let (s1, n1) := if la then accAdd (w40 l.payload) (accOf c dst).v p else (w40 l.payload, 0)
    let (s2, n2) := if hasR then accAdd s1 (w40 r.payload) p else (s1, 0)
    { Fx.of (putAcc x.land dst s2 p c) with accSat := n1 + n2 }
  else
    let val := fun k =>
      let s1 := if la then reduce16 fn (v4 l.payload k) (arOf c (dst + k)).v else v4 l.payload k
      if hasR then reduce16 fn s1 (v4 r.payload k) else s1
    let p := l.poison || x.bad || (la && arRunPoison c dst 4) || (hasR && r.poison)
    Fx.of ((List.range 4).foldl (fun core k => putAr x.land (dst + k) (val k) p core) c)

/-- The comparisons of CMP (Table 5.16). -/
def cmpCond (n : Nat) (a b : Int) : Bool :=
  if n = 0 then decide (a = b) else if n = 1 then decide (a ≠ b) else if n = 2 then decide (a < b)
  else if n = 3 then decide (a ≤ b) else if n = 4 then decide (b < a) else decide (b ≤ a)

/-- CMP. -/
def fxCmp (x : IssueArgs) (c : Core) : Fx :=
  let w := x.w
  let a := arOf c (bits w 51 47)
  let b : PReg := if bit w 41 then ⟨sgn 16 (bits w 32 17), false⟩ else arOf c (bits w 46 42)
  let o := predOf c (bits w 40 38)
  let r := cmpCond (bits w 37 35) a.v b.v
  let comb := bits w 34 33
  let v := if comb = 0 then r else if comb = 1 then r && decide (o.v = 1) else r || decide (o.v = 1)
  Fx.of (putPred x.land (bits w 40 38) (if v then 1 else 0)
    (a.poison || b.poison || x.bad || (decide (comb ≠ 0) && o.poison)) c)

/-- SEL: PR and PN select, they guard nothing (R119, Table 5.3). DESIGN CHOICE (log entry 154): every source is read before any
element is written. -/
def fxSel (x : IssueArgs) (c : Core) : Fx :=
  let w := x.w
  let s := predOf c (prOf w)
  let one := decide ((s.v = 1) = (pnBit w = false))
  let src := if one then bits w 51 47 else bits w 46 42
  Fx.of ((List.range (bits w 36 35 + 1)).foldl (fun core k =>
    putAr x.land (bits w 41 37 + k) (arOf c (src + k)).v ((arOf c (src + k)).poison || s.poison || x.bad) core) c)

/-- First maximum of a run of registers: value and offset (R136). -/
def maxRun (vs : List Int) : Int × Nat :=
  let m := vs.foldl max (vs.headD 0)
  (m, vs.findIdx (· == m))

/-- MAXP (R136). -/
def fxMaxp (x : IssueArgs) (c : Core) : Fx :=
  let rs := codes (bits x.w 51 47) (bits x.w 46 42 + 1)
  let (m, o) := maxRun (rs.map (fun i => (arOf c i).v))
  let p := rs.any (fun i => (arOf c i).poison) || x.bad
  let c' := putAr x.land (bits x.w 41 37) m p c
  Fx.of (if bit x.w 36 then putAr x.land (bits x.w 41 37 + 1) o p c' else c')

/-- MOV of a register run (MODE 0). DESIGN CHOICE (log entry 154): where source and destination runs overlap, every source is read
before any element is written; so in SEL and ACTLUT. -/
def fxMovRun (x : IssueArgs) (c : Core) : Fx :=
  let p := arRunPoison c (bits x.w 44 40) (bits x.w 39 38 + 1) || x.bad
  Fx.of ((List.range (bits x.w 39 38 + 1)).foldl (fun core k =>
    putAr x.land (bits x.w 49 45 + k) (arOf c (bits x.w 44 40 + k)).v p core) c)

/-- MOV of an immediate (MODE 1). -/
def fxMovImm (x : IssueArgs) (c : Core) : Fx :=
  Fx.of ((List.range (bits x.w 39 38 + 1)).foldl (fun core k =>
    putAr x.land (bits x.w 49 45 + k) (sgn 16 (bits x.w 37 22)) x.bad core) c)

/-- MOV that clears accumulators (MODE 2). -/
def fxMovClear (x : IssueArgs) (c : Core) : Fx :=
  Fx.of ((List.range 18).foldl (fun core k => if bit x.w (k + 4) then putAcc x.land k 0 x.bad core else core) c)

/-- LDW (R136). -/
def fxLdw (x : IssueArgs) (c : Core) : Fx :=
  let t := tblWord c (tagCtx x.tag) (tagFrame x.tag) (bits x.w 51 43)
  Fx.of ((List.range 4).foldl (fun core k => putAr x.land (bits x.w 42 38 + k) (v4 t k) x.bad core) c)

/-- RING (R135): slot, the four values as one word, poison. -/
def fxRing (x : IssueArgs) (c : Core) : Fx :=
  let rs := codes (bits x.w 49 45) 4
  { Fx.of c with ringW := some (bits x.w 51 50, mkV4 (rs.map (fun i => (arOf c i).v)),
      rs.any (fun i => (arOf c i).poison) || x.bad) }

/-- A poisoned guard: destinations keep their values and are poisoned (Table 5.3); a STATE write sets the markers and
poisons the registers it names (R139). -/
def fxPoisoned (x : IssueArgs) (c : Core) : Fx :=
  let c := (writesOf x.w).foldl (fun c k => poisonCode x.land k c) c
  if opOf x.w = 1 then Fx.of { c with pPoison := true }
  else if opOf x.w = 3 then Fx.of { c with zPoison := true, land := tset 0 c.land 72 x.land }
  else if opOf x.w = 4 then Fx.of { c with pPoison := true }
  else if opOf x.w = 7 ∧ bit x.w 51 then
    Fx.of ((List.range (bits x.w 46 45 + 1)).foldl (fun core k =>
      putState x (bits x.w 50 47 + k) (sregOf c (tagCtx x.tag) (bits x.w 50 47 + k)).v true core) c)
  else Fx.of c

/-- A false guard: nothing is written, but a STATE write sets the markers (R119). DESIGN CHOICE (log entry 126): a STATE read under a
false or poisoned guard leaves the initial mark set. -/
def fxSkipped (x : IssueArgs) (c : Core) : Fx :=
  if opOf x.w = 7 ∧ bit x.w 51 then
    Fx.of ((List.range (bits x.w 46 45 + 1)).foldl (fun core k =>
      let s := sregOf c (tagCtx x.tag) (bits x.w 50 47 + k)
      putState x (bits x.w 50 47 + k) s.v s.poison core) c)
  else Fx.of c

/-- An operation `f` under the guard of its word. -/
def guarded (f : IssueArgs → Core → Fx) (x : IssueArgs) (c : Core) : Fx :=
  match guardOf c x.w with
  | .run => f x c
  | .skip => fxSkipped x c
  | .poison => fxPoisoned x c

end Sys2Proof.Machine
end

