-- ==== Sys2Proof/Machine/Crypto.lean ====
section
/-! DEFINITION. Check sums, digests and signatures that the spec names by their standards: CRC-32 (IEEE 802.3), SM3
(GB/T 32905), SM2 (GB/T 32918, recommended curve), and the field of the input fingerprint. -/

namespace Sys2Proof.Machine

/-! ### CRC-32 -/

/-- CRC-32 of IEEE 802.3: one byte into the remainder. -/
def crcStep (c b : Nat) : Nat :=
  (List.range 8).foldl (fun c _ => if c % 2 = 1 then (c / 2) ^^^ 0xEDB88320 else c / 2) (c ^^^ (b % 256))

/-- CRC-32 of IEEE 802.3 over bytes (R64). -/
def crc32 (bs : List Nat) : Nat := bs.foldl crcStep 0xFFFFFFFF ^^^ 0xFFFFFFFF

/-! ### SM3 -/

def add32 (a b : Nat) : Nat := (a + b) % 0x100000000
/-- A 32-bit word rotated left. -/
def rotl32 (x k : Nat) : Nat := (x % (1 <<< (32 - k % 32))) <<< (k % 32) + x >>> (32 - k % 32)
def sm3P0 (x : Nat) : Nat := x ^^^ rotl32 x 9 ^^^ rotl32 x 17
def sm3P1 (x : Nat) : Nat := x ^^^ rotl32 x 15 ^^^ rotl32 x 23

/-- Big-endian number of a list of bytes. -/
def beNum (bs : List Nat) : Nat := bs.foldl (fun a b => a * 256 + b % 256) 0

/-- Big-endian bytes of a number. -/
def beBytes (n k : Nat) : List Nat := (bytesOf n k).reverse

/-- The expanded message of a block: words held newest first. -/
def sm3Expand (blk : List Nat) : List Nat :=
  let w0 := ((List.range 16).map (fun i => beNum ((blk.drop (4 * i)).take 4))).reverse
  ((List.range 52).foldl (fun ws _ =>
    (sm3P1 (ws.getD 15 0 ^^^ ws.getD 8 0 ^^^ rotl32 (ws.getD 2 0) 15) ^^^ rotl32 (ws.getD 12 0) 7 ^^^ ws.getD 5 0) :: ws) w0).reverse

/-- One round j on the eight state words. -/
def sm3Round (ws v : List Nat) (j : Nat) : List Nat :=
  match v with
  | [a, b, c, d, e, f, g, h] =>
    let t := if j < 16 then 0x79cc4519 else 0x7a879d8a
    let ss1 := rotl32 (add32 (add32 (rotl32 a 12) e) (rotl32 t j)) 7
    let ss2 := ss1 ^^^ rotl32 a 12
    let ff := if j < 16 then a ^^^ b ^^^ c else (a &&& b) ||| (a &&& c) ||| (b &&& c)
    let gg := if j < 16 then e ^^^ f ^^^ g else (e &&& f) ||| ((0xFFFFFFFF ^^^ e) &&& g)
    let tt1 := add32 (add32 ff d) (add32 ss2 (ws.getD j 0 ^^^ ws.getD (j + 4) 0))
    let tt2 := add32 (add32 gg h) (add32 ss1 (ws.getD j 0))
    [tt1, a, rotl32 b 9, c, sm3P0 tt2, e, rotl32 f 19, g]
  | _ => v

/-- The compression of one 64-byte block. -/
def sm3Block (v blk : List Nat) : List Nat :=
  let ws := sm3Expand blk
  List.zipWith (· ^^^ ·) ((List.range 64).foldl (sm3Round ws) v) v

/-- Compress the first `n` blocks of a padded message. -/
def sm3Blocks : Nat → List Nat → List Nat → List Nat
  | 0, v, _ => v
  | n + 1, v, bs => sm3Blocks n (sm3Block v (bs.take 64)) (bs.drop 64)

/-- SM3: the 32 bytes of the digest. -/
def sm3 (msg : List Nat) : List Nat :=
  let z := (119 - msg.length % 64) % 64
  let p := msg ++ [0x80] ++ List.replicate z 0 ++ beBytes (8 * msg.length) 8
  (sm3Blocks (p.length / 64)
    [0x7380166f, 0x4914b2b9, 0x172442d7, 0xda8a0600, 0xa96f30bc, 0x163138aa, 0xe38dee4d, 0xb0fb0e4e] p).flatMap
    (fun w => beBytes w 4)

/-- The digest as a dictionary value of 32 bytes: byte 0 lowest. -/
def sm3n (msg : List Nat) : Nat := ofBytes (sm3 msg)

/-! ### The fingerprint's field (R263) -/

/-- a * x in GF(2^128) with x^128 + x^7 + x^2 + x + 1. -/
def gfDouble (a : Nat) : Nat := if 2 ^ 127 ≤ a then ((a - 2 ^ 127) * 2) ^^^ 0x87 else a * 2

/-- Product in GF(2^128), bit i the coefficient of x^i. -/
def gfMul (a b : Nat) : Nat :=
  ((List.range 128).foldl (fun (s : Nat × Nat) i => (if bit b i then s.1 ^^^ s.2 else s.1, gfDouble s.2)) (0, a)).1

/-! ### SM2 -/

def sm2p : Nat := 0xFFFFFFFEFFFFFFFFFFFFFFFFFFFFFFFFFFFFFFFF00000000FFFFFFFFFFFFFFFF
def sm2n : Nat := 0xFFFFFFFEFFFFFFFFFFFFFFFFFFFFFFFF7203DF6B21C6052B53BBF40939D54123
def sm2b : Nat := 0x28E9FA9E9D9F5E344D5A9E4BCF6509A7F39789F515AB8F92DDBCBD414D940E93
def sm2gx : Nat := 0x32C4AE2C1F1981195F9904466A39C9948FE30BBFF2660BE1715A4589334C74C7
def sm2gy : Nat := 0xBC3736A2F4F6779C59BDCEE36B692153D0A9877CC62A474002DF32E52139F0A0

/-- b^e mod m for e < 2^256. -/
def powMod (b e m : Nat) : Nat :=
  (List.range 256).foldl (fun acc i =>
    let s := acc * acc % m
    if bit e (255 - i) then s * b % m else s) 1

def invMod (a : Nat) : Nat := powMod a (sm2p - 2) sm2p
def subMod (a b : Nat) : Nat := (a + sm2p - b % sm2p) % sm2p

/-- Sum of two points of the curve; `none` is the point at infinity. -/
def ecAdd : Option (Nat × Nat) → Option (Nat × Nat) → Option (Nat × Nat)
  | none, q => q
  | p, none => p
  | some (x1, y1), some (x2, y2) =>
    if x1 = x2 ∧ (y1 + y2) % sm2p = 0 then none
    else
      let k := if x1 = x2 then (3 * x1 * x1 + sm2p - 3) % sm2p * invMod (2 * y1 % sm2p) % sm2p
        else subMod y2 y1 * invMod (subMod x2 x1) % sm2p
      let x3 := subMod (subMod (k * k % sm2p) x1) x2
      some (x3, subMod (k * subMod x1 x3 % sm2p) y1)

/-- k times a point, k < 2^256. -/
def ecMul (k : Nat) (p : Option (Nat × Nat)) : Option (Nat × Nat) :=
  (List.range 256).foldl (fun acc i =>
    let s := ecAdd acc acc
    if bit k (255 - i) then ecAdd s p else s) none

def onCurve (x y : Nat) : Bool :=
  decide (x < sm2p ∧ y < sm2p ∧ y * y % sm2p = (x * x * x + (sm2p - 3) * x + sm2b) % sm2p)

/-- The SM2 verification equation on a digest e, for a public key (x, y) and a signature (r, s). -/
def sm2Check (e x y r s : Nat) : Bool :=
  let t := (r + s) % sm2n
  decide (1 ≤ r ∧ r < sm2n ∧ 1 ≤ s ∧ s < sm2n ∧ t ≠ 0) && onCurve x y &&
    (match ecAdd (ecMul s (some (sm2gx, sm2gy))) (ecMul t (some (x, y))) with
     | some (x1, _) => decide ((e + x1) % sm2n = r)
     | none => false)

/-- The SM2 identity digest Z of a public key, with the standard's default identity. -/
def sm2Z (x y : Nat) : List Nat :=
  sm3 ([0x00, 0x80] ++ [0x31, 0x32, 0x33, 0x34, 0x35, 0x36, 0x37, 0x38, 0x31, 0x32, 0x33, 0x34, 0x35, 0x36, 0x37, 0x38]
    ++ beBytes (sm2p - 3) 32 ++ beBytes sm2b 32 ++ beBytes sm2gx 32 ++ beBytes sm2gy 32 ++ beBytes x 32 ++ beBytes y 32)

/-- An SM2 signature (r, s) over a message verifies under a key (x, y). -/
def sm2Verify (x y r s : Nat) (msg : List Nat) : Bool := sm2Check (beNum (sm3 (sm2Z x y ++ msg))) x y r s

/-- The base point of the curve. -/
def sm2G : Option (Nat × Nat) := some (sm2gx, sm2gy)

/-- The public key of a private key. -/
def sm2Public (key : Nat) : Nat × Nat := (ecMul key sm2G).getD (0, 0)

/-- The SM2 signature of a message under a private key in 1 to n - 2, with the random number `k` in 1 to n - 1 (GB/T 32918). -/
def sm2Sign (key k : Nat) (msg : List Nat) : Nat × Nat :=
  let (x, y) := sm2Public key
  let e := beNum (sm3 (sm2Z x y ++ msg))
  let r := (e + ((ecMul k sm2G).map Prod.fst).getD 0) % sm2n
  (r, powMod (1 + key) (sm2n - 2) sm2n * ((k + sm2n - r * key % sm2n) % sm2n) % sm2n)

end Sys2Proof.Machine
end

