-- ==== Sys2Proof/Machine/HostIO.lean ====
section
/-! DEFINITION. The host port (chapter 14): host windows, record rings, the consumer block, MSI-X, link loss and resets. -/

namespace Sys2Proof.Machine

/-! ### Writes to host memory -/

/-- Bytes that a command writes to host memory, run by run. -/
abbrev Writes := List (Nat × List Nat)

/-- Put a byte under an address: addresses stay strictly rising. -/
def memPut (a : Nat) (b : Byte) (m : List Host.Cell) : List Host.Cell := tins a b (terase m a)

/-- The byte that the block has written at an address, if it has written one. -/
def memGet (m : List Host.Cell) (a : Nat) : Option Byte :=
  match m with
  | [] => none
  | (k, b) :: r => if k = a then some b else memGet r a

/-- Canonical form of what the block has written to host memory: addresses strictly rising. An unlisted byte reads as no
value, so no entry can repeat it. -/
def Memory.wf : List Host.Cell → Bool
  | [] => true
  | (a, _) :: m => tabAbove a m && Memory.wf m

/-- Write a run of bytes. -/
def memRun (m : List Host.Cell) (a : Nat) : List Nat → List Host.Cell
  | [] => m
  | b :: bs => memRun (memPut a (BitVec.ofNat 8 b) m) (a + 1) bs

/-- Write all runs, in order. -/
def memWrites (m : List Host.Cell) : Writes → List Host.Cell
  | [] => m
  | w :: ws => memWrites (memRun m w.1 w.2) ws

/-- A command that also writes host memory. -/
def runMem (ok : Bool) (f : Dev → Dev × Writes) (s : State) : Host.Outcome State Fault Refusal :=
  if ok then .next { s with dev := (f s.dev).1, mem := memWrites s.mem (f s.dev).2 } else .refused .malformed

/-! ### Host windows (R349 to R351) -/

def winOf (d : Dev) (k : Nat) : Win := tget Win.rest d.host.wins k

/-- A range lies wholly inside window w while it is enabled. -/
def winHolds (w : Win) (a n : Nat) : Bool :=
  w.enable && decide (w.base / 4096 * 4096 ≤ a ∧ a + n ≤ w.limit / 4096 * 4096)

/-- A range lies wholly inside one enabled window. -/
def inWindow (d : Dev) (a n : Nat) : Bool := (List.range 8).any (fun k => winHolds (winOf d k) a n)

/-- Requests leave the port: the link is up, in D0. -/
def hostOpen (d : Dev) : Bool := d.host.linkUp && !d.host.cfg.d3

/-- A run of bytes cut into bursts of at most 4 KiB that cross no 4 KiB boundary of host addresses (R318); `fuel` bounds their number. -/
def bursts : Nat → Nat → List Nat → Writes
  | 0, _, _ => []
  | fuel + 1, a, bs =>
    if bs = [] then []
    else
      let k := 4096 - a % 4096
      (a, bs.take k) :: bursts fuel (a + k) (bs.drop k)

/-- One burst of a unit (block number of Table 18.2): discarded and reported when it does not lie inside a window (R350). -/
def hostWrite (unit a : Nat) (bs : List Nat) (r : Dev × Writes) : Dev × Writes :=
  if inWindow r.1 a bs.length then (r.1, r.2 ++ [(a, bs)])
  else (report 0x1301 unit a (bump R.WINDOW_VIOLATIONS r.1), r.2)

/-- Bytes of ring r in host memory. -/
def ringBytes (g : Ring) (r : Nat) : Nat := g.entries * (8 * entryWords r)

/-- Ranges that lock the window they lie in (R351). -/
def usedRanges (d : Dev) : List (Nat × Nat) :=
  let rs := rings.filter (fun r => (ringOf d r).enabled)
  rs.map (fun r => ((ringOf d r).base, ringBytes (ringOf d r) r))
    ++ (if rs = [] then [] else [(d.host.consumerBlock, 256)])
    ++ (List.range 16).filterMap (fun n =>
      if dget (R.CHANNEL_STATE n) d ≠ 1 then none
      else if dget (R.DMA_KIND n) d = 2 then some (dget (R.DATA_BUF_ADDR n) d, dget (R.DATA_BUF_BYTES n) d)
      else some (dget (R.DESC_RING_ADDR n) d, dget (R.DESC_RING_ENTRIES n) d * 64))

def winLocked (d : Dev) (k : Nat) : Bool := (usedRanges d).any (fun u => winHolds (winOf d k) u.1 u.2)

/-- A register of 8 bytes after a write of `width` bits at byte `off` within it. -/
def mergeReg (old off width v : Nat) : Nat :=
  let k := 8 * (off % 8)
  let m := 2 ^ width
  old - (old / 2 ^ k % m) * 2 ^ k + (v % m) * 2 ^ k

/-- An access of the registers of BAR0 is 32 or 64 bits wide and aligned (R348). -/
def goodAccess (off width : Nat) : Bool := decide ((width = 32 ∧ off % 4 = 0) ∨ (width = 64 ∧ off % 8 = 0))

/-- A write to the registers of window k (Table 14.3). -/
def winWrite (k off width v : Nat) (d : Dev) : Dev :=
  if winLocked d k then bump R.WINDOW_WRITES_IGNORED d
  else
    let w := winOf d k
    let w' := if off / 8 = 0 then { w with base := mergeReg w.base off width v }
      else if off / 8 = 1 then { w with limit := mergeReg w.limit off width v }
      else if off / 8 = 2 then (if off % 8 = 0 then { w with enable := bit v 0 } else w)
      else w
    { d with host := { d.host with wins := tset Win.rest d.host.wins k w' } }

/-- A write to the MSI-X table: a vector that is unmasked sends its pending message (R363, Table 14.2). -/
def msixWrite (off width v : Nat) (d : Dev) : Dev :=
  let i := off / 8
  let t := tset (msixDefault i) d.host.msixTable i (mergeReg (tget (msixDefault i) d.host.msixTable i) off width v)
  msiFlush (i / 2) { d with host := { d.host with msixTable := t } }

/-- HOST_WINDOW_WRITE: a host write to BAR0 outside ring control and the dictionary window: host windows, the MSI-X table, the
pending-bit array, which a write does not change, and reserved ranges (R348, R351, R447). -/
def hostWindowWrite (off width v : Nat) (d : Dev) : Dev :=
  if 0x1000 ≤ off ∧ off < 0x1100 then
    if goodAccess off width then winWrite ((off - 0x1000) / 32) (off % 32) width v d else setUndef d
  else if 0x4000 ≤ off ∧ off < 0x4400 then
    if goodAccess off width then msixWrite (off - 0x4000) width v d else setUndef d
  else if 0x5000 ≤ off ∧ off < 0x5008 ∧ goodAccess off width = false then setUndef d
  else d

/-- The words of BAR0's registers as a host read of an aligned 64-bit word at `off` gives them, 0 in a reserved range (R348, Table 14.2);
the dictionary window has its own reads (R380). -/
def bar0Word (off : Nat) (d : Dev) : Nat :=
  if 0x1000 ≤ off ∧ off < 0x1100 then
    let k := (off - 0x1000) / 32
    let w := winOf d k
    let o := off % 32
    if o = 0 then w.base else if o = 8 then w.limit
    else if o = 16 then (if w.enable then 1 else 0) + (if winLocked d k then 2 else 0) else 0
  else if 0x2000 ≤ off ∧ off < 0x2800 then
    let r := (off - 0x2000) / 64
    let g := ringOf d r
    let o := off % 64
    if rings.contains r = false then 0
    else if o = 0 then g.base else if o = 8 then g.entries + g.ctrl * 2 ^ 32
    else if o = 16 then g.seq else if o = 24 then g.epoch else 0
  else if off = 0x2800 then d.host.consumerBlock
  else if 0x4000 ≤ off ∧ off < 0x4400 then tget (msixDefault ((off - 0x4000) / 8)) d.host.msixTable ((off - 0x4000) / 8)
  else if off = 0x5000 then d.host.msixPba
  else 0

/-- What a host read of `width` bits outside the dictionary window gives, and the block after it: an access of another width or alignment
to a register block gives a free value, an undefined use (R348, R447). The opcode table has no row for a read. -/
def bar0Read (off width : Nat) (d : Dev) : Nat × Dev :=
  let reg := decide ((0x1000 ≤ off ∧ off < 0x1100) ∨ (0x2000 ≤ off ∧ off < 0x2808) ∨ (0x4000 ≤ off ∧ off < 0x4400) ∨ (0x5000 ≤ off ∧ off < 0x5008))
  if reg ∧ goodAccess off width = false then ((draw d).1 % 2 ^ width, setUndef (draw d).2)
  else (bar0Word (off / 8 * 8) d / 2 ^ (8 * (off % 8)) % 2 ^ width, d)

/-! ### Ring control (R353, R357) -/

/-- The first `k` segments without a record give their buffer space back: their records are lost (R314). -/
def dropSegs (n k : Nat) (d : Dev) : Dev :=
  let g := tget Eng.rest d.engs n
  let waits := (g.used.filter (fun s => s.seq.isNone)).drop k
  { d with engs := tset Eng.rest d.engs n { g with used := g.used.filter (fun s => s.seq.isSome) ++ waits } }

/-- What a ring's hub queue holds is lost (R357, R364). -/
def loseQueue (r reason : Nat) (d : Dev) : Dev :=
  let q := (ringOf d r).queue
  let d := if 16 ≤ r then dropSegs (r - 16) 4096 d else d
  q.foldl (fun d e => loseRec r reason e d) (modRing r (fun g => { g with queue := [] }) d)

/-- The device enables ring r, or refuses (R357). -/
def enableRing (r : Nat) (d : Dev) : Dev :=
  let g := ringOf d r
  let e := g.entries
  let ok := decide (g.base % 4096 = 0 ∧ 64 ≤ e ∧ e ≤ 1048576) && (List.range 21).any (fun k => decide (e = 2 ^ k))
    && inWindow d g.base (ringBytes g r) && inWindow d d.host.consumerBlock 256
  if ok then
    showHost (dset (R.RING_STATE r) 1 (setRing r { g with enabled := true, downed := false, ctrl := setBit g.ctrl 0 true } d))
  else dset (R.RING_STATE r) 2 d

/-- The device disables ring r (R357). Records that were written are announced all the same (R363). -/
def disableRing (r reason : Nat) (d : Dev) : Dev :=
  let d := if (ringOf d r).enabled then loseQueue r reason d else d
  showHost (dset (R.RING_STATE r) 0 (modRing r (fun g =>
    { g with enabled := false, ctrl := setBit g.ctrl 0 false }) d))

/-- MSI-X vector of a ring (Table 14.4). -/
def ringVector (r : Nat) : Nat := r

/-- Ring r announces what it has written: its message, and the count begins anew (R363). -/
def announce (r : Nat) (d : Dev) : Dev := msi (ringVector r) (modRing r (fun g => { g with unann := 0 }) d)

/-- IRQ_COUNT records have been written since the ring's last message (R363). -/
def countMet (g : Ring) : Bool := bit g.ctrl 1 && decide (max (bits g.ctrl 11 4) 1 ≤ g.unann)

/-- A write to RING_CTRL (Table 14.5). -/
def ringCtrl (r v : Nat) (d : Dev) : Dev :=
  let g := ringOf d r
  let d := setRing r { g with ctrl := (bits v 31 16) * 2 ^ 16 + (bits v 11 4) * 16 + (bits v 1 1) * 2 + (if g.enabled then 1 else 0) } d
  let d := if countMet (ringOf d r) then announce r d else d
  if bit v 0 = g.enabled then d else if bit v 0 then enableRing r d else disableRing r 8 d

def ringNo (r : Nat) : Bool := rings.contains r

/-- RING_CONTROL_WRITE: a host write at a BAR0 offset of ring control or of CONSUMER_BLOCK (R353). -/
def ringControlWrite (off width v : Nat) (d : Dev) : Dev :=
  if goodAccess off width = false then setUndef d
  else if 0x2800 ≤ off then
    { d with host := { d.host with consumerBlock := mergeReg d.host.consumerBlock off width v / 256 * 256 } }
  else
    let r := (off - 0x2000) / 64
    let o := off % 64
    let g := ringOf d r
    if ringNo r = false then d
    else if o < 8 then (if g.enabled then d else setRing r { g with base := mergeReg g.base o width v } d)
    else if o = 8 then
      let d := if g.enabled then d else setRing r { g with entries := v % 2 ^ 32 } d
      if width = 64 then ringCtrl r (v / 2 ^ 32) d else d
    else if o = 12 then ringCtrl r v d
    else d

/-! ### Writing records (R354, R355, R358 to R363) -/

/-- A record's TRIGGER_EPOCH and TRIGGER_SEQ are known only once its trigger's record, or the loss record that counted it,
has been written (Table 14.9, promise 2). -/
def needsTrigger (e : Rec) : Bool := decide (e.kind = 3 ∨ e.kind = 4 ∨ e.kind = 0x11)

/-- A record's word 1 with its trigger's epoch and sequence number put in. -/
def linkWords (d : Dev) (e : Rec) : Option (List Nat) :=
  if needsTrigger e then
    match e.link with
    | none => some e.words
    | some k =>
      match tget none d.host.trigSeq k with
      | none => none
      | some (sq, ep) => match e.words with
        | w :: ws => some ((w + ep * 2 ^ 40 + sq % 2 ^ 40) :: ws)
        | [] => some []
  else some e.words

/-- The epoch a record is written with: that of the ring now, but in the verdict ring, where records wait ahead of the gap that closes
their epoch, and in a loss record, that of the frames (R343, R358 to R360, Table 12.9). -/
def recEpoch (d : Dev) (r : Nat) (e : Rec) : Nat := if r = 0 ∨ e.kind = 7 then e.epoch else (ringOf d r).epoch

/-- A review record waits for the capture record from which its job was formed (R344). -/
def needsCapture (d : Dev) (e : Rec) : Bool :=
  decide (e.kind = 4) && (ringOf d 2).queue.any (fun x =>
    decide (x.kind = 3 ∧ x.link = e.link ∧ x.words.headD 0 / 2 ^ 56 = e.words.headD 0 / 2 ^ 56))

/-- A record made, or written, while an undefined use is in force may hold anything (R15): its words are free values (log entry 131). -/
def freeRecord (r : Nat) (e : Rec) (ws : List Nat) (d : Dev) : List Nat × Dev :=
  if d.undef ∨ e.free then
    ((List.range (entryWords r - 2)).map (fun k => (Config.freeWord (d.freeCtr + k)).toNat), { d with freeCtr := d.freeCtr + (entryWords r - 2) })
  else (ws, d)

/-- The bytes of a record: word 0, its words, zeros, and the valid word apart (R355). -/
def recordBytes (r seq : Nat) (e : Rec) (ws : List Nat) : List Nat × List Nat :=
  let n := entryWords r
  let w0 := e.kind * 2 ^ 56 + e.epoch % 65536 * 2 ^ 40 + seq % 2 ^ 40
  let body := (w0 :: ws ++ List.replicate n 0).take (n - 1)
  (body.flatMap (fun w => bytesOf w 8), bytesOf (2 ^ 63 + seq % 2 ^ 40) 8)

/-- What follows from a record having been written with sequence number `seq`. -/
def recordWritten (r seq : Nat) (e : Rec) (d : Dev) : Dev :=
  let d := if e.kind = 5 then
      bumpBy R.GAP_RECORDS 1 (dset R.GAP_FRAMES (dget R.GAP_FRAMES d + (e.words.getD 1 0 + 1 - e.words.getD 0 0)) d)
    else d
  let d := if e.kind = 7 then bumpBy R.RECORDS_LOST (e.words.getD 0 0) d else d
  let d := if r = 1 ∧ e.kind = 2 then
      match e.link with
      | some k => { d with host := { d.host with trigSeq := tset none d.host.trigSeq k (some (seq, e.epoch)) } }
      | none => d
    else d
  let d := if r = 1 ∧ e.kind = 7 then
      { d with host := { d.host with
        trigSeq := (d.host.trigBatch.headD []).foldl (fun t k => tset none t k (some (seq, e.epoch))) d.host.trigSeq
        trigBatch := d.host.trigBatch.tail } }
    else d
  let d := if e.kind = 0x10 then
      let n := r - 16
      let g := tget Eng.rest d.engs n
      let rec0 := g.used.findIdx (fun s => s.seq.isNone)
      { d with engs := tset Eng.rest d.engs n { g with
        lastSeg := seq, used := g.used.mapIdx (fun i s => if i = rec0 then { s with seq := some seq } else s) } }
    else d
  let g := ringOf d r
  let d := setRing r { g with seq := seq + 1, unann := g.unann + 1, oldestAt := if g.unann = 0 then d.now else g.oldestAt } d
  if countMet (ringOf d r) ∨ ((e.kind = 0x12 ∨ e.kind = 0x10) ∧ e.audit) then announce r d else d

/-- A mark names its segment's SEQ when it is written (Table 12.8). -/
def markWords (d : Dev) (r : Nat) (e : Rec) (ws : List Nat) : List Nat :=
  if e.kind = 0x11 then ws.set 3 (tget Eng.rest d.engs (r - 16)).lastSeg else ws

/-- RECORD_WRITE: the record at the head of ring r's hub queue is written, when the ring has room (R354, R355); a verdict record not before
its time (Table 10.2). -/
def recordWrite (r : Nat) (d : Dev) : Dev × Writes :=
  let g := ringOf d r
  match g.queue with
  | [] => (d, [])
  | e :: q =>
    if g.enabled = false ∨ hostOpen d = false ∨ dget R.POWER_STATE d = 3 ∨ ¬ g.seq < g.consumer + g.entries ∨ needsCapture d e then (d, [])
    else
      match linkWords d e with
      | none => (d, [])
      | some ws =>
        let d := advTo e.due d
        let e := { e with epoch := recEpoch d r e }
        let (ws, d) := freeRecord r e (markWords d r e ws) d
        let b := recordBytes r g.seq e ws
        let a := g.base + g.seq % g.entries * (8 * entryWords r)
        let d := setRing r { g with queue := q } d
        if inWindow d a (8 * entryWords r) then
          (recordWritten r g.seq e d, [(a, b.1), (a + 8 * (entryWords r - 1), b.2)])
        else
          let d := if e.kind = 0x10 then dropSegs (r - 16) 1 d else d
          (loseRec r 32 e (report 0x1301 12 a (bump R.WINDOW_VIOLATIONS d)), [])

/-- MSIX_DELAY_EXPIRY (R363). -/
def msixDelayExpiry (r : Nat) (d : Dev) : Dev :=
  let g := ringOf d r
  if bit g.ctrl 1 ∧ g.unann ≠ 0 then announce r (advTo (g.oldestAt + bits g.ctrl 31 16 * acPerUs) d) else d

def execMsixDelayExpiry (r : Nat) (s : State) : Host.Outcome State Fault Refusal :=
  run (decide (r < 5 ∨ (16 ≤ r ∧ r < 32))) (msixDelayExpiry r) s

/-! ### The consumer block (R356) -/

/-- CI_FETCH: a read of the consumer block starts; reads started 8 us apart may be outstanding together. -/
def ciFetch (d : Dev) : Dev := if hostOpen d then { d with host := { d.host with fetches := d.host.fetches ++ [d.now] } } else d

def execCiFetch (s : State) : Host.Outcome State Fault Refusal := run true ciFetch s

/-- Segments that the host has consumed free their buffer space (R314). -/
def freeSegs (n c : Nat) (d : Dev) : Dev :=
  let g := tget Eng.rest d.engs n
  { d with engs := tset Eng.rest d.engs n { g with
    used := g.used.filter (fun s => match s.seq with | some q => decide (c ≤ q) | none => true) } }

/-- One enabled ring takes its word; a word that goes backwards or passes NEXT_SEQ has an undefined result (R356, R447):
the ring then holds a free value. -/
def takeConsumer (r w : Nat) (d : Dev) : Dev :=
  let g := ringOf d r
  if g.enabled = false then d
  else
    let bad := decide (w < g.consumer ∨ g.seq < w)
    let (v, d') := draw d
    let d := if bad then setUndef d' else d
    let c := if bad then v else w
    let d := setRing r { g with consumer := c } d
    if 16 ≤ r then freeSegs (r - 16) c d else d

/-- CI_FETCH_DONE: the 32 words of the oldest read. -/
def ciFetchDone (words : List Nat) (d : Dev) : Dev :=
  match d.host.fetches with
  | [] => d
  | _ :: l => rings.foldl (fun d r => takeConsumer r (words.getD r 0) d) { d with host := { d.host with fetches := l } }

def execCiFetchDone (words : List Nat) (s : State) : Host.Outcome State Fault Refusal :=
  run (decide (words.length = 32) && words.all (fun w => decide (w < 2 ^ 64))) (ciFetchDone words) s

/-- CI_FETCH_TIMEOUT: 50 us have passed for the oldest read; the old values stay (R356). -/
def ciFetchTimeout (d : Dev) : Dev :=
  match d.host.fetches with
  | [] => d
  | t :: l =>
    let d := bump R.CI_FETCH_ERRORS (advTo (t + 50 * acPerUs) { d with host := { d.host with fetches := l } })
    report 0x1302 0 (dget R.CI_FETCH_ERRORS d) d

def execCiFetchTimeout (s : State) : Host.Outcome State Fault Refusal := run true ciFetchTimeout s

/-! ### Link and resets (R364, R491) -/

/-- HOST_LINK_UP: training completes with PERST_N released; `rate` 1 to 6, `width` lanes; `aspm` and `cfg` are what the host sets in
configuration space (ASPM L1.2; Table 14.1), for whose accesses the opcode table has no row (log entry 133). The hub must be up (R491).
Messages that waited for the link or for MSI-X leave. -/
def hostLinkUp (rate width : Nat) (aspm : Bool) (cfg : HostCfg) (d : Dev) : Dev :=
  if d.host.perstN = false ∨ d.pins.porN = false ∨ d.sys.step < 3 then d
  else
    let d := showHost (dset R.LINK_WIDTH width (dset R.LINK_RATE rate
      { d with host := { d.host with linkUp := true, cfg := cfg }, pwr := { d.pwr with aspm := aspm } }))
    (List.range 64).foldl (fun d v => msiFlush v d) d

def execHostLinkUp (rate width : Nat) (conf : HostConf) (s : State) : Host.Outcome State Fault Refusal :=
  run (decide (1 ≤ rate ∧ rate ≤ 6) && [1, 2, 4, 8, 16].contains width && cfgOk conf.cfg) (hostLinkUp rate width conf.l12 conf.cfg) s

/-- The link goes out of use. -/
def linkOff (d : Dev) : Dev :=
  showHost (dset R.LINK_WIDTH 0 (dset R.LINK_RATE 0 { d with host := { d.host with linkUp := false, fetches := [] } }))

/-- The host port's part of a link loss (Table 14.10). -/
def portLinkDown (d : Dev) : Dev :=
  let d := linkOff (bump R.LINK_DOWN_EVENTS d)
  let d := rings.foldl (fun d r =>
    let was := (ringOf d r).enabled
    let d := disableRing r 16 d
    if was then modRing r (fun g => { g with downed := true }) d else d) d
  report 0x0303 0 0 d

/-- The host port's part of a function-level reset (Table 14.10); `by` 0 FLR, 1 PERST_N. -/
def portReset (cause : Nat) (d : Dev) : Dev :=
  let d := rings.foldl (fun d r => modRing r (fun g => { g with base := 0, entries := 0, ctrl := 0, downed := false })
    (disableRing r 8 d)) d
  let d := { d with host := { d.host with
    wins := [], consumerBlock := 0, fetches := [], msixTable := [], msixPba := 0, cfg := HostCfg.rest } }
  report 0x0304 cause 0 (bump R.HOST_RESETS d)

/-- PERST_N_RELEASE: training may start (R491). -/
def execPerstNRelease (s : State) : Host.Outcome State Fault Refusal :=
  run true (fun d => { d with host := { d.host with perstN := true } }) s

/-! ### Audit (R267 to R269) -/

/-- Where the digest of a record kind begins among its words from word 1. -/
def auditAt (kind : Nat) : Nat := if kind = 1 then 5 else if kind = 4 then 9 else 10

/-- The four words of a digest, byte 0 lowest in the first. -/
def digestWords (n : Nat) : List Nat := (List.range 4).map (fun i => n / 2 ^ (64 * i) % 2 ^ 64)

/-- AUDIT_TIMEOUT: the first record of ring r whose digest could still be outstanding is written with zeros (R269). -/
def auditTimeout (r : Nat) (d : Dev) : Dev :=
  let g := ringOf d r
  let i := g.queue.findIdx (fun e => e.audit && decide (e.kind = 2 ∨ e.kind = 3 ∨ e.kind = 4))
  match g.queue[i]? with
  | none => d
  | some e =>
    let k := auditAt e.kind
    let ws := e.words.mapIdx (fun j w => if k ≤ j ∧ j < k + 4 then 0 else w)
    bump R.AUDIT_SKIPPED (setRing r { g with queue := g.queue.set i { e with words := ws, audit := false } } d)

def execAuditTimeout (r : Nat) (s : State) : Host.Outcome State Fault Refusal :=
  run (decide (r = 1 ∨ r = 2 ∨ r = 4)) (auditTimeout r) s

end Sys2Proof.Machine
end

