-- ==== Sys2Proof/Machine/Jobs.lean ====
section
/-! DEFINITION. Audit messages (R267), settings in force at a sample tick, and the queues and records of review jobs
(R333, R334, R344). -/

namespace Sys2Proof.Machine

/-! ### Audit messages -/

/-- Bytes 0 to 79 of the audit message of frame n (Table 10.6). -/
def auditHead (d : Dev) (n : Nat) : List Nat :=
  let f := frameOf d n
  bytesOf f.pDigest 32 ++ bytesOf f.wDigest 32 ++ beBytes (f.fpDigest.getD 0) 16

/-- The digest of an audit message: head, kind, result (Table 10.6). -/
def auditDigest (head : List Nat) (kind : Nat) (result : List Nat) : Nat :=
  sm3n (head ++ [kind] ++ List.replicate 7 0 ++ result)

/-! ### Settings at a sample tick -/

/-- The pattern unit evaluates the sample tick of 64 ac ago; a growth ring passes 56 ac after its frame's B. In the 8 ac
between, what the growth ring has just changed is not in force yet (R282, R285, R288). -/
def evalGet (d : Dev) (r : Reg) : Nat :=
  if d.now < t0At d (curFrame d) + 8 then
    match tget none d.ctl.rwlOld r.key with
    | some v => v
    | none => dget r d
  else dget r d

/-! ### Review jobs -/

def clusOf (d : Dev) (c : Nat) : Clus := tget Clus.rest d.clus c
def setClus (c : Nat) (x : Clus) (d : Dev) : Dev :=
  dset (R.CLUSTER_QUEUED c) x.queue.length { d with clus := tset Clus.rest d.clus c x }

/-- Whole microseconds of an interval in ac, saturating at 32 bits. -/
def usOf (ac : Nat) : Nat := min (ac / acPerUs) 0xFFFFFFFF

/-- A job ends: its review record (Table 13.3) and its counter. `ran0` says that it runs, `requeued` that it ran
before; one that never ran has no digest. -/
def endJob (j : Job) (status : Nat) (ran0 : Bool) (d : Dev) : Dev :=
  let ran := ran0 || j.requeued
  let q := if ran then j.queuedUs else usOf (d.now - j.queuedAt)
  let r := if ran then usOf (d.now - j.runAt) else 0
  let outs := if status = 0 then j.outs else []
  let flags := (if j.mode = 1 then 1 else 0) + (if j.east then 2 else 0) + (if j.requeued then 4 else 0)
  let outWord := fun i => (List.range 4).foldl (fun w k => w + (outs.getD (4 * i + k) 0 % 65536) * 2 ^ (16 * k)) 0
  let on := j.audit && ran
  let dg := if on then auditDigest j.head 4 (sm3 (outs.flatMap (fun v => bytesOf v 2)) ++ [j.mode] ++ List.replicate 7 0) else 0
  let ws := [j.group * 2 ^ 56, j.handle * 2 ^ 32 + status * 2 ^ 24 + j.net * 2 ^ 16 + flags * 2 ^ 8 + j.prio, j.frame,
      q * 2 ^ 32 + r, j.misses * 2 ^ 32 + outs.length * 2 ^ 16 + min j.choices 65535]
    ++ (List.range 4).map outWord ++ digestWords dg ++ [curFrame d]
  let d := pushRec 4 { kind := 4, epoch := 0, frame := some j.frame, words := ws, link := some j.trig, audit := on } d
  if status = 0 then bump R.REVIEW_JOBS_DONE d
  else if status = 1 then bump R.REVIEW_JOBS_AGED d
  else if status = 2 then bump R.REVIEW_JOBS_DROPPED d
  else d

/-- Of two jobs, the one dispatched first: higher priority, then earlier trigger (R335). -/
def jobBefore (a b : Job) : Bool := decide (b.prio < a.prio ∨ (a.prio = b.prio ∧ a.trig < b.trig))

/-- The job that a full queue displaces: lowest priority, then latest trigger (R334). -/
def lastJob : List Job → Option Job
  | [] => none
  | j :: r => match lastJob r with
    | none => some j
    | some k => if jobBefore j k then some k else some j

/-- A job enters the queue of its cluster (R334, R343). -/
def queueJob (j : Job) (d : Dev) : Dev :=
  let c := if j.east then 1 else 0
  let x := clusOf d c
  if dget (R.CLUSTER_STATE c) d = 3 then endJob j 7 false d
  else if x.queue.length < 1024 then setClus c { x with queue := x.queue ++ [j] } d
  else
    match lastJob x.queue with
    | none => d
    | some k =>
      if k.prio < j.prio then endJob k 2 false (setClus c { x with queue := x.queue.erase k ++ [j] } d)
      else endJob j 2 false d

/-- A capture is being read for review while a job of it runs whose input read is not over (R337). -/
def showReading (d : Dev) : Dev :=
  let busy := fun (h : Nat) => [0, 1].any (fun c => match (clusOf d c).job with
    | some j => decide (j.handle = h) && !j.inputRead
    | none => false)
  { d with store := { d.store with caps := d.store.caps.map (fun (c : Cap) =>
      match c.slot with
      | some s => { c with revReading := busy (c.gen * 4096 + s) }
      | none => c) } }

/-- The running job of a cluster leaves it, and the cluster takes state `st` unless it is retired. -/
def leaveClus (c st : Nat) (d : Dev) : Dev :=
  let d := setClus c { clusOf d c with job := none } d
  showReading (if dget (R.CLUSTER_STATE c) d = 3 then d else dset (R.CLUSTER_STATE c) st d)

/-- The running job of a cluster ends (R344). -/
def finishJob (c status : Nat) (d : Dev) : Dev :=
  match (clusOf d c).job with
  | none => d
  | some j => endJob j status true (leaveClus c (if dget R.REVIEW_SHED d = 1 then 2 else 0) d)

/-- An uncorrectable error or a watchdog event in a review core ends the running job with FAULT (R343). -/
def reviewFault (c : Nat) (d : Dev) : Dev :=
  match (clusOf d c).job with
  | none => d
  | some j => finishJob c 5 (report 0x13C1 c j.handle d)

end Sys2Proof.Machine
end

