-- ==== Sys2Proof/Machine/Issue.lean ====
section
/-! DEFINITION. The firing rule (R108 to R117): which instruction a core issues next and when, and what issuing it does
to the block. -/

namespace Sys2Proof.Machine

/-- The strand head of a context that reads an input (the head table of R108). -/
def headFor (c : Core) (ctx input : Nat) : Option Nat :=
  match c.prog.find? (fun p => decide (p.1 / 256 = ctx) && hBit p.2 && (tokOps p.2).any (fun o => decide (o.1 = input))) with
  | some p => some (p.1 % 256)
  | none => none

/-- The slot token that satisfies an operand: the one admitted first (R111). -/
def slotFor (c : Core) (tag input : Nat) : Option Slot :=
  c.slots.find? (fun s => decide (s.input = input ∧ s.tok.tag = tag))

/-- An instance held by a WAIT may go on from this ac, if what it waits for has come (R137). -/
def waitOver (c : Core) (i : Inst) : Option Nat :=
  if i.wait = 2 then (slotFor c i.tag i.waitSrc).map (fun s => s.admitted + 1)
  else if i.wait = 3 then
    match c.lastRing with
    | some g => if older8 (tagFrame i.tag) (g % 256) then some 0 else none
    | none => none
  else some 0

/-- An instance has ended by ac t (R112). DESIGN CHOICE (log entry 156): a strand without an E instruction runs on to address 0xFF, and
its instance ends there. -/
def ended (c : Core) (t : Nat) (i : Inst) : Bool :=
  match i.endAt with
  | some e => decide (e ≤ t)
  | none => decide (256 ≤ i.pc) && (match waitOver c i with | some w => decide (max w i.freeAt ≤ t) | none => false)

/-- Ended instances leave, and with them their MAC locks. -/
def settle (t : Nat) (c : Core) : Core := { c with insts := c.insts.filter (fun i => !ended c t i) }

/-- A state-read is due: every register carries the previous frame's marker or is marked initial (R139). -/
def stateDue (c : Core) (tag w : Nat) : Bool :=
  if opOf w = 7 ∧ bit w 51 = false then
    (codes (bits w 50 47) (bits w 46 45 + 1)).all (fun i =>
      (sregOf c (tagCtx tag) i).initial || decide ((sregOf c (tagCtx tag) i).marker = (tagFrame tag + 255) % 256))
  else true

/-- An instruction that may come next: its strand, tag, address, word, and the instance it belongs to (none: it would
start one). -/
structure Cand where
  ctx : Nat
  head : Nat
  tag : Nat
  pc : Nat
  word : Nat
  inst : Option Inst
deriving DecidableEq, Repr

/-- The candidates of a core: the next instruction of each running instance, and the heads that slot tokens name. -/
def candsOf (c : Core) : List Cand :=
  let run := (c.insts.filter (fun i => decide (i.endAt = none ∧ i.pc < 256))).map (fun i =>
    (⟨tagCtx i.tag, i.head, i.tag, i.pc, tget 0 c.prog (tagCtx i.tag * 256 + i.pc), some i⟩ : Cand))
  let start := c.slots.filterMap (fun s =>
    match headFor c (tagCtx s.tok.tag) s.input with
    | some h => some (⟨tagCtx s.tok.tag, h, s.tok.tag, h, tget 0 c.prog (tagCtx s.tok.tag * 256 + h), none⟩ : Cand)
    | none => none)
  run ++ start

/-- The later of a list of ac, or none if one of them is not known. -/
def latest : List (Option Nat) → Option Nat
  | [] => some 0
  | none :: _ => none
  | some a :: r => (latest r).map (max a)

/-- The ac at which a running instance is known to end. -/
def endOf (c : Core) (i : Inst) : Option Nat :=
  match i.endAt with
  | some e => some e
  | none => if 256 ≤ i.pc then (waitOver c i).map (max i.freeAt) else none

/-- The first ac, not before `t0`, in which a candidate is ready, if nothing else changes (R112, R113). -/
def readyAt (c : Core) (t0 : Nat) (k : Cand) : Option Nat :=
  let toks := (tokOps k.word).map (fun o => (slotFor c k.tag o.1).map (fun s => s.admitted + 1))
  let regs := (readsOf k.word ++ writesOf k.word ++ (if opOf k.word = 3 then [72] else [])
      ++ (if opOf k.word = 7 then (codes (bits k.word 50 47) (bits k.word 46 45 + 1)).map (fun i => 80 + k.ctx * 16 + i) else [])).map
    (fun r => some (tget 0 c.land r))
  let unit := if unitOf k.word = 0 then [] else [some (tget 0 c.unit (unitOf k.word))]
  let lock := if needsLock k.word then
      (c.insts.filter (fun i => i.lock && decide (some i ≠ k.inst))).map (endOf c) else []
  let own := match k.inst with
    | some i => [some i.freeAt, waitOver c i]
    | none =>
      ((c.insts.filter (fun i => decide (i.head = k.head ∧ tagCtx i.tag = k.ctx))).map (endOf c))
      ++ (if c.insts.length < 4 then []
          else [(c.insts.filterMap (endOf c)).foldl (fun m e => optMin m (some e)) none])
  let due := if stateDue c k.tag k.word then [] else [none]
  latest ([some t0] ++ toks ++ regs ++ unit ++ lock ++ own ++ due)

/-- Of two candidates ready in one ac, the first is issued (R113). -/
def before (a b : Cand) : Bool :=
  if tagOlder a.tag b.tag then true
  else if tagOlder b.tag a.tag then false
  else decide (a.head < b.head ∨ (a.head = b.head ∧ a.ctx ≤ b.ctx))

/-- What the core issues next, and in which ac (R113): the earliest ready, of those the oldest tag. -/
def pick (c : Core) (t0 : Nat) : Option (Nat × Cand) :=
  (candsOf c).foldl (fun best k =>
    match readyAt c t0 k with
    | none => best
    | some t =>
      match best with
      | none => some (t, k)
      | some (tb, b) => if t < tb ∨ (t = tb ∧ before b k = false) then some (t, k) else some (tb, b)) none

/-! ### The firing watchdog (R117) -/

/-- The ac by which every instance that has issued its last word is over. -/
def overBy (c : Core) : Nat := c.insts.foldl (fun m i => max m (i.endAt.getD 0)) 0

/-- The ac up to which a running instance is held by something that does not count: a WAIT, a missing token, a state
read that is not due (R117); `none` while no end of it is in sight, or none is left to issue. -/
def exemptTo (c : Core) (i : Inst) : Option Nat :=
  let w := tget 0 c.prog (tagCtx i.tag * 256 + i.pc)
  if i.endAt ≠ none ∨ 256 ≤ i.pc then none
  else if i.wait = 1 then some i.freeAt
  else if i.wait ≠ 0 then waitOver c i
  else if (tokOps w).any (fun o => (slotFor c i.tag o.1).isNone) || !stateDue c i.tag w then none
  else some 0

/-- The first ac in which some instance is held by nothing of the kind, if there is one. -/
def countsFrom (c : Core) : Option Nat := (c.insts.map (exemptTo c)).foldl optMin none

/-- The ac up to `t` that the watchdog counts are counted: those of an instance up to its end, and those after the hold. -/
def wdSettle (t : Nat) (c : Core) : Core :=
  let b := min t (overBy c)
  let n := match countsFrom c with
    | none => 0
    | some e => t - max (max c.wdAt b) e
  { c with wdCount := c.wdCount + (b - c.wdAt) + n, wdAt := max t c.wdAt }

/-! ### Consequences on the block -/

/-- Entries of a queue that have arrived: a token on its way through a slot pad or from its own core's SEND (pr 16 or more) has
not. -/
def arrived (q : List Timed) : List Timed := q.filter (fun x => decide (x.pr < 16))

/-- A token reaches an input queue of a core in ac `due`; a full queue drops it (R151, R152). -/
def enqueue (key input due : Nat) (tok : Tok) (d : Dev) : Dev :=
  let c := coreOf d key
  let q := queueOf c input
  if 8 ≤ (arrived q).length then schedFault 1 (fullFrame (c.lastRing.getD 0) (tagFrame tok.tag)) R.QUEUE_OVERFLOWS d
  else setCore key { c with queues := tset [] c.queues input (q ++ [⟨due, tok, 0⟩])
                            maxQueue := max c.maxQueue ((arrived q).length + 1) } d

/-- One token on its way to a queue whose ac has come reaches it (R209, R152). -/
def landSlot (key t input : Nat) (d : Dev) : Dev :=
  let c := coreOf d key
  let q := queueOf c input
  match q.find? (fun x => decide (16 ≤ x.pr ∧ x.due ≤ t)) with
  | none => d
  | some x =>
    let n := (arrived q).length
    if 8 ≤ n then
      schedFault 1 (fullFrame (c.lastRing.getD 0) (tagFrame x.tok.tag)) R.QUEUE_OVERFLOWS
        (setCore key { c with queues := tset [] c.queues input (q.erase x) } d)
    else
      setCore key { c with queues := tset [] c.queues input (q.map (fun y => if y = x then { y with pr := 0 } else y))
                           maxQueue := max c.maxQueue (n + 1) } d

/-- Every such token whose ac has come by `t` is in its queue. -/
def landSlots (key t : Nat) (d : Dev) : Dev :=
  [1, 3, 5, 6].foldl (fun d i => ((queueOf (coreOf d key) i).filter (fun x => decide (16 ≤ x.pr ∧ x.due ≤ t))).foldl
    (fun d _ => landSlot key t i d) d) d

/-- Pad of an output for a token of context ctx: 0 N, 1 E, 2 S, 3 W, 4 F (Table 6.2). -/
def padOf (c : Core) (ctx out : Nat) : Nat := bits (tget 0 c.route ctx) (47 - 4 * out) (44 - 4 * out)

/-- A token enters an output register or pad chain or the firebreak egress buffer in the ac after its SEND issues at t, and a local
queue in the one after that, where it finds it full or not (R132, R145, R152, R159). -/
def emitTo (key t out : Nat) (tok : Tok) (d : Dev) : Dev :=
  let c := coreOf d key
  let n := fullFrame (c.lastRing.getD 0) (tagFrame tok.tag)
  if out < 4 then
    setCore key { c with outs := tset [] c.outs out (outOf c out ++ [⟨t + 1 + padOf c (tagCtx tok.tag) out, tok, 4⟩]) } d
  else if out = 4 then
    if 2 ≤ c.egress.length then schedFault 3 n R.FB_EGRESS_DROPS d
    else setCore key { c with egress := c.egress ++ [⟨t + 1 + padOf c (tagCtx tok.tag) 4, tok, 0⟩] } d
  else setCore key { c with queues := tset [] c.queues out (queueOf c out ++ [⟨t + 2, tok, 16⟩]) } d

/-- One token to every output that DMASK names (R132). -/
def emitAll (key t dmask : Nat) (tok : Tok) (d : Dev) : Dev :=
  (List.range 7).foldl (fun d out => if bit dmask (6 - out) then emitTo key t out tok d else d) d

/-- The frames that have mismatched, with one more, each once (R182). -/
def skewWith (frame : Nat) (l : List Nat) : List Nat := if l.contains frame then l else (frame :: l).take 32

/-- A block close has compared its tags (R180 to R182). -/
def skewCheck (key frame rcd : Nat) (mism : Bool) (d : Dev) : Dev :=
  let c := coreOf d key
  if mism = false then
    if c.skewRec = rcd then setCore key { c with skewed := c.skewed.filter (fun f => decide (frame < f)) } d else d
  else
    let fs := skewWith frame c.skewed
    let row := fun (f : Nat) => [f, f + 1, f + 2].all fs.contains
    let d := setCore key { c with skewed := fs, skewRec := rcd, resync := true,
                                  skewFrom := some (match c.skewFrom with | some f => min f frame | none => frame) } d
    let d := bump R.SCALE_SKEW_EVENTS d
    let d := dset R.SCALE_SKEW_LAST_FRAME frame (dset R.SCALE_SKEW_LAST key d)
    let d := invalidate frame d
    if row (frame - 2) || row (frame - 1) || row frame then retireCoreP key (report 0x2043 key frame d) else report 0x1043 key frame d

/-- An uncorrectable error in a core memory (R103): mem 0 program, 1 weight, 2 table; in a review core it ends the
cluster's job (R343). -/
def eccError (key mem word : Nat) (scrub : Bool) (d : Dev) : Dev :=
  if 65536 ≤ key then reviewFault ((key - 65536) / 256) (bump R.ECC_UNCORRECTED d)
  else retireCoreP key (report 0x2041 key (mem * 2 ^ 56 + (if scrub then 2 ^ 55 else 0) + word) (bump R.ECC_UNCORRECTED d))

/-- What an instruction hands to the block is taken there. -/
def applyFx (key t frame tag : Nat) (fx : Fx) (d : Dev) : Dev :=
  let d := setCore key fx.core d
  let d := bumpBy R.RESCALE_SAT fx.resSat (bumpBy R.ACC_SAT fx.accSat d)
  let d := { d with enc := { d.enc with counts := d.enc.counts ++ fx.clips } }
  let d := { (if fx.undef then setUndef d else d) with freeCtr := d.freeCtr + fx.drawn }
  let d := match fx.skew with
    | some (m, r) => skewCheck key frame r m d
    | none => d
  let d := match fx.emit with
    | some (m, tok) => emitAll key t m tok d
    | none => d
  match fx.ringW with
  | some (sl, v, p) => { d with fab := { d.fab with rwrites := d.fab.rwrites ++ [⟨t + 8, tag, sl, v, p⟩] } }
  | none => d

/-- The operand tokens of a candidate, by input. -/
def gather (c : Core) (k : Cand) : List (Nat × Tok) :=
  (tokOps k.word).filterMap (fun o => (slotFor c k.tag o.1).map (fun s => (o.1, s.tok)))

/-- Take the first slot token of an operand out of its slot. -/
def consume1 (tag input : Nat) : List Slot → List Slot
  | [] => []
  | s :: r => if s.input = input ∧ s.tok.tag = tag then r else s :: consume1 tag input r

/-- An issuing instruction consumes its token operands, unless kept; two operands of one input are one token (R111). -/
def consume (c : Core) (k : Cand) : Core :=
  { c with slots := (((tokOps k.word).filter (fun o => !o.2)).map Prod.fst).eraseDups.foldl (fun sl i => consume1 k.tag i sl) c.slots }

/-- The instance of a candidate after its instruction has issued in ac t (R112, R114, R137). -/
def stepInst (t : Nat) (k : Cand) : Inst :=
  let w := k.word
  let wt := if opOf w = 0x10 then bits w 51 50 + 1 else 0
  let i0 : Inst := match k.inst with
    | some i => i
    | none => ⟨k.head, k.tag, k.head, false, 0, none, 0, 0⟩
  { i0 with
    pc := if eBit w then 256 else k.pc + 1
    lock := i0.lock || needsLock w
    freeAt := t + occOf w
    endAt := if eBit w && decide (opOf w ≠ 0x10) then some (t + occOf w) else none
    wait := wt
    waitSrc := bits w 39 37 }

/-- The block accumulators, the sum lane and the zero points at the start of a MAC lock (R114). -/
def clearMac (c : Core) : Core :=
  { c with pAcc := [], aSum := 0, pPoison := false, latch := [], blockLen := 0, zw := 0, za := 0, zPoison := false }

/-- The hold of a WAIT for a token has ended when the token came (R137): an instance whose token another strand now takes out of its
slot is held no longer than that. -/
def endHolds (old : Core) (c : Core) : Core :=
  { c with insts := c.insts.map (fun j =>
      match slotFor old j.tag j.waitSrc with
      | some s => if j.wait = 2 ∧ slotFor c j.tag j.waitSrc ≠ some s then { j with wait := 1, freeAt := max j.freeAt (s.admitted + 1) } else j
      | none => j) }

/-- The core after its firing rule has issued candidate k in ac t: instance, tokens, unit, lock, watchdog. -/
def issueCore (t : Nat) (k : Cand) (c : Core) : Core :=
  let had := match k.inst with | some i => i.lock | none => false
  let c := if needsLock k.word && !had then clearMac c else c
  let old := c
  let c := consume c k
  let i' := stepInst t k
  endHolds old { c with
    insts := (match k.inst with
      | some i => c.insts.map (fun j => if j = i then i' else j)
      | none => c.insts ++ [i'])
    unit := if unitOf k.word = 0 then c.unit else tset 0 c.unit (unitOf k.word) (t + occOf k.word)
    lastIssue := some t
    lastTag := if k.inst = none then k.tag else c.lastTag
    wdCount := 0
    wdAt := t + 1 }

/-- The memory words that an instruction reads: one that an overlay covers is served from there (R190). -/
def sramReads (c : Core) (k : Cand) : List (Nat × Nat) :=
  (memReads c.ar k.ctx k.pc k.word).filter (fun w =>
    if w.1 = 1 then !wtCovered c (tagCtx k.tag) (tagFrame k.tag) (w.2 / 32) (w.2 % 32)
    else if w.1 = 2 then !tblCovered c (tagCtx k.tag) (tagFrame k.tag) w.2
    else true)

/-- The upsets that lie in words the instruction reads, one for a word (R103). -/
def upsetHits (c : Core) (k : Cand) (ups : List Upset) : List Upset :=
  ((sramReads c k).eraseDups).filterMap (fun w => ups.find? (fun u => decide ((u.mem, u.word) = w)))

/-- An upset that an instruction has read is counted, and a double-bit one is the core's fault (R103). -/
def takeUpset (key : Nat) (d : Dev) (u : Upset) : Dev := if u.double then eccError key u.mem u.word false d else bump R.ECC_CORRECTED d

/-- A core that runs: an array core that holds a logical core of the map in force, or a review core (R143). -/
def coreRuns (d : Dev) (key : Nat) : Bool := decide (65536 ≤ key) || (actsAs d key).isSome

/-- A core issues its next instruction if `sel` holds of its word, and `f` is what that operation does: the firing rule
of R113 chooses the instruction, the ac and the instance; an instruction of another kind leaves the block unchanged
(that command is not the core's next). `up` are upsets in core memory words. -/
def issueOn (sel : Nat → Bool) (f : IssueArgs → Core → Fx) (key : Nat) (up : List Upset) (d : Dev) : Dev :=
  let c0 := coreOf d key
  let t0 := max d.now (match c0.lastIssue with | some t => t + 1 | none => 0)
  match pick c0 t0 with
  | none => d
  | some (t, k) =>
    if sel k.word = false ∨ coreRuns d key = false then d
    else
      let d := advTo t d
      let c := settle t (wdSettle t c0)
      let toks := gather c k
      let a1 := decide (d.fuses.stepping = 0xA1)
      let frame := fullFrame (c.lastRing.getD 0) (tagFrame k.tag)
      let hits := upsetHits c k up
      let bad := hits.any (fun u => u.double)
      let x : IssueArgs := ⟨k.word, k.tag, toks, t + occOf k.word - 1 + latOf a1 k.word, bad, frame, d.freeCtr⟩
      let fx := f x (issueCore t k c)
      hits.foldl (takeUpset key) (applyFx key t frame k.tag fx d)

/-- Two instruction words are of one row of the opcode table. -/
def isOp (n : Nat) (w : Nat) : Bool := decide (opOf w = n)

end Sys2Proof.Machine
end

