-- ==== Sys2Proof/Machine/Array.lean ====
section
/-! DEFINITION. The commands of an array core: token admission, the operations of Table 5.5, the firing watchdog and
the scrubber (chapter 5). -/

namespace Sys2Proof.Machine

/-! ### Token admission (R110) -/

/-- Drop the head of an input queue. -/
def dropHead (i : Nat) (c : Core) : Core := { c with queues := tset [] c.queues i (queueOf c i).tail }

/-- One move of TOKEN_ADMIT at ac t: the next input in round-robin order whose head can move; a stray token is
discarded (R110). -/
def admitOne (key t : Nat) (d : Dev) : Dev :=
  let c := coreOf d key
  let can := fun (i : Nat) => match queueOf c i with
    | h :: _ => decide (h.due < t) &&
        ((headFor c (tagCtx h.tok.tag) i).isNone || decide (c.slots.length < 8))
    | [] => false
  match ((List.range 7).map (fun k => (c.rr + 1 + k) % 7)).find? can with
  | none => d
  | some i =>
    match queueOf c i with
    | [] => d
    | h :: _ =>
      let c := dropHead i { c with rr := i }
      if (headFor c (tagCtx h.tok.tag) i).isNone then
        schedFault 5 (fullFrame (c.lastRing.getD 0) (tagFrame h.tok.tag)) R.STRAY_TOKENS (setCore key c d)
      else
        let sl := c.slots ++ [⟨h.tok, i, t⟩]
        setCore key { c with slots := sl, maxSlots := max c.maxSlots sl.length } d

/-- The ac of the next admission: after the last one, with a token that has been at a queue head for an ac. -/
def admitAt (c : Core) (now : Nat) : Option Nat :=
  match (c.queues.filterMap (fun q => q.2.head?.map (fun h => h.due + 1))).foldl (fun m e => optMin m (some e)) none with
  | none => none
  | some e => some (max e (max now (match c.lastAdmit with | some t => t + 1 | none => 0)))

/-- TOKEN_ADMIT: up to two tokens move in one ac. -/
def tokenAdmit (key : Nat) (d : Dev) : Dev :=
  match admitAt (coreOf d key) d.now with
  | none => d
  | some t =>
    let d := landSlots key t (advTo t d)
    let d := modCore key (fun c => { settle t (wdSettle t c) with lastAdmit := some t }) d
    admitOne key t (admitOne key t d)

def execTokenAdmit (core : Nat) (s : State) : Host.Outcome State Fault Refusal :=
  run (coreKey core) (fun d => if coresOn d && coreRuns d core then tokenAdmit core d else d) s

/-! ### The operations of Table 5.5 -/

/-- An operation that issues alone: `sel` picks its words. -/
def opCmd (sel : Nat → Bool) (f : IssueArgs → Core → Fx) (core : Nat) (up : List Upset) (s : State) :
    Host.Outcome State Fault Refusal :=
  run (coreKey core) (fun d => if coresOn d then issueOn sel f core up d else d) s

/-- NOP and WAIT write nothing (R137, R138). -/
def fxNone (_ : IssueArgs) (c : Core) : Fx := Fx.of c

/-- MOV and WAIT rows by their MODE field, STATE rows by DIR. -/
def isMode (n m : Nat) (w : Nat) : Bool := isOp n w && decide (bits w 51 50 = m)
def isState (dir : Bool) (w : Nat) : Bool := isOp 7 w && (bit w 51 == dir)

def execNop (core : Nat) (up : List Upset) (s : State) : Host.Outcome State Fault Refusal :=
  opCmd (isOp 0x00) fxNone core up s
def execLutmac (core : Nat) (up : List Upset) (s : State) : Host.Outcome State Fault Refusal :=
  opCmd (isOp 0x01) (guarded fxLutmac) core up s
def execOmac (core : Nat) (up : List Upset) (s : State) : Host.Outcome State Fault Refusal :=
  opCmd (isOp 0x02) (guarded fxOmac) core up s
def execZcorr (core : Nat) (up : List Upset) (s : State) : Host.Outcome State Fault Refusal :=
  opCmd (isOp 0x03) (guarded fxZcorr) core up s
def execBclose (core : Nat) (up : List Upset) (s : State) : Host.Outcome State Fault Refusal :=
  opCmd (isOp 0x04) (guarded fxBclose) core up s
def execRescale (core : Nat) (up : List Upset) (s : State) : Host.Outcome State Fault Refusal :=
  opCmd (isOp 0x05) (guarded fxRescale) core up s
def execActlut (core : Nat) (up : List Upset) (s : State) : Host.Outcome State Fault Refusal :=
  opCmd (isOp 0x06) (guarded fxActlut) core up s
def execStateRead (core : Nat) (up : List Upset) (s : State) : Host.Outcome State Fault Refusal :=
  opCmd (isState false) (guarded fxStateRead) core up s
def execStateWrite (core : Nat) (up : List Upset) (s : State) : Host.Outcome State Fault Refusal :=
  opCmd (isState true) (guarded fxStateWrite) core up s
def execSend (core : Nat) (up : List Upset) (s : State) : Host.Outcome State Fault Refusal :=
  opCmd (isOp 0x08) fxSend core up s
def execRecv (core : Nat) (up : List Upset) (s : State) : Host.Outcome State Fault Refusal :=
  opCmd (isOp 0x09) (guarded fxRecv) core up s
def execReduce (core : Nat) (up : List Upset) (s : State) : Host.Outcome State Fault Refusal :=
  opCmd (isOp 0x0A) (guarded fxReduce) core up s
def execCmp (core : Nat) (up : List Upset) (s : State) : Host.Outcome State Fault Refusal :=
  opCmd (isOp 0x0B) (guarded fxCmp) core up s
def execSel (core : Nat) (up : List Upset) (s : State) : Host.Outcome State Fault Refusal :=
  opCmd (isOp 0x0C) fxSel core up s
def execMaxp (core : Nat) (up : List Upset) (s : State) : Host.Outcome State Fault Refusal :=
  opCmd (isOp 0x0D) (guarded fxMaxp) core up s
def execMovRegisterRun (core : Nat) (up : List Upset) (s : State) : Host.Outcome State Fault Refusal :=
  opCmd (isMode 0x0E 0) (guarded fxMovRun) core up s
def execMovImmediate (core : Nat) (up : List Upset) (s : State) : Host.Outcome State Fault Refusal :=
  opCmd (isMode 0x0E 1) (guarded fxMovImm) core up s
def execMovClearAccumulators (core : Nat) (up : List Upset) (s : State) : Host.Outcome State Fault Refusal :=
  opCmd (isMode 0x0E 2) (guarded fxMovClear) core up s
def execLdw (core : Nat) (up : List Upset) (s : State) : Host.Outcome State Fault Refusal :=
  opCmd (isOp 0x0F) (guarded fxLdw) core up s
def execWaitCount (core : Nat) (up : List Upset) (s : State) : Host.Outcome State Fault Refusal :=
  opCmd (isMode 0x10 0) fxNone core up s
def execWaitTokenPresent (core : Nat) (up : List Upset) (s : State) : Host.Outcome State Fault Refusal :=
  opCmd (isMode 0x10 1) fxNone core up s
def execWaitGrowthRing (core : Nat) (up : List Upset) (s : State) : Host.Outcome State Fault Refusal :=
  opCmd (isMode 0x10 2) fxNone core up s
def execRing (core : Nat) (up : List Upset) (s : State) : Host.Outcome State Fault Refusal :=
  opCmd (isOp 0x11) fxRing core up s

/-! ### Watchdog and scrubber -/

/-- The ac in which the count of R117 reaches FIRE_WATCHDOG, if the core counts; `none` also where an instruction of the core issues
before it. -/
def expiryAt (key : Nat) (d : Dev) : Option Nat :=
  let c := coreOf d key
  match countsFrom c with
  | none => none
  | some e =>
    let t := max (max c.wdAt (overBy c)) e + (dget R.FIRE_WATCHDOG d - (c.wdCount + (overBy c - c.wdAt)))
    match pick c (max d.now (match c.lastIssue with | some u => u + 1 | none => 0)) with
    | some (u, _) => if u < t then none else some t
    | none => some t

/-- FIRE_WATCHDOG_EXPIRY: the count of R117 reaches FIRE_WATCHDOG, if the core counts and nothing issues before; in a
review core while a pass runs it ends the job (R330, R343). DESIGN CHOICE (log entry 157): after an expiry the count begins again
from 0. -/
def fireWatchdogExpiry (key : Nat) (d : Dev) : Dev :=
  if 65536 ≤ key then
    match (clusOf d ((key - 65536) / 256)).job with
    | some j => if j.passOn then reviewFault ((key - 65536) / 256) d else d
    | none => d
  else
  match (if coreRuns d key then expiryAt key d else none) with
  | none => d
  | some t =>
    let c := coreOf d key
    let d := advTo t d
    let d := setCore key { c with wdCount := 0, wdAt := t + 1 } d
    report 0x3042 key c.lastTag (bump R.FIRE_WATCHDOG_EVENTS d)

def execFireWatchdogExpiry (core : Nat) (s : State) : Host.Outcome State Fault Refusal :=
  run (coreKey core) (fireWatchdogExpiry core) s

/-- SCRUBBER_PASS: the scrubber has read and corrected every word of a core; `ups` is what it found (R103). -/
def scrubberPass (key : Nat) (ups : List Upset) (d : Dev) : Dev :=
  ups.foldl (fun d u => if u.double then eccError key u.mem u.word true d else bump R.ECC_CORRECTED d) d

def execScrubberPass (core : Nat) (ups : List Upset) (s : State) : Host.Outcome State Fault Refusal :=
  run (coreKey core && ups.all (fun u => decide (u.mem < 3 ∧ u.word < 4096))) (scrubberPass core ups) s

end Sys2Proof.Machine
end

