-- ==== Sys2Proof/Machine/Fabric.lean ====
section
/-! DEFINITION. Rides, firebreak and die links (chapter 6), and the growth-ring marker at a core (R116, R155). -/

namespace Sys2Proof.Machine

/-! ### Rides -/

/-- The tokens of an output register's next ac: that ac, the one forwarded, the others, and what stays behind (R148). -/
def arbitrate (q : List Timed) : Option (Nat × Timed × List Timed × List Timed) :=
  match (q.map (·.due)).foldl (fun m e => optMin m (some e)) none with
  | none => none
  | some u =>
    let now := q.filter (fun x => decide (x.due = u))
    let rest := q.filter (fun x => decide (x.due ≠ u))
    match now with
    | [] => none
    | h :: _ =>
      let win := now.foldl (fun b x => if x.pr < b.pr then x else b) h
      some (u, win, now.erase win, rest)

/-- A parity failure on a die link (R163): die * 4 + side names the link. -/
def parityFault (link : Nat) (d : Dev) : Dev :=
  let d := bump R.DIE_LINK_ERRORS d
  report 0x10C1 (link / 4 * 256 + link % 4) (dget R.DIE_LINK_ERRORS d) d

/-- A token arrives at a core's input ride in ac a: delivered, passed on, or both, as the route word of its context says
(R146). -/
def rideArrive (key inp a : Nat) (tok : Tok) (d : Dev) : Dev :=
  let c := coreOf d key
  let nib := bits (tget 0 c.route (tagCtx tok.tag)) (63 - 4 * inp) (60 - 4 * inp)
  let d := if nib / 4 = 0 ∨ nib / 4 = 2 then enqueue key inp a tok d else d
  if nib / 4 = 1 ∨ nib / 4 = 2 then
    modCore key (fun c => { c with outs := tset [] c.outs (nib % 4) (outOf c (nib % 4) ++ [⟨a, tok, inp⟩]) }) d
  else d

/-- RIDE_HOP: the next token of a core's output on side dir moves one hop (R145, R147, R148, R163); `parityErr` says that
a die link it crosses finds its parity wrong. -/
def rideHop (key dir : Nat) (parityErr : Bool) (d : Dev) : Dev :=
  let c := coreOf d key
  match arbitrate (outOf c dir), logOf d key with
  | some (u, win, lost, rest), some (x, y) =>
    let d := setCore key { c with outs := tset [] c.outs dir rest } d
    let d := lost.foldl (fun d l => schedFault 2 (fullFrame (c.lastRing.getD 0) (tagFrame l.tok.tag)) R.RIDE_CONFLICTS d) d
    match neighbour d x y dir with
    | some (x', y') =>
      match physOf d x' y' with
      | some b =>
        let a := u + hopAc d key b dir
        let cross := decide (dieOf key ≠ dieOf b)
        let d := advTo a d
        let d := if parityErr && cross then parityFault (dieOf key * 4 + dir) d else d
        rideArrive b ((dir + 2) % 4) a { win.tok with poison := win.tok.poison || (parityErr && cross) } d
      | none => d
    | none =>
      if dir = 0 then
        let d := advTo (u + 1) d
        { d with fab := { d.fab with vtoks := d.fab.vtoks ++ [⟨u + 7, win.tok, 0⟩] } }
      else d
  | _, _ => d

def execRideHop (core dir : Nat) (parityErr : Bool) (s : State) : Host.Outcome State Fault Refusal :=
  run (coreKey core && decide (core < 65536 ∧ dir < 4)) (fun d => if coresOn d then rideHop core dir parityErr d else d) s

/-! ### Firebreak -/

/-- Copse (within its die) and core number of a physical core (R150). -/
def copseOf (key : Nat) : Nat × Nat :=
  let c := key / 256 % 25
  let r := key % 256 % 16
  if c = 24 then (6 * (r / 4) + 5, 16 + r % 4) else (6 * (r / 4) + c / 4, 4 * (r % 4) + c % 4)

/-- Physical core of a die, copse and core number. -/
def copseCore (die copse k : Nat) : Nat :=
  let cx := copse % 6
  let cy := copse / 6
  let r := if k < 16 then 4 * cy + k / 4 else 4 * cy + (k - 16)
  let c := if k < 16 then 4 * cx + k % 4 else 24
  (25 * (die % 8) + c) * 256 + (16 * (die / 8) + r)

/-- Firebreak entry byte (Table 6.4). -/
def fbEntry (d : Dev) (die off : Nat) : Nat := tget 0 d.fab.fb (die * 4864 + off)
def fbValid (e : Nat) : Bool := bit e 7
def fbCtx (e : Nat) : Nat := bits e 6 5
def fbSel (e : Nat) : Nat := bits e 4 0

/-- Slot of ac x (R158). -/
def fbSlot (d : Dev) (x : Nat) : Nat :=
  let z := t0At d 0
  if x < z then 0 else ((x - z) % fLen d) % 64

/-- First ac from `a` on, within `fuel` ac, in which a core's egress entry lets a token of context ctx go (R159). -/
def fbDeparture (d : Dev) (key ctx a : Nat) : Nat → Option Nat
  | 0 => none
  | fuel + 1 =>
    let (cp, k) := copseOf key
    let e := fbEntry d (dieOf key) (1792 + 64 * cp + fbSlot d a)
    if fbValid e && decide (fbSel e = k ∧ fbCtx e = ctx) then some a else fbDeparture d key ctx (a + 1) fuel

/-- The die a link of a die leads to: 24 N, 25 E, 26 S, 27 W. -/
def fbNext (die o : Nat) : Option Nat :=
  if o = 24 then (if 8 ≤ die then some (die - 8) else none)
  else if o = 25 then (if die % 8 < 7 then some (die + 1) else none)
  else if o = 26 then (if die < 56 then some (die + 8) else none)
  else if o = 27 then (if 0 < die % 8 then some (die - 1) else none)
  else none

/-- Where a token that departs in ac `dep` and stands at input `inp` of switch i of its route comes out: arrival ac,
die * 24 + copse, die links crossed (R159, R160). A copy that crosses a die link to a switch with no output for it ends there: it
arrives at no copse (1536), and its links are checked all the same (R163). -/
def fbRoute (d : Dev) (dep : Nat) : Nat → Nat → Nat → Nat → List Nat → List (Nat × Nat × List Nat)
  | 0, _, _, _, _ => []
  | fuel + 1, i, die, inp, lk =>
    let outs := (List.range 28).filter (fun o =>
      let e := fbEntry d die (64 * o + fbSlot d (dep + 2 * i))
      fbValid e && decide (fbSel e = inp))
    if outs.isEmpty ∧ lk ≠ [] then [(dep + 2 * i, 1536, lk)]
    else outs.flatMap (fun o =>
      if o < 24 then [(dep + 4 + 2 * i, die * 24 + o, lk)]
      else match fbNext die o with
        | some nd => fbRoute d dep fuel (i + 1) nd (if o = 24 then 26 else if o = 26 then 24 else if o = 25 then 27 else 25)
            (lk ++ [die * 4 + (o - 24)])
        | none => [])

/-- The token of an egress buffer that departs first, with its ac. -/
def fbFirst (d : Dev) (key : Nat) : Option (Nat × Timed) :=
  (coreOf d key).egress.foldl (fun best x =>
    match fbDeparture d key (tagCtx x.tok.tag) x.due (dget R.FB_SLOT_TIMEOUT d) with
    | none => best
    | some a => match best with
      | none => some (a, x)
      | some (b, y) => if a < b then some (a, x) else some (b, y)) none

/-- FB_DEPART: the core's next token leaves in its copse's egress slot and takes its way through the switches (R157 to
R160). -/
def fbDepart (key : Nat) (d : Dev) : Dev :=
  match fbFirst d key with
  | none => d
  | some (a, x) =>
    let d := advTo a d
    let d := modCore key (fun c => { c with egress := c.egress.erase x }) d
    let ways := fbRoute d a 16 1 (dieOf key) (copseOf key).1 []
    { d with fab := { d.fab with
      flight := d.fab.flight ++ ways.map (fun w => ⟨w.1, w.2.1, x.tok, w.2.2, d.fab.sent⟩), sent := d.fab.sent + 1 } }

def execFbDepart (core : Nat) (s : State) : Host.Outcome State Fault Refusal :=
  run (coreKey core && decide (core < 65536)) (fun d => if coresOn d then fbDepart core d else d) s

/-- The flight that arrives first. -/
def firstFlight (l : List Flight) : Option Flight :=
  l.foldl (fun b x => match b with | none => some x | some y => if x.due < y.due then some x else some y) none

/-- What the die links on a copy's way have found: a link that an earlier copy of the token crossed has answered once for all, and
`bad` answers for the others (R163). -/
def linkAnswers (bad : List Nat) (x : Flight) (d : Dev) : List (Nat × Bool) :=
  let old := tget [] d.fab.judged x.ident
  old ++ (x.links.filter (fun l => !old.any (fun o => decide (o.1 = l)))).map (fun l => (l, bad.contains l))

/-- The links that fail for the first time with this copy. -/
def newFailures (bad : List Nat) (x : Flight) (d : Dev) : List Nat :=
  x.links.filter (fun l => bad.contains l && !(tget [] d.fab.judged x.ident).any (fun o => decide (o.1 = l)))

/-- A link on the copy's way has failed, for it or for the copy it was made from: its token is poisoned. -/
def wayFailed (bad : List Nat) (x : Flight) (d : Dev) : Bool :=
  (linkAnswers bad x d).any (fun o => o.2 && x.links.contains o.1)

/-- FB_INGRESS: the next token off the firebreak meets its copse's ingress entry (R159, R160); `bad` are the die links on its way that
found its parity wrong (R163), each counted once for a token, however many copies a later switch makes of it. DESIGN CHOICE (log entry
153): the growth ring that passed a copse port last is taken to be the one injected last at the origin. -/
def fbIngress (bad : List Nat) (d : Dev) : Dev :=
  match firstFlight d.fab.flight with
  | none => d
  | some x =>
    let answers := linkAnswers bad x d
    let hits := newFailures bad x d
    let tok := { x.tok with poison := x.tok.poison || wayFailed bad x d }
    let d := advTo x.due d
    let left := d.fab.flight.erase x
    let d := { d with fab := { d.fab with
      flight := left, judged := tset [] d.fab.judged x.ident (if left.any (fun y => decide (y.ident = x.ident)) then answers else []) } }
    let d := hits.foldl (fun d l => parityFault l d) d
    if 1536 ≤ x.copse then d else
    let e := fbEntry d (x.copse / 24) (3328 + 64 * (x.copse % 24) + fbSlot d (x.due - 2))
    if fbValid e then enqueue (copseCore (x.copse / 24) (x.copse % 24) (fbSel e)) 4 x.due tok d
    else schedFault 5 (fullFrame (curFrame d) (tagFrame tok.tag)) R.STRAY_TOKENS d

def execFbIngress (bad : List Nat) (s : State) : Host.Outcome State Fault Refusal :=
  run (bad.all (fun l => decide (l < 256))) (fun d => if coresOn d then fbIngress bad d else d) s

/-- FB_SLOT_TIMEOUT: a token that has found no slot for FB_SLOT_TIMEOUT ac is dropped (R162). -/
def fbSlotTimeout (key : Nat) (d : Dev) : Dev :=
  let c := coreOf d key
  match c.egress.find? (fun x => (fbDeparture d key (tagCtx x.tok.tag) x.due (dget R.FB_SLOT_TIMEOUT d)).isNone) with
  | none => d
  | some x =>
    let d := advTo (x.due + dget R.FB_SLOT_TIMEOUT d) d
    let d := setCore key { c with egress := c.egress.erase x } d
    schedFault 4 (fullFrame (c.lastRing.getD 0) (tagFrame x.tok.tag)) R.FB_SLOT_TIMEOUTS d

def execFbSlotTimeout (core : Nat) (s : State) : Host.Outcome State Fault Refusal :=
  run (coreKey core && decide (core < 65536)) (fbSlotTimeout core) s

/-- DIE_LINK_REALIGN_TIMEOUT: a link found out of alignment at a growth ring has not realigned within 1 us (R163); in phase 4 of a job
restart that fails the restart (R439). -/
def dieLinkRealignTimeout (link : Nat) (d : Dev) : Dev :=
  match tget none d.fab.misaligned link with
  | none => d
  | some t => report (if restartState d = 4 then 0x40C3 else 0x30C2) (link / 4 * 256 + link % 4) 0 (advTo (t + acPerUs) d)

def execDieLinkRealignTimeout (link : Nat) (s : State) : Host.Outcome State Fault Refusal :=
  run (decide (link < 256)) (dieLinkRealignTimeout link) s

/-! ### The marker at a core (R116, R181, R191) -/

/-- A token's frame is older than g - 2 (R116). -/
def stale (g : Nat) (tag : Nat) : Bool := decide (2 ≤ g) && older8 (tagFrame tag) ((g - 2) % 256)

/-- Overlay content goes into the core memories (R191). -/
def copyOverlays (c : Core) : Core :=
  let w := fun (c : Core) (k : Nat) => match tget none c.ovl k with
    | none => c
    | some o =>
      if k = 0 then { c with weight := tsetRun 0 c.weight (o.addr * 32) o.words, rowTag := tset 0 c.rowTag o.addr o.tag }
      else if k = 1 then { c with table := tsetRun 0 c.table o.addr o.words, sideTag := tset 0 c.sideTag o.addr o.tag }
      else if k = 2 then { c with weight := tsetRun 0 c.weight (o.addr / 4 * 32 + 8 * (o.addr % 4)) o.words }
      else { c with table := tsetRun 0 c.table o.addr o.words }
  { (List.range 4).foldl w c with ovl := [], ovlFrom := none, ovlHeld := none }

/-- Frames of a list without repeats. -/
def distinct : List Nat → List Nat
  | [] => []
  | a :: r => if r.contains a then distinct r else a :: distinct r

/-- Stale tokens and instances are discarded; the frames concerned get a schedule fault each (R116). A token that is still on its
way to a queue is in none. -/
def staleDiscard (key g : Nat) (d : Dev) : Dev :=
  let c := coreOf d key
  let gone := fun (x : Timed) => stale g x.tok.tag && decide (x.due ≤ d.now)
  let qtags := c.queues.flatMap (fun q => (q.2.filter gone).map (fun x => x.tok.tag))
  let stags := (c.slots.filter (fun s => stale g s.tok.tag)).map (fun s => s.tok.tag)
  let itags := (c.insts.filter (fun i => stale g i.tag)).map (fun i => i.tag)
  let c' := { c with
    queues := c.queues.foldl (fun t q => tset [] t q.1 (q.2.filter (fun x => !gone x))) c.queues
    slots := c.slots.filter (fun s => !stale g s.tok.tag)
    insts := c.insts.filter (fun i => !stale g i.tag) }
  let n := (qtags ++ stags).length
  let frames := distinct ((qtags ++ stags ++ itags).map (fun t => fullFrame g (tagFrame t)))
  let d := bumpBy R.STALE_TOKENS n (setCore key c' d)
  frames.foldl (fun d f => schedFrame 6 f d) d

/-- The growth ring after ac t: frame g' of R181, frame g being past. -/
def ringAfter (d : Dev) (g t : Nat) : Nat := max (g + 1) ((t - t0At d 0) / fLen d + 1)

/-- Resynchronisation after a tag mismatch (R181): code and scale overlays are discarded, and the core's staged blocks are sent again,
one block in 96 ac (a code block fills the code and the scale overlay, R188); they apply from the growth ring after they have landed. With no overlay the blocks are read unchanged from this one.
The frames from the mismatched one until then are INVALID. -/
def resyncCore (key g : Nat) (d : Dev) : Dev :=
  let c := coreOf d key
  if c.resync = false then d
  else
    let has := decide (c.ovl ≠ [])
    let g' := if has then ringAfter d g (d.now + 96 * c.ovl.countP (fun o => decide (o.1 ≠ 1))) else g
    let f0 := c.skewFrom.getD g
    let d := setCore key { c with resync := false, skewFrom := none, ovlHeld := if has then some g' else c.ovlHeld } d
    (List.range (g' - f0)).foldl (fun d k => invalidate (f0 + k) d) d

/-- GROWTH_RING_AT_CORE: the marker of the frame whose growth ring was injected last reaches a core that holds a logical
core (R116, R155). The growth ring at which a stop is taken is one too (R497; DEDUCED, log entry 8): the contexts stay. -/
def growthRingAtCore (key : Nat) (d : Dev) : Dev :=
  match actsAs d key with
  | none => d
  | some (x, y) =>
    let g := d.grid.endF.getD (curFrame d)
    if d.grid.nextT = 0 ∨ (coreOf d key).lastRing = some g ∨ coresOn d = false then d
    else
      let t := t0At d g + markerDelay d x y
      let d := landSlots key t (advTo t d)
      let d := modCore key (fun c =>
        settle d.now { wdSettle d.now c with ctx := if d.grid.endF.isSome then c.ctx else (frameOf d g).ctx, lastRing := some g }) d
      let d := staleDiscard key g d
      let d := resyncCore key g d
      match (coreOf d key).ovlFrom with
      | some f => if max f ((coreOf d key).ovlHeld.getD 0) + 2 ≤ g then
          modCore key copyOverlays { d with enc := { d.enc with toCopy := d.enc.toCopy.erase key } }
        else d
      | none => d

def execGrowthRingAtCore (core : Nat) (s : State) : Host.Outcome State Fault Refusal :=
  run (coreKey core && decide (core < 65536)) (growthRingAtCore core) s

end Sys2Proof.Machine
end

