-- ==== Sys2Proof/Machine/Frontend.lean ====
section
/-! DEFINITION. Front-end ports and lanes (chapter 3) and the array clock's reference (R33 to R36). -/

namespace Sys2Proof.Machine

/-! ### Which samples matter -/

/-- The context of slot k uses channel c (R208). -/
def usesChan (d : Dev) (k c : Nat) : Bool := decide (tget (0, 0) (loadedOf d k).rates c ≠ (0, 0))

/-- The context of slot k uses a channel of port p. -/
def usesPort (d : Dev) (k p : Nat) : Bool := (loadedOf d k).rates.any (fun c => decide (c.1 / 64 = p))

/-- The context that frame n runs in. -/
def ctxOf (d : Dev) (n : Nat) : Nat := if (frameOf d n).seen then (frameOf d n).ctx else dget R.CURRENT_CONTEXT d

/-- The frame whose sample ticks are being released now, while the grid runs. -/
def frameNow (d : Dev) : Option Nat :=
  if running d ∧ d.grid.b0 ≤ d.now then some ((d.now - d.grid.b0) / fLen d) else none

/-- Port p's channels are present in frame n (R62, R65). -/
def deliversIn (d : Dev) (p n : Nat) : Bool :=
  match (portOf d p).presentFrom with
  | some m => decide (m ≤ n)
  | none => false

/-- The frame in progress is INVALID if it uses a channel of a port that has just failed (R66, R70). -/
def invalidNow (p : Nat) (d : Dev) : Dev :=
  match frameNow d with
  | some n => if deliversIn d p n && usesPort d (ctxOf d n) p then invalidate n d else d
  | none => d

/-! ### Presence and the clock reference -/

/-- The reference port is lost while the array is armed: the PLL holds and moves to the lowest port then present (R35). DESIGN
CHOICE (log entry 116): while the array is ARMING, the ports that wait in ALIGNED count as present. -/
def refLost (p : Nat) (d : Dev) : Dev :=
  if armed d ∧ dget R.CLOCK_REF_PORT d = p then
    let r := lowestPort ((List.range 16).foldl (fun m q =>
      if q ≠ p ∧ (dget (R.FE_STATE q) d = 6 ∨ (arrayState d = 1 ∧ dget (R.FE_STATE q) d = 4)) then m + 2 ^ q else m) 0)
    report 0x1182 p r (dset R.CLOCK_STATE 2 (dset R.CLOCK_REF_PORT r d))
  else d

/-- CLOCK_RELOCK_DONE: the frequency-only relock is complete, and the PLL follows the reference (R33, R35). -/
def clockRelockDone (d : Dev) : Dev :=
  if dget R.CLOCK_REF_PORT d = 0xFF then d
  else dset R.CLOCK_STATE 1 { d with pll := { d.pll with off := tget 0 d.pll.ppm (dget R.CLOCK_REF_PORT d) } }

def execClockRelockDone (s : State) : Host.Outcome State Fault Refusal := run true clockRelockDone s

/-! ### Port and lane states -/

def setFe (p st : Nat) (d : Dev) : Dev := showPresent (dset (R.FE_STATE p) st d)

/-- Comparator state cleared (R92). -/
def clearCmp (c : Chan) : Chan := { c with lev := false, hist := [], cPrev := false, cmps := 0 }

/-- A channel becomes absent in ac t: its flag reads 0, its stretch and its comparator state are cleared (R65, R92, R283). -/
def chanGone (t : Nat) (c : Chan) : Chan :=
  { clearCmp c with flags := (t, false) :: c.flags.filter (fun f => decide (f.1 < t)), litAt := none, cut := t }

/-- The channels of port p are absent from the next sample tick on. -/
def absent (p : Nat) (d : Dev) : Dev :=
  (d.chans.filter (fun e => decide (e.1 / 64 = p))).foldl (fun d e => modChan e.1 (chanGone d.now) d)
    (modPort p (fun x => { x with presentFrom := none }) d)

/-- Set the state of every lane of port p. -/
def setLanes (p : Nat) (f : Nat → Nat → Nat) (d : Dev) : Dev :=
  (List.range 4).foldl (fun d i => dset (R.LANE_STATE (4 * p + i)) (f i (dget (R.LANE_STATE (4 * p + i)) d)) d) d

/-- The link lane that feeds device lane i of a port (R54). -/
def linkLane (d : Dev) (p i : Nat) : Nat := bits (dget (R.LANE_MAP p) d) (2 * i + 1) (2 * i)

/-- Device lane i of a port is in use (R54). -/
def laneUsed (d : Dev) (p i : Nat) : Bool := decide (linkLane d p i < (portOf d p).lanes)

/-- A lane under test keeps that state (R72). -/
def laneOr (d : Dev) (p i st : Nat) : Nat := if dget (R.PRBS_MODE (4 * p + i)) d = 0 then st else 5

/-- The port dies and their lanes are powered: not in DOZE or SLEEP, nor from the commit into them (Table 19.1). -/
def portsPowered (d : Dev) : Bool :=
  decide (dget R.POWER_STATE d ≤ 1 ∧ ¬ (dget R.POWER_TRANSITION d = 2 ∧ 2 ≤ d.pwr.target))

/-- Port dies are powered from DIES_UP on, and the port is watched (R489, Table 3.7). -/
def portWatched (d : Dev) (p : Nat) : Bool :=
  portsPowered d && decide (d.sys.step = 5 ∧ dget (R.PORT_ENABLE p) d = 1)

/-- A retrain of the port is over: it has come through, or something else takes its place (R442, R444). -/
def retrainOver (p : Nat) (d : Dev) : Dev := if dget (R.FE_STATE p) d = 7 then reactionOver d else d

/-- Step 1 of Table 3.3 begins. -/
def beginDiscovery (p : Nat) (d : Dev) : Dev :=
  let d := modPort p (fun x => { x with
    fellAt := some d.now, held := false, kept := 0, presentFrom := none, retrainAt := none, fesyncN := true
    sysAt := none, sysPer := 0 }) d
  setFe p 1 (dset (R.FE_REFUSE_REASON p) 0 (setLanes p (fun i _ => laneOr d p i 0) d))

/-- A step fails: REFUSED with its reason (R61). -/
def refuse (p reason : Nat) (d : Dev) : Dev :=
  let d := modPort p (fun x => { x with fellAt := none, retrainAt := none, presentFrom := none, fesyncN := true }) d
  let d := setFe p 2 (dset (R.FE_REFUSE_REASON p) reason (setLanes p (fun i _ => laneOr d p i 0) d))
  refLost p (report 0x0185 p reason d)

/-- PRESENT_N falls (R61, R69, R70). -/
def presentNFall (p : Nat) (d : Dev) : Dev :=
  let x := portOf d p
  if x.presentN = false then d
  else
    let d := setPort p { x with presentN := false } d
    if portWatched d p = false then d
    else if x.held && (match x.roseAt with | some t => decide (d.now - t < 10 * acPerMs) | none => false) then setFe p 2 d
    else beginDiscovery p d

/-- PRESENT_N rises (R61, R70). DESIGN CHOICE (log entry 117): LANE_RETRAINS keeps the attempt that the rise abandons; what R70
keeps from counting is its failure. -/
def presentNRise (p : Nat) (d : Dev) : Dev :=
  let x := portOf d p
  if x.presentN then d
  else
    let d := setPort p { x with presentN := true, roseAt := some d.now } d
    if portWatched d p = false then d
    else
      let h := decide (dget (R.FE_STATE p) d = 2)
      let d := absent p (invalidNow p (retrainOver p d))
      let d := modPort p (fun y => { y with held := h, fellAt := none, retrainAt := none, fesyncN := true }) d
      refLost p (setFe p 0 (setLanes p (fun i _ => laneOr d p i 0) d))

def execPresentNRise (port : Nat) (s : State) : Host.Outcome State Fault Refusal :=
  run (decide (port < 16)) (presentNRise port) s

/-- PORT_REINSTATE (R69): the effect, and the abort code. -/
def portReinstate (p : Nat) (d : Dev) : Dev × Nat :=
  if dget (R.PORT_ENABLE p) d = 0 then (d, 0xA00B)
  else if (portOf d p).presentN ∨ portWatched d p = false then (modPort p (fun x => { x with held := false }) d, 0)
  else (refLost p (beginDiscovery p (absent p (invalidNow p (retrainOver p d)))), 0)

/-- What a port returns to when it is enabled again: REFUSED or RETIRED, where it was that before (R61, R69). A refusal that
waits behind PRESENT_N high counts as REFUSED. -/
def keptState (d : Dev) (p : Nat) : Nat :=
  let st := dget (R.FE_STATE p) d
  if st = 9 then (portOf d p).kept else if st = 2 ∨ st = 8 then st else if (portOf d p).held then 2 else 0

/-- PORT_ENABLE takes a value (Table 3.7). Enabling starts discovery with PRESENT_N low, but for a port that was REFUSED or
RETIRED: it is that again (R61, R69; log entry 118). -/
def portEnableSet (p : Nat) (d : Dev) : Dev :=
  if dget (R.PORT_ENABLE p) d = 0 then
    let k := keptState d p
    let d := absent p (invalidNow p (retrainOver p d))
    let d := modPort p (fun x => { x with fellAt := none, held := false, kept := k, retrainAt := none, fesyncN := true }) d
    refLost p (setFe p 9 (setLanes p (fun _ _ => 0) d))
  else if dget (R.FE_STATE p) d ≠ 9 then d
  else
    let k := (portOf d p).kept
    if (portOf d p).presentN ∨ portWatched d p = false then
      setFe p 0 (modPort p (fun x => { x with kept := 0, held := decide (k = 2) }) d)
    else if k = 0 then beginDiscovery p d
    else
      let x := portOf d p
      setFe p k (setLanes p (fun i _ => if k = 8 ∧ 4 * p + i = x.retiredLane then 4 else laneOr d p i 0)
        (setPort p { x with kept := 0 } d))

/-! ### Discovery -/

/-- Word w of a descriptor. -/
def descWord (desc : List Nat) (w : Nat) : Nat := ofBytes ((desc.drop (8 * w)).take 8)

/-- Step 4 of Table 3.3. -/
def descGood (desc : List Nat) : Bool :=
  let w0 := descWord desc 0
  decide (desc.length = 256) && decide (bits w0 63 48 = 1) && decide (bits w0 47 32 = 256)
    && decide (bits w0 31 0 = 0x46454431) && decide (bits (descWord desc 31) 63 32 = crc32 (desc.take 252))
    && decide (bits (descWord desc 4) 7 0 = bits (descWord desc 2) 47 40)

/-- Step 5 of Table 3.3: the declared features against Table 3.1, R31 and R51. DESIGN CHOICE (log entry 119): a MODE or
SAMPLE_FORMAT above 1 is an unsupported feature. -/
def descSupported (desc : List Nat) : Bool :=
  let w2 := descWord desc 2
  let w3 := descWord desc 3
  let w4 := descWord desc 4
  let prof := bits w2 63 56
  let m := bits w2 47 40
  let nb := bits w2 23 16
  let rate := bits w3 31 0
  let n := rate / 50000
  let line := bits w4 63 32
  let mode := bits w4 31 24
  let both := decide (bits w2 55 52 = 1) && [1, 2, 4].contains (bits w2 51 48) && decide (8 ≤ nb ∧ nb ≤ 16)
    && decide (bits w2 15 8 = 16) && decide (bits w2 7 4 ≤ 16 - nb) && decide (rate % 50000 = 0)
    && decide (bits w4 23 16 ≤ 1) && decide (1 ≤ m)
  let modeOk := if mode = 0 then decide (1 ≤ n ∧ n ≤ 8) else decide (mode = 1 ∧ 16 ≤ n ∧ n ≤ 32 ∧ m ≤ 4)
  let profOk :=
    if prof = 0x0C then
      decide (1 ≤ bits w3 47 32 ∧ bits w3 47 32 ≤ 16 ∧ m ≤ 64 ∧ m * n * 50 ≤ 6400 ∧ 6250000 ≤ line ∧ line ≤ 32500000)
    else
      decide (prof = 0x0B ∧ mode = 0 ∧ 17 ≤ bits w2 39 32 * bits w3 63 48 ∧ bits w2 39 32 * bits w3 63 48 ≤ 1024 ∧ m ≤ 25
        ∧ m * n * 50 ≤ 2500 ∧ 3125000 ≤ line ∧ line ≤ 12500000)
  both && modeOk && profOk

/-- Step 6 of Table 3.3: an entry of 0 accepts what is declared. -/
def descWanted (d : Dev) (p : Nat) (desc : List Nat) : Bool :=
  let acc := fun e v => decide (e = 0 ∨ e = v)
  acc (dget (R.PORT_MODE p) d) (bits (descWord desc 4) 31 24 + 1) && acc (dget (R.PORT_PROFILE p) d) (bits (descWord desc 2) 63 56)
    && acc (dget (R.PORT_SAMPLE_RATE p) d) (bits (descWord desc 3) 31 0)
    && acc (dget (R.PORT_CHANNELS p) d) (bits (descWord desc 2) 47 40)

/-- Decimation that a channel's profile gives it. -/
def profDecim (d : Dev) (c : Nat) : Nat :=
  let p := dget (R.CH_PROFILE c) d
  if bit (dget (R.FILTER_ENABLE p) d) 2 then max (dget (R.FIR_DECIMATION p) d) 1 else 1

/-- Step 7 of Table 3.3: every loaded context was compiled for this rate, and for the decimation of its profile, on the channels of the
port that it uses (R208). -/
def descCompiled (d : Dev) (p : Nat) (desc : List Nat) : Bool :=
  d.ldr.ctxs.all (fun k => !k.2.present || k.2.rates.all (fun c =>
    decide (c.1 / 64 ≠ p ∨ (c.2.1 * 50000 = bits (descWord desc 3) 31 0 ∧ profDecim d c.1 = 2 ^ c.2.2))))

/-- DISCOVERY_DEBOUNCE_DONE: step 1 completes, and steps 2 to 7 run; `desc` holds the 256 bytes read, none when no
target answered (Table 3.3). -/
def discoveryDebounceDone (p : Nat) (desc : List Nat) (d : Dev) : Dev :=
  match (portOf d p).fellAt with
  | none => d
  | some t =>
    let d := advTo (t + 10 * acPerMs) d
    if desc = [] then refuse p 7 d
    else
      let d := dset (R.FE_DESCRIPTOR p) (ofBytes desc) d
      if descGood desc = false then refuse p 1 d
      else if descSupported desc = false then refuse p 3 d
      else if descWanted d p desc = false then refuse p 4 d
      else if descCompiled d p desc = false then refuse p 8 d
      else
        let w2 := descWord desc 2
        let w3 := descWord desc 3
        let c := decide (bits w2 63 56 = 0x0C)
        let d := modPort p (fun x => { x with
          fellAt := none, lanes := bits w2 51 48, chans := bits w2 47 40, rate := bits w3 31 0 / 50000
          fOct := bits w2 39 32, sPer := bits w2 31 24, blocks := if c then bits w3 47 32 else bits w3 63 48
          wide := decide (bits (descWord desc 4) 31 24 = 1), offBin := decide (bits (descWord desc 4) 23 16 = 1)
          bitsN := bits w2 23 16, profile := bits w2 63 56, fesyncN := c }) d
        setFe p 3 (setLanes p (fun i _ => laneOr d p i (if laneUsed d p i then 1 else 0)) d)

def execDiscoveryDebounceDone (port : Nat) (desc : List Nat) (s : State) : Host.Outcome State Fault Refusal :=
  run (decide (port < 16) && decide (desc = [] ∨ desc.length = 256) && desc.all (fun b => decide (b < 256)))
    (discoveryDebounceDone port desc) s

/-- A lane of the port carries a test pattern (R72). -/
def portTested (d : Dev) (p : Nat) : Bool := (List.range 4).any (fun i => decide (dget (R.PRBS_MODE (4 * p + i)) d ≠ 0))

/-! ### Retraining and retirement -/

/-- A lane is retired, and its port with it (R68). -/
def laneGone (lane : Nat) (d : Dev) : Dev :=
  let p := lane / 4
  let d := modPort p (fun x => { x with retrainAt := none, retiredLane := lane, fesyncN := true }) (retrainOver p d)
  setFe p 8 (setLanes p (fun i _ => if 4 * p + i = lane then 4 else laneOr d p i 0) d)

/-- A lane needs a retrain (R67, R68): an attempt, or, where it would be the fourth of the episode, retirement. DESIGN CHOICE (log
entry 150): the attempt counts in LANE_RETRAINS of the lane that caused it, and for no other lane of the port. -/
def retrain (lane cause : Nat) (d : Dev) : Dev :=
  let p := lane / 4
  let d := absent p (invalidNow p d)
  if 3 ≤ dget (R.LANE_RETRAINS lane) d then
    refLost p (report 0x2142 lane p (laneGone lane d))
  else
    let d := modPort p (fun x => { x with retrainAt := some d.now, retrainLane := lane, retrainCause := cause
                                          fesyncN := decide (x.profile = 0x0C) }) d
    let d := bump (R.LANE_RETRAINS lane) (modLane lane (fun l => { l with cleanFrom := none, errs := [] }) d)
    let d := setLanes p (fun i _ => laneOr d p i (if laneUsed d p i then 3 else 0)) d
    report 0x1141 lane cause (setFe p 7 d)

/-- DISCOVERY_TIMEOUT: steps 2 and 3 have no answer in time, or steps 8 and 9 no lock (Table 3.3). A retrain's attempt fails under
the same limits (R67, R517): the lane then needs another (R68). -/
def discoveryTimeout (p : Nat) (d : Dev) : Dev :=
  let st := dget (R.FE_STATE p) d
  if st = 1 then
    match (portOf d p).fellAt with
    | some t => refuse p 7 (advTo (t + 11 * acPerMs) d)
    | none => refuse p 7 d
  else if st = 3 then refuse p 9 d
  else if st = 7 then retrain (portOf d p).retrainLane (portOf d p).retrainCause d
  else d

def execDiscoveryTimeout (port : Nat) (s : State) : Host.Outcome State Fault Refusal :=
  run (decide (port < 16)) (discoveryTimeout port) s

/-- A lane with attempts behind it runs again: the 60 s that end its episode begin afresh, since a time in which it did not run
does not count (R68; log entry 150). -/
def cleanBegins (lane : Nat) (d : Dev) : Dev :=
  if dget (R.LANE_RETRAINS lane) d ≠ 0 ∧ dget (R.LANE_STATE lane) d = 2 then
    modLane lane (fun x => { x with cleanFrom := some d.now }) d
  else d

/-- LANE_LOCK_DONE: steps 8 and 9 complete; `ilasOk` says that the ILAS agrees with the descriptor (JESD204B), `ppm`
is the offset of the recovered clock from nominal, which the PLL follows on the clock-reference port (Table 3.3, R33, R34, R62,
R67). -/
def laneLockDone (p : Nat) (ilasOk : Bool) (ppm : Int) (d : Dev) : Dev :=
  let st := dget (R.FE_STATE p) d
  if (st ≠ 3 ∧ st ≠ 7) ∨ portTested d p then d
  else if !ilasOk && decide ((portOf d p).profile = 0x0B) then
    if st = 3 then refuse p 6 d else retrain (portOf d p).retrainLane (portOf d p).retrainCause d
  else
    let d := { d with pll := { d.pll with
      ppm := tset 0 d.pll.ppm p ppm
      off := if dget R.CLOCK_REF_PORT d = p ∧ dget R.CLOCK_STATE d = 1 then ppm else d.pll.off } }
    let d := setLanes p (fun i _ => if laneUsed d p i then 2 else 0) d
    let d := (List.range 4).foldl (fun d i => cleanBegins (4 * p + i) d) d
    let d := modPort p (fun x => { x with retrainAt := none, fesyncN := true }) (retrainOver p d)
    setFe p (if running d then 5 else 4) d

def execLaneLockDone (port : Nat) (ilasOk : Bool) (ppm : Int) (s : State) : Host.Outcome State Fault Refusal :=
  run (decide (port < 16)) (laneLockDone port ilasOk ppm) s

/-- Lane events count and act only while the lane is up (R517). -/
def laneUp (d : Dev) (lane : Nat) : Bool := portsPowered d && decide (dget (R.LANE_STATE lane) d = 2)

/-- LANE_SYNC_LOSS (Table 3.6). -/
def execLaneSyncLoss (lane : Nat) (s : State) : Host.Outcome State Fault Refusal :=
  run (decide (lane < 64)) (fun d => if laneUp d lane then retrain lane 2 d else d) s

/-- CDR_LOSS_OF_LOCK (Table 3.6). -/
def execCdrLossOfLock (lane : Nat) (s : State) : Host.Outcome State Fault Refusal :=
  run (decide (lane < 64)) (fun d => if laneUp d lane then retrain lane 4 d else d) s

/-- The frame in progress is INVALID for a sample on a lane, if its context uses the port. -/
def releaseMarginViolation (lane : Nat) (margin : Int) (d : Dev) : Dev :=
  if laneUp d lane then
    let m := sgn 16 (dget (R.LANE_MARGIN lane) d)
    let d := if margin < m then dset (R.LANE_MARGIN lane) (unsgn 16 margin) d else d
    retrain lane 3 d
  else d

/-- RELEASE_MARGIN_VIOLATION (R39): `margin` in ac. -/
def execReleaseMarginViolation (lane : Nat) (margin : Int) (s : State) : Host.Outcome State Fault Refusal :=
  run (decide (lane < 64 ∧ (margin < 4 ∨ 480 < margin) ∧ -32768 ≤ margin ∧ margin < 32767)) (releaseMarginViolation lane margin) s

/-- A port's SYSREF period in ac; 0: one-shot, or not known yet. DESIGN CHOICE (log entry 149): the spec names no source for it,
and R64 keeps the device from acting on word 5 of the descriptor, so it is measured: the least spacing of two of the port's edges
since its discovery, which a gap of a gapped SYSREF does not lengthen. -/
def sysrefPeriod (d : Dev) (p : Nat) : Nat := (portOf d p).sysPer

/-- A SYSREF edge of port p at ac t is timed against the one before it (log entry 149). -/
def sysrefSeen (p t : Nat) (d : Dev) : Dev :=
  modPort p (fun x => { x with
    sysAt := some t
    sysPer := match x.sysAt with
      | none => x.sysPer
      | some u => if t ≤ u then x.sysPer else if x.sysPer = 0 then t - u else min x.sysPer (t - u) }) d

/-- RETRAIN_TIMEOUT: the attempt has not come through within 10 ms plus one SYSREF period and fails; the lane needs another (R67,
R68). A port that only waits for a SYSREF edge stays ALIGNING (R57). -/
def retrainTimeout (p : Nat) (d : Dev) : Dev :=
  match (portOf d p).retrainAt with
  | none => d
  | some t => retrain (portOf d p).retrainLane (portOf d p).retrainCause (advTo (t + 10 * acPerMs + sysrefPeriod d p) d)

def execRetrainTimeout (port : Nat) (s : State) : Host.Outcome State Fault Refusal :=
  run (decide (port < 16)) (retrainTimeout port) s

/-- RETRAIN_EPISODE_END: 60 s without a retrain (R68). -/
def retrainEpisodeEnd (lane : Nat) (d : Dev) : Dev :=
  match (laneOf d lane).cleanFrom with
  | none => d
  | some t =>
    if laneUp d lane then
      dset (R.LANE_RETRAINS lane) 0 (modLane lane (fun l => { l with cleanFrom := none }) (advTo (t + 60 * acPerS) d))
    else d

def execRetrainEpisodeEnd (lane : Nat) (s : State) : Host.Outcome State Fault Refusal :=
  run (decide (lane < 64)) (retrainEpisodeEnd lane) s

/-! ### Code errors -/

/-- Converters whose samples a device lane carries (transport layer of JESD204). -/
def laneConverters (d : Dev) (lane : Nat) : List Nat :=
  let x := portOf d (lane / 4)
  let l := linkLane d (lane / 4) (lane % 4)
  (List.range x.chans).filter (fun m =>
    decide (l * x.fOct < 2 * (m + 1) * x.sPer ∧ 2 * m * x.sPer < (l + 1) * x.fOct))

/-- Frames that hold a tick released in [a, b) 1/den ac after B_0. -/
def framesIn (d : Dev) (a b den : Nat) : List Nat :=
  let f1 := a / (den * fLen d)
  let f2 := (b - 1) / (den * fLen d)
  (List.range (f2 + 1 - f1)).map (fun k => f1 + k)

/-- The frames and channels that a failed unit hits: for JESD204C, multiblock `unit` of a lane; for JESD204B, code group
`unit`; both counted from the one aligned to the arming edge (R66). -/
def hitBy (d : Dev) (lane unit : Nat) : List Nat × List Nat :=
  let x := portOf d (lane / 4)
  let den := x.chans * x.rate
  if x.profile = 0x0B then
    let k := unit / max x.fOct 1
    let w := (linkLane d (lane / 4) (lane % 4) * x.fOct + unit % max x.fOct 1) / 2
    let tick := k * x.sPer + w % max x.sPer 1
    (framesIn d (tick * 24) (tick * 24 + 1) x.rate, [64 * (lane / 4) + w / max x.sPer 1])
  else
    (framesIn d (unit * (3072 * x.lanes)) ((unit + 1) * (3072 * x.lanes)) den,
      (laneConverters d lane).map (fun m => 64 * (lane / 4) + m))

/-- LANE_CODE_ERROR (Table 3.6, R66, R517). -/
def laneCodeError (lane unit : Nat) (d : Dev) : Dev :=
  let st := dget (R.LANE_STATE lane) d
  if st = 5 then bump (R.PRBS_ERRORS lane) d
  else if st ≠ 2 then d
  else
    let d := bump (R.LANE_CODE_ERRORS lane) d
    let (fs, cs) := hitBy d lane unit
    let d := if running d then
        fs.foldl (fun d n => if deliversIn d (lane / 4) n && cs.any (usesChan d (ctxOf d n)) then invalidate n d else d) d
      else d
    let es := d.now :: (laneOf d lane).errs.filter (fun t => decide (d.now - t < acPerMs))
    let d := modLane lane (fun l => { l with errs := es }) d
    if dget R.RETRAIN_ERROR_LIMIT d < es.length then retrain lane 1 d else d

def execLaneCodeError (lane unit : Nat) (s : State) : Host.Outcome State Fault Refusal :=
  run (decide (lane < 64 ∧ unit < 2 ^ 64)) (laneCodeError lane unit) s

/-- The unit of a lane that is being released now. -/
def unitNow (d : Dev) (lane : Nat) : Nat :=
  let x := portOf d (lane / 4)
  let t := d.now - d.grid.b0
  if x.profile = 0x0B then (t * x.rate / (24 * max x.sPer 1)) * x.fOct else t * (x.chans * x.rate) / max (3072 * x.lanes) 1

/-! ### Margin and adaptation -/

/-- MARGIN_UPDATE (R60): eye height in mV, width in UI/64. -/
def marginUpdate (lane h w : Nat) (d : Dev) : Dev :=
  let d := dset (R.LANE_EYE_WIDTH lane) w (dset (R.LANE_EYE_HEIGHT lane) h d)
  if laneUp d lane && decide (h < dget R.MARGIN_WARN_HEIGHT d ∨ w < dget R.MARGIN_WARN_WIDTH d) then
    reportLim acPerS lane 0x0143 lane (h * 2 ^ 32 + w) (bump (R.LANE_MARGIN_EVENTS lane) d)
  else d

def execMarginUpdate (lane h w : Nat) (s : State) : Host.Outcome State Fault Refusal :=
  run (decide (lane < 64 ∧ h < 65536 ∧ w < 256)) (marginUpdate lane h w) s

/-- ADAPT_UPDATE (R59): `delta` in 1/4096 UI, at most 64; not within 10 us of the update before, nor while held. -/
def adaptUpdate (lane : Nat) (delta : Int) (d : Dev) : Dev :=
  let l := laneOf d lane
  let soon := match l.adaptAt with | some t => decide (d.now - t < 10 * acPerUs) | none => false
  if !laneUp d lane || soon || decide (dget (R.ADAPT_HOLD lane) d = 1) then d
  else setLane lane { l with adaptAt := some d.now, adapt := l.adapt + delta } d

def execAdaptUpdate (lane : Nat) (delta : Int) (s : State) : Host.Outcome State Fault Refusal :=
  run (decide (lane < 64 ∧ -64 ≤ delta ∧ delta ≤ 64)) (adaptUpdate lane delta) s

/-- ADAPT_HOLD (R59): the effect, and the abort code. -/
def adaptHold (lane v : Nat) (d : Dev) : Dev × Nat :=
  if d.pins.testEn then (dset (R.ADAPT_HOLD lane) v d, 0) else (d, 0xA00F)

/-- PRBS_MODE takes a value (R72): the lane is in test, and the port's channels are absent, until all lanes are back and
the link has locked again. -/
def prbsSet (lane v : Nat) (d : Dev) : Dev :=
  let p := lane / 4
  let was := dget (R.LANE_STATE lane) d
  let d := dset (R.PRBS_ERRORS lane) 0 (dset (R.PRBS_MODE lane) v d)
  if v = 0 ∧ was ≠ 5 then d
  else
    let d := absent p (invalidNow p d)
    let st := dget (R.FE_STATE p) d
    let up := decide (3 ≤ st ∧ st ≤ 7)
    let back := if st = 8 ∧ lane = (portOf d p).retiredLane then 4 else if up && laneUsed d p (lane % 4) then 1 else 0
    let d := dset (R.LANE_STATE lane) (if v = 0 then back else 5) d
    if up then
      setFe p 3 (setLanes p (fun i s => if s = 2 ∨ s = 3 then 1 else laneOr d p i s)
        (modPort p (fun x => { x with retrainAt := none, fesyncN := decide (x.profile = 0x0C) }) d))
    else d

/-- INJECT_RATE (R73, R74): the effect, and the abort code. -/
def injectRate (lane v : Nat) (d : Dev) : Dev × Nat :=
  if (2 ≤ v ∧ v ≤ 9) ∨ 40 < v then (d, 0xA005)
  else if v ≠ 0 ∧ d.pins.testEn = false ∧ usesPort d (dget R.CURRENT_CONTEXT d) (lane / 4) then (d, 0xA00F)
  else if v = 1 then (dset (R.INJECT_RATE lane) 0 (laneCodeError lane (unitNow d lane) d), 0)
  else (dset (R.INJECT_RATE lane) v d, 0)

/-- IBI (R63). DESIGN CHOICE (log entry 151): every in-band interrupt that reaches the device counts, in every state of the port;
Table 3.7's 'port p ignored' is taken for its presence and its lanes. -/
def execIbi (port byte : Nat) (s : State) : Host.Outcome State Fault Refusal :=
  run (decide (port < 16 ∧ byte < 256)) (fun d => report 0x0184 port byte (bump (R.IBI_COUNT port) d)) s

/-- What the save-restore memory puts back into the dies as they leave reset and after a test episode (R462, Table 19.5): the lane
equaliser presets and the nominal TDC tables. -/
def fusedBack (d : Dev) : Dev :=
  dset R.TDC_CAL_STATE 0 { d with
    pll := { d.pll with calDue := 0 }
    lanes := d.lanes.map (fun e => (e.1, { e.2 with adapt := 0 })) }

/-! ### SYSREF -/

/-- SYSREF_PHASE_MARGIN keeps the least margin since arming, 1/16 ac. -/
def sysrefMargin (p : Nat) (m : Int) (d : Dev) : Dev :=
  let x := portOf d p
  let v := match x.phase with | some o => min o m | none => m
  dset (R.SYSREF_PHASE_MARGIN p) (unsgn 8 v) (setPort p { x with phase := some v } d)

/-- R38: an edge off the grid is counted, and reported at most once per second and port. -/
def offGrid (p t : Nat) (d : Dev) : Dev :=
  let o := (t - d.grid.edge) % 24
  if o = 0 then d else reportLim acPerS p 0x0181 p o (bump R.SYSREF_MISPLACED d)

/-- Step 10 of Table 3.3: the port's channels are present from the first frame whose B lies at or after the edge (R62). -/
def alignPort (p t : Nat) (d : Dev) : Dev :=
  if dget (R.FE_STATE p) d = 5 ∧ (portOf d p).presentFrom = none then
    modPort p (fun x => { x with presentFrom := some ((t - d.grid.b0 + fLen d - 1) / fLen d) }) d
  else d

/-- The arming edge at ac t (R37, R62): the grid begins, and every port that has trained is present from frame 0. -/
def armingEdge (t : Nat) (d : Dev) : Dev :=
  let d := { d with grid := { d.grid with
    edge := t, b0 := t + dget R.RELEASE_OFFSET d, stopReq := false, endF := none
    nextB := 0, nextC := 0, nextT := 0, nextSend := 0, nextClose := 0, nextDead := 0, nextIssue := 0 } }
  (List.range 16).foldl (fun d p =>
    let st := dget (R.FE_STATE p) d
    if 4 ≤ st ∧ st ≤ 6 then modPort p (fun x => { x with presentFrom := some 0 }) d else d) d

/-- A stop of the array: trained ports wait for the next arming edge (R62; log entry 7). A port that still lacks its SYSREF edge
stays ALIGNING until the array is re-armed (R57). -/
def portsAtStop (d : Dev) : Dev :=
  (List.range 16).foldl (fun d p =>
    let st := dget (R.FE_STATE p) d
    let due := (portOf d p).presentFrom.isSome
    let d := absent p d
    if st = 6 ∨ (st = 5 ∧ due = true) then dset (R.FE_STATE p) 4 d else d) d

/-- Step 11 at the growth ring of frame n (R62), and FE_PRESENT as of it (R28, R70). -/
def portsAtRing (n : Nat) (d : Dev) : Dev :=
  let d := (List.range 16).foldl (fun d p =>
    if deliversIn d p n ∧ (dget (R.FE_STATE p) d = 5 ∨ dget (R.FE_STATE p) d = 4) then dset (R.FE_STATE p) 6 d else d) d
  dset R.FE_PRESENT (presentMask d) d

end Sys2Proof.Machine
end

