-- ==== Sys2Proof/Machine/Monitors.lean ====
section
/-! DEFINITION. Clip monitors and CAL_STALE (R183 to R187). -/

namespace Sys2Proof.Machine

def monOf (d : Dev) (m : Nat) : Mon := tget Mon.rest d.enc.mons m

/-- The slot whose context uses monitor m (R223). -/
def slotOfMon (d : Dev) (m : Nat) : Option Nat :=
  (List.range 4).find? (fun k =>
    let b := dget (R.MONITOR_BASE k) d
    decide (b ≠ 0xFFFF ∧ b ≤ m ∧ m < b + (loadedOf d k).monCount))

/-- STALE_MONITORS and FIRST_STALE_MONITOR follow the monitors. -/
def showMons (d : Dev) : Dev :=
  let st := (d.enc.mons.filter (fun p => p.2.stale)).map Prod.fst
  dset R.FIRST_STALE_MONITOR (st.headD 0xFFFF) (dset R.STALE_MONITORS st.length d)

/-- The counts of a slot's monitors that wait to be merged and that `keep` does not hold back go. -/
def dropCounts (slot : Nat) (keep : Nat → Bool) (d : Dev) : Dev :=
  { d with enc := { d.enc with counts := d.enc.counts.filter (fun c => keep c.frame || decide (slotOfMon d c.mon ≠ some slot)) } }

/-- A context leaves its slot, or a new one enters: its counts go, and no frame rests on its stale monitors any more (R186, R187). -/
def forgetMons (slot : Nat) (d : Dev) : Dev :=
  let d := dropCounts slot (fun _ => false) d
  { d with enc := { d.enc with
    merged := d.enc.merged.map (fun m => (m.1, setBit m.2 slot false)), floor := tset 0 d.enc.floor slot 0 } }

/-- Sub-windows, window and stale state of a slot's monitors are cleared (R187), and CLIP_SHARE reads 0 (R185). -/
def clearMons (slot : Nat) (d : Dev) : Dev :=
  let mine := (d.enc.mons.map Prod.fst).filter (fun m => decide (slotOfMon d m = some slot))
  let d := mine.foldl (fun d m => dset (R.CLIP_SHARE m) 0 d) d
  showMons { d with enc := { d.enc with mons := mine.foldl (fun t m => tset Mon.rest t m Mon.rest) d.enc.mons } }

/-- The monitors of the saved context as they stand, and whether one was stale after each of the run frames merged last (Table 9.4). -/
def saveMons (d : Dev) (s : Save) : Save :=
  let b := dget (R.MONITOR_BASE s.slot) d
  { s with
    mons := (List.range (loadedOf d s.slot).monCount).foldl (fun t i => tset Mon.rest t i (monOf d (b + i))) []
    merged := d.enc.merged.map (fun m => bit m.2 s.slot) }

/-- Counts of frames before a pause that are merged while it holds belong to its image. -/
def refreshSave (d : Dev) : Dev :=
  if dget R.PAUSE_STATE d < 2 then d
  else { d with ctx := { d.ctx with save := d.ctx.save.map (saveMons d) } }

/-- CLIP_SHARE of a window (R185). -/
def clipShare (subs : List (Nat × Nat)) : Nat :=
  let o := (subs.map Prod.fst).foldl (· + ·) 0
  let c := (subs.map Prod.snd).foldl (· + ·) 0
  if subs.length < 16 then 0 else min 0xFFFF (65536 * c / o)

/-- A code 2 resume puts the saved monitors and their merge lag back (R247). -/
def restoreMons (d : Dev) : Dev :=
  match d.ctx.save with
  | none => d
  | some s =>
    let b := dget (R.MONITOR_BASE s.slot) d
    let old := d.enc.merged
    let merged := (List.range (max old.length s.merged.length)).map (fun i =>
      let m := old.getD i (0, 0)
      (m.1, setBit m.2 s.slot (s.merged.getD i false)))
    showMons ((List.range (loadedOf d s.slot).monCount).foldl (fun d i =>
      let x := tget Mon.rest s.mons i
      dset (R.CLIP_SHARE (b + i)) (clipShare x.subs) { d with enc := { d.enc with mons := tset Mon.rest d.enc.mons (b + i) x } })
      { d with enc := { d.enc with merged := merged } })

/-- The counts of one frame enter a monitor: a sub-window of 4,096 outputs closes (R185, R186). -/
def countMon (frame m outs clips : Nat) (d : Dev) : Dev :=
  let d := bumpBy (R.CLIP_COUNT m) clips d
  let x := monOf d m
  let x := { x with outs := x.outs + outs, clips := x.clips + clips }
  let put := fun (x : Mon) (d : Dev) => { d with enc := { d.enc with mons := tset Mon.rest d.enc.mons m x } }
  if x.outs < 4096 then put x d
  else
    let subs := ((x.outs, x.clips) :: x.subs).take 16
    let share := clipShare subs
    let st := decide (dget R.CLIP_SHARE_LIMIT d < share)
    let d := dset (R.CLIP_SHARE m) share (put { x with outs := 0, clips := 0, subs := subs, stale := st } d)
    if st ∧ x.stale = false then reportLim acPerS m 0x0241 m frame d else d

/-- Frame n is a run frame (R186). -/
def isRun (d : Dev) (n : Nat) : Bool := !(frameOf d n).lost && !(frameOf d n).paused

/-- The slots that have a stale monitor, one bit each. -/
def staleSlots (d : Dev) : Nat :=
  (List.range 4).foldl (fun w k =>
    if d.enc.mons.any (fun p => p.2.stale && decide (slotOfMon d p.1 = some k)) then w + 2 ^ k else w) 0

/-- The counts of a run frame are merged (R184). -/
def mergeFrame (n : Nat) (d : Dev) : Dev :=
  let mine := d.enc.counts.filter (fun c => decide (c.frame = n ∧
    (match slotOfMon d c.mon with | some k => tget 0 d.enc.floor k | none => 0) ≤ n))
  let ms := (mine.map (fun c => c.mon)).foldl (fun l m => if l.contains m then l else l ++ [m]) []
  let sum := fun (m : Nat) (f : ClipCount → Nat) => ((mine.filter (fun c => decide (c.mon = m))).map f).foldl (· + ·) 0
  let d := { d with enc := { d.enc with counts := d.enc.counts.filter (fun c => decide (c.frame ≠ n)) } }
  let d := showMons (ms.foldl (fun d m => countMon n m (sum m (fun c => c.outs)) (sum m (fun c => c.clips)) d) d)
  refreshSave { d with enc := { d.enc with merged := ((n, staleSlots d) :: d.enc.merged).take 8 } }

/-- The next frame is merged, or, when it is not a run frame, passed over: its counts are never merged. -/
def mergeNext (d : Dev) : Dev :=
  let n := d.enc.nextMerge
  let d := { d with enc := { d.enc with nextMerge := n + 1 } }
  if isRun d n then mergeFrame n d
  else { d with enc := { d.enc with counts := d.enc.counts.filter (fun c => decide (c.frame ≠ n)) } }

/-- All frames below `n` are merged; `fuel` bounds their number. -/
def mergeTo (n : Nat) : Nat → Dev → Dev
  | 0, d => d
  | fuel + 1, d => if d.enc.nextMerge < n then mergeTo n fuel (mergeNext d) else d

/-- No instance of frame n can remain: the growth ring of frame n + 3 has been injected, or the array has stopped, and the
frame's verdict is closed. -/
def mergeDue (d : Dev) (n : Nat) : Bool :=
  decide (n < d.grid.nextClose ∧ (n + 3 < d.grid.nextT ∨ d.grid.endF ≠ none))

/-- The next run frame that waits to be merged, within `fuel` frames. -/
def nextRun (d : Dev) : Nat → Nat → Option Nat
  | 0, _ => none
  | fuel + 1, n => if mergeDue d n = false then none else if isRun d n then some n else nextRun d fuel (n + 1)

/-- CLIP_COUNT_MERGE: the hub merges the counts of the next run frame (R184). -/
def clipCountMerge (d : Dev) : Dev :=
  match nextRun d (d.grid.nextClose - d.enc.nextMerge) d.enc.nextMerge with
  | none => d
  | some n =>
    let d := if n + 3 < d.grid.nextT then advTo (t0At d (n + 3) + dget R.GROWTH_RING_SPAN d) d else d
    mergeTo (n + 1) (n + 1) d

def execClipCountMerge (s : State) : Host.Outcome State Fault Refusal := run true clipCountMerge s

/-- CAL_STALE of frame n: a monitor of its context was stale after the counts up to the third run frame before it (R186). -/
def calStaleOf (d : Dev) (n : Nat) : Bool :=
  let late := ((List.range (n - d.enc.nextMerge)).map (fun k => n - 1 - k)).filter (isRun d)
  match (late.map (fun k => (k, 0)) ++ d.enc.merged)[2]? with
  | some (_, m) => bit m (frameOf d n).ctx
  | none => false

end Sys2Proof.Machine
end

