-- ==== Sys2Proof/Machine/Measure.lean ====
section
/-! DEFINITION. The measurement registers and their log (R483, R484), and the owner keys (R473, R475). -/

namespace Sys2Proof.Machine

/-- FRAME of a log entry: the current frame, 0 before the first arming. -/
def logFrame (d : Dev) : Nat := if d.grid.nextT = 0 then 0 else curFrame d

/-- An extend: MR_i takes SM3(MR_i ‖ D), and the log an entry while it has room. -/
def extend (i event : Nat) (dg : List Nat) (d : Dev) : Dev :=
  let d := dset (R.MR i) (sm3n (bytesOf (dget (R.MR i) d) 32 ++ dg)) d
  let e : LogEntry := ⟨i, event, logFrame d, ofBytes dg, nowWords d⟩
  let d := if d.sec.log.length < 4096 then { d with sec := { d.sec with log := e :: d.sec.log } } else bump R.LOG_DROPPED d
  bump R.LOG_COUNT d

/-- The 64 bytes of a log entry (Table 20.4), byte 0 lowest. -/
def logEntryBytes (d : Dev) (i : Nat) : Nat :=
  match d.sec.log.reverse[i]? with
  | none => 0
  | some e => ofBytes (([e.mr * 2 ^ 56 + e.event * 2 ^ 48 + i, e.frame].flatMap (fun w => bytesOf w 8))
      ++ bytesOf e.digest 32 ++ e.time.flatMap (fun w => bytesOf w 8))

/-! ### Owner keys -/

def keyOf (d : Dev) (slot : Nat) : Option Nat := tget none d.fuses.ownerKeys slot

/-- An owner key is provisioned (R475). -/
def provisioned (d : Dev) : Bool := (keyOf d 0).isSome

/-- The key identifier of a 64-byte public key: the first 8 bytes of its SM3 digest, byte 0 lowest. -/
def keyId (k : Nat) : Nat := ofBytes ((sm3 (beBytes k 64)).take 8)

/-- The unrevoked owner keys. -/
def goodKeys (d : Dev) : List Nat :=
  [0, 1].filterMap (fun s => if bit d.fuses.revoked s then none else keyOf d s)

/-- OWNER_KEY_STATE (Table 20.7). -/
def keyState (d : Dev) : Nat :=
  (if (keyOf d 0).isSome then 1 else 0) + (if (keyOf d 1).isSome then 2 else 0) + d.fuses.revoked % 4 * 4
    + (if d.fuses.rom0Revoked then 16 else 0)

/-- Event 4: both key identifiers, the revocation bits, SVN_FUSED (Table 20.3). -/
def extendKeys (d : Dev) : Dev :=
  let i := fun s => match keyOf d s with | some k => bytesOf (keyId k) 8 | none => List.replicate 8 0
  extend 1 4 (sm3 (i 0 ++ i 1 ++ [d.fuses.revoked % 4, d.fuses.svn])) d

/-- An SM2 signature of 64 bytes, r then s, big-endian, over a message, under a key (R473). -/
def signedBy (key : Nat) (sig msg : List Nat) : Bool :=
  sm2Verify (key / 2 ^ 256) (key % 2 ^ 256) (beNum (sig.take 32)) (beNum ((sig.drop 32).take 32)) msg

end Sys2Proof.Machine
end

