-- ==== Sys2Proof/Machine/Object.lean ====
section
/-! DEFINITION. The Alalin object: its layout (R202 to R215) and the checks of Table 8.12 that need nothing but the object
and the device's fixed properties. An object is a list of 64-bit words; positions are word numbers. -/

namespace Sys2Proof.Machine

/-- Word i of an object. -/
def ow (o : List Nat) (i : Nat) : Nat := o.getD i 0

/-- A directory entry: number, type, byte offset, byte length (Table 8.2). -/
abbrev DirEntry := Nat × Nat × Nat × Nat

def dirOf (o : List Nat) : List DirEntry :=
  (List.range 16).filterMap (fun e =>
    if bits (ow o (16 + 3 * e)) 63 48 = 0 then none
    else some (e, bits (ow o (16 + 3 * e)) 63 48, ow o (17 + 3 * e), ow o (18 + 3 * e)))

/-- First word of the section of a type, and its words; (0, 0) when absent. -/
def sect (o : List Nat) (ty : Nat) : Nat × Nat :=
  match (dirOf o).find? (fun e => decide (e.2.1 = ty)) with
  | some e => (e.2.2.1 / 8, e.2.2.2 / 8)
  | none => (0, 0)

def hasSect (o : List Nat) (ty : Nat) : Bool := (dirOf o).any (fun e => decide (e.2.1 = ty))

/-- `n` words from word `i` on; words beyond the end read 0. -/
def owRun (o : List Nat) (i n : Nat) : List Nat :=
  let ws := (o.drop i).take n
  ws ++ List.replicate (n - ws.length) 0

/-- The bytes of `n` words from word `i` on. -/
def wordBytes (o : List Nat) (i n : Nat) : List Nat := (owRun o i n).flatMap (fun w => bytesOf w 8)

/-- The bytes of a byte range. -/
def objBytes (o : List Nat) (off n : Nat) : List Nat := ((wordBytes o (off / 8) ((off % 8 + n + 7) / 8)).drop (off % 8)).take n

/-! ### Header (Table 8.2) -/

def objPatch (o : List Nat) : Bool := bit (ow o 6) 63
def objF (o : List Nat) : Nat := bits (ow o 2) 31 16
def objLc (o : List Nat) : Nat := bits (ow o 2) 15 0
def objHops (o : List Nat) : Nat := bits (ow o 5) 63 59
/-- L_r and L_a as R40 takes them. -/
def objLr (o : List Nat) : Nat := if objHops o = 0 then 0 else 77 * objHops o + 61
def objLa (o : List Nat) : Nat := objLc o - 76 - objLr o
def objMons (o : List Nat) : Nat := bits (ow o 5) 54 42

/-- Types the retained image holds (Table 8.3), and those a patch may hold. -/
def retainedType (ty : Nat) : Bool := decide (ty ≠ 3 ∧ ty ≠ 11)
def patchType (ty : Nat) : Bool := decide (ty ≠ 3 ∧ ty ≠ 10 ∧ ty ≠ 11)

/-- Bytes that the retained image takes: header and retained sections (R226). -/
def retainedSize (o : List Nat) : Nat :=
  ((dirOf o).filter (fun e => retainedType e.2.1)).foldl (fun n e => n + e.2.2.2) 512

/-! ### GRID, CODE, TABLES, WEIGHTS -/

/-- A core record (Table 8.4) as its four words. -/
structure CoreRec where
  w0 : Nat
  w1 : Nat
  route : Nat
  mon : Nat
deriving DecidableEq, Repr

def CoreRec.rest : CoreRec := ⟨0, 0, 0, 0⟩
def recX (r : CoreRec) : Nat := bits r.w0 63 56
def recY (r : CoreRec) : Nat := bits r.w0 55 48
def recXY (r : CoreRec) : Nat := recX r * 256 + recY r

def coreCount (o : List Nat) : Nat := bits (ow o (sect o 1).1) 63 32

def coreRecs (o : List Nat) : List CoreRec :=
  (List.range (min (coreCount o) ((sect o 1).2 / 4))).map (fun i =>
    let a := (sect o 1).1 + 1 + 4 * i
    ⟨ow o a, ow o (a + 1), ow o (a + 2), ow o (a + 3)⟩)

/-- The record of logical core x * 256 + y. -/
def recOf (o : List Nat) (xy : Nat) : Option CoreRec := (coreRecs o).find? (fun r => decide (recXY r = xy))

/-- Position of the input map's count word, and its entries (Table 8.5). -/
def inputAt (o : List Nat) : Nat := (sect o 1).1 + 1 + 4 * coreCount o
def inputCount (o : List Nat) : Nat := bits (ow o (inputAt o)) 63 32
def inputMap (o : List Nat) : List Nat :=
  owRun o (inputAt o + 1) (min (inputCount o) (sect o 1).2)

/-- Positions of consecutive blocks that lie whole between word p and word e; `size` is a block's words; `fuel` bounds their number. -/
def walk (size : Nat → Nat) : Nat → Nat → Nat → List Nat
  | 0, _, _ => []
  | fuel + 1, p, e => if 0 < size p ∧ p + size p ≤ e then p :: walk size fuel (p + size p) e else []

def codePos (o : List Nat) : List Nat :=
  walk (fun p => 1 + bits (ow o p) 63 48) (sect o 2).2 (sect o 2).1 ((sect o 2).1 + (sect o 2).2)

/-- A run of table words: address, number, position of the first word; its tag words follow (R205). -/
structure Run where
  addr : Nat
  count : Nat
  at' : Nat
deriving DecidableEq, Repr

/-- The runs of a table block whose first run header is at p, and the position after them. -/
def runsFrom (o : List Nat) : Nat → Nat → List Run × Nat
  | 0, p => ([], p)
  | k + 1, p =>
    let n := bits (ow o p) 54 46 + 1
    let r := runsFrom o k (p + 1 + n + (n + 15) / 16)
    (⟨bits (ow o p) 63 55, n, p + 1⟩ :: r.1, r.2)

/-- Runs of the table block at p, and the position of its preload. -/
def tblBlock (o : List Nat) (p : Nat) : List Run × Nat := runsFrom o (bits (ow o p) 63 48) (p + 1)

def tblPos (o : List Nat) : List Nat :=
  walk (fun p => (tblBlock o p).2 + 13 - p) (sect o 4).2 (sect o 4).1 ((sect o 4).1 + (sect o 4).2)

/-- The program of a core record: its instruction words from address 0. -/
def progOf (o : List Nat) (r : CoreRec) : List Nat :=
  match (codePos o)[bits r.w0 47 32]? with
  | some p => owRun o (p + 1) (bits (ow o p) 63 48)
  | none => []

def runsOf (o : List Nat) (r : CoreRec) : List Run :=
  match (tblPos o)[bits r.w0 31 16]? with
  | some p => (tblBlock o p).1
  | none => []

/-- Preload word i of a core record. -/
def preOf (o : List Nat) (r : CoreRec) (i : Nat) : Nat :=
  match (tblPos o)[bits r.w0 31 16]? with
  | some p => ow o ((tblBlock o p).2 + i)
  | none => 0

/-- Table words a core record owns. -/
def ownWords (o : List Nat) (r : CoreRec) : List Nat := (runsOf o r).flatMap (fun x => codes x.addr x.count)

/-- Positions of the row records of a core record (R207). -/
def rowPos (o : List Nat) (r : CoreRec) : List Nat :=
  (List.range (bits r.w0 15 8)).map (fun i => (sect o 3).1 + 33 * (bits r.w1 63 32 + i))

/-- Rows of a core record: number, and whether it holds outlier weights. -/
def ownRows (o : List Nat) (r : CoreRec) : List (Nat × Bool) :=
  (rowPos o r).map (fun p => (bits (ow o p) 63 57, bit (ow o p) 56))

/-! ### Programs: strands and register use (R108, R109, R119, R140, R172, R206) -/

/-- The instructions up to the next E. -/
def strandWords : List Nat → List Nat
  | [] => []
  | w :: ws => if eBit w then [w] else w :: strandWords ws

/-- The strands of a program: from each head, also one that stands within another strand, to the next E (R108, R112). -/
def strandsFrom : List Nat → List (List Nat)
  | [] => []
  | w :: ws => if hBit w then strandWords (w :: ws) :: strandsFrom ws else strandsFrom ws

def strandsOf (prog : List Nat) : List (List Nat) := strandsFrom prog

/-- State registers that STATE reads, or writes. -/
def stateUse (dir : Bool) (w : Nat) : List Nat :=
  if opOf w = 7 ∧ bit w 51 = dir then codes (bits w 50 47) (bits w 46 45 + 1) else []

def strandWrites (s : List Nat) : List Nat := s.flatMap writesOf
def strandReads (s : List Nat) : List Nat := (s.flatMap readsOf).filter (fun r => decide (r ≠ 72))

/-- No two lists of the list share a number. -/
def apart : List (List Nat) → Bool
  | [] => true
  | a :: r => r.all (fun b => a.all (fun x => !b.contains x)) && apart r

/-- A strand reads only what it wrote before, or what no strand writes (R109). -/
def readsOk (written : List Nat) : List Nat → List Nat → Bool
  | _, [] => true
  | mine, w :: ws =>
    ((readsOf w).filter (fun r => decide (r ≠ 72))).all (fun r => mine.contains r || !written.contains r)
      && readsOk written (mine ++ writesOf w) ws

/-- R172: a close without row sums after a ZCORR with a non-zero za. -/
def zOk : Bool → List Nat → Bool
  | _, [] => true
  | z, w :: ws =>
    !(z && decide (opOf w = 4) && !bit w 42) && zOk (z || (decide (opOf w = 3) && decide (bits w 42 27 ≠ 0))) ws

/-- The strand rules of a program: error 0x000E. -/
def strandsOk (prog : List Nat) : Bool :=
  let ss := strandsOf prog
  let ins := fun (s : List Nat) => s.flatMap (fun w => (tokOps w).map Prod.fst)
  let headIns := fun (s : List Nat) => (tokOps (s.headD 0)).map Prod.fst
  apart (ss.map ins)
    && ss.all (fun s => headIns s != [] && (ins s).all (fun i => (headIns s).contains i) && decide (opOf (s.headD 0) ≠ 0x10))
    && apart (ss.map strandWrites) && apart (ss.map (fun s => s.flatMap (stateUse true)))
    && ss.all (fun s => readsOk (ss.flatMap strandWrites) [] s && zOk false s)
    && (ss.zipIdx).all (fun a => (ss.zipIdx).all (fun b =>
        decide (a.2 = b.2) || (a.1.flatMap (stateUse false)).all (fun x => !(b.1.flatMap (stateUse true)).contains x)))
    && prog.all (fun w => decide (opOf w ≠ 0 ∧ opOf w ≠ 8 ∧ opOf w ≠ 0x10 ∧ opOf w ≠ 0x11) || decide (prOf w = 0 ∧ pnBit w = false))

/-- Activation registers and predicates that a context preloads: some instruction reads them, and no strand writes them (R206). -/
def preloads (prog : List Nat) : List Nat :=
  (strandReads prog).filter (fun r => (decide (r < 32) || decide (64 < r)) && !((strandsOf prog).flatMap strandWrites).contains r)

/-- Shared registers that a context writes or preloads. -/
def sharedUse (prog : List Nat) : List Nat :=
  ((strandsOf prog).flatMap strandWrites).filter (fun r => decide (r < 32 ∨ 48 ≤ r)) ++ preloads prog

/-- acc0 to acc15 are used. -/
def usesMain (prog : List Nat) : Bool :=
  (strandsOf prog).any (fun s => (strandWrites s ++ strandReads s).any (fun r => decide (32 ≤ r ∧ r < 48)))

/-- The three conditions under which contexts may share acc0 to acc15 (R206). -/
def mainOk (prog : List Nat) : Bool :=
  let main := fun (l : List Nat) => l.any (fun r => decide (32 ≤ r ∧ r < 48))
  (strandsOf prog).all (fun s =>
    s.all (fun w => (!main (writesOf w) || decide (opOf w = 4)) &&
      (!main (readsOf w) || decide (opOf w = 4 ∨ opOf w = 5) || (decide (opOf w = 8) && bit w 24)))
    && (match s.find? (fun w => decide (opOf w = 4)) with | some w => bit w 41 | none => !main (s.flatMap readsOf)))

/-! ### Fields of an instruction (R121, R124, R126, R130 to R137, R142) -/

/-- Bits [hi:0] are 0. -/
def lowZero (w hi : Nat) : Bool := decide (w % 2 ^ (hi + 1) = 0)

/-- MAC operand limits. -/
def macOk (w : Nat) : Bool :=
  decide (macOff w + macCnt w ≤ 32) &&
    (if macSrc w = 7 then decide (macArb w + macCnt w ≤ 32) else decide (macCnt w ≤ 4 ∧ macArb w = 0))

/-- An instruction word in a core of logical row y, with sides on which a core lies and the core's outlier rows: its
reserved fields are 0 and its fields within their limits. DESIGN CHOICE (log entry 158): bits [51:0] of a NOP, which no table lays out,
count as reserved, and so a SEND that forwards from TSRC 7 and a WAIT for a token of SRC 7, which name no input, are refused. -/
def instrOk (row0 : Bool) (side : Nat → Bool) (codeRow : Nat → Bool) (w : Nat) : Bool :=
  match opOf w with
  | 0x00 => lowZero w 51
  | 0x01 => lowZero w 15 && macOk w && !(macOl w && codeRow (macORow w))
  | 0x02 => lowZero w 15 && macOk w && decide (bits w 37 31 = 0) && !bit w 25 && !codeRow (macORow w)
  | 0x03 => lowZero w 26
  | 0x04 => lowZero w 40 && decide (bits w 51 43 + (if bit w 42 then 6 else 2) ≤ 512)
  | 0x05 => lowZero w 26 && decide (bits w 42 38 + bits w 37 33 + 1 ≤ 18 ∧ bits w 32 28 + bits w 37 33 + 1 ≤ 32
      ∧ bits w 51 43 + bits w 37 33 + 1 ≤ 512)
  | 0x06 => lowZero w 25 && decide (bits w 30 27 ≤ 8 ∧ bits w 39 31 + 63 ≤ 0x1FF ∧ bits w 51 47 + bits w 41 40 + 1 ≤ 32
      ∧ bits w 46 42 + bits w 41 40 + 1 ≤ 32)
  | 0x07 => lowZero w 39 && decide (bits w 50 47 + bits w 46 45 + 1 ≤ 16 ∧ bits w 44 40 + bits w 46 45 + 1 ≤ 32)
  | 0x08 => lowZero w 23 && decide (bits w 39 38 ≠ 3)
      && (if bit w 29 then decide (bits w 28 26 ≠ 7)
          else if bit w 24 then decide (bits w 44 40 ≤ 17) else decide (bits w 44 40 + bits w 31 30 + 1 ≤ 32))
      && (List.range 4).all (fun k => !bit w (51 - k) || side k || (decide (k = 0) && row0))
  | 0x09 => lowZero w 41 && decide (bits w 51 49 ≠ 7) && decide (bits w 47 43 ≤ if bit w 42 then 17 else 28)
  | 0x0A => lowZero w 35 && decide (bits w 51 49 ≠ 7) && decide (bits w 40 36 ≤ if bits w 43 42 = 0 then 17 else 28)
  | 0x0B => lowZero w 16 && decide (bits w 37 35 ≤ 5 ∧ bits w 34 33 ≠ 3 ∧ bits w 40 38 ≠ 0)
  | 0x0C => lowZero w 34 && decide (bits w 51 47 + bits w 36 35 + 1 ≤ 32 ∧ bits w 46 42 + bits w 36 35 + 1 ≤ 32
      ∧ bits w 41 37 + bits w 36 35 + 1 ≤ 32)
  | 0x0D => lowZero w 35 && decide (bits w 51 47 + bits w 46 42 + 1 ≤ 32) && !(bit w 36 && decide (bits w 41 37 = 31))
  | 0x0E => lowZero w 3 && decide (bits w 51 50 ≠ 3)
      && (decide (bits w 51 50 = 2) || decide (bits w 49 45 + bits w 39 38 + 1 ≤ 32))
      && (decide (bits w 51 50 ≠ 0) || decide (bits w 44 40 + bits w 39 38 + 1 ≤ 32))
  | 0x0F => lowZero w 37 && decide (bits w 42 38 ≤ 28)
  | 0x10 => lowZero w 36 && decide (bits w 51 50 ≠ 3) && !(decide (bits w 51 50 = 1) && decide (bits w 39 37 = 7))
  | 0x11 => lowZero w 44 && row0 && decide (bits w 49 45 ≤ 28)
  | _ => false

/-- Weight rows and table words that an instruction addresses. -/
def rowsNamed (w : Nat) : List Nat :=
  (if opOf w = 1 then [macRow w] else []) ++ (if opOf w = 2 ∨ (opOf w = 1 ∧ macOl w) then [macORow w] else [])
def wordsNamed (w : Nat) : List Nat :=
  if opOf w = 6 then codes (bits w 39 31) 64 else ((memReads [] 0 0 w).filter (fun m => decide (m.1 = 2))).map Prod.snd

/-- A route word (R146, R147): no reserved mode, no way back, nothing passed off the array but north from row 0. -/
def routeOk (row0 : Bool) (side : Nat → Bool) (w : Nat) : Bool :=
  lowZero w 27 && decide (bits w 47 28 = 0) && (List.range 4).all (fun i =>
    let n := bits w (63 - 4 * i) (60 - 4 * i)
    decide (n / 4 ≠ 3) && (decide (n / 4 = 0) || (decide (n % 4 ≠ i) && (side (n % 4) || (decide (n % 4 = 0) && row0)))))

/-! ### Errors -/

/-- A load error and its detail (Table 8.12). -/
abbrev LoadErr := Nat × Nat

/-- The first that is there. -/
def firstErr : List (Option LoadErr) → Option LoadErr
  | [] => none
  | some e :: _ => some e
  | none :: r => firstErr r

def errIf (c : Bool) (code detail : Nat) : Option LoadErr := if c then some (code, detail) else none

/-- The first of a list for which `bad` holds, by number. -/
def firstBad {α : Type} (code : Nat) (bad : α → Bool) (l : List α) : Option LoadErr :=
  if l.any bad then some (code, l.findIdx bad) else none

/-- Each of the list is greater than the one before. -/
def rising : List Nat → Bool
  | a :: b :: r => decide (a < b) && rising (b :: r)
  | _ => true

/-- Program and weight digests as the object states them, and the base digest of a patch (R213). -/
def digestAt (o : List Nat) (k : Nat) : Nat := ofBytes (wordBytes o ((sect o 8).1 + 4 * k) 4)
def progDigest (o : List Nat) : Nat := digestAt o (dirOf o).length
def weightDigest (o : List Nat) : Nat := digestAt o ((dirOf o).length + 1)
def baseDigest (o : List Nat) : Nat := digestAt o ((dirOf o).length + 2)

/-- SM3 over the header and the sections that the program digest covers, in directory order. -/
def progDigestOf (o : List Nat) : Nat :=
  sm3n (objBytes o 0 512 ++ ((dirOf o).filter (fun e => [1, 2, 4, 5, 6, 7, 10].contains e.2.1)).flatMap (fun e => objBytes o e.2.2.1 e.2.2.2))

def sectBytes (o : List Nat) (ty : Nat) : List Nat :=
  match (dirOf o).find? (fun e => decide (e.2.1 = ty)) with
  | some e => objBytes o e.2.2.1 e.2.2.2
  | none => []

/-- Digest checks of the sections for which `on` holds (R213). -/
def digestErr (o : List Nat) (on : Nat → Bool) : Option LoadErr :=
  firstErr ((dirOf o).zipIdx.map (fun (e, k) =>
    if on e.2.1 && decide (e.2.1 ≠ 8) then errIf (decide (sm3n (objBytes o e.2.2.1 e.2.2.2) ≠ digestAt o k)) 0x0004 e.1 else none))

/-- Signature check (R214): SIGNATURE holds 64 bytes of signature and 8 of the key identifier. -/
def sigErr (o : List Nat) (keys : List Nat) (needed : Bool) : Option LoadErr :=
  let s := sectBytes o 9
  let msg := sm3 (objBytes o 0 512 ++ sectBytes o 8)
  errIf (needed && !(hasSect o 9 && keys.any (fun k => decide (keyId k = ofBytes ((s.drop 64).take 8)) && signedBy k (s.take 64) msg))) 0x0005 0

/-- A section that the chapter's layout does not allow: no whole number of 64-bit words (R202), ROUTES of another size than the tables of
64 dies (R211), DIGESTS without a digest for each entry, program, weights and the patched context (R213). -/
def badSection (o : List Nat) (e : DirEntry) : Bool :=
  decide (e.2.2.1 % 8 ≠ 0 ∨ e.2.2.2 % 8 ≠ 0) || (decide (e.2.1 = 5) && decide (e.2.2.2 ≠ 64 * 4864))
    || (decide (e.2.1 = 8) && decide (e.2.2.2 < 32 * ((dirOf o).length + if objPatch o then 3 else 2)))

/-- The checks of the header and the directory: errors 0x0001 to 0x0003. DESIGN CHOICE (log entry 160): the sections of `badSection` get
0x0002, since R201 refuses them and Table 8.12 names no code. -/
def layoutErr (o : List Nat) (bytes : Nat) : Option LoadErr :=
  let ds := dirOf o
  let outside := fun (e : DirEntry) => decide (ow o 1 < e.2.2.1 + e.2.2.2 ∨ e.2.2.1 < 512)
    || ds.any (fun f => decide (f.1 ≠ e.1 ∧ e.2.2.1 < f.2.2.1 + f.2.2.2 ∧ f.2.2.1 < e.2.2.1 + e.2.2.2))
  firstErr [
    errIf (decide (bits (ow o 0) 63 32 ≠ 0x414C4F42 ∨ bits (ow o 0) 31 16 ≠ 3 ∨ bits (ow o 0) 15 0 ≠ 512)) 0x0001 0,
    errIf (decide (ow o 1 ≠ bytes)) 0x0002 0,
    firstBad 0x0002 outside ds,
    firstBad 0x0003 (fun e => decide (11 < e.2.1 ∨ e.2.2.1 % 4096 ≠ 0) || (objPatch o && !patchType e.2.1)) ds,
    errIf (!rising (ds.map (fun e => e.2.1))) 0x0003 0,
    errIf ([1, 2, 4, 5, 6, 7, 8].any (fun t => !hasSect o t) || (!objPatch o && !hasSect o 3)) 0x0003 0,
    firstBad 0x0002 (badSection o) ds]

/-- Part, grade and latency class: errors 0x0006 to 0x0008 (R212, Table 8.6). -/
def classErr (d : Dev) (o : List Nat) : Option LoadErr :=
  let h := (sect o 7).1
  let st := bits (ow o 2) 39 32
  let lat := fun (a1 : Bool) => (List.range 18).any (fun n =>
    decide (bits (ow o (h + (if a1 then 1 else 6) + n / 16)) (4 * (n % 16) + 3) (4 * (n % 16)) ≠ unitLatency a1 n))
  let mine := if d.fuses.stepping = 0xA1 then 0 else 1
  let paths := (List.range (min (bits (ow o h) 63 32) (sect o 7).2)).map (fun i => ow o (h + 12 + 2 * i))
  firstErr [
    errIf (decide (bits (ow o 2) 63 48 ≠ 0x6400)) 0x0006 0,
    errIf (decide (bits (ow o 2) 47 40 ≠ d.fuses.grade)) 0x0007 0,
    errIf (!bit st mine || (bit st 0 && (lat true || decide (bits (ow o h) 15 12 ≠ 4)))
      || (bit st 1 && (lat false || decide (bits (ow o h) 11 8 ≠ 3)))) 0x0008 0,
    firstBad 0x0008 (fun w => decide ((if mine = 0 then bits w 63 48 else bits w 47 32) = 0xFFFF)) paths]

/-- Core records and counts: error 0x000C (R204). DEDUCED (log entry 127): a patch has no WEIGHTS, so its records have no rows.
DESIGN CHOICE (log entry 111): GRID_X or GRID_Y outside Table 8.2, ROWS above 128 and a PATHS count that runs beyond LATENCY get 0x000C too;
the spec refuses them and names no code. -/
def gridErr (o : List Nat) : Option LoadErr :=
  let g := sect o 1
  let rs := coreRecs o
  let badRec := fun (e : CoreRec × Nat) =>
    let r := e.1
    decide (bits (ow o 3) 63 48 ≤ recX r ∨ bits (ow o 3) 47 32 ≤ recY r) || ((rs.take e.2).any (fun q => decide (recXY q = recXY r)))
      || ((codePos o)[bits r.w0 47 32]?).isNone || ((tblPos o)[bits r.w0 31 16]?).isNone
      || decide (128 < bits r.w0 15 8)
      || decide ((sect o 3).2 < 33 * (bits r.w1 63 32 + bits r.w0 15 8))
  let init := sect o 10
  firstErr [
    errIf (decide (bits (ow o 3) 63 48 = 0 ∨ (if bits (ow o 2) 47 40 = 20 then 160 else 192) < bits (ow o 3) 63 48
      ∨ bits (ow o 3) 47 32 = 0 ∨ 128 < bits (ow o 3) 47 32)) 0x000C 0,
    errIf (decide (g.2 < 2 + 4 * coreCount o ∨ g.2 < 2 + 4 * coreCount o + inputCount o)) 0x000C 0,
    firstBad 0x000C badRec rs.zipIdx,
    errIf (hasSect o 10 && decide (init.2 < 1 + 2 * bits (ow o init.1) 63 32)) 0x000C 0,
    errIf (decide ((sect o 7).2 < 11 + 2 * bits (ow o (sect o 7).1) 63 32)) 0x000C 0]

/-- The sides of a logical core on which a core lies. -/
def sideOf (d : Dev) (r : CoreRec) (dir : Nat) : Bool := (neighbour d (recX r) (recY r) dir).isSome

/-- A code block that breaks a check of Table 8.12 wherever it may be used: an instruction with a reserved field, opcode or a field out of
its limits (R121). -/
def badCode (o : List Nat) (p : Nat) : Bool :=
  !(owRun o (p + 1) (bits (ow o p) 63 48)).all (instrOk true (fun _ => true) (fun _ => false))

/-- A table block with a run whose header has a reserved field (R205), or that goes beyond the table. -/
def badTable (o : List Nat) (p : Nat) : Bool :=
  (tblBlock o p).1.any (fun x => !lowZero (ow o (x.at' - 1)) 45 || decide (512 < x.addr + x.count))

/-- Reserved fields and field limits: error 0x000D, of every block, run and row record of the object, whether a core record names it or
not; `held` are the weight rows of a core record in the context (R126, R231). -/
def fieldErr (d : Dev) (held : CoreRec → List (Nat × Bool)) (o : List Nat) : Option LoadErr :=
  let h := (sect o 7).1
  let zero := fun (i hi : Nat) => lowZero (ow o i) hi
  let badRec := fun (r : CoreRec) =>
    let rows := held r
    let row0 := decide (recY r = 0)
    !lowZero r.w0 7 || !lowZero r.w1 31 || !lowZero r.mon 37 || !routeOk row0 (sideOf d r) r.route
      || decide (18 < bits r.mon 54 50)
      || !(progOf o r).all (instrOk row0 (sideOf d r) (fun k => rows.any (fun x => decide (x.1 = k ∧ x.2 = false))))
  let rl := (sect o 6).1
  let fb := sect o 5
  let badFb := fun (e : Nat × Nat) => decide (bits e.1 6 5 ≠ 0) || (bit e.1 7 && decide ((if e.2 % 4864 < 1792 then 27 else 19) < e.1 % 32))
  firstErr [
    errIf (decide (bits (ow o 2) 39 34 ≠ 0) || !zero 5 41 || !lowZero (ow o 6) 62 || (List.range 8).any (fun i => decide (ow o (8 + i) ≠ 0))) 0x000D 0,
    firstBad 0x000D (fun e => !lowZero (ow o (16 + 3 * e)) 47) (List.range 16),
    errIf (!zero (sect o 1).1 31 || !zero (inputAt o) 31 || !zero h 7
      || (hasSect o 6 && !zero (sect o 6).1 31) || (hasSect o 10 && !zero (sect o 10).1 31)) 0x000D 0,
    firstBad 0x000D badRec (coreRecs o),
    firstBad 0x000D (fun p => !lowZero (ow o p) 47) (codePos o ++ tblPos o),
    firstBad 0x000D (fun p => decide (bits (ow o p) 63 48 = 0 ∨ 256 < bits (ow o p) 63 48)) (codePos o),
    firstBad 0x000D (badCode o) (codePos o),
    firstBad 0x000D (badTable o) (tblPos o),
    firstBad 0x000D (fun k => !zero ((sect o 3).1 + 33 * k) 51) (List.range ((sect o 3).2 / 33)),
    firstBad 0x000D (fun w => !lowZero w 11) (inputMap o),
    firstBad 0x000D badFb ((wordBytes o fb.1 (min fb.2 38912)).zipIdx),
    firstBad 0x000D (fun i => !zero (h + 11 + 2 * i) 28 || !zero (h + 12 + 2 * i) 15 || decide (5 < bits (ow o (h + 11 + 2 * i)) 31 29))
      (List.range (min (bits (ow o h) 63 32) (sect o 7).2)),
    firstBad 0x000D (fun i => decide (5 ≤ bits (ow o (rl + 1 + 2 * i)) 63 56 ∧ bits (ow o (rl + 1 + 2 * i)) 63 56 ≤ 6
        ∧ ow o (rl + 2 + 2 * i) ≠ 0))
      (List.range (min (bits (ow o rl) 63 32) (sect o 6).2))]

/-! ### Review networks (R331, R332) -/

/-- s_c of the permitted rates (R303). -/
def goodSc (s : Nat) : Bool := (List.range 32).any (fun k => [1, 2, 4, 8].any (fun q => decide (64 * (k + 1) = s * q)))

/-- The network whose header is at p within the REVIEW section that starts at word `a`: its number in the object, the
network, and the position after its pass table. -/
def netAt (o : List Nat) (a p : Nat) : Nat × Net × Nat :=
  let n := bits (ow o p) 55 48
  let ps := (List.range n).map (fun k =>
    let q := p + 3 + 2 * k
    [bits (ow o q) 63 48, bits (ow o q) 47 40, bits (ow o q) 39 24, bits (ow o q) 23 16, bits (ow o (q + 1)) 63 48])
  let pages := bits (ow o (p + 1)) 31 0
  (bits (ow o p) 63 56,
   ⟨bits (ow o p) 15 0, bits (ow o p) 31 16, bits (ow o (p + 1)) 63 48, bits (ow o (p + 1)) 47 32, bits (ow o p) 47 40, pages, ps, 0,
    owRun o (a + ow o (p + 2) / 8) (8192 * pages)⟩,
   p + 3 + 2 * n)

/-- The networks of a REVIEW section, `k` of them from word p on. -/
def netsFrom (o : List Nat) (a : Nat) : Nat → Nat → List (Nat × Net)
  | 0, _ => []
  | k + 1, p => let x := netAt o a p; (x.1, x.2.1) :: netsFrom o a k x.2.2

def netsOf (o : List Nat) : List (Nat × Net) :=
  if hasSect o 11 then netsFrom o (sect o 11).1 (min (bits (ow o (sect o 11).1) 63 56) 4) ((sect o 11).1 + 1) else []

/-- Positions of the network headers of a REVIEW section, `k` of them from word p on. -/
def netPos (o : List Nat) : Nat → Nat → List Nat
  | 0, _ => []
  | k + 1, p => p :: netPos o k (p + 3 + 2 * bits (ow o p) 55 48)

/-- A network header, or its pass table, with a reserved field that is not 0, or pages that start on no page boundary (Tables 13.1
and 13.2). -/
def netReserved (o : List Nat) (p : Nat) : Bool :=
  decide (bits (ow o p) 39 32 ≠ 0 ∨ ow o (p + 2) % 65536 ≠ 0)
    || (List.range (bits (ow o p) 55 48)).any (fun k => !lowZero (ow o (p + 3 + 2 * k)) 15 || !lowZero (ow o (p + 4 + 2 * k)) 47)

/-- The code pages of a network hold a RING or a SEND to F (R329). -/
def ringCode (n : Net) : Bool :=
  n.passes.any (fun p => (Config.reviewCode ((n.words.drop (8192 * p.getD 0 0)).take (8192 * p.getD 1 0))).any (fun w =>
    decide (opOf w = 0x11) || (decide (opOf w = 0x08) && bit w 47)))

/-- Limits of R332 and reserved fields: error 0x000D. -/
def netErr (o : List Nat) : Option LoadErr :=
  let bad := fun (x : Nat × Net) =>
    decide (3 < x.1 ∨ x.2.passes.length = 0 ∨ 64 < x.2.passes.length ∨ x.2.outCount = 0 ∨ 16 < x.2.outCount
      ∨ x.2.inBlocks = 0 ∨ 1024 < x.2.inBlocks ∨ x.2.inChans = 0 ∨ 512 < x.2.inChans
      ∨ 16 * 65536 < 2 * x.2.inChans * x.2.inBlocks * x.2.sc) || !goodSc x.2.sc
      || x.2.passes.any (fun p => decide (p.getD 1 0 = 0 ∨ 2 < p.getD 1 0 ∨ 64 < p.getD 3 0 ∨ p.getD 4 0 = 0 ∨ 16 < p.getD 4 0
        ∨ x.2.pages < p.getD 0 0 + p.getD 1 0 ∨ x.2.pages < p.getD 2 0 + p.getD 3 0))
  let n := bits (ow o (sect o 11).1) 63 56
  firstErr [
    errIf (hasSect o 11 && decide (n = 0 ∨ 4 < n)) 0x000D 0,
    firstBad 0x000D bad (netsOf o),
    firstBad 0x000D (fun (x : Nat × Net) => ringCode x.2) (netsOf o),
    if hasSect o 11 then firstBad 0x000D (netReserved o) (netPos o (min n 4) ((sect o 11).1 + 1)) else none]

end Sys2Proof.Machine
end

