-- ==== Sys2Proof/Machine/Conditioning.lean ====
section
/-! DEFINITION. Channel conditioning, history rings, first-look comparators, TDCs and edge inputs (chapter 4), and the
input slots of the array (R208, R209). -/

namespace Sys2Proof.Machine

/-- A conditioning value for the samples of frame n: from sample tick 0 on, what the frame's growth ring will apply is in
force (R80, R81, R91). -/
def condGet (d : Dev) (n : Nat) (r : Reg) : Nat :=
  if d.grid.nextT ≤ n ∧ (d.flt.losing = false ∨ dget R.RESTART_STATE d = 5) then
    match tget none d.ctl.rwlLatched r.key with
    | some v => v
    | none => dget r d
  else dget r d

/-- A signed 16-bit element of an entry that is an array of them. -/
def elemI16 (v i : Nat) : Int := sgn 16 (v / 2 ^ (16 * i))

/-! ### The chain (R75 to R79) -/

/-- What a stage hands on: value, and whether it saturated. -/
def stage16 (v : Int) : Int × Nat := (sat 16 v, if sat 16 v = v then 0 else 1)

/-- R52: the sample in a container. -/
def unpack (x : Port) (w : Nat) : Int :=
  let v := w % 65536 / 2 ^ (16 - x.bitsN) * 2 ^ (16 - x.bitsN)
  sgn 16 (if x.offBin then v ^^^ 0x8000 else v)

/-- A biquad in direct form I (R77): coefficients, input history, output history, input. -/
def biquad (cf : Nat) (xs ys : List Int) (x : Int) : Int × Nat :=
  let acc := elemI16 cf 0 * x + elemI16 cf 1 * xs.getD 0 0 + elemI16 cf 2 * xs.getD 1 0
    - elemI16 cf 3 * ys.getD 0 0 - elemI16 cf 4 * ys.getD 1 0
  stage16 (rneDiv acc (2 ^ 14))

/-- The FIR sum (R77): taps and the delay line, newest first. -/
def firSum (taps : Nat) (xs : List Int) : Int :=
  ((List.range 32).map (fun i => elemI16 taps i * xs.getD i 0)).foldl (· + ·) 0

/-- The baseline restorer (R79): output, saturations, baseline. -/
def restore (mode k g : Nat) (b x : Int) : Int × Nat × Int :=
  let dlt := x - rneDiv b (2 ^ 16)
  let b' := b + (x * 2 ^ 16 - b) / ((2 ^ k : Nat) : Int)
  if mode = 0 then (x, 0, b)
  else
    let o := stage16 dlt
    (o.1, o.2, if mode = 1 ∨ dlt.natAbs ≤ g then b' else b)

/-- Biquad histories, FIR delay line and baseline cleared (R71, R81). -/
def clearChain (c : Chan) : Chan := { c with x1 := [], y1 := [], x2 := [], y2 := [], fir := [], base := 0 }

/-! ### Comparators (R88 to R95) -/

/-- Comparator settings of a channel. -/
structure CmpSet where
  cfg : Nat
  level : Int
  hyst : Int
  slope : Int
  lo : Int
  hi : Int
deriving DecidableEq, Repr

def cmpSet (d : Dev) (n c : Nat) : CmpSet :=
  ⟨condGet d n (R.CMP_CONFIG c), sgn 16 (condGet d n (R.LEVEL c)), (condGet d n (R.LEVEL_HYST c) : Nat),
    sgn 16 (condGet d n (R.SLOPE_THRESHOLD c)), sgn 16 (condGet d n (R.WIN_LO c)), sgn 16 (condGet d n (R.WIN_HI c))⟩

/-- Table 4.2: the level comparator's new state. -/
def levelNow (s : CmpSet) (was : Bool) (x : Int) : Bool :=
  if bit s.cfg 0 = false then false
  else if bit s.cfg 5 then (if was then !decide (s.level + s.hyst < x) else decide (x ≤ s.level))
  else (if was then !decide (x < s.level - s.hyst) else decide (s.level ≤ x))

def slopeNow (s : CmpSet) (hist : List Int) (x : Int) : Bool :=
  match hist[bits s.cfg 11 8]? with
  | none => false
  | some o => bit s.cfg 1 && (if 0 ≤ s.slope then decide (s.slope ≤ x - o) else decide (x - o ≤ s.slope))

def windowNow (s : CmpSet) (x : Int) : Bool :=
  bit s.cfg 2 && (if bit s.cfg 6 then decide (s.lo ≤ x ∧ x ≤ s.hi) else decide (x < s.lo ∨ s.hi < x))

/-- R89: the channel condition from the comparators' states, one bit each. -/
def condNow (s : CmpSet) (cm : Nat) : Bool :=
  let en := s.cfg % 8
  if en = 0 then false else if bit s.cfg 3 then decide (cm &&& en = en) else decide (cm &&& en ≠ 0)

/-- f times `span` (a rational num/den), rounded: the crossing of `bound` between xp and x, f clamped to [0, 1] (R94). -/
def fracPart (bound xp x : Int) (num den : Nat) : Int :=
  if x = xp then rneDiv num den
  else
    let a := if xp < x then bound - xp else xp - bound
    let b := (x - xp).natAbs
    let a := clampI 0 b a
    rneDiv (a * num) (b * den)

/-- R94, R95: the crossing time without phase, in 1/256 ac, of a rise at conditioned sample k; `num` / `den` is the sample
period in 1/256 ac; `newly` are the comparators that have just become true. DESIGN CHOICE (log entry 122): (k - 1) T_s 256 is
rounded to nearest even on its own where it is not whole, and f is 1 where c rises with no bound crossed. -/
def crossing (s : CmpSet) (newly : Nat) (xp : Option Int) (x : Int) (k num den : Nat) (comp : Nat) : Int :=
  let at0 := rneDiv (((k : Int) - 1) * num) den
  let full := rneDiv num den
  let via := fun b => match xp with
    | none => full
    | some p => fracPart b p x num den
  let wb : Option Int :=
    if bit s.cfg 6 then
      match xp with
      | some p => if p < s.lo then some s.lo else if s.hi < p then some s.hi else none
      | none => none
    else if s.hi < x then some s.hi else some s.lo
  let fs := (if bit newly 0 then [via s.level] else []) ++ (if bit newly 1 then [full] else [])
    ++ (if bit newly 2 then [match wb with | some b => via b | none => full] else [])
  let f := match fs with
    | [] => full
    | h :: r => r.foldl (fun m e => if bit s.cfg 3 then max m e else min m e) h
  at0 + f - (comp : Int)

/-- R95: carry or borrow one frame; the frame before frame 0 is number -1 of 64 bits. DESIGN CHOICE (log entry 123): a time more than
a frame below 0 is reported at offset 0 of the frame before. -/
def normCross (d : Dev) (frame : Nat) (t : Int) : Nat × Nat :=
  let l : Int := ((fLen d * 256 : Nat) : Int)
  if t < 0 then ((frame + 2 ^ 64 - 1) % 2 ^ 64, (t + l).toNat) else if l ≤ t then (frame + 1, (t - l).toNat) else (frame, t.toNat)

/-! ### Samples of a channel -/

/-- Channel c exists on its port and is delivered in frame n (R55, R65, R434). -/
def delivered (d : Dev) (c n : Nat) : Bool :=
  deliversIn d (c / 64) n && decide (c % 64 < (portOf d (c / 64)).chans) && !(chanOf d c).retired

/-- Raw rate n of a channel in the frame: as declared while it is delivered, else as compiled where the frame's context
uses it (R65, R208); 0: no ticks. -/
def tickRate (d : Dev) (c n : Nat) : Nat :=
  if delivered d c n then (portOf d (c / 64)).rate else (tget (0, 0) (loadedOf d (ctxOf d n)).rates c).1

/-- Decimation in force on a channel in frame n (R78); an absent channel keeps the compiled one. -/
def decim (d : Dev) (c n : Nat) : Nat :=
  if delivered d c n then
    let p := condGet d n (R.CH_PROFILE c)
    if bit (condGet d n (R.FILTER_ENABLE p)) 2 then max (condGet d n (R.FIR_DECIMATION p)) 1 else 1
  else 2 ^ (tget (0, 0) (loadedOf d (ctxOf d n)).rates c).2

/-- Raw samples of a channel in a frame at rate n. -/
def perFrame (d : Dev) (rate : Nat) : Nat := rate * fLen d / 24

/-- Keep what is numbered `lo` or above, of a table (in rising order). -/
def trimBelow {α : Type} (lo : Nat) (t : Tab α) : Tab α := t.dropWhile (fun e => decide (e.1 < lo))

/-- A history-ring entry is written (R84, R85). -/
def ringPut (rate dc key v : Nat) (c : Chan) : Chan :=
  { c with ring := trimBelow (key + 1 - rate * 12288 * dc) (tset 0 c.ring key v) }

/-- The flag of a channel takes a value in ac t (R90); only changes are listed, newest first. A sample of the same ac that was true
holds the flag true through that ac: the pattern unit sees the OR. -/
def flagPut (t : Nat) (v : Bool) (c : Chan) : Chan :=
  let c' := if v then { c with litAt := some t } else c
  if ((c.flags.head?.map Prod.snd).getD false) = v then c'
  else { c' with flags := ((if v = false ∧ c.litAt = some t then t + 1 else t, v) :: c.flags).take 16384 }

/-- A stretched flag at ac x: it was 1 in some ac from x - w to x (R283). -/
def flagAt (fl : List (Nat × Bool)) (w x : Nat) : Bool :=
  let rec go : Option Nat → List (Nat × Bool) → Bool
    | _, [] => false
    | stop, (t, v) :: r =>
      let hit := v && decide (t ≤ x) && (match stop with | none => true | some e => decide (x < e + w))
      hit || go (some t) r
  go none fl

/-- The flag bit of a channel at ac x: from the ac on in which it became absent last, only what came since counts. -/
def flagBit (c : Chan) (w x : Nat) : Bool :=
  flagAt (if c.cut ≤ x then c.flags.filter (fun f => decide (c.cut ≤ f.1)) else c.flags) w x

/-- A stretched edge bit at ac x. -/
def edgeAt (bs : List Nat) (w x : Nat) : Bool := bs.any (fun b => decide (b ≤ x ∧ x ≤ b + w))

/-- One conditioned sample x of channel c in frame n, whose raw number in the frame is k and whose tick is released at ac
`rel`: comparators, flag, crossing, count (R88 to R95). -/
def firstLook (c n k rel dc rate : Nat) (x : Int) (d : Dev) : Dev :=
  let s := cmpSet d n c
  let ch := chanOf d c
  let lev := levelNow s ch.lev x
  let cm := (if lev then 1 else 0) + (if slopeNow s ch.hist x then 2 else 0) + (if windowNow s x then 4 else 0)
  let cn := condNow s cm
  let rise := cn && !ch.cPrev
  let fl := if bit s.cfg 4 then rise else cn
  let pend := decide (d.grid.nextT ≤ n)
  let comp := condGet d n (R.GROUP_DELAY_COMP (condGet d n (R.CH_PROFILE c)))
  let t := crossing s (cm &&& (7 - ch.cmps)) ch.hist.head? x (k / dc) (6144 * dc) rate comp
    + (if pend then 0 else sgn 16 (dget (R.TDC_PHASE (c / 64)) d))
  let rs : List Rise := if rise then [⟨rel + 64, n, t, decide (dget R.TDC_CAL_STATE d = 1), pend⟩] else []
  let ch := flagPut (rel + 64) fl { ch with
    lev := lev, hist := (x :: ch.hist).take 16, cPrev := cn, cmps := cm, rises := (rs ++ ch.rises).take 4096
    origin := if rise && !flagBit ch (dget (R.COINC_WINDOW c) d) (rel + 63) then rs.head? else ch.origin }
  let d := setChan c ch d
  if rise then bump (R.FLAG_COUNT c) d else d

/-- One raw sample of a delivered channel, unpacked: the chain of Table 4.1, the history ring, the first look. -/
def condValue (c n : Nat) (u : Int) (d : Dev) : Dev :=
  let pt := portOf d (c / 64)
  let ch := chanOf d c
  let k := ch.rawIdx
  let rel := bAt d n + k * 24 / pt.rate
  let p := condGet d n (R.CH_PROFILE c)
  let en := condGet d n (R.FILTER_ENABLE p)
  let o1 := if bit en 0 then biquad (condGet d n (R.BQ1_COEF p)) ch.x1 ch.y1 u else (u, 0)
  let o2 := if bit en 1 then biquad (condGet d n (R.BQ2_COEF p)) ch.x2 ch.y2 o1.1 else (o1.1, 0)
  let line := (o2.1 :: ch.fir).take 32
  let dc := decim d c n
  let tap := condGet d n (R.CH_RING_TAP c)
  let key := (frameOf d n).ringB * pt.rate / 24 + k
  let ch := { ch with
    rawIdx := k + 1, raw := unsgn 16 u :: ch.raw
    x1 := if bit en 0 then (u :: ch.x1).take 2 else ch.x1, y1 := if bit en 0 then (o1.1 :: ch.y1).take 2 else ch.y1
    x2 := if bit en 1 then (o1.1 :: ch.x2).take 2 else ch.x2, y2 := if bit en 1 then (o2.1 :: ch.y2).take 2 else ch.y2
    fir := if bit en 2 then line else ch.fir }
  let ch := if tap = 1 then ringPut pt.rate 1 key (unsgn 16 u) ch else ch
  if k % dc ≠ 0 then bumpBy (R.COND_SAT c) (o1.2 + o2.2) (setChan c ch d)
  else
    let o3 := if bit en 2 then stage16 (rneDiv (firSum (condGet d n (R.FIR_TAPS p)) line) (2 ^ 15)) else (o2.1, 0)
    let o4 := restore (condGet d n (R.BLR_MODE p)) (condGet d n (R.BLR_SHIFT p)) (condGet d n (R.BLR_GATE p)) ch.base o3.1
    let ch := { ch with base := o4.2.2, outIdx := ch.outIdx + 1, outs := o4.1 :: ch.outs }
    let ch := if tap = 1 then ch else ringPut pt.rate dc key (unsgn 16 o4.1) ch
    firstLook c n k rel dc pt.rate o4.1 (bumpBy (R.COND_SAT c) (o1.2 + o2.2 + o3.2 + o4.2.1) (setChan c ch d))

/-- One raw sample of a delivered channel. -/
def condSample (c n w : Nat) (d : Dev) : Dev := condValue c n (unpack (portOf d (c / 64)) w) d

/-- One tick of an absent channel that the frame's context uses: the conditioned value 0 (R65). -/
def absentSample (c n : Nat) (d : Dev) : Dev :=
  let ch := chanOf d c
  let out := decide (ch.rawIdx % decim d c n = 0)
  setChan c { ch with rawIdx := ch.rawIdx + 1
                      outIdx := if out then ch.outIdx + 1 else ch.outIdx
                      outs := if out then 0 :: ch.outs else ch.outs } d

/-! ### Input slots (R208, R209, R224) -/

/-- A token for an input slot: side, row, lane, the ac it is due, the token. -/
structure SlotTok where
  side : Nat
  row : Nat
  lane : Nat
  due : Nat
  tok : Tok
deriving DecidableEq, Repr

/-- The token that the input-map entry e makes of conditioned samples up to number i (from 0) of its channel in frame n,
if that sample completes one: `xs` are the samples, newest first, `rel` the release of the last. -/
def slotTok (d : Dev) (n ctx e i rel : Nat) (xs : List Int) : Option SlotTok :=
  let v := bits e 43 42 + 1
  let st := bits e 41 38 + 1
  if (i + 1) % v ≠ 0 then none
  else
    let k := (i + 1) / v - 1
    if k % st ≠ bits e 37 34 then none
    else
      let vals := (xs.take v).reverse
      let pay := ofBytes (vals.flatMap (fun x => bytesOf (unsgn 16 x) 2))
      let iter := (bits e 33 28 + (k / st) / max (bits e 27 20) 1) % 64
      let side := bits e 53 53
      let row := bits e 52 46
      let lane := bits e 45 44
      let pad := tget 0 (loadedOf d ctx).slotPads (side * 512 + row * 4 + lane)
      some ⟨side, row, lane, rel + 56 + pad, ⟨pay, (n % 256) * 256 + iter * 4 + ctx, false⟩⟩

/-- Tokens that channel c owes the slots of frame n's context (its samples from number `fed` on). -/
def owed (d : Dev) (c n ctx : Nat) : List SlotTok :=
  let ch := chanOf d c
  let rate := tickRate d c n
  let dc := decim d c n
  let es := (loadedOf d ctx).inputs.filter (fun e => decide (bits e 63 54 = c))
  (List.range (ch.outIdx - ch.fed)).flatMap (fun j =>
    let i := ch.fed + j
    es.filterMap (fun e => slotTok d n ctx e i (bAt d n + i * dc * 24 / max rate 1) (ch.outs.drop (ch.outIdx - 1 - i))))

/-- A token of an input slot in its core's queue keeps its lane, and by how many ac others held it up, in `pr`: 16 plus the lane plus
4 for each ac. -/
def slotLane (y : Timed) : Nat := (y.pr - 16) % 4
def slotDue (y : Timed) : Nat := y.due - (y.pr - 16) / 4

/-- A token takes its place by the ac it is due in, then by lane. -/
def insertSlot (x : Timed) : List Timed → List Timed
  | [] => [x]
  | y :: r =>
    if slotDue x < slotDue y ∨ (slotDue x = slotDue y ∧ slotLane x < slotLane y) then x :: y :: r else y :: insertSlot x r

/-- One token per ac: each waits for the one before it, the first for ac `free`. -/
def oneEach : Nat → List Timed → List Timed
  | _, [] => []
  | free, y :: r =>
    let t := max (slotDue y) free
    { y with due := t, pr := 16 + slotLane y + 4 * (t - slotDue y) } :: oneEach (t + 1) r

/-- Tokens of several lanes of one row due in one ac enter in lane order, one per ac (R209). -/
def slotEnter (x : SlotTok) (d : Dev) : Dev :=
  let col := if x.side = 0 then 0 else gridCols d - 1
  match physOf d col x.row with
  | none => d
  | some key =>
    let inp := if x.side = 0 then 3 else 1
    let q := queueOf (coreOf d key) inp
    let gone := q.filter (fun y => decide (y.due ≤ d.now))
    let free := gone.foldl (fun m y => max m (y.due + 1)) 0
    let rest := insertSlot ⟨x.due, x.tok, 16 + x.lane⟩ (q.filter (fun y => decide (d.now < y.due)))
    modCore key (fun c => { c with queues := tset [] c.queues inp (gone ++ oneEach free rest) }) d

/-- Two channels of a context are mapped to the slot of a token (R210). -/
def slotShared (d : Dev) (ctx : Nat) (x : SlotTok) : Bool :=
  let cs := ((loadedOf d ctx).inputs.filter (fun e =>
    decide (bits e 53 53 = x.side ∧ bits e 52 46 = x.row ∧ bits e 45 44 = x.lane))).map (fun e => bits e 63 54)
  cs.any (fun c => decide (c ≠ cs.headD 0))

/-- A token enters its slot; what two channels send to one slot is undefined: the payload is a free value (R210, R447). -/
def slotFeed (ctx : Nat) (d : Dev) (x : SlotTok) : Dev :=
  if slotShared d ctx x then
    let (v, d) := draw d
    slotEnter { x with tok := { x.tok with payload := v } } (setUndef d)
  else slotEnter x d

/-- Channels with ticks in frame n: delivered ones and those its context uses. -/
def tickChans (d : Dev) (n : Nat) : List Nat :=
  let used := (loadedOf d (ctxOf d n)).rates.map Prod.fst
  ((List.range 16).flatMap (fun p =>
    if deliversIn d p n then (List.range 64).map (64 * p + ·) else used.filter (fun c => decide (c / 64 = p)))).filter
      (fun c => decide (tickRate d c n ≠ 0))

/-- Samples taken so far in frame n go to the input slots, once the frame's growth ring has named its context, unless no
sample enters the array (R245, R435, R440, R497). They are handed over in lane order, in which those of one ac enter (R209). -/
def feedSlots (n : Nat) (cs : List Nat) (d : Dev) : Dev :=
  if d.grid.nextT ≤ n then d
  else
    let f := frameOf d n
    let off := f.lost || f.paused || d.flt.losing || d.grid.endF.isSome
    let toks := if off then [] else cs.flatMap (fun c => owed d c n f.ctx)
    let d := cs.foldl (fun d c => modChan c (fun ch => { ch with fed := ch.outIdx }) d) d
    ((List.range 4).flatMap (fun l => toks.filter (fun x => decide (x.lane = l)))).foldl (slotFeed f.ctx) d

/-! ### Commands -/

/-- The next sample tick of frame n: offset in ac after B_n, and the channels that have a tick in that ac. -/
def nextTick (d : Dev) (n : Nat) : Option (Nat × List Nat) :=
  let due := (tickChans d n).filterMap (fun c =>
    let r := tickRate d c n
    let k := (chanOf d c).rawIdx
    if k < perFrame d r then some (c, k * 24 / r) else none)
  match due.foldl (fun m e => optMin m (some e.2)) none with
  | none => none
  | some o => some (o, (due.filter (fun e => decide (e.2 = o))).map Prod.fst)

/-- One raw sample of a delivered channel in a paused frame: it enters the fingerprint alone (Table 9.3, R264). -/
def pausedSample (c w : Nat) (d : Dev) : Dev :=
  modChan c (fun ch => { ch with rawIdx := ch.rawIdx + 1, raw := unsgn 16 (unpack (portOf d (c / 64)) w) :: ch.raw }) d

/-- All ticks of channel c of frame n in the ac at offset `o` (a wide channel has one or two); `ws` are the containers
received for it, in order. -/
def tickChan (c n o : Nat) (ws : List Nat) (d : Dev) : Dev :=
  let go := fun (d : Dev) (w : Nat) =>
    let r := tickRate d c n
    let k := (chanOf d c).rawIdx
    if r ≠ 0 ∧ k < perFrame d r ∧ k * 24 / r = o then
      if delivered d c n = false then absentSample c n d
      else if (frameOf d n).paused then pausedSample c w d
      else condSample c n w d
    else d
  [ws.getD 0 0, ws.getD 1 0].foldl go d

/-- SAMPLE_TICK: the next sample tick is released on every channel that has one (R37, R90). `samples` are containers by
channel, `margins` the release margins measured, by lane, in ac (R39). -/
def sampleTick (samples margins : List (Nat × Nat)) (d : Dev) : Dev :=
  if running d = false ∨ d.grid.nextB = 0 then d
  else
    let n := d.grid.nextB - 1
    match nextTick d n with
    | none => d
    | some (o, cs) =>
      let d := advTo (bAt d n + o) d
      let d := margins.foldl (fun d m =>
        if (m.2 : Int) < sgn 16 (dget (R.LANE_MARGIN m.1) d) then dset (R.LANE_MARGIN m.1) m.2 d else d) d
      let d := cs.foldl (fun d c =>
        tickChan c n o ((samples.filter (fun s => decide (s.1 = c))).map Prod.snd) d) d
      feedSlots n cs d

def execSampleTick (samples : List (Nat × Nat)) (margins : List (Nat × Nat)) (s : State) : Host.Outcome State Fault Refusal :=
  run (samples.all (fun x => decide (x.1 < 1024 ∧ x.2 < 65536)) && margins.all (fun m => decide (m.1 < 64 ∧ 4 ≤ m.2 ∧ m.2 ≤ 480)))
    (sampleTick samples margins) s

/-- The samples of frame n that came while the device still took it for paused enter conditioning after all (R248). -/
def takeSamples (n : Nat) (d : Dev) : Dev :=
  (List.range 1024).foldl (fun d c =>
    if delivered d c n = false then d
    else
      let us := (chanOf d c).raw.reverse
      us.foldl (fun d u => condValue c n (sgn 16 u) d) (modChan c (fun ch => { ch with rawIdx := 0, raw := [] }) d)) d

/-- What a boundary clears in a channel is cleared in the save image too, which a resume puts back (R71, R81). -/
def clearSaved (c : Nat) (f : Chan → Chan) (d : Dev) : Dev :=
  match d.ctx.save with
  | none => d
  | some s => { d with ctx := { d.ctx with save := some { s with chans := tset Chan.rest s.chans c (f (tget Chan.rest s.chans c)) } } }

/-- Sample tick 0 of frame n (R71, R80, R81, R92, R434): counts restart, and state is cleared where a rule says so. -/
def channelsAtBoundary (n : Nat) (d : Dev) : Dev :=
  let changed := fun (r : Reg) => decide (condGet d n r ≠ dget r d)
  let one := fun (d : Dev) (c : Nat) =>
    let ch := chanOf d c
    let p := condGet d n (R.CH_PROFILE c)
    let comes := decide ((portOf d (c / 64)).presentFrom = some n)
    let clr := comes || ch.clearDue || changed (R.CH_PROFILE c)
      || [R.BQ1_COEF p, R.BQ2_COEF p, R.FILTER_ENABLE p, R.FIR_TAPS p, R.FIR_DECIMATION p, R.BLR_MODE p, R.BLR_SHIFT p,
          R.BLR_GATE p, R.GROUP_DELAY_COMP p].any changed
    let ch := { ch with rawIdx := 0, outIdx := 0, fed := 0, raw := [], outs := [], clearDue := false }
    let ch := if clr then clearChain ch else ch
    let clean := fun (x : Chan) => if comes then clearCmp (clearChain x) else clearChain x
    setChan c (if comes || !delivered d c n then clearCmp ch else ch) (if clr then clearSaved c clean d else d)
  (List.range 1024).foldl one d

/-- φ_p of the ports at the growth ring of frame n, 1/256 ac; pending crossings of the frame take it; pending TDC tables
apply (R93, R96, R97). -/
def tdcAtRing (phi : List Int) (d : Dev) : Dev :=
  let d := (List.range 16).foldl (fun d p => dset (R.TDC_PHASE p) (unsgn 16 (phi.getD p 0)) d) d
  let add := fun (c : Nat) (r : Rise) => if r.pend then { r with t := r.t + phi.getD (c / 64) 0, pend := false } else r
  let d := { d with chans := d.chans.map (fun e =>
    (e.1, { e.2 with rises := e.2.rises.map (add e.1), origin := e.2.origin.map (add e.1) })) }
  let k := d.pll.calDue
  if k = 0 then d
  else dset R.TDC_CAL_STATE 1 (bumpBy R.TDC_CAL_UPDATES (k % 2 + k / 2) { d with pll := { d.pll with calDue := 0 } })

/-- TDC_CAL_TABLE: port die `die` (0 West, 1 East) has built a new bin-width table (R96). DESIGN CHOICE (log entry 124): the TDCs of
one port die share the command, and TDC_CAL_UPDATES counts one table for it. -/
def execTdcCalTable (die : Nat) (s : State) : Host.Outcome State Fault Refusal :=
  run (decide (die < 2)) (fun d => { d with pll := { d.pll with calDue := setBit d.pll.calDue die true } }) s

/-- EDGE_INPUT: an edge on EDGE_k at `t` 1/256 ac after POR_N (R98, R99). DESIGN CHOICE (log entry 125): edges before the arming
edge, and after the grid has ended, are neither timed nor counted. An edge in a paused frame enters no condition vector: a resume takes
the paused interval out of the input (R249, R294). -/
def edgeInput (k : Nat) (rising : Bool) (t : Nat) (d : Dev) : Dev :=
  let cfg := dget (R.EDGE_CONFIG k) d
  let sel := if rising then decide (cfg = 1 ∨ cfg = 3) else decide (cfg = 2 ∨ cfg = 3)
  if !sel || !running d || decide (t / 256 < d.grid.edge) then d
  else
    let e := tget EdgeIn.rest d.edges k
    let put := fun (e : EdgeIn) (d : Dev) => { d with edges := tset EdgeIn.rest d.edges k e }
    let at0 := t / 256 + 64 + dget (R.EDGE_DELAY k) d
    let near := match e.lastAt with | some u => decide (t - u < 1024) | none => false
    if near && e.close then bump (R.EDGE_MERGED k) d
    else
      let n := (t - d.grid.b0 * 256) / (fLen d * 256)
      let off : Int := (t : Int) - ((d.grid.b0 * 256 + n * (fLen d * 256) : Nat) : Int)
      let r : Rise := ⟨at0, n, off, decide (dget R.TDC_CAL_STATE d = 1), false⟩
      let o := if edgeAt e.bits (dget (R.EDGE_WINDOW k) d) (at0 - 1) then e.origin else some r
      if (frameOf d n).paused then put { e with lastAt := some t, close := near } (advTo (t / 256) d)
      else put { e with lastAt := some t, close := near, bits := (at0 :: e.bits).take 4096, rises := (r :: e.rises).take 4096, origin := o }
        (advTo (t / 256) d)

def execEdgeInput (k : Nat) (rising : Bool) (t : Nat) (s : State) : Host.Outcome State Fault Refusal :=
  run (decide (k < 32)) (edgeInput k rising t) s

/-- COND_PARITY_ERROR: `kind` 0 coefficients, 1 delay line (R434). -/
def condParityError (c kind : Nat) (d : Dev) : Dev :=
  let ch := chanOf d c
  if ch.retired then d
  else
    let d := match frameNow d with
      | some n => if delivered d c n && usesChan d (ctxOf d n) c then invalidate n d else d
      | none => d
    let ps := d.now :: ch.parityAt.filter (fun t => decide (d.now - t < acPerS))
    let third := decide (3 ≤ ps.length)
    let ch := { ch with parityAt := ps, clearDue := true, retired := third }
    let d := setChan c (if third then chanGone d.now ch else ch) d
    let d := report 0x11C1 c kind d
    if third then report 0x21C2 c 0 d else d

def execCondParityError (ch kind : Nat) (s : State) : Host.Outcome State Fault Refusal :=
  run (decide (ch < 1024 ∧ kind < 2)) (condParityError ch kind) s

end Sys2Proof.Machine
end

