-- ==== Sys2Proof/Machine/Capture.lean ====
section
/-! DEFINITION. Captures and the capture store (R298 to R312). -/

namespace Sys2Proof.Machine

/-! ### Ring time (R303) -/

/-- Ring time reached: ac of samples released since B_0, paused frames left out. -/
def ringFront (d : Dev) : Nat :=
  if d.grid.nextB = 0 then d.ctx.ringBase * fLen d
  else
    let n := d.grid.nextB - 1
    let f := frameOf d n
    if f.paused then f.ringB else f.ringB + min (fLen d) (d.now - bAt d n)

/-- Frame number of a ring frame. -/
def realFrame (d : Dev) (q : Nat) : Nat :=
  (d.ctx.pauses.foldl (fun (n : Int) p => if p.1 ≤ q then n + p.2 else n) (q : Int)).toNat

/-- Frame and offset of a ring time; before B_0 they are counted backwards, 64 bits wide. -/
def ringPlace (d : Dev) (t : Int) : Nat × Nat :=
  let q := t / (fLen d : Int)
  (if 0 ≤ q then realFrame d q.toNat else unsgn 64 q, (t - q * (fLen d : Int)).toNat)

/-! ### Pages (R298, R308) -/

/-- First page of the capture region, and pages of it on one die. -/
def capBase (d : Dev) : Nat := 32768 - dget R.CAPTURE_PAGES d
def perStoreDie (d : Dev) : Nat := dget R.CAPTURE_PAGES d / 32

def pagesUsed (d : Dev) : List Nat := d.store.caps.flatMap (fun c => c.pages)

/-- The lowest free page of a die that is not in `taken`. -/
def freePage (d : Dev) (taken : List Nat) (die : Nat) : Option Nat :=
  if bit (dget R.PSRAM_RETIRED d) die then none
  else ((List.range (perStoreDie d)).map (fun j => capBase d + die + 32 * j)).find? (fun p => !taken.contains p)

/-- Free capture pages of a half: 0 West, 1 East. -/
def freeOf (d : Dev) (half : Nat) : Nat :=
  ((List.range 16).map (fun k =>
    let die := 16 * half + k
    if bit (dget R.PSRAM_RETIRED d) die then 0
    else perStoreDie d - (pagesUsed d).countP (fun p => decide (p % 32 = die)))).foldl (· + ·) 0

/-- `n` pages of a half, from die d0 on, dies with no free page skipped; `fuel` bounds the skipping. -/
def takePages (d : Dev) (half : Nat) : Nat → Nat → Nat → List Nat → List Nat
  | 0, _, _, acc => acc
  | fuel + 1, n, cur, acc =>
    if n = 0 then acc
    else match freePage d (pagesUsed d ++ acc) (16 * half + cur % 16) with
      | some p => takePages d half fuel (n - 1) (cur + 1) (acc ++ [p])
      | none => takePages d half fuel n (cur + 1) acc

/-- FREE_PAGES and CAPTURES_HELD follow the captures. -/
def showStore (d : Dev) : Dev :=
  dset R.FREE_PAGES_WEST (freeOf d 0) (dset R.FREE_PAGES_EAST (freeOf d 1)
    (dset R.CAPTURES_HELD (d.store.caps.countP (fun c => c.slot.isSome)) d))

/-- A half whose free pages have fallen below STORE_LOW_WATER (R310). -/
def lowWater (half before : Nat) (d : Dev) : Dev :=
  let f := freeOf d half
  if f < dget R.STORE_LOW_WATER d ∧ dget R.STORE_LOW_WATER d ≤ before then reportLim acPerS half 0x0283 half f d else d

/-! ### A capture -/

/-- s_c of a channel (R303). -/
def scOf (c : CapChan) : Nat := 64 * c.rate / max c.dec 1

def scSum (cs : List CapChan) : Nat := (cs.map scOf).foldl (· + ·) 0

/-- Bytes of a part (R304). -/
def partBytes (c : Cap) (half : Nat) : Nat := 2 * c.blocks * scSum (if half = 0 then c.west else c.east)

def partPages (c : Cap) (half : Nat) : Nat := (partBytes c half + 65535) / 65536

def capParts (c : Cap) : Nat := (if partBytes c 0 = 0 then 0 else 1) + (if partBytes c 1 = 0 then 0 else 2)

def handleOf (c : Cap) : Nat := match c.slot with | some s => c.gen * 4096 + s | none => 0

/-- Put a capture in the place of the one with its trigger and group. -/
def setCap (c : Cap) (d : Dev) : Dev :=
  { d with store := { d.store with caps := d.store.caps.map (fun x => if x.trig = c.trig ∧ x.group = c.group then c else x) } }

def dropCap (c : Cap) (d : Dev) : Dev :=
  { d with store := { d.store with caps := d.store.caps.filter (fun x => decide (¬ (x.trig = c.trig ∧ x.group = c.group))) } }

/-- Its slot takes the next generation (R312). -/
def freeSlot (c : Cap) (d : Dev) : Dev :=
  match c.slot with
  | none => d
  | some s => { d with store := { d.store with gens := tset 1 d.store.gens s (c.gen % 0xFFFFF + 1) } }

/-- The samples of a channel's first `valid` blocks, in time order. -/
def capSamples (c : Cap) (ch : CapChan) : List Nat := (tget [] c.data ch.chan).take (c.valid * scOf ch)

/-- The review job of one part of a capture (R333). -/
def jobOf (d : Dev) (c : Cap) (east : Bool) : Job where
  net := c.net
  mode := c.mode
  prio := c.jprio
  east := east
  trig := c.trig
  frame := c.frame
  group := c.group
  handle := handleOf c
  sc := (if east then c.east else c.west).map scOf
  valid := c.valid
  audit := c.revAudit
  head := c.head
  queuedAt := d.now
  queuedUs := 0
  runAt := 0
  requeued := false
  misses := 0
  choices := 0
  inputRead := false
  pass := 0
  passOn := false
  outs := []
  input := []

/-- The capture record (Table 12.3) enters the capture ring, and review jobs form (R311, R333). -/
def capRecord (c : Cap) (d : Dev) : Dev :=
  let st := c.status.getD 0
  let cs := c.west ++ c.east
  let on := c.audit
  let dg := if on then auditDigest c.head 3
      (sm3 (cs.flatMap (fun ch => (capSamples c ch).flatMap (fun v => bytesOf v 2))) ++ bytesOf (c.valid * scSum cs) 8
        ++ [st] ++ List.replicate 7 0) else 0
  let h := if st = 2 then 0 else handleOf c
  let ws := [c.group * 2 ^ 56, h * 2 ^ 32 + st * 2 ^ 24 + c.reason * 2 ^ 16 + c.prio * 2 ^ 8 + capParts c, c.frame,
      c.tick * 2 ^ 32, c.winFrame, c.winOff * 2 ^ 32 + c.blocks, c.valid * 2 ^ 32 + c.chans * 2 ^ 16,
      partBytes c 0 + partBytes c 1, c.pages.length * 2 ^ 32, c.cfg] ++ digestWords dg
  let d := setCap { c with recDue := false } d
  let d := pushRec 2 { kind := 3, epoch := 0, frame := some c.frame, words := ws, link := some c.trig, audit := on } d
  let d := if st = 0 then bump R.CAPTURES_COMPLETE d else if st = 1 then bump R.CAPTURES_TRUNCATED d
    else if st = 2 then bump (R.GROUP_SHED c.group) (bump R.CAPTURES_SHED d) else d
  if st = 2 then dropCap c d
  else if st ≤ 1 ∧ c.net ≤ 15 then
    let d := if partBytes c 0 = 0 then d else queueJob (jobOf d c false) d
    if partBytes c 1 = 0 then d else queueJob (jobOf d c true) d
  else d

/-- A copy ends, or a request is shed: a shed capture keeps nothing; the record follows, but never before the trigger's
(R310, R311). -/
def endCap (c : Cap) (status reason valid : Nat) (d : Dev) : Dev :=
  let shed := decide (status = 2)
  let d := if shed then freeSlot c d else d
  let c := { c with status := some status, reason := reason, valid := valid, recDue := true
                    pages := if shed then [] else c.pages, slot := if shed then none else c.slot }
  let d := showStore (setCap c d)
  if d.trig.waiting.any (fun t => decide (t.ident = c.trig)) then d else capRecord c d

/-- The record of trigger k has entered the queue: captures of it that have ended follow (R311). -/
def capsAfterTrigger (k : Nat) (head : List Nat) (d : Dev) : Dev :=
  let mine := fun (c : Cap) => decide (c.trig = k)
  let cs := d.store.caps.map (fun (c : Cap) => if mine c then { c with head := head } else c)
  let d := { d with store := { d.store with caps := cs } }
  (cs.filter (fun (c : Cap) => mine c && c.recDue)).foldl (fun d c => capRecord c d) d

/-! ### Requests (R302, R303, R308, R309, R316, R317) -/

/-- A channel of a set as the ring holds it: existing on its port, or, while no front end has declared it, as the current
context was compiled for it. -/
def capChan (d : Dev) (c : Nat) : CapChan :=
  let p := portOf d (c / 64)
  let known := decide (c % 64 < p.chans)
  let rd := tget (0, 0) (loadedOf d (dget R.CURRENT_CONTEXT d)).rates c
  let prof := evalGet d (R.CH_PROFILE c)
  let dc := if bit (evalGet d (R.FILTER_ENABLE prof)) 2 then max (evalGet d (R.FIR_DECIMATION prof)) 1 else 1
  ⟨c, if known then p.rate else rd.1, if evalGet d (R.CH_RING_TAP c) = 1 then 1 else if known then dc else 2 ^ rd.2⟩

/-- Reclaim: the most recently triggered open copy of strictly lower priority with pages in a half (Table 12.2). -/
def victim (d : Dev) (half prio : Nat) : Option Cap :=
  (d.store.caps.filter (fun c => c.status.isNone && decide (c.prio < prio) && c.pages.any (fun p => decide (p % 32 / 16 = half)))).foldl
    (fun b c => match b with
      | none => some c
      | some x => if x.trig ≤ c.trig then some c else some x) none

/-- Valid blocks of a copy: blocks read in full on both halves. -/
def blocksDone (c : Cap) : Nat :=
  let w := if c.west = [] then c.blocks else c.doneW / c.west.length
  let e := if c.east = [] then c.blocks else c.doneE / c.east.length
  min w e

/-- Reclaim until a half has `need` free pages, or nothing can be reclaimed; `fuel` bounds the number of copies. -/
def reclaim (half need prio : Nat) : Nat → Dev → Dev
  | 0, d => d
  | fuel + 1, d =>
    if need ≤ freeOf d half then d
    else match victim d half prio with
      | none => d
      | some c => reclaim half need prio fuel (endCap c 2 3 (blocksDone c) d)

/-- The lowest free capture slot. -/
def freeCapSlot (d : Dev) : Option Nat :=
  (List.range 4096).find? (fun s => !d.store.caps.any (fun c => decide (c.slot = some s)))

/-- One capture is requested (R303, R308, R309). -/
def openCap (t : Trigger) (k : Nat) (d : Dev) : Dev :=
  let ring : Int := ((frameOf d t.frame).ringB + t.tick : Nat)
  let s := (ring - evalGet d (R.GROUP_PRE k)) / 1536
  let e := (ring + t.post + 1535) / 1536
  let set := evalGet d (R.GROUP_CHANNELS k)
  let cs := ((List.range 1024).filter (fun c => bit set c)).map (capChan d)
  let use := cs.filter (fun c => decide (scOf c ≠ 0))
  let pl := ringPlace d (s * 1536)
  let c : Cap := {
    slot := none, gen := 0, group := k, prio := evalGet d (R.GROUP_PRIORITY k), trig := t.ident, frame := t.frame
    tick := t.tick, start := s, blocks := (e - s).toNat, winFrame := pl.1, winOff := pl.2
    west := use.filter (fun c => decide (c.chan < 512)), east := use.filter (fun c => decide (512 ≤ c.chan))
    chans := cs.length, cfg := evalGet d (R.GROUP_CONFIG_FRAME k), net := evalGet d (R.GROUP_REVIEW_NET k)
    mode := evalGet d (R.GROUP_REVIEW_MODE k), jprio := evalGet d (R.PAT_PRIORITY t.primary), pages := [], doneW := 0
    doneE := 0, data := [], status := none, reason := 0, valid := 0, recDue := false
    audit := bit (frameOf d t.frame).audit 2, head := []
    revAudit := bit (frameOf d t.frame).audit 3, reading := [], revReading := false }
  let d := bump (R.GROUP_CAPTURES k) d
  let d := { d with store := { d.store with caps := d.store.caps ++ [c] } }
  let half := dget R.CAPTURE_PAGES d / 2
  if half < partPages c 0 ∨ half < partPages c 1 then endCap c 2 5 0 d
  else match freeCapSlot d with
    | none => endCap c 2 2 0 d
    | some sl =>
      let d := reclaim 1 (partPages c 1) c.prio 4096 (reclaim 0 (partPages c 0) c.prio 4096 d)
      if freeOf d 0 < partPages c 0 ∨ freeOf d 1 < partPages c 1 then endCap c 2 1 0 d
      else
        let w := takePages d 0 (16 * partPages c 0 + 16) (partPages c 0) d.store.d0 []
        let d0 := if partPages c 0 = 0 then d.store.d0 else (d.store.d0 + 1) % 16
        let es := takePages d 1 (16 * partPages c 1 + 16) (partPages c 1) d0 []
        let d1 := if partPages c 1 = 0 then d0 else (d0 + 1) % 16
        let f0 := freeOf d 0
        let f1 := freeOf d 1
        let d := { d with store := { d.store with d0 := d1 } }
        let c := { c with slot := some sl, gen := tget 1 d.store.gens sl, pages := w ++ es }
        let d := lowWater 1 f1 (lowWater 0 f0 (showStore (setCap c d)))
        if c.blocks = 0 ∨ (c.west = [] ∧ c.east = []) then endCap c 0 0 c.blocks d else d

/-- Ring time of the segment grid of a stream channel. -/
def segLen (d : Dev) (n : Nat) : Nat := max (dget (R.SEG_BLOCKS n) d) 1 * 1536

/-- A running stream channel of a group. -/
def streamOf (d : Dev) (k : Nat) : Option Nat :=
  (List.range 16).find? (fun n =>
    decide (dget (R.CHANNEL_STATE n) d = 1 ∧ dget (R.DMA_KIND n) d = 2 ∧ dget (R.STREAM_GROUP n) d = k))

def engOf (d : Dev) (n : Nat) : Eng := tget Eng.rest d.engs n
def setEng (n : Nat) (x : Eng) (d : Dev) : Dev := { d with engs := tset Eng.rest d.engs n x }

/-- A mark record (Table 12.8). -/
def markRec (m : Mark) (lost : Bool) : Rec where
  kind := 0x11
  epoch := 0
  frame := some m.frame
  words := [0, m.frame, m.tick * 2 ^ 32 + (if lost then 2 ^ 24 else 0), 0, 0, 0]
  link := some m.trig
  audit := false

/-- A trigger in a STREAMING group makes a mark (R316): at once when its segment's record has been made. -/
def markGroup (t : Trigger) (k : Nat) (d : Dev) : Dev :=
  match streamOf d k with
  | none => bump (R.GROUP_MARKS_DROPPED k) d
  | some n =>
    let g := engOf d n
    let m : Mark := ⟨t.ident, t.frame, t.tick, (frameOf d t.frame).ringB + t.tick⟩
    if g.begun ∧ m.time / segLen d n < g.seg ∧ g.lost = 0 then pushRec (16 + n) (markRec m false) d
    else setEng n { g with marks := g.marks ++ [m] } d

/-- Of two groups, the one served first (R308). -/
def groupBefore (d : Dev) (a b : Nat) : Bool :=
  decide (evalGet d (R.GROUP_PRIORITY b) < evalGet d (R.GROUP_PRIORITY a) ∨
    (evalGet d (R.GROUP_PRIORITY a) = evalGet d (R.GROUP_PRIORITY b) ∧ a < b))

def groupInsert (d : Dev) (a : Nat) : List Nat → List Nat
  | [] => [a]
  | b :: r => if groupBefore d a b then a :: b :: r else b :: groupInsert d a r

/-- Groups that take a capture or a mark (R317). -/
def groupsOn (d : Dev) (named : List Nat) : List Nat := named.filter (fun k => decide (evalGet d (R.GROUP_MODE k) ≠ 0))

/-- The requests of one trigger in the groups that its fired patterns name (R291, R308, R316, R317). -/
def requestAll (t : Trigger) (named : List Nat) (d : Dev) : Dev :=
  let order := named.foldl (fun l k => groupInsert d k l) []
  order.foldl (fun d k =>
    let m := evalGet d (R.GROUP_MODE k)
    if m = 0 then bump (R.GROUP_OFF_HITS k) d
    else if m = 1 then openCap t k d
    else markGroup t k d) d

/-! ### Copying (R305 to R307) -/

/-- The next unit of a copy on a half: block number in the window, and channel; none when the part is read. -/
def nextUnit (c : Cap) (half : Nat) : Option (Nat × CapChan) :=
  let cs := if half = 0 then c.west else c.east
  let k := if half = 0 then c.doneW else c.doneE
  if cs = [] then none
  else if k / cs.length < c.blocks then (cs[k % cs.length]?).map (fun ch => (k / cs.length, ch)) else none

/-- First raw sample number of a channel's unit in copy block `b` of the grid, and the number after its last. -/
def unitSpan (b : Int) (ch : CapChan) : Int × Int := (b * (64 * ch.rate : Nat), (b + 1) * (64 * ch.rate : Nat))

/-- Raw samples of a channel that the ring has taken. -/
def chanFront (d : Dev) (ch : CapChan) : Int :=
  let n := d.grid.nextB - 1
  if d.grid.nextB ≠ 0 ∧ delivered d ch.chan n ∧ (frameOf d n).paused = false then
    (((frameOf d n).ringB * ch.rate / 24 + (chanOf d ch.chan).rawIdx : Nat) : Int)
  else ((ringFront d * ch.rate / 24 : Nat) : Int)

/-- All samples of a unit are in the ring. -/
def unitThere (d : Dev) (b : Int) (ch : CapChan) : Bool := decide ((unitSpan b ch).2 ≤ chanFront d ch)

/-- The ring is about to overwrite, or has overwritten, a sample of a unit (R85, R87). -/
def unitGone (d : Dev) (b : Int) (ch : CapChan) : Bool :=
  decide ((unitSpan b ch).1 + (ch.rate * 12288 * max ch.dec 1 : Nat) ≤ chanFront d ch)

/-- The samples of a unit as the ring holds them. -/
def unitSamples (d : Dev) (b : Int) (ch : CapChan) : List Nat :=
  let sp := unitSpan b ch
  let k := max ch.dec 1
  (List.range (scOf ch)).map (fun i =>
    let x := sp.1 + (i * k : Nat)
    if x < 0 then 0 else tget 0 (chanOf d ch.chan).ring x.toNat)

/-- Dies and bytes that a unit's samples go to: its place in the part's byte space, over the part's pages (R304, R308). -/
def unitDies (c : Cap) (half : Nat) (u : Nat × CapChan) : List (Nat × Nat) :=
  let cs := if half = 0 then c.west else c.east
  let off := (cs.takeWhile (fun x => decide (x ≠ u.2))).foldl (fun a x => a + 2 * c.blocks * scOf x) 0 + u.1 * (2 * scOf u.2)
  let len := 2 * scOf u.2
  let ps := c.pages.filter (fun p => decide (p % 32 / 16 = half))
  let p0 := off / 65536
  let n0 := min len (65536 - off % 65536)
  [(ps.getD p0 0 % 32, n0)] ++ (if n0 < len then [(ps.getD (p0 + 1) 0 % 32, len - n0)] else [])

/-- The elastic buffers have room for a unit (R305, R306). -/
def unitRoom (d : Dev) (c : Cap) (half : Nat) (u : Nat × CapChan) : Bool :=
  (unitDies c half u).all (fun x => decide (tget 0 d.store.elastic x.1 + x.2 ≤ 65536))

/-- Of two copies, the one whose unit is taken first (R305). -/
def capBefore (a b : Cap) : Bool := decide (b.prio < a.prio ∨ (a.prio = b.prio ∧ (a.trig < b.trig ∨ (a.trig = b.trig ∧ a.group < b.group))))

def firstCap (cs : List Cap) : Option Cap :=
  cs.foldl (fun b c => match b with
    | none => some c
    | some x => if capBefore c x then some c else some x) none

/-- COPY_UNIT: the copier of a half takes the next unit of the first copy that has one ready (R305); a copy at the end of
its window is COMPLETE (R307). -/
def copyUnit (half : Nat) (d : Dev) : Dev :=
  let ready := d.store.caps.filter (fun c => c.status.isNone && (match nextUnit c half with
    | some u => unitThere d (c.start + u.1) u.2 && !unitGone d (c.start + u.1) u.2 && unitRoom d c half u
    | none => false))
  match firstCap ready with
  | none => d
  | some c =>
    match nextUnit c half with
    | none => d
    | some u =>
      let c' := { c with
        data := tset [] c.data u.2.chan (tget [] c.data u.2.chan ++ unitSamples d (c.start + u.1) u.2)
        doneW := if half = 0 then c.doneW + 1 else c.doneW, doneE := if half = 0 then c.doneE else c.doneE + 1 }
      let el := (unitDies c half u).foldl (fun t x => tset 0 t x.1 (tget 0 t x.1 + x.2)) d.store.elastic
      let mx := (unitDies c half u).foldl (fun m x => max m (tget 0 el x.1)) (dget R.ELASTIC_MAX d)
      let d := dset R.ELASTIC_MAX mx (setCap c' { d with store := { d.store with elastic := el } })
      if nextUnit c' 0 = none ∧ nextUnit c' 1 = none then endCap c' 0 0 c'.blocks d else d

def execCopyUnit (half : Nat) (s : State) : Host.Outcome State Fault Refusal := run (decide (half < 2)) (copyUnit half) s

/-- An open copy ends where it stands (R307). -/
def truncate (c : Cap) (d : Dev) : Dev :=
  let v := blocksDone c
  if v = 0 then endCap c 2 4 0 d else endCap c 1 0 v d

/-- COPY_TRUNCATE: the ring of a half is about to overwrite an unread sample of an open copy (R307). -/
def copyTruncate (half : Nat) (d : Dev) : Dev :=
  let gone := d.store.caps.filter (fun c => c.status.isNone && (match nextUnit c half with
    | some (b, _) => (if half = 0 then c.west else c.east).zipIdx.any (fun e =>
        let k := if half = 0 then c.doneW else c.doneE
        let n := (if half = 0 then c.west else c.east).length
        let j := if e.2 < k % n then b + 1 else b
        decide (j < c.blocks) && unitGone d (c.start + j) e.1)
    | none => false))
  match firstCap gone with
  | none => d
  | some c => truncate c d

def execCopyTruncate (half : Nat) (s : State) : Host.Outcome State Fault Refusal := run (decide (half < 2)) (copyTruncate half) s

/-! ### PSRAM (R301) -/

/-- PSRAM_TRANSACTION_DONE: up to 1 KiB leaves the die's elastic buffer; `refresh` says that it met the refresh. -/
def psramTransactionDone (die : Nat) (refresh : Bool) (d : Dev) : Dev :=
  let d := if tget 0 d.store.fails die = 0 then d else reactionOver d
  let d := { d with store := { d.store with
    elastic := tset 0 d.store.elastic die (tget 0 d.store.elastic die - 1024), fails := tset 0 d.store.fails die 0 } }
  if refresh then bump R.REFRESH_COLLISIONS d else d

def execPsramTransactionDone (die : Nat) (refresh : Bool) (s : State) : Host.Outcome State Fault Refusal :=
  run (decide (die < 32)) (psramTransactionDone die refresh) s

/-- A PSRAM die is retired: its free pages leave the free list (R301, R310), and captures with a page on it are DAMAGED (R301). -/
def dieGone (die : Nat) (d : Dev) : Dev :=
  let f := freeOf d (die / 16)
  let d := dset R.PSRAM_RETIRED (setBit (dget R.PSRAM_RETIRED d) die true) d
  let hit := d.store.caps.filter (fun c => c.slot.isSome && c.pages.any (fun p => decide (p % 32 = die)))
  lowWater (die / 16) f
    (showStore (hit.foldl (fun d c => if c.status.isNone then endCap c 3 0 (blocksDone c) d else setCap { c with status := some 3 } d) d))

/-- A PSRAM die is retired and reported (R301). -/
def retireDie (die : Nat) (d : Dev) : Dev := report 0x2282 die 0 (dieGone die d)

/-- PSRAM_TIMEOUT: a transaction with a page is still open after 4 us (R301). -/
def psramTimeout (page : Nat) (d : Dev) : Dev :=
  let die := page % 32
  let n := tget 0 d.store.fails die + 1
  let d := report 0x1281 die page d
  if 3 ≤ n then retireDie die (reactionOver { d with store := { d.store with fails := tset 0 d.store.fails die 0 } })
  else bump R.PSRAM_RETRIES { d with store := { d.store with fails := tset 0 d.store.fails die n } }

def execPsramTimeout (page : Nat) (s : State) : Host.Outcome State Fault Refusal :=
  run (decide (page < 32768)) (psramTimeout page) s

/-! ### Release (R312, R337) -/

/-- The capture that a handle names, while its generation is current. -/
def capOf (d : Dev) (h : Nat) : Option Cap :=
  d.store.caps.find? (fun c => c.slot.isSome && decide (handleOf c = h))

/-- Queued review jobs of a released capture end CANCELLED (R337). -/
def cancelJobs (h : Nat) (d : Dev) : Dev :=
  [0, 1].foldl (fun d c =>
    let x := clusOf d c
    let gone := x.queue.filter (fun j => decide (j.handle = h))
    gone.foldl (fun d j => endJob j 3 false d)
      (setClus c { x with queue := x.queue.filter (fun j => decide (j.handle ≠ h)) } d)) d

/-- A capture gives up its pages and its slot. -/
def release (c : Cap) (d : Dev) : Dev := cancelJobs (handleOf c) (showStore (freeSlot c (dropCap c d)))

/-- CAPTURE_RELEASE: the effect, and the abort code; an open copy's handle is in use. -/
def captureRelease (h : Nat) (d : Dev) : Dev × Nat :=
  match capOf d h with
  | none => (d, 0xA00D)
  | some c => if c.status.isNone || decide (c.reading ≠ []) || c.revReading || c.recDue then (d, 0xA00C) else (release c d, 0)

end Sys2Proof.Machine
end

