-- ==== Sys2Proof/Machine/Review.lean ====
section
/-! DEFINITION. The review clusters: dispatch, passes, paging, shedding and retirement (R329 to R346). What a pass
computes in a cluster's cores is not spelled out by the spec's page format: a job's output values are opaque functions of its network
and its input (R252, R340, R341; log entry 132). The job, its input, its pages,
its timing and its record are modelled. -/

namespace Sys2Proof.Machine

/-- Clusters start no work outside RUN or while a power entry is under way (Table 19.1, R454). -/
def clustersOn (d : Dev) : Bool := decide (dget R.POWER_STATE d = 0 ∧ dget R.POWER_TRANSITION d = 0)

/-- The queued job dispatched first (R335). -/
def firstJob : List Job → Option Job
  | [] => none
  | j :: r => match firstJob r with
    | none => some j
    | some k => if jobBefore k j then some k else some j

def netOf (d : Dev) (n : Nat) : Option Net := tget none d.ldr.nets n

/-- Input pages of a network: IN_CHANNELS × IN_BLOCKS × S_C samples of 2 bytes (R332, R337). -/
def inputPages (n : Net) : Nat := (2 * n.inChans * n.inBlocks * n.sc + 65535) / 65536

/-- The part matches the network (R335, check 2). -/
def partFits (j : Job) (n : Net) : Bool :=
  decide (j.sc.length = n.inChans) && j.sc.all (fun x => decide (x = n.sc)) && decide (n.inFirst + n.inBlocks ≤ j.valid)

/-- REVIEW_DISPATCH: a free cluster takes the first job of its queue (R335). -/
def reviewDispatch (c : Nat) (d : Dev) : Dev :=
  let x := clusOf d c
  if dget R.REVIEW_ENABLE d ≠ 1 ∨ dget R.REVIEW_SHED d = 1 ∨ dget (R.CLUSTER_STATE c) d ≠ 0 ∨ clustersOn d = false then d
  else match firstJob x.queue with
    | none => d
    | some j =>
      let d := setClus c { x with queue := x.queue.erase j } d
      if (capOf d j.handle).isNone then endJob j 3 false d
      else match netOf d j.net with
        | none => endJob j 6 false d
        | some n =>
          if partFits j n = false then endJob j 4 false d
          else
            let j := { j with queuedUs := usOf (d.now - j.queuedAt), runAt := d.now, inputRead := false, pass := 0
                              passOn := false, outs := [] }
            showReading (dset (R.CLUSTER_STATE c) 1 (setClus c { clusOf d c with job := some j } d))

def execReviewDispatch (cluster : Nat) (s : State) : Host.Outcome State Fault Refusal :=
  run (decide (cluster < 2)) (reviewDispatch cluster) s

/-- REVIEW_JOB_AGED: the job that has been queued longest reaches REVIEW_MAX_AGE (R336). -/
def reviewJobAged (c : Nat) (d : Dev) : Dev :=
  let x := clusOf d c
  match x.queue.foldl (fun b j => match b with
      | none => some j
      | some (k : Job) => if j.queuedAt < k.queuedAt then some j else some k) none with
  | none => d
  | some j =>
    endJob j 1 false (advTo (j.queuedAt + dget R.REVIEW_MAX_AGE d * acPerMs) (setClus c { x with queue := x.queue.erase j } d))

def execReviewJobAged (cluster : Nat) (s : State) : Host.Outcome State Fault Refusal :=
  run (decide (cluster < 2)) (reviewJobAged cluster) s

/-- The running job of a cluster changes. -/
def modJob (c : Nat) (f : Job → Job) (d : Dev) : Dev :=
  let x := clusOf d c
  match x.job with
  | none => d
  | some j => setClus c { x with job := some (f j) } d

/-- The samples of a part's blocks `first` to `first + blocks - 1`, channel-planar, as stored (R337). -/
def partInput (c : Cap) (east : Bool) (first blocks : Nat) : List Nat :=
  (if east then c.east else c.west).flatMap (fun ch => ((tget [] c.data ch.chan).drop (first * scOf ch)).take (blocks * scOf ch))

/-- The input that the running job of a network reads. -/
def inputOf (d : Dev) (j : Job) : List Nat :=
  match capOf d j.handle, netOf d j.net with
  | some c, some n => partInput c j.east n.inFirst n.inBlocks
  | _, _ => j.input

/-- Pages that a job's pinned input takes; none while no network says how much there is. -/
def pinnedInput (d : Dev) (j : Job) : Nat := match netOf d j.net with | some n => min 32 (inputPages n) | none => 0

/-- REVIEW_INPUT_READ_DONE: the input is in pinned pages, which have replaced the least recently used of the 128 (R338); the capture may be
released (R337). -/
def reviewInputReadDone (c : Nat) (d : Dev) : Dev :=
  let x := clusOf d c
  match x.job with
  | none => showReading d
  | some j =>
    if j.inputRead then showReading d
    else showReading (setClus c { x with cache := x.cache.take (128 - pinnedInput d j),
                                         job := some { j with inputRead := true, input := inputOf d j } } d)

def execReviewInputReadDone (cluster : Nat) (s : State) : Host.Outcome State Fault Refusal :=
  run (decide (cluster < 2)) (reviewInputReadDone cluster) s

/-! ### The pager (R338, R339) -/

/-- Activation pages of pass k. -/
def actPages (n : Net) (k : Nat) : Nat := (n.passes.getD k []).getD 4 0

/-- Unpinned pages while pass k runs: 128 less the input and the activation pages of the previous and current pass, of which the pager
pins up to 32. -/
def cacheRoom (n : Net) (k : Nat) : Nat :=
  128 - min 32 (inputPages n + actPages n k + (if k = 0 then 0 else actPages n (k - 1)))

/-- The pages pass k asks for: code, then weights. -/
def passPages (n : Net) (net k : Nat) : List Nat :=
  let p := n.passes.getD k []
  ((List.range (p.getD 1 0)).map (fun i => net * 65536 + p.getD 0 0 + i))
    ++ ((List.range (p.getD 3 0)).map (fun i => net * 65536 + p.getD 2 0 + i))

/-- One page request on a cache, most recently used first: whether it misses, and the cache after it. -/
def pageReq (room page : Nat) (cache : List Nat) : Bool × List Nat :=
  if cache.contains page then (false, page :: cache.erase page) else (true, (page :: cache).take room)

/-- The words of the pages a pass asks for: what the cluster loader writes into slot 0 of the cores (R330). -/
def passImage (n : Net) (net k : Nat) : List Nat :=
  (passPages n net k).flatMap (fun p => (n.words.drop (8192 * (p % 65536))).take 8192)

/-- REVIEW_PASS_START: the pages of the job's next pass are resident and in the cores (R330, R338). -/
def reviewPassStart (c : Nat) (d : Dev) : Dev :=
  let x := clusOf d c
  match x.job with
  | none => d
  | some j =>
    match netOf d j.net with
    | none => d
    | some n =>
      if j.inputRead = false ∨ j.passOn ∨ n.passes.length ≤ j.pass then d
      else
        let r := (passPages n j.net j.pass).foldl (fun (a : Nat × Nat × List Nat) p =>
          let q := pageReq (cacheRoom n j.pass) p a.2.2
          if q.1 then (a.1, a.2.1 + 1, q.2) else (a.1 + 1, a.2.1, q.2)) (0, 0, x.cache.take (cacheRoom n j.pass))
        let d := bumpBy R.REVIEW_PAGE_MISSES r.2.1 (bumpBy R.REVIEW_PAGE_HITS r.1 d)
        setClus c { x with cache := r.2.2, image := passImage n j.net j.pass, job := some { j with misses := j.misses + r.2.1, passOn := true } } d

def execReviewPassStart (cluster : Nat) (s : State) : Host.Outcome State Fault Refusal :=
  run (decide (cluster < 2)) (reviewPassStart cluster) s

/-- The output values of a job whose last pass is over, with `choices` saturations that counted: a function of network and input in ordered
mode and where no sum saturated before its end (R252, R340, R341), and of the job's order of arrivals else. -/
def jobOuts (n : Net) (j : Job) (choices : Nat) : List Nat :=
  (List.range n.outCount).map (fun k =>
    (if j.mode = 1 then Config.reviewOut n.passes n.words j.input k
     else if choices = 0 then Config.reviewExact n.passes n.words j.input k
     else Config.reviewFast n.passes n.words j.input j.handle j.trig k).toNat)

/-- REVIEW_PASS_END: a pass is over; `choices` additions saturated before the last of their sum, which counts in fast mode
(R340). After the last pass the job has its output values. -/
def reviewPassEnd (c choices : Nat) (d : Dev) : Dev :=
  match (clusOf d c).job with
  | none => d
  | some j =>
    match netOf d j.net with
    | none => d
    | some n =>
      if j.passOn = false then d
      else
        let k := if j.mode = 1 then 0 else choices
        let d := bumpBy R.TIMING_CHOICES k d
        modJob c (fun j => { j with
          pass := j.pass + 1, passOn := false, choices := j.choices + k
          outs := if j.pass + 1 = n.passes.length then jobOuts n j (j.choices + k) else [] }) d

def execReviewPassEnd (cluster choices : Nat) (s : State) : Host.Outcome State Fault Refusal :=
  run (decide (cluster < 2)) (reviewPassEnd cluster choices) s

/-- REVIEW_JOB_END: all passes have run: DONE. With `fault`, an uncorrectable error or a watchdog event ends the job
(R343). -/
def reviewJobEnd (c : Nat) (fault : Bool) (d : Dev) : Dev :=
  match (clusOf d c).job with
  | none => d
  | some j =>
    if fault then reviewFault c d
    else match netOf d j.net with
      | none => d
      | some n => if j.passOn = false ∧ n.passes.length ≤ j.pass then finishJob c 0 d else d

def execReviewJobEnd (cluster : Nat) (fault : Bool) (s : State) : Host.Outcome State Fault Refusal :=
  run (decide (cluster < 2)) (reviewJobEnd cluster fault) s

/-! ### Shedding, retirement, unloading (R342, R343, R345) -/

/-- A cluster abandons its running job: back to its queue at its priority and age, or CANCELLED when its capture is gone
(R342). -/
def abandonJob (c st : Nat) (d : Dev) : Dev :=
  match (clusOf d c).job with
  | none => if dget (R.CLUSTER_STATE c) d = 3 then d else dset (R.CLUSTER_STATE c) st d
  | some j =>
    let d := bump R.REVIEW_JOBS_REQUEUED (leaveClus c st d)
    let j := { j with requeued := true, inputRead := false, pass := 0, passOn := false, outs := [], input := [] }
    if (capOf d j.handle).isNone then endJob j 3 true d else queueJob j d

/-- The canopy sheds or releases the review engine (R342). -/
def shedReview (on : Bool) (d : Dev) : Dev :=
  if on then abandonJob 1 2 (abandonJob 0 2 (dset R.REVIEW_SHED 1 d))
  else [0, 1].foldl (fun d c => if dget (R.CLUSTER_STATE c) d = 2 then dset (R.CLUSTER_STATE c) 0 d else d)
    (dset R.REVIEW_SHED 0 d)

/-- A class P fault against a review core retires its cluster (R343). -/
def retireCluster (c : Nat) (d : Dev) : Dev :=
  let d := dset (R.CLUSTER_STATE c) 3 (finishJob c 7 d)
  let x := clusOf d c
  x.queue.foldl (fun d j => endJob j 7 false d) (setClus c { x with queue := [] } d)

/-- A slot's networks leave: its running jobs at once, its queued jobs, each NO_NET (R345). -/
def endNetJobs (slot : Nat) (d : Dev) : Dev :=
  [0, 1].foldl (fun d c =>
    let mine := fun (j : Job) => decide (j.net / 4 = slot)
    let d := match (clusOf d c).job with
      | some j => if mine j then finishJob c 6 d else d
      | none => d
    let x := clusOf d c
    (x.queue.filter mine).foldl (fun d j => endJob j 6 false d)
      (setClus c { x with queue := x.queue.filter (fun j => !mine j), cache := x.cache.filter (fun p => decide (p / 65536 / 4 ≠ slot)) } d)) d

/-- NET_STATE, NET_PAGES and REVIEW_PAGES_USED follow the networks. -/
def showNets (d : Dev) : Dev :=
  let ns := List.range 16
  let pg := fun n => match netOf d n with | some x => x.pages | none => 0
  let d := ns.foldl (fun d n => dset (R.NET_PAGES n) (pg n) (dset (R.NET_STATE n) (if (netOf d n).isSome then 1 else 0) d)) d
  dset R.REVIEW_PAGES_USED ((ns.map pg).foldl (· + ·) 0) d

/-- An unload removes the slot's networks from both halves (R331, R345). -/
def unloadNets (slot : Nat) (d : Dev) : Dev :=
  let d := endNetJobs slot d
  showNets { d with ldr := { d.ldr with nets := (List.range 4).foldl (fun t k => tset none t (4 * slot + k) none) d.ldr.nets } }

end Sys2Proof.Machine
end

