-- ==== Sys2Proof/Machine/Loader.lean ====
section
/-! DEFINITION. The Pocel loader: checks against the device and the other slots, the repair map, relocation, padding, and
the writing of a context into the cores (R201, R206, R216 to R233, R518). -/

namespace Sys2Proof.Machine

/-! ### The repair map (R217 to R220) -/

/-- Every logical core has its place, no physical row holds more than two shifted segments, and N-S neighbours lie at most
one column apart in one die column (R218). -/
def mapOk (d : Dev) (gone : List Nat) : Bool :=
  (List.range 128).all (fun y =>
    (List.range 8).all (fun dx => decide ((segCols d gone dx y).length = perDie d))
      && decide (((List.range 8).filter (fun dx => (segCols d gone dx y).contains 24)).length ≤ 2)
      && (decide (y = 0) || (List.range 8).all (fun dx =>
        ((segCols d gone dx (y - 1)).zip (segCols d gone dx y)).all (fun p => decide (p.1 ≤ p.2 + 1 ∧ p.2 ≤ p.1 + 1)))))

/-- The loaded slots other than `slot`. -/
def otherSlots (d : Dev) (slot : Nat) : List Nat := (List.range 4).filter (fun k => decide (k ≠ slot) && (loadedOf d k).present)

/-- The retirements of the map that a load of `slot` uses (R220). DEDUCED (log entry 128): a patch leaves its slot loaded, so its
cores count as well. -/
def loadMap (d : Dev) (slot : Nat) (patch : Bool) : List Nat :=
  let new := d.ldr.map ++ d.ldr.pend
  let g := d.fuses.windthrow ++ new
  let same := (otherSlots d (if patch then 4 else slot)).all (fun k => (loadedOf d k).cores.all (fun xy =>
    decide (physOn d g (xy / 256) (xy % 256) = physOf d (xy / 256) (xy % 256))))
  if same then new else d.ldr.map

/-! ### The layers of a context: its object, and patches over it (R231) -/

def baseObj (l : Loaded) : List Nat := l.layers.getLastD []

/-- The layer that holds logical core xy, and its record there. -/
def layerOf (ls : List (List Nat)) (xy : Nat) : Option (List Nat × CoreRec) := ls.findSome? (fun o => (recOf o xy).map (fun r => (o, r)))

/-- Program, table words and weight rows of a logical core of a context. -/
def ctxProg (l : Loaded) (xy : Nat) : List Nat := match layerOf l.layers xy with | some (o, r) => progOf o r | none => []
def ctxWords (l : Loaded) (xy : Nat) : List Nat := match layerOf l.layers xy with | some (o, r) => ownWords o r | none => []
def ctxRows (l : Loaded) (xy : Nat) : List (Nat × Bool) :=
  match recOf (baseObj l) xy with | some r => ownRows (baseObj l) r | none => []

/-! ### Checks against the device (R29, R31, R41, R101, R154, R206, R208) -/

/-- Value that DICT_INIT gives an entry, if it names it. -/
def initOf (o : List Nat) (key : Nat) : Option Nat :=
  let a := (sect o 10).1
  if hasSect o 10 then
    ((List.range (bits (ow o a) 63 32)).filterMap (fun i =>
      let w := ow o (a + 1 + 2 * i)
      if bits w 63 48 * 256 + bits w 47 40 = key then some (ow o (a + 2 + 2 * i)) else none)).getLast?
  else none

/-- An entry as it will stand once DICT_INIT has been applied. -/
def afterInit (d : Dev) (o : List Nat) (r : Reg) : Nat := (initOf o r.key).getD (dget r d)

/-- Weight rows of a core record: those the object gives, or those the patched context keeps (R231). -/
def heldRows (d : Dev) (slot : Nat) (o : List Nat) (r : CoreRec) : List (Nat × Bool) :=
  if objPatch o then ctxRows (loadedOf d slot) (recXY r) else ownRows o r

/-- Rate and decimation that the object's input map gives a channel. -/
def compiledRates (o : List Nat) : List (Nat × Nat × Nat) := (inputMap o).map (fun e => (bits e 63 54, bits e 19 14, bits e 13 12))

/-- An input-map entry that breaks R208 or R31. -/
def badInput (d : Dev) (o : List Nat) (e : Nat) : Bool :=
  let c := bits e 63 54
  let n := bits e 19 14
  let dm := bits e 13 12
  let vs := (bits e 43 42 + 1) * (bits e 41 38 + 1)
  let p := c / 64
  let prof := afterInit d o (R.CH_PROFILE c)
  let dec := if bit (afterInit d o (R.FILTER_ENABLE prof)) 2 then max (afterInit d o (R.FIR_DECIMATION prof)) 1 else 1
  let khz := if dget (R.PORT_SAMPLE_RATE p) d = 0 then 50000 * (portOf d p).rate else dget (R.PORT_SAMPLE_RATE p) d
  decide (n = 0 ∨ 32 < n ∨ c / 512 ≠ bits e 53 53 ∨ n * fLen d % (24 * 2 ^ dm) ≠ 0 ∨ n * fLen d / (24 * 2 ^ dm) % vs ≠ 0)
    || (compiledRates o).any (fun x => decide (x.1 = c ∧ x.2 ≠ (n, dm)))
    || (decide (3 ≤ dget (R.FE_STATE p) d ∧ dget (R.FE_STATE p) d ≤ 7) && decide (khz ≠ 50000 * n ∨ dec ≠ 2 ^ dm))

/-- A core record whose rows, table words or shared registers another slot holds (R101, R206). -/
def badShare (d : Dev) (o : List Nat) (slot : Nat) (r : CoreRec) : Bool :=
  let prog := progOf o r
  (otherSlots d slot).any (fun k =>
    let l := loadedOf d k
    if l.cores.contains (recXY r) = false then false
    else
      let theirs := ctxProg l (recXY r)
      let rows := (ctxRows l (recXY r)).map Prod.fst
      let words := ctxWords l (recXY r)
      (ownRows o r).any (fun x => rows.contains x.1) || (ownWords o r).any words.contains
        || prog.any (fun w => (rowsNamed w).any rows.contains || (wordsNamed w).any words.contains)
        || theirs.any (fun w => (rowsNamed w).any ((ownRows o r).map Prod.fst).contains || (wordsNamed w).any (ownWords o r).contains)
        || (sharedUse prog).any (sharedUse theirs).contains
        || (usesMain prog && usesMain theirs && !(mainOk prog && mainOk theirs)))

/-- Tokens in flight that the grade allows (R154). -/
def tokenLimit (d : Dev) : Nat := if d.fuses.grade = 20 then 163840 else 196608

/-- Bytes of the program-image region for retained sections (R226, R246), and those that other slots use. -/
def imageBytes : Nat := 124 * 1048576
def imageUsed (d : Dev) (slot : Nat) : Nat := ((otherSlots d slot).map (fun k => (loadedOf d k).retained)).foldl (· + ·) 0

/-- The lowest run of `n` free monitor numbers (R223). -/
def monRun (d : Dev) (slot n : Nat) : Option Nat :=
  let used := (otherSlots d slot).map (fun k => (dget (R.MONITOR_BASE k) d, (loadedOf d k).monCount))
  let free := fun b => used.all (fun u => decide (b + n ≤ u.1 ∨ u.1 + u.2 ≤ b ∨ u.2 = 0 ∨ n = 0))
  ((0 :: used.map (fun u => u.1 + u.2)).filter (fun b => decide (b + n ≤ 4096) && free b)).foldl (fun m b => optMin m (some b)) none

/-- The lowest run of n pages of a half's review region that no other slot's network covers (R331). -/
def netBase (d : Dev) (slot n : Nat) : Option Nat :=
  let used := d.ldr.nets.filterMap (fun p => if p.1 / 4 = slot then none else p.2.map (fun x => (x.base, x.base + x.pages)))
  ((0 :: used.map Prod.snd).filter (fun b => decide (b + n ≤ dget R.REVIEW_REGION_PAGES d / 2)
    && used.all (fun u => decide (b + n ≤ u.1 ∨ u.2 ≤ b)))).foldl (fun m b => optMin m (some b)) none

/-- Pages of the networks of an object. -/
def netPages (o : List Nat) : Nat := ((netsOf o).map (fun x => x.2.pages)).foldl (· + ·) 0

/-- First page of a loaded slot's networks. -/
def slotNetBase (d : Dev) (slot : Nat) : Nat :=
  ((d.ldr.nets.filterMap (fun p => if p.1 / 4 = slot then p.2.map Net.base else none)).foldl (fun m b => optMin m (some b)) none).getD 0

/-- First page of the REVIEW copy that an object's relocation refers to: a patch has none, and keeps its slot's. -/
def reviewBase (d : Dev) (slot : Nat) (o : List Nat) : Nat :=
  if objPatch o then slotNetBase d slot else (netBase d slot (netPages o)).getD 0

/-- The check phase (Table 8.11) of a LOAD_COMMAND of code `cmd`: errors 0x0009 to 0x0010 and the resources. A check fits beside the
retained image of its own slot too (R228). -/
def checkErr (d : Dev) (cmd : Nat) (o : List Nat) (slot : Nat) : Option LoadErr :=
  let hdr := firstErr [
    errIf (decide (objF o ≠ fLen d)) 0x0009 0,
    errIf (objPatch o && !((loadedOf d slot).present && decide (baseDigest o = dget (R.PROGRAM_DIGEST slot) d))) 0x0009 0,
    errIf (decide (dget R.VERDICT_LATENCY d < objLc o ∨ objLc o < 76 + objLr o)) 0x000A 0,
    gridErr o, fieldErr d (heldRows d slot o) o, netErr o,
    errIf (decide (4096 < objMons o)) 0x000D 0,
    firstBad 0x000D (fun e => decide (bits e 41 38 + 1 ≤ bits e 37 34 ∨ bits e 27 20 = 0)) (inputMap o),
    firstBad 0x000B (badInput d o) (inputMap o),
    firstBad 0x000E (fun r => !strandsOk (progOf o r)) (coreRecs o),
    firstBad 0x000F (badShare d o slot) (coreRecs o),
    errIf (decide (tokenLimit d < bits (ow o 3) 31 0)) 0x0010 0]
  let old := if objPatch o then loadedOf d slot else Loaded.rest
  let mem := firstErr [
    errIf (decide (imageBytes < imageUsed d slot + (if cmd = 3 then (loadedOf d slot).retained else old.retained) + retainedSize o)) 0x001A 0,
    errIf (decide (0 < netPages o) && (netBase d slot (netPages o)).isNone) 0x001A 0,
    errIf (if objPatch o then decide (old.monCount < objMons o) else (monRun d slot (objMons o)).isNone) 0x001B 0]
  firstErr [hdr, mem]

/-! ### Relocation (R222, R223, Table 8.8) -/

/-- What the loader works on: the object's words and the firebreak entries by die * 4864 + byte offset. -/
structure Work where
  o : List Nat
  fb : Tab Nat
deriving DecidableEq, Repr

/-- The firebreak bytes of ROUTES, die by die in (dx, dy) order (R211): entries with V set. -/
def objFb (o : List Nat) : Tab Nat :=
  let put := fun (t : Tab Nat) (e : Nat × Nat) =>
    let k := e.2 / 4864
    if bit e.1 7 ∧ k < 64 then tset 0 t (4864 * (8 * (k % 8) + k / 8) + e.2 % 4864) e.1 else t
  (wordBytes o (sect o 5).1 (sect o 5).2).zipIdx.foldl put []

/-- Move a firebreak entry; a place that is taken refuses (R223). -/
def moveFb (fb : Tab Nat) (src dst e i : Nat) : Except LoadErr (Tab Nat) :=
  if src = dst then .ok (tset 0 fb src e)
  else if tget 0 fb dst ≠ 0 then .error (0x0017, i)
  else .ok (tset 0 (terase fb src) dst e)

/-- One relocation entry, number i: `gone` are the retired cores of the map, `mon` the monitor base, `cs` the base of the
REVIEW copy. -/
def relocOne (d : Dev) (gone : List Nat) (slot mon cs i : Nat) (w0 w1 : Nat) (s : Work) : Except LoadErr Work :=
  let ty := bits w0 63 56
  let off := bits w0 47 0
  let k := (ow s.o (16 + 3 * bits w0 55 48)) / 2 ^ 48
  let a := ow s.o (17 + 3 * bits w0 55 48)
  let n := ow s.o (18 + 3 * bits w0 55 48)
  let bad : Except LoadErr Work := .error (0x001C, i)
  if 15 < bits w0 55 48 ∨ k = 0 ∨ retainedType k = false ∨ n ≤ off then bad
  else if 1 ≤ ty ∧ ty ≤ 3 then
    let die := 8 * (off / 4864 % 8) + off / 4864 / 8
    let b := off % 4864
    let src := die * 4864 + b
    let e := tget 0 s.fb src
    match physOn d gone (bits w1 63 56) (bits w1 55 48), physOn d [] (bits w1 63 56) (bits w1 55 48) with
    | some p, some p0 =>
      let c := (copseOf p).1
      if k ≠ 5 ∨ 64 ≤ off / 4864 ∨ e = 0 then bad
      else if ty = 1 then
        if b < 1792 ∨ 3328 ≤ b then bad
        else (moveFb s.fb src (dieOf p * 4864 + 1792 + 64 * c + b % 64) (128 + (copseOf p).2) i).map (fun f => { s with fb := f })
      else if ty = 2 then
        if b < 3328 then bad
        else (moveFb s.fb src (dieOf p * 4864 + 3328 + 64 * c + b % 64) (128 + (copseOf p).2) i).map (fun f => { s with fb := f })
      else if 1792 ≤ b then bad
      else if e % 32 = (copseOf p0).1 then .ok { s with fb := tset 0 s.fb src (128 + c) }
      else if b / 64 = (copseOf p0).1 then (moveFb s.fb src (die * 4864 + 64 * c + b % 64) e i).map (fun f => { s with fb := f })
      else bad
    | _, _ => bad
  else if off % 8 ≠ 0 then bad
  else
    let j := (a + off) / 8
    let v := ow s.o j
    if ty = 4 then (if k = 4 ∨ k = 10 then .ok { s with o := s.o.set j ((cs + w1) % 2 ^ 64) } else bad)
    else if ty = 5 then
      (if k = 10 then .ok { s with o := s.o.set j ((bits v 63 48 + slot) % 65536 * 2 ^ 48 + v % 2 ^ 48) } else bad)
    else if ty = 6 then
      (if k = 1 then .ok { s with o := s.o.set j (v - bits v 49 38 * 2 ^ 38 + (bits v 49 38 + mon) % 4096 * 2 ^ 38) } else bad)
    else bad

/-- The entries from word p on, `n` of them, in list order. -/
def relocFrom (d : Dev) (gone : List Nat) (slot mon cs p : Nat) : Nat → Nat → Work → Except LoadErr Work
  | 0, _, s => .ok s
  | n + 1, i, s =>
    match relocOne d gone slot mon cs i (ow s.o (p + 2 * i)) (ow s.o (p + 2 * i + 1)) s with
    | .error e => .error e
    | .ok s' => relocFrom d gone slot mon cs p n (i + 1) s'

def relocAll (d : Dev) (gone : List Nat) (slot mon cs : Nat) (o : List Nat) : Except LoadErr Work :=
  let r := sect o 6
  let n := bits (ow o r.1) 63 32
  if r.2 < 1 + 2 * n then .error (0x001C, 0) else relocFrom d gone slot mon cs (r.1 + 1) n 0 ⟨o, objFb o⟩

/-- The firebreak tables with a slot's entries put in (R161). -/
def mergeFb (d : Dev) (slot : Nat) (fb : Tab Nat) : Except LoadErr (Tab Nat) :=
  let base := d.fab.fb.filter (fun p => decide (fbCtx p.2 ≠ slot))
  let bad := fun (p : Nat × Nat) =>
    let die := p.1 / 4864
    let b := p.1 % 4864
    decide (tget 0 base p.1 ≠ 0) || (decide (b < 1792) &&
      ((decide (24 ≤ b / 64) && (fbNext die (b / 64)).isNone) || (decide (24 ≤ p.2 % 32) && (fbNext die (p.2 % 32)).isNone)))
  if fb.any bad then .error (0x0017, 0)
  else .ok (fb.foldl (fun t p => tset 0 t p.1 (128 + slot * 32 + p.2 % 32)) base)

/-! ### Paths and pads (R224, R225, R518) -/

/-- A token in the output register of a logical core: core, output, ac, whether the core has sent it itself, and the token's source, output
and issue as one number. -/
abbrev Use := Nat × Nat × Nat × Bool × Nat

/-- The way of a token that stands in output `dir` of logical (x, y) in ac t, on the route words `rt`: its arrival at the
destination (dx = 0xFF: north out of row 0), and the output registers it passes (R146, R147, R219). -/
def follow (d : Dev) (gone : List Nat) (rt : Nat → Nat) : Nat → Nat → Nat → Nat → Nat → Nat → Nat → List Use → Option (Nat × List Use)
  | 0, _, _, _, _, _, _, _ => none
  | fuel + 1, x, y, dir, t, dx, dy, us =>
    match neighbour d x y dir with
    | none => if dir = 0 ∧ dx = 0xFF then some (t + 1, us) else none
    | some (x', y') =>
      match physOn d gone x y, physOn d gone x' y' with
      | some a, some b =>
        let t' := t + hopAc d a b dir
        let inp := (dir + 2) % 4
        let nib := bits (rt (x' * 256 + y')) (63 - 4 * inp) (60 - 4 * inp)
        if (nib / 4 = 0 ∨ nib / 4 = 2) ∧ x' = dx ∧ y' = dy then some (t', us)
        else if nib / 4 = 1 ∨ nib / 4 = 2 then follow d gone rt fuel x' y' (nib % 4) t' dx dy (us ++ [(x' * 256 + y', nib % 4, t', false, 0)])
        else none
      | _, _ => none

/-- What the map phase has found so far: pads by output (core * 8 + output, or 2^20 + slot), smallest pad, uses. -/
structure Pads where
  pad : Tab (Option Nat)
  margin : Nat
  uses : List Use
deriving DecidableEq, Repr

/-- One path record, number i, of a context in `slot` (R159, R224, R518). `df` is the device with the merged firebreak tables and t0 at ac 56. -/
def padOne (d df : Dev) (gone : List Nat) (slot : Nat) (rt : Nat → Nat) (lim i w0 w1 : Nat) (s : Pads) : Except LoadErr Pads :=
  let sx := bits w0 63 56
  let sy := bits w0 55 48
  let dx := bits w0 47 40
  let dy := bits w0 39 32
  let out := bits w0 31 29
  let issue := if d.fuses.stepping = 0xA1 then bits w1 63 48 else bits w1 47 32
  let arr := bits w1 31 16
  let put := fun (o p : Nat) (us : List Use) =>
    match tget none s.pad o with
    | some q => if q ≠ p then (.error (0x0015, i) : Except LoadErr Pads) else .ok { s with margin := min s.margin p, uses := s.uses ++ us }
    | none => .ok { pad := tset none s.pad o (some p), margin := min s.margin p, uses := s.uses ++ us }
  if out = 5 then
    let edge := if bit sx 7 then gridCols d - 1 else 0
    if dx ≠ edge ∨ dy ≠ sy ∨ 128 ≤ sy then .error (0x0012, i)
    else if arr < issue then .error (0x0013, i)
    else if 15 < arr - issue then .error (0x0014, i)
    else put (2 ^ 20 + (sx / 128 * 512 + sy * 4 + sx % 4)) (arr - issue) []
  else match physOn d gone sx sy with
    | none => .error (0x0012, i)
    | some key =>
      if out = 4 then
        let e := fbEntry df (dieOf key) (1792 + 64 * (copseOf key).1 + fbSlot df (56 + arr))
        let ways := fbRoute df (56 + arr) 16 1 (dieOf key) (copseOf key).1 []
        let hit := ways.any (fun w =>
          let g := fbEntry df (w.2.1 / 24) (3328 + 64 * (w.2.1 % 24) + fbSlot df (w.1 - 2))
          fbValid g && decide (some (copseCore (w.2.1 / 24) (w.2.1 % 24) (fbSel g)) = physOn d gone dx dy))
        if fbValid e = false ∨ fbSel e ≠ (copseOf key).2 ∨ fbCtx e ≠ slot ∨ hit = false then .error (0x0012, i)
        else if arr < issue + 1 then .error (0x0013, i)
        else if dget R.FB_SLOT_TIMEOUT d < arr - (issue + 1) then .error (0x0018, i)
        else put ((sx * 256 + sy) * 8 + 4) 0 []
      else match follow d gone rt 512 sx sy out (issue + 1) dx dy [] with
        | none => .error (0x0012, i)
        | some (nat, us) =>
          if dx = 0xFF ∧ lim < arr then .error (0x0012, i)
          else if arr < nat then .error (0x0013, i)
          else if 15 < arr - nat then .error (0x0014, i)
          else
            let p := arr - nat
            let self := ((sx * 256 + sy) * 8 + out) * 65536 + issue
            put ((sx * 256 + sy) * 8 + out) p
              ((sx * 256 + sy, out, issue + 1 + p, true, self) :: us.map (fun u => (u.1, u.2.1, u.2.2.1 + p, false, self)))

/-- The path records of an object, from number i on, but those whose source core is in `cover`. -/
def padFrom (d df : Dev) (gone : List Nat) (slot : Nat) (rt : Nat → Nat) (o : List Nat) (lim : Nat) (cover : List Nat) :
    Nat → Nat → Pads → Except LoadErr Pads
  | 0, _, s => .ok s
  | n + 1, i, s =>
    let w0 := ow o ((sect o 7).1 + 11 + 2 * i)
    let src := if bits w0 31 29 = 5 then (if bit w0 63 then gridCols d - 1 else 0) * 256 + bits w0 55 48 else bits w0 63 48
    if cover.contains src then padFrom d df gone slot rt o lim cover n (i + 1) s
    else match padOne d df gone slot rt lim i w0 (ow o ((sect o 7).1 + 12 + 2 * i)) s with
      | .error e => .error e
      | .ok s' => padFrom d df gone slot rt o lim cover n (i + 1) s'

/-- The path records of all layers, newest first: a layer's records of cores that a newer one holds no longer count. -/
def padLayers (d df : Dev) (gone : List Nat) (slot : Nat) (rt : Nat → Nat) (lim : Nat) : List (List Nat) → List Nat → Pads → Except LoadErr Pads
  | [], _, s => .ok s
  | o :: r, cover, s =>
    match padFrom d df gone slot rt o lim cover (min (bits (ow o (sect o 7).1) 63 32) (sect o 7).2) 0 s with
    | .error e => .error e
    | .ok s' => padLayers d df gone slot rt lim r (cover ++ (coreRecs o).map recXY) s'

/-- Path records to the verdict collector in all layers, newest first (R274). -/
def verdictPaths : List (List Nat) → List Nat → Nat
  | [], _ => 0
  | o :: r, cover =>
    (List.range (min (bits (ow o (sect o 7).1) 63 32) (sect o 7).2)).countP (fun i =>
        let w := ow o ((sect o 7).1 + 11 + 2 * i)
        decide (bits w 47 40 = 0xFF) && !cover.contains (bits w 63 48))
      + verdictPaths r (cover ++ (coreRecs o).map recXY)

/-- Ride route word of a core with its pads in (Table 6.2). -/
def routeWith (pad : Tab (Option Nat)) (r : CoreRec) : Nat :=
  (List.range 5).foldl (fun w k => w + ((tget none pad (recXY r * 8 + k)).getD 0) * 2 ^ (44 - 4 * k)) r.route

/-- Where a context goes: what the map phase hands to the write phase. -/
structure Plan where
  layers : List (List Nat)
  fb : Tab Nat
  pad : Tab (Option Nat)
  margin : Nat
  uses : List Use
deriving DecidableEq, Repr

/-- Store page of page k of a half's review region, West half. -/
def netPage (k : Nat) : Nat := 2048 + 32 * (k / 16) + k % 16

/-- Relocation of all layers: their words, and the firebreak entries of the newest. -/
def relocLayers (d : Dev) (gone : List Nat) (slot mon base : Nat) : List (List Nat) → Except LoadErr (List (List Nat) × Tab Nat)
  | [] => .ok ([], [])
  | o :: r =>
    match relocAll d gone slot mon (netPage base * 65536) o, relocLayers d gone slot mon base r with
    | .ok w, .ok ws => .ok (w.o :: ws.1, w.fb)
    | .error e, _ => .error e
    | _, .error e => .error e

/-- The first core record of the layers, newest first, for which `bad` holds; a record that a newer layer replaces does not count. -/
def badRecord (code : Nat) (bad : List Nat → CoreRec → Bool) : List (List Nat) → List Nat → Option LoadErr
  | [], _ => none
  | o :: r, cover =>
    firstErr [firstBad code (fun x => !cover.contains (recXY x) && bad o x) (coreRecs o),
      badRecord code bad r (cover ++ (coreRecs o).map recXY)]

/-- Two tokens stand in one output register in one ac (Table 6.5). -/
def sameOutput (u v : Use) : Bool := decide (u.1 = v.1 ∧ u.2.1 = v.2.1)

/-- Two different tokens of one context meet in an output register, in one frame or in frames that follow each other. -/
def selfMeet (f : Nat) (us : List Use) : Bool :=
  us.any (fun u => us.any (fun v => sameOutput u v && decide (u.2.2.2.2 ≠ v.2.2.2.2 ∧ u.2.2.1 % f = v.2.2.1 % f)
    && !(u.2.2.2.1 && v.2.2.2.1)))

/-- The map phase of a context's layers, newest first, on a map (R222 to R225, R518). DEDUCED (log entry 129): tokens of one context that
meet fail it like those of two (Table 6.5). -/
def planOf (d : Dev) (gone : List Nat) (slot mon base : Nat) (ls : List (List Nat)) : Except LoadErr Plan :=
  match relocLayers d gone slot mon base ls with
  | .error e => .error e
  | .ok (ws, fb0) =>
    match mergeFb d slot fb0 with
    | .error e => .error e
    | .ok fb =>
      let df := { d with fab := { d.fab with fb := fb }, grid := { d.grid with b0 := 0 } }
      let rt := fun xy => match layerOf ws xy with | some (_, r) => r.route | none => 0
      let noSlot := fun (o : List Nat) (r : CoreRec) =>
        (progOf o r).any (fun i => decide (opOf i = 8) && bit i 47) &&
          (match physOn d gone (recX r) (recY r) with
           | some key => (List.range 64).all (fun s =>
              let e := tget 0 fb (dieOf key * 4864 + 1792 + 64 * (copseOf key).1 + s)
              !(fbValid e && decide (fbSel e = (copseOf key).2 ∧ fbCtx e = slot)))
           | none => true)
      let o := ls.headD []
      match padLayers d df gone slot rt (objF o + objLa o) ws [] ⟨[], 0xFF, []⟩ with
      | .error e => .error e
      | .ok p =>
        match firstErr [badRecord 0x0018 noSlot ws [], errIf (selfMeet (fLen d) p.uses) 0x0016 0] with
        | some e => .error e
        | none => .ok ⟨ws, fb, p.pad, p.margin, p.uses⟩

/-- Tokens of two contexts meet in one output register (R148, Table 6.5): their frames follow each other, since a switch never puts both
contexts to one frame; two of the core's own meet only where their pads differ. -/
def usesMeet (f : Nat) (a b : Plan) : Bool :=
  a.uses.any (fun u => b.uses.any (fun v => sameOutput u v && decide (u.2.2.1 % f = v.2.2.1 % f ∧ u.2.2.1 ≠ v.2.2.1)
    && (!(u.2.2.2.1 && v.2.2.2.1) || decide (tget none a.pad (u.1 * 8 + u.2.1) ≠ tget none b.pad (v.1 * 8 + v.2.1)))))

/-- The map phase of a load: map, core places, relocation, pads, shared outputs with the contexts that are in place. A context in place
meets what its own plan gives it, whatever FB_SLOT_TIMEOUT has become since its load; one that has no plan on this map refuses the load
(R165, Table 6.5). -/
def mapPhase (d : Dev) (slot mon : Nat) (o : List Nat) : Except LoadErr (List Nat × Plan) :=
  let m := loadMap d slot (objPatch o)
  let gone := d.fuses.windthrow ++ m
  let onPend := (coreRecs o).any (fun r => match physOn d gone (recX r) (recY r) with
    | some key => d.ldr.pend.contains key
    | none => true)
  if mapOk d gone = false ∨ onPend then .error (0x0011, 0)
  else match planOf d gone slot mon (reviewBase d slot o) (o :: if objPatch o then (loadedOf d slot).layers else []) with
    | .error e => .error e
    | .ok p =>
      let meets := (otherSlots d slot).any (fun k =>
        match planOf (dset R.FB_SLOT_TIMEOUT 4096 d) gone k (dget (R.MONITOR_BASE k) d) (slotNetBase d k) (loadedOf d k).layers with
        | .ok q => usesMeet (fLen d) p q
        | .error _ => true)
      if meets then .error (0x0016, 0) else .ok (m, p)

/-! ### Writing a context into the cores (R205 to R207, R227) -/

/-- Sideband tag of word i of a run. -/
def runTag (o : List Nat) (x : Run) (i : Nat) : Nat := bits (ow o (x.at' + x.count + i / 16)) (4 * (i % 16) + 3) (4 * (i % 16))

/-- Preload value of activation register or state register k: V4 value k mod 4 of its preload word. -/
def preVal (o : List Nat) (r : CoreRec) (first k : Nat) : Int := v4 (preOf o r (first + k / 4)) (k % 4)

/-- The state registers that a context reads or writes take their preload values, marked initial (R205, R247). -/
def preState (o : List Nat) (r : CoreRec) (slot : Nat) (c : Core) : Core :=
  let used := (progOf o r).flatMap (fun w => stateUse true w ++ stateUse false w)
  { c with sreg := used.foldl (fun t i => tset SReg.rest t (slot * 16 + i) ⟨preVal o r 9 i, false, 0, true⟩) c.sreg }

/-- Everything of a core record but its weights. -/
def writeCode (o : List Nat) (pad : Tab (Option Nat)) (slot : Nat) (r : CoreRec) (c : Core) : Core :=
  let prog := progOf o r
  let c := { c with
    prog := tsetRun 0 (c.prog.filter (fun p => decide (p.1 / 256 ≠ slot))) (slot * 256) prog
    route := tset 0 c.route slot (routeWith pad r)
    monitor := tset 0 c.monitor slot r.mon }
  let c := (runsOf o r).foldl (fun (c : Core) x => { c with
    table := tsetRun 0 c.table x.addr (owRun o x.at' x.count)
    sideTag := tsetRun 0 c.sideTag x.addr ((List.range x.count).map (runTag o x)) }) c
  let c := (preloads prog).foldl (fun (c : Core) k =>
    if k < 32 then { c with ar := tset PReg.rest c.ar k ⟨preVal o r 0 k, false⟩ }
    else { c with pred := tset PReg.rest c.pred (k - 64) ⟨if bit (preOf o r 8) (k - 64) then 1 else 0, false⟩ }) c
  preState o r slot c

/-- A row record at position p of the object `o` goes into a core (R207). -/
def writeRow (o : List Nat) (p : Nat) (c : Core) : Core :=
  let row := bits (ow o p) 63 57
  { c with
    weight := tsetRun 0 c.weight (row * 32) (owRun o (p + 1) 32)
    rowTag := tset 0 c.rowTag row (if bit (ow o p) 56 then 0 else bits (ow o p) 55 52)
    outRows := if bit (ow o p) 56 then (if c.outRows.contains row then c.outRows else c.outRows ++ [row]) else c.outRows.erase row }

def writeRows (o : List Nat) (r : CoreRec) (c : Core) : Core := (rowPos o r).foldl (fun c p => writeRow o p c) c

/-- Every core record of an object is written on a map; `rows` says that its weights are. -/
def writeCores (gone : List Nat) (o : List Nat) (pad : Tab (Option Nat)) (slot : Nat) (rows : Bool) (d : Dev) : Dev :=
  (coreRecs o).foldl (fun d r =>
    match physOn d gone (recX r) (recY r) with
    | none => d
    | some key => modCore key (fun c => writeCode o pad slot r (if rows then writeRows o r c else c)) d) d

/-- A slot's program, route and monitor words leave every core, and its firebreak entries the tables (R231). -/
def clearSlot (slot : Nat) (d : Dev) : Dev :=
  { d with
    cores := d.cores.map (fun p => (p.1, { p.2 with
      prog := p.2.prog.filter (fun q => decide (q.1 / 256 ≠ slot))
      route := tset 0 p.2.route slot 0, monitor := tset 0 p.2.monitor slot 0 }))
    fab := { d.fab with fb := d.fab.fb.filter (fun p => decide (fbCtx p.2 ≠ slot)) } }

/-- RETAINED_BYTES, WINDTHROW_COUNT and GROWTH_RING_SPAN follow the loader. -/
def showLoader (d : Dev) : Dev :=
  let b := ((List.range 4).map (fun k => (loadedOf d k).retained)).foldl (· + ·) 0
  dset R.RETAINED_BYTES b (dset R.WINDTHROW_COUNT (retiredSet d).length d)

/-- A slot holds nothing any more. -/
def emptySlot (slot : Nat) (d : Dev) : Dev :=
  let d := unloadNets slot (forgetMons slot (clearMons slot (clearSlot slot d)))
  let d := { d with ldr := { d.ldr with ctxs := tset Loaded.rest d.ldr.ctxs slot Loaded.rest } }
  let d := dset (R.VERDICT_EXPECTED slot) 0 (dset (R.PROGRAM_DIGEST slot) 0 d)
  let d := (dset (R.WEIGHT_DIGEST slot) 0 (dset (R.LIVE_WEIGHT_DIGEST slot) 0 d))
  showLoader (dset (R.MONITOR_BASE slot) 0xFFFF (dset (R.SLOT_STATE slot) 0 d))

/-! ### Groups of a client (R375, R377) -/

def modCtl (g : Ctl → Ctl) (d : Dev) : Dev := { d with ctl := g d.ctl }
def grpOf (d : Dev) (gid : Nat) : Grp := tget Grp.rest d.ctl.groups gid
def setGrp (gid : Nat) (g : Grp) (d : Dev) : Dev := modCtl (fun c => { c with groups := tset Grp.rest c.groups gid g }) d

/-- Groups that a client holds in STAGING. -/
def heldStaging (d : Dev) (c : Nat) : List Nat := (d.ctl.groups.filter (fun e => decide (e.2.st = 1 ∧ e.2.holder = c))).map Prod.fst

/-- A group in STAGING becomes FREE, and its staged values are lost (R377). -/
def freeGroup (gid : Nat) (d : Dev) : Dev := setGrp gid Grp.rest d

/-- A client loses the groups that it holds in STAGING other than by GROUP_DISCARD (R377). -/
def dropHolds (c : Nat) (d : Dev) : Dev :=
  (heldStaging d c).foldl (fun d g => bump R.HOLDS_DISCARDED (freeGroup g d)) d

/-! ### Load jobs (R228 to R231) -/

/-- LOAD_STATE changes; 6 and 7 signal vector 6 (R363). -/
def loadState (v : Nat) (d : Dev) : Dev :=
  let d := dset R.LOAD_STATE v d
  if v = 6 ∨ v = 7 then msi 6 d else d

/-- The job in progress is a patch (R231). DESIGN CHOICE (log entry 130): a load of which nothing has been read counts as no patch, since
nothing tells the device that it is one. -/
def jobPatches (j : LoadJob) : Bool := decide (j.cmd = 1) && objPatch j.obj

/-- The job in progress fails, and the loader's staged groups go: an empty slot after a load or unload, the slot as it was after a patch or a check. -/
def failLoad (e : LoadErr) (d : Dev) : Dev :=
  match d.ldr.job with
  | none => d
  | some j =>
    let d := dropHolds 1 { d with ldr := { d.ldr with job := none } }
    let d := dset R.LOAD_ERROR_DETAIL e.2 (dset R.LOAD_ERROR e.1 d)
    let d := if j.cmd = 3 then d
      else report 0x0381 e.1 e.2 (if jobPatches j then dset (R.SLOT_STATE j.slot) j.was d else emptySlot j.slot d)
    loadState 7 d

/-- A context has blocks in an encoder update (R192). -/
def encHolds (d : Dev) (slot : Nat) : Bool :=
  decide (1 ≤ dget R.ENC_STATE d ∧ dget R.ENC_STATE d ≤ 4) && d.enc.staged.any (fun b => decide (b.ctx = slot))

/-- A slot that neither a load nor an unload may touch (R229, R234, R242). -/
def slotBarred (d : Dev) (cmd slot : Nat) : Bool :=
  let st := dget (R.SLOT_STATE slot) d
  decide (st = 1 ∨ st = 3 ∨ st = 4) || (decide (st = 0) && decide (cmd = 2)) || encHolds d slot
    || (decide (slot = 3) && decide (dget R.FALLBACK_ENABLE d = 1))

/-- A LOAD_COMMAND of code `cmd` (R228): the effect, and the abort code. -/
def loadCommand (cmd : Nat) (d : Dev) : Dev × Nat :=
  let slot := dget R.LOAD_SLOT d
  if (1 ≤ dget R.LOAD_STATE d ∧ dget R.LOAD_STATE d ≤ 5) ∨ preparing d = true then (d, 0xA00B)
  else
    let j : LoadJob := {
      cmd := cmd, slot := slot, addr := dget R.LOAD_ADDR d, bytes := dget R.LOAD_BYTES d, obj := [], map := []
      base := 0, keys := [], keyed := false, was := dget (R.SLOT_STATE slot) d }
    let d := dset R.LOAD_ERROR 0 (dset R.LOAD_ERROR_DETAIL 0 { d with ldr := { d.ldr with job := some j } })
    if cmd ≠ 3 ∧ slotBarred d cmd slot then
      let d := { d with ldr := { d.ldr with job := none } }
      (loadState 7 (report 0x0381 0x0019 0 (dset R.LOAD_ERROR 0x0019 d)), 0)
    else
      let d := if cmd = 3 then d else dset (R.SLOT_STATE slot) 1 d
      (loadState (if cmd = 2 then 5 else 1) d, 0)

/-- LOAD_READ_TIMEOUT: a read of the object fails or exceeds 50 us (R230). -/
def loadReadTimeout (d : Dev) : Dev :=
  let st := dget R.LOAD_STATE d
  match d.ldr.job with
  | none => d
  | some j => if (st = 1 ∨ st = 5) ∧ j.cmd ≠ 2 then failLoad (0x001D, 0) d else d

def execLoadReadTimeout (s : State) : Host.Outcome State Fault Refusal := run true loadReadTimeout s

/-- A job restart, or an MP reboot, abandons what is in progress (R230, R446). -/
def abandonLoad (d : Dev) : Dev := if d.ldr.job.isSome then failLoad (0x001F, 0) d else d

/-- The verify phase (Table 8.11). -/
def verifyErr (d : Dev) (j : LoadJob) : Option LoadErr :=
  firstErr [layoutErr j.obj j.bytes, digestErr j.obj (fun t => decide (t ≠ 3 ∧ t ≠ 11)),
    errIf (decide (progDigestOf j.obj ≠ progDigest j.obj)) 0x0004 0,
    sigErr j.obj j.keys j.keyed, classErr d j.obj]

/-- Loaded state of a slot after an object has been written (R208, R226). -/
def loadedAs (j : LoadJob) (p : Plan) : Loaded where
  present := true
  layers := [j.obj]
  addr := j.addr
  bytes := j.bytes
  cores := (coreRecs j.obj).map recXY
  la := objLa j.obj
  lr := objLr j.obj
  lc := objLc j.obj
  f := objF j.obj
  inputs := inputMap j.obj
  slotPads := p.pad.foldl (fun t e => if e.1 < 2 ^ 20 then t else tset 0 t (e.1 - 2 ^ 20) (e.2.getD 0)) []
  rates := (compiledRates j.obj).foldl (fun t e => tset (0, 0) t e.1 e.2) []
  monCount := objMons j.obj
  retained := retainedSize j.obj

/-- The object's networks take their places (R331). -/
def placeNets (slot : Nat) (o : List Nat) (d : Dev) : Dev :=
  let b := (netBase d slot (netPages o)).getD 0
  let r := (netsOf o).foldl (fun (a : Nat × Tab (Option Net)) x =>
    (a.1 + x.2.pages, tset none a.2 (4 * slot + x.1) (some { x.2 with base := a.1 }))) (b, d.ldr.nets)
  showNets { d with ldr := { d.ldr with nets := r.2 } }

/-- A full load is written (R205 to R207, R223): `o` holds the weights and networks as streamed in the write phase. -/
def writeLoad (j : LoadJob) (m : List Nat) (p : Plan) (o : List Nat) (d : Dev) : Dev :=
  let slot := j.slot
  let gone := d.fuses.windthrow ++ m
  let d := emptySlot slot d
  let d := { d with ldr := { d.ldr with map := m, pend := d.ldr.pend.filter (fun k => !m.contains k) } }
  let d := writeCores gone (p.layers.headD []) p.pad slot false { d with fab := { d.fab with fb := p.fb } }
  let d := (coreRecs o).foldl (fun d r => match physOn d gone (recX r) (recY r) with
    | some key => modCore key (writeRows o r) d
    | none => d) d
  let d := { d with ldr := { d.ldr with ctxs := tset Loaded.rest d.ldr.ctxs slot (loadedAs j p) } }
  let d := dset (R.PROGRAM_DIGEST slot) (progDigest j.obj) (dset (R.WEIGHT_DIGEST slot) (weightDigest j.obj)
    (dset (R.LIVE_WEIGHT_DIGEST slot) (weightDigest j.obj) (dset (R.MONITOR_BASE slot) j.base d)))
  let d := (List.range (objMons j.obj)).foldl (fun d i => dset (R.CLIP_COUNT (j.base + i)) 0 (dset (R.CLIP_SHARE (j.base + i)) 0 d)) d
  let d := dset R.GROWTH_RING_SPAN (markerSpan d) (dset R.PAD_MARGIN p.margin d)
  showLoader (placeNets slot o (dset (R.VERDICT_EXPECTED slot) (verdictPaths p.layers []) d))

/-- A patch is written: code, tables, route and monitor words of the cores it lists; the slot keeps its weights, its input
map and its other cores (R231). -/
def writePatch (j : LoadJob) (m : List Nat) (p : Plan) (d : Dev) : Dev :=
  let slot := j.slot
  let gone := d.fuses.windthrow ++ m
  let old := loadedOf d slot
  let d := { d with ldr := { d.ldr with map := m, pend := d.ldr.pend.filter (fun k => !m.contains k) } }
  let d := writeCores gone (p.layers.headD []) p.pad slot false { d with fab := { d.fab with fb := p.fb } }
  let new := loadedAs j p
  let l := { old with layers := j.obj :: old.layers, la := new.la, lr := new.lr, lc := new.lc, slotPads := new.slotPads
                      cores := old.cores ++ new.cores.filter (fun xy => !old.cores.contains xy), retained := old.retained + new.retained }
  let d := { d with ldr := { d.ldr with ctxs := tset Loaded.rest d.ldr.ctxs slot l } }
  let d := dset (R.PROGRAM_DIGEST slot) (progDigest j.obj) (dset (R.SLOT_STATE slot) 2 d)
  let d := dset (R.VERDICT_EXPECTED slot) (verdictPaths l.layers []) d
  showLoader (dset R.GROWTH_RING_SPAN (markerSpan d) (dset R.PAD_MARGIN p.margin d))

/-! ### Remapping at a job restart (R220, R435, R437) -/

/-- Plans of loaded contexts on a map, each with those before it in the firebreak tables. -/
def replanFrom (d : Dev) (gone : List Nat) : List Nat → Option (List (Nat × Plan))
  | [] => some []
  | k :: r =>
    match planOf d gone k (dget (R.MONITOR_BASE k) d) (slotNetBase d k) (loadedOf d k).layers with
    | .error _ => none
    | .ok p => (replanFrom { d with fab := { d.fab with fb := p.fb } } gone r).map ((k, p) :: ·)

/-- Plans of every loaded context on a map, from empty firebreak tables; none when one no longer fits, or when two meet at an output. -/
def replan (d : Dev) (gone : List Nat) (ks : List Nat) : Option (List (Nat × Plan)) :=
  match replanFrom { d with fab := { d.fab with fb := [] } } gone ks with
  | none => none
  | some ps => if ps.any (fun a => ps.any (fun b => decide (a.1 < b.1) && usesMeet (fLen d) a.2 b.2)) then none else some ps

/-- The weights of a row in a core: its words, its tag, and whether it holds outliers. -/
def rowIn (c : Core) (row : Nat) : List Nat × Nat × Bool :=
  (tgetRun 0 c.weight (row * 32) 32, tget 0 c.rowTag row, c.outRows.contains row)

/-- A row takes 32 free words and a free tag (log entry 1). -/
def freeRow (key row : Nat) (d : Dev) : Dev :=
  let v := fun (k : Nat) => (Config.freeWord (d.freeCtr + k)).toNat
  modCore key (fun c => { c with weight := tsetRun 0 c.weight (row * 32) ((List.range 32).map v), rowTag := tset 0 c.rowTag row (v 32 % 16) })
    { d with freeCtr := d.freeCtr + 33 }

/-- The rows of a core come from the host copy (R227); where that copy differs from what core `a` held, they are free values, an undefined
use. -/
def hostRows (host : List Nat) (r : CoreRec) (rows : List Nat) (a b : Nat) (before d : Dev) : Dev :=
  let d := modCore b (writeRows host r) d
  if rows.all (fun x => decide (rowIn (coreOf d b) x = rowIn (coreOf before a) x)) then d
  else setUndef (rows.foldl (fun d x => freeRow b x d) d)

/-- Weight rows of the logical cores of a context move from the cores of the old map to those of the new; the rows of a
core that sat on a core that is gone come from the host copy `host` of the object (R227). -/
def moveRows (old new : List Nat) (l : Loaded) (host : List Nat) (before d : Dev) : Dev :=
  (coreRecs (baseObj l)).foldl (fun d r =>
    match physOn d old (recX r) (recY r), physOn d new (recX r) (recY r) with
    | some a, some b =>
      if a = b then d
      else if new.contains a then hostRows host r ((ownRows (baseObj l) r).map Prod.fst) a b before d
      else
        let src := coreOf before a
        modCore b (fun c => (ownRows (baseObj l) r).foldl (fun (c : Core) x => { c with
          weight := tsetRun 0 c.weight (x.1 * 32) (tgetRun 0 src.weight (x.1 * 32) 32)
          rowTag := tset 0 c.rowTag x.1 (tget 0 src.rowTag x.1)
          outRows := if x.2 then (if c.outRows.contains x.1 then c.outRows else c.outRows ++ [x.1]) else c.outRows.erase x.1 }) c) d
    | _, _ => d) d

/-- The layers of a context are written, newest first: a core is written from the newest layer that holds it, so what a patch replaced
stays replaced (R231). -/
def writeLayers (gone : List Nat) (pad : Tab (Option Nat)) (slot : Nat) : List (List Nat) → List Nat → Dev → Dev
  | [], _, d => d
  | o :: r, cover, d =>
    let d := (coreRecs o).foldl (fun d x =>
      if cover.contains (recXY x) then d
      else match physOn d gone (recX x) (recY x) with
        | none => d
        | some key => modCore key (writeCode o pad slot x) d) d
    writeLayers gone pad slot r (cover ++ (coreRecs o).map recXY) d

/-- A context is written again on the new map (phase 3). -/
def rewriteSlot (old new : List Nat) (host : List Nat) (before : Dev) (k : Nat) (p : Plan) (d : Dev) : Dev :=
  let l := loadedOf d k
  let d := { clearSlot k d with fab := { d.fab with fb := p.fb } }
  let d := writeLayers new p.pad k p.layers [] d
  let d := moveRows old new l host before d
  let pads := p.pad.foldl (fun t e => if e.1 < 2 ^ 20 then t else tset 0 t (e.1 - 2 ^ 20) (e.2.getD 0)) []
  { d with ldr := { d.ldr with ctxs := tset Loaded.rest d.ldr.ctxs k { l with slotPads := pads } } }

end Sys2Proof.Machine
end

