-- ==== Sys2Proof/Machine/Encoder.lean ====
section
/-! DEFINITION. The weight encoder (R188 to R198) and the live weight digest (R258). -/

namespace Sys2Proof.Machine

/-! ### Numbers of the update list -/

/-- A finite number as mantissa and power of two, or an infinity, or NaN. -/
inductive FloatVal where
  | fin (m : Int) (e : Int)
  | inf (neg : Bool)
  | nan
deriving DecidableEq, Repr

/-- IEEE 754 reading of a number of `eb` exponent bits and `mb` mantissa bits, bias 127: bfloat16 (8, 7), binary32 (8, 23). -/
def floatVal (mb w : Nat) : FloatVal :=
  let neg := bit w (mb + 8)
  let ex := bits w (mb + 7) mb
  let m := w % 2 ^ mb
  let sg := fun (n : Nat) => if neg then -(n : Int) else (n : Int)
  if ex = 255 then (if m = 0 then .inf neg else .nan)
  else if ex = 0 then .fin (sg m) (-126 - mb)
  else .fin (sg (2 ^ mb + m)) ((ex : Int) - 127 - mb)

/-- (m 2^e / (n 2^f k)) + z rounded to the nearest integer, ties to even; n, k positive. -/
def quantise (m : Int) (e : Int) (n : Nat) (f : Int) (k : Nat) (z : Int) : Int :=
  let x := e - f
  let num := if 0 ≤ x then m * (2 ^ x.toNat : Nat) else m
  let den := (if 0 ≤ x then n * k else n * k * 2 ^ (-x).toNat)
  rneDiv (num + z * den) den

/-- A value clamped to a range, and whether it lay outside. -/
def clampQ (lo hi x : Int) : Int × Nat := (clampI lo hi x, if x < lo ∨ hi < x then 1 else 0)

/-- Quantised value of a weight under a scale, and its clamp (R195, R196). -/
def encodeW (w : FloatVal) (s : FloatVal) (k : Nat) (z lo hi : Int) : Int × Nat :=
  match w, s with
  | .fin m e, .fin n f => if m = 0 then (z, 0) else clampQ lo hi (quantise m e n.toNat f k z)
  | .inf true, _ => (lo, 1)
  | .inf false, _ => (hi, 1)
  | _, _ => (z, 0)

/-! ### Update blocks (R194) -/

def blkX (b : List Nat) : Nat := bits (b.getD 0 0) 63 56
def blkY (b : List Nat) : Nat := bits (b.getD 0 0) 55 48
def blkCtx (b : List Nat) : Nat := bits (b.getD 0 0) 47 46
def blkKind (b : List Nat) : Nat := bits (b.getD 0 0) 45 44
def blkRow (b : List Nat) : Nat := bits (b.getD 0 0) 43 37
def blkTword (b : List Nat) : Nat := bits (b.getD 0 0) 36 28
def blkLong (b : List Nat) : Bool := bit (b.getD 0 0) 27
def blkOq (b : List Nat) : Nat := bits (b.getD 0 0) 26 25
def blkCnt (b : List Nat) : Nat := bits (b.getD 0 0) 24 20 + 1
def blkTag (b : List Nat) : Nat := bits (b.getD 0 0) 19 16

/-- Half k of word i: a binary32. -/
def half (b : List Nat) (i k : Nat) : Nat := bits (b.getD i 0) (32 * k + 31) (32 * k)
/-- Quarter k of word i: a bfloat16. -/
def quarter (b : List Nat) (i k : Nat) : Nat := bits (b.getD i 0) (16 * k + 15) (16 * k)

def blkZw (b : List Nat) (j : Nat) : Nat := bits (b.getD 1 0) (4 * j + 3) (4 * j)
def blkS2 (b : List Nat) (j : Nat) : FloatVal := floatVal 23 (half b (2 + j / 2) (j % 2))
def blkS (b : List Nat) (j : Nat) : Nat := bits (b.getD (10 + j / 8) 0) (8 * (j % 8) + 7) (8 * (j % 8))
def blkW (b : List Nat) (p j : Nat) : FloatVal := floatVal 7 (quarter b (12 + 4 * p + j / 4) (j % 4))
def blkSo (b : List Nat) (k : Nat) : FloatVal := floatVal 23 (half b 2 k)
def blkWo (b : List Nat) (p k : Nat) : FloatVal := floatVal 7 (quarter b (12 + p / 2) (2 * (p % 2) + k))

/-- Words that the block's kind uses. -/
def wordsUsed (b : List Nat) (i : Nat) : Bool :=
  if blkKind b = 0 then true
  else if blkKind b = 1 then decide (i = 0 ∨ i = 2 ∨ (12 ≤ i ∧ i < 28))
  else decide (i = 0 ∨ (12 ≤ i ∧ i < 12 + blkCnt b))

/-- Scales and weights of the block's kind. -/
def blkScales (b : List Nat) : List FloatVal :=
  if blkKind b = 0 then (List.range 16).map (blkS2 b) else if blkKind b = 1 then [blkSo b 0, blkSo b 1] else []
def blkWeights (b : List Nat) : List FloatVal :=
  if blkKind b = 0 then (List.range 512).map (fun i => blkW b (i / 16) (i % 16))
  else if blkKind b = 1 then (List.range 64).map (fun i => blkWo b (i / 2) (i % 2)) else []

def posFin (v : FloatVal) : Bool := match v with | .fin m _ => decide (0 < m) | _ => false

/-- Table words that the block replaces. -/
def blkWords (b : List Nat) : List Nat :=
  if blkKind b = 0 then codes (blkTword b) (if blkLong b then 6 else 2) else if blkKind b = 2 then codes (blkTword b) (blkCnt b) else []

/-- The lowest refusal cause of Table 7.11 that a block meets; 0 when it meets none. -/
def blkCause (d : Dev) (b : List Nat) : Nat :=
  let l := loadedOf d (blkCtx b)
  let xy := blkX b * 256 + blkY b
  let rows := ctxRows l xy
  let owned := (blkWords b).all (ctxWords l xy).contains && decide (¬ (512 < (blkWords b).getLastD 0 + 1))
    && (decide (blkKind b = 2) || rows.contains (blkRow b, decide (blkKind b = 1)))
  let entries := if blkKind b = 2 then (List.range (blkCnt b)).map (fun i => b.getD (12 + i) 0) else []
  if (blkScales b ++ blkWeights b).any (fun v => decide (v = .nan)) then 1
  else if !(blkScales b).all posFin then 2
  else if (physOf d (blkX b) (blkY b)).isNone || !l.present || !switchable d (blkCtx b) then 3
  else if blkKind b ≠ 3 ∧ (owned = false ∨ (blkKind b = 2 ∧ 18 < blkCnt b)) then 4
  else if blkKind b = 3 || decide (b.getD 0 0 % 65536 ≠ 0) || (List.range 140).any (fun i => !wordsUsed b i && decide (b.getD i 0 ≠ 0)) then 5
  else if d.enc.staged.any (fun e => decide (some e.core = physOf d (blkX b) (blkY b) ∧ e.kind = blkKind b)) then 6
  else if entries.any (fun w => decide (47 < bits w 31 26 ∨ w % 2 ^ 26 ≠ 0)) then 7
  else 0

/-- Code of position p, lane j, and its clamp. -/
def codeOf (b : List Nat) (p j : Nat) : Int × Nat :=
  if blkS b j = 0 then (blkZw b j, 0) else encodeW (blkW b p j) (blkS2 b j) (blkS b j) (blkZw b j) 0 15

/-- What a block becomes (R195 to R197): its staged form and its clamps. -/
def encodeBlk (core : Nat) (b : List Nat) : EncBlock × Nat :=
  let base : EncBlock := { core := core, kind := blkKind b, ctx := blkCtx b, row := blkRow b, tword := blkTword b, oq := blkOq b
                           words := [], record := [], tag := blkTag b }
  if blkKind b = 0 then
    let q := (List.range 32).map (fun p => (List.range 16).map (codeOf b p))
    let words := q.map (fun row => (row.zipIdx.map (fun (c, j) => c.1.toNat * 2 ^ (4 * j))).foldl (· + ·) 0)
    let sum := fun (j : Nat) => (q.map (fun row => (row.getD j (0, 0)).1.toNat)).foldl (· + ·) 0
    let sums := (List.range 4).map (fun i => ((List.range 4).map (fun k => sum (4 * i + k) * 2 ^ (16 * k))).foldl (· + ·) 0)
    let clamps := ((q.flatMap id).map Prod.snd).foldl (· + ·) 0
    ({ base with words := words, record := [b.getD 10 0, b.getD 11 0] ++ if blkLong b then sums else [] }, clamps)
  else if blkKind b = 1 then
    let q := (List.range 64).map (fun i => encodeW (blkWo b (i / 2) (i % 2)) (blkSo b (i % 2)) 1 0 (-127) 127)
    let words := (List.range 8).map (fun i => ofBytes ((List.range 8).map (fun k => unsgn 8 (q.getD (8 * i + k) (0, 0)).1)))
    ({ base with words := words }, (q.map Prod.snd).foldl (· + ·) 0)
  else ({ base with record := (List.range (blkCnt b)).map (fun i => b.getD (12 + i) 0) }, 0)

/-- A staged block lies in the overlays of its core (R188). -/
def putOverlay (e : EncBlock) (c : Core) : Core :=
  let o := fun (k a : Nat) (ws : List Nat) (c : Core) => { c with ovl := tset none c.ovl k (some ⟨e.ctx, a, ws, e.tag⟩) }
  if e.kind = 0 then o 1 e.tword e.record (o 0 e.row e.words c)
  else if e.kind = 1 then o 2 (e.row * 4 + e.oq) e.words c
  else o 3 e.tword e.record c

/-! ### The update -/

/-- ENC_STATE changes: vector 7 (R363). -/
def encState (v : Nat) (d : Dev) : Dev := if dget R.ENC_STATE d = v then d else msi 7 (dset R.ENC_STATE v d)

/-- The cores that the update names, and its slots. -/
def encCores (d : Dev) : List Nat := distinct (d.enc.staged.map (fun e => e.core))
def encSlots (d : Dev) : List Nat := (List.range 4).filter (fun k => d.enc.staged.any (fun e => decide (e.ctx = k)))

/-- The staged blocks leave the overlays of cores in which they have not taken effect. -/
def dropStaged (d : Dev) : Dev :=
  let d := (encCores d).foldl (fun d k => modCore k (fun c => { c with ovl := [], ovlFrom := none, ovlHeld := none }) d) d
  { d with enc := { d.enc with staged := [], next := 0, read := [], toCopy := [] } }

/-- A write of 1 to ENC_START (R189). -/
def encStart (d : Dev) : Dev × Nat :=
  let st := dget R.ENC_STATE d
  if (st ≠ 0 ∧ st ≠ 5) ∨ preparing d = true then (d, 0xA00B)
  else if dget R.ENC_LIST_COUNT d = 0 then (d, 0xA006)
  else (encState 1 (dset R.ENC_ERROR 0 (dropStaged d)), 0)

/-- Staging stops at a refused block (R198). -/
def encRefuse (cause : Nat) (d : Dev) : Dev :=
  let e := cause * 2 ^ 24 + d.enc.next % 2 ^ 24
  encState 5 (report 0x0341 e 0 (dset R.ENC_ERROR e (dropStaged d)))

/-- The encoder stages only while the cores are clocked and no power entry is under way (Table 19.1, R454). -/
def encoderOn (d : Dev) : Bool := decide (dget R.POWER_STATE d = 0 ∧ (dget R.POWER_TRANSITION d = 0 ∨ dget R.POWER_TRANSITION d = 3))

/-- ENC_BLOCK_STAGED: the next block of the list has been read; it is checked, quantised and laid into its core's overlays
(R188, R195 to R198). -/
def encBlockStaged (words : List Nat) (d : Dev) : Dev :=
  if dget R.ENC_STATE d ≠ 1 ∨ encoderOn d = false then d
  else
    let c := blkCause d words
    if c ≠ 0 then encRefuse c d
    else match physOf d (blkX words) (blkY words) with
      | none => encRefuse 3 d
      | some key =>
        let r := encodeBlk key words
        let d := modCore key (putOverlay r.1) (bumpBy R.ENC_CLAMPS r.2 d)
        let d := { d with enc := { d.enc with staged := d.enc.staged ++ [r.1], next := d.enc.next + 1, read := d.enc.read ++ words } }
        if d.enc.next = dget R.ENC_LIST_COUNT d then encState 2 d else d

def execEncBlockStaged (words : List Nat) (s : State) : Host.Outcome State Fault Refusal :=
  run (decide (words.length = 140) && words.all (fun w => decide (w < 2 ^ 64))) (encBlockStaged words) s

/-- ENC_READ_TIMEOUT: the list cannot be read (Table 7.11, cause 8). -/
def execEncReadTimeout (s : State) : Host.Outcome State Fault Refusal :=
  run true (fun d => if dget R.ENC_STATE d = 1 then encRefuse 8 d else d) s

/-- The live weight digest of a slot after the update (R258). -/
def liveAfter (d : Dev) (slot : Nat) : Nat :=
  sm3n (bytesOf (dget (R.LIVE_WEIGHT_DIGEST slot) d) 32 ++ sm3 (d.enc.read.flatMap (fun w => bytesOf w 8)))

/-- Counts of a slot's monitors count from frame g on; with the array not armed those of every frame that has run go (R187). -/
def countsFrom' (k g : Nat) (d : Dev) : Dev :=
  let run := running d
  let d := dropCounts k (fun n => run && decide (g ≤ n)) d
  { d with enc := { d.enc with floor := tset 0 d.enc.floor k (if run then g else 2 ^ 64) } }

/-- The update takes effect at frame g: digests, measurements, monitors (R187, R190, R258, Table 20.3). -/
def encEffect (g : Nat) (d : Dev) : Dev :=
  let d := dset R.ENC_COMMIT_FRAME g d
  let d := (encSlots d).foldl (fun d k =>
    let v := liveAfter d k
    let d := extend 3 9 (sm3 ([k] ++ bytesOf g 8 ++ bytesOf v 32)) (dset (R.LIVE_WEIGHT_DIGEST k) v d)
    clearMons k (countsFrom' k g d)) d
  encState 4 d

/-- The overlays apply from frame g on in every core that the update names; a hold of a resynchronisation that is over by then is
over (R181). -/
def encApply (g : Nat) (d : Dev) : Dev :=
  let cs := encCores d
  let d := encEffect g d
  let held := fun (h : Option Nat) => match h with | some x => if x ≤ g ∨ armed d = false then none else some x | none => none
  let d := cs.foldl (fun d k => modCore k (fun c => { c with ovlFrom := some g, ovlHeld := held c.ovlHeld }) d) d
  { d with enc := { d.enc with toCopy := cs } }

/-- Table word a of the TABLES of the newest layer that holds a core, and its sideband tag, take a value (R437). -/
def setTableWord (xy a v : Nat) (tag : Option Nat) : List (List Nat) → List (List Nat)
  | [] => []
  | o :: r =>
    match recOf o xy with
    | none => o :: setTableWord xy a v tag r
    | some q =>
      match (runsOf o q).find? (fun x => decide (x.addr ≤ a ∧ a < x.addr + x.count)) with
      | none => o :: r
      | some x =>
        let i := a - x.addr
        let o' := o.set (x.at' + i) v
        let t := x.at' + x.count + i / 16
        (match tag with
         | some g => o'.set t (ow o t - bits (ow o t) (4 * (i % 16) + 3) (4 * (i % 16)) * 2 ^ (4 * (i % 16)) + g * 2 ^ (4 * (i % 16)))
         | none => o') :: r

/-- A retired update's records and rescale entries enter the retained TABLES (R437). -/
def retainBlk (d : Dev) (e : EncBlock) : Dev :=
  match logOf d e.core with
  | none => d
  | some (x, y) =>
    let l := loadedOf d e.ctx
    let ls := e.record.zipIdx.foldl (fun ls w =>
      setTableWord (x * 256 + y) (e.tword + w.2) w.1 (if e.kind = 0 ∧ w.2 = 0 then some e.tag else none) ls) l.layers
    { d with ldr := { d.ldr with ctxs := tset Loaded.rest d.ldr.ctxs e.ctx { l with layers := ls } } }

/-- The update is over: its blocks are in the cores and in the retained TABLES. -/
def encDone (d : Dev) : Dev :=
  let d := bumpBy R.ENC_BLOCKS_APPLIED d.enc.staged.length d
  encState 0 { d with enc := { d.enc with staged := [], next := 0, read := [], toCopy := [] } }

/-- The update is retired (R191, R437). -/
def encRetired (d : Dev) : Dev := encDone (d.enc.staged.foldl retainBlk d)

/-- An update that is APPLIED is copied without waiting for a growth ring, and retired: no instance is in flight (R193). -/
def encSettle (d : Dev) : Dev :=
  if dget R.ENC_STATE d = 4 then encRetired (d.enc.toCopy.foldl (fun d k => modCore k copyOverlays d) d) else d

/-- ENC_RETIRE: every core has copied its overlays (R191); with the array not running they copy without a growth ring (R193). -/
def encRetire (d : Dev) : Dev :=
  if arrayState d ≠ 2 then encSettle d
  else if dget R.ENC_STATE d = 4 ∧ d.enc.toCopy = [] then encRetired d
  else d

def execEncRetire (s : State) : Host.Outcome State Fault Refusal := run true encRetire s

/-- A write of 1 to ENC_COMMIT (R189, R193). -/
def encCommit (d : Dev) : Dev × Nat :=
  if dget R.ENC_STATE d ≠ 2 then (d, 0xA00B)
  else if armed d then (encState 3 d, 0)
  else (encApply 0 (encState 3 d), 0)

/-- A write of 1 to ENC_ABANDON (R189). -/
def encAbandon (d : Dev) : Dev × Nat :=
  let st := dget R.ENC_STATE d
  if st = 1 ∨ st = 2 ∨ st = 5 then (encState 0 (dropStaged d), 0) else (d, 0xA00B)

/-- The growth ring of frame n finds a committed update (R190); one that a job restart has copied already is retired with
it (R437). -/
def encAtRing (n : Nat) (d : Dev) : Dev :=
  if dget R.ENC_STATE d ≠ 3 then d
  else if (encCores d).all (fun k => decide ((coreOf d k).ovl = [])) then encDone (encEffect n d)
  else encApply n d

/-- An arming ends with an update committed: it takes effect at once (R189, R193). -/
def encAtStop (d : Dev) : Dev := if dget R.ENC_STATE d = 3 then encApply 0 d else d

/-- A stop is over, if nothing keeps it any more, and a committed update takes effect with it (R193, R497). -/
def stopEnds (d : Dev) : Dev :=
  if ending d = false then d
  else
    let d := endStop d
    if armed d then d else encAtStop d

/-- A job restart abandons what is staged (R437). -/
def encAtRestart (d : Dev) : Dev :=
  let st := dget R.ENC_STATE d
  if st = 1 ∨ st = 2 then encState 0 (dropStaged d) else d

/-- Phase 3 of a job restart copies a committed or applied update; one in effect is retired (R437). -/
def encPhase3 (d : Dev) : Dev :=
  let st := dget R.ENC_STATE d
  if st ≠ 3 ∧ st ≠ 4 then d
  else
    let d := (encCores d).foldl (fun d k => modCore k copyOverlays d) d
    if st = 4 then encRetired d else { d.enc.staged.foldl retainBlk d with enc := { d.enc with toCopy := [] } }

end Sys2Proof.Machine
end

