-- ==== Sys2Proof/Machine/Engine.lean ====
section
/-! DEFINITION. The stream/DMA engine (R313 to R326): segments, transfers, start and abort of a channel. -/

namespace Sys2Proof.Machine

/-! ### Pacing (R319) -/

/-- The canopy sheds stream rates (Table 19.7, stage 2). -/
def shedsStreams (d : Dev) : Bool := decide (2 ≤ dget R.CANOPY_STAGE d)

/-- The share in force, in 1/256 of the host port. -/
def shareOf (d : Dev) (n : Nat) : Nat :=
  let s := max (dget (R.RATE_SHARE n) d) 1
  if shedsStreams d then min s (max (dget R.CANOPY_STREAM_SHARE d) 1) else s

/-- Credit at ac `t`, in 1/12 byte: 0.5 GB/s is 5/12 byte per ac; 64 KiB at most. -/
def creditAt (d : Dev) (n t : Nat) : Nat :=
  let g := engOf d n
  min (65536 * 12) (g.credit + (t - g.credAt) * (5 * g.share))

/-- A channel's credit is counted up to now, and gains at the share in force from here on. -/
def settleCredit (n : Nat) (d : Dev) : Dev :=
  setEng n { engOf d n with credit := creditAt d n d.now, credAt := d.now, share := shareOf d n } d

/-- A share may have changed. -/
def settleCredits (d : Dev) : Dev := (List.range 16).foldl (fun d n => settleCredit n d) d

/-- The counter covers a burst of `b` bytes, or the channel is unpaced. -/
def burstCovered (d : Dev) (n b : Nat) : Bool := decide (256 ≤ shareOf d n ∨ 12 * b ≤ creditAt d n d.now)

def payBurst (n b : Nat) (d : Dev) : Dev :=
  let d := settleCredit n d
  if 256 ≤ shareOf d n then d else setEng n { engOf d n with credit := (engOf d n).credit - 12 * b } d

/-- Bursts of a channel leave one by one while the credit covers them, `k` at most: how many, their bytes, and what they did (R318, R319). -/
def sendBursts (n : Nat) : Nat → Writes → Dev × Writes → Nat × Nat × (Dev × Writes)
  | 0, _, r => (0, 0, r)
  | _, [], r => (0, 0, r)
  | k + 1, w :: ws, r =>
    if burstCovered r.1 n w.2.length = false then (0, 0, r)
    else
      let x := sendBursts n k ws (hostWrite 11 w.1 w.2 (payBurst n w.2.length r.1, r.2))
      (x.1 + 1, x.2.1 + w.2.length, x.2.2)

/-- The bytes that a channel has moved. -/
def movedBytes (n b : Nat) (d : Dev) : Dev := dset (R.BYTES_MOVED n) ((dget (R.BYTES_MOVED n) d + b) % 2 ^ 64) d

/-! ### Free values and layouts (Table 12.5) -/

/-- `k` free values of 16 bits. -/
def drawMany : Nat → Dev → List Nat × Dev
  | 0, d => ([], d)
  | k + 1, d =>
    let (v, d) := draw d
    let (r, d) := drawMany k d
    (v % 65536 :: r, d)

/-- `n` free values of 64 bits. -/
def drawWords : Nat → Dev → List Nat × Dev
  | 0, d => ([], d)
  | k + 1, d =>
    let (v, d) := draw d
    let (r, d) := drawWords k d
    (v :: r, d)

def sampleBytes (xs : List Nat) : List Nat := xs.flatMap (fun v => bytesOf v 2)

/-- A channel's samples in bit planes, blocks of 64 samples. -/
def planeBytes (xs : List Nat) : List Nat :=
  (List.range ((xs.length + 63) / 64)).flatMap (fun j =>
    let blk := (xs.drop (64 * j)).take 64
    (List.range 16).flatMap (fun b =>
      bytesOf (blk.foldr (fun v w => v / 2 ^ b % 2 + 2 * w) 0) 8))

/-- Equal s_c over the set. -/
def evenSet (cs : List (List Nat)) : Bool :=
  match cs with
  | [] => true
  | c :: r => r.all (fun x => decide (x.length = c.length))

/-- The bytes of samples, channel by channel, in a layout. -/
def layoutBytes (layout : Nat) (cs : List (List Nat)) : List Nat :=
  if layout = 1 then
    (List.range (cs.headD []).length).flatMap (fun t => cs.flatMap (fun c => bytesOf (c.getD t 0) 2))
  else if layout = 2 then cs.flatMap planeBytes
  else cs.flatMap sampleBytes

/-! ### Streams (R313 to R316) -/

/-- The channel set that a stream channel sends: its group's, as in force now. -/
def streamSet (d : Dev) (n : Nat) : List CapChan :=
  let k := dget (R.STREAM_GROUP n) d
  (((List.range 1024).filter (fun c => bit (dget (R.GROUP_CHANNELS k) d) c)).map (capChan d)).filter
    (fun c => decide (scOf c ≠ 0))

/-- A running stream channel that has its first segment. -/
def streams (d : Dev) (n : Nat) : Bool :=
  decide (dget (R.CHANNEL_STATE n) d = 1 ∧ dget (R.DMA_KIND n) d = 2) && (engOf d n).begun && !(engOf d n).starting
    && decide (dget (R.GROUP_MODE (dget (R.STREAM_GROUP n) d)) d = 2)

/-- Copy blocks in a segment. -/
def segBlocks (d : Dev) (n : Nat) : Nat := max (dget (R.SEG_BLOCKS n) d) 1

/-- Every sample of copy block `b` of a stream's set is in the ring; a set without channels goes by the ring's time. -/
def blockThere (d : Dev) (n b : Nat) : Bool :=
  let cs := streamSet d n
  cs.all (fun c => unitThere d (b : Int) c) && (decide (cs ≠ []) || decide ((b + 1) * 1536 ≤ ringFront d))

/-- A sample of it is about to be overwritten, or has been. -/
def blockGone (d : Dev) (n b : Nat) : Bool := (streamSet d n).any (fun c => unitGone d (b : Int) c)

/-- Bytes of a segment in its layout. -/
def segBytes (d : Dev) (n : Nat) : Nat :=
  let b := segBlocks d n
  ((streamSet d n).map (fun c => if dget (R.STREAM_LAYOUT n) d = 2 then (b * scOf c + 63) / 64 * 128 else 2 * b * scOf c)).foldl (· + ·) 0

/-- A segment record (Table 12.8) for a segment that starts at ring time `t`. -/
def segRecAt (d : Dev) (n t blocks off bytes lost residue : Nat) (aborted : Bool) : Rec :=
  let pl := ringPlace d (t : Int)
  let flags := (if lost = 0 then 0 else 1) + (if aborted then 2 else 0)
  { kind := 0x10, epoch := 0, frame := some pl.1, link := none, audit := aborted
    words := [pl.1, pl.2 * 2 ^ 32 + blocks, off, bytes * 2 ^ 32 + dget (R.STREAM_LAYOUT n) d * 2 ^ 24 + flags * 2 ^ 16,
      lost * 2 ^ 32 + residue, 0] }

/-- The record of segment k. -/
def segRec (d : Dev) (n k blocks off bytes lost residue : Nat) (aborted : Bool) : Rec :=
  segRecAt d n (k * segLen d n) blocks off bytes lost residue aborted

/-- A segment record enters the channel's ring; while it waits or is unread its bytes stay taken. A record that is lost
frees them at once. -/
def pushSeg (n bytes : Nat) (e : Rec) (d : Dev) : Dev :=
  let q := (ringOf d (16 + n)).queue.length
  let d := pushRec (16 + n) e d
  if q < (ringOf d (16 + n)).queue.length then setEng n { engOf d n with used := (engOf d n).used ++ [⟨bytes, none⟩] } d else d

/-- The marks that follow the record of segment `k` (R316). -/
def pushMarks (n k : Nat) (d : Dev) : Dev :=
  let g := engOf d n
  let seg := fun (m : Mark) => m.time / segLen d n
  let now := g.marks.filter (fun m => decide (seg m ≤ k))
  let d := setEng n { g with marks := g.marks.filter (fun m => decide (k < seg m)) } d
  now.foldl (fun d m => pushRec (16 + n) (markRec m (decide (seg m < k))) d) d

/-- Bytes at an offset of the data buffer, wrapped at its end, which lies on a 4 KiB unit (R314, Table 12.10). -/
def bufRuns (base size off : Nat) (bs : List Nat) : Writes :=
  let k := size - off
  if bs.length ≤ k then [(base + off, bs)] else [(base + off, bs.take k), (base, bs.drop k)]

def bufSize (d : Dev) (n : Nat) : Nat := dget (R.DATA_BUF_BYTES n) d / 4096 * 4096

/-- Write runs, each in bursts, each under the window check. -/
def hostWrites (unit : Nat) (ws : Writes) (d : Dev) : Dev × Writes :=
  (ws.flatMap (fun w => bursts (w.2.length + 1) w.1 w.2)).foldl (fun r w => hostWrite unit w.1 w.2 r) (d, [])

/-- Sample t of a channel's part of segment `k`. -/
def segSample (d : Dev) (n k : Nat) (c : CapChan) (t : Nat) : Nat :=
  (unitSamples d ((k * segBlocks d n + t / scOf c : Nat) : Int) c).getD (t % scOf c) 0

/-- What block j of segment `k` adds to the segment's bytes: offsets in its layout, and bytes. A bit plane is written with the block that
fills it; interleaving a set of unequal s_c has no stated layout, and its bytes are free values (Table 12.5). -/
def blockPieces (d : Dev) (n k j : Nat) : Writes :=
  let b := segBlocks d n
  let cs := streamSet d n
  let layout := dget (R.STREAM_LAYOUT n) d
  let data := fun (c : CapChan) => unitSamples d ((k * b + j : Nat) : Int) c
  let row := 2 * scSum cs
  let at' := fun (size : CapChan → Nat) (i : Nat) => ((cs.take i).map size).foldl (· + ·) 0
  if layout = 1 then
    let bytes := if evenSet (cs.map data) then layoutBytes 1 (cs.map data)
      else (List.range row).map (fun i => (Config.freeWord (d.freeCtr + i)).toNat % 256)
    [(row * j, bytes)]
  else if layout = 2 then
    cs.zipIdx.map (fun e =>
      let s := scOf e.1
      let lo := j * s / 64
      let hi := if j + 1 = b then (b * s + 63) / 64 else (j + 1) * s / 64
      (at' (fun c => (b * scOf c + 63) / 64 * 128) e.2 + 128 * lo,
       planeBytes ((List.range (min (64 * hi) (b * s) - 64 * lo)).map (fun i => segSample d n k e.1 (64 * lo + i)))))
  else cs.zipIdx.map (fun e => (at' (fun c => 2 * b * scOf c) e.2 + 2 * scOf e.1 * j, sampleBytes (data e.1)))

/-- The bursts of block j of the segment under the cursor. -/
def blockBursts (d : Dev) (n j : Nat) : Writes :=
  let g := engOf d n
  let size := bufSize d n
  (blockPieces d n g.seg j).flatMap (fun p =>
    (bufRuns (dget (R.DATA_BUF_ADDR n) d) size ((g.head + p.1) % size) p.2).flatMap (fun w => bursts (w.2.length + 1) w.1 w.2))

/-- Blocks of the segment under the cursor whose pieces have been written. -/
def piecesSent (d : Dev) (n : Nat) : Nat :=
  ((List.range (segBlocks d n)).takeWhile (fun j =>
    decide (((List.range (j + 1)).map (fun i => (blockBursts d n i).length)).foldl (· + ·) 0 ≤ (engOf d n).sent))).length

/-- Blocks of the segment under the cursor that have been written whole: in bit planes a block whose last samples share their 64 with the
next block's has to wait for that one's piece (Table 12.7, R315). -/
def blocksSent (d : Dev) (n : Nat) : Nat :=
  let m := piecesSent d n
  if dget (R.STREAM_LAYOUT n) d = 2 ∧ m < segBlocks d n then
    (streamSet d n).foldl (fun k c => min k (m * scOf c / 64 * 64 / scOf c)) m
  else m

/-- The segment under the cursor is over, with `blocks` blocks written: its record and marks follow, and the cursor moves on (R314, R316). -/
def endSegment (n blocks residue : Nat) (aborted : Bool) (d : Dev) : Dev :=
  let g := engOf d n
  let total := segBytes d n
  let d := setEng n { g with head := (g.head + total) % max (bufSize d n) 1, lost := 0, seg := g.seg + 1, sent := 0, sentBytes := 0 } d
  let d := pushSeg n total (segRec d n g.seg blocks g.head g.sentBytes g.lost residue aborted) d
  pushMarks n g.seg d

/-- The segment under the cursor may be begun, or is: the channel streams, requests leave the port, and the buffer has room (R314). -/
def segRoom (d : Dev) (n : Nat) : Bool :=
  let g := engOf d n
  let taken := (g.used.map (fun s => s.bytes)).foldl (· + ·) 0
  streams d n && hostOpen d && decide (bufSize d n ≠ 0) && (decide (g.sent ≠ 0) || decide (taken + segBytes d n ≤ bufSize d n))

/-- STREAM_SEGMENT: up to `lim` bursts of the segment under the cursor are written, block by block as its samples come; with the last one
its record follows (R313, R314, R319). A segment of which a block has been overwritten ends with the blocks before it (R315). -/
def streamSegment (n lim : Nat) (d : Dev) : Dev × Writes :=
  let g := engOf d n
  let b := segBlocks d n
  let there := ((List.range b).takeWhile (fun j => blockThere d n (g.seg * b + j))).length
  let ws := (List.range there).map (blockBursts d n)
  let rest := ws.flatten.drop g.sent
  let k := blocksSent d n
  let m := piecesSent d n
  if segRoom d n = false ∨ (preparing d = true ∧ g.sent = 0) then (d, [])
  else if m < there ∧ blockGone d n (g.seg * b + k) then (if g.sent = 0 then (d, []) else (endSegment n k 0 false d, []))
  else
    let x := sendBursts n lim rest (d, [])
    let (d, out) := x.2.2
    let d := setEng n { engOf d n with sent := g.sent + x.1, sentBytes := g.sentBytes + x.2.1 } (movedBytes n x.2.1 d)
    let d := if dget (R.STREAM_LAYOUT n) d = 1 ∧ x.1 ≠ 0 then { d with freeCtr := d.freeCtr + 2 * scSum (streamSet d n) } else d
    if there = b ∧ x.1 = rest.length then (endSegment n b 0 false d, out) else (d, out)

def execStreamSegment (seg : SegWrite) (s : State) : Host.Outcome State Fault Refusal :=
  runMem (decide (seg.ch < 16)) (streamSegment seg.ch seg.bursts) s

/-- Segments dropped from a stream (R315). -/
def dropSegments (n k : Nat) (d : Dev) : Dev :=
  let g := engOf d n
  bumpBy (R.LOST_SEGMENTS n) k (setEng n { g with seg := g.seg + k, lost := g.lost + k } d)

/-- STREAM_OVERRUN: the cursor moves to the first segment that starts at least 140,400 ac behind the write front (R315); a segment that has
begun to be written is not dropped. -/
def streamOverrun (n : Nat) (d : Dev) : Dev :=
  let g := engOf d n
  if streams d n = false ∨ g.sent ≠ 0 then d
  else if blockGone d n (g.seg * segBlocks d n) then
    dropSegments n (max (g.seg + 1) ((ringFront d - 140400) / segLen d n) - g.seg) d
  else d

def execStreamOverrun (ch : Nat) (s : State) : Host.Outcome State Fault Refusal :=
  run (decide (ch < 16)) (streamOverrun ch) s

/-- At the growth ring of frame f, a started stream begins with the first segment that starts at or after it (R313);
segments skipped since an abort, on the grid of the new run, are lost (R324). -/
def streamsAtRing (f : Nat) (d : Dev) : Dev :=
  (List.range 16).foldl (fun d n =>
    let g := engOf d n
    if g.starting && decide (dget (R.CHANNEL_STATE n) d = 1 ∧ dget (R.DMA_KIND n) d = 2) then
      let len := segLen d n
      let k := ((frameOf d f).ringB + 56 + len - 1) / len
      let k0 := (g.stoodAt + len - 1) / len
      let d := setEng n { g with starting := false, live := true, begun := true, seg := if g.begun then min k0 k else k } d
      if g.begun then dropSegments n (k - k0) d else d
    else d) d

/-- At an arming edge the ring begins anew: open copies end where they stand, and streams begin again. While a pause holds, the ring, the
copies and the streams stand where the pause left them (R247, R249). -/
def storeAtArm (d : Dev) : Dev :=
  if dget R.PAUSE_STATE d ≠ 0 then d
  else
  let d := (d.store.caps.filter (fun c => c.status.isNone)).foldl (fun d c => truncate c d) d
  (List.range 16).foldl (fun d n => setEng n { engOf d n with
    begun := false, live := false, seg := 0, sent := 0, sentBytes := 0, starting := decide (dget (R.CHANNEL_STATE n) d = 1 ∧ dget (R.DMA_KIND n) d = 2) } d) d

/-! ### Transfers (R320 to R323) -/

/-- Fields of a descriptor (Table 12.6). -/
def descOp (w : List Nat) : Nat := bits (w.headD 0) 63 56
def descLayout (w : List Nat) : Nat := bits (w.headD 0) 55 48
def descHandle (w : List Nat) : Nat := bits (w.headD 0) 31 0
def descOffset (w : List Nat) : Nat := w.getD 1 0
def descLength (w : List Nat) : Nat := w.getD 2 0
def descDst (w : List Nat) : Nat := w.getD 3 0

/-- Bytes of a capture in a layout. -/
def layoutSize (layout : Nat) (c : Cap) : Nat :=
  if layout = 2 then ((c.west ++ c.east).map (fun ch => (c.blocks * scOf ch + 63) / 64 * 128)).foldl (· + ·) 0
  else partBytes c 0 + partBytes c 1

/-- The checks of Table 12.7 that a descriptor meets before any byte is written. -/
def descCheck (d : Dev) (w : List Nat) : Nat :=
  let op := descOp w
  if ¬ (1 ≤ op ∧ op ≤ 3) ∨ bits (w.headD 0) 46 32 ≠ 0 ∨ w.getD 5 0 ≠ 0 ∨ w.getD 6 0 ≠ 0 ∨ w.getD 7 0 ≠ 0 then 2
  else match capOf d (descHandle w) with
    | none => 3
    | some c =>
      let cs := c.west ++ c.east
      let lay := descLayout w
      let odd := decide (2 < lay) || (decide (lay = 1) && cs.any (fun x => decide (scOf x ≠ scOf (cs.headD x))))
      if c.status.isNone ∨ c.recDue then 3
      else if op = 3 then 0
      else if odd = false ∧ (descLength w = 0 ∨ layoutSize lay c < descOffset w + descLength w) then 4
      else if odd then 5
      else if inWindow d (descDst w) (descLength w) = false then 6
      else if c.status = some 3 then 8
      else 0

/-- The samples of a held capture, channel by channel; blocks that were not copied hold free values (R307, R321). -/
def capData (c : Cap) (d : Dev) : List (List Nat) × Dev :=
  (c.west ++ c.east).foldl (fun r ch =>
    let (free, d) := drawMany ((c.blocks - c.valid) * scOf ch) r.2
    (r.1 ++ [capSamples c ch ++ free], d)) ([], d)

/-- A transfer channel that may take a descriptor. -/
def transfers (d : Dev) (n : Nat) : Bool :=
  decide (dget (R.CHANNEL_STATE n) d = 1 ∧ dget (R.DMA_KIND n) d = 1 ∧ dget (R.DESC_CONSUMER n) d ≠ dget (R.DESC_PRODUCER n) d)

/-- The bursts of a list that end within `room` bytes. -/
def within : Nat → Writes → Writes
  | _, [] => []
  | room, w :: ws => if w.2.length ≤ room then w :: within (room - w.2.length) ws else []

/-- A descriptor has been read, or given up, after a read that failed: the retries are over (R442, R444). -/
def fetchOver (n : Nat) (d : Dev) : Dev := if (engOf d n).tries = 0 then d else reactionOver d

/-- The copy of a descriptor goes on, in whole bursts as far as its credit covers them, to at most `moved` bytes in all (R318, R319, R321);
a descriptor fetched now is checked first, and a capture that a PSRAM failure has damaged meanwhile is copied no further (R322). -/
def descCopy (n : Nat) (w : List Nat) (moved : Nat) (d : Dev) : Dev × Writes :=
  let fresh := (engOf d n).cur.isNone
  let st := if fresh then descCheck d w else ((engOf d n).cur.map (fun x => x.status)).getD 0
  let from0 := ((engOf d n).cur.map (fun x => x.moved)).getD 0
  if transfers d n = false ∨ hostOpen d = false ∨ (fresh = true ∧ preparing d = true) ∨ (fresh = false ∧ (engOf d n).cur.map (fun x => x.words) ≠ some w) then (d, [])
  else if st ≠ 0 then (setEng n { engOf d n with cur := some ⟨w, st, 0⟩, tries := 0 } (fetchOver n d), [])
  else match capOf d (descHandle w) with
    | none => (d, [])
    | some c =>
      if fresh = false ∧ c.status = some 3 then (d, [])
      else
        let (data, d) := capData c (fetchOver n d)
        let bs := ((layoutBytes (descLayout w) data).drop (descOffset w + from0)).take (descLength w - from0)
        let ws := within (moved - from0) (bursts (bs.length + 1) (descDst w + from0) bs)
        let d := setCap { c with reading := if c.reading.contains n then c.reading else n :: c.reading } d
        let x := sendBursts n ws.length ws (d, [])
        let d := movedBytes n x.2.1 x.2.2.1
        (setEng n { engOf d n with cur := some ⟨w, 0, from0 + x.2.1⟩, tries := 0 } d, x.2.2.2)

/-- DESC_COPY: the descriptor at DESC_CONSUMER has operation 1, or none of 1 to 3. -/
def execDescCopy (ch : Nat) (desc : List Nat) (moved : Nat) (s : State) : Host.Outcome State Fault Refusal :=
  runMem (decide (ch < 16 ∧ desc.length = 8 ∧ moved < 2 ^ 64) && desc.all (fun w => decide (w < 2 ^ 64)))
    (fun d => if descOp desc = 2 ∨ descOp desc = 3 then (d, []) else descCopy ch desc moved d) s

/-- DESC_COPY_RELEASE: operation 2. -/
def execDescCopyRelease (ch : Nat) (desc : List Nat) (moved : Nat) (s : State) : Host.Outcome State Fault Refusal :=
  runMem (decide (ch < 16 ∧ desc.length = 8 ∧ moved < 2 ^ 64) && desc.all (fun w => decide (w < 2 ^ 64)))
    (fun d => if descOp desc = 2 then descCopy ch desc moved d else (d, [])) s

/-- DESC_RELEASE: operation 3 (R312); a capture that something reads is not released. -/
def descRelease (n : Nat) (w : List Nat) (d : Dev) : Dev :=
  if transfers d n = false ∨ hostOpen d = false ∨ (engOf d n).cur.isSome ∨ preparing d = true ∨ descOp w ≠ 3 then d
  else
    let c := descCheck d w
    let r := captureRelease (descHandle w) d
    let st := if c ≠ 0 then c else if r.2 ≠ 0 then 3 else 0
    let d := if c = 0 then r.1 else d
    setEng n { engOf d n with cur := some ⟨w, st, 0⟩, tries := 0 } (fetchOver n d)

def execDescRelease (ch : Nat) (desc : List Nat) (s : State) : Host.Outcome State Fault Refusal :=
  run (decide (ch < 16 ∧ desc.length = 8) && desc.all (fun w => decide (w < 2 ^ 64))) (descRelease ch desc) s

/-- The status record of a descriptor (Table 12.8); it names no frame (R359). -/
def statusRec (d : Dev) (n : Nat) (cookie status done residue handle : Nat) (irq : Bool) : Rec where
  kind := 0x12
  epoch := 0
  frame := none
  words := [cookie, dget (R.DESC_CONSUMER n) d * 2 ^ 32 + status * 2 ^ 24, done, residue, handle, 0]
  link := none
  audit := irq

/-- DESC_CONSUMER moves past a descriptor (R323). -/
def descPast (n : Nat) (d : Dev) : Dev :=
  let e := max (dget (R.DESC_RING_ENTRIES n) d) 1
  let d := setEng n { engOf d n with cur := none, tries := 0 } d
  dset (R.DESC_CONSUMER n) ((dget (R.DESC_CONSUMER n) d + 1) % e) d

/-- The capture of a descriptor is read by channel n no longer. -/
def stopReading (n : Nat) (w : List Nat) (d : Dev) : Dev :=
  match capOf d (descHandle w) with
  | none => d
  | some c => setCap { c with reading := c.reading.erase n } d

/-- TRANSFER_DONE: the descriptor in work has ended; its status record is written (R323). A capture damaged meanwhile
gives STORE. -/
def transferDone (n : Nat) (d : Dev) : Dev :=
  match (engOf d n).cur with
  | none => d
  | some x =>
    let w := x.words
    let bad := decide (descOp w ≠ 3) && ((capOf d (descHandle w)).map (fun c => decide (c.status = some 3))).getD false
    let st := if x.status = 0 ∧ x.moved < descLength w ∧ bad then 8 else x.status
    if st = 0 ∧ descOp w ≠ 3 ∧ x.moved < descLength w then d
    else
      let d := if descOp w ≠ 3 ∧ x.status = 0 then stopReading n w d else d
      let d := if descOp w = 2 ∧ st = 0 then (captureRelease (descHandle w) d).1 else d
      let done := if descOp w = 3 then 0 else x.moved
      let d := pushRec (16 + n) (statusRec d n (w.getD 4 0) st done (descLength w - done) (descHandle w) (bit (w.headD 0) 47)) d
      descPast n d

def execTransferDone (ch : Nat) (s : State) : Host.Outcome State Fault Refusal :=
  run (decide (ch < 16)) (transferDone ch) s

/-- DESC_FETCH_TIMEOUT (R323). -/
def descFetchTimeout (n : Nat) (d : Dev) : Dev :=
  if transfers d n = false ∨ (engOf d n).cur.isSome then d
  else
    let k := (engOf d n).tries + 1
    let d := report 0x12C1 n (dget (R.DESC_CONSUMER n) d) (setEng n { engOf d n with tries := k } d)
    if k < 3 then d
    else
      let d := pushRec (16 + n) (statusRec d n 0 7 0 0 0 false) (fetchOver n d)
      dset (R.CHANNEL_STATE n) 3 (descPast n d)

def execDescFetchTimeout (ch : Nat) (s : State) : Host.Outcome State Fault Refusal :=
  run (decide (ch < 16)) (descFetchTimeout ch) s

/-! ### Start and abort (R324, R325) -/

/-- CHANNEL_START: the effect, and the abort code. -/
def channelStart (n : Nat) (d : Dev) : Dev × Nat :=
  let kind := dget (R.DMA_KIND n) d
  let entries := dget (R.DESC_RING_ENTRIES n) d
  let bytes := dget (R.DATA_BUF_BYTES n) d
  let ok := if kind = 1 then decide (entries ≠ 0) && inWindow d (dget (R.DESC_RING_ADDR n) d) (entries * 64)
    else decide (bytes ≠ 0) && inWindow d (dget (R.DATA_BUF_ADDR n) d) bytes
  if kind = 0 ∨ dget (R.CHANNEL_STATE n) d ≠ 0 ∨ preparing d = true then (d, 0xA00B)
  else if ok = false then (d, 0xA010)
  else
    let d := dset (R.CHANNEL_STATE n) 1 d
    let g := engOf d n
    (setEng n { g with starting := decide (kind = 2), credit := 0, credAt := d.now, share := shareOf d n
                       head := if g.head < bufSize d n then g.head else 0 } d, 0)

/-- CHANNEL_ABORT: the burst in progress ends first. -/
def channelAbort (n : Nat) (d : Dev) : Dev × Nat :=
  if dget (R.DMA_KIND n) d = 0 then (d, 0xA00B) else (dset (R.CHANNEL_STATE n) 2 d, 0)

/-- CHANNEL_ABORT_DONE: the record with ABORTED, and STOPPED. A stream that has taken no segment since its latest start still stands where
it stood before, whatever SEG_BLOCKS has become (R324). -/
def channelAbortDone (n : Nat) (d : Dev) : Dev :=
  if dget (R.CHANNEL_STATE n) d ≠ 2 then d
  else if dget (R.DMA_KIND n) d = 2 then
    let g := engOf d n
    let t := if g.live then g.seg * segLen d n else g.stoodAt
    let d := if g.sent = 0 then setEng n { engOf d n with lost := 0 } (pushSeg n 0 (segRecAt d n t 0 g.head 0 g.lost 0 true) d)
      else endSegment n (blocksSent d n) (segBytes d n - g.sentBytes) true d
    let g := engOf d n
    dset (R.CHANNEL_STATE n) 0 (setEng n { g with
      starting := false, live := false, stoodAt := if g.live then g.seg * segLen d n else g.stoodAt } d)
  else
    let d := match (engOf d n).cur with
      | none => pushRec (16 + n) (statusRec d n 0 1 0 0 0 true) d
      | some x =>
        let w := x.words
        let d := if x.status = 0 then stopReading n w d else d
        descPast n (pushRec (16 + n) (statusRec d n (w.getD 4 0) 1 x.moved (descLength w - x.moved) (descHandle w) true) d)
    dset (R.CHANNEL_STATE n) 0 d

def execChannelAbortDone (ch : Nat) (s : State) : Host.Outcome State Fault Refusal :=
  run (decide (ch < 16)) (channelAbortDone ch) s

/-- A channel stops without a record (R325). -/
def stopChannel (n : Nat) (d : Dev) : Dev :=
  let d := match (engOf d n).cur with
    | some x => if x.status = 0 then stopReading n x.words d else d
    | none => d
  dset (R.CHANNEL_STATE n) 0 (setEng n { engOf d n with
    cur := none, tries := 0, starting := false, live := false, begun := false, used := [], lost := 0, sent := 0, sentBytes := 0 } d)

/-- Function-level reset stops every channel without records (R325). -/
def stopChannels (d : Dev) : Dev := (List.range 16).foldl (fun d n => stopChannel n d) d

/-- A channel whose descriptor read is in progress stops when the link goes down (Table 14.10); one that writes waits for the link. -/
def stopReads (d : Dev) : Dev :=
  (List.range 16).foldl (fun d n => if transfers d n && (engOf d n).cur.isNone then stopChannel n d else d) d

end Sys2Proof.Machine
end

