-- ==== Sys2Proof/Machine/Entries.lean ====
section
/-! DEFINITION. What the chapters' entry tables say of each entry: type, access code, permitted values, owning block
(Table 15.4), host only (R370). One row for each row of the spec's tables. -/

namespace Sys2Proof.Machine

/-- Entry types of Table 15.1. -/
inductive Ty where
  | u8 | u16 | u32 | u64 | i8 | i16
  | i16s (n : Nat)
  | str (n : Nat)
  | oct (n : Nat)
deriving DecidableEq, Repr

/-- Access codes of Table 0.5. -/
inductive Access where
  | const | ro | wo | rw | rwl | rws | rwg
deriving DecidableEq, Repr

/-- What values an entry takes. -/
inductive Chk where
  | any
  | range (lo hi : Nat)
  | step (lo hi st : Nat)
  | among (vs : List Nat)
  | mask (m : Nat)
  | lanePerm | prbs | inject | coreName
  | align (n : Nat)
  | pow2 (lo hi : Nat)
  | upToOr (a b : Nat)
  | pulse | powerPeak | currentPeak | recovery | framed | framedCmd
deriving DecidableEq, Repr

/-- The blocks that own RWS entries (Table 15.4). -/
inductive Owner where
  | none | array | port | lanePort | engine
deriving DecidableEq, Repr

/-- One row: first index and how many, first subindex and how many, and the rest. -/
structure Entry where
  idx : Nat
  idxN : Nat
  sub : Nat
  subN : Nat
  ty : Ty
  access : Access
  chk : Chk
  owner : Owner
  hostOnly : Bool
deriving DecidableEq, Repr

/-- Entry table, part 1: the rows of the chapters' dictionary tables in the order of the spec's files. -/
def entryRows1 : List Entry :=
  [ ⟨0x1000, 1, 0x01, 1, .u16, .const, .any, .none, false⟩,
    ⟨0x1000, 1, 0x02, 1, .u8, .const, .any, .none, false⟩,
    ⟨0x1000, 1, 0x03, 1, .u8, .const, .any, .none, false⟩,
    ⟨0x1000, 1, 0x04, 1, .u16, .const, .any, .none, false⟩,
    ⟨0x1000, 1, 0x05, 1, (.str 16), .const, .any, .none, false⟩,
    ⟨0x1000, 1, 0x08, 1, .u16, .ro, .any, .none, false⟩,
    ⟨0x1000, 1, 0x09, 1, .u8, .ro, .any, .none, false⟩,
    ⟨0x1000, 1, 0x0A, 1, .u8, .ro, .any, .none, false⟩,
    ⟨0x1000, 1, 0x0B, 1, .u8, .ro, .any, .none, false⟩,
    ⟨0x1000, 1, 0x0C, 1, .u8, .ro, .any, .none, false⟩,
    ⟨0x1000, 1, 0x0D, 1, .u8, .ro, .any, .none, false⟩,
    ⟨0x2000, 1, 0x01, 1, .u16, .rws, .range 24 480, .array, false⟩,
    ⟨0x2000, 1, 0x02, 1, .u32, .ro, .any, .none, false⟩,
    ⟨0x2000, 1, 0x03, 1, .u8, .ro, .any, .none, false⟩,
    ⟨0x2001, 1, 0x01, 128, .i16, .ro, .any, .none, false⟩,
    ⟨0x3000, 1, 0x01, 1, .u16, .rws, .step 600 9600 24, .array, false⟩,
    ⟨0x3000, 1, 0x02, 1, .u16, .rws, .range 360 2400, .array, false⟩,
    ⟨0x3000, 1, 0x03, 1, .u64, .ro, .any, .none, false⟩,
    ⟨0x3000, 1, 0x04, 1, .u8, .ro, .any, .none, false⟩,
    ⟨0x3000, 1, 0x05, 1, .u16, .ro, .any, .none, false⟩,
    ⟨0x4000, 1, 0x10, 1, .u32, .ro, .any, .none, false⟩,
    ⟨0x2010, 16, 0x01, 1, .u8, .rws, .range 0 1, .port, false⟩,
    ⟨0x2010, 16, 0x02, 1, .u8, .rws, .range 0 2, .port, false⟩,
    ⟨0x2010, 16, 0x03, 1, .u8, .rws, .among [0, 0x0B, 0x0C], .port, false⟩,
    ⟨0x2010, 16, 0x04, 1, .u32, .rws, .any, .port, false⟩,
    ⟨0x2010, 16, 0x05, 1, .u8, .rws, .range 0 64, .port, false⟩,
    ⟨0x2010, 16, 0x06, 1, .u8, .rws, .lanePerm, .port, false⟩,
    ⟨0x2010, 16, 0x07, 1, .u8, .rws, .mask 0x0F, .port, false⟩,
    ⟨0x2010, 16, 0x08, 1, .u8, .rws, .range 0 15, .port, false⟩,
    ⟨0x2010, 16, 0x09, 1, .u8, .ro, .any, .none, false⟩,
    ⟨0x2010, 16, 0x0A, 1, .u8, .ro, .any, .none, false⟩,
    ⟨0x2010, 16, 0x0B, 1, (.oct 256), .ro, .any, .none, false⟩,
    ⟨0x2010, 16, 0x0C, 1, .u8, .wo, .range 1 1, .none, true⟩,
    ⟨0x2010, 16, 0x0D, 1, .i8, .ro, .any, .none, false⟩,
    ⟨0x2010, 16, 0x0E, 1, .u32, .ro, .any, .none, false⟩,
    ⟨0x2002, 1, 0x01, 128, .u8, .ro, .any, .none, false⟩,
    ⟨0x2003, 1, 0x01, 128, .u32, .ro, .any, .none, false⟩,
    ⟨0x2004, 1, 0x01, 128, .u8, .ro, .any, .none, false⟩,
    ⟨0x2005, 1, 0x01, 128, .u16, .ro, .any, .none, false⟩,
    ⟨0x2006, 1, 0x01, 128, .u8, .ro, .any, .none, false⟩ ]

/-- Entry table, part 2: the rows of the chapters' dictionary tables in the order of the spec's files. -/
def entryRows2 : List Entry :=
  [ ⟨0x2007, 1, 0x01, 128, .u32, .ro, .any, .none, false⟩,
    ⟨0x2008, 1, 0x01, 1, .u16, .rw, .any, .none, false⟩,
    ⟨0x2008, 1, 0x02, 1, .u8, .rw, .any, .none, false⟩,
    ⟨0x2008, 1, 0x03, 1, .u16, .rw, .range 1 65535, .none, false⟩,
    ⟨0x5010, 1, 0x01, 128, .u8, .rws, .prbs, .lanePort, false⟩,
    ⟨0x5011, 1, 0x01, 128, .u32, .ro, .any, .none, false⟩,
    ⟨0x5012, 1, 0x01, 128, .u8, .rw, .inject, .none, false⟩,
    ⟨0x5013, 1, 0x01, 128, .u8, .rw, .range 0 1, .none, false⟩,
    ⟨0x2400, 8, 0x01, 128, .u8, .rwl, .range 0 63, .none, false⟩,
    ⟨0x2408, 8, 0x01, 128, .u8, .rwl, .range 0 1, .none, false⟩,
    ⟨0x2410, 8, 0x01, 128, .u16, .rwg, .mask 0x0F7F, .none, false⟩,
    ⟨0x2418, 8, 0x01, 128, .i16, .rwg, .any, .none, false⟩,
    ⟨0x2420, 8, 0x01, 128, .u16, .rwg, .range 0 32767, .none, false⟩,
    ⟨0x2428, 8, 0x01, 128, .i16, .rwg, .any, .none, false⟩,
    ⟨0x2430, 8, 0x01, 128, .i16, .rwg, .any, .none, false⟩,
    ⟨0x2438, 8, 0x01, 128, .i16, .rwg, .any, .none, false⟩,
    ⟨0x2440, 8, 0x01, 128, .u32, .ro, .any, .none, false⟩,
    ⟨0x2448, 8, 0x01, 128, .u32, .ro, .any, .none, false⟩,
    ⟨0x2600, 64, 0x01, 1, (.i16s 5), .rwg, .any, .none, false⟩,
    ⟨0x2600, 64, 0x02, 1, (.i16s 5), .rwg, .any, .none, false⟩,
    ⟨0x2600, 64, 0x03, 1, .u8, .rwg, .mask 0x07, .none, false⟩,
    ⟨0x2600, 64, 0x04, 1, (.i16s 32), .rwg, .any, .none, false⟩,
    ⟨0x2600, 64, 0x05, 1, .u8, .rwg, .among [1, 2, 4, 8], .none, false⟩,
    ⟨0x2600, 64, 0x06, 1, .u8, .rwg, .range 0 2, .none, false⟩,
    ⟨0x2600, 64, 0x07, 1, .u8, .rwg, .range 4 20, .none, false⟩,
    ⟨0x2600, 64, 0x08, 1, .u16, .rwg, .any, .none, false⟩,
    ⟨0x2600, 64, 0x09, 1, .u32, .rwg, .any, .none, false⟩,
    ⟨0x2700, 1, 0x01, 16, .i16, .ro, .any, .none, false⟩,
    ⟨0x2701, 1, 0x01, 1, .u8, .ro, .any, .none, false⟩,
    ⟨0x2701, 1, 0x02, 1, .u32, .ro, .any, .none, false⟩,
    ⟨0x2710, 1, 0x01, 32, .u8, .rwl, .range 0 3, .none, false⟩,
    ⟨0x2711, 1, 0x01, 32, .u8, .rwl, .any, .none, false⟩,
    ⟨0x2712, 1, 0x01, 32, .u32, .ro, .any, .none, false⟩,
    ⟨0x2720, 1, 0x01, 1, .u32, .ro, .any, .none, false⟩,
    ⟨0x3000, 1, 0x08, 1, .u32, .ro, .any, .none, false⟩,
    ⟨0x3000, 1, 0x09, 1, .u32, .ro, .any, .none, false⟩,
    ⟨0x3000, 1, 0x0A, 1, .u32, .ro, .any, .none, false⟩,
    ⟨0x3000, 1, 0x0B, 1, .u32, .ro, .any, .none, false⟩,
    ⟨0x3000, 1, 0x0C, 1, .u16, .rws, .range 2400 65535, .array, false⟩,
    ⟨0x3000, 1, 0x0D, 1, .u32, .ro, .any, .none, false⟩ ]

/-- Entry table, part 3: the rows of the chapters' dictionary tables in the order of the spec's files. -/
def entryRows3 : List Entry :=
  [ ⟨0x3010, 1, 0x01, 1, .u16, .rw, .coreName, .none, false⟩,
    ⟨0x3010, 1, 0x02, 1, .u8, .ro, .any, .none, false⟩,
    ⟨0x3010, 1, 0x03, 1, .u8, .ro, .any, .none, false⟩,
    ⟨0x3010, 1, 0x04, 1, .u8, .ro, .any, .none, false⟩,
    ⟨0x3010, 1, 0x05, 1, .u8, .ro, .any, .none, false⟩,
    ⟨0x3010, 1, 0x06, 1, .u16, .ro, .any, .none, false⟩,
    ⟨0x3010, 1, 0x07, 1, .u8, .ro, .any, .none, false⟩,
    ⟨0x3020, 1, 0x01, 1, .u32, .ro, .any, .none, false⟩,
    ⟨0x3020, 1, 0x02, 1, .u32, .ro, .any, .none, false⟩,
    ⟨0x3020, 1, 0x03, 1, .u32, .ro, .any, .none, false⟩,
    ⟨0x3020, 1, 0x04, 1, .u16, .rws, .range 65 4096, .array, false⟩,
    ⟨0x3020, 1, 0x05, 1, .u32, .ro, .any, .none, false⟩,
    ⟨0x3020, 1, 0x06, 1, .u32, .ro, .any, .none, false⟩,
    ⟨0x3020, 1, 0x07, 1, .u32, .ro, .any, .none, false⟩,
    ⟨0x3020, 1, 0x08, 1, .u64, .ro, .any, .none, false⟩,
    ⟨0x3020, 1, 0x09, 1, .u16, .ro, .any, .none, false⟩,
    ⟨0x3800, 1, 0x01, 1, .u32, .ro, .any, .none, false⟩,
    ⟨0x3800, 1, 0x02, 1, .u32, .ro, .any, .none, false⟩,
    ⟨0x3800, 1, 0x03, 1, .u32, .ro, .any, .none, false⟩,
    ⟨0x3800, 1, 0x04, 1, .u16, .ro, .any, .none, false⟩,
    ⟨0x3800, 1, 0x05, 1, .u64, .ro, .any, .none, false⟩,
    ⟨0x3800, 1, 0x06, 1, .u16, .rwl, .range 1 65535, .none, false⟩,
    ⟨0x3800, 1, 0x07, 1, .u16, .ro, .any, .none, false⟩,
    ⟨0x3800, 1, 0x08, 1, .u16, .ro, .any, .none, false⟩,
    ⟨0x3810, 1, 0x01, 1, .u64, .rw, .align 64, .none, false⟩,
    ⟨0x3810, 1, 0x02, 1, .u32, .rw, .range 1 76800, .none, false⟩,
    ⟨0x3810, 1, 0x03, 1, .u8, .wo, .range 1 1, .none, false⟩,
    ⟨0x3810, 1, 0x04, 1, .u8, .wo, .range 1 1, .none, false⟩,
    ⟨0x3810, 1, 0x05, 1, .u8, .wo, .range 1 1, .none, false⟩,
    ⟨0x3810, 1, 0x06, 1, .u8, .ro, .any, .none, false⟩,
    ⟨0x3810, 1, 0x07, 1, .u64, .ro, .any, .none, false⟩,
    ⟨0x3810, 1, 0x08, 1, .u32, .ro, .any, .none, false⟩,
    ⟨0x3810, 1, 0x09, 1, .u32, .ro, .any, .none, false⟩,
    ⟨0x3810, 1, 0x0A, 1, .u32, .ro, .any, .none, false⟩,
    ⟨0x3820, 32, 0x01, 128, .u32, .ro, .any, .none, false⟩,
    ⟨0x3840, 32, 0x01, 128, .u16, .ro, .any, .none, false⟩,
    ⟨0x3030, 1, 0x01, 1, .u64, .rw, .align 4096, .none, false⟩,
    ⟨0x3030, 1, 0x02, 1, .u64, .rw, .any, .none, false⟩,
    ⟨0x3030, 1, 0x03, 1, .u8, .rw, .range 0 3, .none, false⟩,
    ⟨0x3030, 1, 0x04, 1, .u8, .wo, .range 1 3, .none, false⟩ ]

/-- Entry table, part 4: the rows of the chapters' dictionary tables in the order of the spec's files. -/
def entryRows4 : List Entry :=
  [ ⟨0x3030, 1, 0x05, 1, .u8, .ro, .any, .none, false⟩,
    ⟨0x3030, 1, 0x06, 1, .u16, .ro, .any, .none, false⟩,
    ⟨0x3030, 1, 0x07, 1, .u64, .ro, .any, .none, false⟩,
    ⟨0x3030, 1, 0x08, 1, .u8, .ro, .any, .none, false⟩,
    ⟨0x3030, 1, 0x09, 1, .u32, .ro, .any, .none, false⟩,
    ⟨0x3030, 1, 0x0A, 1, .u16, .ro, .any, .none, false⟩,
    ⟨0x3030, 1, 0x0B, 1, .u16, .wo, .coreName, .none, false⟩,
    ⟨0x3031, 1, 0x01, 4, (.oct 32), .ro, .any, .none, false⟩,
    ⟨0x3032, 1, 0x01, 4, (.oct 32), .ro, .any, .none, false⟩,
    ⟨0x3033, 1, 0x01, 4, .u16, .ro, .any, .none, false⟩,
    ⟨0x3041, 8, 0x01, 128, .u32, .ro, .any, .none, false⟩,
    ⟨0x3050, 1, 0x01, 1, .u8, .rws, .range 0 3, .array, false⟩,
    ⟨0x3050, 1, 0x02, 1, .u64, .wo, .framed, .none, false⟩,
    ⟨0x3050, 1, 0x03, 1, .u64, .ro, .any, .none, false⟩,
    ⟨0x3050, 1, 0x04, 1, .u8, .ro, .any, .none, false⟩,
    ⟨0x3050, 1, 0x05, 1, .u64, .ro, .any, .none, false⟩,
    ⟨0x3050, 1, 0x06, 1, .u32, .ro, .any, .none, false⟩,
    ⟨0x3050, 1, 0x07, 1, .u8, .rw, .range 0 1, .none, false⟩,
    ⟨0x3050, 1, 0x08, 1, .u8, .ro, .any, .none, false⟩,
    ⟨0x3050, 1, 0x09, 1, .u64, .wo, .framedCmd, .none, false⟩,
    ⟨0x3050, 1, 0x0A, 1, .u8, .ro, .any, .none, false⟩,
    ⟨0x3050, 1, 0x0B, 1, .u64, .ro, .any, .none, false⟩,
    ⟨0x3050, 1, 0x0C, 1, .u64, .ro, .any, .none, false⟩,
    ⟨0x3050, 1, 0x0D, 1, (.oct 32), .ro, .any, .none, false⟩,
    ⟨0x3051, 1, 0x01, 4, .u8, .ro, .any, .none, false⟩,
    ⟨0x3060, 1, 0x01, 1, .u8, .rwl, .mask 0x0F, .none, false⟩,
    ⟨0x3060, 1, 0x02, 1, (.oct 16), .rws, .range 1 (2 ^ 128 - 1), .array, false⟩,
    ⟨0x3060, 1, 0x03, 1, (.oct 16), .ro, .any, .none, false⟩,
    ⟨0x3060, 1, 0x04, 1, .u64, .ro, .any, .none, false⟩,
    ⟨0x3060, 1, 0x05, 1, .u32, .ro, .any, .none, false⟩,
    ⟨0x3060, 1, 0x06, 1, .u32, .ro, .any, .none, false⟩,
    ⟨0x3061, 1, 0x01, 4, (.oct 32), .ro, .any, .none, false⟩,
    ⟨0x4020, 1, 0x01, 1, .u8, .rws, .range 0 1, .array, false⟩,
    ⟨0x4020, 1, 0x02, 1, .u16, .rws, .range 1 65535, .array, false⟩,
    ⟨0x4020, 1, 0x03, 1, .u16, .rw, .range 1 10000, .none, false⟩,
    ⟨0x4020, 1, 0x04, 1, .u8, .ro, .any, .none, false⟩,
    ⟨0x4020, 1, 0x05, 1, .u8, .ro, .any, .none, false⟩,
    ⟨0x4020, 1, 0x06, 1, .u32, .ro, .any, .none, false⟩,
    ⟨0x2800, 1, 0x01, 1, .u32, .ro, .any, .none, false⟩,
    ⟨0x2800, 1, 0x02, 1, .u32, .ro, .any, .none, false⟩ ]

/-- Entry table, part 5: the rows of the chapters' dictionary tables in the order of the spec's files. -/
def entryRows5 : List Entry :=
  [ ⟨0x2800, 1, 0x03, 1, .u32, .ro, .any, .none, false⟩,
    ⟨0x2800, 1, 0x04, 1, .u32, .ro, .any, .none, false⟩,
    ⟨0x2800, 1, 0x05, 1, .u32, .ro, .any, .none, false⟩,
    ⟨0x2800, 1, 0x06, 1, .u16, .rwl, .any, .none, false⟩,
    ⟨0x2800, 1, 0x07, 1, .u32, .ro, .any, .none, false⟩,
    ⟨0x2800, 1, 0x08, 1, .u64, .ro, .any, .none, false⟩,
    ⟨0x2801, 1, 0x01, 4, .u16, .ro, .any, .none, false⟩,
    ⟨0x2802, 1, 0x01, 7, .u8, .rwl, .any, .none, false⟩,
    ⟨0x2810, 64, 0x01, 1, .u8, .rwg, .range 0 1, .none, false⟩,
    ⟨0x2810, 64, 0x02, 1, .u8, .rwg, .range 0 1, .none, false⟩,
    ⟨0x2810, 64, 0x03, 1, .u16, .rwg, .range 1 2048, .none, false⟩,
    ⟨0x2810, 64, 0x04, 1, (.oct 256), .rwg, .any, .none, false⟩,
    ⟨0x2810, 64, 0x05, 1, (.oct 256), .rwg, .any, .none, false⟩,
    ⟨0x2810, 64, 0x06, 1, .u32, .rwg, .any, .none, false⟩,
    ⟨0x2810, 64, 0x07, 1, .u32, .rwg, .any, .none, false⟩,
    ⟨0x2810, 64, 0x08, 1, .u8, .rwg, .upToOr 15 0xFF, .none, false⟩,
    ⟨0x2810, 64, 0x09, 1, .u8, .rwg, .range 0 7, .none, false⟩,
    ⟨0x2810, 64, 0x0A, 1, .u32, .rwg, .any, .none, false⟩,
    ⟨0x2810, 64, 0x0B, 1, .u32, .ro, .any, .none, false⟩,
    ⟨0x2810, 64, 0x0C, 1, .u32, .ro, .any, .none, false⟩,
    ⟨0x2810, 64, 0x0D, 1, .u32, .ro, .any, .none, false⟩,
    ⟨0x2880, 8, 0x01, 128, .u16, .rwl, .range 0 1023, .none, false⟩,
    ⟨0x2888, 1, 0x01, 32, .u16, .rwl, .range 0 1023, .none, false⟩,
    ⟨0x2890, 1, 0x01, 32, .u8, .rwl, .mask 0x07, .none, false⟩,
    ⟨0x2891, 1, 0x01, 32, .u16, .rwl, .range 0 511, .none, false⟩,
    ⟨0x2892, 1, 0x01, 32, .u16, .rwl, .pulse, .none, false⟩,
    ⟨0x2893, 1, 0x01, 32, .u8, .rwl, .range 0 1, .none, false⟩,
    ⟨0x2894, 1, 0x01, 1, .u32, .wo, .any, .none, false⟩,
    ⟨0x2894, 1, 0x02, 1, .u32, .ro, .any, .none, false⟩,
    ⟨0x2894, 1, 0x03, 1, .u8, .ro, .any, .none, false⟩,
    ⟨0x2894, 1, 0x04, 1, .u32, .rw, .any, .none, false⟩,
    ⟨0x2C00, 1, 0x01, 1, .u8, .ro, .any, .none, false⟩,
    ⟨0x2C00, 1, 0x02, 1, .u16, .rw, .step 0 4096 32, .none, false⟩,
    ⟨0x2C00, 1, 0x03, 1, .u16, .ro, .any, .none, false⟩,
    ⟨0x2C00, 1, 0x04, 1, .u16, .ro, .any, .none, false⟩,
    ⟨0x2C00, 1, 0x05, 1, .u16, .ro, .any, .none, false⟩,
    ⟨0x2C00, 1, 0x06, 1, .u16, .rw, .any, .none, false⟩,
    ⟨0x2C00, 1, 0x07, 1, .u8, .rw, .range 0 8, .none, false⟩,
    ⟨0x2C00, 1, 0x08, 1, .u32, .wo, .any, .none, false⟩,
    ⟨0x2C00, 1, 0x09, 1, .u16, .ro, .any, .none, false⟩ ]

/-- Entry table, part 6: the rows of the chapters' dictionary tables in the order of the spec's files. -/
def entryRows6 : List Entry :=
  [ ⟨0x2C00, 1, 0x0A, 1, .u32, .ro, .any, .none, false⟩,
    ⟨0x2C00, 1, 0x0B, 1, .u32, .ro, .any, .none, false⟩,
    ⟨0x2C00, 1, 0x0C, 1, .u32, .ro, .any, .none, false⟩,
    ⟨0x2C00, 1, 0x0D, 1, .u32, .ro, .any, .none, false⟩,
    ⟨0x2C00, 1, 0x0E, 1, .u32, .ro, .any, .none, false⟩,
    ⟨0x2C00, 1, 0x0F, 1, .u32, .ro, .any, .none, false⟩,
    ⟨0x2C00, 1, 0x10, 1, .u32, .ro, .any, .none, false⟩,
    ⟨0x2C00, 1, 0x11, 1, .u16, .rw, .range 1 256, .none, false⟩,
    ⟨0x2C10, 16, 0x01, 1, .u8, .rwg, .range 0 2, .none, false⟩,
    ⟨0x2C10, 16, 0x02, 1, (.oct 128), .rwg, .any, .none, false⟩,
    ⟨0x2C10, 16, 0x03, 1, .u32, .rwg, .range 0 279264, .none, false⟩,
    ⟨0x2C10, 16, 0x04, 1, .u8, .rwg, .range 0 7, .none, false⟩,
    ⟨0x2C10, 16, 0x05, 1, .u32, .ro, .any, .none, false⟩,
    ⟨0x2C10, 16, 0x06, 1, .u32, .ro, .any, .none, false⟩,
    ⟨0x2C10, 16, 0x07, 1, .u32, .ro, .any, .none, false⟩,
    ⟨0x2C10, 16, 0x08, 1, .u64, .ro, .any, .none, false⟩,
    ⟨0x2C10, 16, 0x09, 1, .u32, .ro, .any, .none, false⟩,
    ⟨0x2C20, 16, 0x01, 1, .u8, .rws, .range 0 2, .engine, false⟩,
    ⟨0x2C20, 16, 0x02, 1, .u8, .rws, .range 0 15, .engine, false⟩,
    ⟨0x2C20, 16, 0x03, 1, .u8, .rws, .range 0 2, .engine, false⟩,
    ⟨0x2C20, 16, 0x04, 1, .u16, .rws, .range 1 1024, .engine, false⟩,
    ⟨0x2C20, 16, 0x05, 1, .u64, .rws, .align 4096, .engine, false⟩,
    ⟨0x2C20, 16, 0x06, 1, .u64, .rws, .step 4096 (2 ^ 64 - 1) 4096, .engine, false⟩,
    ⟨0x2C20, 16, 0x07, 1, .u64, .rws, .align 64, .engine, false⟩,
    ⟨0x2C20, 16, 0x08, 1, .u32, .rws, .pow2 16 65536, .engine, false⟩,
    ⟨0x2C20, 16, 0x09, 1, .u32, .rw, .any, .none, false⟩,
    ⟨0x2C20, 16, 0x0A, 1, .u32, .ro, .any, .none, false⟩,
    ⟨0x2C20, 16, 0x0B, 1, .u16, .rw, .range 1 256, .none, false⟩,
    ⟨0x2C20, 16, 0x0C, 1, .u8, .wo, .range 1 1, .none, false⟩,
    ⟨0x2C20, 16, 0x0D, 1, .u8, .wo, .range 1 1, .none, false⟩,
    ⟨0x2C20, 16, 0x0E, 1, .u8, .ro, .any, .none, false⟩,
    ⟨0x2C20, 16, 0x0F, 1, .u64, .ro, .any, .none, false⟩,
    ⟨0x2C20, 16, 0x10, 1, .u32, .ro, .any, .none, false⟩,
    ⟨0x3070, 1, 0x01, 1, .u8, .rw, .range 0 1, .none, false⟩,
    ⟨0x3070, 1, 0x02, 1, .u16, .rw, .range 1 60000, .none, false⟩,
    ⟨0x3070, 1, 0x03, 1, .u8, .ro, .any, .none, false⟩,
    ⟨0x3070, 1, 0x04, 1, .u32, .ro, .any, .none, false⟩,
    ⟨0x3070, 1, 0x05, 1, .u32, .ro, .any, .none, false⟩,
    ⟨0x3070, 1, 0x06, 1, .u32, .ro, .any, .none, false⟩,
    ⟨0x3070, 1, 0x07, 1, .u32, .ro, .any, .none, false⟩ ]

/-- Entry table, part 7: the rows of the chapters' dictionary tables in the order of the spec's files. -/
def entryRows7 : List Entry :=
  [ ⟨0x3070, 1, 0x08, 1, .u32, .ro, .any, .none, false⟩,
    ⟨0x3070, 1, 0x09, 1, .u32, .ro, .any, .none, false⟩,
    ⟨0x3070, 1, 0x0A, 1, .u16, .ro, .any, .none, false⟩,
    ⟨0x3071, 1, 0x01, 2, .u8, .ro, .any, .none, false⟩,
    ⟨0x3071, 1, 0x03, 2, .u16, .ro, .any, .none, false⟩,
    ⟨0x3072, 1, 0x01, 16, .u8, .rwl, .upToOr 15 255, .none, false⟩,
    ⟨0x3073, 1, 0x01, 16, .u8, .rwl, .range 0 1, .none, false⟩,
    ⟨0x3074, 1, 0x01, 16, .u8, .ro, .any, .none, false⟩,
    ⟨0x3075, 1, 0x01, 16, .u16, .ro, .any, .none, false⟩,
    ⟨0x1010, 1, 0x01, 1, .u64, .ro, .any, .none, false⟩,
    ⟨0x1010, 1, 0x02, 1, .u32, .ro, .any, .none, false⟩,
    ⟨0x1010, 1, 0x03, 1, .u32, .ro, .any, .none, false⟩,
    ⟨0x1010, 1, 0x04, 1, .u32, .ro, .any, .none, false⟩,
    ⟨0x1010, 1, 0x05, 1, .u32, .ro, .any, .none, false⟩,
    ⟨0x1010, 1, 0x06, 1, .u32, .ro, .any, .none, false⟩,
    ⟨0x1010, 1, 0x07, 1, .u32, .ro, .any, .none, false⟩,
    ⟨0x1010, 1, 0x08, 1, .u32, .ro, .any, .none, false⟩,
    ⟨0x1010, 1, 0x09, 1, .u8, .ro, .any, .none, false⟩,
    ⟨0x1010, 1, 0x0A, 1, .u8, .ro, .any, .none, false⟩,
    ⟨0x1011, 1, 0x01, 32, .u8, .ro, .any, .none, false⟩,
    ⟨0x1020, 1, 0x01, 1, .u32, .wo, .any, .none, false⟩,
    ⟨0x1020, 1, 0x02, 1, .u8, .wo, .range 1 1, .none, false⟩,
    ⟨0x1020, 1, 0x03, 1, .u32, .wo, .any, .none, false⟩,
    ⟨0x1020, 1, 0x04, 1, .u64, .ro, .any, .none, false⟩,
    ⟨0x1020, 1, 0x05, 1, .u16, .ro, .any, .none, false⟩,
    ⟨0x1020, 1, 0x06, 1, .u32, .ro, .any, .none, false⟩,
    ⟨0x1030, 1, 0x01, 1, .u16, .rw, .range 1 65535, .none, false⟩,
    ⟨0x1030, 1, 0x02, 1, .u8, .rw, .range 0 1, .none, true⟩,
    ⟨0x1030, 1, 0x03, 1, .u8, .ro, .any, .none, false⟩,
    ⟨0x1030, 1, 0x04, 1, .u32, .ro, .any, .none, false⟩,
    ⟨0x1030, 1, 0x05, 1, .u32, .ro, .any, .none, false⟩,
    ⟨0x1030, 1, 0x06, 1, .u32, .ro, .any, .none, false⟩,
    ⟨0x3C00, 1, 0x01, 1, (.oct 16), .ro, .any, .none, false⟩,
    ⟨0x3C00, 1, 0x02, 1, .u8, .ro, .any, .none, false⟩,
    ⟨0x3C00, 1, 0x03, 1, .u8, .rw, .range 0 2, .none, false⟩,
    ⟨0x3C00, 1, 0x04, 1, .u8, .wo, .range 1 1, .none, true⟩,
    ⟨0x3C00, 1, 0x05, 1, .u32, .ro, .any, .none, false⟩,
    ⟨0x3C00, 1, 0x06, 1, .u32, .ro, .any, .none, false⟩,
    ⟨0x3C00, 1, 0x07, 1, .u64, .ro, .any, .none, false⟩,
    ⟨0x3C00, 1, 0x08, 1, .u32, .ro, .any, .none, false⟩ ]

/-- Entry table, part 8: the rows of the chapters' dictionary tables in the order of the spec's files. -/
def entryRows8 : List Entry :=
  [ ⟨0x3C00, 1, 0x09, 1, .i16, .ro, .any, .none, false⟩,
    ⟨0x3C00, 1, 0x0A, 1, .u32, .ro, .any, .none, false⟩,
    ⟨0x3C00, 1, 0x0B, 1, .u32, .rw, .range 10 1000000, .none, false⟩,
    ⟨0x3C00, 1, 0x0C, 1, .u32, .rw, .range 1000 1000000000, .none, false⟩,
    ⟨0x3C10, 1, 0x01, 1, .u8, .rw, .range 0 1, .none, false⟩,
    ⟨0x3C10, 1, 0x02, 1, .u8, .rw, .range 0 127, .none, false⟩,
    ⟨0x3C10, 1, 0x03, 1, .u16, .rw, .any, .none, false⟩,
    ⟨0x3C10, 1, 0x04, 1, .u16, .rw, .any, .none, false⟩,
    ⟨0x3C10, 1, 0x05, 1, (.oct 8), .ro, .any, .none, false⟩,
    ⟨0x3C10, 1, 0x06, 1, .u32, .ro, .any, .none, false⟩,
    ⟨0x3C10, 1, 0x07, 1, .u32, .ro, .any, .none, false⟩,
    ⟨0x3C20, 1, 0x01, 1, .u8, .rw, .range 0 1, .none, false⟩,
    ⟨0x3C20, 1, 0x02, 1, .u8, .rw, .range 0 1, .none, false⟩,
    ⟨0x3C20, 1, 0x03, 1, .i16, .rw, .any, .none, false⟩,
    ⟨0x3C20, 1, 0x04, 1, .u32, .ro, .any, .none, false⟩,
    ⟨0x3C20, 1, 0x05, 1, .u32, .rw, .any, .none, false⟩,
    ⟨0x3C20, 1, 0x06, 1, .u32, .ro, .any, .none, false⟩,
    ⟨0x3C20, 1, 0x07, 1, .u8, .rw, .range 0 2, .none, false⟩,
    ⟨0x3C20, 1, 0x08, 1, .u16, .rw, .range 1 999, .none, false⟩,
    ⟨0x3C20, 1, 0x09, 1, .i16, .rw, .any, .none, false⟩,
    ⟨0x4000, 1, 0x01, 1, .u8, .rws, .upToOr 31 255, .array, false⟩,
    ⟨0x4000, 1, 0x02, 1, .u8, .ro, .any, .none, false⟩,
    ⟨0x4000, 1, 0x03, 1, .u32, .rws, .any, .array, false⟩,
    ⟨0x4000, 1, 0x04, 1, .u8, .ro, .any, .none, false⟩,
    ⟨0x4000, 1, 0x05, 1, .u8, .ro, .any, .none, false⟩,
    ⟨0x4000, 1, 0x06, 1, .u8, .ro, .any, .none, false⟩,
    ⟨0x4000, 1, 0x07, 1, .u8, .ro, .any, .none, false⟩,
    ⟨0x4000, 1, 0x08, 1, .u16, .ro, .any, .none, false⟩,
    ⟨0x4000, 1, 0x09, 1, .u16, .ro, .any, .none, false⟩,
    ⟨0x4000, 1, 0x0A, 1, .u32, .ro, .any, .none, false⟩,
    ⟨0x4000, 1, 0x0B, 1, .u32, .ro, .any, .none, false⟩,
    ⟨0x4000, 1, 0x0C, 1, .u8, .wo, .mask 0x07, .none, true⟩,
    ⟨0x4000, 1, 0x0D, 1, .u16, .rw, .range 1 65535, .none, false⟩,
    ⟨0x4000, 1, 0x0E, 1, .u32, .ro, .any, .none, false⟩,
    ⟨0x4000, 1, 0x0F, 1, .u32, .ro, .any, .none, false⟩,
    ⟨0x4000, 1, 0x11, 1, .u32, .ro, .any, .none, false⟩,
    ⟨0x4001, 1, 0x01, 7, .u64, .rwl, .any, .none, false⟩,
    ⟨0x4002, 1, 0x01, 32, (.str 16), .ro, .any, .none, false⟩,
    ⟨0x4010, 1, 0x01, 1, .u8, .rws, .range 0 2, .array, false⟩,
    ⟨0x4010, 1, 0x02, 1, .u8, .rws, .range 0 1, .array, false⟩ ]

/-- Entry table, part 9: the rows of the chapters' dictionary tables in the order of the spec's files. -/
def entryRows9 : List Entry :=
  [ ⟨0x4010, 1, 0x03, 1, .u8, .rws, .range 0 1, .array, false⟩,
    ⟨0x4010, 1, 0x04, 1, .u8, .ro, .any, .none, false⟩,
    ⟨0x4010, 1, 0x05, 1, .u8, .ro, .any, .none, false⟩,
    ⟨0x4010, 1, 0x06, 1, .u16, .rwl, .range 1 1000, .none, false⟩,
    ⟨0x4010, 1, 0x07, 1, .u32, .rwl, .range 1 10000000, .none, false⟩,
    ⟨0x4010, 1, 0x08, 1, .u32, .rwl, .range 0 10000000, .none, false⟩,
    ⟨0x4010, 1, 0x09, 1, .u32, .ro, .any, .none, false⟩,
    ⟨0x4010, 1, 0x0A, 1, .u32, .ro, .any, .none, false⟩,
    ⟨0x4010, 1, 0x0B, 1, .u32, .ro, .any, .none, false⟩,
    ⟨0x4010, 1, 0x0C, 1, .u32, .ro, .any, .none, false⟩,
    ⟨0x4010, 1, 0x0D, 1, .u32, .ro, .any, .none, false⟩,
    ⟨0x4010, 1, 0x0E, 1, .u8, .ro, .any, .none, false⟩,
    ⟨0x4010, 1, 0x0F, 1, (.str 16), .ro, .any, .none, false⟩,
    ⟨0x4800, 1, 0x01, 1, .u8, .ro, .any, .none, false⟩,
    ⟨0x4800, 1, 0x02, 1, .u16, .ro, .any, .none, false⟩,
    ⟨0x4800, 1, 0x03, 1, .u64, .ro, .any, .none, false⟩,
    ⟨0x4800, 1, 0x04, 1, .u32, .ro, .any, .none, false⟩,
    ⟨0x4800, 1, 0x05, 1, .u32, .ro, .any, .none, false⟩,
    ⟨0x4800, 1, 0x06, 1, .u32, .ro, .any, .none, false⟩,
    ⟨0x4800, 1, 0x07, 1, .u32, .ro, .any, .none, false⟩,
    ⟨0x4800, 1, 0x08, 1, .u32, .ro, .any, .none, false⟩,
    ⟨0x4800, 1, 0x09, 1, .u16, .rw, .range 1 3600, .none, true⟩,
    ⟨0x4800, 1, 0x0A, 1, .u8, .rw, .mask 0x1E, .none, true⟩,
    ⟨0x4800, 1, 0x0B, 1, .u8, .wo, .range 1 1, .none, true⟩,
    ⟨0x4800, 1, 0x0C, 1, .u32, .ro, .any, .none, false⟩,
    ⟨0x4800, 1, 0x0D, 1, .u8, .ro, .any, .none, false⟩,
    ⟨0x4800, 1, 0x0E, 1, .u64, .ro, .any, .none, false⟩,
    ⟨0x4800, 1, 0x0F, 1, .u64, .ro, .any, .none, false⟩,
    ⟨0x4800, 1, 0x10, 1, .u32, .ro, .any, .none, false⟩,
    ⟨0x4800, 1, 0x11, 1, .u32, .ro, .any, .none, false⟩,
    ⟨0x4800, 1, 0x12, 1, .u32, .ro, .any, .none, false⟩,
    ⟨0x4801, 1, 0x01, 64, (.oct 32), .ro, .any, .none, false⟩,
    ⟨0x4400, 1, 0x01, 1, .u8, .ro, .any, .none, false⟩,
    ⟨0x4400, 1, 0x02, 1, .u8, .wo, .range 0 3, .none, false⟩,
    ⟨0x4400, 1, 0x03, 1, .u8, .ro, .any, .none, false⟩,
    ⟨0x4400, 1, 0x04, 1, .u8, .ro, .any, .none, false⟩,
    ⟨0x4400, 1, 0x05, 1, .u8, .ro, .any, .none, false⟩,
    ⟨0x4400, 1, 0x06, 1, .u32, .ro, .any, .none, false⟩,
    ⟨0x4400, 1, 0x07, 1, .u8, .rw, .mask 0x1F, .none, false⟩,
    ⟨0x4400, 1, 0x08, 1, .u8, .ro, .any, .none, false⟩ ]

/-- Entry table, part 10: the rows of the chapters' dictionary tables in the order of the spec's files. -/
def entryRows10 : List Entry :=
  [ ⟨0x4400, 1, 0x09, 1, .u32, .ro, .any, .none, false⟩,
    ⟨0x4400, 1, 0x0A, 1, .u8, .rw, .range 0 1, .none, false⟩,
    ⟨0x4410, 1, 0x01, 1, .u8, .ro, .any, .none, false⟩,
    ⟨0x4410, 1, 0x02, 1, .u8, .ro, .any, .none, false⟩,
    ⟨0x4410, 1, 0x03, 1, .u16, .ro, .any, .none, false⟩,
    ⟨0x4410, 1, 0x04, 1, .u16, .ro, .any, .none, false⟩,
    ⟨0x4410, 1, 0x05, 1, .u16, .ro, .any, .none, false⟩,
    ⟨0x4410, 1, 0x06, 1, .u16, .rw, .range 1000 4800, .none, true⟩,
    ⟨0x4410, 1, 0x07, 1, .u16, .rw, .powerPeak, .none, true⟩,
    ⟨0x4410, 1, 0x08, 1, .u16, .rw, .range 1000 6900, .none, true⟩,
    ⟨0x4410, 1, 0x09, 1, .u16, .rw, .currentPeak, .none, true⟩,
    ⟨0x4410, 1, 0x0A, 1, .u32, .rw, .range 100 100000, .none, false⟩,
    ⟨0x4410, 1, 0x0B, 1, .u16, .rw, .range 100 60000, .none, false⟩,
    ⟨0x4410, 1, 0x0C, 1, .u32, .ro, .any, .none, false⟩,
    ⟨0x4420, 1, 0x01, 1, .i16, .ro, .any, .none, false⟩,
    ⟨0x4420, 1, 0x02, 1, .u8, .ro, .any, .none, false⟩,
    ⟨0x4420, 1, 0x03, 1, .i16, .const, .any, .none, false⟩,
    ⟨0x4420, 1, 0x04, 1, .i16, .const, .any, .none, false⟩,
    ⟨0x4420, 1, 0x05, 1, .i16, .ro, .any, .none, false⟩,
    ⟨0x4420, 1, 0x06, 1, .i16, .ro, .any, .none, false⟩,
    ⟨0x4420, 1, 0x07, 1, .u16, .ro, .any, .none, false⟩,
    ⟨0x4420, 1, 0x08, 1, .i16, .const, .any, .none, false⟩,
    ⟨0x4420, 1, 0x09, 1, .u16, .const, .any, .none, false⟩,
    ⟨0x4C00, 1, 0x01, 1, .u8, .ro, .any, .none, false⟩,
    ⟨0x4C00, 1, 0x02, 1, .u8, .ro, .any, .none, false⟩,
    ⟨0x4C00, 1, 0x03, 1, .u32, .ro, .any, .none, false⟩,
    ⟨0x4C00, 1, 0x04, 1, .u8, .ro, .any, .none, false⟩,
    ⟨0x4C00, 1, 0x05, 1, .u8, .ro, .any, .none, false⟩,
    ⟨0x4C00, 1, 0x06, 1, .u8, .wo, .range 0 64, .none, true⟩,
    ⟨0x4C00, 1, 0x07, 1, .u32, .ro, .any, .none, false⟩,
    ⟨0x4C01, 1, 0x01, 2, (.oct 64), .ro, .any, .none, false⟩,
    ⟨0x4C01, 1, 0x03, 1, .u8, .ro, .any, .none, false⟩,
    ⟨0x4C01, 1, 0x04, 1, (.oct 64), .wo, .any, .none, true⟩,
    ⟨0x4C01, 1, 0x05, 1, .u8, .wo, .range 0 1, .none, true⟩,
    ⟨0x4C02, 1, 0x01, 1, (.oct 1024), .ro, .any, .none, false⟩,
    ⟨0x4C02, 1, 0x02, 1, .u16, .ro, .any, .none, false⟩,
    ⟨0x4C02, 1, 0x03, 1, (.oct 1024), .ro, .any, .none, false⟩,
    ⟨0x4C02, 1, 0x04, 1, .u16, .ro, .any, .none, false⟩,
    ⟨0x4C03, 1, 0x01, 1, (.oct 32), .rw, .any, .none, false⟩,
    ⟨0x4C03, 1, 0x02, 1, .u8, .wo, .range 1 1, .none, false⟩ ]

/-- Entry table, part 11: the rows of the chapters' dictionary tables in the order of the spec's files. -/
def entryRows11 : List Entry :=
  [ ⟨0x4C03, 1, 0x03, 1, .u8, .ro, .any, .none, false⟩,
    ⟨0x4C03, 1, 0x04, 1, (.oct 320), .ro, .any, .none, false⟩,
    ⟨0x4C04, 1, 0x01, 4, (.oct 32), .ro, .any, .none, false⟩,
    ⟨0x4C04, 1, 0x05, 1, .u32, .ro, .any, .none, false⟩,
    ⟨0x4C04, 1, 0x06, 1, .u32, .ro, .any, .none, false⟩,
    ⟨0x4C04, 1, 0x07, 1, .u32, .rw, .range 0 4095, .none, false⟩,
    ⟨0x4C04, 1, 0x08, 1, (.oct 64), .ro, .any, .none, false⟩,
    ⟨0x4C10, 1, 0x01, 1, .u8, .wo, .recovery, .none, false⟩,
    ⟨0x4C10, 1, 0x02, 1, .u64, .rw, .any, .none, false⟩,
    ⟨0x4C10, 1, 0x03, 1, .u32, .rw, .range 512 8388608, .none, false⟩,
    ⟨0x4C10, 1, 0x04, 1, .u32, .rw, .step 0 (2 ^ 32 - 1) 1024, .none, false⟩,
    ⟨0x4C10, 1, 0x05, 1, (.oct 1024), .wo, .any, .none, false⟩,
    ⟨0x4C10, 1, 0x06, 1, .u8, .ro, .any, .none, false⟩,
    ⟨0x1000, 1, 0x06, 1, .u8, .ro, .any, .none, false⟩,
    ⟨0x2C00, 1, 0x12, 1, .u8, .wo, .range 1 1, .none, false⟩,
    ⟨0x3000, 1, 0x06, 1, .u8, .wo, .range 1 2, .none, false⟩,
    ⟨0x3000, 1, 0x07, 1, .u8, .ro, .any, .none, false⟩,
    ⟨0x5000, 1, 0x01, 1, .u8, .ro, .any, .none, false⟩,
    ⟨0x5020, 1, 0x01, 9, .u16, .ro, .any, .none, false⟩,
    ⟨0x5021, 1, 0x01, 9, .u16, .ro, .any, .none, false⟩,
    ⟨0x5022, 1, 0x01, 9, .u16, .ro, .any, .none, false⟩ ]

/-- Every dictionary entry the chapters list (subindex 0x00 of each index and the staging entries of Table 15.5 are computed, R366 and R378). -/
def entryTable : List Entry :=
  entryRows1 ++ entryRows2 ++ entryRows3 ++ entryRows4 ++ entryRows5 ++ entryRows6 ++ entryRows7 ++ entryRows8 ++ entryRows9 ++ entryRows10 ++ entryRows11

/-- Defaults that are not 0: first index and how many, first subindex and how many, the default. -/
def defaultRows : List (Nat × Nat × Nat × Nat × Nat) :=
  [ (0x1000, 1, 0x01, 1, 0x6400), (0x1000, 1, 0x0A, 1, 1), (0x2000, 1, 0x01, 1, 96),
    (0x2000, 1, 0x03, 1, 0xFF), (0x2001, 1, 0x01, 128, 0x7FFF), (0x3000, 1, 0x01, 1, 1200),
    (0x3000, 1, 0x02, 1, 576), (0x2010, 16, 0x01, 1, 1), (0x2010, 16, 0x06, 1, 0xE4),
    (0x2008, 1, 0x01, 1, 30), (0x2008, 1, 0x02, 1, 16), (0x2008, 1, 0x03, 1, 16),
    (0x2600, 64, 0x05, 1, 1), (0x2600, 64, 0x07, 1, 16), (0x2600, 64, 0x08, 1, 1024),
    (0x2720, 1, 0x01, 1, 280800), (0x3000, 1, 0x0C, 1, 4096), (0x3020, 1, 0x04, 1, 128),
    (0x3800, 1, 0x06, 1, 64), (0x3800, 1, 0x08, 1, 0xFFFF), (0x3030, 1, 0x08, 1, 0xFF),
    (0x3033, 1, 0x01, 4, 0xFFFF), (0x3060, 1, 0x02, 1, 0x0123456789ABCDEFFEDCBA9876543210), (0x4020, 1, 0x02, 1, 64),
    (0x4020, 1, 0x03, 1, 100), (0x2810, 64, 0x03, 1, 1), (0x2810, 64, 0x08, 1, 0xFF),
    (0x2892, 1, 0x01, 32, 600), (0x2C00, 1, 0x02, 1, 4096), (0x2C00, 1, 0x03, 1, 26624),
    (0x2C00, 1, 0x04, 1, 13312), (0x2C00, 1, 0x05, 1, 13312), (0x2C00, 1, 0x06, 1, 1024),
    (0x2C00, 1, 0x07, 1, 2), (0x2C00, 1, 0x11, 1, 32), (0x2C20, 16, 0x04, 1, 16),
    (0x2C20, 16, 0x0B, 1, 256), (0x3070, 1, 0x01, 1, 1), (0x3070, 1, 0x02, 1, 1000),
    (0x3072, 1, 0x01, 16, 0xFF), (0x1030, 1, 0x01, 1, 4417), (0x1030, 1, 0x02, 1, 1),
    (0x3C00, 1, 0x03, 1, 1), (0x3C00, 1, 0x06, 1, 0x80000000), (0x3C00, 1, 0x07, 1, 0x8000000000000000),
    (0x3C00, 1, 0x08, 1, 3579139413), (0x3C00, 1, 0x0B, 1, 200), (0x3C00, 1, 0x0C, 1, 1000000),
    (0x3C10, 1, 0x01, 1, 1), (0x3C20, 1, 0x04, 1, 0x80000000), (0x3C20, 1, 0x05, 1, 1000),
    (0x3C20, 1, 0x07, 1, 2), (0x3C20, 1, 0x08, 1, 100), (0x4000, 1, 0x01, 1, 0xFF),
    (0x4000, 1, 0x0D, 1, 64), (0x4010, 1, 0x06, 1, 2), (0x4010, 1, 0x07, 1, 10000),
    (0x4010, 1, 0x08, 1, 65536), (0x4800, 1, 0x09, 1, 10), (0x4800, 1, 0x0A, 1, 0x1C),
    (0x4400, 1, 0x03, 1, 0xFF), (0x4400, 1, 0x05, 1, 0xFF), (0x4400, 1, 0x07, 1, 0x1F),
    (0x4400, 1, 0x0A, 1, 1), (0x4410, 1, 0x06, 1, 4800), (0x4410, 1, 0x07, 1, 5600),
    (0x4410, 1, 0x08, 1, 6900), (0x4410, 1, 0x09, 1, 7800), (0x4410, 1, 0x0A, 1, 1000),
    (0x4410, 1, 0x0B, 1, 1000), (0x4420, 1, 0x03, 1, 1520), (0x4420, 1, 0x04, 1, 1680),
    (0x4420, 1, 0x08, 1, 640), (0x4420, 1, 0x09, 1, 200), (0x5022, 1, 0x01, 9, 0xFFFF) ]

/-- The default of an entry (Table 0.5): the value that an unlisted key reads as. -/
def defaultOf (key : Nat) : Nat :=
  if 0x289101 ≤ key ∧ key ≤ 0x289120 then key - 0x289101
  else match defaultRows.find? (fun r => decide (r.1 ≤ key / 256 ∧ key / 256 < r.1 + r.2.1 ∧ r.2.2.1 ≤ key % 256 ∧ key % 256 < r.2.2.1 + r.2.2.2.1)) with
    | some r => r.2.2.2.2
    | none => 0

end Sys2Proof.Machine
end

