-- ==== Sys2Proof/Machine/Links.lean ====
section
/-! DEFINITION. Ring and mirror links (R404 to R411), contributions on their way (R412 to R414), barrier messages (R259), the
mirror pair's status and verdict exchange (R419 to R423). Ports: 0 RING_W, 1 RING_E, 2 mirror. -/

namespace Sys2Proof.Machine

def linkOf (d : Dev) (p : Nat) : Link := tget Link.rest d.lnk.links p
def setLink (p : Nat) (x : Link) (d : Dev) : Dev := { d with lnk := { d.lnk with links := tset Link.rest d.lnk.links p x } }
def modLink (p : Nat) (g : Link → Link) (d : Dev) : Dev := setLink p (g (linkOf d p)) d

/-- A flit leaves on port p, when the link may carry it: a joined link carries every type, another trained link HELLO alone
(R408). It takes the next LINK_SEQ and stays in the replay buffer (Table 17.1). A member in a power state other than RUN sends nothing
(R426); DESIGN CHOICE (log entry 165): but for HELLO and NAK, which belong to the link and not to the member. -/
def sendFlit (p ty : Nat) (words : List Nat) (d : Dev) : Dev :=
  let l := linkOf d p
  if (linkState d p = 2 ∨ (ty = 2 ∧ linkState d p = 3)) ∧ (dget R.POWER_STATE d = 0 ∨ ty = 2 ∨ ty = 6) then
    setLink p { l with txSeq := (l.txSeq + 1) % 4096, replay := (⟨ty, l.txSeq, words⟩ :: l.replay).take 64 } d
  else d

/-- A flit on both ring ports. -/
def sendRing (ty : Nat) (words : List Nat) (d : Dev) : Dev := sendFlit 1 ty words (sendFlit 0 ty words d)

/-- A mirror flit is lost or the mirror link has left: a partner status that does not come has an explanation (R421). -/
def flawMirror (p : Nat) (d : Dev) : Dev := if p = 2 then { d with lnk := { d.lnk with flawed := true } } else d

/-- A lost flit (R406). -/
def lostFlit (p seq : Nat) (d : Dev) : Dev := report 0x1401 p seq (bump R.RING_LOST_FLITS (flawMirror p d))

/-- The flit with LINK_SEQ `seq` has been acted on already, before a failed one came again. DESIGN CHOICE (log entry 166): its replay is
neither acted on a second time nor lost. LINK_SEQ comes round after 4,096 flits, and an entry stands for as many ac. -/
def gotBefore (x : Link) (seq now : Nat) : Bool :=
  match tget none x.got seq with | none => false | some t => decide (now < t + 4096)

/-- A flit that is acted on while another awaits its replay: the replay will repeat it (R406). -/
def noteGot (p seq : Nat) (d : Dev) : Dev :=
  modLink p (fun x => if x.failed = [] then { x with got := x.got.filter (fun e => gotBefore x e.1 d.now) }
    else { x with got := tset none x.got seq (some d.now) }) d

/-- A flit with LINK_SEQ `seq` arrives on port p with a good CRC: acted on when its link has joined, and, if it is a replay,
within the retry window of 58 ac (R406, R408). -/
def recv (p seq : Nat) (f : Dev → Dev) (d : Dev) : Dev :=
  if linkState d p ≠ 2 then d
  else
    let failed := tget none (linkOf d p).failed seq
    let again := gotBefore (linkOf d p) seq d.now
    let d := modLink p (fun x => { x with failed := tset none x.failed seq none }) d
    if again then d
    else match failed with
      | none => f (noteGot p seq d)
      | some t => if d.now - t ≤ 58 then f (noteGot p seq d) else lostFlit p seq d

/-! ### Membership (R408 to R411) -/

/-- Device serial and configured position. -/
def selfMember (d : Dev) : Nat × Nat := (d.fuses.serial, dget R.RING_POSITION_CFG d)

/-- The part of a list behind the last member with a serial; none when it is not there. -/
def afterLast (sn : Nat) (l : List (Nat × Nat)) : Option (List (Nat × Nat)) :=
  if l.any (fun m => decide (m.1 = sn)) then some ((l.reverse.takeWhile (fun m => decide (m.1 ≠ sn))).reverse) else none

/-- Whether the HELLO flits of both sides let the link join. -/
def mayJoin (d : Dev) (p : Nat) (h : List Nat) : Bool :=
  if p = 2 then
    decide ((dget R.MIRROR_ROLE d = 1 ∧ h.getD 3 0 = 2) ∨ (dget R.MIRROR_ROLE d = 2 ∧ h.getD 3 0 = 1))
  else decide (h.getD 1 0 = dget R.RING_DOMAIN d ∧ h.getD 4 0 = fLen d)

/-- The newcomer behind a link that trained while the array was armed, and that will join at the next arming (R411). -/
def newcomer (d : Dev) (p : Nat) : List (Nat × Nat) :=
  match (linkOf d p).hello with
  | some h => if (linkOf d p).late && decide (linkState d p = 3) && mayJoin d p h then [(h.headD 0, h.getD 2 0)] else []
  | none => []

/-- The members known beyond a ring link. A newcomer is listed, so that every member knows it and takes it in at the next arming (R411;
log entry 167). -/
def beyond (d : Dev) (p : Nat) : List (Nat × Nat) := if linkState d p = 2 then (linkOf d p).known else newcomer d p

/-- The members as the FORM flits of both sides list them, eastward, and whether the ring is closed. -/
def membership (d : Dev) : List (Nat × Nat) × Bool :=
  let me := selfMember d
  let w := beyond d 0
  let e := beyond d 1
  match afterLast me.1 w with
  | some r => (me :: r, true)
  | none =>
    if e.any (fun m => decide (m.1 = me.1)) then (me :: e.takeWhile (fun m => decide (m.1 ≠ me.1)), true)
    else (w ++ [me] ++ e, false)

/-- ASCII order of serials. -/
def serialBefore (a b : Nat) : Bool := decide (beNum (bytesOf a 16) < beNum (bytesOf b 16))

/-- A closed ring written from its member with the least key on. -/
def rotateTo (i : Nat) (l : List (Nat × Nat)) : List (Nat × Nat) := l.drop i ++ l.take i

/-- Index of the member that comes first by an order. -/
def leastIdx (before : Nat × Nat → Nat × Nat → Bool) (l : List (Nat × Nat)) : Nat :=
  match l with
  | [] => 0
  | h :: _ =>
    let m := l.foldl (fun b x => if before x b then x else b) h
    l.findIdx (fun x => decide (x = m))

/-- A formed ring: members eastward from position 0, or the reason of Table 17.8 why there is none (R409, R410). -/
def arrange (l : List (Nat × Nat)) (closed : Bool) : Except Nat (List (Nat × Nat) × List Nat) :=
  if 32 < l.length then .error 1
  else if l.all (fun m => decide (m.2 = 0xFF)) then
    let r := if closed then rotateTo (leastIdx (fun a b => serialBefore a.1 b.1) l) l else l
    .ok (r, List.range r.length)
  else if (l.map Prod.snd).any (fun p => decide (p ≠ 0xFF ∧ 2 ≤ (l.map Prod.snd).count p)) then .error 2
  else
    let r := if closed then rotateTo (leastIdx (fun a b => decide (a.2 < b.2)) l) l else l
    let ps := r.map Prod.snd
    if ps.zipIdx.all (fun x => decide (x.1 = ps.headD 0 + x.2 ∧ x.1 < 32)) then .ok (r, ps) else .error 3

/-- A ring of one at position 0 (R427). -/
def ringOfOne (st reason : Nat) (d : Dev) : Dev :=
  let d := (List.range 32).foldl (fun d i => dset (R.RING_MEMBER_SERIAL i) 0 d) d
  dset R.RING_SIZE 1 (dset R.RING_POSITION 0 (dset R.RING_REFUSE_REASON reason (dset R.DEVICE_RING_STATE st
    { d with lnk := { d.lnk with size := 1 } })))

/-- The ring forms, or is refused. -/
def formRing (d : Dev) : Dev :=
  let (l, closed) := (d.lnk.found, d.lnk.closed)
  match arrange l closed with
  | .error r => ringOfOne 4 r d
  | .ok (r, ps) =>
    let d := ringOfOne (if closed then 2 else 3) 0 d
    let d := (r.zip ps).foldl (fun d x => dset (R.RING_MEMBER_SERIAL x.2) x.1.1 d) d
    let me := (r.zip ps).find? (fun x => decide (x.1.1 = d.fuses.serial))
    dset R.RING_SIZE (ringSize { d with lnk := { d.lnk with size := r.length } }) (dset R.RING_POSITION ((me.map Prod.snd).getD 0)
      { d with lnk := { d.lnk with size := r.length } })

/-- A position of the ring in force: while no ring link has joined the device's own alone, at the position it was armed with (R25, R410,
R427). -/
def inRing (d : Dev) (src : Nat) : Bool :=
  if ringJoined d then decide (src < d.lnk.size) else decide (src = dget R.RING_POSITION d)

/-- A ring link joins or leaves: while the array is not armed the ring forms anew; while it is, only RING_STATE follows, and no position
changes (R410): a ring becomes a line, and a device without a joined ring link is in no ring (R427). -/
def ringChanged (d : Dev) : Dev :=
  if armed d then
    let d := { d with lnk := { d.lnk with stable := 0 } }
    if ringJoined d = false then dset R.DEVICE_RING_STATE 0 d
    else if dget R.DEVICE_RING_STATE d = 2 ∧ ¬ (linkState d 0 = 2 ∧ linkState d 1 = 2) then dset R.DEVICE_RING_STATE 3 d
    else d
  else
    let d := { d with lnk := { d.lnk with found := [], stable := 0 } }
    ringOfOne (if ringJoined d then 1 else 0) 0 d

/-- The event record of each newcomer that a member learns of while the array runs, one for each newcomer and arming (R411). -/
def noteLate (p : Nat) (serials : List Nat) (d : Dev) : Dev :=
  serials.foldl (fun d sn => if d.lnk.seenLate.contains sn then d
    else report 0x0404 p 0 { d with lnk := { d.lnk with seenLate := sn :: d.lnk.seenLate } }) d

/-- The serials of a list that are no members of the ring in force. -/
def strangers (d : Dev) (l : List (Nat × Nat)) : List Nat :=
  (l.map Prod.fst).filter (fun sn => decide (sn ≠ d.fuses.serial) &&
    (List.range 32).all (fun i => decide (dget (R.RING_MEMBER_SERIAL i) d ≠ sn)))

/-- FORM: what a neighbour knows of its side, eastward, itself included. In a ring that is formed and armed, a serial that is no member's
is a newcomer's (R411). -/
def formFlit (p : Nat) (members : List (Nat × Nat)) (d : Dev) : Dev :=
  let d := modLink p (fun x => { x with known := members }) d
  if armed d && (decide (dget R.DEVICE_RING_STATE d = 2) || decide (dget R.DEVICE_RING_STATE d = 3)) then noteLate p (strangers d members) d
  else d

def execForm (port seq : Nat) (members : List (Nat × Nat)) (s : State) : Host.Outcome State Fault Refusal :=
  run (decide (port < 2 ∧ seq < 4096 ∧ members.length ≤ 33)) (recv port seq (formFlit port members)) s

/-- FORM_ROUND: every 1 ms FORM flits leave on both sides, and a membership that has been stable for three rounds forms the
ring (R408), for a device that was armed in the meantime once it is armed no more. -/
def formRound (d : Dev) : Dev :=
  if ringJoined d = false then d
  else
    let me := selfMember d
    let w := beyond d 0
    let e := beyond d 1
    let list := fun (l : List (Nat × Nat)) => l.flatMap (fun m => [m.1, m.2])
    let east := (w ++ [me]).drop (w.length + 1 - 33)
    let d := sendFlit 0 3 (list ((me :: e).take 33)) (sendFlit 1 3 (list east) d)
    let (m, c) := membership d
    let k := if d.lnk.found = m ∧ d.lnk.closed = c then d.lnk.stable + 1 else 1
    let d := { d with lnk := { d.lnk with found := m, closed := c, stable := k } }
    if armed d then
      let st := dget R.DEVICE_RING_STATE d
      if k = 3 ∧ (st = 2 ∨ st = 3 ∨ (st = 0 ∧ 1 < d.lnk.size)) then dset R.DEVICE_RING_STATE (if c then 2 else 3) d else d
    else if k = 3 ∨ (3 ≤ k ∧ dget R.DEVICE_RING_STATE d = 1) then formRing d else d

def execFormRound (s : State) : Host.Outcome State Fault Refusal := run true formRound s

/-! ### Mirrored settings: resynchronisation (R425) -/

/-- Keys of the mirrored entries: RWL and RWG, outside the 0x4000 and 0x4400 ranges (R424). -/
def mirroredKeys : List Nat :=
  entryTable.flatMap (fun e =>
    if e.access ≠ .rwl ∧ e.access ≠ .rwg then []
    else (List.range e.idxN).flatMap (fun i =>
      if (e.idx + i) / 0x400 = 0x10 ∨ (e.idx + i) / 0x400 = 0x11 then []
      else (List.range e.subN).map (fun j => (e.idx + i) * 256 + e.sub + j)))

/-- First frame whose cut-off, 256 ac early for forwarded settings, has not passed. -/
def nextFwdFrame (d : Dev) : Nat := if d.now < cutAt d d.grid.nextC - 256 then d.grid.nextC else d.grid.nextC + 1

/-- The primary sends the value in effect of every mirrored entry; they take effect at one growth ring, at once while the
array is not armed. -/
def startResync (d : Dev) : Dev :=
  if dget R.MIRROR_SYNC d = 1 ∧ dget R.MIRROR_ROLE d = 1 ∧ linkState d 2 = 2 then
    let on := armed d && !ending d
    let g := if on then nextFwdFrame d else 0
    let d := mirroredKeys.foldl (fun d k => sendFlit 2 9 [3, k, tget (defaultOf k) d.dict k, g] d) d
    if on then dset R.MIRROR_SYNC_STATE 2 { d with lnk := { d.lnk with resyncAt := some g } }
    else dset R.MIRROR_SYNC_STATE 1 d
  else d

/-! ### Training, joining, retraining (R404, R407, R408, R411, R419) -/

/-- What HELLO says of this device (Table 17.3). -/
def helloWords (d : Dev) (p : Nat) : List Nat :=
  [d.fuses.serial, dget R.RING_DOMAIN d, dget R.RING_POSITION_CFG d, dget R.MIRROR_ROLE d, fLen d, (linkOf d p).lat]

/-- A trained link with a HELLO joins, or does not (R408, R411, R419). -/
def judge (p : Nat) (d : Dev) : Dev :=
  match (linkOf d p).hello with
  | none => d
  | some h =>
    let st := linkState d p
    if st ≠ 2 ∧ st ≠ 3 then d
    else
      let ok := mayJoin d p h
      if p = 2 then
        let d := showLinks (dset R.MIRROR_LINK_STATE (if ok then 2 else 3) (if ok && decide (st = 2) then d else flawMirror 2 d))
        if ok && decide (st ≠ 2) then startResync d else d
      else if ok && (linkOf d p).late then noteLate p [h.headD 0] (dset (linkReg p) 3 d)
      else
        let d := showLinks (dset (linkReg p) (if ok then 2 else 3) d)
        if ok = decide (st = 2) then d else ringChanged d

/-- LINK_TRAINED: training and FEC alignment complete; `lat` is the path latency measured, 1/16 ac. -/
def linkTrained (p lat : Nat) (d : Dev) : Dev :=
  let st := linkState d p
  if st ≠ 1 ∧ st ≠ 4 then d
  else
    let d := modLink p (fun x => { x with lat := lat, cleanFrom := d.now, late := decide (p < 2) && armed d && decide (st = 1) }) d
    let d := if p = 0 then dset R.RING_PATH_LATENCY_W lat d else if p = 1 then dset R.RING_PATH_LATENCY_E lat d else d
    let d := dset (linkReg p) 3 (if st = 4 then reactionOver d else d)
    sendFlit p 2 (helloWords d p) d

def execLinkTrained (port lat : Nat) (s : State) : Host.Outcome State Fault Refusal :=
  run (decide (port < 3 ∧ lat < 65536)) (linkTrained port lat) s

/-- HELLO: serial, domain, configured position, mirror role, frame length, path latency of the partner. -/
def hello (p : Nat) (words : List Nat) (d : Dev) : Dev :=
  if linkState d p ≠ 2 ∧ linkState d p ≠ 3 then d
  else
    let d := modLink p (fun x => { x with hello := some words }) d
    let d := if p = 2 then dset R.MIRROR_PARTNER_SERIAL (words.headD 0) d else d
    judge p d

def execHello (port : Nat) (words : List Nat) (s : State) : Host.Outcome State Fault Refusal :=
  run (decide (port < 3 ∧ words.length = 6)) (hello port words) s

/-- What a link carried is gone. -/
def clearLink (p : Nat) (d : Dev) : Dev :=
  flawMirror p (modLink p (fun x => { x with hello := none, replay := [], failed := [], naks := [], known := [], resent := [], got := [] }) d)

/-- A retrain attempt begins, or the link retires (R68, R407). -/
def linkAttempt (p : Nat) (d : Dev) : Dev :=
  let k := (linkOf d p).attempt
  if 3 ≤ k then report 0x2403 p 0 (dset (linkReg p) 5 (reactionOver d))
  else report 0x1402 p (k + 1) (dset (linkReg p) 4 (modLink p (fun x => { x with attempt := k + 1 }) d))

/-- The link retrains; an episode ends when it has run for 60 s without one. -/
def linkRetrain (p : Nat) (d : Dev) : Dev :=
  let st := linkState d p
  if st ≠ 2 ∧ st ≠ 3 then d
  else
    let d := modLink p (fun x => { x with attempt := if 60 * acPerS ≤ d.now - x.cleanFrom then 0 else x.attempt }) d
    let d := showLinks (linkAttempt p (clearLink p d))
    if p < 2 ∧ st = 2 then ringChanged d else d

/-- FEC_ALIGNMENT_LOSS. -/
def execFecAlignmentLoss (port : Nat) (s : State) : Host.Outcome State Fault Refusal :=
  run (decide (port < 3)) (linkRetrain port) s

/-- LINK_TRAIN_TIMEOUT: an attempt has taken 10 ms. In a retrain the next attempt follows; a link that has never trained goes
on training. -/
def execLinkTrainTimeout (port : Nat) (s : State) : Host.Outcome State Fault Refusal :=
  run (decide (port < 3)) (fun d => if linkState d port = 4 then linkAttempt port d else d) s

/-- A NAK was sent or received; more than RING_RETRAIN_LIMIT within 1 ms retrain the link (R407). -/
def countNak (p : Nat) (d : Dev) : Dev :=
  let l := linkOf d p
  let ns := d.now :: l.naks.filter (fun t => decide (d.now - t < acPerMs))
  let d := setLink p { l with naks := ns } d
  if dget R.RING_RETRAIN_LIMIT d < ns.length then linkRetrain p d else d

/-- FLIT_CRC_FAIL: the flit with LINK_SEQ `seq` fails; the second failure loses it (R406). -/
def flitCrcFail (p seq : Nat) (d : Dev) : Dev :=
  if linkState d p ≠ 2 ∧ linkState d p ≠ 3 then d
  else match tget none (linkOf d p).failed seq with
    | some _ => lostFlit p seq (modLink p (fun x => { x with failed := tset none x.failed seq none }) d)
    | none =>
      let d := modLink p (fun x => { x with failed := tset none x.failed seq (some d.now) }) d
      countNak p (sendFlit p 6 [seq] d)

def execFlitCrcFail (port seq : Nat) (s : State) : Host.Outcome State Fault Refusal :=
  run (decide (port < 3 ∧ seq < 4096)) (flitCrcFail port seq) s

/-- The failed flit and every later one in a replay buffer, oldest first; none where the buffer holds the failed one no more. -/
def replayFrom (seq : Nat) (l : List Flit) : List Flit :=
  if l.any (fun f => decide (f.seq = seq)) then (l.takeWhile (fun f => decide (f.seq ≠ seq)) ++ l.filter (fun f => decide (f.seq = seq))).reverse
  else []

/-- A NAK arrives: the failed flit and every later one are replayed from the buffer, as they were sent, under the LINK_SEQ they had
(R406). -/
def nak (p seq : Nat) (d : Dev) : Dev :=
  if linkState d p = 2 ∨ linkState d p = 3 then
    countNak p (bump R.RING_RETRIES (modLink p (fun x => { x with resent := replayFrom seq x.replay }) d))
  else d

def execNak (port seq : Nat) (s : State) : Host.Outcome State Fault Refusal :=
  run (decide (port < 3 ∧ seq < 4096)) (nak port seq) s

/-- RESERVED_FLIT: types 11 to 15 (Table 17.3). -/
def execReservedFlit (port ty : Nat) (s : State) : Host.Outcome State Fault Refusal :=
  run (decide (port < 3 ∧ 11 ≤ ty ∧ ty < 16))
    (fun d => if linkState d port = 2 ∨ linkState d port = 3 then bump R.RING_LOST_FLITS d else d) s

/-- RING_REINSTATE: retired links return to training (R407). -/
def ringReinstate (mask : Nat) (d : Dev) : Dev :=
  [0, 1, 2].foldl (fun d p => if bit mask p ∧ linkState d p = 5 then
    dset (linkReg p) 1 (modLink p (fun x => { x with attempt := 0 }) d) else d) d

/-- Links train when the hub is up (R427); they go down when it is not. -/
def linksStart (d : Dev) : Dev := [0, 1, 2].foldl (fun d p => if linkState d p = 0 then dset (linkReg p) 1 d else d) d
def linksDown (d : Dev) : Dev :=
  let d := if [0, 1, 2].any (fun p => decide (linkState d p = 4)) then reactionOver d else d
  let d := [0, 1, 2].foldl (fun d p => if linkState d p = 5 then d else dset (linkReg p) 0 (clearLink p d)) d
  showLinks (ringChanged d)

/-- Settings that HELLO carries have changed: the links are judged again. -/
def rejudge (d : Dev) : Dev :=
  [0, 1, 2].foldl (fun d p => judge p (sendFlit p 2 (helloWords d p) d)) d

/-- At the next arming, links that trained while the array ran join, and the ring is as it is then known: after the loss of its last link
the device is a ring of one, and after the loss of another member the positions are those of the members left (R25, R410, R411, R427). -/
def linksAtArm (d : Dev) : Dev :=
  if [0, 1].any (fun p => (linkOf d p).late) = false then
    if ringJoined d = false then ringOfOne 0 0 d
    else if 3 ≤ d.lnk.stable then formRing d
    else d
  else
    let d := [0, 1].foldl (fun d p => if (linkOf d p).late then
      let l := newcomer d p
      judge p (modLink p (fun x => { x with late := false, known := l }) d) else d) d
    let (m, c) := membership d
    formRing { d with lnk := { d.lnk with found := m, closed := c, stable := 3 } }

/-! ### Contributions (R412 to R414) -/

/-- S_n and D_n of a frame. -/
def sendAt (d : Dev) (n : Nat) : Nat := eAt d n + 62 + (frameOf d n).la
def deadAt (d : Dev) (n : Nat) : Nat := sendAt d n + (frameOf d n).lr

/-- The device runs its array: no device fault, no restart in progress. -/
def frameRuns (d : Dev) (n : Nat) : Bool := !(frameOf d n).lost && !(frameOf d n).paused && d.flt.dev.isNone

/-- Frame n is inside the grid, with its growth ring behind it. -/
def ringPassed (d : Dev) (n : Nat) : Bool :=
  decide (n < d.grid.nextT) && (match d.grid.endF with | none => armed d | some e => decide (n < e))

/-- The header of a CONTRIB flit (Table 17.4). -/
def contribHead (src ttl valid poison n : Nat) : Nat :=
  src * 2 ^ 43 + ttl * 2 ^ 38 + valid * 2 ^ 34 + poison * 2 ^ 30 + n % 2 ^ 24

/-- Masks and values of a frame's own contribution: what RING wrote, with the poison of the register it wrote from. -/
def ownContrib (d : Dev) (n : Nat) : Contrib :=
  let v := fun k => tget none (frameOf d n).contrib k
  { frame := n, src := dget R.RING_POSITION d
    valid := (List.range 4).foldl (fun m k => if (v k).isSome then m + 2 ^ k else m) 0
    poison := (List.range 4).foldl (fun m k => if 2 ^ 64 ≤ (v k).getD 0 then m + 2 ^ k else m) 0
    slots := (List.range 4).map (fun k => (v k).getD 0 % 2 ^ 64) }

/-- A contribution is an output: while an undefined use is in force its masks and its words are free (R15, log entry 131). -/
def freeContrib (c : Contrib) (d : Dev) : Contrib × Dev :=
  if d.undef then
    let v := fun (k : Nat) => (Config.freeWord (d.freeCtr + k)).toNat
    ({ c with valid := v 0 % 16, poison := v 0 / 16 % 16, slots := (List.range 4).map (fun k => v (k + 1) % 2 ^ 64) },
      { d with freeCtr := d.freeCtr + 5 })
  else (c, d)

/-- CONTRIB_SEND (R412). -/
def contribSend (d : Dev) : Dev :=
  let n := d.grid.nextSend
  if ringPassed d n = false then d
  else
    let d := advTo (sendAt d n) d
    let d := { d with grid := { d.grid with nextSend := n + 1 } }
    if frameRuns d n = false ∨ dget R.POWER_STATE d ≠ 0 then d
    else
      let (c, d) := freeContrib (ownContrib d n) d
      let d := { d with lnk := { d.lnk with inbox := (c :: d.lnk.inbox).take 2048 } }
      sendRing 1 (contribHead c.src (ringSize d - 1) c.valid c.poison n :: c.slots) d

def execContribSend (s : State) : Host.Outcome State Fault Refusal := run true contribSend s

/-- The frame awaiting contributions whose low 24 bits these are. -/
def awaiting (d : Dev) (low : Nat) : Option Nat :=
  ((List.range (d.grid.nextB - d.grid.nextDead)).map (· + d.grid.nextDead)).find?
    (fun n => decide (n % 2 ^ 24 = low) && (decide (d.grid.nextT ≤ n) || decide (d.now ≤ deadAt d n)))

/-- An enabled ring word names slot `k` of position `src` (R286). -/
def wordNames (d : Dev) (src k : Nat) : Bool :=
  (List.range 7).any (fun i => let sel := dget (R.RING_WORD_SELECT i) d; bit sel 0 && decide (bits sel 7 3 = src ∧ bits sel 2 1 = k))

/-- A contribution comes after its deadline: what no ring word names counts as late now, once; what a word names counts at its deadline
(R45, R257, R415). DESIGN CHOICE (log entry 152): a lost or a paused frame has no sampling instant at which a word could read the
slots, so of its late contributions only the slots that no ring word names count. -/
def lateContrib (h : Nat) (d : Dev) : Dev :=
  let low := bits h 23 0
  let src := bits h 47 43
  let last := d.grid.nextB - 1
  let n := last - (last % 2 ^ 24 + 2 ^ 24 - low) % 2 ^ 24
  let k := (List.range 4).countP (fun k => bit (bits h 37 34) k && !wordNames d src k)
  if running d = false ∨ low ≠ n % 2 ^ 24 ∨ inRing d src = false ∨ d.now ≤ deadAt d n ∨ d.lnk.lateSeen.contains (low, src) then d
  else
    bumpBy R.TIMING_CHOICES k (bumpBy R.RING_LATE_COUNT k
      { d with lnk := { d.lnk with lateSeen := ((low, src) :: d.lnk.lateSeen).take 256 } })

/-- A contribution is accepted, or discarded (R413, R414). -/
def acceptContrib (w : List Nat) (d : Dev) : Dev :=
  let h := w.headD 0
  let src := bits h 47 43
  let known := fun (n : Nat → Bool) => d.lnk.inbox.any (fun c => decide (c.src = src) && n c.frame)
  match awaiting d (bits h 23 0) with
  | some n =>
    if known (fun f => decide (f = n)) then d
    else { d with lnk := { d.lnk with
      inbox := (⟨n, src, bits h 37 34, bits h 33 30, [w.getD 1 0, w.getD 2 0, w.getD 3 0, w.getD 4 0]⟩ :: d.lnk.inbox).take 2048 } }
  | none => if known (fun f => decide (f % 2 ^ 24 = bits h 23 0)) then d else bump R.RING_FRAME_MISMATCH (lateContrib h d)

/-- A CONTRIB flit goes on, cut through, unless TTL has reached 0 or the next member is its source (R413). -/
def forward (p : Nat) (w : List Nat) (d : Dev) : Dev :=
  let h := w.headD 0
  let ttl := bits h 42 38
  let size := max (ringSize d) 1
  let pos := dget R.RING_POSITION d
  let nxt := if p = 0 then (pos + 1) % size else (pos + size - 1) % size
  if ttl ≤ 1 ∨ nxt = bits h 47 43 then d else sendFlit (1 - p) 1 ((h - 2 ^ 38) :: w.tail) d

/-- CONTRIB: a CONTRIB flit arrives; a device outside RUN neither forwards nor accepts (Table 17.6). -/
def execContrib (port seq : Nat) (words : List Nat) (s : State) : Host.Outcome State Fault Refusal :=
  run (decide (port < 2 ∧ seq < 4096 ∧ words.length = 5) && words.all (fun w => decide (w < 2 ^ 64)))
    (recv port seq (fun d => if dget R.POWER_STATE d ≠ 0 then d
      else acceptContrib words (forward port words d))) s

/-! ### SYNC and the barrier (R259 to R261, R418) -/

/-- SYNC: a neighbour's t0 of frame `frame` was announced by a flit that arrived at ac `at16` / 16. -/
def syncFlit (p frame at16 : Nat) (d : Dev) : Dev :=
  if running d = false ∨ p = 2 then d
  else
    let off : Int := rneDiv ((at16 : Int) - (linkOf d p).lat - (16 * t0At d frame : Nat)) 16
    let m := min off.natAbs 255
    let size := max (ringSize d) 1
    let pos := dget R.RING_POSITION d
    let d := if dget R.BARRIER_SKEW_MAX d < m then dset R.BARRIER_SKEW_MAX m d else d
    if 3 < off.natAbs then
      reportLim acPerS 0 0x0442 (unsgn 64 off) (if p = 0 then (pos + size - 1) % size else (pos + 1) % size) (bump R.BARRIER_SKEW_EVENTS d)
    else d

def execSync (port seq frame at16 : Nat) (s : State) : Host.Outcome State Fault Refusal :=
  run (decide (port < 3 ∧ seq < 4096 ∧ frame < 2 ^ 64))
    (fun d => recv port seq (syncFlit port frame at16) (if linkState d port = 2 then advTo (at16 / 16) d else d)) s

/-- The device's ring of one, without a mirror role or without a trained mirror link: it arms at its own edge (R262, R418). -/
def alone (d : Dev) : Bool :=
  decide (ringSize d = 1 ∧ ¬ (dget R.MIRROR_ROLE d ≠ 0 ∧ (linkState d 2 = 2 ∨ linkState d 2 = 3)))

/-- Waits at the barrier. -/
def atBarrier (d : Dev) : Bool := decide (dget R.BARRIER_MODE d = 1) && !alone d

/-- The mirror role of the device itself, while its mirror link has joined. -/
def ownRole (d : Dev) : Nat := if linkState d 2 = 2 then dget R.MIRROR_ROLE d else 0

/-- A barrier message leaves on every joined port but one: kind 0 WAITING, 1 the leader's K; `half` 0 own ring or 1 the partner's, as
the receiver on a ring port sees it, plus twice the mirror role of that ring's mirror member, 0 from any other member; position; ring size; K; path latency so far, 1/16 ac. -/
def sendBarrier (but kind half pos size k path : Nat) (d : Dev) : Dev :=
  [0, 1, 2].foldl (fun d p => if p = but then d else sendFlit p 4 [kind, half, pos, size, k, path] d) d

/-- The role of a WAITING's ring tells each member that of its own ring: 2000 and the role. -/
def roleMark (h role : Nat) : List Nat := if role = 0 then [] else [2000 + if h = 0 then role else 3 - role]

/-- Members known to wait: a WAITING holds for BARRIER_TIMEOUT, after which the member's request has ended (Table 10.4). -/
def waits (d : Dev) : List Nat :=
  (d.lnk.waiting.filter (fun w => decide (d.now < w.2 + dget R.BARRIER_TIMEOUT d * acPerMs))).map Prod.fst

/-- The role of the device's ring in the pair, as its own mirror link or a WAITING has shown it: 0 none, 1 primary's, 2 secondary's. -/
def ringRole (d : Dev) : Nat :=
  if ownRole d ≠ 0 then ownRole d
  else if (waits d).contains 2001 then 1 else if (waits d).contains 2002 then 2 else 0

/-- The leader is position 0 of the primary's ring (R418). -/
def isLeader (d : Dev) : Bool := decide (dget R.RING_POSITION d = 0 ∧ ringRole d ≠ 2)

/-- A WAITING of each of these members, now. -/
def addWaits (l : List Nat) (d : Dev) : Dev :=
  { d with lnk := { d.lnk with
    waiting := l.map (fun m => (m, d.now)) ++ d.lnk.waiting.filter (fun w => (waits d).contains w.1 && !l.contains w.1) } }

/-- The device itself waits no more. -/
def dropWait (d : Dev) : Dev :=
  { d with lnk := { d.lnk with waiting := d.lnk.waiting.filter (fun w => decide (w.1 ≠ dget R.RING_POSITION d)), barEdge := none } }

/-- Every member of the ring waits, and every member of the partner's ring where the ring has one (R259, R418). -/
def allWait (d : Dev) : Bool :=
  let w := waits d
  let peer := (w.find? (fun x => decide (1000 ≤ x ∧ x < 2000))).map (· - 1000)
  (List.range (ringSize d)).all (fun i => w.contains i) &&
    (decide (ringRole d = 0) ||
      (match peer with | none => false | some s => (List.range s).all (fun i => w.contains (32 + i))))

/-- The arming edge that the leader's message names: its own SYSREF edge nearest to the message's departure, plus K periods. -/
def barrierEdge (k path t : Nat) (d : Dev) : Dev :=
  let per := max (sysrefPeriod d (dget R.CLOCK_REF_PORT d)) 1
  match d.pll.lastEdge with
  | none => d
  | some l =>
    let e : Int := l + rneDiv ((t : Int) - ((path / 16 : Nat) : Int) - l) per * per + (k * per : Nat)
    { d with lnk := { d.lnk with barEdge := some e.toNat } }

/-- BARRIER: a barrier message arrives at ac `t`; it goes on to the other ports when it is new (R259, R418). -/
def barrier (p kind half pos size k path t : Nat) (d : Dev) : Dev :=
  let d := advTo t d
  let h := if p = 2 then 1 - half % 2 else half % 2
  let role := half / 2
  let path' := path + (linkOf d p).lat
  if kind = 0 then
    let me := 32 * h + pos
    if (waits d).contains me then d
    else sendBarrier p 0 (h + 2 * role) pos size k path' (addWaits ((if h = 1 then [me, 1000 + size] else [me]) ++ roleMark h role) d)
  else if dget R.BARRIER_STATE d = 1 ∧ d.lnk.barEdge = none then
    sendBarrier p 1 (h + 2 * role) pos size k path' (barrierEdge k path' t d)
  else d

def execBarrier (port seq kind half pos size k path at0 : Nat) (s : State) : Host.Outcome State Fault Refusal :=
  run (decide (port < 3 ∧ seq < 4096 ∧ kind < 2 ∧ half < 6 ∧ pos < 32 ∧ size ≤ 32 ∧ k < 65536))
    (recv port seq (barrier port kind half pos size k path at0)) s

/-- The device waits at the barrier (Table 10.4, step 1). -/
def waitBarrier (d : Dev) : Dev :=
  let pos := dget R.RING_POSITION d
  sendBarrier 3 0 (2 * ownRole d) pos (ringSize d) 0 0 (dset R.BARRIER_STATE 1 (addWaits (pos :: roleMark 0 (ownRole d)) d))

/-- A SYSREF edge of the clock-reference port at ac t while the device waits: the leader, once every member waits, sends K
(Table 10.4, steps 2 and 3). -/
def leaderEdge (t : Nat) (d : Dev) : Dev :=
  if isLeader d && allWait d && d.lnk.barEdge.isNone then
    let k := dget R.BARRIER_LEAD_PERIODS d
    let per := sysrefPeriod d (dget R.CLOCK_REF_PORT d)
    sendBarrier 3 1 0 0 (ringSize d) k 0 { d with lnk := { d.lnk with barEdge := some (t + k * per) } }
  else d

/-! ### The mirror pair (R419 to R423) -/

/-- The frame with these low 24 bits that lies nearest to the frame in progress. -/
def nearFrame (d : Dev) (low : Nat) : Nat :=
  let c := d.grid.nextB
  let k := (low + 2 ^ 24 - c % 2 ^ 24) % 2 ^ 24
  if k < 2 ^ 23 then c + k else if 2 ^ 24 ≤ c + k then c + k - 2 ^ 24 else low

/-- MIRROR_STATUS: the partner's status for a frame, recorded if it comes before the frame's check (R420). -/
def mirrorStatus (frame : Nat) (d : Dev) : Dev :=
  let n := nearFrame d frame
  if d.grid.nextAlone ≤ n then { d with lnk := { d.lnk with status := (n :: d.lnk.status).take 64 } } else d

def execMirrorStatus (seq frame role active : Nat) (s : State) : Host.Outcome State Fault Refusal :=
  run (decide (seq < 4096 ∧ frame < 2 ^ 24 ∧ role < 3 ∧ active < 2)) (recv 2 seq (mirrorStatus frame)) s

/-- At E_n a device that runs frame n normally says so (R420). -/
def sendStatus (n : Nat) (d : Dev) : Dev :=
  if dget R.MIRROR_ROLE d ≠ 0 ∧ frameRuns d n then
    sendFlit 2 7 [n % 2 ^ 24, dget R.MIRROR_ROLE d, dget R.MIRROR_ACTIVE d] d
  else d

/-- Takeover and return of a secondary under policy 1 (R422). -/
def standby (n : Nat) (d : Dev) : Dev :=
  if dget R.MIRROR_ROLE d ≠ 2 ∨ dget R.MIRROR_LINE_POLICY d ≠ 1 then d
  else if dget R.MIRROR_ACTIVE d = 0 ∧ dget R.TAKEOVER_FRAMES d ≤ d.lnk.aloneRun then
    report 0x0444 n 1 (bump R.MIRROR_TAKEOVERS (dset R.MIRROR_ACTIVE 1 d))
  else if dget R.MIRROR_ACTIVE d = 1 ∧ dget R.GIVEBACK_FRAMES d ≤ d.lnk.okRun then
    report 0x0444 n 0 (bump R.MIRROR_TAKEOVERS (dset R.MIRROR_ACTIVE 0 d))
  else d

/-- The frame's ACTIVE, by which its lines are driven (R422). -/
def markActive (n : Nat) (d : Dev) : Dev := modFrame n (fun f => { f with active := decide (dget R.MIRROR_ACTIVE d = 1) }) d

/-- MIRROR_ALONE_CHECK (R420, R422). A miss that neither a lost mirror flit nor the link explains is the partner's restart or pause; what
comes back after a restart opens the settle window of R421 (log entry 94). -/
def mirrorAloneCheck (d : Dev) : Dev :=
  let n := d.grid.nextAlone
  if ringPassed d n = false then d
  else
    let d := { d with grid := { d.grid with nextAlone := n + 1 } }
    if dget R.MIRROR_ROLE d = 0 then d
    else
      let d := advTo (eAt d n + 136) d
      if frameRuns d n = false then markActive n d
      else
        let x := d.lnk
        let fair := !x.flawed && decide (linkState d 2 = 2)
        if x.status.contains n then
          markActive n (standby n { d with lnk := { x with okRun := x.okRun + 1, aloneRun := 0, missed := false, flawed := false,
                                                           peerBack := if x.missed then some n else x.peerBack } })
        else
          let d := bump R.MIRROR_ALONE_FRAMES (modFrame n (fun f => { f with alone := true }) d)
          markActive n (standby n { d with lnk := { x with aloneRun := x.aloneRun + 1, okRun := 0, flawed := false,
                                                           missed := x.missed || fair } })

def execMirrorAloneCheck (s : State) : Host.Outcome State Fault Refusal := run true mirrorAloneCheck s

/-- Frame n lies within MIRROR_SETTLE frames after a rejoin at frame r. -/
def settling (d : Dev) (n : Nat) (r : Option Nat) : Bool :=
  match r with | some r => decide (r ≤ n ∧ n < r + dget R.MIRROR_SETTLE d) | none => false

/-- The comparison of Table 17.5, once both words of frame n are there. -/
def mirrorCompare (n : Nat) (d : Dev) : Dev :=
  match tget none d.lnk.ours n, tget none d.lnk.theirs n with
  | some a, some b =>
    let d := { d with lnk := { d.lnk with ours := tset none d.lnk.ours n none, theirs := tset none d.lnk.theirs n none } }
    if bits a.1 58 56 ≠ 0 ∨ bits b.1 58 56 ≠ 0 then d
    else if a.2 ≠ b.2 then bump R.MIRROR_INPUT_DIFFER d
    else if bits a.1 31 0 = bits b.1 31 0 then d
    else if settling d n d.lnk.rejoin || settling d n d.lnk.peerBack then
      bump R.MIRROR_SETTLING d
    else reportLim acPerS 0 0x0443 n (bits a.1 31 0 * 2 ^ 32 + bits b.1 31 0) (bump R.MIRROR_DISAGREE d)
  | _, _ => d

/-- A partner word with RESUMED says that the partner came back from a pause, and not from a restart (R247, R421). -/
def fromPause (n word : Nat) (d : Dev) : Dev :=
  if bit word 57 ∧ d.lnk.peerBack = some n then { d with lnk := { d.lnk with peerBack := none } } else d

/-- MIRROR_VERDICT: the partner's word and fingerprint of a frame arrive. -/
def mirrorVerdict (frame word fp : Nat) (d : Dev) : Dev :=
  let n := nearFrame d frame
  let d := fromPause n word d
  mirrorCompare n { d with lnk := { d.lnk with theirs := (tset none d.lnk.theirs n (some (word, fp))).filter (fun e => decide (n < e.1 + 64)) } }

def execMirrorVerdict (seq frame word fp : Nat) (s : State) : Host.Outcome State Fault Refusal :=
  run (decide (seq < 4096 ∧ frame < 2 ^ 24 ∧ word < 2 ^ 64 ∧ fp < 2 ^ 128)) (recv 2 seq (mirrorVerdict frame word fp)) s

end Sys2Proof.Machine
end

