-- ==== Sys2Proof/Machine/Verdict.lean ====
section
/-! DEFINITION. The verdict collector, the ring wait, the verdict word and lines, the condition vector, patterns and triggers
(chapter 11, R415, R416, R421). -/

namespace Sys2Proof.Machine

/-! ### Collector (R273 to R275) -/

/-- A schedule fault's mark on its frame, without the report (R166). -/
def schedMark (n : Nat) (d : Dev) : Dev :=
  let d := if d.fab.faulted.contains n then d
    else bump R.SCHEDULE_FAULT_FRAMES { d with fab := { d.fab with faulted := (n :: d.fab.faulted).take 512 } }
  invalidate n (dset R.LAST_SCHEDULE_FAULT_FRAME n d)

/-- The earliest of a list of timed tokens. -/
def firstTimed (l : List Timed) : Option Timed :=
  l.foldl (fun b x => match b with | none => some x | some y => if x.due < y.due then some x else some y) none

/-- ac at which the collector closes frame n. -/
def closeAt (d : Dev) (n : Nat) : Nat := eAt d n + 62 + (frameOf d n).la

/-- VERDICT_TOKEN: the next verdict token reaches the collector (R273, R275). -/
def verdictToken (d : Dev) : Dev :=
  match firstTimed d.fab.vtoks with
  | none => d
  | some x =>
    let d := advTo x.due { d with fab := { d.fab with vtoks := d.fab.vtoks.erase x } }
    let n := fullFrame (curFrame d) (tagFrame x.tok.tag)
    let w := bits x.tok.tag 7 2
    if n < d.grid.nextClose ∨ (n < d.grid.nextT ∧ closeAt d n < x.due) then
      schedMark n (report 0x1101 n w (bump R.VERDICT_LATE_TOKENS d))
    else
      let bad := x.tok.poison || decide (7 < w)
      let d := if x.tok.poison then bump R.VERDICT_POISONED d else d
      let d := if 7 < w then bump R.VERDICT_BAD_ITER d else d
      modFrame n (fun f => { f with
        tokens := f.tokens + 1, bad := f.bad || bad
        cls := if bad then f.cls else f.cls ||| (x.tok.payload % 2 ^ 64) * 2 ^ (64 * w) }) d

def execVerdictToken (s : State) : Host.Outcome State Fault Refusal := run true verdictToken s

/-- VERDICT_CLOSE: the collector closes frame n and counts its tokens (R274, R275); the merges that its CAL_STALE rests on
are over (R186). -/
def verdictClose (d : Dev) : Dev :=
  let n := d.grid.nextClose
  if ringPassed d n = false then d
  else
    let d := mergeTo (n - 2) (n + 1) (advTo (closeAt d n) d)
    let f : Frame := { frameOf d n with calStale := calStaleOf d n }
    let d := { d with grid := { d.grid with nextClose := n + 1 } }
    if f.lost ∨ f.paused then d
    else
      let short := decide (f.tokens ≠ dget (R.VERDICT_EXPECTED f.ctx) d)
      let d := if short then bump R.VERDICT_MISSING d else d
      setFrame n { f with closed := true, invalid := f.invalid || f.bad || short } d

def execVerdictClose (s : State) : Host.Outcome State Fault Refusal := run true verdictClose s

/-! ### Ring writes and the ring wait (R135, R415, R416) -/

/-- RING_WRITE_ARRIVAL: the next RING write reaches the hub. A late one is discarded and made a schedule fault, which has no row
in Table 6.6: ARG0 of its report is a free value. -/
def ringWriteArrival (d : Dev) : Dev :=
  match d.fab.rwrites.foldl (fun (b : Option RWrite) x => match b with
      | none => some x | some y => if x.due < y.due then some x else some y) none with
  | none => d
  | some x =>
    let d := advTo x.due { d with fab := { d.fab with rwrites := d.fab.rwrites.erase x } }
    let n := fullFrame (curFrame d) (tagFrame x.tag)
    if n < d.grid.nextSend ∨ (n < d.grid.nextT ∧ sendAt d n < x.due) then
      let (v, d) := draw (bump R.RING_WRITES_LATE d)
      report 0x1081 v n (schedMark n d)
    else modFrame n (fun f => { f with
      contrib := tset none f.contrib x.slot (some (x.val % 2 ^ 64 + (if x.poison then 2 ^ 64 else 0))) }) d

def execRingWriteArrival (s : State) : Host.Outcome State Fault Refusal := run true ringWriteArrival s

/-- Reading of ring word k for frame n: value; 1 absent; 2 absent and late; 3 poisoned (R286, R415). -/
def ringWord (d : Dev) (n k : Nat) : Nat × Nat :=
  let sel := dget (R.RING_WORD_SELECT k) d
  let src := bits sel 7 3
  let slot := bits sel 2 1
  let fill := dget (R.RING_WORD_FILL k) d
  if bit sel 0 = false ∨ inRing d src = false then (0, 0)
  else
    match d.lnk.inbox.find? (fun c => decide (c.frame = n ∧ c.src = src)) with
    | none => (fill, 2)
    | some c =>
      if bit c.valid slot = false then (fill, 0)
      else if bit c.poison slot then (fill, 3)
      else (c.slots.getD slot 0, 0)

/-- RING_DEADLINE: at D_n the enabled ring words take their readings, a late contribution that several words name counts once (R45),
and the class bits of frame n enter the condition vector; a frame that forms no verdict word enters as 0 (R284, R286, R415). -/
def ringDeadline (d : Dev) : Dev :=
  let n := d.grid.nextDead
  if ringPassed d n = false ∨ d.grid.nextSend ≤ n ∨ d.grid.nextClose ≤ n then d
  else
    let d := advTo (deadAt d n) d
    let f := frameOf d n
    let d := { d with grid := { d.grid with nextDead := n + 1 } }
    if f.lost ∨ f.paused then
      { d with trig := { d.trig with cls := 0, ringWords := [], vframe := none } }
    else
      let rs := (List.range 7).map (ringWord d n)
      let late := ((rs.zipIdx.filter (fun r => decide (r.1.2 = 2))).map (fun r => bits (dget (R.RING_WORD_SELECT r.2) d) 7 1)).eraseDups.length
      let pois := rs.countP (fun r => decide (r.2 = 3))
      let d := bumpBy R.RING_POISONED pois (bumpBy R.TIMING_CHOICES late (bumpBy R.RING_LATE_COUNT late d))
      let d := if late + pois = 0 then d else modFrame n (fun f => { f with late := true }) d
      { d with trig := { d.trig with
        cls := if f.invalid then 0 else f.cls, vframe := some n
        ringWords := tsetRun 0 [] 0 (rs.map Prod.fst) } }

def execRingDeadline (s : State) : Host.Outcome State Fault Refusal := run true ringDeadline s

/-! ### The verdict word (R276) -/

/-- The setting of line k that applies to frame f: mode byte, source, width, action for INVALID. -/
def lineOf (f : Frame) (k : Nat) : Nat × Nat × Nat × Nat := f.vl.getD k (0, k, 600, 0)

/-- CLASS (R276, R277). -/
def classOf (f : Frame) : Nat :=
  (List.range 32).foldl (fun w k => if bit f.cls (lineOf f k).2.1 then w + 2 ^ k else w) 0

/-- The verdict word of frame n (Table 11.2). -/
def verdictWord (d : Dev) (n : Nat) : Nat :=
  let f := frameOf d n
  let b := fun (x : Bool) (k : Nat) => if x then 2 ^ k else 0
  b f.calStale 60 + b f.alone 59 + b f.late 58 + b f.resumed 57 + b f.invalid 56 + n % 2 ^ 24 * 2 ^ 32 + classOf f

/-- Flags and class bits of a verdict word are free while an undefined use is in force (R15). -/
def freeClass (word : Nat) (d : Dev) : Nat × Dev :=
  if d.undef then
    let (v, d) := draw d
    (bits word 55 32 * 2 ^ 32 + v % 2 ^ 32 + v / 2 ^ 32 % 32 * 2 ^ 56, d)
  else (word, d)

/-- MIRROR_VERDICT_SEND (R421). -/
def mirrorVerdictSend (d : Dev) : Dev :=
  let n := d.grid.nextMv
  if ringPassed d n = false ∨ d.grid.nextDead ≤ n ∨ (64 < (frameOf d n).la + (frameOf d n).lr ∧ d.grid.nextAlone ≤ n) then d
  else
    let d := { d with grid := { d.grid with nextMv := n + 1 } }
    if dget R.MIRROR_ROLE d = 0 ∨ frameRuns d n = false then d
    else
      let f := frameOf d n
      let d := advTo (eAt d n + 72 + f.la + f.lr) d
      let (w, d) := freeClass (verdictWord d n) d
      let fp := f.fpDigest.getD 0
      let d := sendFlit 2 8 [n % 2 ^ 24, w, fp] d
      mirrorCompare n { d with lnk := { d.lnk with ours := (tset none d.lnk.ours n (some (w, fp))).filter (fun e => decide (n < e.1 + 64)) } }

def execMirrorVerdictSend (s : State) : Host.Outcome State Fault Refusal := run true mirrorVerdictSend s

/-! ### Verdict lines (R278 to R281, R422) -/

/-- What the device drives on line k, none while the pin is high-impedance (R280, R510): while POR_N is low nothing, with TEST_EN high
VLINE_TEST_DRIVE, and otherwise the line's level. -/
def lineDrive (d : Dev) (k : Nat) : Option Bool :=
  if d.pins.porN = false then none
  else some (bit (if d.pins.testEn then dget R.VLINE_TEST_DRIVE d else dget R.VLINE_STATE d) k)

/-- What pulls a line that is high-impedance: the strap pin of its group, and nothing without VDDIO_FIELD (R510). -/
def linePull (d : Dev) (field strap0 strap1 : Bool) (k : Nat) : Option Bool :=
  if (lineDrive d k).isSome || !field then none else some (if k < 16 then strap0 else strap1)

/-- Pin levels: what is driven, or the pull. DESIGN CHOICE (log entry 170): no command tells the level of a strap pin or of VDDIO_FIELD
between two releases of POR_N, so the pull is that of the straps as they were sampled last. -/
def linePins (d : Dev) : Nat :=
  (List.range 32).foldl (fun w k =>
    if (lineDrive d k).getD ((linePull d true d.pins.safe0 d.pins.safe1 k).getD false) then w + 2 ^ k else w) 0

/-- Line k at the edge of frame n (Tables 11.3 and 11.4): level, whether it is latched, the end of a pulse, and the unlatch that
stays in force. The class bits and the INVALID flag are those of the verdict word. An unlatch is used up by the first frame from its own on
that is not INVALID and whose bit is 0, whatever the line's mode in it (R279). -/
def lineEdge (d : Dev) (n k : Nat) (word : Nat) (safe : Bool) : Bool × Bool × Option Nat × Option Nat :=
  let f := frameOf d n
  let (m, _, width, act) := lineOf f k
  let inv := bit m 2
  let bad := bit word 56
  let b := bit word k
  let was := bit (dget R.VLINE_STATE d) k
  let lat := bit d.trig.latched k
  let un := tget none d.trig.unlatch k
  let pe := tget none d.trig.pulseEnd k
  let lvl := fun (a : Bool) => a != inv
  let due := match un with | some g => decide (g ≤ n) | none => false
  let left := if due && !b then none else un
  let kept := lat && !(due && !b)
  if bad && !safe && decide (m % 4 ≠ 3) then
    if act = 0 then (safeLevel d k, lat, none, un) else (was, lat, pe, un)
  else if safe || decide (m % 4 = 3) then (safeLevel d k, kept, none, left)
  else if m % 4 = 0 then (lvl b, kept, none, left)
  else if m % 4 = 1 then (lvl b, kept, if b then some (eAt d n + dget R.VERDICT_LATENCY d + width) else none, left)
  else
    let on := b || (lat && !due)
    (lvl on, on, none, left)

/-- Every line takes its level at the edge of frame n. -/
def lineEdges (n word : Nat) (safe : Bool) (d : Dev) : Dev :=
  let rs := (List.range 32).map (fun k => lineEdge d n k word safe)
  let mask := fun (g : Bool × Bool × Option Nat × Option Nat → Bool) =>
    rs.zipIdx.foldl (fun w r => if g r.1 then w + 2 ^ r.2 else w) 0
  let put := fun (g : Bool × Bool × Option Nat × Option Nat → Option Nat) =>
    rs.zipIdx.foldl (fun t r => tset none t r.2 (g r.1)) ([] : Tab (Option Nat))
  dset R.VLINE_STATE (mask (fun r => r.1))
    { d with trig := { d.trig with latched := mask (fun r => r.2.1), pulseEnd := put (fun r => r.2.2.1), unlatch := put (fun r => r.2.2.2) } }

/-- VLINE_PULSE_END (R278). -/
def vlinePulseEnd (k : Nat) (d : Dev) : Dev :=
  match tget none d.trig.pulseEnd k with
  | none => d
  | some t =>
    let d := advTo t d
    let v := dget R.VLINE_STATE d
    dset R.VLINE_STATE (setBit v k (!bit v k)) { d with trig := { d.trig with pulseEnd := tset none d.trig.pulseEnd k none } }

def execVlinePulseEnd (line : Nat) (s : State) : Host.Outcome State Fault Refusal :=
  run (decide (line < 32)) (vlinePulseEnd line) s

/-- VLINE_UNLATCH: the write waits for the next growth ring (R279). -/
def vlineUnlatch (mask : Nat) (d : Dev) : Dev := { d with trig := { d.trig with unlatchNew := d.trig.unlatchNew ||| mask } }

/-- The verdict record of frame n (Table 14.7); its write starts 24 ac after its issue at the earliest (Table 10.2). -/
def verdictRec (d : Dev) (n word : Nat) : Rec :=
  let f := frameOf d n
  let on := bit f.audit 0
  let dg := if on then auditDigest (auditHead d n) 1 (bytesOf (word - bit57 word - bit59 word - n % 2 ^ 24 * 2 ^ 32) 8) else 0
  { kind := 1, epoch := 0, frame := some n, link := none, audit := false, due := d.now + 24
    words := [n, word, f.ctx] ++ stationWords d n (((fLen d + dget R.VERDICT_LATENCY d : Nat) : Int) * 256 - 56 * 256)
      ++ digestWords dg }
where
  bit57 (w : Nat) : Nat := if bit w 57 then 2 ^ 57 else 0
  bit59 (w : Nat) : Nat := if bit w 59 then 2 ^ 59 else 0

/-- The issue time of frame s of a stop: the lines go to their safe level, and no frame is issued (R497). -/
def issueEnd (n : Nat) (d : Dev) : Dev :=
  gapAtEnd (linesSafe (advTo (eAt d n + dget R.VERDICT_LATENCY d) { d with grid := { d.grid with nextIssue := n + 1 } }))

/-- VERDICT_ISSUE: at E_n + VERDICT_LATENCY (R41, R280, R358). -/
def verdictIssue (d : Dev) : Dev :=
  let n := d.grid.nextIssue
  if d.grid.endF = some n then issueEnd n d
  else if ringPassed d n = false ∨ d.grid.nextDead ≤ n ∨ (dget R.MIRROR_ROLE d ≠ 0 ∧ d.grid.nextAlone ≤ n) then d
  else
    let d := advTo (eAt d n + dget R.VERDICT_LATENCY d) d
    let d := dset R.FRAME_NUMBER n { d with grid := { d.grid with nextIssue := n + 1 } }
    let f := frameOf d n
    if f.lost then stopEnds (gapAtEnd (linesSafe d))
    else if f.paused && !armed d then
      issueEnd ((d.grid.endF).getD n) { d with grid := { d.grid with nextIssue := n } }
    else if f.paused then
      let g : Rec := { kind := 5, epoch := (ringOf d 0).epoch, frame := some n, link := none, audit := false
                       words := [n, n, 2] ++ bWords d n }
      stopEnds (gapAtEnd (loseRec 0 2 g (linesSafe d)))
    else
      let (w, d) := freeClass (verdictWord d n) d
      let d := if f.invalid then bump R.INVALID_FRAMES d else d
      let d := setFrame n { f with word := w } d
      let active := if n < d.grid.nextAlone then f.active else decide (dget R.MIRROR_ACTIVE d = 1)
      let off := decide (dget R.MIRROR_ROLE d = 2 ∧ dget R.MIRROR_LINE_POLICY d = 1) && !active
      let hold := decide (n < d.flt.safeBelow)
      stopEnds (gapAtEnd (pushRec 0 (verdictRec d n w) (lineEdges n w (off || hold) d)))

def execVerdictIssue (s : State) : Host.Outcome State Fault Refusal := run true verdictIssue s

/-! ### The condition vector (R282 to R286) -/

/-- The vector at ac x (Table 11.5). -/
def condVector (d : Dev) (x : Nat) : Nat :=
  let put := fun (base : Nat) (bs : List Bool) =>
    2 ^ base * (bs.foldr (fun b w => (if b then 1 else 0) + 2 * w) 0)
  put 0 ((List.range 1024).map (fun c => flagBit (chanOf d c) (evalGet d (R.COINC_WINDOW c)) x))
    + 2 ^ 1024 * (d.trig.cls % 2 ^ 512)
    + put 1536 ((List.range 32).map (fun k => edgeAt (tget EdgeIn.rest d.edges k).bits (evalGet d (R.EDGE_WINDOW k)) x))
    + 2 ^ 1568 * (dget R.FE_PRESENT d % 2 ^ 16)
    + 2 ^ 1584 * (evalGet d R.HOST_BITS % 2 ^ 16)
    + (List.range 7).foldl (fun w k => w + 2 ^ (1600 + 64 * k) * tget 0 d.trig.ringWords k) 0

/-! ### Patterns (R287 to R291) -/

/-- Number of ones of a 2,048-bit word. -/
def ones (w : Nat) : Nat := (List.range 2048).countP (fun i => bit w i)

/-- Pattern p matches vector v (R287). -/
def patMatch (d : Dev) (p v : Nat) : Bool :=
  let m := evalGet d (R.PAT_MASK p)
  let diff := (v ^^^ evalGet d (R.PAT_VALUE p)) &&& m
  if m = 0 then false
  else if evalGet d (R.PAT_MODE p) = 0 then decide (diff = 0)
  else decide (evalGet d (R.PAT_K p) ≤ ones m - ones diff)

/-- What pattern p does at ac x: 0 nothing, 1 fires, 2 fires as forced (R289, R290). -/
def patStep (x v p : Nat) (r : Dev × List (Nat × Bool)) : Dev × List (Nat × Bool) :=
  let (d, fired) := r
  let s := tget Pat.rest d.trig.pats p
  let m := patMatch d p v
  let en := decide (evalGet d (R.PAT_ENABLE p) = 1)
  let rise := m && !s.matched
  let held := match s.firedAt with | some t => decide (x < t + evalGet d (R.PAT_HOLDOFF p)) | none => false
  let real := en && rise && !held
  let auto := evalGet d (R.PAT_AUTO p)
  let from0 := s.autoFrom.getD d.trig.start
  let forced := en && !real && decide (auto ≠ 0 ∧ from0 + auto ≤ x)
  let d := if en && rise && held then bump (R.PAT_SUPPRESSED p) d else d
  let d := if real || forced then bump (R.PAT_HITS p) d else d
  let d := if forced then bump (R.PAT_FORCED p) d else d
  let s' := if real || forced then { s with matched := m, firedAt := some x, autoFrom := some x } else { s with matched := m }
  let d := { d with trig := { d.trig with pats := tset Pat.rest d.trig.pats p s' } }
  (d, if real || forced then fired ++ [(p, forced)] else fired)

/-! ### Triggers (R291 to R295) -/

/-- The rising edge that set a vector bit that reads 1 at ac x: the latest one at which the stretched bit rose, `origin` where that
lies further back than what is listed. -/
def riseOf (rs : List Rise) (origin : Option Rise) (prior : Nat → Bool) (x : Nat) : Option Rise :=
  let seen := rs.filter (fun r => decide (r.seen ≤ x))
  match seen.find? (fun r => !prior (r.seen - 1)) with
  | some r => some r
  | none => match origin with
    | some r => if r.seen ≤ x then some r else seen.head?
    | none => seen.head?

/-- Crossing of the primary pattern: source code (Table 11.6), frame, time from its B in 1/256 ac, calibration state (R293). -/
def triggerCross (d : Dev) (p v x : Nat) : Option (Nat × Nat × Int × Bool) :=
  let care := evalGet d (R.PAT_MASK p) &&& evalGet d (R.PAT_VALUE p) &&& v
  let l : Int := ((fLen d * 256 : Nat) : Int)
  let chs := (List.range 1024).filterMap (fun c =>
    if bit care c then
      let w := evalGet d (R.COINC_WINDOW c)
      (riseOf (chanOf d c).rises (chanOf d c).origin (flagBit (chanOf d c) w) x).map (fun r => (2 ^ 15 + c, r.frame, r.t, r.cal))
    else none)
  let eds := (List.range 32).filterMap (fun k =>
    if bit care (1536 + k) then
      let e := tget EdgeIn.rest d.edges k
      (riseOf e.rises e.origin (edgeAt e.bits (evalGet d (R.EDGE_WINDOW k))) x).map (fun r => (2 ^ 15 + 2 ^ 14 + k, r.frame, r.t, r.cal))
    else none)
  (chs ++ eds).foldl (fun b c => match b with
    | none => some c
    | some y => if ((c.2.1 : Int) * l + c.2.2.1) < ((y.2.1 : Int) * l + y.2.2.1) then some c else some y) none

/-- Patterns that fired at ac x, tick `tk` of frame n, form one trigger (R291 to R293, R316, R317). -/
def trigger (x n tk v : Nat) (fired : List (Nat × Bool)) (d : Dev) : Dev :=
  match fired with
  | [] => d
  | (p0, _) :: _ =>
    let cr := triggerCross d p0 v x
    let place := match cr with
      | some c => normCross d c.2.1 c.2.2.1
      | none => (n, tk * 256)
    let named := distinct ((fired.map (fun f => evalGet d (R.PAT_GROUP f.1))).filter (fun g => decide (g < 16)))
    let t : Trigger := {
      ident := d.trig.count + 1, frame := n, tick := tk
      fired := (fired.map (fun f => 2 ^ f.1)).foldl (· + ·) 0
      forced := ((fired.filter (fun f => f.2)).map (fun f => 2 ^ f.1)).foldl (· + ·) 0
      primary := p0, post := (fired.map (fun f => evalGet d (R.PAT_POST f.1))).foldl max 0
      groups := ((groupsOn d named).map (fun g => 2 ^ g)).foldl (· + ·) 0
      source := (cr.map (fun c => c.1)).getD 0
      cal := (cr.map (fun c => c.2.2.2)).getD (decide (dget R.TDC_CAL_STATE d = 1))
      xframe := place.1, xoffset := place.2
      vframe := d.trig.vframe.getD (2 ^ 64 - 1) }
    let d := { d with trig := { d.trig with count := t.ident, waiting := d.trig.waiting ++ [t] } }
    let d := dset R.LAST_TRIGGER_FRAME n (bump R.TRIGGERS d)
    requestAll t named d
where
  distinct : List Nat → List Nat
    | [] => []
    | a :: r => if r.contains a then distinct r else a :: distinct r

/-- The next ac to evaluate. -/
def nextEval (d : Dev) : Nat := match d.trig.lastEval with | some e => e + 1 | none => d.trig.start

/-- The ac's tick: frame and offset, when the ac's frame has begun and belongs to the grid. -/
def evalTick (d : Dev) (x : Nat) : Option (Nat × Nat) :=
  if d.grid.nextB = 0 ∨ arrayState d ≠ 2 ∨ x < d.grid.b0 + 64 then none
  else
    let o := x - 64 - d.grid.b0
    let n := o / fLen d
    if d.grid.nextB ≤ n ∨ (match d.grid.endF with | some e => decide (e ≤ n) | none => false) = true then none
    else some (n, o % fLen d)

/-- One evaluation of the pattern unit; frames that are lost or paused are not evaluated (R245, R294). -/
def evalOnce (d : Dev) : Dev :=
  let x := nextEval d
  match evalTick d x with
  | none => d
  | some (n, tk) =>
    let d := advTo x d
    let d := { d with trig := { d.trig with lastEval := some x } }
    let f := frameOf d n
    if f.lost || f.paused then d
    else
      let v := condVector d x
      let r := (List.range 64).foldl (fun r p => patStep x v p r) (d, [])
      trigger x n tk v r.2 r.1

/-- CONDITION_VECTOR_EVAL: the next ac is evaluated (R282, R289). -/
def execConditionVectorEval (s : State) : Host.Outcome State Fault Refusal := run true evalOnce s

/-- PAT_AUTO_EXPIRY: the evaluation of the next ac, if pattern p's auto timer has run out by then (R290). -/
def patAutoExpiry (p : Nat) (d : Dev) : Dev :=
  let s := tget Pat.rest d.trig.pats p
  let a := evalGet d (R.PAT_AUTO p)
  if evalGet d (R.PAT_ENABLE p) = 1 ∧ a ≠ 0 ∧ s.autoFrom.getD d.trig.start + a ≤ nextEval d then evalOnce d else d

def execPatAutoExpiry (p : Nat) (s : State) : Host.Outcome State Fault Refusal := run (decide (p < 64)) (patAutoExpiry p) s

/-- TRIGGER_RECORD: the first waiting trigger's record enters the trigger ring's queue (R295). -/
def triggerRecord (d : Dev) : Dev :=
  match d.trig.waiting with
  | [] => d
  | t :: r =>
    let f := frameOf d t.frame
    if d.grid.nextIssue ≤ t.frame ∧ f.lost = false ∧ (running d ∨ ending d) then d
    else
      let d := advTo (eAt d t.frame + dget R.VERDICT_LATENCY d) { d with trig := { d.trig with waiting := r } }
      let head := auditHead d t.frame
      let on := bit f.audit 1
      let dg := if on then auditDigest head 2 (bytesOf t.fired 8 ++ [t.primary, 0, 0, 0] ++ bytesOf t.tick 4 ++ bytesOf t.post 4 ++ [0, 0, 0, 0]) else 0
      let b := fun (x : Bool) (k : Nat) => if x then 2 ^ k else 0
      let flags := b f.invalid 16 + b f.late 17 + b (bit t.forced t.primary) 18 + b t.cal 19
      let ws := [t.frame, t.tick * 2 ^ 32 + t.primary * 2 ^ 24 + flags, t.fired, t.forced,
          t.post * 2 ^ 32 + t.groups * 2 ^ 16 + t.source, t.xframe, t.xoffset * 2 ^ 32, t.vframe]
        ++ stationWords d t.frame (((t.tick : Int) - 56) * 256) ++ digestWords dg
      let d := pushRec 1 { kind := 2, epoch := 0, frame := some t.frame, words := ws, link := some t.ident, audit := on } d
      capsAfterTrigger t.ident head d

def execTriggerRecord (s : State) : Host.Outcome State Fault Refusal := run true triggerRecord s

end Sys2Proof.Machine
end

