-- ==== Sys2Proof/Machine/Contexts.lean ====
section
/-! DEFINITION. Context slots, switching, the fallback, pause, save and resume (chapter 9). -/

namespace Sys2Proof.Machine

def modCtx (g : Ctx → Ctx) (d : Dev) : Dev := { d with ctx := g d.ctx }

/-! ### Frames that a write names (R237, R371) -/

/-- The lowest frame whose cut-off is still to come. -/
def nextCut (d : Dev) : Nat := if running d then d.grid.nextC else 0

/-- The frame at whose growth ring a write accepted now takes effect, when it names frame `g`, 0 for the first possible one;
`next` is the first frame whose cut-off it can still meet. -/
def frameFor (d : Dev) (next g : Nat) : Option Nat :=
  if armed d = false ∨ ending d then none else if g = 0 then some next else if g < next then none else some g

/-! ### Switching (R235, R237 to R239, R243, R250) -/

/-- CONTEXT_SWITCH, the value written, with the first frame it can meet: the effect, and the abort code. -/
def contextSwitch (next v : Nat) (d : Dev) : Dev × Nat :=
  match frameFor d next (v / 256) with
  | none => (d, 0xA00B)
  | some g =>
    if switchable d (v % 4) then (dset R.PENDING_SWITCH (g % 2 ^ 56 * 256 + 128 + v % 4) d, 0) else (d, 0xA00B)

/-- A pending switch: its frame and its slot. -/
def pendingSwitch (d : Dev) : Option (Nat × Nat) :=
  let v := dget R.PENDING_SWITCH d
  if bit v 7 then some (v / 256, v % 4) else none

/-- A slot becomes current in frame n, and the one before it drains. -/
def makeCurrent (n slot : Nat) (d : Dev) : Dev :=
  let old := dget R.CURRENT_CONTEXT d
  let d := if dget (R.SLOT_STATE old) d = 3 then
      dset (R.SLOT_STATE old) 4 (modCtx (fun c => { c with drain := tset none c.drain old (some n) }) d) else d
  let d := modCtx (fun c => { c with drain := tset none c.drain slot none }) (dset (R.SLOT_STATE slot) 3 d)
  dset R.COMPILED_LATENCY (loadedOf d slot).lc (dset R.CURRENT_CONTEXT slot d)

/-- The switch to a slot at the growth ring of frame n; a switch to the current slot changes nothing, and one to a slot that may
no longer be switched to is dropped (R238, R239, Table 9.6). -/
def switchTo (n slot : Nat) (d : Dev) : Dev :=
  let old := dget R.CURRENT_CONTEXT d
  if switchable d slot = false then report 0x0202 n slot d
  else if slot = old then d
  else
    let d := dset R.SWITCH_FRAME n (bump R.CONTEXT_SWITCHES (makeCurrent n slot d))
    report 0x0201 n (old * 256 + slot) d

/-- A canopy switch, then the host's, at the growth ring of frame n (R243, Table 9.6). -/
def switchAtRing (n : Nat) (d : Dev) : Dev :=
  if d.ctx.canopy = 1 then
    let d := modCtx (fun c => { c with canopy := 0, prevSlot := dget R.CURRENT_CONTEXT d }) d
    switchTo n 3 (dset R.FALLBACK_HELD 1 d)
  else if d.ctx.canopy = 2 then
    let d := dset R.FALLBACK_HELD 0 (modCtx (fun c => { c with canopy := 0 }) d)
    match pendingSwitch d with
    | some (_, k) => switchTo n k (dset R.PENDING_SWITCH 0 d)
    | none => switchTo n d.ctx.prevSlot d
  else if dget R.FALLBACK_HELD d = 1 then d
  else match pendingSwitch d with
    | some (g, k) => if g ≤ n then switchTo n k (dset R.PENDING_SWITCH 0 d) else d
    | none => d

/-- No egress buffer holds a token of a slot (R235). -/
def egressFree (d : Dev) (slot : Nat) : Bool :=
  d.cores.all (fun c => c.2.egress.all (fun x => decide (tagCtx x.tok.tag ≠ slot)))

/-- SLOT_DRAINED: a slot that stopped being current at the growth ring of frame g has nothing in flight any more: the growth
ring of frame g + 2 has passed the last core, or would have, had the array not been stopped (R235; log entry 8). -/
def slotDrained (slot : Nat) (d : Dev) : Dev :=
  match tget none d.ctx.drain slot with
  | none => d
  | some g =>
    if (running d ∧ d.grid.nextT ≤ g + 2) ∨ egressFree d slot = false then d
    else
      let d := if arrayState d = 1 then d else advTo (t0At d (g + 2) + dget R.GROWTH_RING_SPAN d) d
      dset (R.SLOT_STATE slot) 2 (modCtx (fun c => { c with drain := tset none c.drain slot none }) d)

def execSlotDrained (slot : Nat) (s : State) : Host.Outcome State Fault Refusal :=
  run (decide (slot < 4)) (slotDrained slot) s

/-- FALLBACK_ENABLE (R242). -/
def fallbackEnable (v : Nat) (d : Dev) : Dev × Nat :=
  if v = 1 ∧ switchable d 3 = false then (d, 0xA00B) else (dset R.FALLBACK_ENABLE v d, 0)

/-! ### Pause and resume (R245 to R250) -/

def pauseState (d : Dev) : Nat := dget R.PAUSE_STATE d

/-- PAUSE_COMMAND code 1. -/
def pause (p : Nat) (d : Dev) : Dev × Nat :=
  match frameFor d (nextCut d) p with
  | none => (d, 0xA00B)
  | some p => if pauseState d ≠ 0 then (d, 0xA00B) else (dset R.PAUSE_FRAME p (dset R.PAUSE_STATE 1 d), 0)

/-- The save image still fits its slot: program digest and live weight digest (R248). -/
def imageFits (d : Dev) : Bool :=
  match d.ctx.save with
  | none => false
  | some s => decide (dget (R.PROGRAM_DIGEST s.slot) d = s.prog ∧ dget (R.LIVE_WEIGHT_DIGEST s.slot) d = s.live)

/-- PAUSE_COMMAND codes 2 and 3. -/
def resume (restore : Bool) (r : Nat) (d : Dev) : Dev × Nat :=
  match frameFor d (nextCut d) r with
  | none => (d, 0xA00B)
  | some r =>
    if pauseState d ≠ 3 ∨ dget R.POWER_STATE d ≠ 0 ∨ preparing d = true ∨ (restore = true ∧ imageFits d = false) then (d, 0xA00B)
    else (dset R.PAUSE_STATE 4 (modCtx (fun c => { c with resumeAt := r, restore := restore }) d), 0)

/-- What is known at B_n or at the growth ring of frame n says that the frame is paused. -/
def pausing (d : Dev) (n : Nat) : Bool :=
  let st := pauseState d
  if st = 0 then false
  else if st = 1 then decide (dget R.PAUSE_FRAME d ≤ n) && !d.flt.pending
  else if st = 5 then !(decide (d.ctx.resumeAt ≤ n ∧ dget R.RESTART_STATE d = 0) && !d.flt.pending)
  else true

/-- Frame n is paused: the ring takes no sample of it (R303). -/
def markPaused (n : Nat) (d : Dev) : Dev :=
  let q := d.ctx.ringBase + n - d.ctx.skipped
  let ps := match d.ctx.pauses with
    | [] => [(q, 1)]
    | l => if (l.getLastD (0, 0)).1 = q then l.dropLast ++ [(q, (l.getLastD (0, 0)).2 + 1)] else l ++ [(q, 1)]
  modCtx (fun c => { c with skipped := c.skipped + 1, pauses := ps }) (modFrame n (fun f => { f with paused := true }) d)

/-- Frame n was taken for paused at its B and is not. -/
def unmarkPaused (n : Nat) (d : Dev) : Dev :=
  let ps := match d.ctx.pauses with
    | [] => []
    | l => if (l.getLastD (0, 0)).2 = 1 then l.dropLast else l.dropLast ++ [((l.getLastD (0, 0)).1, (l.getLastD (0, 0)).2 - 1)]
  modCtx (fun c => { c with skipped := c.skipped - 1, pauses := ps }) (modFrame n (fun f => { f with paused := false }) d)

/-- Values of the saved state that name a time move with the frames: from B of the paused frame to B of frame r. -/
def moveAc (a b t : Nat) : Nat := t + b - a
def moveRise (s : Save) (b r : Nat) (x : Rise) : Rise := { x with seen := moveAc s.pAc b x.seen, frame := moveAc s.p r x.frame }

/-- A channel's saved conditioning and comparator state (Table 9.4); what runs through the pause stays. -/
def restoreChan (s : Save) (b r : Nat) (old c : Chan) : Chan :=
  { c with x1 := old.x1, y1 := old.y1, x2 := old.x2, y2 := old.y2, fir := old.fir, base := old.base
           lev := old.lev, hist := old.hist, cPrev := old.cPrev, cmps := old.cmps
           flags := old.flags.map (fun f => (moveAc s.pAc b f.1, f.2)), cut := moveAc s.pAc b old.cut
           rises := old.rises.map (moveRise s b r), origin := old.origin.map (moveRise s b r) }

/-- Channels, edge inputs and pattern unit resume with frame r: from the image under code 2, cleared under code 3 (R247). -/
def resumeFront (r : Nat) (d : Dev) : Dev :=
  let b := bAt d r
  let d := modFrame r (fun f => { f with resumed := true }) d
  let d := if d.ctx.restore then
      match d.ctx.save with
      | none => d
      | some s =>
        let d := (List.range 1024).foldl (fun d c => if delivered d c r then modChan c (restoreChan s b r (tget Chan.rest s.chans c)) d else d) d
        let es := s.edges.foldl (fun t (e : Nat × EdgeIn) => tset EdgeIn.rest t e.1 { e.2 with
          bits := e.2.bits.map (moveAc s.pAc b), rises := e.2.rises.map (moveRise s b r), origin := e.2.origin.map (moveRise s b r) }) []
        let mv := fun (o : Option Nat) => o.map (moveAc s.pAc b)
        let ps := s.pats.foldl (fun t (e : Nat × Pat) => tset Pat.rest t e.1 { e.2 with firedAt := mv e.2.firedAt, autoFrom := mv e.2.autoFrom }) []
        { d with edges := es, trig := { d.trig with pats := ps, start := moveAc s.pAc b s.start } }
    else
      let clr := fun (c : Chan) => { clearCmp (clearChain c) with flags := [], cut := 0, rises := [], origin := none }
      { d with chans := d.chans.map (fun (e : Nat × Chan) => (e.1, clr e.2))
               edges := d.edges.map (fun (e : Nat × EdgeIn) => (e.1, { e.2 with bits := [], rises := [], origin := none }))
               trig := { d.trig with pats := [], start := b + 64 } }
  { d with trig := { d.trig with lastEval := some (b + 63) } }

/-- Every core record of a slot's layers, oldest layer first, on the map in force. -/
def overCores (slot : Nat) (f : List Nat → CoreRec → Core → Core) (d : Dev) : Dev :=
  (loadedOf d slot).layers.reverse.foldl (fun d o => (coreRecs o).foldl (fun d r =>
    match physOf d (recX r) (recY r) with
    | some key => modCore key (f o r) d
    | none => d) d) d

/-- The state registers resume with frame r: saved values with the marker of frame r - 1, or preload values marked initial
(R139, R247). -/
def resumeRegs (r : Nat) (d : Dev) : Dev :=
  match d.ctx.save with
  | none => d
  | some s =>
    if d.ctx.restore then
      overCores s.slot (fun _ x c =>
        let saved := tget [] s.sregs (recXY x)
        let put := fun (t : Tab SReg) (e : Nat × SReg) => tset SReg.rest t (s.slot * 16 + e.1) { e.2 with marker := (r + 255) % 256 }
        { c with sreg := saved.foldl put (c.sreg.filter (fun e => decide (e.1 / 16 ≠ s.slot))) }) d
    else overCores s.slot (fun o x c => preState o x s.slot c) d

/-- The state registers of a slot on a core, by number. -/
def slotRegs (c : Core) (slot : Nat) : Tab SReg :=
  (List.range 16).foldl (fun t i => tset SReg.rest t i (sregOf c slot i)) []

/-- The header of an image of a pause that begins with frame n, and what the pause holds from its first paused frame on: where the ring
stands, and from when the pattern unit evaluates (Table 9.4). -/
def newSave (d : Dev) (n : Nat) : Save :=
  let k := dget R.CURRENT_CONTEXT d
  { slot := k, prog := dget (R.PROGRAM_DIGEST k) d, live := dget (R.LIVE_WEIGHT_DIGEST k) d, p := n, sregs := [], chans := [], edges := []
    pats := [], mons := [], merged := [], pAc := bAt d n, ring := d.ctx.ringBase + n + 1 - d.ctx.skipped, start := d.trig.start }

/-- An edge input as a pause at frame p leaves it: what came in before B_p (R249). -/
def edgeBefore (d : Dev) (p : Nat) (e : EdgeIn) : EdgeIn :=
  let rs := e.rises.filter (fun r => decide (r.frame < p))
  { e with
    rises := rs
    bits := e.bits.filter (fun b => decide (b < bAt d p + 64) || rs.any (fun r => decide (r.seen = b)))
    origin := match e.origin with | some r => if r.frame < p then some r else none | none => none }

/-- SAVE_IMAGE_WRITTEN: the growth ring of frame p + 2 has passed the last core, or the array has stopped and its instances have
ended; the image is written (R245, R246, R497). Its layout is not given, so its digest is a free value. -/
def saveImageWritten (d : Dev) : Dev :=
  let p := dget R.PAUSE_FRAME d
  if pauseState d ≠ 2 ∨ dget R.RESTART_STATE d ≠ 0 ∨ (running d ∧ d.grid.nextT ≤ p + 2) then d
  else
    let d := if running d then advTo (t0At d (p + 2) + dget R.GROWTH_RING_SPAN d) d else d
    let h : Save := match d.ctx.save with
      | some s => s
      | none => newSave d p
    let regs := (loadedOf d h.slot).cores.foldl (fun (t : Tab (Tab SReg)) xy =>
      match physOf d (xy / 256) (xy % 256) with
      | some key => tset [] t xy (slotRegs (coreOf d key) h.slot)
      | none => t) []
    let s : Save := saveMons d { h with sregs := regs, chans := d.chans, edges := d.edges.map (fun (e : Nat × EdgeIn) => (e.1, edgeBefore d p e.2)), pats := d.trig.pats }
    let (a, d) := draw d
    let (b, d) := draw d
    let (c, d) := draw d
    let (e, d) := draw d
    dset R.SAVE_DIGEST (a + b * 2 ^ 64 + c * 2 ^ 128 + e * 2 ^ 192) (dset R.PAUSE_STATE 3 (modCtx (fun x => { x with save := some s }) d))

def execSaveImageWritten (s : State) : Host.Outcome State Fault Refusal := run true saveImageWritten s

/-- RESTORE_DONE: the saved state is back, and the device waits for the growth ring of frame r (Table 9.3). -/
def restoreDone (d : Dev) : Dev :=
  if pauseState d = 4 ∧ dget R.RESTART_STATE d = 0 then dset R.PAUSE_STATE 5 d else d

def execRestoreDone (s : State) : Host.Outcome State Fault Refusal := run true restoreDone s

/-- The growth ring of frame n begins a pause: the image's header is fixed (R245, Table 9.4). -/
def pauseEffect (n : Nat) (d : Dev) : Dev :=
  dset R.PAUSE_FRAME n (dset R.PAUSE_STATE 2 (modCtx (fun c => { c with save := some (newSave d n) }) d))

/-- The image's header holds the live weight digest in force at frame p, a commit of that growth ring included (R246, R248). -/
def saveHeader (n : Nat) (d : Dev) : Dev :=
  match d.ctx.save with
  | some s =>
    if pauseState d = 2 ∧ s.p = n then modCtx (fun c => { c with save := some { s with live := dget (R.LIVE_WEIGHT_DIGEST s.slot) d } }) d
    else d
  | none => d

/-- The growth ring of frame n ends a pause (R247, R248). -/
def resumeEffect (n : Nat) (d : Dev) : Dev :=
  let d := if (frameOf d n).resumed then d else resumeFront n d
  let d := if d.ctx.restore then restoreMons d else d
  let d := dset R.RESUME_FRAME n (dset R.PAUSE_STATE 0 (resumeRegs n d))
  if d.ctx.resumeAt = n then d else report 0x0203 d.ctx.resumeAt n d

/-- Pause and resume at the growth ring of frame n (Table 9.3). -/
def pauseAtRing (n : Nat) (d : Dev) : Dev :=
  let on := pausing d n
  let was := (frameOf d n).paused
  let d := if on && !was then markPaused n d else if was && !on then unmarkPaused n d else d
  let d := if on then modFrame n (fun f => { f with resumed := false }) d else d
  if on ∧ pauseState d = 1 then pauseEffect n d
  else if on = false ∧ pauseState d = 5 then resumeEffect n d
  else d

/-- Sample tick 0 of frame n: whether the frame is paused, and what a resume restores before its first sample. -/
def pauseAtBoundary (n : Nat) (d : Dev) : Dev :=
  if pausing d n then markPaused n d else if pauseState d = 5 then resumeFront n d else d

/-- A job restart begins while a pause is pending: the pause is abandoned (Table 9.6). -/
def pauseAtRestart (d : Dev) : Dev := if pauseState d = 1 then dset R.PAUSE_STATE 0 d else d

/-- A stop of the array with a pause pending or in force (R497). -/
def pauseAtStop (d : Dev) : Dev :=
  let st := pauseState d
  if st = 1 then dset R.PAUSE_STATE 0 d else if st = 4 ∨ st = 5 then dset R.PAUSE_STATE 3 d else d

/-- The grid ends at frame n: the current slot stops being current, and drains (R235). -/
def leaveCurrent (n : Nat) (d : Dev) : Dev :=
  let k := dget R.CURRENT_CONTEXT d
  if dget (R.SLOT_STATE k) d = 3 then
    dset (R.SLOT_STATE k) 4 (modCtx (fun c => { c with drain := tset none c.drain k (some n) }) d)
  else d

/-- A pending switch is dropped, with its event for frame n. -/
def dropSwitch (n : Nat) (d : Dev) : Dev :=
  match pendingSwitch d with
  | some (_, k) => report 0x0202 n k (dset R.PENDING_SWITCH 0 d)
  | none => d

/-- A stop at frame s drops a pending switch (R497). -/
def switchAtStop (n : Nat) (d : Dev) : Dev := leaveCurrent n (dropSwitch n d)

/-- The ring time of an arming at ring frame 0, or, while a pause holds, where the pause left it: the ring's contents stay, and frame numbers
begin anew (R247, R249, R303). -/
def ringAtArm (d : Dev) : Dev :=
  match d.ctx.save with
  | some s =>
    if pauseState d = 0 then modCtx (fun c => { c with skipped := 0, pauses := [], ringBase := 0 }) d
    else
      let sum := (d.ctx.pauses.map Prod.snd).foldl (· + ·) 0
      modCtx (fun c => { c with skipped := 0, ringBase := s.ring, pauses := c.pauses ++ [(s.ring, -((s.ring : Int) + sum))] }) d
  | none => modCtx (fun c => { c with skipped := 0, pauses := [], ringBase := 0 }) d

/-- An arming begins with ARM_CONTEXT as current. With the fallback held since an earlier arming it is taken again at the first growth
ring; a release that waits has nothing left to release (R243, R466). -/
def fallbackAtArm (d : Dev) : Dev :=
  if d.ctx.canopy = 2 then dset R.FALLBACK_HELD 0 (modCtx (fun c => { c with canopy := 0 }) d)
  else if dget R.FALLBACK_HELD d = 1 then modCtx (fun c => { c with canopy := 1 }) d
  else d

end Sys2Proof.Machine
end

