-- ==== Sys2Proof/Machine/Restart.lean ====
section
/-! DEFINITION. The job restart and the clearing of faults (R435 to R446, R516). -/

namespace Sys2Proof.Machine

def modFlt (g : Flt → Flt) (d : Dev) : Dev := { d with flt := g d.flt }

/-- A fourth restart begins within 60 s of the first of three earlier ones (Table 18.8, reason 4). -/
def fourth (begun : List Nat) (now : Nat) : Bool :=
  match begun with
  | _ :: _ :: t :: _ => decide (now - t ≤ 60 * acPerS)
  | _ => false

/-- The growth ring that passes is that of the stop frame of a restart that waits (R435). -/
def restartBegin (d : Dev) : Dev :=
  if d.flt.pending = false ∨ d.flt.dev ≠ none then d
  else
    let four := fourth d.flt.begun d.now
    let d := bump R.JOB_RESTARTS (loseFrames d)
    let d := modFlt (fun f => { f with pending := false, stopAt := d.now, runAt := d.now, copyTries := [], noRejoin := false
                                       begun := (d.now :: f.begun).take 4 }) { d with undefNew := false }
    let d := stopArray (dset R.RESTART_STATE 1 (dset R.LAST_RESTART_FIRST d.flt.firstLost d))
    let d := pauseAtRestart (abandonLoad (encAtRestart d))
    if four then report 0x4542 4 0 d else d

/-- The slots that hold a context. -/
def loadedSlots (d : Dev) : List Nat := otherSlots d 4

/-- Records that were made while an undefined use was in force hold free values, also when they are written after it (R15). -/
def freeQueued (d : Dev) : Dev :=
  if d.undef then
    { d with host := { d.host with rings := d.host.rings.map (fun (g : Nat × Ring) =>
      (g.1, { g.2 with queue := g.2.queue.map (fun (e : Rec) => { e with free := true }) })) } }
  else d

/-- A restart ends: the map is shown, and the quiet period counts from now (R233, R442). Undefined uses from before it are over; one that
came during it lasts until the next (R15). -/
def restartOver (first last : Nat) (d : Dev) : Dev :=
  let d := showLoader (modFlt (fun f => { f with mapWas := none, losing := false, quietFrom := some d.now }) (dset R.RESTART_STATE 0 d))
  report 0x0541 first last { freeQueued d with undef := d.undefNew }

/-- A restart that may not rejoin ends after phase 4 (R516). -/
def restartEnd (d : Dev) : Dev :=
  let first := d.flt.firstLost
  let d := match d.grid.endF with
    | some s => flushGap (closeGap s d)
    | none => d
  stopEnds (modFlt (fun f => { f with noRejoin := false }) (restartOver first (2 ^ 64 - 1) (raiseEpochs d)))

/-- Phase 2: every loaded context must fit the map with all retirements (R220, R224). -/
def phaseRemap (d : Dev) : Dev :=
  let gone := d.fuses.windthrow ++ d.ldr.map ++ d.ldr.pend
  if (mapOk d gone && (replan d gone (loadedSlots d)).isSome) = true then dset R.RESTART_STATE 3 d else report 0x4542 1 0 d

/-- Phase 3: every loaded context is written on the new map (R226, R227, R437); `data` is what the host holds at the objects'
addresses. -/
def phaseWrite (data : List (Nat × List Nat)) (d : Dev) : Dev :=
  if dget R.PSRAM_RETIRED d ≠ 0 then report 0x4542 2 0 d
  else
    let old := retiredSet d
    let m := d.ldr.map ++ d.ldr.pend
    let new := d.fuses.windthrow ++ m
    match replan d new (loadedSlots d) with
    | none => report 0x4542 1 0 d
    | some ps =>
      let d := encPhase3 d
      let before := d
      let host := fun (k : Nat) => ((data.filter (fun p => decide (p.1 = k))).map Prod.snd).headD []
      let d := { d with ldr := { d.ldr with map := m, pend := [] } }
      let d := if d.flt.mapWas.isNone then modFlt (fun f => { f with mapWas := some before.ldr.map }) d else d
      let d := ps.foldl (fun d p => rewriteSlot old new (host p.1) before p.1 p.2 d) d
      dset R.RESTART_STATE 4 (dset R.GROWTH_RING_SPAN (markerSpan d) d)

/-- Phase 4: every die link is aligned. -/
def phaseAlign (d : Dev) : Dev :=
  let d := { d with fab := { d.fab with misaligned := [] } }
  if d.flt.noRejoin then restartEnd d else dset R.RESTART_STATE 5 d

/-- RESTART_PHASE_DONE: the phase in progress is over (Table 18.6). Phase 1 of a device fault leads to phase 2 only once the
fault is cleared (R440); phase 2 needs the firmware (Table 18.11). -/
def restartPhaseDone (data : List (Nat × List Nat)) (d : Dev) : Dev :=
  let st := restartState d
  if st = 1 then stopEnds (dset R.RESTART_STATE (if d.flt.dev = none then 2 else 0) d)
  else if st = 2 then (if dget R.BOOT_STATE d = 2 then phaseRemap d else d)
  else if st = 3 then phaseWrite data d
  else if st = 4 then phaseAlign d
  else d

def execRestartPhaseDone (data : List (Nat × List Nat)) (s : State) : Host.Outcome State Fault Refusal :=
  run (hostCopy data) (restartPhaseDone data) s

/-- The stretch counters are cleared: from ac `t` on a flag or an edge counts as it is then and as it comes (R294). -/
def clearStretch (t : Nat) (d : Dev) : Dev :=
  { d with
    chans := d.chans.map (fun (e : Nat × Chan) =>
      (e.1, { e.2 with flags := e.2.flags.filter (fun f => decide (t < f.1)) ++ [(t, flagBit e.2 0 t)], cut := t }))
    edges := d.edges.map (fun (e : Nat × EdgeIn) => (e.1, { e.2 with bits := e.2.bits.filter (fun b => decide (t ≤ b)) })) }

/-- A restart waits for a growth ring, and that of frame r has come: the device rejoins (R294, R360, R435). -/
def rejoinAtRing (r : Nat) (d : Dev) : Dev :=
  if restartState d ≠ 5 ∨ d.flt.dev ≠ none then d
  else
    let first := d.flt.firstLost
    let d := modFrame r (fun f => { f with lost := false }) d
    let d := raiseEpochs (flushGap (closeGap r d))
    let b := bAt d r
    let d := clearStretch (b + 64) d
    let d := { d with
      trig := { d.trig with pats := [], start := b + 64, lastEval := some (b + 63) }
      lnk := { d.lnk with rejoin := some r } }
    let d := dset R.LAST_RESTART_REJOIN r (dset R.LAST_RESTART_US (min ((d.now - d.flt.stopAt) / acPerUs) 0xFFFFFFFF) d)
    restartOver first r d

/-- RESTART_TIMEOUT: 250 ms without a rejoin (Table 18.8, reason 5). -/
def restartTimeout (d : Dev) : Dev :=
  if restartState d = 0 ∨ d.flt.dev ≠ none then d
  else report 0x4542 5 0 (advTo (d.flt.runAt + 250 * acPerMs) d)

def execRestartTimeout (s : State) : Host.Outcome State Fault Refusal := run true restartTimeout s

/-- The logical cores, as slot * 65536 + core, whose rows phase 3 reads from the host copy: those that sit on a core that the restart
retires (R227). -/
def hostReads (d : Dev) : List Nat :=
  (loadedSlots d).flatMap (fun k => (coreRecs (baseObj (loadedOf d k))).filterMap (fun r =>
    match physOn d (retiredSet d) (recX r) (recY r) with
    | some a => if d.ldr.pend.contains a ∧ 0 < bits r.w0 15 8 then some (k * 65536 + recXY r) else none
    | none => none))

/-- HOST_COPY_READ_TIMEOUT: a read of the host copy in phase 3 fails; the third failure for one core fails the restart (R439). Which
core's rows it was is a free value, since the command does not say; Table 18.3 gives the class T fault no code, so its code and
arguments are free values too. -/
def hostCopyReadTimeout (d : Dev) : Dev :=
  if restartState d ≠ 3 ∨ hostReads d = [] then d
  else
    let (v, e) := draw d
    let x := (hostReads d).getD (v % (hostReads d).length) 0
    let n := tget 0 e.flt.copyTries x + 1
    let (c, e) := draw (modFlt (fun f => { f with copyTries := tset 0 f.copyTries x n }) e)
    let (a, e) := draw e
    let (b, e) := draw e
    let e := report (0x1000 + c % 0x1000) a b e
    if 3 ≤ n then report 0x4542 3 0 (modFlt (fun f => { f with copyTries := [] }) e) else e

def execHostCopyReadTimeout (s : State) : Host.Outcome State Fault Refusal := run true hostCopyReadTimeout s

/-- A write of 1 to FAULT_CLEAR: the effect, and the abort code (R440). The job restart that it starts ends a load or unload in progress and
abandons what the encoder has staged, as every job restart does (R437, R438). -/
def faultClearCmd (d : Dev) : Dev × Nat :=
  if d.flt.dev = none then (d, 0)
  else if (d.pwr.junctions.any (fun j => decide (sgn 16 (dget R.JUNCTION_CONTROL d) < j.2))) ∨ dget R.PSRAM_RETIRED d ≠ 0 then (d, 0xA00B)
  else
    let d := dset R.FAULT_ACTIVE (setBit (dget R.FAULT_ACTIVE d) 4 false) d
    let d := modFlt (fun f => { f with dev := none, pending := false, runAt := d.now, copyTries := [], noRejoin := !running d }) { d with undefNew := false }
    let d := pauseAtRestart (abandonLoad (encAtRestart (bump R.JOB_RESTARTS (dset R.RESTART_STATE 2 d))))
    (driveFaultN (if d.flt.losing then dset R.LAST_RESTART_FIRST d.flt.firstLost d else d), 0)

/-- Every reaction has completed: no restart waits or runs, no lane and no link is retrained, no PSRAM transaction and no descriptor read
is tried again (R442). -/
def reactionsDone (d : Dev) : Bool :=
  !d.flt.pending && decide (restartState d = 0) && (d.ports.all (fun p => p.2.retrainAt.isNone)) &&
    [0, 1, 2].all (fun p => decide (linkState d p ≠ 4)) && d.store.fails.all (fun e => decide (e.2 = 0)) &&
    d.engs.all (fun e => decide (e.2.tries = 0))

/-- QUIET_PERIOD_EXPIRY: no fault of an enabled class for QUIET_PERIOD seconds (R442). -/
def quietPeriodExpiry (d : Dev) : Dev :=
  if reactionsDone d = false ∨ dget R.FAULT_ACTIVE d % 16 = 0 then d
  else
    let d := advTo (d.flt.quietFrom.getD 0 + dget R.QUIET_PERIOD d * acPerS) d
    let was := d.flt.faultN
    let a := dget R.FAULT_ACTIVE d
    let d := driveFaultN (dset R.FAULT_ACTIVE (if bit a 4 then 16 else 0) d)
    if was = false ∧ d.flt.faultN = true then bump R.RECOVERY_COUNT d else d

def execQuietPeriodExpiry (s : State) : Host.Outcome State Fault Refusal := run true quietPeriodExpiry s

/-- The retirement of a class P fault (Table 18.5). -/
def retireFor (code a0 : Nat) (d : Dev) : Dev :=
  let u := a0 % 65536
  if code = 0x2041 ∨ code = 0x2043 then retireCoreP u d
  else if code = 0x2142 then (if u < 64 then refLost (u / 4) (laneGone u (absent (u / 4) (invalidNow (u / 4) d))) else d)
  else if code = 0x21C2 then (if u < 1024 then modChan u (fun c => { chanGone d.now c with retired := true }) d else d)
  else if code = 0x2282 then (if u < 32 then dieGone u d else d)
  else if code = 0x23C2 then (if u < 2 then retireCluster u d else d)
  else if code = 0x2403 ∧ u < 3 then
    let d := showLinks (dset (linkReg u) 5 (clearLink u d))
    if u < 2 then ringChanged d else d
  else d

/-- FAULT_REPORT: the collector receives a fault or event of Table 18.3 from a unit (R430); a class P fault retires its resource. -/
def faultReport (code a0 a1 : Nat) (d : Dev) : Dev := retireFor code a0 (report code a0 a1 d)

def execFaultReport (code a0 a1 : Nat) (s : State) : Host.Outcome State Fault Refusal :=
  run (decide (a0 < 2 ^ 64 ∧ a1 < 2 ^ 64) && faultCodes.contains code) (faultReport code a0 a1) s

end Sys2Proof.Machine
end

