-- ==== Sys2Proof/Machine/Power.lean ====
section
/-! DEFINITION. Power states, wake and the canopy (chapter 19). -/

namespace Sys2Proof.Machine

def modPwr (g : Pwr → Pwr) (d : Dev) : Dev := { d with pwr := g d.pwr }

def powerState (d : Dev) : Nat := dget R.POWER_STATE d

/-! ### Requests and transitions (R453 to R457) -/

/-- An exit begins: the source that led to it is recorded (R458); `src` 0 is none. -/
def exitBegin (v src : Nat) (d : Dev) : Dev :=
  let d := dset R.POWER_TRANSITION 3 (modPwr (fun w => { w with target := v, since := d.now, source := src }) d)
  if src = 0 then d else bump R.WAKES (dset R.LAST_WAKE_SOURCE src d)

/-- An entry begins: prepare, in which the review clusters abandon their jobs (Table 19.2). -/
def entryBegin (v : Nat) (d : Dev) : Dev :=
  let d := dset R.POWER_TRANSITION 1 (modPwr (fun w => { w with target := v, since := d.now, source := 0 }) d)
  let st := if dget R.REVIEW_SHED d = 1 then 2 else 0
  abandonJob 1 st (abandonJob 0 st d)

/-- A request starts while no transition is in progress. -/
def startRequest (v src : Nat) (d : Dev) : Dev :=
  if v = powerState d then d else if powerState d < v then entryBegin v d else exitBegin v src d

/-- POWER_REQUEST, and every wake: a request for state v from source `src`. -/
def powerRequest (v src : Nat) (d : Dev) : Dev :=
  if dget R.POWER_TRANSITION d = 0 then startRequest v src d
  else dset R.POWER_PENDING v (modPwr (fun w => { w with pendSource := src }) d)

/-- A transition has ended: the pending request runs, unless it names the state reached (R457). -/
def runPending (d : Dev) : Dev :=
  let v := dget R.POWER_PENDING d
  let d := dset R.POWER_TRANSITION 0 (dset R.POWER_PENDING 0xFF d)
  if v = 0xFF then d else startRequest v d.pwr.pendSource d

/-- Prepare ends REFUSED (R455). -/
def refusePower (block : Nat) (d : Dev) : Dev :=
  runPending (report 0x04C3 block 0 (bump R.POWER_REFUSALS (dset R.POWER_LAST_REFUSER block d)))

/-- A copy of the capture store is open. -/
def copyOpen (d : Dev) : Bool := d.store.caps.any (fun c => c.slot.isSome && c.status.isNone)

/-- The first block, in table order, that refuses an entry into state v (Table 19.2). -/
def refuser (v : Nat) (d : Dev) : Option Nat :=
  let ld := dget R.LOAD_STATE d
  let enc := dget R.ENC_STATE d
  if 1 ≤ ld ∧ ld ≤ 5 then some 14
  else if 1 ≤ enc ∧ enc ≤ 4 then some 13
  else if 2 ≤ v ∧ (List.range 16).any (fun n => decide (dget (R.CHANNEL_STATE n) d = 1 ∨ dget (R.CHANNEL_STATE n) d = 2)) = true then some 11
  else if 2 ≤ v ∧ (copyOpen d = true ∨ dget R.STORE_STATE d = 1) then some 10
  else if (armed d = true ∧ pauseState d ≠ 3) ∨ restartState d ≠ 0 then some 8
  else if v = 3 ∧ d.pwr.aspm = false then some 12
  else none

/-- The commit into DOZE or SLEEP ends the frame grid of a paused array: one gap record covers the paused frames, and the lines stay at
their safe level from then on (R451). Verdicts of frames before p that are still to be issued go out before the gap (log entry 168). -/
def disarm (d : Dev) : Dev :=
  let s := d.grid.nextT
  let p := dget R.PAUSE_FRAME d
  let fst := max p d.grid.nextIssue
  let w : Rec := { kind := 5, epoch := (ringOf d 0).epoch, frame := some p, link := none, audit := false
                   words := [fst, s - 1, 2] ++ bWords d fst }
  let d := if s ≤ fst then d
    else if p ≤ d.grid.nextIssue then loseRec 0 2 w { d with grid := { d.grid with nextIssue := s } }
    else modRing 0 (fun g => { g with loss := { g.loss with held := true } }) (loseRec 0 2 w d)
  let d := modFlt (fun f => { f with safeBelow := max f.safeBelow s }) d
  showAll <| gapAtEnd <| dset R.ARRAY_STATE 0 (leaveCurrent s (encAtStop { d with grid := { d.grid with endF := some s, stopReq := false } }))

/-- What the commit into DOZE or SLEEP shuts off (Table 19.1). -/
def commitDeep (v : Nat) (d : Dev) : Dev :=
  let d := if armed d then disarm d else d
  let d := linesSafe d
  let d := (List.range 16).foldl (fun d p =>
    modPort p (fun x => { x with presentFrom := none, fellAt := none, retrainAt := none, fesyncN := true }) d) d
  let d := showPresent (dset R.CLOCK_STATE 0 d)
  if v = 3 then linksDown { d with pins := { d.pins with clkreqN := true } } else d

/-- PREPARE_DONE: the votes of Table 19.2. For SLEEP the management processor votes once its event records are written. -/
def prepareDone (d : Dev) : Dev :=
  if dget R.POWER_TRANSITION d ≠ 1 then d
  else
    let v := d.pwr.target
    match refuser v d with
    | some b => refusePower b d
    | none =>
      if v = 3 ∧ (ringOf d 3).enabled = true ∧ (ringOf d 3).queue ≠ [] then d
      else
        let d := dset R.POWER_TRANSITION 2 d
        if 2 ≤ v ∧ powerState d ≤ 1 then commitDeep v d
        else if v = 3 then linksDown { d with pins := { d.pins with clkreqN := true } } else d

def execPrepareDone (s : State) : Host.Outcome State Fault Refusal := run true prepareDone s

/-- PREPARE_TIMEOUT: 50 us have passed, and `block` is the first that did not answer. -/
def prepareTimeout (block : Nat) (d : Dev) : Dev :=
  if dget R.POWER_TRANSITION d ≠ 1 then d else refusePower block (advTo (d.pwr.since + 50 * acPerUs) d)

def execPrepareTimeout (block : Nat) (s : State) : Host.Outcome State Fault Refusal :=
  run ([15, 14, 13, 11, 10, 8, 16, 12, 20].contains block) (prepareTimeout block) s

/-- Every enabled port runs discovery from step 1 (Table 19.3). -/
def rediscover (d : Dev) : Dev :=
  (List.range 16).foldl (fun d p =>
    if portWatched d p = false then d
    else if (portOf d p).presentN then setFe p 0 (setLanes p (fun i _ => laneOr d p i 0) d)
    else beginDiscovery p d) d

/-- The wake comb goes out once on each ring port: as a flit on a link that has joined, as bursts on one that is down (R461). -/
def propagate (d : Dev) : Dev :=
  [0, 1].foldl (fun d p => if linkState d p = 2 then sendFlit p 10 [] d
    else if linkState d p = 3 then d else modLink p (fun x => { x with bursts := x.bursts + 1 }) d) d

/-- POWER_TRANSITION_DONE. -/
def powerTransitionDone (d : Dev) : Dev :=
  let t := dget R.POWER_TRANSITION d
  let was := powerState d
  let v := d.pwr.target
  if t = 2 then runPending (dset R.POWER_STATE v d)
  else if t = 3 then
    let d := dset R.POWER_TRANSITION 0 (dset R.POWER_STATE v d)
    let d := if was = 3 then linksStart d else d
    let d := if 2 ≤ was ∧ v ≤ 1 then rediscover (fusedBack d) else d
    let d := if v = 0 ∧ d.pwr.source ≠ 0 ∧ dget R.RING_WAKE_PROPAGATE d = 1 then propagate d else d
    runPending d
  else d

def execPowerTransitionDone (s : State) : Host.Outcome State Fault Refusal := run true powerTransitionDone s

/-- The device is brought to RUN at once: a commit or an exit in progress completes (R456), and an exit to RUN follows it. -/
def exitToRun (src : Nat) (d : Dev) : Dev :=
  let d := if 2 ≤ dget R.POWER_TRANSITION d then powerTransitionDone (dset R.POWER_PENDING 0 (modPwr (fun w => { w with pendSource := src }) d))
    else if powerState d = 0 then d else exitBegin 0 src d
  if dget R.POWER_TRANSITION d = 3 then powerTransitionDone d else d

/-! ### Wake (R458 to R461) -/

/-- A wake source acts (Table 19.4). -/
def wake (src : Nat) (d : Dev) : Dev :=
  if bit (dget R.WAKE_ENABLE d) (src - 1) = false ∨ (powerState d = 0 ∧ dget R.POWER_TRANSITION d = 0) then d
  else powerRequest 0 src d

/-- PRESENT_N_FALL: discovery begins on an enabled port (R61), and in a low-power state the device wakes. -/
def execPresentNFall (port : Nat) (s : State) : Host.Outcome State Fault Refusal :=
  run (decide (port < 16)) (fun d => let e := presentNFall port d; if dget (R.PORT_ENABLE port) d = 1 then wake 1 e else e) s

/-- LANE_SIGNAL_DETECT: signal for 100 us on a lane that had none at commit: 0 to 63 front-end lanes, 64 RING_W, 65 RING_E, 66
mirror. -/
def execLaneSignalDetect (which : Nat) (s : State) : Host.Outcome State Fault Refusal :=
  run (decide (which < 67)) (fun d => wake (if which < 64 then 1 else 2) (advTo (d.now + 100 * acPerUs) d)) s

/-- WAKE_COMB_BURSTS: sixteen bursts on lane 0 of a ring link that is down. -/
def execWakeCombBursts (port : Nat) (s : State) : Host.Outcome State Fault Refusal :=
  run (decide (port < 2)) (fun d => if linkState d port = 0 ∨ linkState d port = 1 then wake 3 d else d) s

/-- WAKE_COMB: the flit arrives on a trained ring link. -/
def execWakeComb (port seq : Nat) (s : State) : Host.Outcome State Fault Refusal :=
  run (decide (port < 2 ∧ seq < 4096)) (recv port seq (wake 3)) s

/-- CLKREQ_N_ASSERT: the root port leaves L1.2. -/
def clkreqNAssert (d : Dev) : Dev :=
  let d := { d with pins := { d.pins with clkreqN := false } }
  if powerState d = 3 ∨ (dget R.POWER_TRANSITION d = 2 ∧ d.pwr.target = 3) then wake 4 d else d

def execClkreqNAssert (s : State) : Host.Outcome State Fault Refusal := run true clkreqNAssert s

/-- NPP_WAKE: an NPP WAKE request that carries `serial`; the management processor handles it, in SLEEP the understorey (R459). -/
def nppWake (serial : Nat) (d : Dev) : Dev :=
  if serial = d.fuses.serial ∧ (powerState d = 3 ∨ dget R.BOOT_STATE d = 2) then wake 5 d else d

def execNppWake (serial : Nat) (s : State) : Host.Outcome State Fault Refusal := run (decide (serial < 2 ^ 128)) (nppWake serial) s

/-! ### The canopy (R463 to R468) -/

def stage (d : Dev) : Nat := dget R.CANOPY_STAGE d
def causes (d : Dev) : Nat := dget R.CANOPY_CAUSE d

/-- CANOPY_CAUSE follows the measurements. The count of time without a cause, and a due report, follow it. -/
def setCauses (c : Nat) (d : Dev) : Dev :=
  let was := causes d
  let d := dset R.CANOPY_CAUSE c d
  if was = 0 ∧ c ≠ 0 then modPwr (fun w => { w with clear := none, raised := none }) d
  else if was ≠ 0 ∧ c = 0 then modPwr (fun w => { w with clear := some d.now, noFallback := none }) d
  else d

/-- CANOPY_POWER_SAMPLE: package power and current, 0.1 W and 0.1 A (R463, R464). -/
def canopyPowerSample (p i : Nat) (d : Dev) : Dev :=
  let ms := d.now / acPerMs
  let above := decide (dget R.POWER_CONT_LIMIT d < p ∨ dget R.CURRENT_CONT_LIMIT d < i)
  let kept := d.pwr.overAt.filter (fun t => decide (ms < t + 600000))
  let ticks := if above ∧ kept.headD (ms + 1) ≠ ms then ms :: kept else kept
  let n := ticks.length
  let latched := if d.pwr.latched then decide (60000 < n) else above && decide (120000 ≤ n)
  let d := modPwr (fun w => { w with overAt := ticks, latched := latched }) d
  let d := dset R.PEAK_BUDGET_USED (n / 100) (dset R.CURRENT_NOW i (dset R.POWER_NOW p d))
  setCauses ((if dget R.POWER_PEAK_LIMIT d < p then 1 else 0) + (if dget R.CURRENT_PEAK_LIMIT d < i then 2 else 0)
    + (if latched then 4 else 0) + d.pwr.hot) d

def execCanopyPowerSample (p i : Nat) (s : State) : Host.Outcome State Fault Refusal :=
  run (decide (p < 65536 ∧ i < 65536)) (canopyPowerSample p i) s

/-- Die with the highest junction; the lowest number among several. -/
def hottest (js : List Int) : Nat × Int :=
  (js.zipIdx).foldl (fun (m : Nat × Int) x => if m.2 < x.1 then (x.2, x.1) else m) (0, js.headD 0)

/-- A cause that is present from one bound on and absent from another. -/
def hold (was on off : Bool) : Bool := if was then !off else on

/-- CANOPY_THERMAL_SAMPLE: junctions of dies 0 to 99, coolant inlet and outlet, 1/16 degC, and flow, 0.01 L/min (R463, R468,
Table 19.6). A die trips when it reaches the trip point. -/
def canopyThermalSample (js : List Int) (inlet outlet : Int) (flow : Nat) (d : Dev) : Dev :=
  let trip := sgn 16 (dget R.JUNCTION_TRIP d)
  let tripped := (List.range js.length).filter (fun k => decide (trip ≤ js.getD k 0 ∧ tget 0 d.pwr.junctions k < trip))
  let h := d.pwr.hot
  let ctl := sgn 16 (dget R.JUNCTION_CONTROL d)
  let lim := sgn 16 (dget R.INLET_LIMIT d)
  let fmin := dget R.FLOW_MIN d
  let c3 := hold (bit h 3) (js.any (fun j => decide (ctl ≤ j))) (js.all (fun j => decide (j ≤ ctl - 80)))
  let c4 := hold (bit h 4) (decide (lim < inlet)) (decide (inlet ≤ lim - 32))
  let c5 := hold (bit h 5) (decide (flow < fmin)) (decide (fmin + 10 ≤ flow))
  let hot := (if c3 then 8 else 0) + (if c4 then 16 else 0) + (if c5 then 32 else 0)
  let m := hottest js
  let d := modPwr (fun w => { w with junctions := tsetRun 0 w.junctions 0 js, hot := hot }) d
  let d := dset R.JUNCTION_MAX (unsgn 16 m.2) (dset R.JUNCTION_MAX_DIE m.1 d)
  let d := dset R.INLET_TEMP (unsgn 16 inlet) (dset R.OUTLET_TEMP (unsgn 16 outlet) (dset R.FLOW flow d))
  let d := setCauses (causes d % 8 + hot) d
  tripped.foldl (fun d k => report 0x44C2 k (unsgn 64 (js.getD k 0)) d) d

def execCanopyThermalSample (js : List Int) (inlet outlet : Int) (flow : Nat) (s : State) : Host.Outcome State Fault Refusal :=
  run (decide (js.length = 100 ∧ -32768 ≤ inlet ∧ inlet < 32768 ∧ -32768 ≤ outlet ∧ outlet < 32768 ∧ flow < 65536)
      && js.all (fun j => decide (-32768 ≤ j ∧ j < 32768)))
    (canopyThermalSample js inlet outlet flow) s

/-- The actions of Table 19.7 when the stage changes, and the report (R466). A fallback that is due and not yet taken in this arming is
not taken once the stage falls, and there is nothing to switch back from (R243). -/
def setStage (n : Nat) (d : Dev) : Dev :=
  let was := stage d
  let d := dset R.CANOPY_STAGE n d
  let d := if was = 0 ∧ n ≠ 0 then shedReview true d else if was ≠ 0 ∧ n = 0 then shedReview false d else d
  let taken := decide (dget R.FALLBACK_HELD d = 1 ∧ d.ctx.canopy ≠ 1)
  let d := if n = 3 then modCtx (fun c => { c with canopy := if taken then 0 else 1 }) d
    else if was ≠ 3 then d
    else if taken then modCtx (fun c => { c with canopy := 2 }) d
    else dset R.FALLBACK_HELD 0 (modCtx (fun c => { c with canopy := 0 }) d)
  let d := settleCredits d
  report 0x04C1 n (if was < n then causes d else 0) (if was < n then bump R.SHED_EVENTS d else d)

/-- Stage 3 is due and there is no fallback (R467). -/
def noFallback (d : Dev) : Dev :=
  report 0x04C1 3 (causes d ||| 128) (modPwr (fun w => { w with noFallback := some d.now }) d)

/-- CANOPY_ESCALATE (R465). -/
def canopyEscalate (d : Dev) : Dev :=
  let c := causes d
  if c = 0 ∨ stage d = 3 ∨ (d.pwr.noFallback.isSome = true ∧ dget R.FALLBACK_ENABLE d = 0) then d
  else
    let wait := if c % 4 ≠ 0 then 100 * acPerUs else dget R.CANOPY_SETTLE d * acPerUs
    let d := match d.pwr.raised with
      | some t => advTo (t + wait) d
      | none => d
    let d := modPwr (fun w => { w with raised := some d.now }) d
    if stage d = 2 ∧ dget R.FALLBACK_ENABLE d = 0 then noFallback d
    else setStage (stage d + 1) (modPwr (fun w => { w with noFallback := none }) d)

def execCanopyEscalate (s : State) : Host.Outcome State Fault Refusal := run true canopyEscalate s

/-- CANOPY_RELEASE_EXPIRY (R466). -/
def canopyReleaseExpiry (d : Dev) : Dev :=
  match d.pwr.clear with
  | none => d
  | some t =>
    if causes d ≠ 0 ∨ stage d = 0 then d
    else
      let d := advTo (t + dget R.CANOPY_RELEASE d * acPerMs) d
      setStage (stage d - 1) (modPwr (fun w => { w with clear := some d.now }) d)

def execCanopyReleaseExpiry (s : State) : Host.Outcome State Fault Refusal := run true canopyReleaseExpiry s

/-- CANOPY_STAGE3_REPORT: once per second while the condition of R467 lasts. -/
def canopyStage3Report (d : Dev) : Dev :=
  match d.pwr.noFallback with
  | none => d
  | some t =>
    if causes d = 0 ∨ stage d ≠ 2 ∨ dget R.FALLBACK_ENABLE d ≠ 0 then d else noFallback (advTo (t + acPerS) d)

def execCanopyStage3Report (s : State) : Host.Outcome State Fault Refusal := run true canopyStage3Report s

end Sys2Proof.Machine
end

