-- ==== Sys2Proof/Machine/Time.lean ====
section
/-! DEFINITION. Station time (chapter 16): PTP, PPS, the servo, and the frame stamps. -/

namespace Sys2Proof.Machine

def modTime (g : Time → Time) (d : Dev) : Dev := { d with time := g d.time }

/-- Rate correction limit of R397, in parts per 10^12. -/
def rateMax : Int := 500000000

/-- The servo turns to a new source: it acquires (R396). -/
def acquire (src : Nat) (d : Dev) : Dev :=
  dset R.SERVO_STATE 1 (modTime (fun t => { t with src := src, offs := [] }) d)

/-- A locked clock loses what it was locked to: holdover begins (R395, R398). -/
def startHoldover (d : Dev) : Dev :=
  if d.time.source = 1 ∨ d.time.source = 2 then
    showSource (report 0x0485 (dget R.PTP_MASTER_CHANGES d) 0
      (modTime (fun t => { t with source := 3, holdAt := some d.now }) d))
  else d

/-- With its source gone, the servo takes PPS_IN where it is the fallback or the only source, else none (R398, R400). -/
def fallBack (d : Dev) : Dev :=
  if d.time.ppsPresent ∧ dget R.TIME_SOURCE_SELECT d ≠ 0 ∧ d.time.src ≠ 2 then acquire 2 d
  else dset R.SERVO_STATE (if d.time.source = 3 then 3 else 0) (modTime (fun t => { t with src := 0, offs := [] }) d)

/-- The clock is stepped once by the measured offset, in 2^-16 ns (R396, R391). -/
def stepClock (off : Int) (d : Dev) : Dev :=
  let d := bump R.TIME_STEPS (modTime (fun t => { t with
    clk := ((t.clk : Int) + off * 2 ^ 16).toNat, stepDue := false, restep := false, stampFrom := if arrayState d = 2 then d.grid.nextT else 0 }) d)
  report 0x0481 (unsgn 64 off) (dget R.TIME_STEPS d) (dset R.AC_PERIOD R.AC_PERIOD.dflt d)

/-- The rate after a measurement: the part spent on the offset has the offset's sign and stays within 50 ppm; the frequency part is the
implementation's, free within what keeps the sum within 500 ppm (R396, R397; log entry 1). -/
def servoRate (off : Int) (d : Dev) : Dev :=
  let (a, d) := draw d
  let (b, d) := draw d
  let freq := sgn 32 a
  let part : Int := (b % 50000000 : Nat) + 1
  let slew := if off = 0 then 0 else if 0 < off then part else -part
  let r := clampI (-rateMax - min slew 0) (rateMax - max slew 0) freq + slew
  dset R.RATE_CORRECTION (unsgn 32 (r + 0x80000000)) (modTime (fun t => { t with rate := r }) d)

/-- The servo corrects an offset through rate alone, and reports one beyond STEP_ALARM (R397). -/
def slew (off : Int) (d : Dev) : Dev :=
  let d := servoRate off d
  if (dget R.STEP_ALARM d : Int) * 2 ^ 16 < off.natAbs then reportLim (10 * acPerS) 0 0x0482 (unsgn 64 off) 0 d else d

/-- The latest measurements of an acquisition, 16 at most, this one among them. -/
def recent (off : Int) (d : Dev) : List Int := (off :: d.time.offs).take 16

/-- Sixteen consecutive measurements lie within LOCK_THRESHOLD of one another (R396; DEDUCED, log entry 6). -/
def locks (off : Int) (d : Dev) : Bool :=
  let os := recent off d
  decide (os.length = 16) && os.all (fun x => os.all (fun y => decide (x - y ≤ (dget R.LOCK_THRESHOLD d : Int) * 2 ^ 16)))

/-- One offset measurement (R396, R397): acquisition, lock, step or slew. -/
def measure (off : Int) (d : Dev) : Dev :=
  let d := dset R.OFFSET_FROM_SOURCE (unsgn 64 (off + 2 ^ 63)) d
  let lock := locks off d
  let step := d.time.stepDue || d.time.restep
  if dget R.SERVO_STATE d = 2 then slew off d
  else
    let d := modTime (fun t => { t with offs := (off :: t.offs).take 16 }) d
    let d := if step then d else slew off d
    if lock = false then d
    else
      let d := dset R.SERVO_STATE 2 (modTime (fun t => { t with source := t.src, holdAt := none }) d)
      showSource (if step then stepClock off d else d)

/-! ### PTP -/

/-- PTP messages reach the device: in SLEEP every datagram but WAKE is discarded, and profile 0 runs over UDP (R459, Table 16.3). -/
def ptpHears (d : Dev) : Bool := decide (dget R.POWER_STATE d ≠ 3 ∨ dget R.PTP_PROFILE d ≠ 0)

/-- PTP_ANNOUNCE: `key` orders the Announce data sets as clause 9.3 does, the lower the better; `ident` is the
clockIdentity (R395, R403). UTC_OFFSET follows every Announce of the domain (R389). -/
def ptpAnnounce (domain ident key : Nat) (utc : Int) (d : Dev) : Dev :=
  if domain ≠ dget R.PTP_DOMAIN d ∨ ptpHears d = false then d
  else
    let d := dset R.UTC_OFFSET (unsgn 16 utc) d
    let take := fun d => dset R.PTP_PARENT_ID ident (modTime (fun t => { t with master := some ident, masterKey := key }) d)
    if dget R.TIME_SOURCE_SELECT d = 2 then d
    else match d.time.master with
    | none => acquire 1 (take d)
    | some m =>
      if m = ident then take d
      else if key < d.time.masterKey then
        acquire 1 (startHoldover (bump R.PTP_MASTER_CHANGES (take d)))
      else d

def execPtpAnnounce (domain ident key : Nat) (utc : Int) (s : State) : Host.Outcome State Fault Refusal :=
  run (decide (domain < 128 ∧ ident < 2 ^ 64)) (ptpAnnounce domain ident key utc) s

/-- Station time in whole nanoseconds, as events at the MAC and at PPS_IN are stamped (R394, R400). -/
def stampNs (d : Dev) : Nat := stationAc d d.now / 2 ^ 32

/-- Mean path delay in ns that an answer gives (R393, Table 16.3): end to end from a Delay_Req and a Sync that left at `t1` and came at
`t2`, both in 2^-16 ns; peer to peer from a Pdelay_Req. None when no message of the kind waits for an answer. DESIGN CHOICE (log entry
164): a result below 0 or of 32 bits and more is taken as the nearest that PTP_PATH_DELAY holds. -/
def pathDelay (t1 t2 : Nat) (r : PtpReply) (d : Dev) : Option Nat :=
  let mean := fun (x : Int) => some (min (x / 2 ^ 17).toNat (2 ^ 32 - 1))
  match d.time.ptpTx with
  | [1, t3] => mean (((t2 : Int) - t1) + ((r.far : Int) - (t3 * 2 ^ 16 : Nat)))
  | [2, t3] => mean ((((stationAc d r.back / 2 ^ 32 + dget R.PTP_INGRESS_LATENCY d : Nat) : Int) - t3) * 2 ^ 16 - r.far)
  | _ => none

/-- The delay that an answer gives enters PTP_PATH_DELAY, and its message is done with. -/
def takeDelay (t1 t2 : Nat) (r : Option PtpReply) (d : Dev) : Dev :=
  match r.bind (fun x => pathDelay t1 t2 x d) with
  | some v => dset R.PTP_PATH_DELAY v (modTime (fun t => { t with ptpTx := [] }) d)
  | none => d

/-- PTP_SYNC: `t1` is the source's time of the Sync's departure, corrections included, in 2^-16 ns; `reply` is what has answered the
device's delay message since the Sync before (R393, R394, R396). -/
def ptpSync (domain ident t1 : Nat) (reply : Option PtpReply) (d : Dev) : Dev :=
  if domain ≠ dget R.PTP_DOMAIN d ∨ d.time.src ≠ 1 ∨ d.time.master ≠ some ident ∨ ptpHears d = false then d
  else
    let t2 := (stampNs d + dget R.PTP_INGRESS_LATENCY d) * 2 ^ 16
    let d := takeDelay t1 t2 reply d
    measure ((t1 : Int) + (dget R.PTP_PATH_DELAY d * 2 ^ 16 : Nat) - (t2 : Nat)) d

def execPtpSync (domain ident t1 : Nat) (reply : Option PtpReply) (s : State) : Host.Outcome State Fault Refusal :=
  run (decide (domain < 128 ∧ ident < 2 ^ 64)) (ptpSync domain ident t1 reply) s

/-- PTP_PDELAY_REQ: under the power utility profile the device answers, two-step (Table 16.3). -/
def ptpPdelayReq (d : Dev) : Dev :=
  if dget R.PTP_PROFILE d = 1 then
    modTime (fun t => { t with ptpAns := [stampNs d + dget R.PTP_INGRESS_LATENCY d, stampNs d + dget R.PTP_EGRESS_LATENCY d] }) d
  else d

def execPtpPdelayReq (s : State) : Host.Outcome State Fault Refusal := run true ptpPdelayReq s

/-- PTP_DELAY_REQ_SEND: under the default profile the device sends a Delay_Req to its master (Table 16.3). -/
def ptpDelayReqSend (d : Dev) : Dev :=
  if dget R.PTP_PROFILE d = 0 ∧ d.time.master ≠ none then
    modTime (fun t => { t with ptpTx := [1, stampNs d + dget R.PTP_EGRESS_LATENCY d] }) d
  else d

def execPtpDelayReqSend (s : State) : Host.Outcome State Fault Refusal := run true ptpDelayReqSend s

/-- PTP_PDELAY_REQ_SEND: under the power utility profile the device measures its peer delay (Table 16.3). -/
def ptpPdelayReqSend (d : Dev) : Dev :=
  if dget R.PTP_PROFILE d = 1 then
    modTime (fun t => { t with ptpTx := [2, stampNs d + dget R.PTP_EGRESS_LATENCY d] }) d
  else d

def execPtpPdelayReqSend (s : State) : Host.Outcome State Fault Refusal := run true ptpPdelayReqSend s

/-- The master is lost (R395, R398, R403). -/
def masterLost (d : Dev) : Dev :=
  match d.time.master with
  | none => d
  | some _ =>
    let d := dset R.PTP_PARENT_ID 0 (modTime (fun t => { t with master := none }) (bump R.PTP_MASTER_CHANGES d))
    if d.time.src = 1 then fallBack (startHoldover d) else d

/-- PTP_ANNOUNCE_TIMEOUT (R395). -/
def execPtpAnnounceTimeout (s : State) : Host.Outcome State Fault Refusal := run true masterLost s

/-- PTP_SYNC_TIMEOUT: no Sync within 3 intervals loses the master too (R395). -/
def execPtpSyncTimeout (s : State) : Host.Outcome State Fault Refusal := run true masterLost s

/-- A write to PTP_PROFILE or PTP_DOMAIN restarts the port: the master is to be selected again, and a locked clock enters
holdover (R393). -/
def ptpRestart (d : Dev) : Dev :=
  let d := dset R.PTP_PARENT_ID 0 (modTime (fun t => { t with master := none, ptpTx := [] }) d)
  if d.time.src = 0 then d else fallBack (modTime (fun t => { t with src := 0 }) (startHoldover d))

/-- TIME_SOURCE_SELECT takes a new value: the servo turns to the source that it now allows, and a clock locked to another enters holdover
(R398, R400). -/
def sourceSelect (d : Dev) : Dev :=
  let sel := dget R.TIME_SOURCE_SELECT d
  let want := if sel ≠ 2 ∧ d.time.master.isSome then 1 else if sel ≠ 0 ∧ d.time.ppsPresent then 2 else 0
  if want = d.time.src then d
  else
    let d := if (d.time.src = 1 ∧ sel ≠ 2) ∨ (d.time.src = 2 ∧ sel ≠ 0) then d else startHoldover d
    if want = 0 then dset R.SERVO_STATE (if d.time.source = 3 then 3 else 0) (modTime (fun t => { t with src := 0, offs := [] }) d)
    else acquire want d

/-- TIME_RESTEP (R399): abort code 0 when accepted. -/
def timeRestepCmd (d : Dev) : Dev × Nat :=
  if armed d ∨ d.time.src = 0 then (d, 0xA00B) else (modTime (fun t => { t with restep := true }) d, 0)

/-- Arming drops a pending re-step, and starts the frame stamps anew (R391, R399). -/
def timeArm (d : Dev) : Dev :=
  let had := d.time.restep
  let d := dset R.AC_PERIOD R.AC_PERIOD.dflt (modTime (fun t => { t with restep := false, stamps := [], tags := [], stampFrom := 0 }) d)
  if had then report 0x0483 0 0 d else d

/-! ### PPS -/

/-- ns per second. -/
def nsPerS : Nat := 1000000000

/-- PPS_IN_EDGE (R400, R401): the edge comes now. -/
def ppsInEdge (rising : Bool) (d : Dev) : Dev :=
  if rising = decide (dget R.PPS_IN_POLARITY d = 1) then d
  else
    let t : Int := (stampNs d : Int) - sgn 16 (dget R.PPS_IN_DELAY d)
    let near : Int := (t + nsPerS / 2) / nsPerS * nsPerS
    let d := modTime (fun x => { x with ppsAt := some d.now, ppsPresent := true }) d
    let sel := dget R.TIME_SOURCE_SELECT d
    if sel = 2 ∨ (sel = 1 ∧ d.time.master = none) then
      measure ((near - t) * 2 ^ 16) (if d.time.src = 2 then d else acquire 2 d)
    else if dget R.PPS_IN_CHECK d = 1 then
      let d := dset R.PPS_OFFSET (unsgn 32 (t - near + 0x80000000)) d
      if dget R.PPS_CHECK_LIMIT d < (t - near).natAbs then
        reportLim acPerS 0 0x0484 (dget R.PPS_OFFSET d) 0 (bump R.PPS_CHECK_EVENTS d)
      else d
    else d

def execPpsInEdge (rising : Bool) (s : State) : Host.Outcome State Fault Refusal := run true (ppsInEdge rising) s

/-- PPS_IN_LOSS: no edge for 1.1 s (R400). -/
def ppsInLoss (d : Dev) : Dev :=
  match d.time.ppsAt with
  | none => d
  | some t =>
    let d := modTime (fun x => { x with ppsAt := none, ppsPresent := false }) (advTo (t + 11 * (acPerS / 10)) d)
    if d.time.src = 2 then fallBack (startHoldover d) else d

def execPpsInLoss (s : State) : Host.Outcome State Fault Refusal := run true ppsInLoss s

/-- Time moves on until the clock reads at least `c`, in 2^-32 ns. -/
def advToClk (c : Nat) (d : Dev) : Dev :=
  if c ≤ d.time.clk then d
  else
    let inc := tickInc d.time.rate
    let k := (c - d.time.clk + inc - 1) / max inc 1
    advTo (((tickAt (pllOff d) d.now + k) * (12 * (1000000 + pllOff d).toNat) + 999999) / 1000000) d

/-- The second that the clock is in. -/
def clkSecond (d : Dev) : Nat := d.time.clk / (nsPerS * 2 ^ 32)

/-- PPS_OUT_MODE or PPS_OUT_WIDTH is about to be written: what both were at the beginning of this second of the clock is kept (R402). -/
def ppsOutKeep (d : Dev) : Dev :=
  if d.time.outSec = some (clkSecond d) then d
  else modTime (fun t => { t with outSec := some (clkSecond d), outWas := (dget R.PPS_OUT_MODE d, dget R.PPS_OUT_WIDTH d) }) d

/-- Mode and width of the pulse of second k: as they stood at its boundary; a write after the boundary counts from the next one. -/
def ppsOutSet (d : Dev) (k : Nat) : Nat × Nat :=
  if d.time.outSec = some k then d.time.outWas else (dget R.PPS_OUT_MODE d, dget R.PPS_OUT_WIDTH d)

/-- PPS_OUT_ASSERT: the next second boundary of the clock, plus PPS_OUT_DELAY (R402). -/
def ppsOutAssert (d : Dev) : Dev :=
  let dl := sgn 16 (dget R.PPS_OUT_DELAY d)
  let at' := fun (k : Nat) => (((k * nsPerS : Nat) : Int) + dl) * 2 ^ 32
  let k0 := clkSecond d
  let k := if (d.time.clk : Int) < at' k0 then k0 else if (d.time.clk : Int) < at' (k0 + 1) then k0 + 1 else k0 + 2
  let d := advToClk (at' k).toNat d
  let (m, w) := ppsOutSet d k
  let on := decide (m = 1 ∨ (m = 2 ∧ d.time.source ≠ 0))
  let d := modTime (fun t => { t with outWidth := w, outAt := if on then some d.now else none }) d
  { d with pins := { d.pins with ppsOut := on } }

def execPpsOutAssert (s : State) : Host.Outcome State Fault Refusal := run true ppsOutAssert s

/-- PPS_OUT_END: the pulse has lasted its width (R402). -/
def ppsOutEnd (d : Dev) : Dev :=
  match d.time.outAt with
  | none => d
  | some t =>
    let d := advTo (t + d.time.outWidth * acPerMs) d
    { d with pins := { d.pins with ppsOut := false }, time := { d.time with outAt := none } }

def execPpsOutEnd (s : State) : Host.Outcome State Fault Refusal := run true ppsOutEnd s

/-! ### Frame stamps -/

/-- The stamp T_n and AC_PERIOD at the growth ring of frame n (R391). -/
def latchStamp (n : Nat) (d : Dev) : Dev :=
  let t : Nat := stationAc d d.now / 2 ^ 16
  let old := tget 0 d.time.stamps ((n + 1) % 1025)
  let p := if d.time.stampFrom + 1024 ≤ n then
      (rneDiv (((t : Int) - old) * 2 ^ 16) (1024 * fLen d)).toNat
    else R.AC_PERIOD.dflt
  dset R.AC_PERIOD p { d with time := { d.time with
    stamps := tset 0 d.time.stamps (n % 1025) t, tags := tset 0 d.time.tags (n % 1025) (timeTag d) } }

end Sys2Proof.Machine
end

