-- ==== Sys2Proof/Machine/Dictionary.lean ====
section
/-! DEFINITION. The object dictionary: entries and their values (R366, R367), reads, consistency groups (R374 to R378), cut-offs
and growth rings (R371, R372), and the forwarding of a mirrored pair (R424, R425). -/

namespace Sys2Proof.Machine

/-! ### Entries (R366, R386) -/

/-- Bytes of a type (Table 15.1). -/
def tyBytes : Ty → Nat
  | .u8 => 1
  | .u16 => 2
  | .u32 => 4
  | .u64 => 8
  | .i8 => 1
  | .i16 => 2
  | .i16s n => 2 * n
  | .str n => n
  | .oct n => n

def tySigned : Ty → Bool
  | .i8 => true
  | .i16 => true
  | _ => false

/-- The row of an ordinary subindex. -/
def findEntry (idx sub : Nat) : Option Entry :=
  entryTable.find? (fun e => decide (e.idx ≤ idx ∧ idx < e.idx + e.idxN ∧ e.sub ≤ sub ∧ sub < e.sub + e.subN))

/-- The group whose staging entry lies at idx:sub (Table 15.5). -/
def stagingAt (idx sub : Nat) : Option Nat :=
  if 0x2600 ≤ idx ∧ idx < 0x2640 ∧ sub = 0xFF then some (0x1000000 + (idx - 0x2600))
  else if 0x2450 ≤ idx ∧ idx < 0x2458 ∧ 1 ≤ sub ∧ sub ≤ 128 then some (0x2000000 + (idx - 0x2450) * 128 + (sub - 1))
  else if 0x2810 ≤ idx ∧ idx < 0x2850 ∧ sub = 0xFF then some (0x3000000 + (idx - 0x2810))
  else if 0x2C10 ≤ idx ∧ idx < 0x2C20 ∧ sub = 0xFF then some (0x4000000 + (idx - 0x2C10))
  else none

def idxExists (idx : Nat) : Bool :=
  decide (0x2450 ≤ idx ∧ idx < 0x2458) || entryTable.any (fun e => decide (e.idx ≤ idx ∧ idx < e.idx + e.idxN))

/-- Subindex 0x00: the highest ordinary subindex of an index. -/
def highestSub (idx : Nat) : Nat :=
  if 0x2450 ≤ idx ∧ idx < 0x2458 then 128
  else entryTable.foldl (fun m e => if e.idx ≤ idx ∧ idx < e.idx + e.idxN then max m (e.sub + e.subN - 1) else m) 0

/-- An entry by its key, with its default. -/
def regOf (key : Nat) : Reg := ⟨key, defaultOf key⟩

/-! ### Permitted values (R14, R367) -/

/-- LANE_MAP is a permutation (R54). -/
def isLanePerm (v : Nat) : Bool := (List.range 4).all (fun k => (List.range 4).any (fun i => decide (bits v (2 * i + 1) (2 * i) = k)))

/-- A value within what the entry takes: the abort code, 0 when it is fit. -/
def chkValue (d : Dev) (c : Chk) (v : Nat) : Nat :=
  let ok := fun (b : Bool) => if b then 0 else 0xA005
  match c with
  | .any => 0
  | .range lo hi => ok (decide (lo ≤ v ∧ v ≤ hi))
  | .step lo hi st => ok (decide (lo ≤ v ∧ v ≤ hi ∧ v % st = 0))
  | .among vs => ok (vs.contains v)
  | .mask m => ok (decide (v &&& m = v))
  | .lanePerm => ok (isLanePerm v)
  | .prbs => ok (decide (v &&& 0x87 = v ∧ v % 8 ≤ 5))
  | .inject => ok (decide (v ≤ 1 ∨ (10 ≤ v ∧ v ≤ 40)))
  | .coreName => ok (decide (v / 256 ≤ 199 ∧ v % 256 ≤ 127))
  | .align n => if v % n = 0 then 0 else 0xA010
  | .pow2 lo hi => ok (decide (lo ≤ v ∧ v ≤ hi) && (List.range 33).any (fun k => decide (v = 2 ^ k)))
  | .upToOr a b => ok (decide (v ≤ a ∨ v = b))
  | .pulse => ok (decide (24 ≤ v ∧ v ≤ fLen d - 24))
  | .powerPeak => ok (decide (dget R.POWER_CONT_LIMIT d ≤ v ∧ v ≤ 5600))
  | .currentPeak => ok (decide (dget R.CURRENT_CONT_LIMIT d ≤ v ∧ v ≤ 7800))
  | .recovery => ok (decide (v &&& 0x83 = v ∧ v % 4 ≠ 0))
  | .framed => ok (decide (bits v 7 2 = 0))
  | .framedCmd => ok (decide (bits v 7 2 = 0 ∧ v % 4 ≠ 0))

/-! ### Consistency groups (R374 to R378) -/

/-- Kind and instance of a group identifier name a group. -/
def groupExists (gid : Nat) : Bool :=
  let k := gid / 2 ^ 24
  let i := gid % 2 ^ 24
  decide ((k = 1 ∧ i < 64) ∨ (k = 2 ∧ i < 1024) ∨ (k = 3 ∧ i < 64) ∨ (k = 4 ∧ i < 16))

/-- Members in the order of the staging record: key and width. -/
def membersOf (gid : Nat) : List (Nat × Nat) :=
  let k := gid / 2 ^ 24
  let i := gid % 2 ^ 24
  let at1 := fun (base sub w : Nat) => ((base + i) * 256 + sub, w)
  if k = 1 then [at1 0x2600 1 10, at1 0x2600 2 10, at1 0x2600 3 1, at1 0x2600 4 64, at1 0x2600 5 1, at1 0x2600 6 1, at1 0x2600 7 1,
    at1 0x2600 8 2, at1 0x2600 9 4]
  else if k = 2 then [0x2410, 0x2418, 0x2420, 0x2428, 0x2430, 0x2438].map (fun b => ((b + i / 128) * 256 + i % 128 + 1, 2))
  else if k = 3 then [at1 0x2810 1 1, at1 0x2810 2 1, at1 0x2810 3 2, at1 0x2810 4 256, at1 0x2810 5 256, at1 0x2810 6 4, at1 0x2810 7 4,
    at1 0x2810 8 1, at1 0x2810 9 1, at1 0x2810 10 4]
  else if k = 4 then [at1 0x2C10 1 1, at1 0x2C10 2 128, at1 0x2C10 3 4, at1 0x2C10 4 1]
  else []

/-- The group that an RWG entry belongs to. -/
def groupOfKey (key : Nat) : Nat :=
  let idx := key / 256
  if 0x2600 ≤ idx ∧ idx < 0x2640 then 0x1000000 + (idx - 0x2600)
  else if 0x2400 ≤ idx ∧ idx < 0x2450 then 0x2000000 + (idx % 8) * 128 + (key % 256 - 1)
  else if 0x2810 ≤ idx ∧ idx < 0x2850 then 0x3000000 + (idx - 0x2810)
  else 0x4000000 + (idx - 0x2C10)

/-- The number of a key among its group's members. -/
def memberNo (gid key : Nat) : Nat := ((membersOf gid).map Prod.fst).idxOf key

/-- A member's staged value, or its value in effect. -/
def stagedOr (d : Dev) (gid i : Nat) : Nat :=
  let key := ((membersOf gid).getD i (0, 0)).1
  (tget none (grpOf d gid).staged i).getD (dget (regOf key) d)

/-- The staging record (Table 15.6) and its length. -/
def stagingRec (d : Dev) (gid : Nat) : Nat × Nat :=
  let g := grpOf d gid
  let ms := membersOf gid
  let mask := ((List.range ms.length).map (fun i => if (tget none g.staged i).isSome then 2 ^ i else 0)).foldl (· + ·) 0
  let body := (List.range ms.length).flatMap (fun i => bytesOf (stagedOr d gid i) (ms.getD i (0, 0)).2)
  let bs := [g.st, g.holder] ++ bytesOf mask 2 ++ [0, 0, 0, 0] ++ body
  (ofBytes bs, bs.length)

/-- Groups that a client holds. -/
def heldAll (d : Dev) (c : Nat) : Nat := d.ctl.groups.countP (fun e => decide (e.2.st ≠ 0 ∧ e.2.holder = c))

/-- A member write by client c (R375): the effect, and the abort code. -/
def stageMember (c key v : Nat) (d : Dev) : Dev × Nat :=
  let gid := groupOfKey key
  let g := grpOf d gid
  if g.st = 2 then (d, 0xA009)
  else if g.st = 1 ∧ g.holder ≠ c then (d, 0xA008)
  else (setGrp gid { g with st := 1, holder := c, staged := tset none g.staged (memberNo gid key) (some v) } d, 0)

/-! #### The checks of a commit (R80 to R82, R288, R302, R376) -/

/-- Decimation that a filter profile gives: the FIR's while it is enabled. -/
def decOf (filterEnable fir : Nat) : Nat := if bit filterEnable 2 then fir else 1

/-- A load is writing slot k: its object's own DICT_INIT sets what it was compiled for (R215). -/
def underLoad (d : Dev) (k : Nat) : Bool :=
  match d.ldr.job with
  | some j => decide (j.cmd = 1 ∧ j.slot = k ∧ dget R.LOAD_STATE d = 5) && !objPatch j.obj
  | none => false

/-- Channels that some loaded context uses. -/
def usedChans (d : Dev) : List Nat :=
  (List.range 4).flatMap (fun k => if underLoad d k then [] else (loadedOf d k).rates.map Prod.fst)

/-- Bits set in a care mask. -/
def careBits (m : Nat) : Nat := ones m

/-- Port p runs in wide mode (R55). -/
def portWide (d : Dev) (p : Nat) : Bool :=
  decide (dget (R.PORT_MODE p) d = 2) || (decide (dget (R.PORT_MODE p) d = 0) && (portOf d p).wide)

/-- A set of channels names one that does not exist in its port's mode. -/
def badChans (d : Dev) (set : Nat) : Bool := (List.range 1024).any (fun c => bit set c && portWide d (c / 64) && decide (4 ≤ c % 64))

/-- The value that an entry will hold once all that has been accepted for it has taken effect (R371). -/
def nextGet (d : Dev) (r : Reg) : Nat :=
  let g := grpOf d (groupOfKey r.key)
  match tget none d.lnk.hold r.key, tget none d.ctl.rwlNew r.key, tget none d.ctl.rwlLatched r.key with
  | some v, _, _ => v
  | none, some v, _ => v
  | none, none, some v => v
  | none, none, none =>
    if g.st = 2 then (tget none g.staged (memberNo (groupOfKey r.key) r.key)).getD (dget r d) else dget r d

/-- Decimation in effect on a channel. -/
def decNow (d : Dev) (c : Nat) : Nat :=
  let p := dget (R.CH_PROFILE c) d
  decOf (dget (R.FILTER_ENABLE p) d) (dget (R.FIR_DECIMATION p) d)

/-- The first check that the merged values of a group fail: the abort code and the number of the first failing member. -/
def groupFault (d : Dev) (gid : Nat) : Option (Nat × Nat) :=
  let k := gid / 2 ^ 24
  let i := gid % 2 ^ 24
  let v := stagedOr d gid
  if k = 1 then
    let new := decOf (v 2) (v 4)
    if (usedChans d).any (fun c => decide (nextGet d (R.CH_PROFILE c) = i ∧ new ≠ decNow d c)) then some (0xA00E, 2) else none
  else if k = 2 then (if sgn 16 (v 5) < sgn 16 (v 4) then some (0xA006, 4) else none)
  else if k = 3 then
    if v 1 = 1 ∧ (v 2 = 0 ∨ careBits (v 3) < v 2) then some (0xA006, 2)
    else if v 9 ≠ 0 ∧ v 9 ≤ v 5 then some (0xA006, 5)
    else if 15 < v 7 ∧ v 7 ≠ 0xFF then some (0xA005, 7)
    else none
  else if badChans d (v 1) then some (0xA005, 1)
  else if 279264 < v 2 then some (0xA005, 2)
  else none

/-- The key of a group's member i. -/
def memberKey (gid i : Nat) : Nat := ((membersOf gid).getD i (0, 0)).1

/-! ### Forwarding between the devices of a mirrored pair (R424, R425) -/

/-- This device is the primary of a pair and forwards its settings. -/
def forwards (d : Dev) : Bool :=
  decide (dget R.MIRROR_SYNC d = 1 ∧ dget R.MIRROR_ROLE d = 1 ∧ (dget R.MIRROR_SYNC_STATE d = 1 ∨ dget R.MIRROR_SYNC_STATE d = 2))

/-- The settings of this device are its primary's. -/
def follows (d : Dev) : Bool :=
  decide (dget R.MIRROR_SYNC d = 1 ∧ dget R.MIRROR_ROLE d = 2 ∧ (dget R.MIRROR_SYNC_STATE d = 1 ∨ dget R.MIRROR_SYNC_STATE d = 2))

/-- Entries of the 0x4000 and 0x4400 ranges are not mirrored. -/
def mirrors (key : Nat) : Bool := !decide (0x4000 ≤ key / 256 ∧ key / 256 < 0x4800)

/-- Synchronisation is lost (R425). -/
def syncLost (d : Dev) : Dev := report 0x0445 (curFrame d) 0 (dset R.MIRROR_SYNC_STATE 3 d)

/-- A setting that a primary with MIRROR_SYNC = 1 cannot send, since its link has been down from the start (R425). -/
def unsent (d : Dev) : Bool :=
  decide (dget R.MIRROR_SYNC d = 1 ∧ dget R.MIRROR_ROLE d = 1 ∧ dget R.MIRROR_SYNC_STATE d = 0 ∧ linkState d 2 ≠ 2)

/-- A setting goes to the secondary: kind, key, value, frame. -/
def forwardSet (kind key v g : Nat) (d : Dev) : Dev :=
  if linkState d 2 = 2 then sendFlit 2 9 [kind, key, v, g] d else syncLost d

/-- The frame at whose growth ring a write accepted now takes effect (R371, R424): `fwd` says that it is forwarded. -/
def effectFrame (fwd : Bool) (d : Dev) : Nat := if running d = false then 0 else if fwd then nextFwdFrame d else d.grid.nextC

/-- An RWL write (R18, R371). -/
def stageRwl (key v : Nat) (d : Dev) : Dev :=
  let fwd := forwards d && mirrors key
  let g := effectFrame fwd d
  let d := if fwd ∧ running d ∧ d.grid.nextC < g then
      { d with lnk := { d.lnk with hold := tset none d.lnk.hold key (some v) } }
    else modCtl (fun c => { c with rwlNew := tset none c.rwlNew key (some v) }) d
  if fwd then forwardSet 0 key v g d else if unsent d && mirrors key then syncLost d else d

/-- The members of a group that a commit forwards: member number and value, one after the other. -/
def stagedList (g : Grp) : List Nat := g.staged.flatMap (fun e => match e.2 with | some v => [e.1, v] | none => [])

/-- Groups are committed by client c for one growth ring (R376). -/
def commitGroups (c : Nat) (gs : List Nat) (d : Dev) : Dev :=
  let fwd := forwards d
  let f := effectFrame fwd d
  let d := gs.foldl (fun d gid =>
    let g := grpOf d gid
    let d := setGrp gid { g with st := 2, due := f } d
    if fwd then (if linkState d 2 = 2 then sendFlit 2 9 ([1, gid, 0, f] ++ stagedList g) d else syncLost d)
    else if unsent d then syncLost d else d) d
  modCtl (fun x => { x with commitFrame := tset 0 x.commitFrame c f }) d

/-- What a client's request came to: the block, the abort code, and the entry the abort names. -/
abbrev Answer := Dev × Nat × Nat

/-- GROUP_COMMIT (R376). -/
def groupCommit (c gid : Nat) (d : Dev) : Answer :=
  let g := grpOf d gid
  let own := R.GROUP_COMMIT.key
  if g.st = 2 ∧ g.holder = c then (d, 0xA009, own)
  else if g.st ≠ 1 ∨ g.holder ≠ c then (d, 0xA00A, own)
  else if follows d then (d, 0xA011, own)
  else match groupFault d gid with
    | some (code, i) => (d, code, memberKey gid i)
    | none => (commitGroups c [gid] d, 0, own)

/-- GROUP_COMMIT_ALL (R376). -/
def groupCommitAll (c : Nat) (d : Dev) : Answer :=
  let gs := heldStaging d c
  let own := R.GROUP_COMMIT_ALL.key
  if gs = [] then (d, 0xA00A, own)
  else if follows d then (d, 0xA011, own)
  else match gs.findSome? (fun g => (groupFault d g).map (fun x => (x.1, memberKey g x.2))) with
    | some (code, key) => (d, code, key)
    | none => (commitGroups c gs d, 0, own)

/-- GROUP_DISCARD (R377). -/
def groupDiscard (c gid : Nat) (d : Dev) : Answer :=
  let own := R.GROUP_DISCARD.key
  let g := grpOf d gid
  if gid = 0xFFFFFFFF then
    let gs := heldStaging d c
    if gs = [] then (d, 0xA00A, own) else (gs.foldl (fun d g => freeGroup g d) d, 0, own)
  else if g.st = 2 ∧ g.holder = c then (d, 0xA009, own)
  else if g.st ≠ 1 ∨ g.holder ≠ c then (d, 0xA00A, own)
  else (freeGroup gid d, 0, own)

/-! ### Cut-off and growth ring (R371, R372) -/

/-- The values of a committed group, by key. -/
def groupVals (gid : Nat) (g : Grp) : List (Nat × Nat) := g.staged.filterMap (fun e => e.2.map (fun v => (memberKey gid e.1, v)))

/-- The values of a forwarded setting, by key. -/
def fwdVals (f : Fwd) : List (Nat × Nat) :=
  if f.kind = 0 ∨ f.kind = 3 then [(f.key, f.val)]
  else if f.kind = 1 then f.members.filterMap (fun e => e.2.map (fun v => (memberKey f.key e.1, v)))
  else []

def putVals (vs : List (Nat × Nat)) (t : Tab (Option Nat)) : Tab (Option Nat) := vs.foldl (fun t p => tset none t p.1 (some p.2)) t

/-- DICT_CUTOFF: C_g of the next frame whose cut-off is to come. What has been accepted is latched for its growth ring. -/
def dictCutoff (d : Dev) : Dev :=
  if running d = false then d
  else
    let g := d.grid.nextC
    let d := advTo (cutAt d g) d
    let due := d.ctl.groups.filter (fun e => decide (e.2.st = 2 ∧ e.2.due ≤ g) && !e.2.latched)
    let fwd := d.lnk.dictIn.filter (fun f => decide (f.frame ≤ g))
    let t := putVals (d.ctl.rwlNew.filterMap (fun e => (tget none d.ctl.rwlNew e.1).map (fun v => (e.1, v)))) d.ctl.rwlLatched
    let t := putVals (due.flatMap (fun e => groupVals e.1 e.2)) t
    let t := putVals (fwd.flatMap fwdVals) t
    let d := modCtl (fun c => { c with
      rwlLatched := t, rwlNew := d.lnk.hold
      groups := c.groups.map (fun (e : Nat × Grp) => if e.2.st = 2 ∧ e.2.due ≤ g then (e.1, { e.2 with latched := true }) else e) }) d
    { d with lnk := { d.lnk with hold := [], dictIn := d.lnk.dictIn.filter (fun f => decide (g < f.frame)) }
             grid := { d.grid with nextC := g + 1 } }

def execDictCutoff (s : State) : Host.Outcome State Fault Refusal := run true dictCutoff s

/-- The growth ring of frame g: what was latched takes effect, committed groups become FREE (R375), and the committing clients read in
COMMIT_FRAME the frame at which their groups took effect, a restart's lost frames passed over (R372, R376). -/
def dictAtRing (g : Nat) (d : Dev) : Dev :=
  let vs := d.ctl.rwlLatched.filterMap (fun e => e.2.map (fun v => (e.1, v)))
  let caps := distinct ((vs.filter (fun p => decide (0x2C1001 ≤ p.1 ∧ p.1 < 0x2C2000 ∧ p.1 % 256 ≤ 4))).map (fun p => p.1 / 256 - 0x2C10))
  let old := putVals (vs.map (fun p => (p.1, dget (regOf p.1) d))
    ++ caps.map (fun k => ((R.GROUP_CONFIG_FRAME k).key, dget (R.GROUP_CONFIG_FRAME k) d))) []
  let d := vs.foldl (fun d p => dset (regOf p.1) p.2 d) d
  let d := caps.foldl (fun d k => dset (R.GROUP_CONFIG_FRAME k) g d) d
  let took := d.ctl.groups.filter (fun e => e.2.latched)
  modCtl (fun c => { c with
    rwlLatched := [], rwlOld := old, groups := c.groups.filter (fun e => !e.2.latched)
    commitFrame := took.foldl (fun t e => if tget 0 t e.2.holder = e.2.due then tset 0 t e.2.holder g else t) c.commitFrame }) d

/-! ### MIRROR_DICT on the secondary (R424, R425) -/

/-- Members as they follow in the flit. -/
def memberTab : List Nat → Tab (Option Nat)
  | i :: v :: r => tset none (memberTab r) i (some v)
  | _ => []

/-- A setting that this device mirrors: an RWL or RWG entry, a group, or a switch. -/
def fwdOk (f : Fwd) : Bool :=
  if f.kind = 0 ∨ f.kind = 3 then
    (match findEntry (f.key / 256) (f.key % 256) with | some e => decide (e.access = .rwl ∨ e.access = .rwg) && mirrors f.key | none => false)
  else if f.kind = 1 then groupExists f.key else true

/-- MIRROR_DICT: the setting is applied at its effect frame; one that comes too late loses the synchronisation. -/
def mirrorDict (f : Fwd) (d : Dev) : Dev :=
  if dget R.MIRROR_SYNC d ≠ 1 ∨ dget R.MIRROR_ROLE d ≠ 2 ∨ fwdOk f = false then d
  else if running d ∧ f.frame < d.grid.nextC then syncLost d
  else if f.kind = 2 then dset R.PENDING_SWITCH (f.frame % 2 ^ 56 * 256 + 128 + f.val % 4) d
  else if f.kind = 3 ∧ (armed d = false ∨ ending d) then dset R.MIRROR_SYNC_STATE 1 (dset (regOf f.key) f.val d)
  else if running d = false then modCtl (fun c => { c with rwlNew := putVals (fwdVals f) c.rwlNew }) d
  else
    let d := { d with lnk := { d.lnk with dictIn := d.lnk.dictIn ++ [f] } }
    if f.kind = 3 then dset R.MIRROR_SYNC_STATE 2 { d with lnk := { d.lnk with resyncAt := some f.frame } } else d

def execMirrorDict (seq kind key val frame : Nat) (members : List Nat) (s : State) : Host.Outcome State Fault Refusal :=
  run (decide (seq < 4096 ∧ kind < 4 ∧ key < 2 ^ 32 ∧ frame < 2 ^ 64))
    (recv 2 seq (mirrorDict ⟨kind, key, val, frame, memberTab members⟩)) s

/-- A resynchronisation has taken effect at the growth ring of frame n (R425). -/
def resyncAtRing (n : Nat) (d : Dev) : Dev :=
  match d.lnk.resyncAt with
  | some g => if g ≤ n then dset R.MIRROR_SYNC_STATE 1 { d with lnk := { d.lnk with resyncAt := none } } else d
  | none => d

/-! ### Reading (R17, R366, R378, R381) -/

/-- The core that CORE_SELECT names, when it holds a logical core of the map in force, which until a restart completes is the one before
it (R143, R233). -/
def selected (d : Dev) : Option Core :=
  let k := dget R.CORE_SELECT d
  (actsAs d k).map (fun _ => settle d.now (coreOf d k))

/-- WINDTHROW_MAP of die column dx, row y. -/
def windMap (d : Dev) (dx y : Nat) : Nat :=
  (List.range 25).foldl (fun m c => if (shownGone d).contains ((25 * dx + c) * 256 + y) then m + 2 ^ c else m) 0

def words16 (ws : List Nat) : Nat := ofBytes (ws.flatMap (fun w => bytesOf w 8))

/-- The fingerprint of the frame that ended last, with its number, from 64 ac after its end (R265). -/
def shownFp (d : Dev) : Option (Nat × Nat) :=
  match d.grid.fpNext with
  | some (n, t) => if t ≤ d.now then (frameOf d n).fpDigest.map (fun y => (n, y)) else none
  | none => none

/-- What a read of an entry gives client c, where the entry is computed and not stored. -/
def computed (c key : Nat) (d : Dev) : Option Nat :=
  let f := d.fuses
  if key = R.GRADE.key then some f.grade
  else if key = R.STEPPING.key then some f.stepping
  else if key = R.LOGICAL_COLUMNS.key then some (gridCols d)
  else if key = R.SERIAL.key then some f.serial
  else if key = R.TIME_NOW.key then some (words16 (clockWords d))
  else if key = R.HOLDOVER_SECONDS.key then some (match d.time.holdAt with | some t => (d.now - t) / acPerS | none => 0)
  else if 0x480101 ≤ key ∧ key ≤ 0x480140 then
    some (match d.flt.log[key - 0x480101]? with | some (a, b, x, y) => words16 [a, b, x, y] | none => 0)
  else if key = R.WINDTHROW_COUNT.key then some (shownGone d).length
  else if 0x304101 ≤ key ∧ key < 0x304900 then some (windMap d (key / 256 - 0x3041) (key % 256 - 1))
  else if key = (R.OWNER_KEY 0).key then some (match keyOf d 0 with | some k => ofBytes (beBytes k 64) | none => 0)
  else if key = (R.OWNER_KEY 1).key then some (match keyOf d 1 with | some k => ofBytes (beBytes k 64) | none => 0)
  else if key = R.OWNER_KEY_STATE.key then some (keyState d)
  else if key = R.LAST_FP_FRAME.key then (shownFp d).map Prod.fst
  else if key = R.LAST_FINGERPRINT.key then (shownFp d).map Prod.snd
  else if key = R.SVN_FUSED.key then some f.svn
  else if key = R.DEVICE_CERT.key then some f.cert
  else if key = R.DEVICE_CERT_BYTES.key then some f.certBytes
  else if key = R.CA_CERT.key then some f.caCert
  else if key = R.CA_CERT_BYTES.key then some f.caBytes
  else if key = R.LOG_ENTRY.key then some (logEntryBytes d (dget R.LOG_READ_INDEX d))
  else if key = R.COMMIT_FRAME.key then some (tget 0 d.ctl.commitFrame c)
  else if key = R.GROUPS_HELD.key then some (heldAll d c)
  else if key = R.VLINE_STATE.key then some (linePins d)
  else if key = R.TEST_EN_STATE.key then some (if d.pins.testEn then 1 else 0)
  else if key = R.CORE_CONTEXT.key then some (match selected d with | some x => x.ctx | none => 0xFF)
  else if key = R.CORE_INSTANCES.key then some (match selected d with | some x => x.insts.length | none => 0)
  else if key = R.CORE_SLOTS.key then some (match selected d with | some x => x.slots.length | none => 0)
  else if key = R.CORE_MAX_SLOTS.key then some (match selected d with | some x => x.maxSlots | none => 0)
  else if key = R.CORE_LAST_TAG.key then some (coreOf d (dget R.CORE_SELECT d)).lastTag
  else if key = R.CORE_MAX_QUEUE.key then some (match selected d with | some x => x.maxQueue | none => 0)
  else none

/-- A read by client c: the value and its length, or the abort code. -/
def readEntry (c idx sub : Nat) (d : Dev) : Except Nat (Nat × Nat) :=
  if idxExists idx = false then .error 0xA001
  else if sub = 0 then .ok (highestSub idx, 1)
  else match stagingAt idx sub with
    | some g => .ok (stagingRec d g)
    | none => match findEntry idx sub with
      | none => .error 0xA002
      | some e =>
        let key := idx * 256 + sub
        let v := if e.access = .wo then 0 else (computed c key d).getD (dget (regOf key) d)
        .ok (v, tyBytes e.ty)

end Sys2Proof.Machine
end

