-- ==== Sys2Proof/Machine/Security.lean ====
section
/-! DEFINITION. Identity, boot, recovery, measurement and quotes (chapter 20), and the MP watchdog (R446). -/

namespace Sys2Proof.Machine

def modSec (g : Sec → Sec) (d : Dev) : Dev := { d with sec := g d.sec }

/-! ### NPP sessions (R377, R383) -/

def sessOf (d : Dev) (k : Nat) : Sess := tget Sess.rest d.ctl.sess k

/-- NPP_SESSIONS follows. -/
def showSess (d : Dev) : Dev := dset R.NPP_SESSIONS (d.ctl.sess.countP (fun e => e.2.isOpen)) d

def setSess (k : Nat) (x : Sess) (d : Dev) : Dev := showSess (modCtl (fun c => { c with sess := tset Sess.rest c.sess k x }) d)

/-- Session k, client k + 2, ends: what it holds in STAGING is discarded. -/
def closeSession (k : Nat) (d : Dev) : Dev :=
  if (sessOf d k).isOpen then setSess k Sess.rest (dropHolds (k + 2) d) else d

def closeSessions (d : Dev) : Dev := (List.range 8).foldl (fun d k => closeSession k d) d

/-! ### The firmware image (R477, R478) -/

/-- 64-bit word i of an image. -/
def imgWord (b : List Nat) (i : Nat) : Nat := ofBytes ((b.drop (8 * i)).take 8)

def imgBytes (b : List Nat) : Nat := imgWord b 1
def imgVersion (b : List Nat) : Nat := bits (imgWord b 2) 63 32
def imgSvn (b : List Nat) : Nat := bits (imgWord b 2) 31 24
def imgKey (b : List Nat) : Nat := bits (imgWord b 2) 23 16
def imgOwner (b : List Nat) : Nat := imgWord b 3

/-- Check 2 of Table 20.2: MAGIC, FORMAT, HEADER_BYTES, the bound of IMAGE_BYTES, the reserved fields; nothing else of the header. -/
def headerFits (b : List Nat) : Bool :=
  decide (imgWord b 0 = 0x4D50465700010200 ∧ imgBytes b ≤ 8388608 ∧ imgWord b 2 % 65536 = 0)
    && (List.range 40).all (fun i => decide (imgWord b (24 + i) = 0))

/-- Check 3: the Vuwald signature over words 0 to 7. -/
def vuwaldSigned (d : Dev) (b : List Nat) : Bool :=
  !(decide (imgKey b = 0) && d.fuses.rom0Revoked) &&
    (match d.fuses.romKeys[imgKey b]? with
     | some k => signedBy k ((b.drop 64).take 64) (b.take 64)
     | none => false)

/-- Check 4: the owner's signature over words 0 to 15, once an owner key is provisioned. -/
def ownerSigned (d : Dev) (b : List Nat) : Bool :=
  !provisioned d || (goodKeys d).any (fun k => decide (keyId k = imgOwner b) && signedBy k ((b.drop 128).take 64) (b.take 128))

/-- Check 6: the digest of the body. -/
def bodyFits (b : List Nat) : Bool :=
  decide (imgBytes b ≤ b.length ∧ sm3 ((b.drop 512).take (imgBytes b - 512)) = (b.drop 32).take 32)

/-- The checks of Table 20.2 in order: BOOT_FAIL_REASON, 0 when the image passes. -/
def imageReason (d : Dev) (err : Bool) (b : List Nat) : Nat :=
  if err ∨ b.length < 512 then (if err then 1 else 2)
  else if headerFits b = false then 2
  else if vuwaldSigned d b = false then 3
  else if ownerSigned d b = false then 4
  else if imgSvn b < d.fuses.svn then 5
  else if bodyFits b = false then 6
  else 0

/-! ### Boot (R478 to R480, R483) -/

/-- START_STATE 3 once verified firmware runs and the dies are up (Table 21.1). -/
def ready (d : Dev) : Dev :=
  driveFaultN (if dget R.BOOT_STATE d = 2 ∧ d.sys.step = 5 then dset R.START_STATE 3 d else d)

/-- An image that has passed runs; a recovery image is measured as event 3 (Table 20.3). DESIGN CHOICE (log entry 171): its boot takes no
time, so that RECOVERY_STATUS passes over 4. -/
def runImage (b : List Nat) (recovered : Bool) (d : Dev) : Dev :=
  let d := if recovered then extend 1 3 (sm3 (b.take 192)) d else d
  let d := modSec (fun x => { x with recovered := recovered, unproven := false, signer := imgOwner b, wait := false, image := [] }) d
  ready (dset R.BOOT_STATE 2 (dset R.BOOT_FAIL_REASON 0 (dset R.FW_VERSION (imgVersion b) (dset R.FW_SVN (imgSvn b) (dset R.RECOVERY_STATUS 0 d)))))

/-- The ROM waits for an image, after a failed check with FAULT_N low until verified firmware runs (R480). -/
def recoveryWait (reason : Nat) (d : Dev) : Dev :=
  let d := dset R.BOOT_STATE 3 (dset R.BOOT_FAIL_REASON reason (modSec (fun x => { x with unproven := x.unproven || decide (reason ≠ 0) }) d))
  driveFaultN (if reason = 0 then d else report 0x1503 reason (dget R.MP_BOOTS d) d)

/-- MP_BOOT: the ROM starts, measures itself and the keys, and begins to verify (R478, Table 20.3). -/
def mpBoot (d : Dev) : Dev :=
  if dget R.BOOT_STATE d ≠ 0 ∨ d.sys.step < 3 then d
  else dset R.BOOT_STATE 1 (extendKeys (extend 0 1 (bytesOf d.fuses.romDigest 32) (bump R.MP_BOOTS d)))

def execMpBoot (s : State) : Host.Outcome State Fault Refusal := run true mpBoot s

/-- The header of the image in flash enters MR0 at each MP boot, whatever the checks say (Table 20.3, event 2). DESIGN CHOICE (log entry
171): where it could not be read, or the flash holds none, there is nothing to extend. -/
def extendHeader (err : Bool) (d : Dev) : Dev := if err || decide (d.sec.flash.length < 512) then d else extend 0 2 (sm3 (d.sec.flash.take 192)) d

/-- BOOT_VERIFY_DONE: the checks end; `err` says that the header could not be read from flash. -/
def bootVerifyDone (err : Bool) (d : Dev) : Dev :=
  if dget R.BOOT_STATE d ≠ 1 then d
  else
    let r := imageReason d err d.sec.flash
    let d := extendHeader err d
    if r = 0 ∧ d.sec.wait = false then runImage d.sec.flash false d
    else recoveryWait r (dset R.RECOVERY_STATUS 1 d)

def execBootVerifyDone (err : Bool) (s : State) : Host.Outcome State Fault Refusal := run true (bootVerifyDone err) s

/-- The MP reboots: sessions close, a load in progress ends (R446), and no image runs, a recovery image neither. -/
def rebootMp (wait : Bool) (d : Dev) : Dev :=
  dset R.BOOT_STATE 0 (dset R.RECOVERY_STATUS 0 <| modSec (fun x => { x with wait := wait, recovered := false }) (abandonLoad (closeSessions d)))

/-- MP_WATCHDOG_EXPIRY (R446): not while the ROM writes the flash, when it services the watchdog itself (Table 20.6). -/
def mpWatchdogExpiry (d : Dev) : Dev :=
  if d.sys.step < 3 ∨ dget R.RECOVERY_STATUS d = 3 ∨ powerState d = 3 then d
  else
    let ats := (d.now :: d.flt.mpAt.filter (fun t => decide (d.now - t < 10 * acPerS))).take 3
    let d := modFlt (fun f => { f with mpAt := ats }) (bump R.MP_WATCHDOG_EVENTS d)
    let d := rebootMp false (report 0x1501 (dget R.MP_WATCHDOG_EVENTS d) 0 d)
    if ats.length = 3 then report 0x4502 0 0 d else d

def execMpWatchdogExpiry (s : State) : Host.Outcome State Fault Refusal := run true mpWatchdogExpiry s

/-- FIRMWARE_EXTEND: running firmware extends MR3 with event 15. -/
def execFirmwareExtend (digest : List Nat) (s : State) : Host.Outcome State Fault Refusal :=
  run (decide (digest.length = 32) && bytes8 digest) (fun d => if dget R.BOOT_STATE d = 2 then extend 3 15 digest d else d) s

/-! ### Recovery (R481, R482) -/

/-- RECOVERY_COMMAND 1: the host reboots running firmware into RECOVERY_WAIT. -/
def rebootToRecovery (c : Nat) (d : Dev) : Dev × Nat :=
  if c ≠ 0 then (d, 0xA011) else if dget R.BOOT_STATE d ≠ 2 then (d, 0xA00B) else (rebootMp true d, 0)

/-- The ROM can take an image. -/
def takesImage (d : Dev) : Bool := decide (dget R.BOOT_STATE d = 3) && !(decide (2 ≤ dget R.RECOVERY_STATUS d ∧ dget R.RECOVERY_STATUS d ≤ 4))

/-- Verification of a recovery image begins. -/
def verifyImage (toFlash : Bool) (img : List Nat) (d : Dev) : Dev :=
  dset R.RECOVERY_STATUS 2 (modSec (fun x => { x with image := img, toFlash := toFlash }) d)

/-- RECOVERY_COMMAND 2: `img` is what host memory holds at RECOVERY_ADDR. -/
def verifyHostImage (toFlash : Bool) (img : List Nat) (d : Dev) : Dev × Nat :=
  if takesImage d = false then (d, 0xA00B) else (verifyImage toFlash (img.take (dget R.RECOVERY_BYTES d)) d, 0)

/-- The staged bytes; a chunk that was never staged holds free values. -/
def stagedImage : Nat → Nat → Dev → List Nat × Dev
  | 0, _, d => ([], d)
  | n + 1, k, d =>
    match tget [] d.sec.chunks k with
    | [] =>
      let (ws, d) := drawWords 128 d
      let (r, d) := stagedImage n (k + 1) d
      (ws.flatMap (fun w => bytesOf w 8) ++ r, d)
    | bs =>
      let (r, d) := stagedImage n (k + 1) d
      (bs ++ r, d)

/-- RECOVERY_COMMAND 3: the image staged through RECOVERY_CHUNK. -/
def verifyStagedImage (toFlash : Bool) (d : Dev) : Dev × Nat :=
  if takesImage d = false then (d, 0xA00B)
  else
    let n := dget R.RECOVERY_BYTES d
    let (img, d) := stagedImage ((n + 1023) / 1024) 0 d
    (verifyImage toFlash (img.take n) d, 0)

/-- A write to RECOVERY_CHUNK (R482). -/
def recoveryChunk (v : Nat) (d : Dev) : Dev :=
  let o := dget R.RECOVERY_OFFSET d
  dset R.RECOVERY_OFFSET ((o + 1024) % 2 ^ 32) (modSec (fun x => { x with chunks := tset [] x.chunks (o / 1024) (bytesOf v 1024) }) d)

/-- RECOVERY_IMAGE_DONE: verification ends, with `ok` when the supplied bytes could be read, which is check 1, or the flash write and its
read-back, with `ok` when it reads back right (R481, R482). -/
def recoveryImageDone (ok : Bool) (d : Dev) : Dev :=
  let st := dget R.RECOVERY_STATUS d
  let img := d.sec.image
  if st = 2 then
    let r := imageReason d (!ok) img
    if r ≠ 0 then recoveryWait r (dset R.RECOVERY_STATUS 5 d)
    else if d.sec.toFlash then dset R.RECOVERY_STATUS 3 d
    else runImage img true d
  else if st = 3 then
    if ok then runImage img true (modSec (fun x => { x with flash := img }) d)
    else dset R.RECOVERY_STATUS 6 (modSec (fun x => { x with flash := [] }) d)
  else d

def execRecoveryImageDone (ok : Bool) (s : State) : Host.Outcome State Fault Refusal := run true (recoveryImageDone ok) s

/-! ### Owner keys and the security version (R475, R479) -/

def modFuses (g : Fuses → Fuses) (d : Dev) : Dev := { d with fuses := g d.fuses }

/-- OWNER_KEY_PROVISION: the 64 bytes of a public key, byte 0 lowest. -/
def ownerKeyProvision (v : Nat) (d : Dev) : Dev × Nat :=
  let k := beNum (bytesOf v 64)
  if armed d ∨ d.pins.testEn then (d, 0xA00B)
  else if (keyOf d 0).isNone then (extendKeys (modFuses (fun f => { f with ownerKeys := tset none f.ownerKeys 0 (some k) }) d), 0)
  else if (keyOf d 1).isNone then (extendKeys (modFuses (fun f => { f with ownerKeys := tset none f.ownerKeys 1 (some k) }) d), 0)
  else (d, 0xA00B)

/-- OWNER_KEY_REVOKE of a slot. -/
def ownerKeyRevoke (slot : Nat) (d : Dev) : Dev × Nat :=
  let e := modFuses (fun f => { f with revoked := setBit f.revoked slot true }) d
  if provisioned d ∧ goodKeys e = [] then (d, 0xA00B) else (extendKeys e, 0)

/-- SVN_ADVANCE. -/
def svnAdvance (v : Nat) (d : Dev) : Dev × Nat :=
  if v < d.fuses.svn ∨ dget R.FW_SVN d < v then (d, 0xA005) else (extendKeys (modFuses (fun f => { f with svn := v }) d), 0)

/-! ### Quotes (R485) -/

/-- The snapshot: bytes 0 to 255 of Table 20.5. -/
def quoteBytes (d : Dev) : List Nat :=
  let f := d.fuses
  let flags := (if dget R.LOG_DROPPED d ≠ 0 then 1 else 0) + (if d.sec.recovered then 2 else 0) + (if provisioned d then 4 else 0)
  let w1 := 0x6400 * 2 ^ 48 + f.grade * 2 ^ 40 + f.stepping * 2 ^ 32 + f.svn * 2 ^ 24 + flags * 2 ^ 16
  let word := fun (w : Nat) => bytesOf w 8
  word 0x51554F5400010140 ++ word w1 ++ bytesOf f.serial 16 ++ word (if dget R.BOOT_STATE d = 2 then d.sec.signer else 0)
    ++ word (dget R.LOG_COUNT d * 2 ^ 32) ++ word (logFrame d) ++ (nowWords d).flatMap word
    ++ bytesOf (dget R.QUOTE_NONCE d) 32 ++ (List.range 4).flatMap (fun i => bytesOf (dget (R.MR i) d) 32) ++ List.replicate 24 0

/-- QUOTE_COMMAND, a write of 1. -/
def quoteCommand (d : Dev) : Dev × Nat :=
  if dget R.QUOTE_STATE d = 1 ∨ powerState d = 3 then (d, 0xA00B)
  else (dset R.QUOTE_STATE 1 (modSec (fun x => { x with quote := quoteBytes d }) d), 0)

/-- A signature of the identity key, r then s, each big-endian (R473, R476). The random number of the signature is free (log entry 2). -/
def identitySign (d : Dev) (msg : List Nat) : List Nat :=
  let g := sm2Sign (1 + d.fuses.identity % (sm2n - 2)) (1 + (Config.quoteNonce (sm3n msg)).toNat % (sm2n - 1)) msg
  beBytes g.1 32 ++ beBytes g.2 32

/-- QUOTE_READY: the quote is signed with the identity key. -/
def quoteReady (d : Dev) : Dev :=
  if dget R.QUOTE_STATE d ≠ 1 then d
  else
    let q := d.sec.quote
    dset R.QUOTE_STATE 2 (dset R.QUOTE (ofBytes (q ++ identitySign d q)) d)

def execQuoteReady (s : State) : Host.Outcome State Fault Refusal := run true quoteReady s

end Sys2Proof.Machine
end

