-- ==== Sys2Proof/Machine/Startup.lean ====
section
/-! DEFINITION. Reset and start-up, the capture store's initialisation, arming and its end (chapters 21 and 22). -/

namespace Sys2Proof.Machine

def modSys (g : Sys → Sys) (d : Dev) : Dev := { d with sys := g d.sys }

/-! ### Reset (R488, R507, R510) -/

/-- POR_N low: everything takes its reset value but the fuses, the boot flash, the count of free values, and the levels of input
pins. A flash write that the reset cuts off leaves no image. -/
def porAssert (d : Dev) : Dev :=
  let r := Dev.reset
  { r with
    fuses := d.fuses
    freeCtr := d.freeCtr
    ports := (List.range 16).foldl (fun t p => tset Port.rest t p { Port.rest with presentN := (portOf d p).presentN }) []
    host := { r.host with perstN := d.host.perstN }
    pins := { r.pins with testEn := d.pins.testEn, safe0 := d.pins.safe0, safe1 := d.pins.safe1 }
    sec := { r.sec with flash := if dget R.RECOVERY_STATUS d = 3 then [] else d.sec.flash } }

def execPorNAssert (s : State) : Host.Outcome State Fault Refusal := run true porAssert s

/-- The understorey step begins: straps sampled, lines at the sampled safe level, FAULT_N low (Table 21.1). -/
def understorey (safe0 safe1 : Bool) (d : Dev) : Dev :=
  let d := { d with pins := { d.pins with porN := true, safe0 := safe0, safe1 := safe1 } }
  let d := dset R.SAFE_LEVEL_STRAPS ((if safe0 then 1 else 0) + (if safe1 then 2 else 0)) d
  driveFaultN (linesSafe (modSys (fun y => { y with step := 1 }) d))

/-- POR_N_RELEASE, with the levels of the two straps. -/
def porRelease (safe0 safe1 : Bool) (d : Dev) : Dev := if d.pins.porN then d else understorey safe0 safe1 d

def execPorNRelease (safe0 safe1 : Bool) (s : State) : Host.Outcome State Fault Refusal := run true (porRelease safe0 safe1) s

/-- RAIL_FAULT: a reset as by POR_N, which is high, so that the sequence starts again at once (R507): the time in which the lines are
high-impedance is none (log entry 170). -/
def railFault (d : Dev) : Dev := if d.pins.porN then understorey d.pins.safe0 d.pins.safe1 (porAssert d) else d

def execRailFault (s : State) : Host.Outcome State Fault Refusal := run true railFault s

/-- RAIL_SAMPLE: voltages in mV and currents in 0.1 A of rails 1 to 9 (R507, R515). -/
def railSample (volts amps : List Nat) (d : Dev) : Dev :=
  if d.pins.porN = false then d
  else (List.range 9).foldl (fun d k =>
    let v := volts.getD k 0
    dset (R.RAIL_VOLTAGE_MIN k) (min v (dget (R.RAIL_VOLTAGE_MIN k) d)) (dset (R.RAIL_VOLTAGE k) v (dset (R.RAIL_CURRENT k) (amps.getD k 0) d))) d

def execRailSample (volts amps : List Nat) (s : State) : Host.Outcome State Fault Refusal :=
  run (decide (volts.length = 9 ∧ amps.length = 9) && (volts ++ amps).all (fun v => decide (v < 65536))) (railSample volts amps) s

/-! ### Test saves (R462, Table 19.5) -/

/-- A setting: an entry whose access code is RW, RWL, RWS or RWG. -/
def isSetting (key : Nat) : Bool :=
  match findEntry (key / 256) (key % 256) with
  | some e => decide (e.access = .rw ∨ e.access = .rwl ∨ e.access = .rws ∨ e.access = .rwg)
  | none => false

/-- Every setting in effect and every staged group is saved. -/
def testSave (d : Dev) : Dev :=
  modSys (fun y => { y with saved := some (d.dict.filter (fun e => isSetting e.1), d.ctl.groups.filter (fun e => decide (e.2.st = 1))) }) d

/-- TEST_EN_RISE: a device in a low-power state exits to RUN first; before the hub is up the save waits for it (Table 22.11). -/
def testEnRise (d : Dev) : Dev :=
  if d.pins.testEn then d
  else
    let d := { d with pins := { d.pins with testEn := true } }
    if d.sys.step < 3 then d else testSave (exitToRun 0 d)

def execTestEnRise (s : State) : Host.Outcome State Fault Refusal := run true testEnRise s

/-! ### The steps of Table 21.1 (R489, R490) -/

/-- The coolant is within limits. -/
def coolantFits (d : Dev) : Bool :=
  decide (dget R.FLOW_MIN d ≤ dget R.FLOW d ∧ sgn 16 (dget R.INLET_TEMP d) ≤ sgn 16 (dget R.INLET_LIMIT d))

/-- The report of the coolant hold. -/
def holdReport (d : Dev) : Dev := report 0x04C1 0 (causes d) (modSys (fun y => { y with holdAt := some d.now }) d)

/-- START_STEP_DONE. In COOLANT_HOLD the step ends with a coolant sample within limits; one that is not begins the hold's
reports. -/
def startStepDone (d : Dev) : Dev :=
  let atStep := fun (k : Nat) (d : Dev) => modSys (fun y => { y with step := k }) d
  if d.sys.step = 1 then atStep 2 d
  else if d.sys.step = 2 then
    let d := linksStart (dset R.START_STATE 1 (atStep 3 d))
    if d.pins.testEn then testSave d else d
  else if d.sys.step = 3 then
    if coolantFits d then dset R.START_STATE 2 (modSys (fun y => { y with step := 4, holdAt := none }) d)
    else if d.sys.holdAt = none then holdReport d else d
  else if d.sys.step = 4 then ready (rediscover (atStep 5 d))
  else d

def execStartStepDone (s : State) : Host.Outcome State Fault Refusal := run true startStepDone s

/-- COOLANT_HOLD_REPORT: 10 s after the report before. -/
def coolantHoldReport (d : Dev) : Dev :=
  match d.sys.holdAt with
  | none => d
  | some t => if d.sys.step = 3 then holdReport (advTo (t + 10 * acPerS) d) else d

def execCoolantHoldReport (s : State) : Host.Outcome State Fault Refusal := run true coolantHoldReport s

/-! ### The capture store (R493, R494) -/

/-- A write of 1 to STORE_INIT: the effect, and the abort code. -/
def storeInit (d : Dev) : Dev × Nat :=
  let st := dget R.STORE_STATE d
  if (st = 0 ∨ st = 3) ∧ dget R.START_STATE d = 3 ∧ preparing d = false then
    (dset R.STORE_STATE 1 (dset R.CAPTURE_PAGES (30720 - dget R.REVIEW_REGION_PAGES d) d), 0)
  else (d, 0xA00B)

/-- STORE_INIT_DONE: `failed` has bit k set for each PSRAM die that failed step 1 or 2 of Table 21.2. -/
def storeInitDone (failed : Nat) (d : Dev) : Dev :=
  if dget R.STORE_STATE d ≠ 1 then d
  else
    let bad := failed ||| dget R.PSRAM_RETIRED d
    if bad = 0 then showStore (dset R.STORE_STATE 2 { d with store := ⟨[], [], 0, [], [], true⟩ })
    else (List.range 32).foldl (fun d k => if bit bad k then retireDie k d else d) (dset R.STORE_STATE 3 d)

def execStoreInitDone (failed : Nat) (s : State) : Host.Outcome State Fault Refusal :=
  run (decide (failed < 2 ^ 32)) (storeInitDone failed) s

/-! ### Arming and its end (R495, R496, R497) -/

/-- Every line that will be in PULSE mode at frame 0 fits the frame (R279). -/
def pulsesFit (d : Dev) : Bool :=
  (List.range 32).all (fun k => decide (nextGet d (R.VLINE_MODE k) % 4 ≠ 1 ∨ nextGet d (R.VLINE_PULSE_WIDTH k) ≤ fLen d - 24))

/-- SYSREF fits a barrier (R260): periodic, at least 48 ac, K periods at least 3,000 ac. -/
def sysrefFits (d : Dev) : Bool :=
  let p := sysrefPeriod d (dget R.CLOCK_REF_PORT d)
  decide (48 ≤ p ∧ 3000 ≤ dget R.BARRIER_LEAD_PERIODS d * p)

/-- The conditions of Table 21.3, on the ring as the arming forms it (R411). -/
def mayArm (d : Dev) : Bool :=
  decide (arrayState d = 0 ∧ powerState d = 0 ∧ dget R.POWER_TRANSITION d = 0 ∧ dget R.START_STATE d = 3 ∧ dget R.STORE_STATE d = 2)
    && decide (hostLinkNow d = 2 ∧ dget (R.SLOT_STATE (dget R.ARM_CONTEXT d)) d = 2 ∧ dget R.CLOCK_STATE d = 1 ∧ restartState d = 0)
    && d.flt.dev.isNone && pulsesFit d && (!atBarrier (linksAtArm d) || sysrefFits d)

/-- Offset of the clock reference, ppm (R34). -/
def refPpm (d : Dev) : Int := tget 0 d.pll.ppm (dget R.CLOCK_REF_PORT d)

/-- ARM_COMMAND 1: the effect, and the abort code (R34, R236, R495, R496). -/
def arm (d : Dev) : Dev × Nat :=
  if mayArm d = false then (d, 0xA00B)
  else if 100 < (refPpm d).natAbs then (report 0x1183 (dget R.CLOCK_REF_PORT d) (unsgn 64 (refPpm d)) d, 0xA00B)
  else
    let k := dget R.ARM_CONTEXT d
    let d := { d with grid := { d.grid with reqAt := d.now, stopReq := false }, lnk := { d.lnk with barEdge := none } }
    let d := dset R.ARRAY_STATE 1 (linksAtArm d)
    let d := dset (R.SLOT_STATE k) 3 (modCtx (fun c => { c with drain := tset none c.drain k none }) (fallbackAtArm d))
    let d := timeArm (dset R.COMPILED_LATENCY (loadedOf d k).lc (dset R.CURRENT_CONTEXT k d))
    (if atBarrier d then waitBarrier d else d, 0)

/-- An arming ends with no frame run: a pending switch is dropped, a pause ends as at a stop (R497, Table 9.6). -/
def armEnds (d : Dev) : Dev :=
  let k := dget R.CURRENT_CONTEXT d
  let d := pauseAtStop (dropSwitch 0 (dropWait d))
  showAll (encAtStop (dset R.ARRAY_STATE 0 (dset (R.SLOT_STATE k) 2 d)))

/-- ARM_COMMAND 2: a stop is taken at the next growth ring (R497). -/
def stopCmd (d : Dev) : Dev :=
  if arrayState d = 1 then armEnds (dset R.BARRIER_STATE 0 d)
  else if running d then { d with grid := { d.grid with stopReq := true } }
  else d

/-- BARRIER_TIMEOUT: no arming edge within BARRIER_TIMEOUT of the request (R496). -/
def barrierTimeout (d : Dev) : Dev :=
  if arrayState d ≠ 1 then d
  else
    let n := (List.range 32).countP (fun i => (waits d).contains i)
    let d := advTo (d.grid.reqAt + dget R.BARRIER_TIMEOUT d * acPerMs) d
    report 0x0441 (max n 1) (ringSize d) (armEnds (dset R.BARRIER_STATE 3 d))

def execBarrierTimeout (s : State) : Host.Outcome State Fault Refusal := run true barrierTimeout s

/-- Entries that hold something since arming; a secondary starts in standby (Table 17.6). -/
def clearSinceArm (d : Dev) : Dev :=
  let d := dset R.BARRIER_SKEW_MAX 0 (dset R.SYSREF_MISPLACED 0 (dset R.MIRROR_ACTIVE 0 d))
  let d := (List.range 64).foldl (fun d l => dset (R.LANE_MARGIN l) (R.LANE_MARGIN l).dflt d) d
  (List.range 16).foldl (fun d p => dset (R.SYSREF_PHASE_MARGIN p) (R.SYSREF_PHASE_MARGIN p).dflt (modPort p (fun x => { x with phase := none }) d)) d

/-- A device fault that is uncleared at the arming edge: the frames are lost from the first on. -/
def armedFault (d : Dev) : Dev := if d.flt.dev = none then d else loseFrames d

/-- The arming edge at ac t: the array runs, and frame 0 begins at B_0 (R37, R259, R262, R290, R303, R496). An update that the last stop
left APPLIED is over by then (R193). A class D fault that came in ARMING takes every frame (R440). -/
def armStart (t : Nat) (d : Dev) : Dev :=
  let d := encSettle (showFp (mergeTo d.grid.nextClose d.grid.nextClose (advTo t d)))
  let d := storeAtArm (clearSinceArm (armingEdge t d))
  let st := if alone d ∨ dget R.BARRIER_MODE d = 1 then 2 else 4
  let d := dset R.BARRIER_STATE st (dset R.ARRAY_STATE 2 d)
  let held := decide (pauseState d ≠ 0)
  let d := ringAtArm d
  let d := { d with flt := { d.flt with safeBelow := 0 } }
  armedFault <| linesSafe { d with
    grid := { d.grid with nextAlone := 0, nextMv := 0 }
    frames := []
    chans := d.chans.map (fun (e : Nat × Chan) => (e.1, { clearCmp e.2 with ring := if held then e.2.ring else [], flags := [], cut := 0, rises := [], origin := none }))
    edges := []
    cores := d.cores.map (fun (e : Nat × Core) => (e.1, { e.2 with maxSlots := 0, maxQueue := 0, lastRing := none }))
    fab := { d.fab with faulted := [] }
    enc := { d.enc with nextMerge := 0, counts := [], floor := [] }
    trig := { d.trig with lastEval := none, pats := [], cls := 0, ringWords := [], vframe := none, start := d.grid.b0 + 64
                          unlatch := d.trig.unlatch.map (fun (e : Nat × Option Nat) => (e.1, some 0)) }
    ctx := { d.ctx with drain := d.ctx.drain.map (fun (e : Nat × Option Nat) => (e.1, some 0)) }
    lnk := { d.lnk with inbox := [], status := [], theirs := [], ours := [], aloneRun := 0, okRun := 0, rejoin := none, peerBack := none, missed := false, flawed := false
                        waiting := [], barEdge := none, lateSeen := [], seenLate := [] } }

end Sys2Proof.Machine
end

