-- ==== Sys2Proof/Machine/Access.lean ====
section
/-! DEFINITION. Accesses of the dictionary by its clients (R14 to R18, R366 to R381): the checks of a write, what an accepted
write does, BAR0 and the bulk registers, and the commands that are writes of one entry. -/

namespace Sys2Proof.Machine

/-! ### What an accepted write does -/

/-- A setting takes a value, with what follows at once from it. -/
def setTo (key v : Nat) (d : Dev) : Dev :=
  let d := if key = R.PPS_OUT_MODE.key ∨ key = R.PPS_OUT_WIDTH.key then ppsOutKeep d else d
  let d := dset (regOf key) v d
  if (R.PRBS_MODE 0).key ≤ key ∧ key < (R.PRBS_MODE 64).key then prbsSet (key - (R.PRBS_MODE 0).key) v d
  else if key % 256 = 1 ∧ 0x2010 ≤ key / 256 ∧ key / 256 < 0x2020 then portEnableSet (key / 256 - 0x2010) d
  else if key = R.FAULT_N_CLASSES.key then driveFaultN d
  else if key = R.RING_DOMAIN.key ∨ key = R.RING_POSITION_CFG.key ∨ key = R.MIRROR_ROLE.key ∨ key = R.FRAME_LENGTH.key then rejudge d
  else if key = R.MIRROR_SYNC.key then (if v = 1 then startResync d else dset R.MIRROR_SYNC_STATE 0 d)
  else if key = R.NPP_PORT.key then closeSessions d
  else if key = R.PTP_PROFILE.key ∨ key = R.PTP_DOMAIN.key then ptpRestart d
  else if key = R.TIME_SOURCE_SELECT.key then sourceSelect d
  else if key = R.REVIEW_REGION_PAGES.key then (if d.store.ready then setUndef d else d)
  else if key = R.CANOPY_STREAM_SHARE.key ∨ (key % 256 = 0x0B ∧ 0x2C20 ≤ key / 256 ∧ key / 256 < 0x2C30) then settleCredits d
  else d

/-- A core named in RETIRE_CORE is a pending retirement, unless the map in force holds it already (R232). -/
def retireCmd (key : Nat) (d : Dev) : Dev :=
  if (retiredSet d).contains key ∨ d.ldr.pend.contains key then d else { d with ldr := { d.ldr with pend := d.ldr.pend ++ [key] } }

/-- CONTEXT_SWITCH by a client: a secondary that follows its primary takes none, and a primary forwards it (R237, R424). -/
def switchCmd (v : Nat) (d : Dev) : Dev × Nat :=
  if follows d then (d, 0xA011)
  else
    let next := if forwards d && running d then nextFwdFrame d else nextCut d
    let r := contextSwitch next v d
    if r.2 = 0 ∧ forwards d = true then
      (match pendingSwitch r.1 with
       | some (g, k) => (forwardSet 2 0 k g r.1, 0)
       | none => r)
    else if r.2 = 0 ∧ unsent d = true then (syncLost r.1, 0)
    else r

/-- What host memory holds, when the write does not carry it: free values. -/
def freeBytes (n : Nat) (d : Dev) : List Nat × Dev :=
  let r := drawWords ((n + 7) / 8) d
  ((r.1.flatMap (fun w => bytesOf w 8)).take n, r.2)

/-- RECOVERY_COMMAND (R481); `img` is what host memory holds at RECOVERY_ADDR. -/
def recoveryCmd (c v : Nat) (img : Option (List Nat)) (d : Dev) : Dev × Nat :=
  if v % 4 = 1 then rebootToRecovery c d
  else if v % 4 = 3 then verifyStagedImage (bit v 7) d
  else match img with
    | some b => verifyHostImage (bit v 7) b d
    | none =>
      if takesImage d = false then (d, 0xA00B)
      else
        let r := freeBytes (dget R.RECOVERY_BYTES d) d
        verifyHostImage (bit v 7) r.1 r.2

/-- A write to a WO entry that has passed the checks of its value. -/
def command (c key v : Nat) (img : Option (List Nat)) (d : Dev) : Answer :=
  let own := fun (r : Dev × Nat) => ((r.1, r.2, key) : Answer)
  let done := fun (e : Dev) => ((e, 0, key) : Answer)
  let no := fun (code : Nat) => ((d, code, key) : Answer)
  let idx := key / 256
  if 0x2010 ≤ idx ∧ idx < 0x2020 then own (portReinstate (idx - 0x2010) d)
  else if 0x2C20 ≤ idx ∧ idx < 0x2C30 then
    (if key % 256 = 0x0C then own (channelStart (idx - 0x2C20) d) else own (channelAbort (idx - 0x2C20) d))
  else if key = R.ENC_START.key then own (encStart d)
  else if key = R.ENC_COMMIT.key then own (encCommit d)
  else if key = R.ENC_ABANDON.key then own (encAbandon d)
  else if key = R.LOAD_COMMAND.key then
    (if v ≠ 2 ∧ dget R.STORE_STATE d ≠ 2 then no 0xA00B else own (loadCommand v d))
  else if key = R.RETIRE_CORE.key then done (retireCmd v d)
  else if key = R.CONTEXT_SWITCH.key then own (switchCmd v d)
  else if key = R.PAUSE_COMMAND.key then
    (if v % 4 = 1 then own (pause (v / 256) d) else own (resume (decide (v % 4 = 2)) (v / 256) d))
  else if key = R.VLINE_UNLATCH.key then done (vlineUnlatch v d)
  else if key = R.CAPTURE_RELEASE.key then own (captureRelease v d)
  else if key = R.GROUP_COMMIT.key then groupCommit c v d
  else if key = R.GROUP_COMMIT_ALL.key then groupCommitAll c d
  else if key = R.GROUP_DISCARD.key then groupDiscard c v d
  else if key = R.TIME_RESTEP.key then own (timeRestepCmd d)
  else if key = R.RING_REINSTATE.key then done (ringReinstate v d)
  else if key = R.FAULT_CLEAR.key then own (faultClearCmd d)
  else if key = R.POWER_REQUEST.key then (if c = 1 then no 0xA011 else done (powerRequest v 6 d))
  else if key = R.OWNER_KEY_PROVISION.key then own (ownerKeyProvision v d)
  else if key = R.OWNER_KEY_REVOKE.key then own (ownerKeyRevoke v d)
  else if key = R.SVN_ADVANCE.key then own (svnAdvance v d)
  else if key = R.QUOTE_COMMAND.key then own (quoteCommand d)
  else if key = R.RECOVERY_COMMAND.key then own (recoveryCmd c v img d)
  else if key = R.RECOVERY_CHUNK.key then done (recoveryChunk v d)
  else if key = R.STORE_INIT.key then own (storeInit d)
  else if c = 1 then no 0xA011
  else if v = 1 then own (arm d)
  else done (stopCmd d)

/-! ### The checks of a write (R16, R367, R370, R373, R385) -/

/-- Until verified firmware runs, the host reaches the identity, fault and security entries, and in RECOVERY_WAIT NPP reaches the
recovery entries (R480, R492). -/
def mayWrite (c key : Nat) (d : Dev) : Bool :=
  let idx := key / 256
  decide (dget R.BOOT_STATE d = 2)
    || (decide (c = 0) && decide ((0x100001 ≤ key ∧ key ≤ 0x100006) ∨ idx = 0x4800 ∨ idx = 0x4801 ∨ (0x4C00 ≤ idx ∧ idx ≤ 0x4C10)))
    || (decide (2 ≤ c) && decide (dget R.BOOT_STATE d = 3 ∧ idx = 0x4C10))

/-- The block that owns an RWS entry runs (Table 15.4). -/
def ownerRuns (d : Dev) (o : Owner) (key : Nat) : Bool :=
  let used := fun (p : Nat) => armed d && usesPort d (dget R.CURRENT_CONTEXT d) p
  match o with
  | .none => false
  | .array => armed d
  | .port => used (key / 256 - 0x2010)
  | .lanePort => used ((key % 256 - 1) / 4)
  | .engine => decide (dget (R.CHANNEL_STATE (key / 256 - 0x2C20)) d ≠ 0)

/-- A profile for a channel that a loaded context uses changes its decimated rate, by the contents that the profile will have (R82). -/
def breaksRate (d : Dev) (key v : Nat) : Bool :=
  let c := (key / 256 - 0x2400) * 128 + (key % 256 - 1)
  let dec := decOf (nextGet d (R.FILTER_ENABLE v)) (nextGet d (R.FIR_DECIMATION v))
  decide (0x2400 ≤ key / 256 ∧ key / 256 < 0x2408 ∧ dec ≠ decNow d c) && (usedChans d).contains c

/-- A loaded context was compiled for another frame length, or for a longer verdict latency (R29, R41). -/
def breaksLoaded (d : Dev) (key v : Nat) : Bool :=
  let ls := (List.range 4).filter (fun k => (loadedOf d k).present)
  (decide (key = R.FRAME_LENGTH.key) && ls.any (fun k => decide (v ≠ (loadedOf d k).f)))
    || (decide (key = R.VERDICT_LATENCY.key) && ls.any (fun k => decide (v < (loadedOf d k).lc)))

/-- A data buffer that does not hold one segment of its channel, by the settings in effect (Table 12.10). -/
def underSegment (d : Dev) (key v : Nat) : Bool :=
  let n := key / 256 - 0x2C20
  decide (n < 16 ∧ key = (R.DATA_BUF_BYTES n).key ∧ v < segBytes d n)

/-- A test entry of one of the lanes that do not exist: LANE_64 to LANE_127 (R56). -/
def ghostLane (key : Nat) : Bool := decide (0x5010 ≤ key / 256 ∧ key / 256 ≤ 0x5013 ∧ 64 < key % 256)

/-- What an accepted value does, by access code (Table 15.3), with the checks that rest on the rest of the device. -/
def putEntry (c key v : Nat) (a : Access) (img : Option (List Nat)) (d : Dev) : Answer :=
  let own := fun (r : Dev × Nat) => ((r.1, r.2, key) : Answer)
  let no := fun (code : Nat) => ((d, code, key) : Answer)
  match a with
  | .const => no 0xA003
  | .ro => no 0xA003
  | .wo => command c key v img d
  | .rwl =>
    if follows d ∧ mirrors key = true then no 0xA011
    else if breaksRate d key v then no 0xA00E
    else own (stageRwl key v d, 0)
  | .rwg => own (stageMember c key v d)
  | .rws =>
    if breaksLoaded d key v then no 0xA006
    else if underSegment d key v then no 0xA005
    else own (setTo key v d, 0)
  | .rw =>
    if (R.ADAPT_HOLD 0).key ≤ key ∧ key < (R.ADAPT_HOLD 64).key then own (adaptHold (key - (R.ADAPT_HOLD 0).key) v d)
    else if (R.INJECT_RATE 0).key ≤ key ∧ key < (R.INJECT_RATE 64).key then own (injectRate (key - (R.INJECT_RATE 0).key) v d)
    else if key = R.FALLBACK_ENABLE.key then own (fallbackEnable v d)
    else own (setTo key v d, 0)

/-- How the value of a write is taken, by the entry: the value, or the abort code. -/
abbrev Conv := Entry → Except Nat Nat

/-- A value at the size of its type. -/
def natural (v : Nat) : Conv := fun e => if v < 2 ^ (8 * tyBytes e.ty) then .ok v else .error 0xA005

/-- A value of `len` bytes (R367). -/
def exact (len v : Nat) : Conv := fun e => if tyBytes e.ty = len then .ok (v % 2 ^ (8 * len)) else .error 0xA004

/-- A BAR0 write of `width` bits (R380). -/
def barConv (width v : Nat) : Conv := fun e =>
  let n := 8 * tyBytes e.ty
  let lo := v % 2 ^ n
  let hi := v / 2 ^ n
  if width ≠ 32 ∧ width ≠ 64 then .error 0xA004
  else if 64 < n ∨ (n = 64 ∧ width = 32) then .error 0xA004
  else if hi = (if tySigned e.ty ∧ bit lo (n - 1) then 2 ^ (width - n) - 1 else 0) then .ok lo
  else .error 0xA005

/-- A write by client c to idx:sub. -/
def entryWrite (c idx sub : Nat) (conv : Conv) (img : Option (List Nat)) (d : Dev) : Answer :=
  let key := idx * 256 + sub
  let no := fun (code : Nat) => ((d, code, key) : Answer)
  if idxExists idx = false then no 0xA001
  else if sub = 0 ∨ (stagingAt idx sub).isSome then no 0xA003
  else match findEntry idx sub with
    | none => no 0xA002
    | some e =>
      if e.access = .const ∨ e.access = .ro then no 0xA003
      else match conv e with
        | .error code => no code
        | .ok v =>
          if e.hostOnly ∧ c ≠ 0 then no 0xA011
          else if mayWrite c key d = false then no 0xA00B
          else if chkValue d e.chk v ≠ 0 then no (chkValue d e.chk v)
          else if ghostLane key then (d, 0, key)
          else if ownerRuns d e.owner key then no 0xA007
          else putEntry c key v e.access img d

/-! ### The paths of the clients (R368, R380, R381, R460) -/

/-- A refused host access (Table 15.8). -/
def refuseHost (code key : Nat) (d : Dev) : Dev :=
  modCtl (fun x => { x with
    lastAbort := key / 256 % 65536 * 2 ^ 48 + key % 256 * 2 ^ 40 + code, abortCount := satAdd32 x.abortCount 1 }) d

/-- An access of BAR0 by the host: the link must be up, and SLEEP ends first (R460). -/
def barAccess (f : Dev → Dev) (d : Dev) : Dev :=
  if d.host.linkUp = false then d else f (if powerState d = 3 then exitToRun 4 d else d)

/-- NPP is served: firmware runs or the ROM waits, and the device is not in SLEEP (R459, R480). -/
def nppServes (d : Dev) : Bool := decide (powerState d ≠ 3 ∧ (dget R.BOOT_STATE d = 2 ∨ dget R.BOOT_STATE d = 3))

/-- NPP may write (R384). -/
def nppMayWrite (d : Dev) : Bool := decide (dget R.NPP_WRITE_ENABLE d = 1)

/-- A refused access returns its abort code to the client that made it (R16). -/
def answered (c : Nat) (r : Answer) : Dev :=
  if r.2.1 = 0 then r.1 else modCtl (fun x => { x with aborts := tset 0 x.aborts c r.2.1 }) r.1

/-- A request of client c comes through that client's path: the host through BAR0, the loader during a load, an NPP session as an
item of a WRITE. An NPP client without an open session is answered with 0xA012, and one that may not write with 0xA011 (R383, R384). -/
def request (c : Nat) (f : Dev → Answer) (d : Dev) : Dev :=
  if c = 0 then
    barAccess (fun d =>
      let r := f d
      if r.2.1 = 0 then r.1 else refuseHost r.2.1 r.2.2 r.1) d
  else if c = 1 then (if d.ldr.job.isSome then answered 1 (f d) else d)
  else if nppServes d = false then d
  else if (sessOf d (c - 2)).isOpen = false then answered c (d, 0xA012, 0)
  else if nppMayWrite d = false then answered c (d, 0xA011, 0)
  else
    answered c (f (modCtl (fun x => { x with sess := tset Sess.rest x.sess (c - 2) { sessOf d (c - 2) with lastAt := d.now } }) d))

/-- A write of the value `v` to one entry. -/
def rowWrite (c : Nat) (r : Reg) (v : Nat) (d : Dev) : Dev := request c (entryWrite c (r.key / 256) (r.key % 256) (natural v) none) d

/-- DICT_WRITE: a write of `len` bytes; a host write is a BAR0 access of that width (R380). -/
def dictWrite (c idx sub len v : Nat) (d : Dev) : Dev :=
  request c (entryWrite c idx sub (if c = 0 then barConv (8 * len) v else exact len v) none) d

def execDictWrite (client idx sub len val : Nat) (s : State) : Host.Outcome State Fault Refusal :=
  run (decide (client < 10 ∧ idx < 65536 ∧ sub < 256 ∧ len ≤ 1464 ∧ val < 2 ^ (8 * len)) && (decide (client ≠ 0) || [1, 2, 4, 8].contains len))
    (dictWrite client idx sub len val) s

/-! ### Commands that are writes of one entry -/

def execPortReinstate (client port : Nat) (s : State) : Host.Outcome State Fault Refusal :=
  run (decide (client < 10 ∧ port < 16)) (rowWrite client (R.PORT_REINSTATE port) 1) s

def execAdaptHold (client lane val : Nat) (s : State) : Host.Outcome State Fault Refusal :=
  run (decide (client < 10 ∧ lane < 128 ∧ val < 256)) (rowWrite client (R.ADAPT_HOLD lane) val) s

def execPrbsMode (client lane val : Nat) (s : State) : Host.Outcome State Fault Refusal :=
  run (decide (client < 10 ∧ lane < 128 ∧ val < 256)) (rowWrite client (R.PRBS_MODE lane) val) s

def execInjectRate (client lane val : Nat) (s : State) : Host.Outcome State Fault Refusal :=
  run (decide (client < 10 ∧ lane < 128 ∧ val < 256)) (rowWrite client (R.INJECT_RATE lane) val) s

def execVlineUnlatch (client mask : Nat) (s : State) : Host.Outcome State Fault Refusal :=
  run (decide (client < 10 ∧ mask < 2 ^ 32)) (rowWrite client R.VLINE_UNLATCH mask) s

def execCaptureRelease (client handle : Nat) (s : State) : Host.Outcome State Fault Refusal :=
  run (decide (client < 10 ∧ handle < 2 ^ 32)) (rowWrite client R.CAPTURE_RELEASE handle) s

def execDescProducer (client ch val : Nat) (s : State) : Host.Outcome State Fault Refusal :=
  run (decide (client < 10 ∧ ch < 16 ∧ val < 2 ^ 32)) (rowWrite client (R.DESC_PRODUCER ch) val) s

def execChannelStart (client ch : Nat) (s : State) : Host.Outcome State Fault Refusal :=
  run (decide (client < 10 ∧ ch < 16)) (rowWrite client (R.CHANNEL_START ch) 1) s

def execChannelAbort (client ch : Nat) (s : State) : Host.Outcome State Fault Refusal :=
  run (decide (client < 10 ∧ ch < 16)) (rowWrite client (R.CHANNEL_ABORT ch) 1) s

def execEncStart (client : Nat) (s : State) : Host.Outcome State Fault Refusal :=
  run (decide (client < 10)) (rowWrite client R.ENC_START 1) s

def execEncCommit (client : Nat) (s : State) : Host.Outcome State Fault Refusal :=
  run (decide (client < 10)) (rowWrite client R.ENC_COMMIT 1) s

def execEncAbandon (client : Nat) (s : State) : Host.Outcome State Fault Refusal :=
  run (decide (client < 10)) (rowWrite client R.ENC_ABANDON 1) s

def execLoad (client : Nat) (s : State) : Host.Outcome State Fault Refusal :=
  run (decide (client < 10)) (rowWrite client R.LOAD_COMMAND 1) s

def execUnload (client : Nat) (s : State) : Host.Outcome State Fault Refusal :=
  run (decide (client < 10)) (rowWrite client R.LOAD_COMMAND 2) s

def execLoadCheck (client : Nat) (s : State) : Host.Outcome State Fault Refusal :=
  run (decide (client < 10)) (rowWrite client R.LOAD_COMMAND 3) s

def execRetireCore (client x y : Nat) (s : State) : Host.Outcome State Fault Refusal :=
  run (decide (client < 10 ∧ x < 256 ∧ y < 256)) (rowWrite client R.RETIRE_CORE (x * 256 + y)) s

def execContextSwitch (client frame slot : Nat) (s : State) : Host.Outcome State Fault Refusal :=
  run (decide (client < 10 ∧ frame < 2 ^ 56 ∧ slot < 4)) (rowWrite client R.CONTEXT_SWITCH (frame * 256 + slot)) s

def execFallbackEnable (client val : Nat) (s : State) : Host.Outcome State Fault Refusal :=
  run (decide (client < 10 ∧ val < 256)) (rowWrite client R.FALLBACK_ENABLE val) s

def execPause (client frame : Nat) (s : State) : Host.Outcome State Fault Refusal :=
  run (decide (client < 10 ∧ frame < 2 ^ 56)) (rowWrite client R.PAUSE_COMMAND (frame * 256 + 1)) s

def execResume (client frame : Nat) (s : State) : Host.Outcome State Fault Refusal :=
  run (decide (client < 10 ∧ frame < 2 ^ 56)) (rowWrite client R.PAUSE_COMMAND (frame * 256 + 2)) s

def execResumeNoRestore (client frame : Nat) (s : State) : Host.Outcome State Fault Refusal :=
  run (decide (client < 10 ∧ frame < 2 ^ 56)) (rowWrite client R.PAUSE_COMMAND (frame * 256 + 3)) s

/-- GROUP_MEMBER_WRITE: a write to an RWG entry. -/
def execGroupMemberWrite (client idx sub val : Nat) (s : State) : Host.Outcome State Fault Refusal :=
  run (decide (client < 10) && memberAt idx sub && decide (val < 2 ^ 2048)) (rowWrite client (regOf (idx * 256 + sub)) val) s

def execGroupCommit (client gid : Nat) (s : State) : Host.Outcome State Fault Refusal :=
  run (decide (client < 10 ∧ gid < 2 ^ 32)) (rowWrite client R.GROUP_COMMIT gid) s

def execGroupCommitAll (client : Nat) (s : State) : Host.Outcome State Fault Refusal :=
  run (decide (client < 10)) (rowWrite client R.GROUP_COMMIT_ALL 1) s

def execGroupDiscard (client gid : Nat) (s : State) : Host.Outcome State Fault Refusal :=
  run (decide (client < 10 ∧ gid < 0xFFFFFFFF)) (rowWrite client R.GROUP_DISCARD gid) s

def execGroupDiscardAll (client : Nat) (s : State) : Host.Outcome State Fault Refusal :=
  run (decide (client < 10)) (rowWrite client R.GROUP_DISCARD 0xFFFFFFFF) s

def execNppPort (client port : Nat) (s : State) : Host.Outcome State Fault Refusal :=
  run (decide (client < 10 ∧ port < 65536)) (rowWrite client R.NPP_PORT port) s

/-- PTP_PORT_RESTART: a write of PTP_DOMAIN (`dom`) or PTP_PROFILE. -/
def execPtpPortRestart (client : Nat) (dom : Bool) (val : Nat) (s : State) : Host.Outcome State Fault Refusal :=
  run (decide (client < 10 ∧ val < 256)) (rowWrite client (if dom then R.PTP_DOMAIN else R.PTP_PROFILE) val) s

def execTimeRestep (client : Nat) (s : State) : Host.Outcome State Fault Refusal :=
  run (decide (client < 10)) (rowWrite client R.TIME_RESTEP 1) s

def execRingReinstate (client mask : Nat) (s : State) : Host.Outcome State Fault Refusal :=
  run (decide (client < 10 ∧ mask < 256)) (rowWrite client R.RING_REINSTATE mask) s

def execFaultClear (client : Nat) (s : State) : Host.Outcome State Fault Refusal :=
  run (decide (client < 10)) (rowWrite client R.FAULT_CLEAR 1) s

def execPowerRequest (client target : Nat) (s : State) : Host.Outcome State Fault Refusal :=
  run (decide (client < 10 ∧ target < 256)) (rowWrite client R.POWER_REQUEST target) s

/-- OWNER_KEY_PROVISION: the 64 bytes of the key as a number, byte 0 lowest. -/
def execOwnerKeyProvision (client key : Nat) (s : State) : Host.Outcome State Fault Refusal :=
  run (decide (client < 10 ∧ key < 2 ^ 512)) (rowWrite client R.OWNER_KEY_PROVISION key) s

def execOwnerKeyRevoke (client slot : Nat) (s : State) : Host.Outcome State Fault Refusal :=
  run (decide (client < 10 ∧ slot < 256)) (rowWrite client R.OWNER_KEY_REVOKE slot) s

def execSvnAdvance (client svn : Nat) (s : State) : Host.Outcome State Fault Refusal :=
  run (decide (client < 10 ∧ svn < 256)) (rowWrite client R.SVN_ADVANCE svn) s

def execQuoteCommand (client : Nat) (s : State) : Host.Outcome State Fault Refusal :=
  run (decide (client < 10)) (rowWrite client R.QUOTE_COMMAND 1) s

/-- REBOOT_TO_RECOVERY: code 1; bit 7 of the value is `toFlash`. -/
def execRebootToRecovery (client : Nat) (toFlash : Bool) (s : State) : Host.Outcome State Fault Refusal :=
  run (decide (client < 10)) (rowWrite client R.RECOVERY_COMMAND (1 + (if toFlash then 128 else 0))) s

/-- VERIFY_HOST_IMAGE: code 2; `image` is what host memory holds from RECOVERY_ADDR on. -/
def execVerifyHostImage (client : Nat) (toFlash : Bool) (image : List Nat) (s : State) : Host.Outcome State Fault Refusal :=
  run (decide (client < 10) && bytes8 image)
    (request client (entryWrite client (R.RECOVERY_COMMAND.key / 256) (R.RECOVERY_COMMAND.key % 256) (natural (2 + (if toFlash then 128 else 0)))
      (some image))) s

def execVerifyStagedImage (client : Nat) (toFlash : Bool) (s : State) : Host.Outcome State Fault Refusal :=
  run (decide (client < 10)) (rowWrite client R.RECOVERY_COMMAND (3 + (if toFlash then 128 else 0))) s

def execRecoveryChunk (client : Nat) (chunk : List Nat) (s : State) : Host.Outcome State Fault Refusal :=
  run (decide (client < 10 ∧ chunk.length = 1024) && bytes8 chunk) (rowWrite client R.RECOVERY_CHUNK (ofBytes chunk)) s

def execStoreInit (client : Nat) (s : State) : Host.Outcome State Fault Refusal :=
  run (decide (client < 10)) (rowWrite client R.STORE_INIT 1) s

def execArm (client : Nat) (s : State) : Host.Outcome State Fault Refusal :=
  run (decide (client < 10)) (rowWrite client R.ARM_COMMAND 1) s

def execStop (client : Nat) (s : State) : Host.Outcome State Fault Refusal :=
  run (decide (client < 10)) (rowWrite client R.ARM_COMMAND 2) s

/-! ### BAR0 (R348, R351, R353, R357, R380, R381) -/

/-- HOST_WINDOW_WRITE: a write to BAR0 outside ring control and the dictionary window. -/
def execHostWindowWrite (offset width val : Nat) (s : State) : Host.Outcome State Fault Refusal :=
  run (decide ((offset < 0x2000 ∨ 0x2808 ≤ offset) ∧ offset < 0x100000 ∧ (width = 8 ∨ width = 16 ∨ width = 32 ∨ width = 64) ∧ val < 2 ^ width))
    (barAccess (hostWindowWrite offset width val)) s

/-- RECORD_WRITE: the place that it frees in the queue may be what a stop waits for (R497). -/
def execRecordWrite (r : Nat) (s : State) : Host.Outcome State Fault Refusal :=
  runMem (decide (r < 5 ∨ (16 ≤ r ∧ r < 32))) (fun d => let x := recordWrite r d; (stopEnds x.1, x.2)) s

/-- RING_ENABLE: a 32-bit write to RING_CTRL with ENABLE set. -/
def execRingEnable (r ctrl : Nat) (s : State) : Host.Outcome State Fault Refusal :=
  run (decide ((r < 5 ∨ (16 ≤ r ∧ r < 32)) ∧ ctrl < 2 ^ 32 ∧ ctrl % 2 = 1)) (barAccess (fun d => stopEnds (ringCtrl r ctrl d))) s

/-- RING_DISABLE: a 32-bit write to RING_CTRL with ENABLE clear. -/
def execRingDisable (r ctrl : Nat) (s : State) : Host.Outcome State Fault Refusal :=
  run (decide ((r < 5 ∨ (16 ≤ r ∧ r < 32)) ∧ ctrl < 2 ^ 32 ∧ ctrl % 2 = 0)) (barAccess (fun d => stopEnds (ringCtrl r ctrl d))) s

def execRingControlWrite (offset width val : Nat) (s : State) : Host.Outcome State Fault Refusal :=
  run (decide (0x2000 ≤ offset ∧ offset < 0x2808 ∧ (width = 8 ∨ width = 16 ∨ width = 32 ∨ width = 64) ∧ val < 2 ^ width))
    (barAccess (fun d => stopEnds (ringControlWrite offset width val d))) s

/-- What BULK_CTRL holds after a write that names an entry and an operation (Table 15.8). -/
def bulkCtrl (idx sub op : Nat) (d : Dev) : Dev := modCtl (fun x => { x with bulkCtrl := idx * 2 ^ 48 + sub * 2 ^ 40 + op }) d

/-- A bulk operation ends with its abort code. -/
def bulkEnds (code key : Nat) (d : Dev) : Dev :=
  let d := modCtl (fun x => { x with bulkStatus := code }) d
  if code = 0 then d else refuseHost code key d

/-- BULK_CTRL operation 1. -/
def bulkRead (idx sub : Nat) (d : Dev) : Dev :=
  match readEntry 0 idx sub d with
  | .error code => bulkEnds code (idx * 256 + sub) (bulkCtrl idx sub 1 d)
  | .ok (v, n) => bulkEnds 0 0 (bulkCtrl idx sub 1 (modCtl (fun x => { x with bulkData := tsetRun 0 x.bulkData 0 (bytesOf v n) }) d))

def execBulkRead (idx sub : Nat) (s : State) : Host.Outcome State Fault Refusal :=
  run (decide (idx < 65536 ∧ sub < 256)) (barAccess (bulkRead idx sub)) s

/-- BULK_CTRL operation 2, once the host has put `data` into BULK_DATA. -/
def bulkWrite (idx sub : Nat) (data : List Nat) (d : Dev) : Dev :=
  let d := bulkCtrl idx sub 2 (modCtl (fun x => { x with bulkData := tsetRun 0 x.bulkData 0 data }) d)
  let r := entryWrite 0 idx sub (fun e => .ok (ofBytes (tgetRun 0 d.ctl.bulkData 0 (tyBytes e.ty)))) none d
  bulkEnds r.2.1 r.2.2 r.1

def execBulkWrite (idx sub : Nat) (data : List Nat) (s : State) : Host.Outcome State Fault Refusal :=
  run (decide (idx < 65536 ∧ sub < 256 ∧ data.length ≤ 1024) && bytes8 data) (barAccess (bulkWrite idx sub data)) s

/-- What a host read of `width` bits in the dictionary window gives; a read of an entry larger than 8 bytes, or of none, gives 0 and
records an abort code (R380). The opcode table has no row for a read. -/
def dictRead (idx sub width : Nat) (upper : Bool) (d : Dev) : Nat × Dev :=
  match readEntry 0 idx sub d with
  | .error code => (0, refuseHost code (idx * 256 + sub) d)
  | .ok (v, n) =>
    if 8 < n then (0, refuseHost 0xA004 (idx * 256 + sub) d)
    else
      let signed : Bool := match findEntry idx sub with | some e => tySigned e.ty | none => false
      let w := if signed ∧ bit v (8 * n - 1) then v + 2 ^ 64 - 2 ^ (8 * n) else v
      (if width = 32 then (if upper then w / 2 ^ 32 else w % 2 ^ 32) else w, d)

/-- The offset of entry idx:sub in BAR0 (R380). -/
def dictOffset (idx sub : Nat) : Nat := 0x100000 + ((idx - 0x1000) * 256 + sub) * 8

/-- The registers of Table 15.8 as an aligned 64-bit word of the dictionary window. The bulk operations of the model take no time, so none
is seen busy (log entry 24). -/
def bulkWord (off : Nat) (d : Dev) : Nat :=
  if off = 0x2900000 then d.ctl.bulkCtrl
  else if off = 0x2900008 then d.ctl.bulkStatus
  else if off = 0x2900010 then d.ctl.lastAbort
  else if off = 0x2900018 then d.ctl.abortCount
  else if 0x2901000 ≤ off ∧ off < 0x2901400 then ofBytes (tgetRun 0 d.ctl.bulkData (off - 0x2901000) 8)
  else 0

/-- What a host read of `width` bits at a BAR0 offset gives, and the block after it: it wakes the device in SLEEP and is answered after the
exit (R348, R380, R381, R460). The opcode table has no row for a read. -/
def hostRead (off width : Nat) (d : Dev) : Nat × Dev :=
  if d.host.linkUp = false then (2 ^ width - 1, d)
  else
    let d := if powerState d = 3 then exitToRun 4 d else d
    let k := (off - 0x100000) / 8
    if off < 0x100000 then bar0Read off width d
    else if goodAccess off width = false then (0, refuseHost 0xA004 (0x100000 + k) d)
    else if off < 0x2900000 then dictRead (0x1000 + k / 256) (k % 256) width (decide (off % 8 = 4)) d
    else (bulkWord (off / 8 * 8) d / 2 ^ (8 * (off % 8)) % 2 ^ width, d)

/-! ### TEST_EN falling (R462, Table 22.11) -/

/-- Line k is at its safe level since the last edge (Table 11.4). -/
def safeSince (d : Dev) (k : Nat) : Bool :=
  let f := frameOf d (d.grid.nextIssue - 1)
  let (m, _, _, act) := lineOf f k
  running d = false || d.flt.dev.isSome || decide (d.grid.nextIssue = 0) || f.lost || f.paused || decide (m % 4 = 3)
    || (f.invalid && decide (act = 0))

/-- The filter profiles and the channels' choice of them, as the settings now have them. -/
def profileOf (d : Dev) (c : Nat) : List Nat :=
  let p := dget (R.CH_PROFILE c) d
  p :: [R.BQ1_COEF p, R.BQ2_COEF p, R.FILTER_ENABLE p, R.FIR_TAPS p, R.FIR_DECIMATION p, R.BLR_MODE p, R.BLR_SHIFT p, R.BLR_GATE p,
    R.GROUP_DELAY_COMP p].map (fun r => dget r d)

/-- A channel whose profile has changed at once is cleared before its next sample: at once in a running array, and otherwise at
sample tick 0 of the next frame (R81). -/
def clearChanged (was d : Dev) : Dev :=
  d.chans.foldl (fun d e =>
    if profileOf d e.1 = profileOf was e.1 then d
    else modChan e.1 (fun c => if running d then clearChain c else { c with clearDue := true }) d) d

/-- The dies get their fused data back (Table 19.5); the saved settings and staged groups come back, and the lines resume their
mode at the next frame's edge; a line that is at its safe level goes to it at once. -/
def testEnFall (d : Dev) : Dev :=
  if d.pins.testEn = false then d
  else
    let drive := dget R.VLINE_TEST_DRIVE d
    let d := fusedBack { d with pins := { d.pins with testEn := false } }
    let d := if running d then
        dset R.VLINE_STATE ((List.range 32).foldl (fun w k => if safeSince d k then setBit w k (safeLevel d k) else w) drive)
          { d with trig := { d.trig with pulseEnd := [] } }
      else linesSafe d
    let was := d
    match d.sys.saved with
    | none => d
    | some (vals, gs) =>
      let keys := distinct ((vals ++ d.dict.filter (fun e => isSetting e.1)).map Prod.fst)
      let d := keys.foldl (fun d k =>
        let v := tget (defaultOf k) vals k
        if dget (regOf k) d = v then d else setTo k v d) d
      let d := clearChanged was d
      let kept := d.ctl.groups.filter (fun e => decide (e.2.st ≠ 1))
      let all := gs.foldl (fun t (e : Nat × Grp) => if (tget Grp.rest t e.1).st = 2 then t else tset Grp.rest t e.1 e.2) kept
      modSys (fun y => { y with saved := none }) (modCtl (fun x => { x with groups := all }) d)

def execTestEnFall (s : State) : Host.Outcome State Fault Refusal := run true testEnFall s

end Sys2Proof.Machine
end

