-- ==== Sys2Proof/Machine/LoadRun.lean ====
section
/-! DEFINITION. The phases of a load (R215, R228 to R231, Table 8.11). -/

namespace Sys2Proof.Machine

def modJobL (f : LoadJob → LoadJob) (d : Dev) : Dev := { d with ldr := { d.ldr with job := d.ldr.job.map f } }

/-- The job ends: the loader's staged groups go, and LOAD_STATE reads 6. -/
def loadDone (d : Dev) : Dev := loadState 6 (dropHolds 1 { d with ldr := { d.ldr with job := none } })

/-- The loader works: firmware runs, and the cores are clocked (Table 19.1). -/
def loaderOn (d : Dev) : Bool :=
  decide (dget R.BOOT_STATE d = 2 ∧ powerState d = 0 ∧ (dget R.POWER_TRANSITION d = 0 ∨ dget R.POWER_TRANSITION d = 3))

/-- Monitor base of the load: a patch keeps its slot's (R223). -/
def monBase (d : Dev) (j : LoadJob) : Nat :=
  if objPatch j.obj then dget (R.MONITOR_BASE j.slot) d else (monRun d j.slot (objMons j.obj)).getD 0

/-- The layers that the slot will hold, newest first. -/
def newLayers (d : Dev) (j : LoadJob) : List (List Nat) := j.obj :: (if objPatch j.obj then (loadedOf d j.slot).layers else [])

/-- The object with the WEIGHTS and REVIEW sections as they stream in the write phase. -/
def streamed (o data : List Nat) : List Nat :=
  let ins := ([3, 11].filter (hasSect o)).map (sect o)
  let pick := fun (i : Nat) (w : Nat × Nat) => if ins.any (fun s => decide (s.1 ≤ i ∧ i < s.1 + s.2)) then w.2 else w.1
  (o.zip (owRun data 0 o.length)).mapIdx pick

/-- What the write phase finds wrong with the streamed sections (R229, Table 8.12). -/
def streamErr (o : List Nat) : Option LoadErr :=
  firstErr [errIf (hasSect o 3 && decide (sm3n (sectBytes o 3) ≠ weightDigest o)) 0x0020 0,
    digestErr o (fun t => decide (t = 3 ∨ t = 11))]

/-- The DICT_INIT entries of an object: index, subindex, length, value. -/
def initList (o : List Nat) : List (Nat × Nat × Nat × Nat) :=
  let a := (sect o 10).1
  if hasSect o 10 then
    (List.range (bits (ow o a) 63 32)).map (fun i =>
      let w := ow o (a + 1 + 2 * i)
      (bits w 63 48, bits w 47 40, bits w 39 32, ow o (a + 2 + 2 * i)))
  else []

/-- The writes of DICT_INIT in order, from number n on; the number of the first that aborts. -/
def initFrom : List (Nat × Nat × Nat × Nat) → Nat → Dev → Dev × Option Nat
  | [], _, d => (d, none)
  | (i, sb, len, v) :: r, n, d =>
    let a := entryWrite 1 i sb (exact len v) none d
    if a.2.1 = 0 then initFrom r (n + 1) a.1 else (a.1, some n)

/-- DICT_INIT, and the commit of every group that it touched (R215). -/
def dictInit (o : List Nat) (d : Dev) : Dev × Option Nat :=
  let r := initFrom (initList o) 0 d
  if r.2.isSome ∨ heldStaging r.1 1 = [] then r
  else
    let a := groupCommitAll 1 r.1
    (a.1, if a.2.1 = 0 then none else some (initList o).length)

/-- The measurement of a load (Table 20.3, event 6). -/
def measureLoad (slot : Nat) (d : Dev) : Dev :=
  extend 2 6 (sm3 ([slot] ++ bytesOf (dget (R.PROGRAM_DIGEST slot) d) 32 ++ bytesOf (dget (R.WEIGHT_DIGEST slot) d) 32)) d

/-- FRAME_LENGTH or VERDICT_LATENCY has been written since the check phase, so that the context would not match them (R29, R41, R48).
DESIGN CHOICE (log entry 161): the write phase asks again, because a loaded context always matches the frame length. -/
def staleErr (d : Dev) (o : List Nat) : Option LoadErr :=
  firstErr [errIf (decide (objF o ≠ fLen d)) 0x0009 0, errIf (decide (dget R.VERDICT_LATENCY d < objLc o)) 0x000A 0]

/-- The write phase ends, and the slot is loaded. A refused object leaves what it had written undone (R201), so a DICT_INIT that aborts
fails the load from the state before it. A patch has no DICT_INIT (R203). -/
def writePhase (j : LoadJob) (data : List Nat) (d : Dev) : Dev :=
  match staleErr d j.obj, planOf d (d.fuses.windthrow ++ j.map) j.slot j.base (reviewBase d j.slot j.obj) (newLayers d j) with
  | some e, _ => failLoad e d
  | none, .error e => failLoad e d
  | none, .ok p =>
    if objPatch j.obj then loadDone (measureLoad j.slot (writePatch j j.map p d))
    else
      let o := streamed j.obj data
      match streamErr o with
      | some e => failLoad e d
      | none =>
        match dictInit (p.layers.headD []) (dset (R.SLOT_STATE j.slot) 2 (writeLoad j j.map p o d)) with
        | (_, some n) => failLoad (0x001E, n) d
        | (e, none) => loadDone (measureLoad j.slot e)

/-- Map phase (R222 to R225). -/
def mapDone (j : LoadJob) (d : Dev) : Dev :=
  let base := monBase d j
  match mapPhase d j.slot base j.obj with
  | .error e => failLoad e d
  | .ok (m, _) => if j.cmd = 3 then loadDone d else loadState 5 (modJobL (fun j => { j with map := m, base := base }) d)

/-- An unload ends (R231; Table 20.3, event 7). -/
def unloadDone (j : LoadJob) (d : Dev) : Dev := loadDone (extend 2 7 (sm3 [j.slot]) (emptySlot j.slot d))

/-- The read phase takes what has come: the whole object ends it; less is kept, and the phase goes on (R228). -/
def readPhase (j : LoadJob) (data : List Nat) (d : Dev) : Dev :=
  let n := (j.bytes + 7) / 8
  let d := modJobL (fun j => { j with obj := data.take n }) d
  if data.length < n then d
  else loadState 2 (modJobL (fun j => { j with keys := goodKeys d, keyed := provisioned d }) d)

/-- LOAD_PHASE_DONE: `data` are the words that host memory holds from LOAD_ADDR on; the read and the write phase take them. -/
def loadPhaseDone (data : List Nat) (d : Dev) : Dev :=
  match d.ldr.job with
  | none => d
  | some j =>
    let st := dget R.LOAD_STATE d
    if loaderOn d = false then d
    else if j.cmd = 2 then unloadDone j d
    else if st = 1 then readPhase j data d
    else if st = 2 then (match verifyErr d j with | some e => failLoad e d | none => loadState 3 d)
    else if st = 3 then (match checkErr d j.cmd j.obj j.slot with | some e => failLoad e d | none => loadState 4 d)
    else if st = 4 then mapDone j d
    else writePhase j data d

def execLoadPhaseDone (data : List Nat) (s : State) : Host.Outcome State Fault Refusal :=
  run (words64 data) (loadPhaseDone data) s

end Sys2Proof.Machine
end

