-- ==== Sys2Proof/Machine/Npp.lean ====
section
/-! DEFINITION. The dictionary through NPP (R382 to R384): sessions, requests, stored replies. -/

namespace Sys2Proof.Machine

/-! ### Datagrams (Tables 15.9 and 15.10) -/

/-- A reply: the header with bit 7 of OP set, and the bytes of its items. -/
def nppReply (op session seq count status : Nat) (items : List Nat) : List Nat :=
  bytesOf 0x4E50 2 ++ [1, op + 128] ++ bytesOf session 4 ++ bytesOf seq 4 ++ bytesOf count 2 ++ bytesOf status 2 ++ items

/-- A reply is sent. -/
def nppSend (bs : List Nat) (d : Dev) : Dev := modCtl (fun x => { x with reply := bs }) d

/-- The open session with an identifier. -/
def sessNamed (d : Dev) (ident : Nat) : Option Nat :=
  (List.range 8).find? (fun k => (sessOf d k).isOpen && decide ((sessOf d k).ident = ident))

/-- The lowest session that is not open. -/
def freeSession (d : Dev) : Option Nat := (List.range 8).find? (fun k => !(sessOf d k).isOpen)

/-- A nonzero identifier that no open session has, made from the free value `w`. -/
def newIdent (d : Dev) (w : Nat) : Nat :=
  let cand := fun (i : Nat) => (w + i) % (2 ^ 32 - 1) + 1
  match (List.range 9).find? (fun i => (sessNamed d (cand i)).isNone) with
  | some i => cand i
  | none => cand 0

/-- What processing a request comes to: the block, STATUS, COUNT, item bytes. -/
abbrev Served := Dev × Nat × Nat × List Nat

/-- A request that names a session: processed when its SEQ is the session's next, answered again when it repeats the previous one, and
otherwise turned away (R383). `f` processes it for session k. -/
def nppRequest (op session seq : Nat) (f : Nat → Dev → Served) (d : Dev) : Dev :=
  if nppServes d = false then d
  else match sessNamed d session with
    | none => nppSend (nppReply op session seq 0 0xA012 []) d
    | some k =>
      let x := sessOf d k
      if seq = x.nextSeq then
        let d := bump R.NPP_REQUESTS (setSess k { x with nextSeq := (seq + 1) % 2 ^ 32, lastAt := d.now } d)
        let r := f k d
        let bs := nppReply op session seq r.2.2.1 r.2.1 r.2.2.2
        let d := r.1
        nppSend bs (if (sessOf d k).isOpen then setSess k { sessOf d k with reply := bs } d else d)
      else if (seq + 1) % 2 ^ 32 = x.nextSeq ∧ x.reply ≠ [] then nppSend x.reply (setSess k { x with lastAt := d.now } d)
      else nppSend (nppReply op session seq 0 0xA014 []) d

/-! ### Operations -/

/-- NPP_OPEN. -/
def nppOpen (seq : Nat) (d : Dev) : Dev :=
  if nppServes d = false then d
  else match freeSession d with
    | none => nppSend (nppReply 1 0 seq 0 0xA013 []) d
    | some k =>
      let (w, d) := draw d
      let i := newIdent d w
      nppSend (nppReply 1 i seq 0 0 []) (bump R.NPP_REQUESTS (setSess k ⟨true, i, 1, [], d.now⟩ d))

def execNppOpen (seq : Nat) (s : State) : Host.Outcome State Fault Refusal := run (decide (seq < 2 ^ 32)) (nppOpen seq) s

/-- NPP_CLOSE. -/
def execNppClose (session seq : Nat) (s : State) : Host.Outcome State Fault Refusal :=
  run (decide (session < 2 ^ 32 ∧ seq < 2 ^ 32)) (nppRequest 2 session seq (fun k d => (closeSession k d, 0, 0, []))) s

/-- One item of a READ reply: its bytes, and its abort code. -/
def readItem (c : Nat) (d : Dev) (i : Nat × Nat) : List Nat × Nat :=
  let head := bytesOf i.1 2 ++ [i.2, 0]
  match readEntry c i.1 i.2 d with
  | .error code => (head ++ bytesOf code 2 ++ [0, 0], code)
  | .ok (v, n) => (head ++ [0, 0] ++ bytesOf n 2 ++ bytesOf v n ++ List.replicate ((n + 3) / 4 * 4 - n) 0, 0)

/-- NPP_READ for session k (R384). -/
def nppRead (items : List (Nat × Nat)) (k : Nat) (d : Dev) : Served :=
  let rs := items.map (readItem (k + 2) d)
  let bs := rs.flatMap Prod.fst
  if 1472 < 16 + bs.length then (d, 0xA015, 0, [])
  else (d, ((rs.map Prod.snd).find? (fun e => decide (e ≠ 0))).getD 0, items.length, bs)

/-- A request whose COUNT is not the number of its items is malformed: 0xA015, and nothing else (Table 15.11; log entry 30). -/
def counted (count : Nat) (n : Nat) (f : Nat → Dev → Served) (k : Nat) (d : Dev) : Served := if count = n then f k d else (d, 0xA015, 0, [])

def execNppRead (session seq : Nat) (body : ReadBody) (s : State) : Host.Outcome State Fault Refusal :=
  run (decide (session < 2 ^ 32 ∧ seq < 2 ^ 32 ∧ body.count < 65536) && readItems body.items)
    (nppRequest 3 session seq (counted body.count body.items.length (nppRead body.items))) s

/-- The items of a WRITE in order, up to the first that is refused: the block, its code, and how many were accepted. -/
def writeFrom (c : Nat) : List (Nat × Nat × List Nat) → Nat → Dev → Dev × Nat × Nat
  | [], n, d => (d, 0, n)
  | i :: r, n, d =>
    let a := entryWrite c i.1 i.2.1 (exact i.2.2.length (ofBytes i.2.2)) none d
    if a.2.1 = 0 then writeFrom c r (n + 1) a.1 else (a.1, a.2.1, n)

/-- NPP_WRITE for session k (R384). -/
def nppWrite (items : List (Nat × Nat × List Nat)) (k : Nat) (d : Dev) : Served :=
  if nppMayWrite d = false then (d, 0xA011, 0, [])
  else
    let r := writeFrom (k + 2) items 0 d
    (r.1, r.2.1, r.2.2, [])

def execNppWrite (session seq : Nat) (body : WriteBody) (s : State) : Host.Outcome State Fault Refusal :=
  run (decide (session < 2 ^ 32 ∧ seq < 2 ^ 32 ∧ body.count < 65536) && writeItems body.items)
    (nppRequest 4 session seq (counted body.count body.items.length (nppWrite body.items))) s

/-- NPP_COMMIT for session k: the reply carries the frame. -/
def nppCommit (gid k : Nat) (d : Dev) : Served :=
  if nppMayWrite d = false then (d, 0xA011, 0, [])
  else
    let a := if gid = 0xFFFFFFFF then groupCommitAll (k + 2) d else groupCommit (k + 2) gid d
    if a.2.1 = 0 then (a.1, 0, 1, bytesOf (tget 0 a.1.ctl.commitFrame (k + 2)) 8) else (a.1, a.2.1, 0, [])

/-- COMMIT and DISCARD: the ROM does not answer them (R480). -/
def nppGroup (op session seq : Nat) (f : Nat → Dev → Served) (d : Dev) : Dev :=
  if dget R.BOOT_STATE d = 2 then nppRequest op session seq f d else d

def execNppCommit (session seq gid : Nat) (s : State) : Host.Outcome State Fault Refusal :=
  run (decide (session < 2 ^ 32 ∧ seq < 2 ^ 32 ∧ gid < 2 ^ 32)) (nppGroup 5 session seq (nppCommit gid)) s

/-- NPP_DISCARD for session k. -/
def nppDiscard (gid k : Nat) (d : Dev) : Served :=
  if nppMayWrite d = false then (d, 0xA011, 0, [])
  else
    let a := groupDiscard (k + 2) gid d
    (a.1, a.2.1, 0, [])

def execNppDiscard (session seq gid : Nat) (s : State) : Host.Outcome State Fault Refusal :=
  run (decide (session < 2 ^ 32 ∧ seq < 2 ^ 32 ∧ gid < 2 ^ 32)) (nppGroup 6 session seq (nppDiscard gid)) s

def execNppKeepalive (session seq : Nat) (s : State) : Host.Outcome State Fault Refusal :=
  run (decide (session < 2 ^ 32 ∧ seq < 2 ^ 32)) (nppRequest 7 session seq (fun _ d => (d, 0, 0, []))) s

/-- NPP_SESSION_EXPIRY of session k: 2 s after the latest valid request. -/
def nppExpiry (k : Nat) (d : Dev) : Dev :=
  if (sessOf d k).isOpen then closeSession k (bump R.NPP_EXPIRIES (advTo ((sessOf d k).lastAt + 2 * acPerS) d)) else d

def execNppSessionExpiry (session : Nat) (s : State) : Host.Outcome State Fault Refusal :=
  run (decide (session < 8)) (nppExpiry session) s

/-- NPP_DATAGRAM_DISCARD: no reply; in SLEEP it is not counted (R382, R459). -/
def execNppDatagramDiscard (s : State) : Host.Outcome State Fault Refusal :=
  run true (fun d => if nppServes d then bump R.NPP_ERRORS d else d) s

end Sys2Proof.Machine
end

