-- ==== Sys2Proof/Machine/Run.lean ====
section
/-! DEFINITION. The frame grid: boundaries, growth rings, SYSREF edges, the end of a stop, and the input fingerprint (chapters 2, 10,
21); the resets of the host port (R364). -/

namespace Sys2Proof.Machine

/-! ### The input fingerprint (R263 to R265) -/

/-- The blocks of a channel: 8 samples of 16 bits each, the last padded with zeros. -/
def fpBlocks : Nat → List Nat → List Nat
  | 0, _ => []
  | k + 1, xs => match xs with
    | [] => []
    | _ => ofBytes ((xs.take 8).flatMap (fun x => bytesOf x 2)) :: fpBlocks k (xs.drop 8)

/-- The samples of channel c of frame n as they enter the fingerprint. -/
def fpSamples (d : Dev) (c : Nat) : List Nat :=
  let n := perFrame d (portOf d (c / 64)).rate
  let raw := (chanOf d c).raw.reverse
  (raw ++ List.replicate (n - raw.length) 0).take n

/-- The fingerprint over the ports of a mask. -/
def fingerprint (d : Dev) (mask : Nat) : Nat :=
  let cs := ((List.range 16).filter (fun p => bit mask p)).flatMap (fun p => (List.range (portOf d p).chans).map (fun c => 64 * p + c))
  let ss := cs.map (fpSamples d)
  let total := (ss.map List.length).foldl (· + ·) 0
  let blocks := ss.flatMap (fun s => fpBlocks s.length s) ++ [mask * 2 ^ 48 + total % 2 ^ 32]
  blocks.foldl (fun y x => gfMul (y ^^^ x) (dget R.FP_KEY d)) 0

/-- The input of frame n is complete; the fingerprint of the frame before is shown, and that of frame n from E_n + 64 ac on (R265). -/
def frameEnd (n : Nat) (d : Dev) : Dev :=
  let y := fingerprint d (frameOf d n).fpMask
  let d := modFrame n (fun f => { f with fpDigest := some y }) (showFp d)
  sendStatus n { d with grid := { d.grid with fpNext := some (n, eAt d n + 64) } }

/-! ### Frame boundaries (R37) -/

/-- FRAME_BOUNDARY: B_n of the next frame, which is E_(n - 1). -/
def frameBoundary (d : Dev) : Dev :=
  let n := d.grid.nextB
  if running d = false ∨ d.grid.nextT ≠ n then d
  else
    let d := advTo (bAt d n) d
    let d := if n = 0 then d else frameEnd (n - 1) d
    let d := { d with grid := { d.grid with nextB := n + 1 } }
    let d := modFrame n (fun f => { f with lost := d.flt.losing, ringB := (d.ctx.ringBase + n - d.ctx.skipped) * fLen d }) d
    channelsAtBoundary n (pauseAtBoundary n d)

def execFrameBoundary (s : State) : Host.Outcome State Fault Refusal := run true frameBoundary s

/-! ### Growth rings (R155, R371, R497) -/

/-- Each die link is checked (R163): `bad` are those found out of alignment. -/
def checkDieLinks (bad : List Nat) (d : Dev) : Dev :=
  let t := (List.range 256).foldl (fun t l =>
    if bad.contains l then tset none t l (some ((tget none d.fab.misaligned l).getD d.now)) else t) ([] : Tab (Option Nat))
  { d with fab := { d.fab with misaligned := t } }

/-- What frame n keeps of the settings in force at its growth ring (R239, R264, R268, R272, R297). -/
def frameSettings (n : Nat) (d : Dev) : Dev :=
  let k := dget R.CURRENT_CONTEXT d
  let l := loadedOf d k
  let vl := (List.range 32).map (fun i =>
    (dget (R.VLINE_MODE i) d, dget (R.VLINE_SOURCE i) d, dget (R.VLINE_PULSE_WIDTH i) d, dget (R.VLINE_INVALID_ACTION i) d))
  modFrame n (fun f => { f with
    seen := true, ctx := k, la := l.la, lr := l.lr, epoch := (ringOf d 0).epoch, fpMask := dget R.FE_PRESENT d
    vl := vl, audit := dget R.AUDIT_ENABLE d, pDigest := dget (R.PROGRAM_DIGEST k) d, wDigest := dget (R.LIVE_WEIGHT_DIGEST k) d }) d

/-- Unlatches written since the last growth ring count from frame n on (R279). -/
def unlatchAtRing (n : Nat) (d : Dev) : Dev :=
  let m := d.trig.unlatchNew
  { d with trig := { d.trig with
    unlatchNew := 0
    unlatch := (List.range 32).foldl (fun t k => if bit m k then tset none t k (some n) else t) d.trig.unlatch } }

/-- The summary entries other than FE_PRESENT (R28). -/
def summaryAtRing (d : Dev) : Dev :=
  dset R.RING_SIZE (ringSize d) <| dset R.HOST_LINK (hostLinkNow d) (dset R.RING_LINKS (linksNow d) (dset R.MIRROR_LINK (mirrorNow d) (dset R.TIME_SOURCE d.time.source d)))

/-- Frames that were lost or paused are passed over by the clip monitors' merge. -/
def skipFrames : Nat → Dev → Dev
  | 0, d => d
  | k + 1, d => if mergeDue d d.enc.nextMerge && !isRun d d.enc.nextMerge then skipFrames k (mergeNext d) else d

/-- Frames that nothing refers to any more are forgotten. -/
def forgetFrames (n : Nat) (d : Dev) : Dev :=
  let d := skipFrames 64 d
  let lo := min (n - 32) (min d.enc.nextMerge d.grid.nextIssue)
  { d with frames := d.frames.filter (fun e => decide (lo ≤ e.1)) }

/-- SYNC leaves at t0 of every frame whose number is a multiple of 64 (Table 17.2). -/
def syncAtRing (n : Nat) (d : Dev) : Dev := if n % 64 = 0 then [0, 1, 2].foldl (fun d p => sendFlit p 5 [n] d) d else d

/-- A stop is taken at the growth ring of frame n: the grid ends before it (R497, R516). Commits and forwarded settings that wait
take effect at frame 0 of the next arming. A restart that only waits for its growth ring ends without rejoining (R516). -/
def stopAtRing (n : Nat) (d : Dev) : Dev :=
  let d := restartBegin d
  let d := if dget R.RESTART_STATE d ≠ 0 ∧ d.flt.dev = none then modFlt (fun f => { f with noRejoin := true }) d else d
  let d := switchAtStop n (pauseAtStop d)
  let d := if (frameOf d n).lost then d else dictAtRing n d
  let d := modCtl (fun c => { c with
    commitFrame := (c.groups.filter (fun e => decide (e.2.st = 2))).foldl
      (fun t e => if tget 0 t e.2.holder = e.2.due then tset 0 t e.2.holder 0 else t) c.commitFrame
    groups := c.groups.map (fun (e : Nat × Grp) => if e.2.st = 2 then (e.1, { e.2 with due := 0 }) else e) }) d
  let d := if d.lnk.resyncAt.isSome then dset R.MIRROR_SYNC_STATE 1 d else d
  let d := { d with lnk := { d.lnk with resyncAt := none, dictIn := d.lnk.dictIn.map (fun (f : Fwd) => { f with frame := 0 }) } }
  let d := summaryAtRing (dset R.FE_PRESENT (presentMask d) d)
  let d := { portsAtStop d with grid := { d.grid with endF := some n, stopReq := false } }
  stopEnds (gapAtEnd (if dget R.RESTART_STATE d = 5 ∧ d.flt.dev = none then restartEnd d else d))

/-- The growth ring of frame n while the array runs on. -/
def ringEffects (n : Nat) (phi : List Int) (misaligned : List Nat) (d : Dev) : Dev :=
  let d := { d with grid := { d.grid with nextT := n + 1 } }
  let d := checkDieLinks misaligned d
  let was := (frameOf d n).paused
  let d := pauseAtRing n (rejoinAtRing n (restartBegin d))
  let f := frameOf d n
  let d := if f.lost then d else resyncAtRing n (dictAtRing n d)
  let d := if (frameOf d n).lost || (frameOf d n).paused then d else switchAtRing n d
  let d := saveHeader n (if (frameOf d n).lost then d else encAtRing n d)
  let d := tdcAtRing phi (portsAtRing n d)
  let d := if was && !(frameOf d n).paused then takeSamples n d else d
  let d := frameSettings n d
  let d := streamsAtRing n (feedSlots n (tickChans d n) d)
  syncAtRing n (forgetFrames n (summaryAtRing (unlatchAtRing n d)))

/-- GROWTH_RING: t0 of the next frame; `phi` are the phases φ_p measured (R93), `misaligned` the die links found out of alignment.
What its cut-off had not latched yet is latched first. -/
def growthRing (phi : List Int) (misaligned : List Nat) (d : Dev) : Dev :=
  let n := d.grid.nextT
  if running d = false ∨ d.grid.nextB ≤ n then d
  else
    let d := if d.grid.nextC ≤ n then dictCutoff d else d
    let d := latchStamp n (advTo (t0At d n) d)
    if d.grid.stopReq then stopAtRing n (checkDieLinks misaligned d) else ringEffects n phi misaligned d

def execGrowthRing (phi : List Int) (misaligned : List Nat) (s : State) : Host.Outcome State Fault Refusal :=
  run (phi.all (fun x => decide (-32768 ≤ x ∧ x < 32768)) && misaligned.all (fun l => decide (l < 256))) (growthRing phi misaligned) s

/-! ### SYSREF (R37, R38, R58, R62, R259, R496) -/

/-- The arming edge, when this edge of the clock-reference port is it. -/
def armingSysref (t : Nat) (d : Dev) : Dev :=
  if atBarrier d = false then armStart t d
  else
    let d := leaderEdge t d
    match d.lnk.barEdge with
    | some e => if 2 * e ≤ 2 * t + sysrefPeriod d (dget R.CLOCK_REF_PORT d) then armStart t d else d
    | none => d

/-- SYSREF_EDGE on a port at ac `t`; `margin` is its phase margin, 1/16 ac. -/
def sysrefEdge (p t : Nat) (margin : Int) (d : Dev) : Dev :=
  let d := sysrefSeen p t (advTo t d)
  let isRef := decide (p = dget R.CLOCK_REF_PORT d)
  let d := if arrayState d = 1 then (if isRef then armingSysref t d else d)
    else if running d then alignPort p t (offGrid p t d)
    else d
  let d := if running d then sysrefMargin p margin d else d
  if isRef then { d with pll := { d.pll with lastEdge := some t } } else d

def execSysrefEdge (port t : Nat) (margin : Int) (s : State) : Host.Outcome State Fault Refusal :=
  run (decide (port < 16 ∧ -128 ≤ margin ∧ margin < 128)) (sysrefEdge port t margin) s

/-! ### Resets and loss of the host link (R325, R364, R377) -/

/-- The part of a host reset outside the ring control: channels, load, staging, and the host's groups. -/
def hostUnits (d : Dev) : Dev :=
  let d := stopChannels d
  let d := match d.ldr.job with
    | some j => if j.cmd = 2 then d else failLoad (0x001D, 0) d
    | none => d
  let d := if dget R.ENC_STATE d = 1 then encRefuse 8 d else d
  dropHolds 0 (modPwr (fun w => { w with aspm := false }) d)

/-- FUNCTION_LEVEL_RESET: a configuration request, which needs the link. -/
def execFunctionLevelReset (s : State) : Host.Outcome State Fault Refusal :=
  run true (fun d => if d.host.linkUp then stopEnds (portReset 0 (hostUnits d)) else d) s

/-- PERST_N asserted: as a function-level reset, and the link goes down until PERST_N is released. -/
def perstAssert (d : Dev) : Dev :=
  let d := { d with host := { d.host with perstN := false } }
  if d.sys.step < 3 then d else stopEnds (linkOff (portReset 1 (hostUnits d)))

def execPerstNAssert (s : State) : Host.Outcome State Fault Refusal := run true perstAssert s

/-- Reads of host memory in progress fail. -/
def readsFail (d : Dev) : Dev :=
  let d := match d.ldr.job with
    | some j => if j.cmd ≠ 2 ∧ (dget R.LOAD_STATE d = 1 ∨ dget R.LOAD_STATE d = 5) then failLoad (0x001D, 0) d else d
    | none => d
  stopReads (if dget R.ENC_STATE d = 1 then encRefuse 8 d else d)

/-- LINK_DOWN. -/
def execLinkDown (s : State) : Host.Outcome State Fault Refusal :=
  run true (fun d => if d.host.linkUp then stopEnds (readsFail (portLinkDown d)) else d) s

end Sys2Proof.Machine
end

