-- ==== Sys2Proof/Machine/Dispatch.lean ====
section
/-! DEFINITION. One arm for each command: the one call of its meaning. -/

namespace Sys2Proof.Machine

def exec (i : Instr) (s : State) : Host.Outcome State Fault Refusal :=
  match i with
  | .dictWrite client idx sub len val => Sys2Proof.Machine.execDictWrite client idx sub len val s
  | .dictCutoff => Sys2Proof.Machine.execDictCutoff s
  | .frameBoundary => Sys2Proof.Machine.execFrameBoundary s
  | .growthRing phi misaligned => Sys2Proof.Machine.execGrowthRing phi misaligned s
  | .growthRingAtCore core => Sys2Proof.Machine.execGrowthRingAtCore core s
  | .sysrefEdge port t margin => Sys2Proof.Machine.execSysrefEdge port t margin s
  | .clockRelockDone => Sys2Proof.Machine.execClockRelockDone s
  | .presentNFall port => Sys2Proof.Machine.execPresentNFall port s
  | .discoveryDebounceDone port desc => Sys2Proof.Machine.execDiscoveryDebounceDone port desc s
  | .laneLockDone port ilasOk ppm => Sys2Proof.Machine.execLaneLockDone port ilasOk ppm s
  | .discoveryTimeout port => Sys2Proof.Machine.execDiscoveryTimeout port s
  | .presentNRise port => Sys2Proof.Machine.execPresentNRise port s
  | .ibi port byte => Sys2Proof.Machine.execIbi port byte s
  | .portReinstate client port => Sys2Proof.Machine.execPortReinstate client port s
  | .laneCodeError lane unit => Sys2Proof.Machine.execLaneCodeError lane unit s
  | .laneSyncLoss lane => Sys2Proof.Machine.execLaneSyncLoss lane s
  | .cdrLossOfLock lane => Sys2Proof.Machine.execCdrLossOfLock lane s
  | .releaseMarginViolation lane margin => Sys2Proof.Machine.execReleaseMarginViolation lane margin s
  | .retrainTimeout port => Sys2Proof.Machine.execRetrainTimeout port s
  | .retrainEpisodeEnd lane => Sys2Proof.Machine.execRetrainEpisodeEnd lane s
  | .marginUpdate lane h w => Sys2Proof.Machine.execMarginUpdate lane h w s
  | .adaptUpdate lane delta => Sys2Proof.Machine.execAdaptUpdate lane delta s
  | .adaptHold client lane val => Sys2Proof.Machine.execAdaptHold client lane val s
  | .prbsMode client lane val => Sys2Proof.Machine.execPrbsMode client lane val s
  | .injectRate client lane val => Sys2Proof.Machine.execInjectRate client lane val s
  | .tdcCalTable die => Sys2Proof.Machine.execTdcCalTable die s
  | .edgeInput k rising t => Sys2Proof.Machine.execEdgeInput k rising t s
  | .condParityError ch kind => Sys2Proof.Machine.execCondParityError ch kind s
  | .tokenAdmit core => Sys2Proof.Machine.execTokenAdmit core s
  | .nop core up => Sys2Proof.Machine.execNop core up s
  | .lutmac core up => Sys2Proof.Machine.execLutmac core up s
  | .omac core up => Sys2Proof.Machine.execOmac core up s
  | .zcorr core up => Sys2Proof.Machine.execZcorr core up s
  | .bclose core up => Sys2Proof.Machine.execBclose core up s
  | .rescale core up => Sys2Proof.Machine.execRescale core up s
  | .actlut core up => Sys2Proof.Machine.execActlut core up s
  | .stateRead core up => Sys2Proof.Machine.execStateRead core up s
  | .stateWrite core up => Sys2Proof.Machine.execStateWrite core up s
  | .send core up => Sys2Proof.Machine.execSend core up s
  | .recv core up => Sys2Proof.Machine.execRecv core up s
  | .reduce core up => Sys2Proof.Machine.execReduce core up s
  | .cmp core up => Sys2Proof.Machine.execCmp core up s
  | .sel core up => Sys2Proof.Machine.execSel core up s
  | .maxp core up => Sys2Proof.Machine.execMaxp core up s
  | .movRegisterRun core up => Sys2Proof.Machine.execMovRegisterRun core up s
  | .movImmediate core up => Sys2Proof.Machine.execMovImmediate core up s
  | .movClearAccumulators core up => Sys2Proof.Machine.execMovClearAccumulators core up s
  | .ldw core up => Sys2Proof.Machine.execLdw core up s
  | .waitCount core up => Sys2Proof.Machine.execWaitCount core up s
  | .waitTokenPresent core up => Sys2Proof.Machine.execWaitTokenPresent core up s
  | .waitGrowthRing core up => Sys2Proof.Machine.execWaitGrowthRing core up s
  | .ring core up => Sys2Proof.Machine.execRing core up s
  | .fireWatchdogExpiry core => Sys2Proof.Machine.execFireWatchdogExpiry core s
  | .scrubberPass core ups => Sys2Proof.Machine.execScrubberPass core ups s
  | .rideHop core dir parityErr => Sys2Proof.Machine.execRideHop core dir parityErr s
  | .fbDepart core => Sys2Proof.Machine.execFbDepart core s
  | .fbIngress bad => Sys2Proof.Machine.execFbIngress bad s
  | .fbSlotTimeout core => Sys2Proof.Machine.execFbSlotTimeout core s
  | .dieLinkRealignTimeout link => Sys2Proof.Machine.execDieLinkRealignTimeout link s
  | .verdictToken => Sys2Proof.Machine.execVerdictToken s
  | .verdictClose => Sys2Proof.Machine.execVerdictClose s
  | .contribSend => Sys2Proof.Machine.execContribSend s
  | .ringWriteArrival => Sys2Proof.Machine.execRingWriteArrival s
  | .ringDeadline => Sys2Proof.Machine.execRingDeadline s
  | .mirrorVerdictSend => Sys2Proof.Machine.execMirrorVerdictSend s
  | .mirrorAloneCheck => Sys2Proof.Machine.execMirrorAloneCheck s
  | .verdictIssue => Sys2Proof.Machine.execVerdictIssue s
  | .vlinePulseEnd line => Sys2Proof.Machine.execVlinePulseEnd line s
  | .vlineUnlatch client mask => Sys2Proof.Machine.execVlineUnlatch client mask s
  | .conditionVectorEval => Sys2Proof.Machine.execConditionVectorEval s
  | .patAutoExpiry p => Sys2Proof.Machine.execPatAutoExpiry p s
  | .triggerRecord => Sys2Proof.Machine.execTriggerRecord s
  | .copyUnit half => Sys2Proof.Machine.execCopyUnit half s
  | .copyTruncate half => Sys2Proof.Machine.execCopyTruncate half s
  | .psramTransactionDone die refresh => Sys2Proof.Machine.execPsramTransactionDone die refresh s
  | .psramTimeout page => Sys2Proof.Machine.execPsramTimeout page s
  | .captureRelease client handle => Sys2Proof.Machine.execCaptureRelease client handle s
  | .streamSegment seg => Sys2Proof.Machine.execStreamSegment seg s
  | .streamOverrun ch => Sys2Proof.Machine.execStreamOverrun ch s
  | .descProducer client ch val => Sys2Proof.Machine.execDescProducer client ch val s
  | .descFetchTimeout ch => Sys2Proof.Machine.execDescFetchTimeout ch s
  | .descCopy ch desc moved => Sys2Proof.Machine.execDescCopy ch desc moved s
  | .descCopyRelease ch desc moved => Sys2Proof.Machine.execDescCopyRelease ch desc moved s
  | .descRelease ch desc => Sys2Proof.Machine.execDescRelease ch desc s
  | .transferDone ch => Sys2Proof.Machine.execTransferDone ch s
  | .channelStart client ch => Sys2Proof.Machine.execChannelStart client ch s
  | .channelAbort client ch => Sys2Proof.Machine.execChannelAbort client ch s
  | .channelAbortDone ch => Sys2Proof.Machine.execChannelAbortDone ch s
  | .reviewDispatch cluster => Sys2Proof.Machine.execReviewDispatch cluster s
  | .reviewJobAged cluster => Sys2Proof.Machine.execReviewJobAged cluster s
  | .reviewInputReadDone cluster => Sys2Proof.Machine.execReviewInputReadDone cluster s
  | .reviewPassStart cluster => Sys2Proof.Machine.execReviewPassStart cluster s
  | .reviewPassEnd cluster choices => Sys2Proof.Machine.execReviewPassEnd cluster choices s
  | .reviewJobEnd cluster fault => Sys2Proof.Machine.execReviewJobEnd cluster fault s
  | .encStart client => Sys2Proof.Machine.execEncStart client s
  | .encBlockStaged words => Sys2Proof.Machine.execEncBlockStaged words s
  | .encReadTimeout => Sys2Proof.Machine.execEncReadTimeout s
  | .encCommit client => Sys2Proof.Machine.execEncCommit client s
  | .encAbandon client => Sys2Proof.Machine.execEncAbandon client s
  | .encRetire => Sys2Proof.Machine.execEncRetire s
  | .clipCountMerge => Sys2Proof.Machine.execClipCountMerge s
  | .load client => Sys2Proof.Machine.execLoad client s
  | .unload client => Sys2Proof.Machine.execUnload client s
  | .loadCheck client => Sys2Proof.Machine.execLoadCheck client s
  | .loadPhaseDone data => Sys2Proof.Machine.execLoadPhaseDone data s
  | .loadReadTimeout => Sys2Proof.Machine.execLoadReadTimeout s
  | .retireCore client x y => Sys2Proof.Machine.execRetireCore client x y s
  | .contextSwitch client frame slot => Sys2Proof.Machine.execContextSwitch client frame slot s
  | .slotDrained slot => Sys2Proof.Machine.execSlotDrained slot s
  | .fallbackEnable client val => Sys2Proof.Machine.execFallbackEnable client val s
  | .pause client frame => Sys2Proof.Machine.execPause client frame s
  | .resume client frame => Sys2Proof.Machine.execResume client frame s
  | .resumeNoRestore client frame => Sys2Proof.Machine.execResumeNoRestore client frame s
  | .saveImageWritten => Sys2Proof.Machine.execSaveImageWritten s
  | .restoreDone => Sys2Proof.Machine.execRestoreDone s
  | .auditTimeout r => Sys2Proof.Machine.execAuditTimeout r s
  | .recordWrite r => Sys2Proof.Machine.execRecordWrite r s
  | .ciFetch => Sys2Proof.Machine.execCiFetch s
  | .ciFetchDone words => Sys2Proof.Machine.execCiFetchDone words s
  | .ciFetchTimeout => Sys2Proof.Machine.execCiFetchTimeout s
  | .msixDelayExpiry r => Sys2Proof.Machine.execMsixDelayExpiry r s
  | .ringEnable r ctrl => Sys2Proof.Machine.execRingEnable r ctrl s
  | .ringDisable r ctrl => Sys2Proof.Machine.execRingDisable r ctrl s
  | .hostWindowWrite offset width val => Sys2Proof.Machine.execHostWindowWrite offset width val s
  | .functionLevelReset => Sys2Proof.Machine.execFunctionLevelReset s
  | .perstNAssert => Sys2Proof.Machine.execPerstNAssert s
  | .perstNRelease => Sys2Proof.Machine.execPerstNRelease s
  | .linkDown => Sys2Proof.Machine.execLinkDown s
  | .hostLinkUp rate width conf => Sys2Proof.Machine.execHostLinkUp rate width conf s
  | .groupMemberWrite client idx sub val => Sys2Proof.Machine.execGroupMemberWrite client idx sub val s
  | .groupCommit client gid => Sys2Proof.Machine.execGroupCommit client gid s
  | .groupCommitAll client => Sys2Proof.Machine.execGroupCommitAll client s
  | .groupDiscard client gid => Sys2Proof.Machine.execGroupDiscard client gid s
  | .groupDiscardAll client => Sys2Proof.Machine.execGroupDiscardAll client s
  | .bulkRead idx sub => Sys2Proof.Machine.execBulkRead idx sub s
  | .bulkWrite idx sub data => Sys2Proof.Machine.execBulkWrite idx sub data s
  | .nppOpen seq => Sys2Proof.Machine.execNppOpen seq s
  | .nppClose session seq => Sys2Proof.Machine.execNppClose session seq s
  | .nppRead session seq body => Sys2Proof.Machine.execNppRead session seq body s
  | .nppWrite session seq body => Sys2Proof.Machine.execNppWrite session seq body s
  | .nppCommit session seq gid => Sys2Proof.Machine.execNppCommit session seq gid s
  | .nppDiscard session seq gid => Sys2Proof.Machine.execNppDiscard session seq gid s
  | .nppKeepalive session seq => Sys2Proof.Machine.execNppKeepalive session seq s
  | .nppWake serial => Sys2Proof.Machine.execNppWake serial s
  | .nppSessionExpiry session => Sys2Proof.Machine.execNppSessionExpiry session s
  | .nppPort client port => Sys2Proof.Machine.execNppPort client port s
  | .ptpAnnounce domain ident key utc => Sys2Proof.Machine.execPtpAnnounce domain ident key utc s
  | .ptpSync domain ident t1 reply => Sys2Proof.Machine.execPtpSync domain ident t1 reply s
  | .ptpPdelayReq => Sys2Proof.Machine.execPtpPdelayReq s
  | .ptpDelayReqSend => Sys2Proof.Machine.execPtpDelayReqSend s
  | .ptpAnnounceTimeout => Sys2Proof.Machine.execPtpAnnounceTimeout s
  | .ptpSyncTimeout => Sys2Proof.Machine.execPtpSyncTimeout s
  | .ptpPortRestart client dom val => Sys2Proof.Machine.execPtpPortRestart client dom val s
  | .timeRestep client => Sys2Proof.Machine.execTimeRestep client s
  | .ppsInEdge rising => Sys2Proof.Machine.execPpsInEdge rising s
  | .ppsInLoss => Sys2Proof.Machine.execPpsInLoss s
  | .ppsOutAssert => Sys2Proof.Machine.execPpsOutAssert s
  | .ppsOutEnd => Sys2Proof.Machine.execPpsOutEnd s
  | .flitCrcFail port seq => Sys2Proof.Machine.execFlitCrcFail port seq s
  | .nak port seq => Sys2Proof.Machine.execNak port seq s
  | .contrib port seq words => Sys2Proof.Machine.execContrib port seq words s
  | .hello port words => Sys2Proof.Machine.execHello port words s
  | .form port seq members => Sys2Proof.Machine.execForm port seq members s
  | .formRound => Sys2Proof.Machine.execFormRound s
  | .barrier port seq kind half pos size k path at0 => Sys2Proof.Machine.execBarrier port seq kind half pos size k path at0 s
  | .barrierTimeout => Sys2Proof.Machine.execBarrierTimeout s
  | .sync port seq frame at16 => Sys2Proof.Machine.execSync port seq frame at16 s
  | .mirrorStatus seq frame role active => Sys2Proof.Machine.execMirrorStatus seq frame role active s
  | .mirrorVerdict seq frame word fp => Sys2Proof.Machine.execMirrorVerdict seq frame word fp s
  | .mirrorDict seq kind key val frame members => Sys2Proof.Machine.execMirrorDict seq kind key val frame members s
  | .wakeComb port seq => Sys2Proof.Machine.execWakeComb port seq s
  | .reservedFlit port ty => Sys2Proof.Machine.execReservedFlit port ty s
  | .linkTrained port lat => Sys2Proof.Machine.execLinkTrained port lat s
  | .fecAlignmentLoss port => Sys2Proof.Machine.execFecAlignmentLoss port s
  | .linkTrainTimeout port => Sys2Proof.Machine.execLinkTrainTimeout port s
  | .ringReinstate client mask => Sys2Proof.Machine.execRingReinstate client mask s
  | .faultReport code a0 a1 => Sys2Proof.Machine.execFaultReport code a0 a1 s
  | .restartPhaseDone data => Sys2Proof.Machine.execRestartPhaseDone data s
  | .restartTimeout => Sys2Proof.Machine.execRestartTimeout s
  | .faultClear client => Sys2Proof.Machine.execFaultClear client s
  | .quietPeriodExpiry => Sys2Proof.Machine.execQuietPeriodExpiry s
  | .mpWatchdogExpiry => Sys2Proof.Machine.execMpWatchdogExpiry s
  | .powerRequest client target => Sys2Proof.Machine.execPowerRequest client target s
  | .prepareDone => Sys2Proof.Machine.execPrepareDone s
  | .prepareTimeout block => Sys2Proof.Machine.execPrepareTimeout block s
  | .powerTransitionDone => Sys2Proof.Machine.execPowerTransitionDone s
  | .laneSignalDetect which => Sys2Proof.Machine.execLaneSignalDetect which s
  | .wakeCombBursts port => Sys2Proof.Machine.execWakeCombBursts port s
  | .clkreqNAssert => Sys2Proof.Machine.execClkreqNAssert s
  | .canopyPowerSample power current => Sys2Proof.Machine.execCanopyPowerSample power current s
  | .canopyThermalSample js inlet outlet flow => Sys2Proof.Machine.execCanopyThermalSample js inlet outlet flow s
  | .canopyEscalate => Sys2Proof.Machine.execCanopyEscalate s
  | .canopyReleaseExpiry => Sys2Proof.Machine.execCanopyReleaseExpiry s
  | .canopyStage3Report => Sys2Proof.Machine.execCanopyStage3Report s
  | .ownerKeyProvision client key => Sys2Proof.Machine.execOwnerKeyProvision client key s
  | .ownerKeyRevoke client slot => Sys2Proof.Machine.execOwnerKeyRevoke client slot s
  | .svnAdvance client svn => Sys2Proof.Machine.execSvnAdvance client svn s
  | .quoteCommand client => Sys2Proof.Machine.execQuoteCommand client s
  | .quoteReady => Sys2Proof.Machine.execQuoteReady s
  | .firmwareExtend digest => Sys2Proof.Machine.execFirmwareExtend digest s
  | .mpBoot => Sys2Proof.Machine.execMpBoot s
  | .bootVerifyDone err => Sys2Proof.Machine.execBootVerifyDone err s
  | .rebootToRecovery client toFlash => Sys2Proof.Machine.execRebootToRecovery client toFlash s
  | .verifyHostImage client toFlash image => Sys2Proof.Machine.execVerifyHostImage client toFlash image s
  | .verifyStagedImage client toFlash => Sys2Proof.Machine.execVerifyStagedImage client toFlash s
  | .recoveryChunk client chunk => Sys2Proof.Machine.execRecoveryChunk client chunk s
  | .recoveryImageDone ok => Sys2Proof.Machine.execRecoveryImageDone ok s
  | .porNAssert => Sys2Proof.Machine.execPorNAssert s
  | .porNRelease safe0 safe1 => Sys2Proof.Machine.execPorNRelease safe0 safe1 s
  | .startStepDone => Sys2Proof.Machine.execStartStepDone s
  | .coolantHoldReport => Sys2Proof.Machine.execCoolantHoldReport s
  | .storeInit client => Sys2Proof.Machine.execStoreInit client s
  | .storeInitDone failed => Sys2Proof.Machine.execStoreInitDone failed s
  | .arm client => Sys2Proof.Machine.execArm client s
  | .stop client => Sys2Proof.Machine.execStop client s
  | .railSample volts amps => Sys2Proof.Machine.execRailSample volts amps s
  | .railFault => Sys2Proof.Machine.execRailFault s
  | .testEnRise => Sys2Proof.Machine.execTestEnRise s
  | .testEnFall => Sys2Proof.Machine.execTestEnFall s
  | .sampleTick samples margins => Sys2Proof.Machine.execSampleTick samples margins s
  | .hostCopyReadTimeout => Sys2Proof.Machine.execHostCopyReadTimeout s
  | .ptpPdelayReqSend => Sys2Proof.Machine.execPtpPdelayReqSend s
  | .nppDatagramDiscard => Sys2Proof.Machine.execNppDatagramDiscard s
  | .ringControlWrite offset width val => Sys2Proof.Machine.execRingControlWrite offset width val s

end Sys2Proof.Machine
end

