-- ==== Sys2Proof/Safety.lean ====
section
/-! DEFINITION. The terms in which statements are made: what a command completes with, who may ask, and what a frame of a
command says. -/

namespace Sys2Proof.Machine

/-- The command answers a next state with this property; host memory beyond the block's writes and the queue are untouched. -/
def Completes (o : Host.Outcome State Fault Refusal) (s : State) (P : Dev → Prop) : Prop :=
  ∃ d, o = .next { s with dev := d } ∧ P d

/-- The same for a command that writes host memory: `P` speaks of the block and of that memory. -/
def CompletesMem (o : Host.Outcome State Fault Refusal) (s : State) (P : Dev → List Host.Cell → Prop) : Prop :=
  ∃ d m, o = .next { s with dev := d, mem := m } ∧ P d m

/-- Client c may write now (R368, R384, R459, R460): the host over its link outside SLEEP, the loader during a load, NPP session
c - 2 while it is open, writing is enabled and NPP is served; and verified firmware runs (R480). -/
def Asks (c : Nat) (d : Dev) : Prop :=
  c < 10 ∧ dget R.BOOT_STATE d = 2 ∧
  ((c = 0 ∧ d.host.linkUp = true ∧ powerState d ≠ 3) ∨ (c = 1 ∧ d.ldr.job.isSome = true) ∨
    (2 ≤ c ∧ powerState d ≠ 3 ∧ (sessOf d (c - 2)).isOpen = true ∧ dget R.NPP_WRITE_ENABLE d = 1))

/-- What the request of a client leaves on the block beside what it asks for: an NPP session's time of last use (R383). -/
def asked (c : Nat) (d : Dev) : Dev :=
  if c < 2 then d
  else modCtl (fun x => { x with sess := tset Sess.rest x.sess (c - 2) { sessOf d (c - 2) with lastAt := d.now } }) d

/-- The parts of the block: the fields of `Dev`. -/
inductive Part where
  | now
  | dict
  | fuses
  | pins
  | ctl
  | grid
  | pll
  | ports
  | lanes
  | chans
  | edges
  | cores
  | fab
  | enc
  | ldr
  | frames
  | trig
  | flt
  | host
  | time
  | store
  | engs
  | clus
  | ctx
  | lnk
  | pwr
  | sec
  | sys
  | undef
  | freeCtr
deriving DecidableEq, Repr

/-- A part is the same in two blocks. -/
def Part.same : Part → Dev → Dev → Prop
  | .now, a, b => b.now = a.now
  | .dict, a, b => b.dict = a.dict
  | .fuses, a, b => b.fuses = a.fuses
  | .pins, a, b => b.pins = a.pins
  | .ctl, a, b => b.ctl = a.ctl
  | .grid, a, b => b.grid = a.grid
  | .pll, a, b => b.pll = a.pll
  | .ports, a, b => b.ports = a.ports
  | .lanes, a, b => b.lanes = a.lanes
  | .chans, a, b => b.chans = a.chans
  | .edges, a, b => b.edges = a.edges
  | .cores, a, b => b.cores = a.cores
  | .fab, a, b => b.fab = a.fab
  | .enc, a, b => b.enc = a.enc
  | .ldr, a, b => b.ldr = a.ldr
  | .frames, a, b => b.frames = a.frames
  | .trig, a, b => b.trig = a.trig
  | .flt, a, b => b.flt = a.flt
  | .host, a, b => b.host = a.host
  | .time, a, b => b.time = a.time
  | .store, a, b => b.store = a.store
  | .engs, a, b => b.engs = a.engs
  | .clus, a, b => b.clus = a.clus
  | .ctx, a, b => b.ctx = a.ctx
  | .lnk, a, b => b.lnk = a.lnk
  | .pwr, a, b => b.pwr = a.pwr
  | .sec, a, b => b.sec = a.sec
  | .sys, a, b => b.sys = a.sys
  | .undef, a, b => (b.undef, b.undefNew) = (a.undef, a.undefNew)
  | .freeCtr, a, b => b.freeCtr = a.freeCtr

/-- From block a to block b only the listed parts may change: the frame of a command. -/
def ChangesOnly (ps : List Part) (a b : Dev) : Prop := ∀ p, p ∉ ps → p.same a b

/-- The last fault or event reported is this one: what the block shows of it is free while an undefined use is in force (R15). -/
def LastFault (code : Nat) (d : Dev) : Prop := d.undef = false → dget R.LAST_FAULT_CODE d = code

/-- The entries that a report of class T, P or of an event may write (R430, Table 18.14). -/
def reportKeys : List Nat :=
  [R.FAULTS_T.key, R.FAULTS_P.key, R.LAST_FAULT_CODE.key, R.LAST_FAULT_FRAME.key, R.EVENTS_SUPPRESSED.key, R.FAULT_ACTIVE.key]

/-- The entries that follow the presence of ports while the array is not armed (R28, R33). -/
def presenceKeys : List Nat := [R.FE_PRESENT.key, R.CLOCK_REF_PORT.key, R.CLOCK_STATE.key]

/-- LANE_STATE of the four lanes of a port. -/
def laneStateKeys (p : Nat) : List Nat := (List.range 4).map (fun i => (R.LANE_STATE (4 * p + i)).key)

/-- Every dictionary entry outside a list of numbers reads as before. -/
def SameEntriesBut (ks : List Nat) (a b : Dev) : Prop := ∀ r : Reg, r.key ∉ ks → dget r b = dget r a

end Sys2Proof.Machine
end

