-- ==== Sys2Proof/Certificates/Slice0/Obligations.lean ====
section
/-! DEFINITION. The statements for the provers: what each command does and leaves alone, in the terms of Safety.lean, and what
holds of every step. -/

open Sys2Proof Sys2Proof.Machine

/-- The channels of port p are absent: their flags read 0 from now on, and no other channel changes (R65, R92, R283). -/
def ChannelsGone (p : Nat) (a d : Dev) : Prop :=
  (∀ c w x, c / 64 = p → a.now ≤ x → flagBit (chanOf d c) w x = false) ∧ (∀ c, c / 64 ≠ p → chanOf d c = chanOf a c)

/-- A retrain of a lane has begun: counted, its port taken out of service, the cause reported (R67, R68, Table 3.6). -/
def RetrainBegun (lane cause : Nat) (a d : Dev) : Prop :=
  dget (R.LANE_RETRAINS lane) d = satAdd32 (dget (R.LANE_RETRAINS lane) a) 1 ∧ dget (R.FE_STATE (lane / 4)) d = 7 ∧
  portOf d (lane / 4) = { portOf a (lane / 4) with
    presentFrom := none, retrainAt := some d.now, retrainLane := lane, retrainCause := cause
    fesyncN := decide ((portOf a (lane / 4)).profile = 0x0C) } ∧
  (∀ q, q ≠ lane / 4 → portOf d q = portOf a q) ∧
  laneOf d lane = { laneOf a lane with cleanFrom := none, errs := [] } ∧ (∀ l, l ≠ lane → laneOf d l = laneOf a l) ∧
  (∀ i, i < 4 → dget (R.PRBS_MODE (4 * (lane / 4) + i)) a = 0 →
    dget (R.LANE_STATE (4 * (lane / 4) + i)) d = if laneUsed a (lane / 4) i then 3 else 0) ∧
  LastFault 0x1141 d ∧ ChannelsGone (lane / 4) { a with now := d.now } d

/-- The entries that the retrain of a lane may write. -/
def retrainKeys (lane : Nat) : List Nat :=
  (R.LANE_RETRAINS lane).key :: (R.FE_STATE (lane / 4)).key :: laneStateKeys (lane / 4) ++ presenceKeys ++ reportKeys

/-- PRESENT_N falling on a watched port starts step 1 of Table 3.3; a good descriptor takes the port to TRAINING with what it
declares; no answer, or no lock, refuses it with its reason; lock takes it to ALIGNED, or to ALIGNING while the array runs;
PRESENT_N rising empties it; PORT_REINSTATE starts discovery afresh. Every other port, and all else, stays as it was. -/
def Obligations.FrontEndDiscovery : Prop :=
  (∀ (p : Nat) (s : State), p < 16 → (portOf s.dev p).presentN = true → (portOf s.dev p).held = false → portWatched s.dev p = true →
    dget R.POWER_STATE s.dev = 0 → dget R.POWER_TRANSITION s.dev = 0 →
    Completes (exec (.presentNFall p) s) s fun d =>
      dget (R.FE_STATE p) d = 1 ∧ dget (R.FE_REFUSE_REASON p) d = 0 ∧
      portOf d p = { portOf s.dev p with presentN := false, fellAt := some s.dev.now, held := false, kept := 0, presentFrom := none, retrainAt := none, fesyncN := true, sysAt := none, sysPer := 0 } ∧
      (∀ q, q ≠ p → portOf d q = portOf s.dev q) ∧
      SameEntriesBut ((R.FE_STATE p).key :: (R.FE_REFUSE_REASON p).key :: laneStateKeys p ++ presenceKeys) s.dev d ∧
      ChangesOnly [.dict, .ports] s.dev d) ∧
  (∀ (p t : Nat) (desc : List Nat) (s : State), p < 16 → desc.length = 256 → (∀ b ∈ desc, b < 256) → (portOf s.dev p).fellAt = some t →
    descGood desc = true → descSupported desc = true → descWanted s.dev p desc = true → descCompiled s.dev p desc = true →
    Completes (exec (.discoveryDebounceDone p desc) s) s fun d =>
      dget (R.FE_STATE p) d = 3 ∧ dget (R.FE_DESCRIPTOR p) d = ofBytes desc ∧ d.now = max (t + 10 * acPerMs) s.dev.now ∧
      (portOf d p).fellAt = none ∧ (portOf d p).rate = bits (descWord desc 3) 31 0 / 50000 ∧
      (portOf d p).lanes = bits (descWord desc 2) 51 48 ∧ (portOf d p).chans = bits (descWord desc 2) 47 40 ∧
      (portOf d p).profile = bits (descWord desc 2) 63 56 ∧
      (∀ q, q ≠ p → portOf d q = portOf s.dev q) ∧
      SameEntriesBut ((R.FE_STATE p).key :: (R.FE_DESCRIPTOR p).key :: laneStateKeys p ++ presenceKeys) s.dev d ∧
      ChangesOnly [.now, .time, .dict, .ports] s.dev d) ∧
  (∀ (p : Nat) (s : State), p < 16 → dget (R.FE_STATE p) s.dev = 3 →
    Completes (exec (.discoveryTimeout p) s) s fun d =>
      dget (R.FE_STATE p) d = 2 ∧ dget (R.FE_REFUSE_REASON p) d = 9 ∧ (portOf d p).presentFrom = none ∧
      LastFault (if armed s.dev = true ∧ dget R.CLOCK_REF_PORT s.dev = p then 0x1182 else 0x0185) d ∧
      (∀ q, q ≠ p → portOf d q = portOf s.dev q) ∧
      SameEntriesBut ((R.FE_STATE p).key :: (R.FE_REFUSE_REASON p).key :: laneStateKeys p ++ presenceKeys ++ reportKeys) s.dev d ∧
      ChangesOnly [.dict, .ports, .host, .flt] s.dev d) ∧
  (∀ (p t : Nat) (s : State), p < 16 → dget (R.FE_STATE p) s.dev = 1 → (portOf s.dev p).fellAt = some t →
    Completes (exec (.discoveryTimeout p) s) s fun d =>
      dget (R.FE_STATE p) d = 2 ∧ dget (R.FE_REFUSE_REASON p) d = 7 ∧ d.now = max (t + 11 * acPerMs) s.dev.now ∧
      ChangesOnly [.now, .time, .dict, .ports, .host, .flt] s.dev d) ∧
  (∀ (p : Nat) (ppm : Int) (s : State), p < 16 → dget (R.FE_STATE p) s.dev = 3 ∨ dget (R.FE_STATE p) s.dev = 7 → portTested s.dev p = false →
    Completes (exec (.laneLockDone p true ppm) s) s fun d =>
      dget (R.FE_STATE p) d = (if running s.dev then 5 else 4) ∧ tget 0 d.pll.ppm p = ppm ∧
      portOf d p = { portOf s.dev p with retrainAt := none, fesyncN := true } ∧ (∀ q, q ≠ p → portOf d q = portOf s.dev q) ∧
      (∀ i, i < 4 → dget (R.LANE_STATE (4 * p + i)) d = if laneUsed s.dev p i then 2 else 0) ∧
      (∀ i, i < 4 → (laneOf d (4 * p + i)).cleanFrom =
        if laneUsed s.dev p i = true ∧ dget (R.LANE_RETRAINS (4 * p + i)) s.dev ≠ 0 then some s.dev.now
        else (laneOf s.dev (4 * p + i)).cleanFrom) ∧
      (∀ l, l / 4 ≠ p → laneOf d l = laneOf s.dev l) ∧
      SameEntriesBut ((R.FE_STATE p).key :: laneStateKeys p ++ presenceKeys) s.dev d ∧ ChangesOnly [.dict, .ports, .lanes, .pll, .flt] s.dev d) ∧
  (∀ (p : Nat) (s : State), p < 16 → (portOf s.dev p).presentN = false → portWatched s.dev p = true →
    Completes (exec (.presentNRise p) s) s fun d =>
      dget (R.FE_STATE p) d = 0 ∧
      portOf d p = { portOf s.dev p with
        presentN := true, roseAt := some s.dev.now, held := decide (dget (R.FE_STATE p) s.dev = 2), presentFrom := none
        fellAt := none, retrainAt := none, fesyncN := true } ∧
      (∀ q, q ≠ p → portOf d q = portOf s.dev q) ∧ ChannelsGone p s.dev d ∧
      SameEntriesBut ((R.FE_STATE p).key :: laneStateKeys p ++ presenceKeys ++ reportKeys) s.dev d ∧
      ChangesOnly [.dict, .ports, .chans, .frames, .host, .flt] s.dev d) ∧
  (∀ (p : Nat) (s : State), p < 16 → Asks 0 s.dev → dget (R.PORT_ENABLE p) s.dev = 1 → (portOf s.dev p).presentN = false →
    portWatched s.dev p = true →
    Completes (exec (.portReinstate 0 p) s) s fun d =>
      dget (R.FE_STATE p) d = 1 ∧ dget (R.FE_REFUSE_REASON p) d = 0 ∧
      portOf d p = { portOf s.dev p with fellAt := some s.dev.now, held := false, kept := 0, presentFrom := none, retrainAt := none, fesyncN := true, sysAt := none, sysPer := 0 } ∧
      (∀ q, q ≠ p → portOf d q = portOf s.dev q) ∧ ChannelsGone p s.dev d ∧
      SameEntriesBut ((R.FE_STATE p).key :: (R.FE_REFUSE_REASON p).key :: laneStateKeys p ++ presenceKeys ++ reportKeys) s.dev d ∧
      ChangesOnly [.dict, .ports, .chans, .frames, .host, .flt] s.dev d)

/-- A code error on a lane that is up is counted, and under the limit that is all; loss of sync, loss of CDR lock, a release margin
outside its bounds and a failed attempt start a retrain, while fewer than three attempts have been made in the episode; otherwise
the lane and its port are retired; 60 s without a retrain end the episode. -/
def Obligations.LaneErrorsRetrain : Prop :=
  (∀ (lane u : Nat) (s : State), lane < 64 → u < 2 ^ 64 → dget (R.LANE_STATE lane) s.dev = 2 →
    ((laneOf s.dev lane).errs.filter (fun t => decide (s.dev.now - t < acPerMs))).length < dget R.RETRAIN_ERROR_LIMIT s.dev →
    Completes (exec (.laneCodeError lane u) s) s fun d =>
      dget (R.LANE_CODE_ERRORS lane) d = satAdd32 (dget (R.LANE_CODE_ERRORS lane) s.dev) 1 ∧
      (laneOf d lane).errs = s.dev.now :: (laneOf s.dev lane).errs.filter (fun t => decide (s.dev.now - t < acPerMs)) ∧
      (∀ l, l ≠ lane → laneOf d l = laneOf s.dev l) ∧
      SameEntriesBut [(R.LANE_CODE_ERRORS lane).key] s.dev d ∧ ChangesOnly [.dict, .lanes, .frames] s.dev d) ∧
  (∀ (lane u : Nat) (s : State), lane < 64 → u < 2 ^ 64 → dget (R.LANE_STATE lane) s.dev = 5 →
    Completes (exec (.laneCodeError lane u) s) s fun d =>
      dget (R.PRBS_ERRORS lane) d = satAdd32 (dget (R.PRBS_ERRORS lane) s.dev) 1 ∧
      SameEntriesBut [(R.PRBS_ERRORS lane).key] s.dev d ∧ ChangesOnly [.dict] s.dev d) ∧
  (∀ (lane : Nat) (s : State), lane < 64 → laneUp s.dev lane = true → dget (R.LANE_RETRAINS lane) s.dev < 3 →
    Completes (exec (.laneSyncLoss lane) s) s (fun d => RetrainBegun lane 2 s.dev d ∧ SameEntriesBut (retrainKeys lane) s.dev d ∧
      ChangesOnly [.dict, .ports, .lanes, .chans, .frames, .host, .flt] s.dev d) ∧
    Completes (exec (.cdrLossOfLock lane) s) s (fun d => RetrainBegun lane 4 s.dev d ∧ SameEntriesBut (retrainKeys lane) s.dev d ∧
      ChangesOnly [.dict, .ports, .lanes, .chans, .frames, .host, .flt] s.dev d)) ∧
  (∀ (lane : Nat) (margin : Int) (s : State), lane < 64 → margin < 4 ∨ 480 < margin → -32768 ≤ margin → margin < 32767 →
    laneUp s.dev lane = true → dget (R.LANE_RETRAINS lane) s.dev < 3 → margin < sgn 16 (dget (R.LANE_MARGIN lane) s.dev) →
    Completes (exec (.releaseMarginViolation lane margin) s) s fun d =>
      RetrainBegun lane 3 s.dev d ∧ dget (R.LANE_MARGIN lane) d = unsgn 16 margin ∧
      SameEntriesBut ((R.LANE_MARGIN lane).key :: retrainKeys lane) s.dev d ∧
      ChangesOnly [.dict, .ports, .lanes, .chans, .frames, .host, .flt] s.dev d) ∧
  (∀ (p t lane cause : Nat) (s : State), p < 16 → (portOf s.dev p).retrainAt = some t → (portOf s.dev p).retrainLane = lane →
    (portOf s.dev p).retrainCause = cause → dget (R.LANE_RETRAINS lane) s.dev < 3 →
    Completes (exec (.retrainTimeout p) s) s fun d =>
      RetrainBegun lane cause s.dev d ∧ d.now = max (t + 10 * acPerMs + sysrefPeriod s.dev p) s.dev.now ∧
      SameEntriesBut (retrainKeys lane) s.dev d ∧ ChangesOnly [.now, .time, .dict, .ports, .lanes, .chans, .frames, .host, .flt] s.dev d) ∧
  (∀ (p lane cause : Nat) (s : State), p < 16 → dget (R.FE_STATE p) s.dev = 7 → (portOf s.dev p).retrainLane = lane → lane / 4 = p →
    (portOf s.dev p).retrainCause = cause → dget (R.LANE_RETRAINS lane) s.dev < 3 →
    Completes (exec (.discoveryTimeout p) s) s fun d =>
      RetrainBegun lane cause s.dev d ∧ d.now = s.dev.now ∧ SameEntriesBut (retrainKeys lane) s.dev d ∧
      ChangesOnly [.dict, .ports, .lanes, .chans, .frames, .host, .flt] s.dev d) ∧
  (∀ (lane : Nat) (s : State), lane < 64 → laneUp s.dev lane = true → 3 ≤ dget (R.LANE_RETRAINS lane) s.dev →
    Completes (exec (.laneSyncLoss lane) s) s fun d =>
      dget (R.FE_STATE (lane / 4)) d = 8 ∧ dget (R.LANE_STATE lane) d = 4 ∧ dget (R.LANE_RETRAINS lane) d = dget (R.LANE_RETRAINS lane) s.dev ∧
      (portOf d (lane / 4)).presentFrom = none ∧ (portOf d (lane / 4)).retiredLane = lane ∧ ChannelsGone (lane / 4) s.dev d ∧
      ChangesOnly [.dict, .ports, .chans, .frames, .host, .flt] s.dev d) ∧
  (∀ (lane t : Nat) (s : State), lane < 64 → laneUp s.dev lane = true → (laneOf s.dev lane).cleanFrom = some t →
    Completes (exec (.retrainEpisodeEnd lane) s) s fun d =>
      dget (R.LANE_RETRAINS lane) d = 0 ∧ laneOf d lane = { laneOf s.dev lane with cleanFrom := none } ∧
      d.now = max (t + 60 * acPerS) s.dev.now ∧ (∀ l, l ≠ lane → laneOf d l = laneOf s.dev l) ∧
      SameEntriesBut [(R.LANE_RETRAINS lane).key] s.dev d ∧ ChangesOnly [.now, .time, .dict, .lanes] s.dev d)

/-- An in-band interrupt is counted and reported, nothing else; the eye monitor writes its two readings, and a reading below its
warning level is counted; adaptation moves by its step while it is not held; ADAPT_HOLD is refused while TEST_EN is low (0xA00F);
PRBS_MODE puts the lane in test, and 0 on a lane that is not leaves the port as it is; INJECT_RATE of 1 comes back as 0 with one error injected. -/
def Obligations.LaneMonitorsAndTests : Prop :=
  (∀ (p b : Nat) (s : State), p < 16 → b < 256 →
    Completes (exec (.ibi p b) s) s fun d =>
      dget (R.IBI_COUNT p) d = satAdd32 (dget (R.IBI_COUNT p) s.dev) 1 ∧ LastFault 0x0184 d ∧
      SameEntriesBut ((R.IBI_COUNT p).key :: reportKeys) s.dev d ∧ ChangesOnly [.dict, .host, .flt] s.dev d) ∧
  (∀ (lane h w : Nat) (s : State), lane < 64 → h < 65536 → w < 256 →
    Completes (exec (.marginUpdate lane h w) s) s fun d =>
      dget (R.LANE_EYE_HEIGHT lane) d = h ∧ dget (R.LANE_EYE_WIDTH lane) d = w ∧
      (laneUp s.dev lane = true → h < dget R.MARGIN_WARN_HEIGHT s.dev ∨ w < dget R.MARGIN_WARN_WIDTH s.dev →
        dget (R.LANE_MARGIN_EVENTS lane) d = satAdd32 (dget (R.LANE_MARGIN_EVENTS lane) s.dev) 1) ∧
      (dget R.MARGIN_WARN_HEIGHT s.dev ≤ h → dget R.MARGIN_WARN_WIDTH s.dev ≤ w →
        SameEntriesBut [(R.LANE_EYE_HEIGHT lane).key, (R.LANE_EYE_WIDTH lane).key] s.dev d ∧ ChangesOnly [.dict] s.dev d) ∧
      SameEntriesBut ((R.LANE_EYE_HEIGHT lane).key :: (R.LANE_EYE_WIDTH lane).key :: (R.LANE_MARGIN_EVENTS lane).key :: reportKeys) s.dev d ∧
      ChangesOnly [.dict, .host, .flt] s.dev d) ∧
  (∀ (lane : Nat) (delta : Int) (s : State), lane < 64 → -64 ≤ delta → delta ≤ 64 → laneUp s.dev lane = true →
    dget (R.ADAPT_HOLD lane) s.dev = 0 → (∀ t, (laneOf s.dev lane).adaptAt = some t → t + 10 * acPerUs ≤ s.dev.now) →
    Completes (exec (.adaptUpdate lane delta) s) s fun d =>
      (laneOf d lane).adapt = (laneOf s.dev lane).adapt + delta ∧ (laneOf d lane).adaptAt = some s.dev.now ∧
      (∀ l, l ≠ lane → laneOf d l = laneOf s.dev l) ∧ ChangesOnly [.lanes] s.dev d) ∧
  (∀ (lane : Nat) (delta : Int) (s : State), lane < 64 → -64 ≤ delta → delta ≤ 64 → dget (R.ADAPT_HOLD lane) s.dev = 1 →
    exec (.adaptUpdate lane delta) s = .next s) ∧
  (∀ (c lane v : Nat) (s : State), Asks c s.dev → lane < 64 → v < 2 → s.dev.pins.testEn = true →
    Completes (exec (.adaptHold c lane v) s) s fun d =>
      dget (R.ADAPT_HOLD lane) d = v ∧ SameEntriesBut [(R.ADAPT_HOLD lane).key] s.dev d ∧ ChangesOnly [.dict] (asked c s.dev) d) ∧
  (∀ (lane v : Nat) (s : State), Asks 0 s.dev → lane < 64 → v < 2 → s.dev.pins.testEn = false →
    Completes (exec (.adaptHold 0 lane v) s) s fun d =>
      d.ctl.abortCount = satAdd32 s.dev.ctl.abortCount 1 ∧ d.ctl.lastAbort % 2 ^ 16 = 0xA00F ∧ SameEntriesBut [] s.dev d ∧ ChangesOnly [.ctl] s.dev d) ∧
  (∀ (c lane v : Nat) (s : State), Asks c s.dev → lane < 64 → 1 ≤ v → v < 6 → ownerRuns s.dev .lanePort (R.PRBS_MODE lane).key = false →
    Completes (exec (.prbsMode c lane v) s) s fun d =>
      dget (R.PRBS_MODE lane) d = v ∧ dget (R.PRBS_ERRORS lane) d = 0 ∧ dget (R.LANE_STATE lane) d = 5 ∧
      (portOf d (lane / 4)).presentFrom = none ∧ (∀ q, q ≠ lane / 4 → portOf d q = portOf s.dev q) ∧
      SameEntriesBut ((R.PRBS_MODE lane).key :: (R.PRBS_ERRORS lane).key :: (R.FE_STATE (lane / 4)).key :: laneStateKeys (lane / 4) ++ presenceKeys)
        s.dev d ∧
      ChannelsGone (lane / 4) s.dev d ∧ ChangesOnly [.dict, .ports, .chans, .frames] (asked c s.dev) d) ∧
  (∀ (c lane v : Nat) (s : State), Asks c s.dev → lane < 64 → v = 0 ∨ (10 ≤ v ∧ v ≤ 40) → s.dev.pins.testEn = true →
    Completes (exec (.injectRate c lane v) s) s fun d =>
      dget (R.INJECT_RATE lane) d = v ∧ SameEntriesBut [(R.INJECT_RATE lane).key] s.dev d ∧ ChangesOnly [.dict] (asked c s.dev) d) ∧
  (∀ (c lane : Nat) (s : State), Asks c s.dev → lane < 64 → s.dev.pins.testEn = true → dget (R.LANE_STATE lane) s.dev = 5 →
    Completes (exec (.injectRate c lane 1) s) s fun d =>
      dget (R.INJECT_RATE lane) d = 0 ∧ dget (R.PRBS_ERRORS lane) d = satAdd32 (dget (R.PRBS_ERRORS lane) s.dev) 1 ∧
      SameEntriesBut [(R.INJECT_RATE lane).key, (R.PRBS_ERRORS lane).key] s.dev d ∧ ChangesOnly [.dict] (asked c s.dev) d) ∧
  (∀ (c lane : Nat) (s : State), Asks c s.dev → lane < 64 → dget (R.LANE_STATE lane) s.dev ≠ 5 →
    ownerRuns s.dev .lanePort (R.PRBS_MODE lane).key = false →
    Completes (exec (.prbsMode c lane 0) s) s fun d =>
      dget (R.PRBS_MODE lane) d = 0 ∧ dget (R.PRBS_ERRORS lane) d = 0 ∧
      SameEntriesBut [(R.PRBS_MODE lane).key, (R.PRBS_ERRORS lane).key] s.dev d ∧ ChangesOnly [.dict] (asked c s.dev) d)

/-- The cut-off of frame g latches what has been accepted, the due groups and the settings forwarded for it, and moves on to g + 1; B_n
of any frame whose predecessor's growth ring has passed closes the fingerprint of frame n - 1, which can be read from E_(n - 1) + 64
ac on (R265), and marks a paused frame; the growth ring of a frame takes its stamp of time and the phases of the ports, keeps the
settings in force for the frame and takes up the unlatches that wait, and one at which a stop waits ends the grid; a core that the
marker passes runs the frame's context (at a stop: log entry 8), and no other core changes. -/
def Obligations.FrameGridEvents : Prop :=
  (∀ (s : State), running s.dev = true →
    Completes (exec .dictCutoff s) s fun d =>
      let g := s.dev.grid.nextC
      let due := s.dev.ctl.groups.filter (fun e => decide (e.2.st = 2 ∧ e.2.due ≤ g) && !e.2.latched)
      let fwd := s.dev.lnk.dictIn.filter (fun f => decide (f.frame ≤ g))
      d.grid = { s.dev.grid with nextC := g + 1 } ∧ d.now = max (cutAt s.dev g) s.dev.now ∧ d.ctl.rwlNew = s.dev.lnk.hold ∧
      d.lnk = { s.dev.lnk with hold := [], dictIn := s.dev.lnk.dictIn.filter (fun f => decide (g < f.frame)) } ∧
      (∀ k, (∀ e ∈ due, k ∉ (groupVals e.1 e.2).map Prod.fst) → (∀ f ∈ fwd, k ∉ (fwdVals f).map Prod.fst) →
        tget none d.ctl.rwlLatched k =
          if (tget none s.dev.ctl.rwlNew k).isSome then tget none s.dev.ctl.rwlNew k else tget none s.dev.ctl.rwlLatched k) ∧
      (∀ e ∈ due, ∀ k ∈ (groupVals e.1 e.2).map Prod.fst, (tget none d.ctl.rwlLatched k).isSome = true) ∧
      (∀ f ∈ fwd, ∀ k ∈ (fwdVals f).map Prod.fst, (tget none d.ctl.rwlLatched k).isSome = true) ∧
      (∀ e ∈ s.dev.ctl.groups, (if e.2.st = 2 ∧ e.2.due ≤ g then (e.1, { e.2 with latched := true }) else e) ∈ d.ctl.groups) ∧
      d.ctl.groups.length = s.dev.ctl.groups.length ∧
      SameEntriesBut [] s.dev d ∧ ChangesOnly [.now, .time, .ctl, .lnk, .grid] s.dev d) ∧
  (∀ (s : State), running s.dev = true → s.dev.grid.nextT = s.dev.grid.nextB →
    Completes (exec .frameBoundary s) s fun d =>
      let n := s.dev.grid.nextB
      d.grid = { s.dev.grid with nextB := n + 1, fpNext := if n = 0 then s.dev.grid.fpNext else some (n - 1, eAt s.dev (n - 1) + 64) } ∧
      d.now = max (bAt s.dev n) s.dev.now ∧
      (frameOf d n).lost = s.dev.flt.losing ∧ (frameOf d n).ringB = (s.dev.ctx.ringBase + n - s.dev.ctx.skipped) * fLen s.dev ∧
      (pausing s.dev n = true → (frameOf d n).paused = true) ∧
      (n ≠ 0 → (frameOf d (n - 1)).fpDigest = some (fingerprint s.dev (frameOf s.dev (n - 1)).fpMask)) ∧
      (∀ m t, n ≠ 0 → s.dev.grid.fpNext = some (m, t) → dget R.LAST_FP_FRAME d = m ∧ dget R.LAST_FINGERPRINT d = (frameOf s.dev m).fpDigest.getD 0) ∧
      (∀ k, k ≠ n → k + 1 ≠ n → frameOf d k = frameOf s.dev k) ∧
      SameEntriesBut [R.LAST_FP_FRAME.key, R.LAST_FINGERPRINT.key] s.dev d ∧
      ChangesOnly [.now, .time, .dict, .grid, .frames, .chans, .lnk, .ctx, .edges, .trig] s.dev d) ∧
  (∀ (c n y t : Nat) (d : Dev), d.grid.fpNext = some (n, t) → (frameOf d n).fpDigest = some y →
    readEntry c 0x3060 3 d = .ok (if t ≤ d.now then y else dget R.LAST_FINGERPRINT d, 16) ∧
    readEntry c 0x3060 4 d = .ok (if t ≤ d.now then n else dget R.LAST_FP_FRAME d, 8)) ∧
  (∀ (phi : List Int) (bad : List Nat) (s : State), (∀ x ∈ phi, -32768 ≤ x ∧ x < 32768) → (∀ l ∈ bad, l < 256) → running s.dev = true →
    s.dev.grid.nextT < s.dev.grid.nextB → s.dev.grid.stopReq = false →
    Completes (exec (.growthRing phi bad) s) s fun d =>
      let n := s.dev.grid.nextT
      d.grid.nextT = n + 1 ∧ d.now = max (t0At s.dev n) s.dev.now ∧
      (∀ p, p < 16 → dget (R.TDC_PHASE p) d = unsgn 16 (phi.getD p 0)) ∧
      (frameOf d n).seen = true ∧ (frameOf d n).ctx = dget R.CURRENT_CONTEXT d ∧ (frameOf d n).audit = dget R.AUDIT_ENABLE d ∧
      ((frameOf d n).lost = false → d.ctl.rwlLatched = []) ∧
      d.trig.unlatchNew = 0 ∧ (∀ k, k < 32 → bit s.dev.trig.unlatchNew k = true → tget none d.trig.unlatch k = some n)) ∧
  (∀ (phi : List Int) (bad : List Nat) (s : State), (∀ x ∈ phi, -32768 ≤ x ∧ x < 32768) → (∀ l ∈ bad, l < 256) → running s.dev = true →
    s.dev.grid.nextT < s.dev.grid.nextB → s.dev.grid.stopReq = true →
    Completes (exec (.growthRing phi bad) s) s fun d =>
      d.grid.endF = some s.dev.grid.nextT ∧ d.grid.stopReq = false ∧ d.grid.nextT = s.dev.grid.nextT ∧
      d.now = max (t0At s.dev s.dev.grid.nextT) s.dev.now) ∧
  (∀ (core x y : Nat) (s : State), core < 51200 → core % 256 < 128 → actsAs s.dev core = some (x, y) → s.dev.grid.nextT ≠ 0 → coresOn s.dev = true →
    (coreOf s.dev core).lastRing ≠ some (s.dev.grid.endF.getD (curFrame s.dev)) →
    Completes (exec (.growthRingAtCore core) s) s fun d =>
      let g := s.dev.grid.endF.getD (curFrame s.dev)
      (coreOf d core).lastRing = some g ∧
      (coreOf d core).ctx = (if s.dev.grid.endF.isSome then (coreOf s.dev core).ctx else (frameOf s.dev g).ctx) ∧
      d.now = max (t0At s.dev g + markerDelay s.dev x y) s.dev.now ∧ (∀ k, k ≠ core → coreOf d k = coreOf s.dev k))

/-- A SYSREF edge aligns a port that waits for one to the first frame whose B lies at or after it; one off the grid is counted; the
relock of the array clock ends in LOCKED; a new TDC table waits for the growth ring; an edge input is timed and delayed, and enters no
condition in a paused frame; a parity
error of a channel clears its state at the next growth ring, and the third within a second retires the channel. -/
def Obligations.ClocksAndEdges : Prop :=
  (∀ (p t : Nat) (m : Int) (s : State), p < 16 → -128 ≤ m → m < 128 → running s.dev = true → dget (R.FE_STATE p) s.dev = 5 →
    (portOf s.dev p).presentFrom = none → (portOf s.dev p).phase = none → (t - s.dev.grid.edge) % 24 = 0 →
    Completes (exec (.sysrefEdge p t m) s) s fun d =>
      (portOf d p).presentFrom = some ((t - s.dev.grid.b0 + fLen s.dev - 1) / fLen s.dev) ∧ (portOf d p).phase = some m ∧
      dget (R.SYSREF_PHASE_MARGIN p) d = unsgn 8 m ∧ d.now = max t s.dev.now ∧
      (p = dget R.CLOCK_REF_PORT s.dev → d.pll.lastEdge = some t) ∧ (∀ q, q ≠ p → portOf d q = portOf s.dev q) ∧
      (portOf d p).sysAt = some t ∧
      (∀ u, (portOf s.dev p).sysAt = some u → u < t → (portOf s.dev p).sysPer = 0 → sysrefPeriod d p = t - u) ∧
      SameEntriesBut [(R.SYSREF_PHASE_MARGIN p).key] s.dev d ∧ ChangesOnly [.now, .time, .dict, .ports, .pll] s.dev d) ∧
  (∀ (p t : Nat) (m : Int) (s : State), p < 16 → -128 ≤ m → m < 128 → running s.dev = true → (t - s.dev.grid.edge) % 24 ≠ 0 →
    Completes (exec (.sysrefEdge p t m) s) s fun d =>
      dget R.SYSREF_MISPLACED d = satAdd32 (dget R.SYSREF_MISPLACED s.dev) 1 ∧ LastFault 0x0181 d ∧
      SameEntriesBut (R.SYSREF_MISPLACED.key :: (R.SYSREF_PHASE_MARGIN p).key :: reportKeys) s.dev d ∧
      ChangesOnly [.now, .time, .dict, .ports, .pll, .host, .flt] s.dev d) ∧
  (∀ (s : State), dget R.CLOCK_REF_PORT s.dev ≠ 0xFF →
    Completes (exec .clockRelockDone s) s fun d =>
      dget R.CLOCK_STATE d = 1 ∧ d.pll = { s.dev.pll with off := tget 0 s.dev.pll.ppm (dget R.CLOCK_REF_PORT s.dev) } ∧
      SameEntriesBut [R.CLOCK_STATE.key] s.dev d ∧ ChangesOnly [.dict, .pll] s.dev d) ∧
  (∀ (s : State), dget R.CLOCK_REF_PORT s.dev = 0xFF → exec .clockRelockDone s = .next s) ∧
  (∀ (die : Nat) (s : State), die < 2 →
    Completes (exec (.tdcCalTable die) s) s fun d => d.pll = { s.dev.pll with calDue := setBit s.dev.pll.calDue die true } ∧ ChangesOnly [.pll] s.dev d) ∧
  (∀ (k t : Nat) (rising : Bool) (s : State), k < 32 → running s.dev = true → s.dev.grid.edge ≤ t / 256 →
    dget (R.EDGE_CONFIG k) s.dev = (if rising then 1 else 2) ∨ dget (R.EDGE_CONFIG k) s.dev = 3 →
    (∀ u, (tget EdgeIn.rest s.dev.edges k).lastAt = some u → 1024 ≤ t - u) →
    (frameOf s.dev ((t - s.dev.grid.b0 * 256) / (fLen s.dev * 256))).paused = false →
    Completes (exec (.edgeInput k rising t) s) s fun d =>
      let old := tget EdgeIn.rest s.dev.edges k
      let e := tget EdgeIn.rest d.edges k
      let at0 := t / 256 + 64 + dget (R.EDGE_DELAY k) s.dev
      let n := (t - s.dev.grid.b0 * 256) / (fLen s.dev * 256)
      e.lastAt = some t ∧ e.close = false ∧ e.bits = (at0 :: old.bits).take 4096 ∧ e.rises.tail = old.rises.take 4095 ∧
      e.rises.head?.map (fun r => (r.seen, r.frame, r.pend)) = some (at0, n, false) ∧
      e.rises.head?.map (fun r => r.t) = some ((t : Int) - (s.dev.grid.b0 * 256 + n * (fLen s.dev * 256) : Nat)) ∧
      e.origin = (if edgeAt old.bits (dget (R.EDGE_WINDOW k) s.dev) (at0 - 1) then old.origin else e.rises.head?) ∧
      d.now = max (t / 256) s.dev.now ∧
      (∀ j, j ≠ k → tget EdgeIn.rest d.edges j = tget EdgeIn.rest s.dev.edges j) ∧ ChangesOnly [.now, .time, .edges] s.dev d) ∧
  (∀ (k t : Nat) (rising : Bool) (s : State), k < 32 → running s.dev = true → s.dev.grid.edge ≤ t / 256 →
    dget (R.EDGE_CONFIG k) s.dev = (if rising then 1 else 2) ∨ dget (R.EDGE_CONFIG k) s.dev = 3 →
    (∀ u, (tget EdgeIn.rest s.dev.edges k).lastAt = some u → 1024 ≤ t - u) →
    (frameOf s.dev ((t - s.dev.grid.b0 * 256) / (fLen s.dev * 256))).paused = true →
    Completes (exec (.edgeInput k rising t) s) s fun d =>
      tget EdgeIn.rest d.edges k = { tget EdgeIn.rest s.dev.edges k with lastAt := some t, close := false } ∧
      (∀ j, j ≠ k → tget EdgeIn.rest d.edges j = tget EdgeIn.rest s.dev.edges j) ∧ ChangesOnly [.now, .time, .edges] s.dev d) ∧
  (∀ (k t u : Nat) (rising : Bool) (s : State), k < 32 → running s.dev = true → s.dev.grid.edge ≤ t / 256 →
    dget (R.EDGE_CONFIG k) s.dev = (if rising then 1 else 2) ∨ dget (R.EDGE_CONFIG k) s.dev = 3 →
    (tget EdgeIn.rest s.dev.edges k).lastAt = some u → t - u < 1024 → (tget EdgeIn.rest s.dev.edges k).close = true →
    Completes (exec (.edgeInput k rising t) s) s fun d =>
      dget (R.EDGE_MERGED k) d = satAdd32 (dget (R.EDGE_MERGED k) s.dev) 1 ∧ SameEntriesBut [(R.EDGE_MERGED k).key] s.dev d ∧
      ChangesOnly [.dict] s.dev d) ∧
  (∀ (k t : Nat) (rising : Bool) (s : State), k < 32 → dget (R.EDGE_CONFIG k) s.dev = 0 → exec (.edgeInput k rising t) s = .next s) ∧
  (∀ (c kind : Nat) (s : State), c < 1024 → kind < 2 → (chanOf s.dev c).retired = true → exec (.condParityError c kind) s = .next s) ∧
  (∀ (c kind : Nat) (s : State), c < 1024 → kind < 2 → (chanOf s.dev c).retired = false →
    Completes (exec (.condParityError c kind) s) s fun d =>
      (chanOf d c).clearDue = true ∧
      (chanOf d c).retired = decide (3 ≤ ((chanOf s.dev c).parityAt.filter (fun t => decide (s.dev.now - t < acPerS))).length + 1) ∧
      ((chanOf d c).retired = true → (chanOf d c).flags.head? = some (s.dev.now, false) ∧ (chanOf d c).cmps = 0) ∧
      (∀ k, k ≠ c → chanOf d k = chanOf s.dev k) ∧
      SameEntriesBut reportKeys s.dev d ∧ ChangesOnly [.dict, .frames, .chans, .host, .flt] s.dev d)

/-- The ac from which a core looks for its next instruction. -/
def issueFrom (key : Nat) (d : Dev) : Nat := max d.now (match (coreOf d key).lastIssue with | some t => t + 1 | none => 0)

/-- The firing rule of core `key` chooses candidate k in ac t, and its word is of the row that `sel` picks (R113). -/
def Issues (sel : Nat → Bool) (key t : Nat) (k : Cand) (d : Dev) : Prop :=
  coreKey key = true ∧ coresOn d = true ∧ coreRuns d key = true ∧ pick (coreOf d key) (issueFrom key d) = some (t, k) ∧ sel k.word = true

/-- The same under a guard that lets it write (R119). -/
def Runs (sel : Nat → Bool) (key t : Nat) (k : Cand) (d : Dev) : Prop :=
  Issues sel key t k d ∧ guardOf (coreOf d key) k.word = .run

/-- What the operation is issued with. -/
def argsOf (key t : Nat) (k : Cand) (d : Dev) : IssueArgs :=
  ⟨k.word, k.tag, gather (coreOf d key) k, t + occOf k.word - 1 + latOf (decide (d.fuses.stepping = 0xA1)) k.word, false,
    fullFrame ((coreOf d key).lastRing.getD 0) (tagFrame k.tag), d.freeCtr⟩

/-- The token that satisfies an input of a candidate (R111). -/
def tokFor (c : Core) (k : Cand) (input : Nat) : Tok :=
  match slotFor c k.tag input with
  | some s => s.tok
  | none => ⟨0, 0, false⟩

/-- The core as a MAC operation finds it: cleared block accumulators when its instance takes the lock with it (R114). -/
def macCore (k : Cand) (c : Core) : Core := if (match k.inst with | some i => i.lock | none => false) then c else clearMac c

/-- What an operation may write in its core, beside the scheduling of the core itself. -/
inductive CorePart where
  | ar | acc | pred | sreg | mac | zero | skew | outs | mems
deriving DecidableEq, Repr

/-- A part of a core is the same in two cores. -/
def CorePart.same : CorePart → Core → Core → Prop
  | .ar, a, b => b.ar = a.ar
  | .acc, a, b => b.acc = a.acc
  | .pred, a, b => b.pred = a.pred
  | .sreg, a, b => b.sreg = a.sreg
  | .mac, a, b => b.pAcc = a.pAcc ∧ b.aSum = a.aSum ∧ b.pPoison = a.pPoison ∧ b.latch = a.latch ∧ b.blockLen = a.blockLen
  | .zero, a, b => b.zw = a.zw ∧ b.za = a.za ∧ b.zPoison = a.zPoison
  | .skew, a, b => b.resync = a.resync ∧ b.skewed = a.skewed ∧ b.skewRec = a.skewRec ∧ b.skewFrom = a.skewFrom
  | .outs, a, b => b.outs = a.outs ∧ b.egress = a.egress ∧ b.queues = a.queues ∧ b.maxQueue = a.maxQueue
  | .mems, a, b => b.prog = a.prog ∧ b.weight = a.weight ∧ b.rowTag = a.rowTag ∧ b.outRows = a.outRows ∧ b.table = a.table ∧
      b.sideTag = a.sideTag ∧ b.route = a.route ∧ b.monitor = a.monitor ∧ b.ovl = a.ovl ∧ b.ovlFrom = a.ovlFrom ∧ b.ovlHeld = a.ovlHeld ∧
      b.ctx = a.ctx ∧ b.lastRing = a.lastRing ∧ b.rr = a.rr ∧ b.lastAdmit = a.lastAdmit ∧ b.maxSlots = a.maxSlots

/-- Candidate k has issued in ac t on core `key`: the clock, the operands consumed, and all that stays. -/
def OpDone (ps : List CorePart) (qs : List Part) (ks : List Nat) (key t : Nat) (k : Cand) (a d : Dev) : Prop :=
  d.now = max t a.now ∧ (coreOf d key).lastIssue = some t ∧ (coreOf d key).slots = (consume (coreOf a key) k).slots ∧
  (∀ p, p ∉ ps → p.same (coreOf a key) (coreOf d key)) ∧ (∀ j, j ≠ key → coreOf d j = coreOf a j) ∧
  SameEntriesBut ks a d ∧ ChangesOnly ([.now, .time, .cores] ++ qs) a d

/-- A run of activation registers takes new values, and the other registers keep theirs. -/
def ArRun (key dst n : Nat) (v : Nat → PReg) (a d : Dev) : Prop :=
  (∀ j, j < n → arOf (coreOf d key) (dst + j) = v j) ∧
  (∀ i, i < dst ∨ dst + n ≤ i → arOf (coreOf d key) i = arOf (coreOf a key) i)

/-- Every operation of Table 5.5 as a command, with the words it is for. -/
def coreOps : List ((Nat → List Upset → Instr) × (Nat → Bool)) :=
  [(.nop, isOp 0x00), (.lutmac, isOp 0x01), (.omac, isOp 0x02), (.zcorr, isOp 0x03), (.bclose, isOp 0x04), (.rescale, isOp 0x05),
   (.actlut, isOp 0x06), (.stateRead, isState false), (.stateWrite, isState true), (.send, isOp 0x08), (.recv, isOp 0x09),
   (.reduce, isOp 0x0A), (.cmp, isOp 0x0B), (.sel, isOp 0x0C), (.maxp, isOp 0x0D), (.movRegisterRun, isMode 0x0E 0),
   (.movImmediate, isMode 0x0E 1), (.movClearAccumulators, isMode 0x0E 2), (.ldw, isOp 0x0F), (.waitCount, isMode 0x10 0),
   (.waitTokenPresent, isMode 0x10 1), (.waitGrowthRing, isMode 0x10 2), (.ring, isOp 0x11)]

/-- For every operation of Table 5.5 but BCLOSE: when the firing rule chooses an instruction of its row, the command issues that
instruction in that ac: the instance moves on as R112, R114 and R137 say, its operands are consumed, the watchdog starts anew and
no other core changes. When the core's next instruction is of another row, when it has none, when the core holds no logical core, or
while the clocks are gated, the command leaves the block as it is. Each word with a single-bit upset that the instruction reads adds
one to ECC_CORRECTED and nothing else; upsets in words it does not read have no effect. A double-bit upset retires the
core, and the job restarts if the core is in use. -/
def Obligations.FiringRule : Prop :=
  (∀ o ∈ coreOps, ∀ (key t : Nat) (k : Cand) (s : State), Issues o.2 key t k s.dev → opOf k.word ≠ 0x04 →
    Completes (exec (o.1 key []) s) s fun d =>
      d.now = max t s.dev.now ∧ (coreOf d key).lastIssue = some t ∧ stepInst t k ∈ (coreOf d key).insts ∧
      (coreOf d key).slots = (consume (coreOf s.dev key) k).slots ∧ (coreOf d key).wdCount = 0 ∧ (coreOf d key).wdAt = t + 1 ∧
      (∀ j, j ≠ key → coreOf d j = coreOf s.dev j)) ∧
  (∀ o ∈ coreOps, ∀ (key : Nat) (up : List Upset) (s : State), coreKey key = true →
    (coresOn s.dev = false ∨ coreRuns s.dev key = false ∨ ∀ t k, pick (coreOf s.dev key) (issueFrom key s.dev) = some (t, k) → o.2 k.word = false) →
    exec (o.1 key up) s = .next s) ∧
  (∀ o ∈ coreOps, ∀ (key t : Nat) (k : Cand) (up : List Upset) (s : State), Issues o.2 key t k s.dev → (∀ u ∈ up, u.double = false) →
    ∃ d, exec (o.1 key []) s = .next { s with dev := d } ∧
      exec (o.1 key up) s = .next { s with dev := (upsetHits (coreOf s.dev key) k up).foldl (fun d _ => bump R.ECC_CORRECTED d) d }) ∧
  (∀ o ∈ coreOps, ∀ (key t : Nat) (k : Cand) (u : Upset) (s : State), Issues o.2 key t k s.dev → key < 65536 → u.double = true →
    (sramReads (coreOf s.dev key) k).contains (u.mem, u.word) = true → s.dev.flt.dev = none → dget R.RESTART_STATE s.dev = 0 →
    Completes (exec (o.1 key [u]) s) s fun d =>
      dget R.ECC_UNCORRECTED d = satAdd32 (dget R.ECC_UNCORRECTED s.dev) 1 ∧ LastFault 0x2041 d ∧
      (key ∈ retiredSet s.dev ∨ key ∈ d.ldr.pend) ∧ (coreUsed s.dev key = true → d.flt.pending = true))

/-- NOP and the three forms of WAIT write nothing; MOV writes a register run, an immediate, or clears the accumulators of its mask
with their poison; LDW writes the four values of a table word; SEL copies the run its selector names and takes the selector's
poison; CMP writes its predicate, and p0 keeps reading 1; MAXP writes the maximum and the offset of the first one. Each leaves
every other register, accumulator, predicate and state register, every memory of the core and every other core as it was. -/
def Obligations.MovesAndWaits : Prop :=
  (∀ (key t : Nat) (k : Cand) (s : State),
    (Issues (isOp 0x00) key t k s.dev → Completes (exec (.nop key []) s) s (OpDone [] [] [] key t k s.dev)) ∧
    (Issues (isMode 0x10 0) key t k s.dev → Completes (exec (.waitCount key []) s) s (OpDone [] [] [] key t k s.dev)) ∧
    (Issues (isMode 0x10 1) key t k s.dev → Completes (exec (.waitTokenPresent key []) s) s (OpDone [] [] [] key t k s.dev)) ∧
    (Issues (isMode 0x10 2) key t k s.dev → Completes (exec (.waitGrowthRing key []) s) s (OpDone [] [] [] key t k s.dev))) ∧
  (∀ (key t : Nat) (k : Cand) (s : State), Runs (isMode 0x0E 0) key t k s.dev →
    Completes (exec (.movRegisterRun key []) s) s fun d =>
      ArRun key (bits k.word 49 45) (bits k.word 39 38 + 1) (fun j => ⟨(arOf (coreOf s.dev key) (bits k.word 44 40 + j)).v, arRunPoison (coreOf s.dev key) (bits k.word 44 40) (bits k.word 39 38 + 1)⟩) s.dev d ∧
      OpDone [.ar] [] [] key t k s.dev d) ∧
  (∀ (key t : Nat) (k : Cand) (s : State), Runs (isMode 0x0E 1) key t k s.dev →
    Completes (exec (.movImmediate key []) s) s fun d =>
      ArRun key (bits k.word 49 45) (bits k.word 39 38 + 1) (fun _ => ⟨sgn 16 (bits k.word 37 22), false⟩) s.dev d ∧
      OpDone [.ar] [] [] key t k s.dev d) ∧
  (∀ (key t : Nat) (k : Cand) (s : State), Runs (isMode 0x0E 2) key t k s.dev →
    Completes (exec (.movClearAccumulators key []) s) s fun d =>
      (∀ i, accOf (coreOf d key) i = if i < 18 ∧ bit k.word (i + 4) = true then ⟨0, false⟩ else accOf (coreOf s.dev key) i) ∧
      OpDone [.acc] [] [] key t k s.dev d) ∧
  (∀ (key t : Nat) (k : Cand) (s : State), Runs (isOp 0x0F) key t k s.dev →
    Completes (exec (.ldw key []) s) s fun d =>
      ArRun key (bits k.word 42 38) 4
        (fun j => ⟨v4 (tblWord (coreOf s.dev key) (tagCtx k.tag) (tagFrame k.tag) (bits k.word 51 43)) j, false⟩) s.dev d ∧
      OpDone [.ar] [] [] key t k s.dev d) ∧
  (∀ (key t : Nat) (k : Cand) (s : State), Issues (isOp 0x0C) key t k s.dev →
    Completes (exec (.sel key []) s) s fun d =>
      ArRun key (bits k.word 41 37) (bits k.word 36 35 + 1)
        (fun j =>
          let p := predOf (coreOf s.dev key) (prOf k.word)
          let a := arOf (coreOf s.dev key) ((if (p.v = 1) = (pnBit k.word = false) then bits k.word 51 47 else bits k.word 46 42) + j)
          ⟨a.v, a.poison || p.poison⟩) s.dev d ∧
      OpDone [.ar] [] [] key t k s.dev d) ∧
  (∀ (key t : Nat) (k : Cand) (s : State) (a b o : PReg), Runs (isOp 0x0B) key t k s.dev → a = arOf (coreOf s.dev key) (bits k.word 51 47) →
    b = (if bit k.word 41 then ⟨sgn 16 (bits k.word 32 17), false⟩ else arOf (coreOf s.dev key) (bits k.word 46 42)) →
    o = predOf (coreOf s.dev key) (bits k.word 40 38) → bits k.word 34 33 < 3 →
    Completes (exec (.cmp key []) s) s fun d =>
      predOf (coreOf d key) (bits k.word 40 38) =
        (if bits k.word 40 38 = 0 then ⟨1, false⟩
         else
          ⟨if (bits k.word 34 33 = 0 ∧ cmpCond (bits k.word 37 35) a.v b.v = true) ∨
              (bits k.word 34 33 = 1 ∧ cmpCond (bits k.word 37 35) a.v b.v = true ∧ o.v = 1) ∨
              (bits k.word 34 33 = 2 ∧ (cmpCond (bits k.word 37 35) a.v b.v = true ∨ o.v = 1)) then 1 else 0,
            a.poison || b.poison || (decide (bits k.word 34 33 ≠ 0) && o.poison)⟩) ∧
      (∀ i, i ≠ bits k.word 40 38 → predOf (coreOf d key) i = predOf (coreOf s.dev key) i) ∧
      OpDone [.pred] [] [] key t k s.dev d) ∧
  (∀ (key t : Nat) (k : Cand) (s : State) (v : Nat → Int), Runs (isOp 0x0D) key t k s.dev →
    v = (fun j => (arOf (coreOf s.dev key) (bits k.word 51 47 + j)).v) →
    Completes (exec (.maxp key []) s) s fun d =>
      ∃ o, o ≤ bits k.word 46 42 ∧ (∀ j, j ≤ bits k.word 46 42 → v j ≤ v o) ∧ (∀ j, j < o → v j < v o) ∧
        ArRun key (bits k.word 41 37) (if bit k.word 36 then 2 else 1)
          (fun j => ⟨if j = 0 then v o else o,
            (codes (bits k.word 51 47) (bits k.word 46 42 + 1)).any (fun i => (arOf (coreOf s.dev key) i).poison)⟩) s.dev d ∧
        OpDone [.ar] [] [] key t k s.dev d)

/-- What lane j of a BCLOSE adds, and what it adds to (R128, R174). -/
def closeLane (k : Cand) (c : Core) (j : Nat) : Int × PReg :=
  let rd := fun i => tblWord c (tagCtx k.tag) (tagFrame k.tag) (bits k.word 51 43 + i)
  let m := macCore k c
  (bits (rd (j / 8)) (8 * (j % 8) + 7) (8 * (j % 8)) *
      closeSum (tget 0 m.pAcc j) m.aSum m.za (if bit k.word 42 then bits (rd (2 + j / 4)) (16 * (j % 4) + 15) (16 * (j % 4)) else 0)
        (bits m.zw (4 * j + 3) (4 * j) : Nat),
    if bit k.word 41 then PReg.rest else accOf c j)

/-- The rows latched since the last close differ from the block tag, or among themselves (R125, R129). -/
def closeDiffers (k : Cand) (c : Core) : Bool :=
  tagsDiffer (macCore k c).latch (sideTagOf c (tagCtx k.tag) (tagFrame k.tag) (bits k.word 51 43))

/-- A source of a BCLOSE is poisoned (Table 5.3). -/
def closePoison (k : Cand) (c : Core) : Bool :=
  (macCore k c).pPoison || (macCore k c).zPoison || (List.range 16).any (fun j => (closeLane k c j).2.poison)

/-- Outlier lane k after the first n elements: value, saturations (R126); p: a source of the operation is poisoned. -/
def outlierAfter (x : IssueArgs) (c : Core) (p : Bool) (k : Nat) : Nat → Int × Nat
  | 0 => ((accOf c (16 + k)).v, 0)
  | e + 1 =>
    let s := outlierAfter x c p k e
    let u := outlierPos (macOq x.w) (macOff x.w + e) k
    let r := accAdd s.1 ((macAct x c e).1 * sgn 8 (bits (wtWord c (tagCtx x.tag) (tagFrame x.tag) (macORow x.w) u.1) (u.2 + 7) u.2)) p
    (r.1, s.2 + r.2)

/-- A saturating counter has risen by n. -/
def Rose (r : Reg) (n : Nat) (a d : Dev) : Prop := dget r d = if n = 0 then dget r a else satAdd32 (dget r a) n

/-- LUTMAC adds the product of each activation and each lane's code to the block accumulators and the activations to the sum lane,
latches the row's tag, and adds the outlier products where it names them; OMAC adds the outlier products alone; ZCORR sets the zero
points; BCLOSE adds the scaled, corrected block sums into acc0 to acc15 with saturation and clears the block accumulators; a block
whose tags differ poisons acc0 to acc15, makes the frame INVALID and is counted and reported; a third consecutive frame retires the
core (R182). Past 32 elements the sums, and what a close makes of them, are free values of which nothing is said (R170). What an
instance finds when it takes the MAC lock is cleared. -/
def Obligations.MacOperations : Prop :=
  (∀ (key t : Nat) (k : Cand) (s : State) (x : IssueArgs) (c m : Core), Runs (isOp 0x01) key t k s.dev → x = argsOf key t k s.dev →
    c = coreOf s.dev key → m = macCore k c →
    Completes (exec (.lutmac key []) s) s fun d =>
      (m.blockLen + macCnt k.word ≤ 32 → ∀ j, j < 16 → tget 0 (coreOf d key).pAcc j = tget 0 m.pAcc j + ((List.range (macCnt k.word)).map (fun e => (macAct x c e).1 *
        (bits (wtWord c (tagCtx k.tag) (tagFrame k.tag) (macRow k.word) (macOff k.word + e)) (4 * j + 3) (4 * j) : Nat))).sum) ∧
      (m.blockLen + macCnt k.word ≤ 32 → (coreOf d key).aSum = m.aSum + ((List.range (macCnt k.word)).map (fun e => (macAct x c e).1)).sum) ∧
      d.freeCtr = s.dev.freeCtr + (if m.blockLen + macCnt k.word ≤ 32 then 0 else 17) ∧
      (coreOf d key).pPoison = lutmacPoison x m ∧
      (c.outRows.contains (macRow k.word) = false →
        (coreOf d key).latch = m.latch ++ [rowTagOf c (tagCtx k.tag) (tagFrame k.tag) (macRow k.word)]) ∧
      (coreOf d key).blockLen = m.blockLen + macCnt k.word ∧
      (∀ i, accOf (coreOf d key) i = if macOl k.word = true ∧ (i = 16 ∨ i = 17) then
        ⟨(outlierAfter x c (lutmacPoison x m) (i - 16) (macCnt k.word)).1, lutmacPoison x m⟩ else accOf c i) ∧
      CorePart.same .zero m (coreOf d key) ∧
      d.undef = (s.dev.undef || decide (32 < m.blockLen + macCnt k.word)) ∧
      Rose R.ACC_SAT (if macOl k.word then (outlierAfter x c (lutmacPoison x m) 0 (macCnt k.word)).2 + (outlierAfter x c (lutmacPoison x m) 1 (macCnt k.word)).2 else 0) s.dev d ∧
      OpDone [.acc, .mac, .zero] [.dict, .undef, .freeCtr] [R.ACC_SAT.key] key t k s.dev d) ∧
  (∀ (key t : Nat) (k : Cand) (s : State) (x : IssueArgs) (c m : Core), Runs (isOp 0x02) key t k s.dev → x = argsOf key t k s.dev →
    c = coreOf s.dev key → m = macCore k c →
    Completes (exec (.omac key []) s) s fun d =>
      (∀ i, accOf (coreOf d key) i = if i = 16 ∨ i = 17 then
        ⟨(outlierAfter x c (outlierPoison x c) (i - 16) (macCnt k.word)).1, outlierPoison x c⟩ else accOf c i) ∧
      CorePart.same .mac m (coreOf d key) ∧ CorePart.same .zero m (coreOf d key) ∧
      Rose R.ACC_SAT ((outlierAfter x c (outlierPoison x c) 0 (macCnt k.word)).2 + (outlierAfter x c (outlierPoison x c) 1 (macCnt k.word)).2) s.dev d ∧
      OpDone [.acc, .mac, .zero] [.dict] [R.ACC_SAT.key] key t k s.dev d) ∧
  (∀ (key t : Nat) (k : Cand) (s : State) (c m : Core), Runs (isOp 0x03) key t k s.dev → c = coreOf s.dev key → m = macCore k c →
    Completes (exec (.zcorr key []) s) s fun d =>
      (coreOf d key).zw = tblWord c (tagCtx k.tag) (tagFrame k.tag) (bits k.word 51 43) ∧
      (coreOf d key).za = sgn 16 (bits k.word 42 27) ∧ (coreOf d key).zPoison = false ∧ CorePart.same .mac m (coreOf d key) ∧
      OpDone [.mac, .zero] [] [] key t k s.dev d) ∧
  (∀ (key t : Nat) (k : Cand) (s : State) (c m : Core) (lane : Nat → Int × Nat), Runs (isOp 0x04) key t k s.dev → c = coreOf s.dev key →
    m = macCore k c → closeDiffers k c = false →
    lane = (fun j => accAdd (closeLane k c j).2.v (closeLane k c j).1 (closePoison k c)) →
    Completes (exec (.bclose key []) s) s fun d =>
      (∀ i, i < 16 → (accOf (coreOf d key) i).poison = closePoison k c) ∧
      (∀ i, 16 ≤ i → accOf (coreOf d key) i = accOf c i) ∧
      (m.blockLen ≤ 32 → (∀ i, i < 16 → (accOf (coreOf d key) i).v = (lane i).1) ∧ d.undef = s.dev.undef ∧ d.freeCtr = s.dev.freeCtr ∧
        Rose R.ACC_SAT ((List.range 16).map (fun j => (lane j).2)).sum s.dev d) ∧
      (32 < m.blockLen → d.undef = true ∧ d.freeCtr = s.dev.freeCtr + 16) ∧
      (coreOf d key).pAcc = [] ∧ (coreOf d key).aSum = 0 ∧ (coreOf d key).pPoison = false ∧ (coreOf d key).latch = [] ∧
      (coreOf d key).blockLen = 0 ∧ CorePart.same .zero m (coreOf d key) ∧
      OpDone [.acc, .mac, .zero, .skew] [.dict, .undef, .freeCtr] [R.ACC_SAT.key] key t k s.dev d) ∧
  (∀ (key t : Nat) (k : Cand) (s : State) (frame : Nat) (fs : List Nat), Runs (isOp 0x04) key t k s.dev → closeDiffers k (coreOf s.dev key) = true →
    frame = (argsOf key t k s.dev).frame → fs = skewWith frame (coreOf s.dev key).skewed →
    (∀ f ∈ fs, ¬ (f + 1 ∈ fs ∧ f + 2 ∈ fs)) → s.dev.grid.nextIssue ≤ frame →
    Completes (exec (.bclose key []) s) s fun d =>
      (∀ i, i < 16 → (accOf (coreOf d key) i).poison = true) ∧ (coreOf d key).resync = true ∧ (coreOf d key).skewed = fs ∧
      (frameOf d frame).invalid = true ∧
      dget R.SCALE_SKEW_EVENTS d = satAdd32 (dget R.SCALE_SKEW_EVENTS s.dev) 1 ∧ dget R.SCALE_SKEW_LAST d = key ∧
      dget R.SCALE_SKEW_LAST_FRAME d = frame ∧ LastFault 0x1043 d ∧ (∀ j, j ≠ key → coreOf d j = coreOf s.dev j)) ∧
  (∀ (key t : Nat) (k : Cand) (s : State) (frame : Nat), Runs (isOp 0x04) key t k s.dev → closeDiffers k (coreOf s.dev key) = true →
    frame = (argsOf key t k s.dev).frame → frame + 1 ∈ (coreOf s.dev key).skewed.take 31 → frame + 2 ∈ (coreOf s.dev key).skewed.take 31 →
    key < 65536 → s.dev.flt.dev = none → dget R.RESTART_STATE s.dev = 0 →
    Completes (exec (.bclose key []) s) s fun d =>
      dget R.SCALE_SKEW_EVENTS d = satAdd32 (dget R.SCALE_SKEW_EVENTS s.dev) 1 ∧ LastFault 0x2043 d ∧
      (key ∈ retiredSet s.dev ∨ key ∈ d.ldr.pend) ∧ (coreUsed s.dev key = true → d.flt.pending = true))

/-- RESCALE converts a run of accumulators by their table entries, saturates to 16 bits, clears the accumulators if it says so,
counts saturations and feeds the clip monitor; a shift above 47 leaves that result undefined: its value is a free one, of which
nothing is said, and the block is marked. ACTLUT maps a
run of registers through its table. A STATE read copies values and poison and clears the initial mark, whose marker becomes that of
the frame before (the model's reading, log entry 4); a STATE write stores values and poison with the instance's frame. -/
def Obligations.ConversionsAndState : Prop :=
  (∀ (key t : Nat) (k : Cand) (s : State) (c : Core) (ent : Nat → Nat) (a : Nat → PReg), Runs (isOp 0x05) key t k s.dev →
    c = coreOf s.dev key → ent = (fun j => tblWord c (tagCtx k.tag) (tagFrame k.tag) (bits k.word 51 43 + j)) →
    a = (fun j => accOf c (bits k.word 42 38 + j)) → (∀ j, j ≤ bits k.word 37 33 → bits (ent j) 31 26 ≤ 47) →
    Completes (exec (.rescale key []) s) s fun d =>
      ArRun key (bits k.word 32 28) (bits k.word 37 33 + 1) (fun j =>
        ⟨sat 16 (rneDiv ((a j).v * (bits (ent j) 63 48 : Nat)) (2 ^ bits (ent j) 31 26) + sgn 16 (bits (ent j) 47 32)), (a j).poison⟩) s.dev d ∧
      (∀ i, accOf (coreOf d key) i =
        if bit k.word 27 = true ∧ bits k.word 42 38 ≤ i ∧ i ≤ bits k.word 42 38 + bits k.word 37 33 then ⟨0, false⟩ else accOf c i) ∧
      Rose R.RESCALE_SAT ((List.range (bits k.word 37 33 + 1)).countP (fun j => (rescaleVal (a j).v (ent j)).2 && !(a j).poison)) s.dev d ∧
      d.undef = s.dev.undef ∧ d.freeCtr = s.dev.freeCtr ∧ { d.enc with counts := s.dev.enc.counts } = s.dev.enc ∧
      d.enc.counts = s.dev.enc.counts ++ ((List.range (bits k.word 37 33 + 1)).filter (fun j =>
          decide (bits (tget 0 c.monitor (tagCtx k.tag)) 63 55 ≤ bits k.word 51 43 + j ∧
            bits k.word 51 43 + j < bits (tget 0 c.monitor (tagCtx k.tag)) 63 55 + bits (tget 0 c.monitor (tagCtx k.tag)) 54 50) && !(a j).poison)).map
        (fun j => ⟨bits (tget 0 c.monitor (tagCtx k.tag)) 49 38 + (bits k.word 51 43 + j - bits (tget 0 c.monitor (tagCtx k.tag)) 63 55),
          (argsOf key t k s.dev).frame, 1, if (rescaleVal (a j).v (ent j)).2 then 1 else 0⟩) ∧
      OpDone [.ar, .acc] [.dict, .enc] [R.RESCALE_SAT.key] key t k s.dev d) ∧
  (∀ (key t : Nat) (k : Cand) (s : State) (c : Core) (ent : Nat → Nat) (a : Nat → PReg) (n : Nat), Runs (isOp 0x05) key t k s.dev →
    c = coreOf s.dev key → ent = (fun j => tblWord c (tagCtx k.tag) (tagFrame k.tag) (bits k.word 51 43 + j)) →
    a = (fun j => accOf c (bits k.word 42 38 + j)) →
    n = (List.range (bits k.word 37 33 + 1)).countP (fun j => decide (47 < bits (ent j) 31 26)) → 0 < n →
    Completes (exec (.rescale key []) s) s fun d =>
      d.undef = true ∧ d.freeCtr = s.dev.freeCtr + n ∧
      (∀ j, j ≤ bits k.word 37 33 → (arOf (coreOf d key) (bits k.word 32 28 + j)).poison = (a j).poison) ∧
      (∀ j, j ≤ bits k.word 37 33 → bits (ent j) 31 26 ≤ 47 → (arOf (coreOf d key) (bits k.word 32 28 + j)).v = (rescaleVal (a j).v (ent j)).1) ∧
      (∀ i, i < bits k.word 32 28 ∨ bits k.word 32 28 + bits k.word 37 33 < i → arOf (coreOf d key) i = arOf c i) ∧
      (∀ i, accOf (coreOf d key) i =
        if bit k.word 27 = true ∧ bits k.word 42 38 ≤ i ∧ i ≤ bits k.word 42 38 + bits k.word 37 33 then ⟨0, false⟩ else accOf c i) ∧
      OpDone [.ar, .acc] [.dict, .enc, .undef, .freeCtr] [R.RESCALE_SAT.key] key t k s.dev d) ∧
  (∀ (key t : Nat) (k : Cand) (s : State) (c : Core) (tab : Nat → Int), Runs (isOp 0x06) key t k s.dev → c = coreOf s.dev key →
    tab = (fun i => v4 (tblWord c (tagCtx k.tag) (tagFrame k.tag) (bits k.word 39 31 + i / 4)) (i % 4)) →
    Completes (exec (.actlut key []) s) s fun d =>
      ArRun key (bits k.word 46 42) (bits k.word 41 40 + 1) (fun j =>
        ⟨actLut tab (bits k.word 30 27) (bit k.word 26) (arOf c (bits k.word 51 47 + j)).v, arRunPoison c (bits k.word 51 47) (bits k.word 41 40 + 1)⟩) s.dev d ∧
      OpDone [.ar] [] [] key t k s.dev d) ∧
  (∀ (key t : Nat) (k : Cand) (s : State) (c : Core) (r0 : Nat), Runs (isState false) key t k s.dev → c = coreOf s.dev key →
    r0 = tagCtx k.tag * 16 + bits k.word 50 47 →
    Completes (exec (.stateRead key []) s) s fun d =>
      ArRun key (bits k.word 44 40) (bits k.word 46 45 + 1) (fun j => ⟨(tget SReg.rest c.sreg (r0 + j)).v, (tget SReg.rest c.sreg (r0 + j)).poison⟩) s.dev d ∧
      (∀ i, tget SReg.rest (coreOf d key).sreg i =
        if r0 ≤ i ∧ i ≤ r0 + bits k.word 46 45 ∧ (tget SReg.rest c.sreg i).initial = true then
          ⟨(tget SReg.rest c.sreg i).v, (tget SReg.rest c.sreg i).poison, (tagFrame k.tag + 255) % 256, false⟩
        else tget SReg.rest c.sreg i) ∧
      OpDone [.ar, .sreg] [] [] key t k s.dev d) ∧
  (∀ (key t : Nat) (k : Cand) (s : State) (c : Core) (r0 : Nat), Runs (isState true) key t k s.dev → c = coreOf s.dev key →
    r0 = tagCtx k.tag * 16 + bits k.word 50 47 →
    Completes (exec (.stateWrite key []) s) s fun d =>
      (∀ j, j ≤ bits k.word 46 45 → tget SReg.rest (coreOf d key).sreg (r0 + j) =
        ⟨(arOf c (bits k.word 44 40 + j)).v, (arOf c (bits k.word 44 40 + j)).poison, tagFrame k.tag, false⟩) ∧
      (∀ i, i < r0 ∨ r0 + bits k.word 46 45 < i → tget SReg.rest (coreOf d key).sreg i = tget SReg.rest c.sreg i) ∧
      OpDone [.sreg] [] [] key t k s.dev d)

/-- The token that a SEND emits (R132). -/
def sentTok (k : Cand) (c : Core) : Tok :=
  let w := k.word
  let rs := (List.range (bits w 31 30 + 1)).map (fun j => arOf c (bits w 44 40 + j))
  let t := tokFor c k (bits w 28 26)
  let a := accOf c (bits w 44 40)
  ⟨if bit w 29 then t.payload else if bit w 24 then mkW a.v else mkV4 (rs.map PReg.v),
   mkTag (tagFrame k.tag) (if bits w 39 38 = 0 then tagIter k.tag else if bits w 39 38 = 1 then tagIter k.tag + 1 else bits w 37 32) (tagCtx k.tag),
   if bit w 29 then t.poison else if bit w 24 then a.poison else rs.any PReg.poison⟩

/-- REDUCE on accumulators: left, local, right, saturating after each step (R134). -/
def reduceAdd40 (k : Cand) (c : Core) : PReg × Nat :=
  let l := tokFor c k (bits k.word 51 49)
  let r := tokFor c k (bits k.word 47 45)
  let a := accOf c (bits k.word 40 36)
  let p := l.poison || a.poison || (decide (bits k.word 47 45 ≠ 7) && r.poison)
  let s1 := if bit k.word 41 then accAdd (w40 l.payload) a.v p else (w40 l.payload, 0)
  let s2 := if bits k.word 47 45 ≠ 7 then accAdd s1.1 (w40 r.payload) p else (s1.1, 0)
  (⟨s2.1, p⟩, s1.2 + s2.2)

/-- REDUCE on value j of the 16-bit forms. -/
def reduceV4 (k : Cand) (c : Core) (j : Nat) : PReg :=
  let l := tokFor c k (bits k.word 51 49)
  let r := tokFor c k (bits k.word 47 45)
  let a := arOf c (bits k.word 40 36 + j)
  let s1 := if bit k.word 41 then reduce16 (bits k.word 43 42) (v4 l.payload j) a.v else v4 l.payload j
  ⟨if bits k.word 47 45 ≠ 7 then reduce16 (bits k.word 43 42) s1 (v4 r.payload j) else s1,
   l.poison || (bit k.word 41 && arRunPoison c (bits k.word 40 36) 4) || (decide (bits k.word 47 45 ≠ 7) && r.poison)⟩

/-- SEND puts its token into every output its mask names: a side's pad chain, the firebreak egress buffer, or a local queue, each
in the ac its pad gives; RECV writes the token as four values or as one accumulator; REDUCE combines left, local and right in that
order; RING hands its four registers to the hub eight ac later; TOKEN_ADMIT moves the first token that can move, in round-robin
order, into a slot. -/
def Obligations.TokensInAndOut : Prop :=
  (∀ (key t : Nat) (k : Cand) (s : State) (c : Core), Issues (isOp 0x08) key t k s.dev → c = coreOf s.dev key →
    (bit k.word 47 = true → c.egress.length < 2) →
    Completes (exec (.send key []) s) s fun d =>
      (∀ o, o < 4 → outOf (coreOf d key) o =
        outOf c o ++ (if bit k.word (51 - o) then [⟨t + 1 + padOf c (tagCtx k.tag) o, sentTok k c, 4⟩] else [])) ∧
      (coreOf d key).egress = c.egress ++ (if bit k.word 47 then [⟨t + 1 + padOf c (tagCtx k.tag) 4, sentTok k c, 0⟩] else []) ∧
      queueOf (coreOf d key) 5 = queueOf c 5 ++ (if bit k.word 46 then [⟨t + 2, sentTok k c, 16⟩] else []) ∧
      queueOf (coreOf d key) 6 = queueOf c 6 ++ (if bit k.word 45 then [⟨t + 2, sentTok k c, 16⟩] else []) ∧
      (∀ i, i ≠ 5 → i ≠ 6 → queueOf (coreOf d key) i = queueOf c i) ∧
      OpDone [.outs] [] [] key t k s.dev d) ∧
  (∀ (key t : Nat) (k : Cand) (s : State), Issues (isOp 0x08) key t k s.dev → bits k.word 51 45 = 4 → 2 ≤ (coreOf s.dev key).egress.length →
    Completes (exec (.send key []) s) s fun d =>
      dget R.FB_EGRESS_DROPS d = satAdd32 (dget R.FB_EGRESS_DROPS s.dev) 1 ∧ CorePart.same .outs (coreOf s.dev key) (coreOf d key)) ∧
  (∀ (key t : Nat) (k : Cand) (s : State) (c : Core), Runs (isOp 0x09) key t k s.dev → c = coreOf s.dev key →
    Completes (exec (.recv key []) s) s fun d =>
      (bit k.word 42 = true →
        (∀ i, accOf (coreOf d key) i = if i = bits k.word 47 43 then
          ⟨w40 (tokFor c k (bits k.word 51 49)).payload, (tokFor c k (bits k.word 51 49)).poison || (accOf c i).poison⟩ else accOf c i) ∧
        OpDone [.acc] [] [] key t k s.dev d) ∧
      (bit k.word 42 = false →
        ArRun key (bits k.word 47 43) 4 (fun j => ⟨v4 (tokFor c k (bits k.word 51 49)).payload j, (tokFor c k (bits k.word 51 49)).poison⟩) s.dev d ∧
        OpDone [.ar] [] [] key t k s.dev d)) ∧
  (∀ (key t : Nat) (k : Cand) (s : State) (c : Core), Runs (isOp 0x0A) key t k s.dev → c = coreOf s.dev key →
    Completes (exec (.reduce key []) s) s fun d =>
      (bits k.word 43 42 = 0 →
        (∀ i, accOf (coreOf d key) i = if i = bits k.word 40 36 then (reduceAdd40 k c).1 else accOf c i) ∧
        Rose R.ACC_SAT (reduceAdd40 k c).2 s.dev d ∧ OpDone [.acc] [.dict] [R.ACC_SAT.key] key t k s.dev d) ∧
      (bits k.word 43 42 ≠ 0 → ArRun key (bits k.word 40 36) 4 (reduceV4 k c) s.dev d ∧ OpDone [.ar] [] [] key t k s.dev d)) ∧
  (∀ (key t : Nat) (k : Cand) (s : State) (rs : List PReg), Issues (isOp 0x11) key t k s.dev →
    rs = (List.range 4).map (fun j => arOf (coreOf s.dev key) (bits k.word 49 45 + j)) →
    Completes (exec (.ring key []) s) s fun d =>
      d.fab = { s.dev.fab with rwrites := s.dev.fab.rwrites ++ [⟨t + 8, k.tag, bits k.word 51 50, mkV4 (rs.map PReg.v), rs.any PReg.poison⟩] } ∧
      OpDone [] [.fab] [] key t k s.dev d) ∧
  (∀ (key i h : Nat) (x : Timed) (c : Core) (s : State), coreKey key = true → coresOn s.dev = true → coreRuns s.dev key = true → c = coreOf s.dev key →
    c.queues = [(i, [x])] → i < 7 → x.pr < 16 → c.rr < 7 → c.slots.length < 8 → headFor c (tagCtx x.tok.tag) i = some h →
    Completes (exec (.tokenAdmit key) s) s fun d =>
      ∃ t, t = max (x.due + 1) (max s.dev.now (match c.lastAdmit with | some a => a + 1 | none => 0)) ∧ d.now = t ∧
      (coreOf d key).slots = c.slots ++ [⟨x.tok, i, t⟩] ∧ queueOf (coreOf d key) i = [] ∧ (coreOf d key).rr = i ∧
      (coreOf d key).lastAdmit = some t ∧ (coreOf d key).maxSlots = max c.maxSlots (c.slots.length + 1) ∧
      (∀ p ∈ [CorePart.ar, .acc, .pred, .sreg, .mac, .zero, .skew], p.same c (coreOf d key)) ∧ (∀ j, j ≠ key → coreOf d j = coreOf s.dev j) ∧
      SameEntriesBut [] s.dev d ∧ ChangesOnly [.now, .time, .cores] s.dev d) ∧
  (∀ (key t : Nat) (s : State), coreKey key = true → coresOn s.dev = true → coreRuns s.dev key = true →
    admitAt (coreOf s.dev key) s.dev.now = some t →
    Completes (exec (.tokenAdmit key) s) s fun d =>
      d.now = max t s.dev.now ∧ (coreOf d key).lastAdmit = some t ∧
      (∀ p ∈ [CorePart.ar, .acc, .pred, .sreg, .mac, .zero, .skew], p.same (coreOf s.dev key) (coreOf d key)) ∧
      (∀ j, j ≠ key → coreOf d j = coreOf s.dev j)) ∧
  (∀ (key : Nat) (s : State), coreKey key = true → (coreOf s.dev key).queues = [] → exec (.tokenAdmit key) s = .next s)

/-- The operations that a guard applies to: all but SEL, which selects by it, and those that the loader admits only with p0. -/
def guardedOps : List ((Nat → List Upset → Instr) × (Nat → Bool)) :=
  [(.lutmac, isOp 0x01), (.omac, isOp 0x02), (.zcorr, isOp 0x03), (.bclose, isOp 0x04), (.rescale, isOp 0x05), (.actlut, isOp 0x06),
   (.stateRead, isState false), (.stateWrite, isState true), (.recv, isOp 0x09), (.reduce, isOp 0x0A), (.cmp, isOp 0x0B),
   (.maxp, isOp 0x0D), (.movRegisterRun, isMode 0x0E 0), (.movImmediate, isMode 0x0E 1), (.movClearAccumulators, isMode 0x0E 2),
   (.ldw, isOp 0x0F)]

/-- The registers that a STATE write names. -/
def stateNamed (k : Cand) (i : Nat) : Prop :=
  opOf k.word = 7 ∧ bit k.word 51 = true ∧ tagCtx k.tag * 16 + bits k.word 50 47 ≤ i ∧ i ≤ tagCtx k.tag * 16 + bits k.word 50 47 + bits k.word 46 45

/-- Under a false guard an operation issues, consumes its tokens and takes its time, and writes no register, accumulator, block
accumulator, sum lane or predicate; only a STATE write still sets its frame markers. Under a poisoned guard the destinations keep
their values and are poisoned, and a STATE write sets the markers and poisons the registers it names. (That a cleared MAC state on
taking the lock is no write of the operation is the lock's own rule, R114.) -/
def Obligations.GuardedOperations : Prop :=
  (∀ o ∈ guardedOps, ∀ (key t : Nat) (k : Cand) (s : State) (m : Core), Issues o.2 key t k s.dev → guardOf (coreOf s.dev key) k.word = .skip →
    m = (if needsLock k.word then macCore k (coreOf s.dev key) else coreOf s.dev key) →
    Completes (exec (o.1 key []) s) s fun d =>
      CorePart.same .mac m (coreOf d key) ∧ CorePart.same .zero m (coreOf d key) ∧
      (∀ i, ¬ stateNamed k i → tget SReg.rest (coreOf d key).sreg i = tget SReg.rest (coreOf s.dev key).sreg i) ∧
      (∀ i, stateNamed k i → tget SReg.rest (coreOf d key).sreg i =
        ⟨(tget SReg.rest (coreOf s.dev key).sreg i).v, (tget SReg.rest (coreOf s.dev key).sreg i).poison, tagFrame k.tag, false⟩) ∧
      OpDone [.sreg, .mac, .zero] [] [] key t k s.dev d) ∧
  (∀ o ∈ guardedOps, ∀ (key t : Nat) (k : Cand) (s : State) (c : Core), Issues o.2 key t k s.dev → c = coreOf s.dev key → guardOf c k.word = .poison →
    Completes (exec (o.1 key []) s) s fun d =>
      (∀ i, i < 32 → arOf (coreOf d key) i = ⟨(arOf c i).v, (arOf c i).poison || (writesOf k.word).contains i⟩) ∧
      (∀ i, i < 32 → accOf (coreOf d key) i = ⟨(accOf c i).v, (accOf c i).poison || (writesOf k.word).contains (32 + i)⟩) ∧
      (∀ i, 0 < i → i < 8 → predOf (coreOf d key) i = ⟨(predOf c i).v, (predOf c i).poison || (writesOf k.word).contains (64 + i)⟩) ∧
      (∀ i, stateNamed k i → tget SReg.rest (coreOf d key).sreg i = ⟨(tget SReg.rest c.sreg i).v, true, tagFrame k.tag, false⟩) ∧
      (∀ i, ¬ stateNamed k i → tget SReg.rest (coreOf d key).sreg i = tget SReg.rest c.sreg i) ∧
      OpDone [.ar, .acc, .pred, .sreg, .mac, .zero] [] [] key t k s.dev d)

/-- The entries that a schedule fault may write, beside its counter (R166). -/
def schedKeys : List Nat := R.SCHEDULE_FAULT_FRAMES.key :: R.LAST_SCHEDULE_FAULT_FRAME.key :: reportKeys

/-- The entries that a fault of any class may write. -/
def faultKeys : List Nat := R.FAULTS_J.key :: R.FAULTS_D.key :: reportKeys

/-- A schedule fault of frame n with its counter (R166). -/
def SchedFaulted (n : Nat) (counter : Reg) (a d : Dev) : Prop :=
  dget counter d = satAdd32 (dget counter a) 1 ∧ dget R.LAST_SCHEDULE_FAULT_FRAME d = n ∧ LastFault 0x1081 d ∧
  n ∈ d.fab.faulted ∧ (a.grid.nextIssue ≤ n → (frameOf d n).invalid = true)

/-- No class D fault is held and no restart is in progress: a class J fault waits for the next growth ring (R435). -/
def JobRuns (d : Dev) : Prop := d.flt.dev = none ∧ dget R.RESTART_STATE d = 0

/-- A token of an output register moves one hop and is delivered, passed on, or both, as its context's route word at the next core
says; at logical row 0 it goes to the hub; of several in one ac the others are lost and counted; a token whose crossing fails
parity is poisoned and reported. A token leaves the egress buffer in its copse's slot, and enters queue F of the core that the
ingress entry names, or is stray; each link on its way that found its parity wrong is counted and reported, and the token is poisoned;
one that finds no slot in time is dropped. A link that does not realign ends the job. -/
def Obligations.RidesAndFirebreak : Prop :=
  (∀ (key dir x y x' y' b u a nib : Nat) (par : Bool) (win : Timed) (rest : List Timed) (tok : Tok) (s : State), coreKey key = true → key < 65536 →
    dir < 4 → coresOn s.dev = true → arbitrate (outOf (coreOf s.dev key) dir) = some (u, win, [], rest) → logOf s.dev key = some (x, y) →
    neighbour s.dev x y dir = some (x', y') → physOf s.dev x' y' = some b → b ≠ key → a = u + hopAc s.dev key b dir →
    nib = bits (tget 0 (coreOf s.dev b).route (tagCtx win.tok.tag)) (63 - 4 * ((dir + 2) % 4)) (60 - 4 * ((dir + 2) % 4)) →
    (arrived (queueOf (coreOf s.dev b) ((dir + 2) % 4))).length < 8 →
    tok = { win.tok with poison := win.tok.poison || (par && decide (dieOf key ≠ dieOf b)) } →
    Completes (exec (.rideHop key dir par) s) s fun d =>
      d.now = max a s.dev.now ∧ outOf (coreOf d key) dir = rest ∧ (∀ o, o ≠ dir → outOf (coreOf d key) o = outOf (coreOf s.dev key) o) ∧
      queueOf (coreOf d b) ((dir + 2) % 4) =
        queueOf (coreOf s.dev b) ((dir + 2) % 4) ++ (if nib / 4 = 0 ∨ nib / 4 = 2 then [⟨a, tok, 0⟩] else []) ∧
      outOf (coreOf d b) (nib % 4) =
        outOf (coreOf s.dev b) (nib % 4) ++ (if nib / 4 = 1 ∨ nib / 4 = 2 then [⟨a, tok, (dir + 2) % 4⟩] else []) ∧
      (∀ j, j ≠ key → j ≠ b → coreOf d j = coreOf s.dev j) ∧
      (par = true → dieOf key ≠ dieOf b →
        dget R.DIE_LINK_ERRORS d = satAdd32 (dget R.DIE_LINK_ERRORS s.dev) 1 ∧ LastFault 0x10C1 d) ∧
      SameEntriesBut (if par then R.DIE_LINK_ERRORS.key :: reportKeys else []) s.dev d ∧
      ChangesOnly (if par then [.now, .time, .cores, .dict, .host, .flt] else [.now, .time, .cores]) s.dev d) ∧
  (∀ (key x u : Nat) (par : Bool) (win : Timed) (rest : List Timed) (s : State), coreKey key = true → key < 65536 → coresOn s.dev = true →
    arbitrate (outOf (coreOf s.dev key) 0) = some (u, win, [], rest) → logOf s.dev key = some (x, 0) →
    Completes (exec (.rideHop key 0 par) s) s fun d =>
      d.now = max (u + 1) s.dev.now ∧ outOf (coreOf d key) 0 = rest ∧
      d.fab = { s.dev.fab with vtoks := s.dev.fab.vtoks ++ [⟨u + 7, win.tok, 0⟩] } ∧ (∀ j, j ≠ key → coreOf d j = coreOf s.dev j) ∧
      SameEntriesBut [] s.dev d ∧ ChangesOnly [.now, .time, .cores, .fab] s.dev d) ∧
  (∀ (key dir x y u : Nat) (par : Bool) (win l : Timed) (rest : List Timed) (s : State), coreKey key = true → key < 65536 → dir < 4 →
    coresOn s.dev = true → arbitrate (outOf (coreOf s.dev key) dir) = some (u, win, [l], rest) → logOf s.dev key = some (x, y) →
    neighbour s.dev x y dir = none → dir ≠ 0 →
    Completes (exec (.rideHop key dir par) s) s fun d =>
      SchedFaulted (fullFrame ((coreOf s.dev key).lastRing.getD 0) (tagFrame l.tok.tag)) R.RIDE_CONFLICTS s.dev d ∧
      SameEntriesBut (R.RIDE_CONFLICTS.key :: schedKeys) s.dev d) ∧
  (∀ (key dir : Nat) (par : Bool) (s : State), coreKey key = true → key < 65536 → dir < 4 →
    (coresOn s.dev = false ∨ outOf (coreOf s.dev key) dir = []) → exec (.rideHop key dir par) s = .next s) ∧
  (∀ (key a : Nat) (x : Timed) (s : State), coreKey key = true → key < 65536 → coresOn s.dev = true → fbFirst s.dev key = some (a, x) →
    Completes (exec (.fbDepart key) s) s fun d =>
      d.now = max a s.dev.now ∧ coreOf d key = { coreOf s.dev key with egress := (coreOf s.dev key).egress.erase x } ∧
      (∀ j, j ≠ key → coreOf d j = coreOf s.dev j) ∧
      d.fab = { s.dev.fab with flight := s.dev.fab.flight ++
        (fbRoute s.dev a 16 1 (dieOf key) (copseOf key).1 []).map (fun w => ⟨w.1, w.2.1, x.tok, w.2.2, s.dev.fab.sent⟩), sent := s.dev.fab.sent + 1 } ∧
      SameEntriesBut [] s.dev d ∧ ChangesOnly [.now, .time, .cores, .fab] s.dev d) ∧
  (∀ (bad : List Nat) (x : Flight) (e key : Nat) (tok : Tok) (s : State), (∀ l ∈ bad, l < 256) → coresOn s.dev = true → firstFlight s.dev.fab.flight = some x →
    e = fbEntry s.dev (x.copse / 24) (3328 + 64 * (x.copse % 24) + fbSlot s.dev (x.due - 2)) → fbValid e = true →
    key = copseCore (x.copse / 24) (x.copse % 24) (fbSel e) → (arrived (queueOf (coreOf s.dev key) 4)).length < 8 →
    x.copse < 1536 → tok = { x.tok with poison := x.tok.poison || wayFailed bad x s.dev } →
    Completes (exec (.fbIngress bad) s) s fun d =>
      d.now = max x.due s.dev.now ∧ d.fab.flight = s.dev.fab.flight.erase x ∧
      queueOf (coreOf d key) 4 = queueOf (coreOf s.dev key) 4 ++ [⟨x.due, tok, 0⟩] ∧ (∀ j, j ≠ key → coreOf d j = coreOf s.dev j) ∧
      Rose R.DIE_LINK_ERRORS (newFailures bad x s.dev).length s.dev d ∧ (newFailures bad x s.dev ≠ [] → LastFault 0x10C1 d) ∧
      (tget [] s.dev.fab.judged x.ident = [] → wayFailed bad x s.dev = x.links.any bad.contains ∧ newFailures bad x s.dev = x.links.filter bad.contains) ∧
      SameEntriesBut (R.DIE_LINK_ERRORS.key :: reportKeys) s.dev d ∧ ChangesOnly [.now, .time, .cores, .fab, .dict, .host, .flt] s.dev d) ∧
  (∀ (bad : List Nat) (x : Flight) (s : State), (∀ l ∈ bad, l < 256) → coresOn s.dev = true → firstFlight s.dev.fab.flight = some x →
    x.copse < 1536 →
    fbValid (fbEntry s.dev (x.copse / 24) (3328 + 64 * (x.copse % 24) + fbSlot s.dev (x.due - 2))) = false →
    Completes (exec (.fbIngress bad) s) s fun d =>
      SchedFaulted (fullFrame (curFrame s.dev) (tagFrame x.tok.tag)) R.STRAY_TOKENS s.dev d ∧ d.fab.flight = s.dev.fab.flight.erase x ∧
      ChangesOnly [.now, .time, .fab, .dict, .host, .flt, .frames] s.dev d) ∧
  (∀ (key : Nat) (x : Timed) (s : State), coreKey key = true → key < 65536 →
    (coreOf s.dev key).egress.find? (fun x => (fbDeparture s.dev key (tagCtx x.tok.tag) x.due (dget R.FB_SLOT_TIMEOUT s.dev)).isNone) = some x →
    Completes (exec (.fbSlotTimeout key) s) s fun d =>
      d.now = max (x.due + dget R.FB_SLOT_TIMEOUT s.dev) s.dev.now ∧
      coreOf d key = { coreOf s.dev key with egress := (coreOf s.dev key).egress.erase x } ∧ (∀ j, j ≠ key → coreOf d j = coreOf s.dev j) ∧
      SchedFaulted (fullFrame ((coreOf s.dev key).lastRing.getD 0) (tagFrame x.tok.tag)) R.FB_SLOT_TIMEOUTS s.dev d ∧
      SameEntriesBut (R.FB_SLOT_TIMEOUTS.key :: schedKeys) s.dev d ∧ ChangesOnly [.now, .time, .cores, .fab, .dict, .host, .flt, .frames] s.dev d) ∧
  (∀ (link t : Nat) (s : State), link < 256 → tget none s.dev.fab.misaligned link = some t → JobRuns s.dev →
    Completes (exec (.dieLinkRealignTimeout link) s) s fun d =>
      d.now = max (t + acPerUs) s.dev.now ∧ LastFault 0x30C2 d ∧ d.flt.pending = true ∧
      dget R.FAULTS_J d = satAdd32 (dget R.FAULTS_J s.dev) 1 ∧ SameEntriesBut faultKeys s.dev d ∧
      ChangesOnly [.now, .time, .dict, .host, .flt] s.dev d) ∧
  (∀ (link t : Nat) (s : State), link < 256 → tget none s.dev.fab.misaligned link = some t → dget R.RESTART_STATE s.dev = 4 →
    Completes (exec (.dieLinkRealignTimeout link) s) s fun d =>
      d.now = max (t + acPerUs) s.dev.now ∧ LastFault 0x40C3 d ∧ d.flt.dev = some 0x40C3 ∧
      dget R.RESTART_STATE d = (if running s.dev = true ∨ ending s.dev = true then 1 else 0) ∧
      dget R.FAULTS_D d = satAdd32 (dget R.FAULTS_D s.dev) 1) ∧
  (∀ (bad : List Nat) (x : Flight) (s : State), (∀ l ∈ bad, l < 256) → coresOn s.dev = true → firstFlight s.dev.fab.flight = some x →
    1536 ≤ x.copse →
    Completes (exec (.fbIngress bad) s) s fun d =>
      d.now = max x.due s.dev.now ∧ d.fab.flight = s.dev.fab.flight.erase x ∧ (∀ k, coreOf d k = coreOf s.dev k) ∧
      Rose R.DIE_LINK_ERRORS (newFailures bad x s.dev).length s.dev d ∧
      SameEntriesBut (R.DIE_LINK_ERRORS.key :: reportKeys) s.dev d ∧ ChangesOnly [.now, .time, .fab, .dict, .host, .flt] s.dev d)

/-- The firing watchdog of an array core counts FIRE_WATCHDOG ac, starts anew, is counted and reported as a class J fault; a core
that does not count, or that issues an instruction before, leaves the block as it is, and so does a review core whose cluster has no job. The scrubber counts each
corrected word; an uncorrectable one retires the core, and the job restarts if the core is in use. -/
def Obligations.WatchdogAndScrubber : Prop :=
  (∀ (key e t : Nat) (c : Core) (s : State), coreKey key = true → key < 65536 → c = coreOf s.dev key → countsFrom c = some e → JobRuns s.dev →
    coreRuns s.dev key = true → (∀ x ∈ pick c (issueFrom key s.dev), t ≤ x.1) →
    t = max (max c.wdAt (overBy c)) e + (dget R.FIRE_WATCHDOG s.dev - (c.wdCount + (overBy c - c.wdAt))) →
    Completes (exec (.fireWatchdogExpiry key) s) s fun d =>
      d.now = max t s.dev.now ∧ coreOf d key = { c with wdCount := 0, wdAt := t + 1 } ∧ (∀ j, j ≠ key → coreOf d j = coreOf s.dev j) ∧
      dget R.FIRE_WATCHDOG_EVENTS d = satAdd32 (dget R.FIRE_WATCHDOG_EVENTS s.dev) 1 ∧ LastFault 0x3042 d ∧
      dget R.FAULTS_J d = satAdd32 (dget R.FAULTS_J s.dev) 1 ∧ d.flt.pending = true ∧
      SameEntriesBut (R.FIRE_WATCHDOG_EVENTS.key :: faultKeys) s.dev d ∧ ChangesOnly [.now, .time, .dict, .cores, .host, .flt] s.dev d) ∧
  (∀ (key : Nat) (s : State), coreKey key = true →
    ((key < 65536 ∧ (coreRuns s.dev key = false ∨ expiryAt key s.dev = none)) ∨ (65536 ≤ key ∧ (clusOf s.dev ((key - 65536) / 256)).job = none)) →
    exec (.fireWatchdogExpiry key) s = .next s) ∧
  (∀ (key : Nat) (ups : List Upset) (s : State), coreKey key = true → (∀ u ∈ ups, u.mem < 3 ∧ u.word < 4096 ∧ u.double = false) →
    Completes (exec (.scrubberPass key ups) s) s fun d =>
      Rose R.ECC_CORRECTED ups.length s.dev d ∧ SameEntriesBut [R.ECC_CORRECTED.key] s.dev d ∧ ChangesOnly [.dict] s.dev d) ∧
  (∀ (key : Nat) (u : Upset) (s : State), coreKey key = true → key < 65536 → u.mem < 3 → u.word < 4096 → u.double = true → JobRuns s.dev →
    Completes (exec (.scrubberPass key [u]) s) s fun d =>
      dget R.ECC_UNCORRECTED d = satAdd32 (dget R.ECC_UNCORRECTED s.dev) 1 ∧ LastFault 0x2041 d ∧
      (key ∈ retiredSet s.dev ∨ key ∈ d.ldr.pend) ∧ (coreUsed s.dev key = true → d.flt.pending = true) ∧
      SameEntriesBut (R.ECC_UNCORRECTED.key :: faultKeys) s.dev d ∧ ChangesOnly [.dict, .host, .flt, .ldr] s.dev d)

/-- The grid's ring n is behind it, and the frame is neither lost nor paused (R245, R438). -/
def FrameOn (n : Nat) (d : Dev) : Prop := ringPassed d n = true ∧ (frameOf d n).lost = false ∧ (frameOf d n).paused = false

/-- A flit of a type and words leaves on a joined link: its sequence number is taken, and it stays in the replay buffer
(Table 17.1); outside RUN only HELLO and NAK leave (R426; log entry 165). -/
def FlitSent (p ty : Nat) (words : List Nat) (a d : Dev) : Prop :=
  (linkState a p = 2 → dget R.POWER_STATE a = 0 ∨ ty = 2 ∨ ty = 6 → (linkOf d p).txSeq = ((linkOf a p).txSeq + 1) % 4096 ∧ (linkOf d p).replay.head? = some ⟨ty, (linkOf a p).txSeq, words⟩) ∧
  (linkState a p ≠ 2 ∨ (dget R.POWER_STATE a ≠ 0 ∧ ty ≠ 2 ∧ ty ≠ 6) → linkOf d p = linkOf a p)

/-- Ring r takes a record into its queue: enabled, nothing lost that waits, and room (R357). -/
def RingTakes (r : Nat) (d : Dev) : Prop :=
  (ringOf d r).enabled = true ∧ (ringOf d r).loss = Loss.rest ∧ (ringOf d r).queue.length + 1 ≤ queueCap r

/-- A verdict token in time adds its payload to the class bits of its iteration and counts; a late one, a poisoned one and one of a
wrong iteration are counted as the rules say. The close makes a frame INVALID that is bad or short. A RING write in time sets its
slot of its frame; a late one is counted and reported. At S_n the device sends what RING wrote, on each joined ring port; at D_n
the ring words take their readings, and each late contribution that they name is counted once. -/
def Obligations.VerdictCollector : Prop :=
  (∀ (n w : Nat) (x : Timed) (s : State), firstTimed s.dev.fab.vtoks = some x → n = fullFrame (curFrame s.dev) (tagFrame x.tok.tag) →
    w = bits x.tok.tag 7 2 → ¬ (n < s.dev.grid.nextClose ∨ (n < s.dev.grid.nextT ∧ closeAt s.dev n < x.due)) →
    Completes (exec .verdictToken s) s fun d =>
      d.now = max x.due s.dev.now ∧ d.fab = { s.dev.fab with vtoks := s.dev.fab.vtoks.erase x } ∧
      frameOf d n = { frameOf s.dev n with
        tokens := (frameOf s.dev n).tokens + 1
        bad := (frameOf s.dev n).bad || x.tok.poison || decide (7 < w)
        cls := if x.tok.poison = true ∨ 7 < w then (frameOf s.dev n).cls else (frameOf s.dev n).cls ||| (x.tok.payload % 2 ^ 64) * 2 ^ (64 * w) } ∧
      (∀ m, m ≠ n → frameOf d m = frameOf s.dev m) ∧
      Rose R.VERDICT_POISONED (if x.tok.poison then 1 else 0) s.dev d ∧ Rose R.VERDICT_BAD_ITER (if 7 < w then 1 else 0) s.dev d ∧
      SameEntriesBut [R.VERDICT_POISONED.key, R.VERDICT_BAD_ITER.key] s.dev d ∧ ChangesOnly [.now, .time, .fab, .dict, .frames] s.dev d) ∧
  (∀ (n : Nat) (x : Timed) (s : State), firstTimed s.dev.fab.vtoks = some x → n = fullFrame (curFrame s.dev) (tagFrame x.tok.tag) →
    (n < s.dev.grid.nextClose ∨ (n < s.dev.grid.nextT ∧ closeAt s.dev n < x.due)) →
    Completes (exec .verdictToken s) s fun d =>
      d.now = max x.due s.dev.now ∧ d.fab.vtoks = s.dev.fab.vtoks.erase x ∧ dget R.VERDICT_LATE_TOKENS d = satAdd32 (dget R.VERDICT_LATE_TOKENS s.dev) 1 ∧
      LastFault 0x1101 d ∧ dget R.LAST_SCHEDULE_FAULT_FRAME d = n ∧ (s.dev.grid.nextIssue ≤ n → (frameOf d n).invalid = true) ∧
      SameEntriesBut (R.VERDICT_LATE_TOKENS.key :: schedKeys) s.dev d ∧ ChangesOnly [.now, .time, .fab, .dict, .frames, .host, .flt] s.dev d) ∧
  (∀ (n : Nat) (s : State), s.dev.fab.vtoks = [] → n = s.dev.grid.nextClose → exec .verdictToken s = .next s) ∧
  (∀ (n : Nat) (s : State), n = s.dev.grid.nextClose → FrameOn n s.dev → n - 2 ≤ s.dev.enc.nextMerge →
    Completes (exec .verdictClose s) s fun d =>
      d.now = max (closeAt s.dev n) s.dev.now ∧ d.grid = { s.dev.grid with nextClose := n + 1 } ∧
      frameOf d n = { frameOf s.dev n with
        closed := true, calStale := calStaleOf s.dev n
        invalid := (frameOf s.dev n).invalid || (frameOf s.dev n).bad ||
          decide ((frameOf s.dev n).tokens ≠ dget (R.VERDICT_EXPECTED (frameOf s.dev n).ctx) s.dev) } ∧
      (∀ m, m ≠ n → frameOf d m = frameOf s.dev m) ∧
      Rose R.VERDICT_MISSING (if (frameOf s.dev n).tokens = dget (R.VERDICT_EXPECTED (frameOf s.dev n).ctx) s.dev then 0 else 1) s.dev d ∧
      SameEntriesBut [R.VERDICT_MISSING.key] s.dev d ∧ ChangesOnly [.now, .time, .grid, .dict, .frames] s.dev d) ∧
  (∀ (n : Nat) (s : State), n = s.dev.grid.nextClose → ringPassed s.dev n = true →
    Completes (exec .verdictClose s) s fun d =>
      d.now = max (closeAt s.dev n) s.dev.now ∧ d.grid = { s.dev.grid with nextClose := n + 1 } ∧
      (∀ m, m ≠ n → frameOf d m = frameOf s.dev m) ∧
      ((frameOf s.dev n).lost = true ∨ (frameOf s.dev n).paused = true → frameOf d n = frameOf s.dev n) ∧
      ((frameOf s.dev n).lost = false → (frameOf s.dev n).paused = false →
        (frameOf d n).closed = true ∧ (frameOf d n).invalid = ((frameOf s.dev n).invalid || (frameOf s.dev n).bad ||
          decide ((frameOf s.dev n).tokens ≠ dget (R.VERDICT_EXPECTED (frameOf s.dev n).ctx) s.dev)) ∧
        Rose R.VERDICT_MISSING (if (frameOf s.dev n).tokens = dget (R.VERDICT_EXPECTED (frameOf s.dev n).ctx) s.dev then 0 else 1) s.dev d)) ∧
  (∀ (s : State), ringPassed s.dev s.dev.grid.nextClose = false → exec .verdictClose s = .next s) ∧
  (∀ (n : Nat) (x : RWrite) (r : List RWrite) (s : State), s.dev.fab.rwrites = x :: r → (∀ y ∈ r, x.due ≤ y.due) →
    n = fullFrame (curFrame s.dev) (tagFrame x.tag) → ¬ (n < s.dev.grid.nextSend ∨ (n < s.dev.grid.nextT ∧ sendAt s.dev n < x.due)) →
    Completes (exec .ringWriteArrival s) s fun d =>
      d.now = max x.due s.dev.now ∧ d.fab = { s.dev.fab with rwrites := r } ∧
      frameOf d n = { frameOf s.dev n with
        contrib := tset none (frameOf s.dev n).contrib x.slot (some (x.val % 2 ^ 64 + (if x.poison then 2 ^ 64 else 0))) } ∧
      (∀ m, m ≠ n → frameOf d m = frameOf s.dev m) ∧ SameEntriesBut [] s.dev d ∧ ChangesOnly [.now, .time, .fab, .frames] s.dev d) ∧
  (∀ (n : Nat) (x : RWrite) (r : List RWrite) (s : State), s.dev.fab.rwrites = x :: r → (∀ y ∈ r, x.due ≤ y.due) →
    n = fullFrame (curFrame s.dev) (tagFrame x.tag) → (n < s.dev.grid.nextSend ∨ (n < s.dev.grid.nextT ∧ sendAt s.dev n < x.due)) →
    Completes (exec .ringWriteArrival s) s fun d =>
      d.fab.rwrites = r ∧ dget R.RING_WRITES_LATE d = satAdd32 (dget R.RING_WRITES_LATE s.dev) 1 ∧ LastFault 0x1081 d ∧
      dget R.LAST_SCHEDULE_FAULT_FRAME d = n ∧ (s.dev.grid.nextIssue ≤ n → (frameOf d n).invalid = true) ∧
      (∀ m k, tget none (frameOf d m).contrib k = tget none (frameOf s.dev m).contrib k) ∧
      SameEntriesBut (R.RING_WRITES_LATE.key :: schedKeys) s.dev d ∧
      ChangesOnly [.now, .time, .fab, .dict, .frames, .host, .flt, .freeCtr] s.dev d) ∧
  (∀ (n : Nat) (c : Contrib) (s : State), n = s.dev.grid.nextSend → ringPassed s.dev n = true → frameRuns s.dev n = true →
    dget R.POWER_STATE s.dev = 0 → c = (freeContrib (ownContrib s.dev n) s.dev).1 →
    Completes (exec .contribSend s) s fun d =>
      (s.dev.undef = false → c = ownContrib s.dev n) ∧ c.frame = n ∧ c.src = dget R.RING_POSITION s.dev ∧
      d.freeCtr = s.dev.freeCtr + (if s.dev.undef then 5 else 0) ∧
      d.now = max (sendAt s.dev n) s.dev.now ∧ d.grid = { s.dev.grid with nextSend := n + 1 } ∧ d.lnk.inbox = (c :: s.dev.lnk.inbox).take 2048 ∧
      (∀ p, p < 2 → FlitSent p 1 (contribHead c.src (ringSize s.dev - 1) c.valid c.poison n :: c.slots) s.dev d) ∧
      linkOf d 2 = linkOf s.dev 2 ∧ SameEntriesBut [] s.dev d ∧ ChangesOnly [.now, .time, .grid, .lnk, .freeCtr] s.dev d) ∧
  (∀ (n : Nat) (s : State), n = s.dev.grid.nextSend → ringPassed s.dev n = true → frameRuns s.dev n = false ∨ dget R.POWER_STATE s.dev ≠ 0 →
    Completes (exec .contribSend s) s fun d =>
      d.grid = { s.dev.grid with nextSend := n + 1 } ∧ ChangesOnly [.now, .time, .grid] s.dev d) ∧
  (∀ (n late pois : Nat) (s : State), n = s.dev.grid.nextDead → FrameOn n s.dev → n < s.dev.grid.nextSend → n < s.dev.grid.nextClose →
    late = (((List.range 7).filter (fun k => decide ((ringWord s.dev n k).2 = 2))).map (fun k => bits (dget (R.RING_WORD_SELECT k) s.dev) 7 1)).eraseDups.length →
    pois = (List.range 7).countP (fun k => decide ((ringWord s.dev n k).2 = 3)) →
    Completes (exec .ringDeadline s) s fun d =>
      d.now = max (deadAt s.dev n) s.dev.now ∧ d.grid = { s.dev.grid with nextDead := n + 1 } ∧ d.trig.vframe = some n ∧
      d.trig.cls = (if (frameOf s.dev n).invalid then 0 else (frameOf s.dev n).cls) ∧
      (∀ k, k < 7 → tget 0 d.trig.ringWords k = (ringWord s.dev n k).1) ∧
      (frameOf d n).late = ((frameOf s.dev n).late || decide (late + pois ≠ 0)) ∧
      Rose R.RING_LATE_COUNT late s.dev d ∧ Rose R.TIMING_CHOICES late s.dev d ∧ Rose R.RING_POISONED pois s.dev d ∧
      SameEntriesBut [R.RING_LATE_COUNT.key, R.TIMING_CHOICES.key, R.RING_POISONED.key] s.dev d ∧
      ChangesOnly [.now, .time, .grid, .dict, .frames, .trig] s.dev d) ∧
  (∀ (n : Nat) (s : State), n = s.dev.grid.nextDead → ringPassed s.dev n = true → (frameOf s.dev n).lost = true → n < s.dev.grid.nextSend →
    n < s.dev.grid.nextClose →
    Completes (exec .ringDeadline s) s fun d =>
      d.trig = { s.dev.trig with cls := 0, ringWords := [], vframe := none } ∧ SameEntriesBut [] s.dev d ∧
      ChangesOnly [.now, .time, .grid, .trig] s.dev d)

/-- ACTIVE of frame n, by which a secondary drives its lines: as the check of the frame found it, and as it stands where that has not
been made (R422). -/
def drivesLines (n : Nat) (d : Dev) : Bool := if n < d.grid.nextAlone then (frameOf d n).active else decide (dget R.MIRROR_ACTIVE d = 1)

/-- The verdict word of a frame is issued at E + VERDICT_LATENCY: FRAME_NUMBER names the frame, each line takes the level that its
mode gives, an INVALID frame is counted, and the verdict record enters its ring. While an undefined use is in force the flags and
class bits are free (log entry 131). At the issue time of the frame of a stop, and for a frame that was lost, the lines go to their
safe level. An unlatch waits for the growth ring; a pulse ends by
itself. -/
def Obligations.VerdictIssueAndLines : Prop :=
  (∀ (n w : Nat) (safe : Bool) (s : State), n = s.dev.grid.nextIssue → s.dev.grid.endF = none → FrameOn n s.dev → n < s.dev.grid.nextDead →
    (dget R.MIRROR_ROLE s.dev ≠ 0 → n < s.dev.grid.nextAlone) → s.dev.undef = false → RingTakes 0 s.dev → w = verdictWord s.dev n →
    safe = (decide (dget R.MIRROR_ROLE s.dev = 2 ∧ dget R.MIRROR_LINE_POLICY s.dev = 1 ∧ drivesLines n s.dev = false) ||
      decide (n < s.dev.flt.safeBelow)) →
    Completes (exec .verdictIssue s) s fun d =>
      d.now = max (eAt s.dev n + dget R.VERDICT_LATENCY s.dev) s.dev.now ∧ d.grid = { s.dev.grid with nextIssue := n + 1 } ∧
      dget R.FRAME_NUMBER d = n ∧ frameOf d n = { frameOf s.dev n with word := w } ∧ (∀ m, m ≠ n → frameOf d m = frameOf s.dev m) ∧
      (∀ k, k < 32 → bit (dget R.VLINE_STATE d) k = (lineEdge s.dev n k w safe).1 ∧ bit d.trig.latched k = (lineEdge s.dev n k w safe).2.1 ∧
        tget none d.trig.pulseEnd k = (lineEdge s.dev n k w safe).2.2.1 ∧ tget none d.trig.unlatch k = (lineEdge s.dev n k w safe).2.2.2) ∧
      Rose R.INVALID_FRAMES (if (frameOf s.dev n).invalid then 1 else 0) s.dev d ∧
      (∃ r : Rec, r.kind = 1 ∧ r.frame = some n ∧ r.words.take 3 = [n, w, (frameOf s.dev n).ctx] ∧
        (ringOf d 0).queue = (ringOf s.dev 0).queue ++ [r]) ∧
      (∀ r, r ≠ 0 → ringOf d r = ringOf s.dev r) ∧
      SameEntriesBut [R.FRAME_NUMBER.key, R.VLINE_STATE.key, R.INVALID_FRAMES.key] s.dev d ∧
      ChangesOnly [.now, .time, .grid, .dict, .frames, .trig, .host] s.dev d) ∧
  (∀ (n : Nat) (safe : Bool) (s : State), n = s.dev.grid.nextIssue → s.dev.grid.endF ≠ some n → FrameOn n s.dev → n < s.dev.grid.nextDead →
    (dget R.MIRROR_ROLE s.dev ≠ 0 → n < s.dev.grid.nextAlone) →
    safe = (decide (dget R.MIRROR_ROLE s.dev = 2 ∧ dget R.MIRROR_LINE_POLICY s.dev = 1 ∧ drivesLines n s.dev = false) ||
      decide (n < s.dev.flt.safeBelow)) →
    Completes (exec .verdictIssue s) s fun d =>
      d.now = max (eAt s.dev n + dget R.VERDICT_LATENCY s.dev) s.dev.now ∧ d.grid.nextIssue = n + 1 ∧ dget R.FRAME_NUMBER d = n ∧
      bits (frameOf d n).word 55 32 = n % 2 ^ 24 ∧ (s.dev.undef = false → (frameOf d n).word = verdictWord s.dev n) ∧
      d.freeCtr = s.dev.freeCtr + (if s.dev.undef then 1 else 0) ∧
      (∀ k, k < 32 → bit (dget R.VLINE_STATE d) k = (lineEdge s.dev n k (frameOf d n).word safe).1) ∧
      Rose R.INVALID_FRAMES (if (frameOf s.dev n).invalid then 1 else 0) s.dev d) ∧
  (∀ (n : Nat) (s : State), n = s.dev.grid.nextIssue → s.dev.grid.endF = some n →
    Completes (exec .verdictIssue s) s fun d =>
      d.now = max (eAt s.dev n + dget R.VERDICT_LATENCY s.dev) s.dev.now ∧ d.grid = { s.dev.grid with nextIssue := n + 1 } ∧
      dget R.VLINE_STATE d = safeLines s.dev ∧ SameEntriesBut [R.VLINE_STATE.key] s.dev d) ∧
  (∀ (n : Nat) (s : State), n = s.dev.grid.nextIssue → s.dev.grid.endF = none → ringPassed s.dev n = true → (frameOf s.dev n).lost = true →
    n < s.dev.grid.nextDead → dget R.MIRROR_ROLE s.dev = 0 →
    Completes (exec .verdictIssue s) s fun d =>
      dget R.FRAME_NUMBER d = n ∧ dget R.VLINE_STATE d = safeLines s.dev ∧ d.trig = { s.dev.trig with pulseEnd := [] } ∧
      d.grid = { s.dev.grid with nextIssue := n + 1 } ∧ SameEntriesBut [R.FRAME_NUMBER.key, R.VLINE_STATE.key] s.dev d ∧
      ChangesOnly [.now, .time, .grid, .dict, .trig] s.dev d) ∧
  (∀ (s : State), s.dev.grid.endF = none → ringPassed s.dev s.dev.grid.nextIssue = false → exec .verdictIssue s = .next s) ∧
  (∀ (k t : Nat) (s : State), k < 32 → tget none s.dev.trig.pulseEnd k = some t →
    Completes (exec (.vlinePulseEnd k) s) s fun d =>
      d.now = max t s.dev.now ∧ (∀ j, bit (dget R.VLINE_STATE d) j = if j = k then !bit (dget R.VLINE_STATE s.dev) k else bit (dget R.VLINE_STATE s.dev) j) ∧
      (∀ j, tget none d.trig.pulseEnd j = if j = k then none else tget none s.dev.trig.pulseEnd j) ∧
      SameEntriesBut [R.VLINE_STATE.key] s.dev d ∧ ChangesOnly [.now, .time, .dict, .trig] s.dev d) ∧
  (∀ (k : Nat) (s : State), k < 32 → tget none s.dev.trig.pulseEnd k = none → exec (.vlinePulseEnd k) s = .next s) ∧
  (∀ (c mask : Nat) (s : State), Asks c s.dev → mask < 2 ^ 32 →
    Completes (exec (.vlineUnlatch c mask) s) s fun d =>
      d.trig = { s.dev.trig with unlatchNew := s.dev.trig.unlatchNew ||| mask } ∧ SameEntriesBut [] s.dev d ∧ ChangesOnly [.trig] (asked c s.dev) d)

/-- How pattern p answers to vector v at ac x: 0 not at all, 1 it fires, 2 it fires as forced (R289, R290). -/
def firing (d : Dev) (x v p : Nat) : Nat :=
  let s := tget Pat.rest d.trig.pats p
  let en := decide (evalGet d (R.PAT_ENABLE p) = 1)
  let held := match s.firedAt with | some t => decide (x < t + evalGet d (R.PAT_HOLDOFF p)) | none => false
  if en && patMatch d p v && !s.matched && !held then 1
  else if en && decide (evalGet d (R.PAT_AUTO p) ≠ 0 ∧ s.autoFrom.getD d.trig.start + evalGet d (R.PAT_AUTO p) ≤ x) then 2 else 0

/-- Pattern p begins to match within its hold-off (R289). -/
def heldOff (d : Dev) (x v p : Nat) : Bool :=
  let s := tget Pat.rest d.trig.pats p
  decide (evalGet d (R.PAT_ENABLE p) = 1) && patMatch d p v && !s.matched &&
    (match s.firedAt with | some t => decide (x < t + evalGet d (R.PAT_HOLDOFF p)) | none => false)

/-- Every pattern has been compared with vector v at ac x, tick tk of frame n: what each leaves, and the one trigger that those which
fire make (R288 to R291). `a` is the block at that ac. -/
def Evaluated (n tk x v : Nat) (a d : Dev) : Prop :=
  d.now = a.now ∧ d.trig.lastEval = some x ∧
  (∀ p, p < 64 →
    tget Pat.rest d.trig.pats p = (if firing a x v p = 0 then { tget Pat.rest a.trig.pats p with matched := patMatch a p v }
      else { tget Pat.rest a.trig.pats p with matched := patMatch a p v, firedAt := some x, autoFrom := some x }) ∧
    Rose (R.PAT_HITS p) (if firing a x v p = 0 then 0 else 1) a d ∧ Rose (R.PAT_FORCED p) (if firing a x v p = 2 then 1 else 0) a d ∧
    Rose (R.PAT_SUPPRESSED p) (if heldOff a x v p then 1 else 0) a d) ∧
  ((∀ p, p < 64 → firing a x v p = 0) →
    d.trig.count = a.trig.count ∧ d.trig.waiting = a.trig.waiting ∧ dget R.TRIGGERS d = dget R.TRIGGERS a ∧ ChangesOnly [.dict, .trig] a d) ∧
  (∀ p, p < 64 → firing a x v p ≠ 0 → (∀ q, q < p → firing a x v q = 0) →
    d.trig.count = a.trig.count + 1 ∧ dget R.TRIGGERS d = satAdd32 (dget R.TRIGGERS a) 1 ∧ dget R.LAST_TRIGGER_FRAME d = n ∧
    ∃ t : Trigger, d.trig.waiting = a.trig.waiting ++ [t] ∧ t.ident = a.trig.count + 1 ∧ t.frame = n ∧ t.tick = tk ∧ t.primary = p ∧
      (∀ q, q < 64 → bit t.fired q = decide (firing a x v q ≠ 0) ∧ bit t.forced q = decide (firing a x v q = 2)))

/-- Each ac the patterns are compared with the condition vector; a pattern that begins to match outside its hold-off fires, one whose
auto timer has run out fires as forced, one held off is counted; the patterns that fire in one ac make one trigger, which waits for
its frame's verdict; then its record enters the trigger ring, and the records of its captures may follow. A frame that is lost or paused is not evaluated. -/
def Obligations.PatternsAndTriggers : Prop :=
  (∀ (n tk x : Nat) (a : Dev) (s : State), x = nextEval s.dev → evalTick s.dev x = some (n, tk) → (frameOf s.dev n).lost = false →
    (frameOf s.dev n).paused = false → a = advTo x s.dev →
    Completes (exec .conditionVectorEval s) s (Evaluated n tk x (condVector a x) a)) ∧
  (∀ (n tk x : Nat) (s : State), x = nextEval s.dev → evalTick s.dev x = some (n, tk) → (frameOf s.dev n).lost = true ∨ (frameOf s.dev n).paused = true →
    Completes (exec .conditionVectorEval s) s fun d =>
      d.trig = { s.dev.trig with lastEval := some x } ∧ SameEntriesBut [] s.dev d ∧ ChangesOnly [.now, .time, .trig] s.dev d) ∧
  (∀ (s : State), evalTick s.dev (nextEval s.dev) = none → exec .conditionVectorEval s = .next s) ∧
  (∀ (p n tk x : Nat) (a : Dev) (s : State), p < 64 → x = nextEval s.dev → evalTick s.dev x = some (n, tk) → (frameOf s.dev n).lost = false →
    (frameOf s.dev n).paused = false → a = advTo x s.dev → evalGet s.dev (R.PAT_ENABLE p) = 1 → evalGet s.dev (R.PAT_AUTO p) ≠ 0 →
    (tget Pat.rest s.dev.trig.pats p).autoFrom.getD s.dev.trig.start + evalGet s.dev (R.PAT_AUTO p) ≤ x →
    Completes (exec (.patAutoExpiry p) s) s (Evaluated n tk x (condVector a x) a)) ∧
  (∀ (p n tk x : Nat) (s : State), p < 64 → x = nextEval s.dev → evalTick s.dev x = some (n, tk) →
    (frameOf s.dev n).lost = true ∨ (frameOf s.dev n).paused = true → evalGet s.dev (R.PAT_ENABLE p) = 1 → evalGet s.dev (R.PAT_AUTO p) ≠ 0 →
    (tget Pat.rest s.dev.trig.pats p).autoFrom.getD s.dev.trig.start + evalGet s.dev (R.PAT_AUTO p) ≤ x →
    Completes (exec (.patAutoExpiry p) s) s fun d =>
      d.trig = { s.dev.trig with lastEval := some x } ∧ SameEntriesBut [] s.dev d ∧ ChangesOnly [.now, .time, .trig] s.dev d) ∧
  (∀ (p : Nat) (s : State), p < 64 → evalGet s.dev (R.PAT_AUTO p) = 0 → exec (.patAutoExpiry p) s = .next s) ∧
  (∀ (t : Trigger) (r : List Trigger) (s : State), s.dev.trig.waiting = t :: r → t.frame < s.dev.grid.nextIssue → RingTakes 1 s.dev →
    (∀ c ∈ s.dev.store.caps, c.trig ≠ t.ident) →
    Completes (exec .triggerRecord s) s fun d =>
      d.trig = { s.dev.trig with waiting := r } ∧
      (∃ e : Rec, e.kind = 2 ∧ e.frame = some t.frame ∧ e.link = some t.ident ∧ e.words.headD 0 = t.frame ∧ e.words.getD 2 0 = t.fired ∧
        (ringOf d 1).queue = (ringOf s.dev 1).queue ++ [e]) ∧
      (∀ q, q ≠ 1 → ringOf d q = ringOf s.dev q) ∧ d.store = s.dev.store ∧ SameEntriesBut [] s.dev d ∧
      ChangesOnly [.now, .time, .trig, .host, .store] s.dev d) ∧
  (∀ (t : Trigger) (r : List Trigger) (s : State), s.dev.trig.waiting = t :: r →
    t.frame < s.dev.grid.nextIssue ∨ (frameOf s.dev t.frame).lost = true ∨ (running s.dev = false ∧ ending s.dev = false) →
    Completes (exec .triggerRecord s) s fun d =>
      d.trig = { s.dev.trig with waiting := r } ∧ d.now = max (eAt s.dev t.frame + dget R.VERDICT_LATENCY s.dev) s.dev.now ∧
      (RingTakes 1 s.dev → ∃ e : Rec, e.kind = 2 ∧ e.frame = some t.frame ∧ e.link = some t.ident ∧ e.words.headD 0 = t.frame ∧
        e.words.getD 2 0 = t.fired ∧ (ringOf d 1).queue = (ringOf s.dev 1).queue ++ [e])) ∧
  (∀ (s : State), s.dev.trig.waiting = [] → exec .triggerRecord s = .next s)

/-- A mirrored device sends its word of each frame that runs and keeps it until the partner's is there; equal words pass in silence,
different ones are counted and reported; while an undefined use is in force the word's flags and class bits are free (log entry 131);
a frame without the partner's status by E + 136 runs alone and is counted, and a secondary
that has run alone for TAKEOVER_FRAMES takes the lines over. -/
def Obligations.MirrorWords : Prop :=
  (∀ (n w fp : Nat) (s : State), n = s.dev.grid.nextMv → ringPassed s.dev n = true → n < s.dev.grid.nextDead →
    (64 < (frameOf s.dev n).la + (frameOf s.dev n).lr → n < s.dev.grid.nextAlone) → dget R.MIRROR_ROLE s.dev ≠ 0 → frameRuns s.dev n = true →
    s.dev.undef = false → w = verdictWord s.dev n → fp = (frameOf s.dev n).fpDigest.getD 0 →
    Completes (exec .mirrorVerdictSend s) s fun d =>
      d.now = max (eAt s.dev n + 72 + (frameOf s.dev n).la + (frameOf s.dev n).lr) s.dev.now ∧ d.grid = { s.dev.grid with nextMv := n + 1 } ∧
      FlitSent 2 8 [n % 2 ^ 24, w, fp] s.dev d ∧ linkOf d 0 = linkOf s.dev 0 ∧ linkOf d 1 = linkOf s.dev 1 ∧
      (tget none s.dev.lnk.theirs n = none →
        tget none d.lnk.ours n = some (w, fp) ∧ SameEntriesBut [] s.dev d ∧ ChangesOnly [.now, .time, .grid, .lnk] s.dev d)) ∧
  (∀ (n fp : Nat) (s : State), n = s.dev.grid.nextMv → ringPassed s.dev n = true → n < s.dev.grid.nextDead →
    (64 < (frameOf s.dev n).la + (frameOf s.dev n).lr → n < s.dev.grid.nextAlone) → dget R.MIRROR_ROLE s.dev ≠ 0 → frameRuns s.dev n = true →
    s.dev.undef = true → fp = (frameOf s.dev n).fpDigest.getD 0 →
    Completes (exec .mirrorVerdictSend s) s fun d =>
      d.grid = { s.dev.grid with nextMv := n + 1 } ∧ d.freeCtr = s.dev.freeCtr + 1 ∧
      ∃ w, bits w 55 32 = n % 2 ^ 24 ∧ FlitSent 2 8 [n % 2 ^ 24, w, fp] s.dev d) ∧
  (∀ (n w fp tw : Nat) (s : State), n = s.dev.grid.nextMv → ringPassed s.dev n = true → n < s.dev.grid.nextDead →
    (64 < (frameOf s.dev n).la + (frameOf s.dev n).lr → n < s.dev.grid.nextAlone) → dget R.MIRROR_ROLE s.dev ≠ 0 → frameRuns s.dev n = true →
    s.dev.undef = false → w = verdictWord s.dev n → fp = (frameOf s.dev n).fpDigest.getD 0 → tget none s.dev.lnk.theirs n = some (tw, fp) → bits w 58 56 = 0 →
    bits tw 58 56 = 0 → s.dev.lnk.rejoin = none → s.dev.lnk.peerBack = none →
    Completes (exec .mirrorVerdictSend s) s fun d =>
      tget none d.lnk.theirs n = none ∧ tget none d.lnk.ours n = none ∧
      Rose R.MIRROR_DISAGREE (if bits w 31 0 = bits tw 31 0 then 0 else 1) s.dev d ∧
      (bits w 31 0 ≠ bits tw 31 0 → LastFault 0x0443 d) ∧ SameEntriesBut (R.MIRROR_DISAGREE.key :: reportKeys) s.dev d) ∧
  (∀ (s : State), ringPassed s.dev s.dev.grid.nextMv = false → exec .mirrorVerdictSend s = .next s) ∧
  (∀ (n : Nat) (s : State), n = s.dev.grid.nextAlone → ringPassed s.dev n = true → dget R.MIRROR_ROLE s.dev = 1 → frameRuns s.dev n = true →
    s.dev.lnk.status.contains n = true →
    Completes (exec .mirrorAloneCheck s) s fun d =>
      d.now = max (eAt s.dev n + 136) s.dev.now ∧ d.grid = { s.dev.grid with nextAlone := n + 1 } ∧
      d.lnk = { s.dev.lnk with
        okRun := s.dev.lnk.okRun + 1, aloneRun := 0, missed := false, flawed := false
        peerBack := if s.dev.lnk.missed then some n else s.dev.lnk.peerBack } ∧
      frameOf d n = { frameOf s.dev n with active := decide (dget R.MIRROR_ACTIVE s.dev = 1) } ∧ (∀ m, m ≠ n → frameOf d m = frameOf s.dev m) ∧
      SameEntriesBut [] s.dev d ∧ ChangesOnly [.now, .time, .grid, .lnk, .frames] s.dev d) ∧
  (∀ (n : Nat) (s : State), n = s.dev.grid.nextAlone → ringPassed s.dev n = true → dget R.MIRROR_ROLE s.dev ≠ 0 → frameRuns s.dev n = false →
    Completes (exec .mirrorAloneCheck s) s fun d =>
      d.now = max (eAt s.dev n + 136) s.dev.now ∧ d.grid = { s.dev.grid with nextAlone := n + 1 } ∧
      frameOf d n = { frameOf s.dev n with active := decide (dget R.MIRROR_ACTIVE s.dev = 1) } ∧
      SameEntriesBut [] s.dev d ∧ ChangesOnly [.now, .time, .grid, .frames] s.dev d) ∧
  (∀ (s : State), ringPassed s.dev s.dev.grid.nextAlone = true → dget R.MIRROR_ROLE s.dev = 0 →
    Completes (exec .mirrorAloneCheck s) s fun d =>
      d.grid = { s.dev.grid with nextAlone := s.dev.grid.nextAlone + 1 } ∧ SameEntriesBut [] s.dev d ∧ ChangesOnly [.grid] s.dev d) ∧
  (∀ (n : Nat) (s : State), n = s.dev.grid.nextAlone → ringPassed s.dev n = true → dget R.MIRROR_ROLE s.dev ≠ 0 → frameRuns s.dev n = true →
    s.dev.lnk.status.contains n = false →
    Completes (exec .mirrorAloneCheck s) s fun d =>
      (frameOf d n).alone = true ∧ dget R.MIRROR_ALONE_FRAMES d = satAdd32 (dget R.MIRROR_ALONE_FRAMES s.dev) 1 ∧
      d.lnk = { s.dev.lnk with
        aloneRun := s.dev.lnk.aloneRun + 1, okRun := 0, flawed := false
        missed := s.dev.lnk.missed || (!s.dev.lnk.flawed && decide (linkState s.dev 2 = 2)) } ∧
      (frameOf d n).active = decide (dget R.MIRROR_ACTIVE d = 1) ∧
      (dget R.MIRROR_ROLE s.dev = 2 → dget R.MIRROR_LINE_POLICY s.dev = 1 → dget R.MIRROR_ACTIVE s.dev = 0 →
        dget R.TAKEOVER_FRAMES s.dev ≤ s.dev.lnk.aloneRun + 1 →
        dget R.MIRROR_ACTIVE d = 1 ∧ dget R.MIRROR_TAKEOVERS d = satAdd32 (dget R.MIRROR_TAKEOVERS s.dev) 1 ∧ LastFault 0x0444 d) ∧
      SameEntriesBut (R.MIRROR_ALONE_FRAMES.key :: R.MIRROR_ACTIVE.key :: R.MIRROR_TAKEOVERS.key :: reportKeys) s.dev d ∧
      ChangesOnly [.now, .time, .grid, .dict, .frames, .lnk, .host, .flt] s.dev d) ∧
  (∀ (s : State), ringPassed s.dev s.dev.grid.nextAlone = false → exec .mirrorAloneCheck s = .next s)

/-- A request of client c is refused with an abort code: nothing changes; the host reads the code in its abort register (R379), and the
last code that another client was answered with is kept for it (R16). -/
def TurnedAway (c code : Nat) (a d : Dev) : Prop :=
  SameEntriesBut [] a d ∧ ChangesOnly [.ctl] a d ∧ (c = 0 → d.ctl.abortCount = satAdd32 a.ctl.abortCount 1 ∧ d.ctl.lastAbort % 2 ^ 16 = code) ∧
  (c ≠ 0 → tget 0 d.ctl.aborts c = code)

/-- A record with these properties joins the queue of ring r, and the other rings stay as they are. -/
def Queued (r : Nat) (P : Rec → Prop) (a d : Dev) : Prop :=
  (∃ e, P e ∧ (ringOf d r).queue = (ringOf a r).queue ++ [e]) ∧ ∀ q, q ≠ r → ringOf d q = ringOf a q

/-- The copier of a half can take the next unit of a copy (R305). -/
def unitReady (d : Dev) (half : Nat) (c : Cap) : Bool :=
  c.status.isNone && (match nextUnit c half with
    | some u => unitThere d (c.start + u.1) u.2 && !unitGone d (c.start + u.1) u.2 && unitRoom d c half u
    | none => false)

/-- A unit that a copy still has to read on a half is about to be overwritten (R307). -/
def unitLost (d : Dev) (half : Nat) (c : Cap) : Bool :=
  c.status.isNone && (match nextUnit c half with
    | some (b, _) => (if half = 0 then c.west else c.east).zipIdx.any (fun e =>
        let k := if half = 0 then c.doneW else c.doneE
        let n := (if half = 0 then c.west else c.east).length
        let j := if e.2 < k % n then b + 1 else b
        decide (j < c.blocks) && unitGone d (c.start + j) e.1)
    | none => false)

/-- A copy after it has read one more unit. -/
def copied (d : Dev) (half : Nat) (c : Cap) (u : Nat × CapChan) : Cap :=
  { c with
    data := tset [] c.data u.2.chan (tget [] c.data u.2.chan ++ unitSamples d (c.start + u.1) u.2)
    doneW := if half = 0 then c.doneW + 1 else c.doneW, doneE := if half = 0 then c.doneE else c.doneE + 1 }

/-- A copy that has ended, its record made unless its trigger's is still to come (R311). -/
def ended (d : Dev) (status valid : Nat) (c : Cap) : Cap :=
  { c with status := some status, reason := 0, valid := valid, recDue := d.trig.waiting.any (fun t => decide (t.ident = c.trig)) }

/-- The entries that follow the captures held. -/
def storeKeys : List Nat := [R.FREE_PAGES_WEST.key, R.FREE_PAGES_EAST.key, R.CAPTURES_HELD.key]

/-- The copier takes the next unit of the copy that comes first and fills the elastic buffers of its dies; a copy that has read its
window is COMPLETE and its record follows; one that would be overrun ends TRUNCATED with the blocks it has, or is shed when it has
none; the record follows at once or after that of its trigger. A PSRAM transaction empties up to 1 KiB of its die; one that times out is reported and tried again, and the third in a row
retires the die, and the captures with a page on it are DAMAGED. A release gives the capture's pages and slot back, with the next
generation, and ends its queued review jobs; a handle in use or unknown is refused. -/
def Obligations.CaptureStore : Prop :=
  (∀ (half : Nat) (c : Cap) (u : Nat × CapChan) (s : State), half < 2 → firstCap (s.dev.store.caps.filter (unitReady s.dev half)) = some c →
    nextUnit c half = some u → ¬ (nextUnit (copied s.dev half c u) 0 = none ∧ nextUnit (copied s.dev half c u) 1 = none) →
    Completes (exec (.copyUnit half) s) s fun d =>
      d.store.caps = s.dev.store.caps.map (fun x => if x.trig = c.trig ∧ x.group = c.group then copied s.dev half c u else x) ∧
      d.store.elastic = (unitDies c half u).foldl (fun t x => tset 0 t x.1 (tget 0 t x.1 + x.2)) s.dev.store.elastic ∧
      dget R.ELASTIC_MAX d = (unitDies c half u).foldl (fun m x => max m (tget 0 d.store.elastic x.1)) (dget R.ELASTIC_MAX s.dev) ∧
      SameEntriesBut [R.ELASTIC_MAX.key] s.dev d ∧ ChangesOnly [.dict, .store] s.dev d) ∧
  (∀ (half : Nat) (c : Cap) (u : Nat × CapChan) (s : State), half < 2 → firstCap (s.dev.store.caps.filter (unitReady s.dev half)) = some c →
    nextUnit c half = some u → nextUnit (copied s.dev half c u) 0 = none → nextUnit (copied s.dev half c u) 1 = none →
    (∀ t ∈ s.dev.trig.waiting, t.ident ≠ c.trig) → RingTakes 2 s.dev → 15 < c.net →
    Completes (exec (.copyUnit half) s) s fun d =>
      d.store.caps = s.dev.store.caps.map (fun x => if x.trig = c.trig ∧ x.group = c.group then
        { copied s.dev half c u with status := some 0, reason := 0, valid := c.blocks, recDue := false } else x) ∧
      dget R.CAPTURES_COMPLETE d = satAdd32 (dget R.CAPTURES_COMPLETE s.dev) 1 ∧
      Queued 2 (fun e => e.kind = 3 ∧ e.frame = some c.frame ∧ e.link = some c.trig) s.dev d ∧
      SameEntriesBut (R.ELASTIC_MAX.key :: R.CAPTURES_COMPLETE.key :: storeKeys) s.dev d ∧ ChangesOnly [.dict, .store, .host] s.dev d) ∧
  (∀ (half : Nat) (c : Cap) (u : Nat × CapChan) (s : State), half < 2 → firstCap (s.dev.store.caps.filter (unitReady s.dev half)) = some c →
    nextUnit c half = some u → nextUnit (copied s.dev half c u) 0 = none → nextUnit (copied s.dev half c u) 1 = none →
    Completes (exec (.copyUnit half) s) s fun d =>
      d.store.caps = s.dev.store.caps.map (fun x => if x.trig = c.trig ∧ x.group = c.group then ended s.dev 0 c.blocks (copied s.dev half c u) else x) ∧
      d.store.elastic = (unitDies c half u).foldl (fun t x => tset 0 t x.1 (tget 0 t x.1 + x.2)) s.dev.store.elastic ∧
      Rose R.CAPTURES_COMPLETE (if s.dev.trig.waiting.any (fun t => decide (t.ident = c.trig)) then 0 else 1) s.dev d) ∧
  (∀ (half : Nat) (s : State), half < 2 → s.dev.store.caps.filter (unitReady s.dev half) = [] → exec (.copyUnit half) s = .next s) ∧
  (∀ (half : Nat) (c : Cap) (s : State), half < 2 → firstCap (s.dev.store.caps.filter (unitLost s.dev half)) = some c → blocksDone c ≠ 0 →
    (∀ t ∈ s.dev.trig.waiting, t.ident ≠ c.trig) → RingTakes 2 s.dev → 15 < c.net →
    Completes (exec (.copyTruncate half) s) s fun d =>
      d.store.caps = s.dev.store.caps.map (fun x => if x.trig = c.trig ∧ x.group = c.group then
        { c with status := some 1, reason := 0, valid := blocksDone c, recDue := false } else x) ∧
      dget R.CAPTURES_TRUNCATED d = satAdd32 (dget R.CAPTURES_TRUNCATED s.dev) 1 ∧
      Queued 2 (fun e => e.kind = 3 ∧ e.frame = some c.frame ∧ e.link = some c.trig) s.dev d ∧
      SameEntriesBut (R.CAPTURES_TRUNCATED.key :: storeKeys) s.dev d ∧ ChangesOnly [.dict, .store, .host] s.dev d) ∧
  (∀ (half : Nat) (c : Cap) (s : State), half < 2 → firstCap (s.dev.store.caps.filter (unitLost s.dev half)) = some c → blocksDone c = 0 →
    (∀ t ∈ s.dev.trig.waiting, t.ident ≠ c.trig) → RingTakes 2 s.dev →
    Completes (exec (.copyTruncate half) s) s fun d =>
      (∀ x ∈ d.store.caps, ¬ (x.trig = c.trig ∧ x.group = c.group)) ∧ dget R.CAPTURES_SHED d = satAdd32 (dget R.CAPTURES_SHED s.dev) 1 ∧
      dget (R.GROUP_SHED c.group) d = satAdd32 (dget (R.GROUP_SHED c.group) s.dev) 1 ∧
      (∀ k, c.slot = some k → tget 1 d.store.gens k = c.gen % 0xFFFFF + 1)) ∧
  (∀ (half : Nat) (c : Cap) (s : State), half < 2 → firstCap (s.dev.store.caps.filter (unitLost s.dev half)) = some c → blocksDone c ≠ 0 →
    Completes (exec (.copyTruncate half) s) s fun d =>
      d.store.caps = s.dev.store.caps.map (fun x => if x.trig = c.trig ∧ x.group = c.group then ended s.dev 1 (blocksDone c) c else x) ∧
      Rose R.CAPTURES_TRUNCATED (if s.dev.trig.waiting.any (fun t => decide (t.ident = c.trig)) then 0 else 1) s.dev d) ∧
  (∀ (half : Nat) (c : Cap) (s : State), half < 2 → firstCap (s.dev.store.caps.filter (unitLost s.dev half)) = some c → blocksDone c = 0 →
    (∃ t ∈ s.dev.trig.waiting, t.ident = c.trig) →
    Completes (exec (.copyTruncate half) s) s fun d =>
      d.store.caps = s.dev.store.caps.map (fun x => if x.trig = c.trig ∧ x.group = c.group then
        { c with status := some 2, reason := 4, valid := 0, recDue := true, pages := [], slot := none } else x) ∧
      SameEntriesBut storeKeys s.dev d ∧ ChangesOnly [.dict, .store] s.dev d) ∧
  (∀ (half : Nat) (s : State), half < 2 → s.dev.store.caps.filter (unitLost s.dev half) = [] → exec (.copyTruncate half) s = .next s) ∧
  (∀ (die : Nat) (r : Bool) (s : State), die < 32 →
    Completes (exec (.psramTransactionDone die r) s) s fun d =>
      (∀ k, tget 0 d.store.elastic k = if k = die then tget 0 s.dev.store.elastic die - 1024 else tget 0 s.dev.store.elastic k) ∧
      (∀ k, tget 0 d.store.fails k = if k = die then 0 else tget 0 s.dev.store.fails k) ∧ d.store.caps = s.dev.store.caps ∧
      Rose R.REFRESH_COLLISIONS (if r then 1 else 0) s.dev d ∧ SameEntriesBut [R.REFRESH_COLLISIONS.key] s.dev d ∧ ChangesOnly [.dict, .store, .flt] s.dev d) ∧
  (∀ (page : Nat) (s : State), page < 32768 → tget 0 s.dev.store.fails (page % 32) < 2 →
    Completes (exec (.psramTimeout page) s) s fun d =>
      (∀ k, tget 0 d.store.fails k = if k = page % 32 then tget 0 s.dev.store.fails k + 1 else tget 0 s.dev.store.fails k) ∧
      dget R.PSRAM_RETRIES d = satAdd32 (dget R.PSRAM_RETRIES s.dev) 1 ∧ LastFault 0x1281 d ∧ d.store.caps = s.dev.store.caps ∧
      SameEntriesBut (R.PSRAM_RETRIES.key :: reportKeys) s.dev d ∧ ChangesOnly [.dict, .store, .host, .flt] s.dev d) ∧
  (∀ (page : Nat) (s : State), page < 32768 → 2 ≤ tget 0 s.dev.store.fails (page % 32) →
    (∀ c ∈ s.dev.store.caps, ∀ p ∈ c.pages, p % 32 ≠ page % 32) →
    Completes (exec (.psramTimeout page) s) s fun d =>
      (∀ k, bit (dget R.PSRAM_RETIRED d) k = (decide (k = page % 32) || bit (dget R.PSRAM_RETIRED s.dev) k)) ∧ LastFault 0x2282 d ∧
      d.store.caps = s.dev.store.caps ∧ SameEntriesBut (R.PSRAM_RETIRED.key :: storeKeys ++ reportKeys) s.dev d ∧
      ChangesOnly [.dict, .store, .host, .flt] s.dev d) ∧
  (∀ (page : Nat) (s : State), page < 32768 → 2 ≤ tget 0 s.dev.store.fails (page % 32) →
    Completes (exec (.psramTimeout page) s) s fun d =>
      (∀ k, bit (dget R.PSRAM_RETIRED d) k = (decide (k = page % 32) || bit (dget R.PSRAM_RETIRED s.dev) k)) ∧ LastFault 0x2282 d ∧
      tget 0 d.store.fails (page % 32) = 0 ∧
      (∀ x ∈ d.store.caps, x.slot.isSome = true → (∃ p ∈ x.pages, p % 32 = page % 32) → x.status = some 3)) ∧
  (∀ (c h k : Nat) (x : Cap) (s : State), Asks c s.dev → h < 2 ^ 32 → capOf s.dev h = some x → x.status.isSome = true → x.reading = [] →
    x.revReading = false → x.recDue = false → x.slot = some k → (∀ q, q < 2 → ∀ j ∈ (clusOf s.dev q).queue, j.handle ≠ h) →
    Completes (exec (.captureRelease c h) s) s fun d =>
      d.store = { s.dev.store with
        caps := s.dev.store.caps.filter (fun y => decide (¬ (y.trig = x.trig ∧ y.group = x.group)))
        gens := tset 1 s.dev.store.gens k (x.gen % 0xFFFFF + 1) } ∧
      (∀ q, clusOf d q = clusOf s.dev q) ∧ SameEntriesBut ((R.CLUSTER_QUEUED 0).key :: (R.CLUSTER_QUEUED 1).key :: storeKeys) s.dev d ∧ ChangesOnly [.dict, .store, .clus] (asked c s.dev) d) ∧
  (∀ (c h k : Nat) (x : Cap) (s : State), Asks c s.dev → h < 2 ^ 32 → capOf s.dev h = some x → x.status.isSome = true → x.reading = [] →
    x.revReading = false → x.recDue = false → x.slot = some k →
    Completes (exec (.captureRelease c h) s) s fun d =>
      d.store.caps = s.dev.store.caps.filter (fun y => decide (¬ (y.trig = x.trig ∧ y.group = x.group))) ∧
      d.store.gens = tset 1 s.dev.store.gens k (x.gen % 0xFFFFF + 1) ∧
      (∀ q, q < 2 → (clusOf d q).queue = (clusOf s.dev q).queue.filter (fun j => decide (j.handle ≠ handleOf x)) ∧
        (clusOf d q).job = (clusOf s.dev q).job)) ∧
  (∀ (c h : Nat) (s : State), Asks c s.dev → h < 2 ^ 32 → capOf s.dev h = none →
    Completes (exec (.captureRelease c h) s) s (TurnedAway c 0xA00D s.dev)) ∧
  (∀ (c h : Nat) (x : Cap) (s : State), Asks c s.dev → h < 2 ^ 32 → capOf s.dev h = some x →
    x.status = none ∨ x.reading ≠ [] ∨ x.revReading = true ∨ x.recDue = true →
    Completes (exec (.captureRelease c h) s) s (TurnedAway c 0xA00C s.dev))

/-- The samples of the segment under a stream's cursor, channel by channel. -/
def segData (d : Dev) (n : Nat) : List (List Nat) :=
  (streamSet d n).map (fun c => (List.range (segBlocks d n)).flatMap (fun j => unitSamples d (((engOf d n).seg * segBlocks d n + j : Nat) : Int) c))

/-- The bytes of that segment. -/
def segImage (d : Dev) (n : Nat) : List Nat := layoutBytes (dget (R.STREAM_LAYOUT n) d) (segData d n)

/-- Blocks of that segment, from its first on, whose samples are in the ring. -/
def segThere (d : Dev) (n : Nat) : Nat :=
  ((List.range (segBlocks d n)).takeWhile (fun j => blockThere d n ((engOf d n).seg * segBlocks d n + j))).length

/-- The first of its blocks that has not been written whole is in the ring no longer. -/
def segGone (d : Dev) (n : Nat) : Prop :=
  piecesSent d n < segThere d n ∧ blockGone d n ((engOf d n).seg * segBlocks d n + blocksSent d n) = true

/-- The bursts of that segment that may be written now. -/
def segRest (d : Dev) (n : Nat) : Writes :=
  ((List.range (segThere d n)).flatMap (blockBursts d n)).drop (engOf d n).sent

/-- A stream channel whose buffer has room writes the blocks of its segment that are in the ring, in bursts, as far as its credit
covers them; a segment that an unpaced channel writes whole stands behind the head of its data buffer, wrapped at its end, and nothing
else of host memory changes; with its last burst the cursor and the head move on and the segment record follows. A segment that has
begun and is overwritten ends with the blocks written. (The bytes of layout 1 over channels of unequal rates are not stated by the
spec: free values.) A stream that the ring overruns before it has begun a segment drops segments and counts them. -/
def Obligations.StreamSegments : Prop :=
  (∀ (n lim size base : Nat) (g : Eng) (s : State), n < 16 → g = engOf s.dev n → segRoom s.dev n = true → preparing s.dev = false → ¬ segGone s.dev n → g.sent = 0 →
    g.sentBytes = 0 → segThere s.dev n = segBlocks s.dev n → (segRest s.dev n).length ≤ lim → 256 ≤ shareOf s.dev n →
    size = bufSize s.dev n → base = dget (R.DATA_BUF_ADDR n) s.dev → g.head < size → g.marks = [] → inWindow s.dev base size = true →
    RingTakes (16 + n) s.dev →
    CompletesMem (exec (.streamSegment ⟨n, lim⟩) s) s fun d m =>
      (dget (R.STREAM_LAYOUT n) s.dev ≠ 1 ∨ evenSet (segData s.dev n) = true →
        ∀ i, i < (segImage s.dev n).length → memGet m (base + (g.head + i) % size) = some (BitVec.ofNat 8 ((segImage s.dev n).getD i 0))) ∧
      (∀ a, (∀ i, i < segBytes s.dev n → a ≠ base + (g.head + i) % size) → memGet m a = memGet s.mem a) ∧
      (engOf d n).seg = g.seg + 1 ∧ (engOf d n).head = (g.head + segBytes s.dev n) % size ∧ (engOf d n).lost = 0 ∧ (engOf d n).sent = 0 ∧
      (engOf d n).used = g.used ++ [⟨segBytes s.dev n, none⟩] ∧ (∀ k, k ≠ n → engOf d k = engOf s.dev k) ∧
      dget (R.BYTES_MOVED n) d = (dget (R.BYTES_MOVED n) s.dev + segBytes s.dev n) % 2 ^ 64 ∧
      Queued (16 + n) (fun e => e.kind = 0x10 ∧ e.audit = false ∧ e.words.getD 2 0 = g.head) s.dev d ∧
      SameEntriesBut [(R.BYTES_MOVED n).key] s.dev d ∧ ChangesOnly [.dict, .engs, .host, .freeCtr] s.dev d) ∧
  (∀ (n lim : Nat) (g : Eng) (x : Nat × Nat × (Dev × Writes)) (s : State), n < 16 → g = engOf s.dev n → segRoom s.dev n = true → ¬ segGone s.dev n →
    preparing s.dev = false ∨ g.sent ≠ 0 → x = sendBursts n lim (segRest s.dev n) (s.dev, []) →
    CompletesMem (exec (.streamSegment ⟨n, lim⟩) s) s fun d m =>
      m = memWrites s.mem x.2.2.2 ∧ dget (R.BYTES_MOVED n) d = (dget (R.BYTES_MOVED n) s.dev + x.2.1) % 2 ^ 64 ∧
      (if segThere s.dev n = segBlocks s.dev n ∧ x.1 = (segRest s.dev n).length then
        (engOf d n).seg = g.seg + 1 ∧ (engOf d n).sent = 0 ∧ (engOf d n).head = (g.head + segBytes s.dev n) % bufSize s.dev n
       else (engOf d n).seg = g.seg ∧ (engOf d n).sent = g.sent + x.1 ∧ (engOf d n).head = g.head) ∧
      (∀ k, k ≠ n → engOf d k = engOf s.dev k)) ∧
  (∀ (n lim : Nat) (g : Eng) (s : State), n < 16 → g = engOf s.dev n → segRoom s.dev n = true → segGone s.dev n → g.sent ≠ 0 → g.marks = [] →
    RingTakes (16 + n) s.dev →
    CompletesMem (exec (.streamSegment ⟨n, lim⟩) s) s fun d m =>
      m = s.mem ∧ (engOf d n).seg = g.seg + 1 ∧ (engOf d n).sent = 0 ∧ (engOf d n).lost = 0 ∧
      Queued (16 + n) (fun e => e.kind = 0x10 ∧ e.audit = false ∧ e.words.getD 1 0 % 2 ^ 32 = blocksSent s.dev n % 2 ^ 32) s.dev d ∧
      (∀ k, k ≠ n → engOf d k = engOf s.dev k) ∧ SameEntriesBut [] s.dev d ∧ ChangesOnly [.dict, .engs, .host] s.dev d) ∧
  (∀ (n lim : Nat) (s : State), n < 16 → (segRoom s.dev n = false ∨ ((segGone s.dev n ∨ preparing s.dev = true) ∧ (engOf s.dev n).sent = 0)) →
    exec (.streamSegment ⟨n, lim⟩) s = .next s) ∧
  (∀ (n k : Nat) (g : Eng) (s : State), n < 16 → streams s.dev n = true → g = engOf s.dev n → g.sent = 0 →
    blockGone s.dev n (g.seg * segBlocks s.dev n) = true → k = max (g.seg + 1) ((ringFront s.dev - 140400) / segLen s.dev n) - g.seg →
    Completes (exec (.streamOverrun n) s) s fun d =>
      engOf d n = { g with seg := g.seg + k, lost := g.lost + k } ∧ (∀ j, j ≠ n → engOf d j = engOf s.dev j) ∧
      dget (R.LOST_SEGMENTS n) d = satAdd32 (dget (R.LOST_SEGMENTS n) s.dev) k ∧ SameEntriesBut [(R.LOST_SEGMENTS n).key] s.dev d ∧
      ChangesOnly [.dict, .engs] s.dev d) ∧
  (∀ (n : Nat) (s : State), n < 16 →
    (streams s.dev n = false ∨ (engOf s.dev n).sent ≠ 0 ∨ blockGone s.dev n ((engOf s.dev n).seg * segBlocks s.dev n) = false) →
    exec (.streamOverrun n) s = .next s)

/-- A descriptor that is refused by the checks of Table 12.7 is taken with its status and moves no byte; one that passes writes the
capture's bytes to its destination, in whole bursts, as far as its credit covers them, and nothing else of host memory, and the
capture counts as read by that channel; a release descriptor releases its capture unless something reads it; the end of a descriptor writes its status record, releases the capture of a copy and release, and moves DESC_CONSUMER
on. The third failed fetch in a row stops the channel with an error. A start needs a kind, a stopped channel and a buffer inside a
window; an abort ends in STOPPED with its record, a segment that has begun with what was written of it. -/
def Obligations.Transfers : Prop :=
  (∀ (c n v : Nat) (s : State), Asks c s.dev → n < 16 → v < 2 ^ 32 →
    Completes (exec (.descProducer c n v) s) s fun d =>
      dget (R.DESC_PRODUCER n) d = v ∧ SameEntriesBut [(R.DESC_PRODUCER n).key] s.dev d ∧ ChangesOnly [.dict] (asked c s.dev) d) ∧
  (∀ (n moved : Nat) (w : List Nat) (s : State), n < 16 → w.length = 8 → (∀ x ∈ w, x < 2 ^ 64) → moved < 2 ^ 64 → transfers s.dev n = true →
    hostOpen s.dev = true → (engOf s.dev n).cur = none → preparing s.dev = false → descCheck s.dev w ≠ 0 →
    (descOp w ≠ 2 ∧ descOp w ≠ 3 → CompletesMem (exec (.descCopy n w moved) s) s fun d m =>
      m = s.mem ∧ engOf d n = { engOf s.dev n with cur := some ⟨w, descCheck s.dev w, 0⟩, tries := 0 } ∧ ChangesOnly [.engs, .flt] s.dev d) ∧
    (descOp w = 2 → CompletesMem (exec (.descCopyRelease n w moved) s) s fun d m =>
      m = s.mem ∧ engOf d n = { engOf s.dev n with cur := some ⟨w, descCheck s.dev w, 0⟩, tries := 0 } ∧ ChangesOnly [.engs, .flt] s.dev d)) ∧
  (∀ (n moved k : Nat) (w bs : List Nat) (ws : Writes) (c : Cap) (s : State), n < 16 → w.length = 8 → (∀ x ∈ w, x < 2 ^ 64) → moved < 2 ^ 64 →
    transfers s.dev n = true → hostOpen s.dev = true → 256 ≤ shareOf s.dev n → (engOf s.dev n).cur = none → preparing s.dev = false → descCheck s.dev w = 0 →
    capOf s.dev (descHandle w) = some c → c.valid = c.blocks →
    bs = ((layoutBytes (descLayout w) ((c.west ++ c.east).map (capSamples c))).drop (descOffset w)).take (descLength w) →
    ws = within moved (bursts (bs.length + 1) (descDst w) bs) → k = (ws.map (fun x => x.2.length)).sum →
    ∀ mk ∈ (if descOp w = 1 then [Instr.descCopy n w moved] else if descOp w = 2 then [Instr.descCopyRelease n w moved] else []),
    CompletesMem (exec mk s) s fun d m =>
      k ≤ moved ∧ (bs.length ≤ moved → k = bs.length) ∧
      (∀ i, i < k → memGet m (descDst w + i) = some (BitVec.ofNat 8 (bs.getD i 0))) ∧
      (∀ a, a < descDst w ∨ descDst w + k ≤ a → memGet m a = memGet s.mem a) ∧
      (engOf d n).cur = some ⟨w, 0, k⟩ ∧ (engOf d n).tries = 0 ∧
      d.store = { s.dev.store with caps := s.dev.store.caps.map (fun x => if x.trig = c.trig ∧ x.group = c.group then
        { c with reading := if c.reading.contains n then c.reading else n :: c.reading } else x) } ∧
      dget (R.BYTES_MOVED n) d = (dget (R.BYTES_MOVED n) s.dev + k) % 2 ^ 64 ∧ SameEntriesBut [(R.BYTES_MOVED n).key] s.dev d ∧
      ChangesOnly [.dict, .engs, .store, .flt] s.dev d) ∧
  (∀ (n moved from0 : Nat) (w : List Nat) (c : Cap) (s : State), n < 16 → w.length = 8 → (∀ x ∈ w, x < 2 ^ 64) → moved < 2 ^ 64 →
    transfers s.dev n = true → hostOpen s.dev = true → capOf s.dev (descHandle w) = some c →
    ((engOf s.dev n).cur = none ∧ preparing s.dev = false ∧ descCheck s.dev w = 0 ∧ from0 = 0) ∨
      ((engOf s.dev n).cur = some ⟨w, 0, from0⟩ ∧ c.status ≠ some 3) →
    ∀ mk ∈ (if descOp w = 1 then [Instr.descCopy n w moved] else if descOp w = 2 then [Instr.descCopyRelease n w moved] else []),
    CompletesMem (exec mk s) s fun d _ =>
      ∃ k, k ≤ moved - from0 ∧ (engOf d n).cur = some ⟨w, 0, from0 + k⟩ ∧ (engOf d n).tries = 0 ∧
        dget (R.BYTES_MOVED n) d = (dget (R.BYTES_MOVED n) s.dev + k) % 2 ^ 64 ∧
        capOf d (descHandle w) = some { c with reading := if c.reading.contains n then c.reading else n :: c.reading }) ∧
  (∀ (n moved : Nat) (w : List Nat) (s : State), n < 16 → w.length = 8 → (∀ x ∈ w, x < 2 ^ 64) → moved < 2 ^ 64 →
    (transfers s.dev n = false ∨ hostOpen s.dev = false ∨ ((engOf s.dev n).cur = none ∧ preparing s.dev = true) ∨
      ((engOf s.dev n).cur.any (fun x => decide (x.words = w ∧ x.status = 0)) = true ∧
        (capOf s.dev (descHandle w)).any (fun c => decide (c.status = some 3)) = true)) →
    exec (.descCopy n w moved) s = .next s ∧ exec (.descCopyRelease n w moved) s = .next s ∧ exec (.descRelease n w) s = .next s) ∧
  (∀ (n : Nat) (w : List Nat) (x : Cap) (s : State), n < 16 → w.length = 8 → (∀ y ∈ w, y < 2 ^ 64) → transfers s.dev n = true →
    hostOpen s.dev = true → preparing s.dev = false → (engOf s.dev n).cur = none → descOp w = 3 → descCheck s.dev w = 0 → capOf s.dev (descHandle w) = some x →
    x.reading = [] → x.revReading = false →
    Completes (exec (.descRelease n w) s) s fun d =>
      engOf d n = { engOf s.dev n with cur := some ⟨w, 0, 0⟩, tries := 0 } ∧
      d.store.caps = s.dev.store.caps.filter (fun y => decide (¬ (y.trig = x.trig ∧ y.group = x.group))) ∧
      (∀ j, j ≠ n → engOf d j = engOf s.dev j)) ∧
  (∀ (n : Nat) (w : List Nat) (x : Cap) (s : State), n < 16 → w.length = 8 → (∀ y ∈ w, y < 2 ^ 64) → transfers s.dev n = true →
    hostOpen s.dev = true → preparing s.dev = false → (engOf s.dev n).cur = none → descOp w = 3 → descCheck s.dev w = 0 → capOf s.dev (descHandle w) = some x →
    x.reading ≠ [] ∨ x.revReading = true →
    Completes (exec (.descRelease n w) s) s fun d =>
      engOf d n = { engOf s.dev n with cur := some ⟨w, 3, 0⟩, tries := 0 } ∧ ChangesOnly [.engs, .flt] s.dev d) ∧
  (∀ (n : Nat) (w : List Nat) (s : State), n < 16 → w.length = 8 → (∀ y ∈ w, y < 2 ^ 64) → transfers s.dev n = true →
    hostOpen s.dev = true → preparing s.dev = false → (engOf s.dev n).cur = none → descOp w = 3 → descCheck s.dev w ≠ 0 →
    Completes (exec (.descRelease n w) s) s fun d =>
      engOf d n = { engOf s.dev n with cur := some ⟨w, descCheck s.dev w, 0⟩, tries := 0 } ∧ ChangesOnly [.engs, .flt] s.dev d) ∧
  (∀ (n e : Nat) (x : Desc) (s : State), n < 16 → (engOf s.dev n).cur = some x → x.status ≠ 0 → RingTakes (16 + n) s.dev →
    e = max (dget (R.DESC_RING_ENTRIES n) s.dev) 1 →
    Completes (exec (.transferDone n) s) s fun d =>
      engOf d n = { engOf s.dev n with cur := none, tries := 0 } ∧ dget (R.DESC_CONSUMER n) d = (dget (R.DESC_CONSUMER n) s.dev + 1) % e ∧
      Queued (16 + n) (fun r => r.kind = 0x12 ∧ r.words.headD 0 = x.words.getD 4 0 ∧
        r.words.getD 1 0 = dget (R.DESC_CONSUMER n) s.dev * 2 ^ 32 + x.status * 2 ^ 24) s.dev d ∧
      d.store = s.dev.store ∧ SameEntriesBut [(R.DESC_CONSUMER n).key] s.dev d ∧ ChangesOnly [.dict, .engs, .host] s.dev d) ∧
  (∀ (n e : Nat) (x : Desc) (c : Cap) (s : State), n < 16 → (engOf s.dev n).cur = some x → x.status = 0 → descOp x.words = 2 →
    descLength x.words ≤ x.moved → capOf s.dev (descHandle x.words) = some c → (∀ q, q < 2 → ∀ j ∈ (clusOf s.dev q).queue, j.handle ≠ descHandle x.words) →
    c.status.isSome = true → c.recDue = false → c.revReading = false → c.reading.erase n = [] → RingTakes (16 + n) s.dev → e = max (dget (R.DESC_RING_ENTRIES n) s.dev) 1 →
    Completes (exec (.transferDone n) s) s fun d =>
      engOf d n = { engOf s.dev n with cur := none, tries := 0 } ∧ dget (R.DESC_CONSUMER n) d = (dget (R.DESC_CONSUMER n) s.dev + 1) % e ∧
      (∀ y ∈ d.store.caps, ¬ (y.trig = c.trig ∧ y.group = c.group)) ∧
      Queued (16 + n) (fun r => r.kind = 0x12 ∧ r.words.getD 1 0 = dget (R.DESC_CONSUMER n) s.dev * 2 ^ 32 ∧ r.words.getD 2 0 = x.moved) s.dev d) ∧
  (∀ (n e : Nat) (x : Desc) (c : Cap) (s : State), n < 16 → (engOf s.dev n).cur = some x → x.status = 0 → descOp x.words = 1 →
    descLength x.words ≤ x.moved → capOf s.dev (descHandle x.words) = some c → RingTakes (16 + n) s.dev → e = max (dget (R.DESC_RING_ENTRIES n) s.dev) 1 →
    Completes (exec (.transferDone n) s) s fun d =>
      engOf d n = { engOf s.dev n with cur := none, tries := 0 } ∧ dget (R.DESC_CONSUMER n) d = (dget (R.DESC_CONSUMER n) s.dev + 1) % e ∧
      d.store = { s.dev.store with caps := s.dev.store.caps.map (fun y => if y.trig = c.trig ∧ y.group = c.group then
        { c with reading := c.reading.erase n } else y) } ∧
      Queued (16 + n) (fun r => r.kind = 0x12 ∧ r.words.getD 1 0 = dget (R.DESC_CONSUMER n) s.dev * 2 ^ 32 ∧ r.words.getD 2 0 = x.moved) s.dev d ∧
      SameEntriesBut [(R.DESC_CONSUMER n).key] s.dev d ∧ ChangesOnly [.dict, .engs, .host, .store] s.dev d) ∧
  (∀ (n e : Nat) (x : Desc) (s : State), n < 16 → (engOf s.dev n).cur = some x →
    x.status ≠ 0 ∨ descOp x.words = 3 ∨ descLength x.words ≤ x.moved ∨ (capOf s.dev (descHandle x.words)).map Cap.status = some (some 3) →
    e = max (dget (R.DESC_RING_ENTRIES n) s.dev) 1 →
    Completes (exec (.transferDone n) s) s fun d =>
      engOf d n = { engOf s.dev n with cur := none, tries := 0 } ∧ dget (R.DESC_CONSUMER n) d = (dget (R.DESC_CONSUMER n) s.dev + 1) % e ∧
      (∀ j, j ≠ n → engOf d j = engOf s.dev j)) ∧
  (∀ (n : Nat) (s : State), n < 16 → (engOf s.dev n).cur = none → exec (.transferDone n) s = .next s) ∧
  (∀ (n : Nat) (s : State), n < 16 → transfers s.dev n = true → (engOf s.dev n).cur = none → (engOf s.dev n).tries < 2 →
    Completes (exec (.descFetchTimeout n) s) s fun d =>
      engOf d n = { engOf s.dev n with tries := (engOf s.dev n).tries + 1 } ∧ LastFault 0x12C1 d ∧
      SameEntriesBut reportKeys s.dev d ∧ ChangesOnly [.dict, .engs, .host, .flt] s.dev d) ∧
  (∀ (n : Nat) (s : State), n < 16 → transfers s.dev n = true → (engOf s.dev n).cur = none → 2 ≤ (engOf s.dev n).tries →
    Completes (exec (.descFetchTimeout n) s) s fun d =>
      (engOf d n).tries = 0 ∧ (engOf d n).cur = none ∧ dget (R.CHANNEL_STATE n) d = 3 ∧ LastFault 0x12C1 d ∧
      SameEntriesBut ((R.CHANNEL_STATE n).key :: (R.DESC_CONSUMER n).key :: reportKeys) s.dev d ∧ ChangesOnly [.dict, .engs, .host, .flt] s.dev d) ∧
  (∀ (c n : Nat) (s : State), Asks c s.dev → n < 16 → dget (R.CHANNEL_STATE n) s.dev = 0 →
    (dget (R.DMA_KIND n) s.dev = 1 ∧ dget (R.DESC_RING_ENTRIES n) s.dev ≠ 0 ∧
      inWindow s.dev (dget (R.DESC_RING_ADDR n) s.dev) (dget (R.DESC_RING_ENTRIES n) s.dev * 64) = true) ∨
    (dget (R.DMA_KIND n) s.dev = 2 ∧ dget (R.DATA_BUF_BYTES n) s.dev ≠ 0 ∧
      inWindow s.dev (dget (R.DATA_BUF_ADDR n) s.dev) (dget (R.DATA_BUF_BYTES n) s.dev) = true) →
    preparing s.dev = false → Completes (exec (.channelStart c n) s) s fun d =>
      dget (R.CHANNEL_STATE n) d = 1 ∧
      engOf d n = { engOf s.dev n with
        starting := decide (dget (R.DMA_KIND n) s.dev = 2), credit := 0, credAt := s.dev.now, share := shareOf s.dev n
        head := if (engOf s.dev n).head < bufSize s.dev n then (engOf s.dev n).head else 0 } ∧
      (∀ j, j ≠ n → engOf d j = engOf s.dev j) ∧ SameEntriesBut [(R.CHANNEL_STATE n).key] s.dev d ∧ ChangesOnly [.dict, .engs] (asked c s.dev) d) ∧
  (∀ (c n : Nat) (s : State), Asks c s.dev → n < 16 → dget (R.DMA_KIND n) s.dev = 0 ∨ dget (R.CHANNEL_STATE n) s.dev ≠ 0 ∨ preparing s.dev = true →
    Completes (exec (.channelStart c n) s) s (TurnedAway c 0xA00B s.dev)) ∧
  (∀ (c n : Nat) (s : State), Asks c s.dev → n < 16 → dget (R.DMA_KIND n) s.dev ≠ 0 →
    Completes (exec (.channelAbort c n) s) s fun d =>
      dget (R.CHANNEL_STATE n) d = 2 ∧ SameEntriesBut [(R.CHANNEL_STATE n).key] s.dev d ∧ ChangesOnly [.dict] (asked c s.dev) d) ∧
  (∀ (c n : Nat) (s : State), Asks c s.dev → n < 16 → dget (R.DMA_KIND n) s.dev = 0 →
    Completes (exec (.channelAbort c n) s) s (TurnedAway c 0xA00B s.dev)) ∧
  (∀ (n : Nat) (s : State), n < 16 → dget (R.CHANNEL_STATE n) s.dev = 2 → RingTakes (16 + n) s.dev → (engOf s.dev n).cur = none →
    (engOf s.dev n).sent = 0 →
    Completes (exec (.channelAbortDone n) s) s fun d =>
      dget (R.CHANNEL_STATE n) d = 0 ∧ (dget (R.DMA_KIND n) s.dev = 2 → (engOf d n).starting = false ∧ (engOf d n).lost = 0) ∧
      Queued (16 + n) (fun r => r.kind = (if dget (R.DMA_KIND n) s.dev = 2 then 0x10 else 0x12) ∧ r.audit = true) s.dev d ∧
      (∀ j, j ≠ n → engOf d j = engOf s.dev j) ∧ SameEntriesBut [(R.CHANNEL_STATE n).key] s.dev d ∧ ChangesOnly [.dict, .engs, .host] s.dev d) ∧
  (∀ (n : Nat) (g : Eng) (s : State), n < 16 → g = engOf s.dev n → dget (R.CHANNEL_STATE n) s.dev = 2 →
    Completes (exec (.channelAbortDone n) s) s fun d =>
      dget (R.CHANNEL_STATE n) d = 0 ∧ (∀ j, j ≠ n → engOf d j = engOf s.dev j) ∧
      (dget (R.DMA_KIND n) s.dev ≠ 2 → (engOf d n).cur = none ∧
        (g.cur.isSome = true → dget (R.DESC_CONSUMER n) d = (dget (R.DESC_CONSUMER n) s.dev + 1) % max (dget (R.DESC_RING_ENTRIES n) s.dev) 1)) ∧
      (dget (R.DMA_KIND n) s.dev = 2 → (engOf d n).starting = false ∧ (engOf d n).sent = 0 ∧ (engOf d n).lost = 0 ∧
        (engOf d n).seg = g.seg + (if g.sent = 0 then 0 else 1) ∧ (engOf d n).live = false ∧
        (engOf d n).stoodAt = (if g.live then (engOf d n).seg * segLen s.dev n else g.stoodAt))) ∧
  (∀ (n : Nat) (s : State), n < 16 → dget (R.CHANNEL_STATE n) s.dev ≠ 2 → exec (.channelAbortDone n) s = .next s)

/-- The job of a queue that has waited longest, the first of them (R336). -/
def oldestJob (q : List Job) : Option Job :=
  q.foldl (fun b j => match b with
    | none => some j
    | some (k : Job) => if j.queuedAt < k.queuedAt then some j else some k) none

/-- A review record with this status joins ring 4 (Table 13.3). -/
def JobRecord (j : Job) (status : Nat) (a d : Dev) : Prop :=
  Queued 4 (fun e => e.kind = 4 ∧ e.frame = some j.frame ∧ e.link = some j.trig ∧ ∃ flags, flags < 8 ∧
    e.words.getD 1 0 = j.handle * 2 ^ 32 + status * 2 ^ 24 + j.net * 2 ^ 16 + flags * 2 ^ 8 + j.prio) a d

/-- A free cluster takes the job of its queue that comes first; a job whose capture or network is gone, or whose part does not fit, ends
with its status instead. A job that has waited REVIEW_MAX_AGE ends AGED. The end of the input read takes the blocks of the part into
pinned pages and lets the capture go. A pass takes its pages through the cache, counting hits and misses; its end counts the choices
of the default mode. After the last pass the output values, which the spec's page format does not determine, are an opaque function
of network and input in ordered mode and where no sum saturated before its end, and free for each job otherwise (log entry 132). The job then ends DONE, or with FAULT. -/
def Obligations.ReviewEngine : Prop :=
  (∀ (c : Nat) (j : Job) (n : Net) (s : State), c < 2 → dget R.REVIEW_ENABLE s.dev = 1 → dget R.REVIEW_SHED s.dev = 0 →
    dget (R.CLUSTER_STATE c) s.dev = 0 → clustersOn s.dev = true → firstJob (clusOf s.dev c).queue = some j → (capOf s.dev j.handle).isSome = true →
    netOf s.dev j.net = some n → partFits j n = true →
    Completes (exec (.reviewDispatch c) s) s fun d =>
      dget (R.CLUSTER_STATE c) d = 1 ∧ (clusOf d c).queue = (clusOf s.dev c).queue.erase j ∧
      (clusOf d c).job = some { j with
        queuedUs := usOf (s.dev.now - j.queuedAt), runAt := s.dev.now, inputRead := false, pass := 0, passOn := false, outs := [] } ∧
      (clusOf d c).cache = (clusOf s.dev c).cache ∧ (∀ k, k ≠ c → clusOf d k = clusOf s.dev k) ∧
      (∀ x ∈ d.store.caps, x.slot.isSome = true → handleOf x = j.handle → x.revReading = true) ∧
      dget (R.CLUSTER_QUEUED c) d = (clusOf d c).queue.length ∧
      SameEntriesBut [(R.CLUSTER_STATE c).key, (R.CLUSTER_QUEUED c).key] s.dev d ∧ ChangesOnly [.dict, .clus, .store] s.dev d) ∧
  (∀ (c st : Nat) (j : Job) (s : State), c < 2 → dget R.REVIEW_ENABLE s.dev = 1 → dget R.REVIEW_SHED s.dev = 0 →
    dget (R.CLUSTER_STATE c) s.dev = 0 → clustersOn s.dev = true → firstJob (clusOf s.dev c).queue = some j → RingTakes 4 s.dev →
    (st = 3 ∧ capOf s.dev j.handle = none) ∨ (st = 6 ∧ (capOf s.dev j.handle).isSome = true ∧ netOf s.dev j.net = none) ∨
      (st = 4 ∧ (capOf s.dev j.handle).isSome = true ∧ ∃ n, netOf s.dev j.net = some n ∧ partFits j n = false) →
    Completes (exec (.reviewDispatch c) s) s fun d =>
      (clusOf d c).queue = (clusOf s.dev c).queue.erase j ∧ (clusOf d c).job = (clusOf s.dev c).job ∧ JobRecord j st s.dev d ∧
      dget (R.CLUSTER_QUEUED c) d = (clusOf d c).queue.length ∧ SameEntriesBut [(R.CLUSTER_QUEUED c).key] s.dev d ∧ ChangesOnly [.dict, .clus, .host] s.dev d) ∧
  (∀ (c : Nat) (s : State), c < 2 → (dget R.REVIEW_ENABLE s.dev ≠ 1 ∨ dget R.REVIEW_SHED s.dev = 1 ∨ dget (R.CLUSTER_STATE c) s.dev ≠ 0 ∨
      clustersOn s.dev = false ∨ (clusOf s.dev c).queue = []) → exec (.reviewDispatch c) s = .next s) ∧
  (∀ (c : Nat) (j : Job) (s : State), c < 2 → oldestJob (clusOf s.dev c).queue = some j → RingTakes 4 s.dev →
    Completes (exec (.reviewJobAged c) s) s fun d =>
      d.now = max (j.queuedAt + dget R.REVIEW_MAX_AGE s.dev * acPerMs) s.dev.now ∧ (clusOf d c).queue = (clusOf s.dev c).queue.erase j ∧
      (clusOf d c).job = (clusOf s.dev c).job ∧ dget R.REVIEW_JOBS_AGED d = satAdd32 (dget R.REVIEW_JOBS_AGED s.dev) 1 ∧ JobRecord j 1 s.dev d ∧
      dget (R.CLUSTER_QUEUED c) d = (clusOf d c).queue.length ∧
      SameEntriesBut [R.REVIEW_JOBS_AGED.key, (R.CLUSTER_QUEUED c).key] s.dev d ∧ ChangesOnly [.now, .time, .dict, .clus, .host] s.dev d) ∧
  (∀ (c : Nat) (s : State), c < 2 → (clusOf s.dev c).queue = [] → exec (.reviewJobAged c) s = .next s) ∧
  (∀ (c : Nat) (j : Job) (s : State), c < 2 → (clusOf s.dev c).job = some j →
    Completes (exec (.reviewInputReadDone c) s) s fun d =>
      (clusOf d c).job = some (if j.inputRead then j else { j with inputRead := true, input := inputOf s.dev j }) ∧
      (clusOf d c).cache = (if j.inputRead then (clusOf s.dev c).cache else (clusOf s.dev c).cache.take (128 - pinnedInput s.dev j)) ∧ (clusOf d c).queue = (clusOf s.dev c).queue ∧
      ((clusOf s.dev (1 - c)).job = none → ∀ x ∈ d.store.caps, x.slot.isSome = true → x.revReading = false) ∧
      SameEntriesBut [(R.CLUSTER_QUEUED c).key] s.dev d ∧ ChangesOnly [.dict, .clus, .store] s.dev d) ∧
  (∀ (c hits misses : Nat) (j : Job) (n : Net) (cache : List Nat) (s : State), c < 2 → (clusOf s.dev c).job = some j →
    netOf s.dev j.net = some n → j.inputRead = true → j.passOn = false → j.pass < n.passes.length →
    (hits, misses, cache) = (passPages n j.net j.pass).foldl (fun (a : Nat × Nat × List Nat) p =>
        let q := pageReq (cacheRoom n j.pass) p a.2.2
        if q.1 then (a.1, a.2.1 + 1, q.2) else (a.1 + 1, a.2.1, q.2)) (0, 0, (clusOf s.dev c).cache.take (cacheRoom n j.pass)) →
    Completes (exec (.reviewPassStart c) s) s fun d =>
      clusOf d c = { clusOf s.dev c with cache := cache, image := passImage n j.net j.pass, job := some { j with misses := j.misses + misses, passOn := true } } ∧
      (∀ k, k ≠ c → clusOf d k = clusOf s.dev k) ∧ Rose R.REVIEW_PAGE_HITS hits s.dev d ∧ Rose R.REVIEW_PAGE_MISSES misses s.dev d ∧
      SameEntriesBut [R.REVIEW_PAGE_HITS.key, R.REVIEW_PAGE_MISSES.key, (R.CLUSTER_QUEUED c).key] s.dev d ∧ ChangesOnly [.dict, .clus] s.dev d) ∧
  (∀ (c ch k : Nat) (j : Job) (n : Net) (s : State), c < 2 → (clusOf s.dev c).job = some j → netOf s.dev j.net = some n → j.passOn = true →
    k = (if j.mode = 1 then 0 else ch) →
    Completes (exec (.reviewPassEnd c ch) s) s fun d =>
      (∃ outs, (clusOf d c).job = some { j with pass := j.pass + 1, passOn := false, choices := j.choices + k, outs := outs } ∧
        outs.length = (if j.pass + 1 = n.passes.length then n.outCount else 0) ∧
        (j.mode = 1 → j.pass + 1 = n.passes.length → outs = (List.range n.outCount).map (fun i => (Config.reviewOut n.passes n.words j.input i).toNat)) ∧
        (j.mode ≠ 1 → j.choices + k = 0 → j.pass + 1 = n.passes.length →
          outs = (List.range n.outCount).map (fun i => (Config.reviewExact n.passes n.words j.input i).toNat))) ∧
      (∀ q, q ≠ c → clusOf d q = clusOf s.dev q) ∧ Rose R.TIMING_CHOICES k s.dev d ∧ SameEntriesBut [R.TIMING_CHOICES.key, (R.CLUSTER_QUEUED c).key] s.dev d ∧
      ChangesOnly [.dict, .clus] s.dev d) ∧
  (∀ (c : Nat) (j : Job) (n : Net) (s : State), c < 2 → (clusOf s.dev c).job = some j → netOf s.dev j.net = some n → j.passOn = false →
    n.passes.length ≤ j.pass → dget (R.CLUSTER_STATE c) s.dev ≠ 3 → RingTakes 4 s.dev →
    Completes (exec (.reviewJobEnd c false) s) s fun d =>
      (clusOf d c).job = none ∧ (clusOf d c).queue = (clusOf s.dev c).queue ∧ (∀ k, k ≠ c → clusOf d k = clusOf s.dev k) ∧
      dget (R.CLUSTER_STATE c) d = (if dget R.REVIEW_SHED s.dev = 1 then 2 else 0) ∧
      dget R.REVIEW_JOBS_DONE d = satAdd32 (dget R.REVIEW_JOBS_DONE s.dev) 1 ∧ JobRecord j 0 s.dev d ∧
      SameEntriesBut [(R.CLUSTER_STATE c).key, (R.CLUSTER_QUEUED c).key, R.REVIEW_JOBS_DONE.key] s.dev d ∧ ChangesOnly [.dict, .clus, .store, .host] s.dev d) ∧
  (∀ (c : Nat) (j : Job) (s : State), c < 2 → (clusOf s.dev c).job = some j → dget (R.CLUSTER_STATE c) s.dev ≠ 3 → RingTakes 4 s.dev →
    Completes (exec (.reviewJobEnd c true) s) s fun d =>
      (clusOf d c).job = none ∧ LastFault 0x13C1 d ∧ dget (R.CLUSTER_STATE c) d = (if dget R.REVIEW_SHED s.dev = 1 then 2 else 0) ∧
      (∃ e : Rec, e.kind = 4 ∧ e.link = some j.trig ∧ (∃ flags, flags < 8 ∧
        e.words.getD 1 0 = j.handle * 2 ^ 32 + 5 * 2 ^ 24 + j.net * 2 ^ 16 + flags * 2 ^ 8 + j.prio) ∧
        (ringOf d 4).queue = (ringOf s.dev 4).queue ++ [e]) ∧
      SameEntriesBut ((R.CLUSTER_STATE c).key :: (R.CLUSTER_QUEUED c).key :: reportKeys) s.dev d ∧ ChangesOnly [.dict, .clus, .store, .host, .flt] s.dev d) ∧
  (∀ (c ch : Nat) (f : Bool) (s : State), c < 2 → (clusOf s.dev c).job = none →
    exec (.reviewPassStart c) s = .next s ∧ exec (.reviewPassEnd c ch) s = .next s ∧ exec (.reviewJobEnd c f) s = .next s)

/-- The update of the weight encoder has left the overlays (R189). -/
def EncDropped (a d : Dev) : Prop :=
  d.enc = { a.enc with staged := [], next := 0, read := [], toCopy := [] } ∧
  (∀ k, coreOf d k = if (encCores a).contains k then { coreOf a k with ovl := [], ovlFrom := none, ovlHeld := none } else coreOf a k)

/-- A start clears what was staged and reads the list; each block that passes the checks of Table 7.11 is quantised into its core's
overlays, and after the last one the update is STAGED; a block that does not pass refuses the update with its cause and place. A
commit waits for the growth ring while the array is armed, and takes effect at frame 0 otherwise, with the live digests of the slots
concerned; once every core has copied its overlays, the update is retired and counted; an update that a stop finds committed takes
effect with the stop, and is copied while the array does not run. -/
def Obligations.WeightEncoder : Prop :=
  (∀ (c : Nat) (s : State), Asks c s.dev → dget R.ENC_STATE s.dev = 0 ∨ dget R.ENC_STATE s.dev = 5 → dget R.ENC_LIST_COUNT s.dev ≠ 0 →
    preparing s.dev = false →
    Completes (exec (.encStart c) s) s fun d =>
      dget R.ENC_STATE d = 1 ∧ dget R.ENC_ERROR d = 0 ∧ EncDropped s.dev d ∧ SameEntriesBut [R.ENC_STATE.key, R.ENC_ERROR.key] s.dev d ∧
      ChangesOnly [.dict, .cores, .enc, .host] (asked c s.dev) d) ∧
  (∀ (c : Nat) (s : State), Asks c s.dev →
    (dget R.ENC_STATE s.dev ≠ 0 → dget R.ENC_STATE s.dev ≠ 5 → Completes (exec (.encStart c) s) s (TurnedAway c 0xA00B s.dev)) ∧
    (preparing s.dev = true → Completes (exec (.encStart c) s) s (TurnedAway c 0xA00B s.dev)) ∧
    (dget R.ENC_STATE s.dev = 0 → dget R.ENC_LIST_COUNT s.dev = 0 → preparing s.dev = false → Completes (exec (.encStart c) s) s (TurnedAway c 0xA006 s.dev)) ∧
    (dget R.ENC_STATE s.dev ≠ 2 → Completes (exec (.encCommit c) s) s (TurnedAway c 0xA00B s.dev)) ∧
    (dget R.ENC_STATE s.dev ≠ 1 → dget R.ENC_STATE s.dev ≠ 2 → dget R.ENC_STATE s.dev ≠ 5 →
      Completes (exec (.encAbandon c) s) s (TurnedAway c 0xA00B s.dev))) ∧
  (∀ (ws : List Nat) (key : Nat) (s : State), ws.length = 140 → (∀ w ∈ ws, w < 2 ^ 64) → dget R.ENC_STATE s.dev = 1 → encoderOn s.dev = true →
    blkCause s.dev ws = 0 → physOf s.dev (blkX ws) (blkY ws) = some key →
    Completes (exec (.encBlockStaged ws) s) s fun d =>
      d.enc = { s.dev.enc with
        staged := s.dev.enc.staged ++ [(encodeBlk key ws).1], next := s.dev.enc.next + 1, read := s.dev.enc.read ++ ws } ∧
      coreOf d key = putOverlay (encodeBlk key ws).1 (coreOf s.dev key) ∧ (∀ k, k ≠ key → coreOf d k = coreOf s.dev k) ∧
      dget R.ENC_STATE d = (if s.dev.enc.next + 1 = dget R.ENC_LIST_COUNT s.dev then 2 else 1) ∧
      Rose R.ENC_CLAMPS (encodeBlk key ws).2 s.dev d ∧ SameEntriesBut [R.ENC_STATE.key, R.ENC_CLAMPS.key] s.dev d ∧
      ChangesOnly [.dict, .cores, .enc, .host] s.dev d) ∧
  (∀ (ws : List Nat) (s : State), ws.length = 140 → (∀ w ∈ ws, w < 2 ^ 64) → dget R.ENC_STATE s.dev = 1 → encoderOn s.dev = true →
    blkCause s.dev ws ≠ 0 →
    Completes (exec (.encBlockStaged ws) s) s fun d =>
      dget R.ENC_STATE d = 5 ∧ dget R.ENC_ERROR d = blkCause s.dev ws * 2 ^ 24 + s.dev.enc.next % 2 ^ 24 ∧ EncDropped s.dev d ∧
      LastFault 0x0341 d ∧ SameEntriesBut (R.ENC_STATE.key :: R.ENC_ERROR.key :: reportKeys) s.dev d ∧
      ChangesOnly [.dict, .cores, .enc, .host, .flt] s.dev d) ∧
  (∀ (s : State), dget R.ENC_STATE s.dev = 1 →
    Completes (exec .encReadTimeout s) s fun d =>
      dget R.ENC_STATE d = 5 ∧ dget R.ENC_ERROR d = 8 * 2 ^ 24 + s.dev.enc.next % 2 ^ 24 ∧ EncDropped s.dev d ∧ LastFault 0x0341 d ∧
      SameEntriesBut (R.ENC_STATE.key :: R.ENC_ERROR.key :: reportKeys) s.dev d ∧ ChangesOnly [.dict, .cores, .enc, .host, .flt] s.dev d) ∧
  (∀ (s : State), dget R.ENC_STATE s.dev ≠ 1 → exec .encReadTimeout s = .next s) ∧
  (∀ (c : Nat) (s : State), Asks c s.dev → dget R.ENC_STATE s.dev = 2 → armed s.dev = true →
    Completes (exec (.encCommit c) s) s fun d =>
      dget R.ENC_STATE d = 3 ∧ SameEntriesBut [R.ENC_STATE.key] s.dev d ∧ ChangesOnly [.dict, .host] (asked c s.dev) d) ∧
  (∀ (c : Nat) (s : State), Asks c s.dev → dget R.ENC_STATE s.dev = 2 → armed s.dev = false →
    Completes (exec (.encCommit c) s) s fun d =>
      dget R.ENC_STATE d = 4 ∧ dget R.ENC_COMMIT_FRAME d = 0 ∧ d.enc.toCopy = encCores s.dev ∧ d.enc.staged = s.dev.enc.staged ∧
      (∀ k, k < 4 → dget (R.LIVE_WEIGHT_DIGEST k) d =
        if (encSlots s.dev).contains k then liveAfter s.dev k else dget (R.LIVE_WEIGHT_DIGEST k) s.dev) ∧
      (∀ k, coreOf d k = if (encCores s.dev).contains k then { coreOf s.dev k with ovlFrom := some 0, ovlHeld := none } else coreOf s.dev k)) ∧
  (∀ (c : Nat) (s : State), Asks c s.dev → dget R.ENC_STATE s.dev = 1 ∨ dget R.ENC_STATE s.dev = 2 ∨ dget R.ENC_STATE s.dev = 5 →
    Completes (exec (.encAbandon c) s) s fun d =>
      dget R.ENC_STATE d = 0 ∧ EncDropped s.dev d ∧ SameEntriesBut [R.ENC_STATE.key] s.dev d ∧
      ChangesOnly [.dict, .cores, .enc, .host] (asked c s.dev) d) ∧
  (∀ (s : State), dget R.ENC_STATE s.dev = 4 → armed s.dev = true → s.dev.enc.toCopy = [] →
    Completes (exec .encRetire s) s fun d =>
      dget R.ENC_STATE d = 0 ∧ d.enc = { s.dev.enc with staged := [], next := 0, read := [], toCopy := [] } ∧
      Rose R.ENC_BLOCKS_APPLIED s.dev.enc.staged.length s.dev d ∧ SameEntriesBut [R.ENC_STATE.key, R.ENC_BLOCKS_APPLIED.key] s.dev d ∧
      ChangesOnly [.dict, .enc, .host, .ldr] s.dev d) ∧
  (∀ (s : State), dget R.ENC_STATE s.dev = 4 → arrayState s.dev ≠ 2 →
    Completes (exec .encRetire s) s fun d =>
      dget R.ENC_STATE d = 0 ∧ d.enc.staged = [] ∧ (∀ k ∈ s.dev.enc.toCopy, (coreOf d k).ovl = [] ∧ (coreOf d k).ovlFrom = none) ∧
      Rose R.ENC_BLOCKS_APPLIED s.dev.enc.staged.length s.dev d ∧
      (∀ k, k ∉ s.dev.enc.toCopy → coreOf d k = coreOf s.dev k) ∧ ChangesOnly [.dict, .cores, .enc, .host, .ldr] s.dev d) ∧
  (∀ (n : Nat) (s : State), n = s.dev.grid.nextIssue → s.dev.grid.endF = some (n + 1) → arrayState s.dev = 2 → dget R.ENC_STATE s.dev = 3 →
    FrameOn n s.dev → n < s.dev.grid.nextDead → dget R.MIRROR_ROLE s.dev = 0 → s.dev.undef = false → RingTakes 0 s.dev →
    dget R.RESTART_STATE s.dev = 0 →
    Completes (exec .verdictIssue s) s fun d =>
      dget R.ARRAY_STATE d = 0 ∧ dget R.ENC_STATE d = 4 ∧ dget R.ENC_COMMIT_FRAME d = 0 ∧ d.enc.toCopy = encCores s.dev ∧
      d.enc.staged = s.dev.enc.staged ∧
      (∀ k, coreOf d k = if (encCores s.dev).contains k then { coreOf s.dev k with ovlFrom := some 0, ovlHeld := none } else coreOf s.dev k) ∧
      (∀ k, k < 4 → dget (R.LIVE_WEIGHT_DIGEST k) d =
        if (encSlots s.dev).contains k then liveAfter s.dev k else dget (R.LIVE_WEIGHT_DIGEST k) s.dev)) ∧
  (∀ (s : State), dget R.ENC_STATE s.dev ≠ 4 ∨ (arrayState s.dev = 2 ∧ s.dev.enc.toCopy ≠ []) → exec .encRetire s = .next s)

/-- When no instance of the next run frame can remain, its counts enter their monitors once, but for those of a frame before its slot's
monitors were cleared (R187); each CLIP_COUNT rises by its monitor's clips, and they are kept no longer; lost and paused frames are
passed over; while an instance can remain, nothing is merged. -/
def Obligations.ClipCounts : Prop :=
  (∀ (n : Nat) (s : State), nextRun s.dev (s.dev.grid.nextClose - s.dev.enc.nextMerge) s.dev.enc.nextMerge = some n →
    (∀ c ∈ s.dev.enc.counts, c.mon < 4096) →
    Completes (exec .clipCountMerge s) s fun d =>
      let floor := fun (m : Nat) => match slotOfMon s.dev m with | some k => tget 0 s.dev.enc.floor k | none => 0
      d.now = (if n + 3 < s.dev.grid.nextT then max (t0At s.dev (n + 3) + dget R.GROWTH_RING_SPAN s.dev) s.dev.now else s.dev.now) ∧
      d.enc.nextMerge = n + 1 ∧
      d.enc.counts = s.dev.enc.counts.filter (fun c => decide (c.frame < s.dev.enc.nextMerge ∨ n < c.frame)) ∧
      (∀ m, m < 4096 → Rose (R.CLIP_COUNT m)
        ((s.dev.enc.counts.filter (fun c => decide (c.frame = n ∧ c.mon = m ∧ floor m ≤ n))).map (fun c => c.clips)).sum s.dev d) ∧
      d.enc.merged.head?.map Prod.fst = some n ∧ d.enc.staged = s.dev.enc.staged ∧
      ChangesOnly [.now, .time, .dict, .enc, .host, .flt, .ctx] s.dev d) ∧
  (∀ (s : State), mergeDue s.dev s.dev.enc.nextMerge = false → exec .clipCountMerge s = .next s)

/-- The entries that a slot's load state may write. -/
def loadKeys (slot : Nat) : List Nat := [R.LOAD_STATE.key, R.LOAD_ERROR.key, R.LOAD_ERROR_DETAIL.key, (R.SLOT_STATE slot).key]

/-- No load is in progress, and no power transition is being prepared (R228, R454). -/
def LoadIdle (d : Dev) : Prop := ¬ (1 ≤ dget R.LOAD_STATE d ∧ dget R.LOAD_STATE d ≤ 5) ∧ preparing d = false

/-- The load failed with an error, and no job is left (R230, Table 8.12). -/
def LoadFailed (e : LoadErr) (d : Dev) : Prop :=
  dget R.LOAD_STATE d = 7 ∧ dget R.LOAD_ERROR d = e.1 ∧ dget R.LOAD_ERROR_DETAIL d = e.2 ∧ d.ldr.job = none

/-- A load command of a slot that it may touch starts its job: LOAD_STATE 1 (5 for an unload), the slot LOADING, the errors cleared; a
check leaves the slot's state. A slot that may not be touched ends the command at once with error 0x0019. While a load is in
progress, or a power transition is being prepared, every load command is refused, and so are a load and a check before the store is ready. RETIRE_CORE makes a core that the
map in force does not hold a pending retirement, once. -/
def Obligations.LoadCommands : Prop :=
  (∀ (c k : Nat) (s : State), Asks c s.dev → k = dget R.LOAD_SLOT s.dev → k < 4 → dget R.STORE_STATE s.dev = 2 → LoadIdle s.dev →
    slotBarred s.dev 1 k = false →
    Completes (exec (.load c) s) s fun d =>
      dget R.LOAD_STATE d = 1 ∧ dget (R.SLOT_STATE k) d = 1 ∧ dget R.LOAD_ERROR d = 0 ∧ dget R.LOAD_ERROR_DETAIL d = 0 ∧
      (∃ j, d.ldr.job = some j ∧ j.cmd = 1 ∧ j.slot = k ∧ j.addr = dget R.LOAD_ADDR s.dev ∧ j.bytes = dget R.LOAD_BYTES s.dev ∧
        j.was = dget (R.SLOT_STATE k) s.dev) ∧
      SameEntriesBut (loadKeys k) s.dev d ∧ ChangesOnly [.dict, .ldr] (asked c s.dev) d) ∧
  (∀ (c k : Nat) (s : State), Asks c s.dev → k = dget R.LOAD_SLOT s.dev → k < 4 → LoadIdle s.dev → slotBarred s.dev 2 k = false →
    Completes (exec (.unload c) s) s fun d =>
      dget R.LOAD_STATE d = 5 ∧ dget (R.SLOT_STATE k) d = 1 ∧ dget R.LOAD_ERROR d = 0 ∧ (∃ j, d.ldr.job = some j ∧ j.cmd = 2 ∧ j.slot = k) ∧
      SameEntriesBut (loadKeys k) s.dev d ∧ ChangesOnly [.dict, .ldr] (asked c s.dev) d) ∧
  (∀ (c k : Nat) (s : State), Asks c s.dev → k = dget R.LOAD_SLOT s.dev → dget R.STORE_STATE s.dev = 2 → LoadIdle s.dev →
    Completes (exec (.loadCheck c) s) s fun d =>
      dget R.LOAD_STATE d = 1 ∧ dget R.LOAD_ERROR d = 0 ∧ (∃ j, d.ldr.job = some j ∧ j.cmd = 3 ∧ j.slot = k) ∧
      SameEntriesBut [R.LOAD_STATE.key, R.LOAD_ERROR.key, R.LOAD_ERROR_DETAIL.key] s.dev d ∧ ChangesOnly [.dict, .ldr] (asked c s.dev) d) ∧
  (∀ (c k : Nat) (s : State), Asks c s.dev → k = dget R.LOAD_SLOT s.dev → LoadIdle s.dev → dget R.STORE_STATE s.dev = 2 →
    (slotBarred s.dev 1 k = true → Completes (exec (.load c) s) s fun d => LoadFailed (0x0019, 0) d ∧ LastFault 0x0381 d) ∧
    (slotBarred s.dev 2 k = true → Completes (exec (.unload c) s) s fun d => LoadFailed (0x0019, 0) d ∧ LastFault 0x0381 d)) ∧
  (∀ (c : Nat) (s : State), Asks c s.dev → (1 ≤ dget R.LOAD_STATE s.dev ∧ dget R.LOAD_STATE s.dev ≤ 5) ∨ preparing s.dev = true →
    Completes (exec (.load c) s) s (TurnedAway c 0xA00B s.dev) ∧ Completes (exec (.unload c) s) s (TurnedAway c 0xA00B s.dev) ∧
    Completes (exec (.loadCheck c) s) s (TurnedAway c 0xA00B s.dev)) ∧
  (∀ (c : Nat) (s : State), Asks c s.dev → dget R.STORE_STATE s.dev ≠ 2 →
    Completes (exec (.load c) s) s (TurnedAway c 0xA00B s.dev) ∧ Completes (exec (.loadCheck c) s) s (TurnedAway c 0xA00B s.dev)) ∧
  (∀ (c x y : Nat) (s : State), Asks c s.dev → x < 200 → y < 128 →
    Completes (exec (.retireCore c x y) s) s fun d =>
      d.ldr = { s.dev.ldr with
        pend := if (retiredSet s.dev).contains (x * 256 + y) ∨ s.dev.ldr.pend.contains (x * 256 + y) then s.dev.ldr.pend
          else s.dev.ldr.pend ++ [x * 256 + y] } ∧
      SameEntriesBut [] s.dev d ∧ ChangesOnly [.ldr] (asked c s.dev) d) ∧
  (∀ (c x y : Nat) (s : State), Asks c s.dev → x < 256 → y < 256 → 199 < x ∨ 127 < y →
    Completes (exec (.retireCore c x y) s) s (TurnedAway c 0xA005 s.dev))

/-- The read phase takes the object's bytes, part by part; the verify and check phases go on when they find nothing wrong, and fail with the first
error they find; the map phase ends a check, or leads to the write phase; a write that succeeds leaves the slot READY with the
object's digests; a DICT_INIT write that aborts fails the load and leaves the map as it was (R201); an unload leaves its slot EMPTY with its digests cleared;
the write phase fails too when FRAME_LENGTH or VERDICT_LATENCY no longer suits the object; a failed read ends the load with error 0x001D,
and leaves the slot empty, or as it was when what has been read says that the object is a patch (the model's choices, log entries 130, 161
and 162). With no job, or while the loader cannot work, nothing happens. -/
def Obligations.LoadPhases : Prop :=
  (∀ (data : List Nat) (j : LoadJob) (s : State), (∀ w ∈ data, w < 2 ^ 64) → s.dev.ldr.job = some j → loaderOn s.dev = true → j.cmd ≠ 2 → j.slot < 4 →
    dget R.LOAD_STATE s.dev = 1 → (j.bytes + 7) / 8 ≤ data.length →
    Completes (exec (.loadPhaseDone data) s) s fun d =>
      dget R.LOAD_STATE d = 2 ∧ d.ldr.job = some { j with obj := data.take ((j.bytes + 7) / 8), keys := goodKeys s.dev, keyed := provisioned s.dev } ∧
      SameEntriesBut [R.LOAD_STATE.key] s.dev d ∧ ChangesOnly [.dict, .ldr] s.dev d) ∧
  (∀ (data : List Nat) (j : LoadJob) (s : State), (∀ w ∈ data, w < 2 ^ 64) → s.dev.ldr.job = some j → loaderOn s.dev = true → j.cmd ≠ 2 → j.slot < 4 →
    dget R.LOAD_STATE s.dev = 2 →
    Completes (exec (.loadPhaseDone data) s) s fun d =>
      (verifyErr s.dev j = none → dget R.LOAD_STATE d = 3 ∧ SameEntriesBut [R.LOAD_STATE.key] s.dev d ∧ ChangesOnly [.dict] s.dev d) ∧
      (∀ e, verifyErr s.dev j = some e → LoadFailed e d)) ∧
  (∀ (data : List Nat) (j : LoadJob) (s : State), (∀ w ∈ data, w < 2 ^ 64) → s.dev.ldr.job = some j → loaderOn s.dev = true → j.cmd ≠ 2 → j.slot < 4 →
    dget R.LOAD_STATE s.dev = 3 →
    Completes (exec (.loadPhaseDone data) s) s fun d =>
      (checkErr s.dev j.cmd j.obj j.slot = none → dget R.LOAD_STATE d = 4 ∧ SameEntriesBut [R.LOAD_STATE.key] s.dev d ∧ ChangesOnly [.dict] s.dev d) ∧
      (∀ e, checkErr s.dev j.cmd j.obj j.slot = some e → LoadFailed e d)) ∧
  (∀ (data : List Nat) (j : LoadJob) (s : State), (∀ w ∈ data, w < 2 ^ 64) → s.dev.ldr.job = some j → loaderOn s.dev = true → j.cmd ≠ 2 → j.slot < 4 →
    dget R.LOAD_STATE s.dev = 4 →
    Completes (exec (.loadPhaseDone data) s) s fun d =>
      (∀ e, mapPhase s.dev j.slot (monBase s.dev j) j.obj = .error e → LoadFailed e d) ∧
      (∀ r, mapPhase s.dev j.slot (monBase s.dev j) j.obj = .ok r → j.cmd = 3 → dget R.LOAD_STATE d = 6 ∧ d.ldr.job = none) ∧
      (∀ r, mapPhase s.dev j.slot (monBase s.dev j) j.obj = .ok r → j.cmd ≠ 3 →
        dget R.LOAD_STATE d = 5 ∧ d.ldr.job = some { j with map := r.1, base := monBase s.dev j } ∧ ChangesOnly [.dict, .ldr] s.dev d)) ∧
  (∀ (data : List Nat) (j : LoadJob) (s : State), (∀ w ∈ data, w < 2 ^ 64) → s.dev.ldr.job = some j → loaderOn s.dev = true → j.cmd ≠ 2 → j.slot < 4 →
    dget R.LOAD_STATE s.dev = 5 →
    Completes (exec (.loadPhaseDone data) s) s fun d =>
      (∀ e, staleErr s.dev j.obj = some e → LoadFailed e d) ∧ (staleErr s.dev j.obj = none →
      (∀ e, planOf s.dev (s.dev.fuses.windthrow ++ j.map) j.slot j.base (reviewBase s.dev j.slot j.obj) (newLayers s.dev j) = .error e → LoadFailed e d) ∧
      (∀ p, planOf s.dev (s.dev.fuses.windthrow ++ j.map) j.slot j.base (reviewBase s.dev j.slot j.obj) (newLayers s.dev j) = .ok p → objPatch j.obj = false →
        (∀ e, streamErr (streamed j.obj data) = some e → LoadFailed e d) ∧
        (streamErr (streamed j.obj data) = none → initList (p.layers.headD []) = [] → heldStaging s.dev 1 = [] →
          dget R.LOAD_STATE d = 6 ∧ d.ldr.job = none ∧ dget (R.SLOT_STATE j.slot) d = 2 ∧ dget (R.PROGRAM_DIGEST j.slot) d = progDigest j.obj ∧
          dget (R.WEIGHT_DIGEST j.slot) d = weightDigest j.obj) ∧
        (streamErr (streamed j.obj data) = none →
          ∀ n, (dictInit (p.layers.headD []) (dset (R.SLOT_STATE j.slot) 2 (writeLoad j j.map p (streamed j.obj data) s.dev))).2 = some n →
            LoadFailed (0x001E, n) d ∧ d.ldr.map = s.dev.ldr.map ∧ d.ldr.pend = s.dev.ldr.pend)) ∧
      (∀ p, planOf s.dev (s.dev.fuses.windthrow ++ j.map) j.slot j.base (reviewBase s.dev j.slot j.obj) (newLayers s.dev j) = .ok p →
        objPatch j.obj = true → dget R.LOAD_STATE d = 6 ∧ d.ldr.job = none))) ∧
  (∀ (data : List Nat) (j : LoadJob) (s : State), (∀ w ∈ data, w < 2 ^ 64) → s.dev.ldr.job = some j → loaderOn s.dev = true → j.cmd = 2 → j.slot < 4 →
    Completes (exec (.loadPhaseDone data) s) s fun d =>
      dget R.LOAD_STATE d = 6 ∧ d.ldr.job = none ∧ dget (R.SLOT_STATE j.slot) d = 0 ∧ dget (R.PROGRAM_DIGEST j.slot) d = 0 ∧
      dget (R.WEIGHT_DIGEST j.slot) d = 0 ∧ dget (R.MONITOR_BASE j.slot) d = 0xFFFF ∧ dget (R.VERDICT_EXPECTED j.slot) d = 0 ∧
      (loadedOf d j.slot).present = false) ∧
  (∀ (data : List Nat) (s : State), (∀ w ∈ data, w < 2 ^ 64) → s.dev.ldr.job = none ∨ loaderOn s.dev = false →
    exec (.loadPhaseDone data) s = .next s) ∧
  (∀ (j : LoadJob) (s : State), s.dev.ldr.job = some j → j.cmd ≠ 2 → j.slot < 4 → dget R.LOAD_STATE s.dev = 1 ∨ dget R.LOAD_STATE s.dev = 5 →
    Completes (exec .loadReadTimeout s) s fun d =>
      LoadFailed (0x001D, 0) d ∧ (j.cmd = 3 → dget (R.SLOT_STATE j.slot) d = dget (R.SLOT_STATE j.slot) s.dev)) ∧
  (∀ (s : State), s.dev.ldr.job = none → exec .loadReadTimeout s = .next s) ∧
  (∀ (data : List Nat) (j : LoadJob) (s : State), (∀ w ∈ data, w < 2 ^ 64) → s.dev.ldr.job = some j → loaderOn s.dev = true → j.cmd ≠ 2 → j.slot < 4 →
    dget R.LOAD_STATE s.dev = 1 → data.length < (j.bytes + 7) / 8 →
    Completes (exec (.loadPhaseDone data) s) s fun d =>
      d.ldr.job = some { j with obj := data } ∧ SameEntriesBut [] s.dev d ∧ ChangesOnly [.ldr] s.dev d) ∧
  (∀ (j : LoadJob) (s : State), s.dev.ldr.job = some j → j.cmd = 1 → j.slot < 4 → dget R.LOAD_STATE s.dev = 1 ∨ dget R.LOAD_STATE s.dev = 5 →
    Completes (exec .loadReadTimeout s) s fun d =>
      dget (R.SLOT_STATE j.slot) d = if objPatch j.obj then j.was else 0)

/-- A switch of a frame that it can still meet, to a slot that may be switched to, is pending with its frame and slot; frame 0 means
the first possible one. A slot drains when nothing of it is in flight any more. The fallback needs a slot 3 that may be switched to.
A pause names its frame; a resume needs the PAUSED state, RUN, and, with restore, an image that still fits; the save image ends
SAVING with a digest that the spec does not determine (free values); a restore that is over waits for its growth ring. The audit
timeout writes zeros for the digest of the first record that waits for one. -/
def Obligations.ContextsAndPause : Prop :=
  (∀ (c k f : Nat) (s : State), Asks c s.dev → k < 4 → f < 2 ^ 56 → follows s.dev = false → forwards s.dev = false → running s.dev = true →
    (f = 0 ∨ s.dev.grid.nextC ≤ f) → s.dev.grid.nextC < 2 ^ 56 → switchable s.dev k = true →
    (unsent s.dev = false → Completes (exec (.contextSwitch c f k) s) s fun d =>
      dget R.PENDING_SWITCH d = (if f = 0 then s.dev.grid.nextC else f) * 256 + 128 + k ∧ SameEntriesBut [R.PENDING_SWITCH.key] s.dev d ∧
      ChangesOnly [.dict] (asked c s.dev) d) ∧
    (unsent s.dev = true → Completes (exec (.contextSwitch c f k) s) s fun d =>
      dget R.PENDING_SWITCH d = (if f = 0 then s.dev.grid.nextC else f) * 256 + 128 + k ∧ dget R.MIRROR_SYNC_STATE d = 3 ∧ LastFault 0x0445 d ∧
      SameEntriesBut (R.PENDING_SWITCH.key :: R.MIRROR_SYNC_STATE.key :: reportKeys) s.dev d)) ∧
  (∀ (c k f : Nat) (s : State), Asks c s.dev → k < 4 → f < 2 ^ 56 → follows s.dev = false →
    (armed s.dev = false ∨ ending s.dev = true ∨ switchable s.dev k = false ∨ (running s.dev = true ∧ forwards s.dev = false ∧ f ≠ 0 ∧ f < s.dev.grid.nextC)) →
    Completes (exec (.contextSwitch c f k) s) s (TurnedAway c 0xA00B s.dev)) ∧
  (∀ (c k f : Nat) (s : State), Asks c s.dev → k < 4 → f < 2 ^ 56 → follows s.dev = true →
    Completes (exec (.contextSwitch c f k) s) s (TurnedAway c 0xA011 s.dev)) ∧
  (∀ (k g : Nat) (s : State), k < 4 → tget none s.dev.ctx.drain k = some g → (running s.dev = true → g + 2 < s.dev.grid.nextT) →
    egressFree s.dev k = true →
    Completes (exec (.slotDrained k) s) s fun d =>
      dget (R.SLOT_STATE k) d = 2 ∧ (∀ j, tget none d.ctx.drain j = if j = k then none else tget none s.dev.ctx.drain j) ∧
      d.now = (if arrayState s.dev = 1 then s.dev.now else max (t0At s.dev (g + 2) + dget R.GROWTH_RING_SPAN s.dev) s.dev.now) ∧
      SameEntriesBut [(R.SLOT_STATE k).key] s.dev d ∧ ChangesOnly [.now, .time, .dict, .ctx] s.dev d) ∧
  (∀ (k : Nat) (s : State), k < 4 → tget none s.dev.ctx.drain k = none → exec (.slotDrained k) s = .next s) ∧
  (∀ (c v : Nat) (s : State), Asks c s.dev → v < 2 → (v = 1 → switchable s.dev 3 = true) →
    Completes (exec (.fallbackEnable c v) s) s fun d =>
      dget R.FALLBACK_ENABLE d = v ∧ SameEntriesBut [R.FALLBACK_ENABLE.key] s.dev d ∧ ChangesOnly [.dict] (asked c s.dev) d) ∧
  (∀ (c : Nat) (s : State), Asks c s.dev → switchable s.dev 3 = false →
    Completes (exec (.fallbackEnable c 1) s) s (TurnedAway c 0xA00B s.dev)) ∧
  (∀ (c f : Nat) (s : State), Asks c s.dev → f < 2 ^ 56 → running s.dev = true → (f = 0 ∨ s.dev.grid.nextC ≤ f) → dget R.PAUSE_STATE s.dev = 0 →
    Completes (exec (.pause c f) s) s fun d =>
      dget R.PAUSE_STATE d = 1 ∧ dget R.PAUSE_FRAME d = (if f = 0 then s.dev.grid.nextC else f) ∧
      SameEntriesBut [R.PAUSE_STATE.key, R.PAUSE_FRAME.key] s.dev d ∧ ChangesOnly [.dict] (asked c s.dev) d) ∧
  (∀ (c f : Nat) (s : State), Asks c s.dev → f < 2 ^ 56 → armed s.dev = false ∨ dget R.PAUSE_STATE s.dev ≠ 0 →
    Completes (exec (.pause c f) s) s (TurnedAway c 0xA00B s.dev)) ∧
  (∀ (c f : Nat) (s : State), Asks c s.dev → f < 2 ^ 56 → running s.dev = true → (f = 0 ∨ s.dev.grid.nextC ≤ f) → dget R.PAUSE_STATE s.dev = 3 →
    dget R.POWER_STATE s.dev = 0 → preparing s.dev = false →
    (imageFits s.dev = true → Completes (exec (.resume c f) s) s fun d =>
      dget R.PAUSE_STATE d = 4 ∧ d.ctx = { s.dev.ctx with resumeAt := if f = 0 then s.dev.grid.nextC else f, restore := true } ∧
      SameEntriesBut [R.PAUSE_STATE.key] s.dev d ∧ ChangesOnly [.dict, .ctx] (asked c s.dev) d) ∧
    (imageFits s.dev = false → Completes (exec (.resume c f) s) s (TurnedAway c 0xA00B s.dev)) ∧
    Completes (exec (.resumeNoRestore c f) s) s fun d =>
      dget R.PAUSE_STATE d = 4 ∧ d.ctx = { s.dev.ctx with resumeAt := if f = 0 then s.dev.grid.nextC else f, restore := false } ∧
      SameEntriesBut [R.PAUSE_STATE.key] s.dev d ∧ ChangesOnly [.dict, .ctx] (asked c s.dev) d) ∧
  (∀ (c f : Nat) (s : State), Asks c s.dev → f < 2 ^ 56 → dget R.PAUSE_STATE s.dev ≠ 3 ∨ dget R.POWER_STATE s.dev ≠ 0 ∨ preparing s.dev = true →
    Completes (exec (.resume c f) s) s (TurnedAway c 0xA00B s.dev) ∧ Completes (exec (.resumeNoRestore c f) s) s (TurnedAway c 0xA00B s.dev)) ∧
  (∀ (p : Nat) (h : Save) (s : State), dget R.PAUSE_STATE s.dev = 2 → dget R.RESTART_STATE s.dev = 0 → p = dget R.PAUSE_FRAME s.dev →
    (running s.dev = true → p + 2 < s.dev.grid.nextT) → s.dev.ctx.save = some h →
    Completes (exec .saveImageWritten s) s fun d =>
      dget R.PAUSE_STATE d = 3 ∧ d.freeCtr = s.dev.freeCtr + 4 ∧
      (∃ regs, d.ctx.save = some (saveMons s.dev
        { h with sregs := regs, chans := s.dev.chans, edges := s.dev.edges.map (fun e => (e.1, edgeBefore s.dev p e.2)), pats := s.dev.trig.pats })) ∧
      SameEntriesBut [R.PAUSE_STATE.key, R.SAVE_DIGEST.key] s.dev d ∧ ChangesOnly [.now, .time, .dict, .ctx, .freeCtr] s.dev d) ∧
  (∀ (s : State), dget R.PAUSE_STATE s.dev ≠ 2 → exec .saveImageWritten s = .next s) ∧
  (∀ (s : State), dget R.PAUSE_STATE s.dev = 4 → dget R.RESTART_STATE s.dev = 0 →
    Completes (exec .restoreDone s) s fun d =>
      dget R.PAUSE_STATE d = 5 ∧ SameEntriesBut [R.PAUSE_STATE.key] s.dev d ∧ ChangesOnly [.dict] s.dev d) ∧
  (∀ (s : State), dget R.PAUSE_STATE s.dev ≠ 4 → exec .restoreDone s = .next s) ∧
  (∀ (r i : Nat) (e : Rec) (s : State), r = 1 ∨ r = 2 ∨ r = 4 → (ringOf s.dev r).queue[i]? = some e →
    e.audit = true → (e.kind = 2 ∨ e.kind = 3 ∨ e.kind = 4) → (∀ x ∈ (ringOf s.dev r).queue.take i, x.audit = false) →
    Completes (exec (.auditTimeout r) s) s fun d =>
      (ringOf d r).queue = (ringOf s.dev r).queue.set i { e with
        audit := false, words := e.words.mapIdx (fun j w => if auditAt e.kind ≤ j ∧ j < auditAt e.kind + 4 then 0 else w) } ∧
      (∀ q, q ≠ r → ringOf d q = ringOf s.dev q) ∧ dget R.AUDIT_SKIPPED d = satAdd32 (dget R.AUDIT_SKIPPED s.dev) 1 ∧
      SameEntriesBut [R.AUDIT_SKIPPED.key] s.dev d ∧ ChangesOnly [.dict, .host] s.dev d)

/-- What RING_CTRL holds after a write of v, ENABLE apart: IRQ, IRQ_COUNT and IRQ_DELAY as written (Table 14.5). -/
def ctrlWritten (v : Nat) (en : Bool) : Nat :=
  bits v 31 16 * 2 ^ 16 + bits v 11 4 * 16 + bits v 1 1 * 2 + (if en then 1 else 0)

/-- Ring r may be enabled: its base, its size, and its place and that of the consumer block inside enabled windows (R357). -/
def RingGood (r : Nat) (d : Dev) : Prop :=
  (ringOf d r).base % 4096 = 0 ∧ 64 ≤ (ringOf d r).entries ∧ (∃ k, k ≤ 20 ∧ (ringOf d r).entries = 2 ^ k) ∧
  inWindow d (ringOf d r).base (ringBytes (ringOf d r) r) = true ∧ inWindow d d.host.consumerBlock 256 = true

/-- The host reaches BAR0: its link is up, and the device is not in SLEEP. -/
def HostReaches (d : Dev) : Prop := d.host.linkUp = true ∧ powerState d ≠ 3

/-- Ring g under a write of v to RING_CTRL: where the records written since its last message reach IRQ_COUNT, they are announced and the
count begins anew (R363). -/
def recontrolled (g : Ring) (v : Nat) (en : Bool) : Ring :=
  let h := { g with ctrl := ctrlWritten v en }
  { h with unann := if countMet h then 0 else h.unann }

/-- The record ring numbers of Table 14.4. -/
def isRing (r : Nat) : Prop := r < 5 ∨ (16 ≤ r ∧ r < 32)

/-- A message of vector v: sent, or pending while the vector or the function is masked, MSI-X is off, or the link is not up in D0 (R363;
log entry 133). -/
def Messaged (v : Nat) (a d : Dev) : Prop :=
  (msiOpen v a = false → bit d.host.msixPba v = true ∧ d.host.msixSent = a.host.msixSent) ∧
  (msiOpen v a = true →
    tget 0 d.host.msixSent v = tget 0 a.host.msixSent v + 1 ∧ d.host.msixPba = a.host.msixPba)

/-- A ring that is enabled, with the link up, out of SLEEP and with room, writes the record at the head of its hub queue at entry
s mod RING_ENTRIES, its words first and the valid word at the end, and no other byte of host memory; the sequence number moves on by
one. The record carries the epoch in force when it is written (a verdict, and a record of losses, that of its frames), is not written
before its time, and waits for the records that it refers to; its words are free values if an undefined use is or was in force (log
entries 8 and 131). When IRQ_COUNT records have been written since the last message, the ring's message follows; a message of a
transfer with IRQ follows at once. A record outside the windows is not written: counted, reported, and joined to what the ring lost.
Otherwise nothing happens, but that a stop of the array which waits for no more than a place in the queue ends with the place that a record
frees (R497). -/
def Obligations.RecordWrite : Prop :=
  (∀ (r a : Nat) (e : Rec) (q : List Rec) (g : Ring) (ws us : List Nat) (b : List Nat × List Nat) (s : State), isRing r → g = ringOf s.dev r →
    g.queue = e :: q → g.enabled = true → hostOpen s.dev = true → dget R.POWER_STATE s.dev ≠ 3 → g.seq < g.consumer + g.entries →
    needsCapture s.dev e = false → linkWords s.dev e = some ws → ending s.dev = false →
    us = (if s.dev.undef ∨ e.free then (List.range (entryWords r - 2)).map (fun k => (Config.freeWord (s.dev.freeCtr + k)).toNat)
      else markWords s.dev r e ws) →
    b = recordBytes r g.seq { e with epoch := if r = 0 ∨ e.kind = 7 then e.epoch else g.epoch } us →
    a = g.base + g.seq % g.entries * (8 * entryWords r) → inWindow s.dev a (8 * entryWords r) = true →
    CompletesMem (exec (.recordWrite r) s) s fun d m =>
      (b.1 ++ b.2).length = 8 * entryWords r ∧ b.2 = bytesOf (2 ^ 63 + g.seq % 2 ^ 40) 8 ∧
      (∀ i, i < 8 * entryWords r → memGet m (a + i) = some (BitVec.ofNat 8 ((b.1 ++ b.2).getD i 0))) ∧
      (∀ x, x < a ∨ a + 8 * entryWords r ≤ x → memGet m x = memGet s.mem x) ∧
      (ringOf d r).seq = g.seq + 1 ∧ (ringOf d r).queue = q ∧ (ringOf d r).consumer = g.consumer ∧ (ringOf d r).epoch = g.epoch ∧
      (ringOf d r).loss = g.loss ∧ (∀ k, k ≠ r → ringOf d k = ringOf s.dev k) ∧ d.now = max e.due s.dev.now ∧
      (s.dev.undef = false → e.free = false → d.freeCtr = s.dev.freeCtr) ∧
      (e.kind = 5 → dget R.GAP_FRAMES d = dget R.GAP_FRAMES s.dev + (e.words.getD 1 0 + 1 - e.words.getD 0 0)) ∧
      (if countMet { g with unann := g.unann + 1 } ∨ ((e.kind = 0x12 ∨ e.kind = 0x10) ∧ e.audit = true)
        then Messaged r s.dev d ∧ (ringOf d r).unann = 0
        else (ringOf d r).unann = g.unann + 1 ∧ d.host.msixSent = s.dev.host.msixSent ∧ d.host.msixPba = s.dev.host.msixPba) ∧
      SameEntriesBut [R.GAP_RECORDS.key, R.GAP_FRAMES.key, R.RECORDS_LOST.key] s.dev d ∧
      ChangesOnly [.now, .time, .dict, .host, .engs, .freeCtr] s.dev d) ∧
  (∀ (r a : Nat) (e : Rec) (q : List Rec) (g : Ring) (ws : List Nat) (s : State), isRing r → g = ringOf s.dev r →
    g.queue = e :: q → g.enabled = true → hostOpen s.dev = true → dget R.POWER_STATE s.dev ≠ 3 → g.seq < g.consumer + g.entries →
    needsCapture s.dev e = false → linkWords s.dev e = some ws → ending s.dev = false → a = g.base + g.seq % g.entries * (8 * entryWords r) →
    inWindow s.dev a (8 * entryWords r) = false →
    Completes (exec (.recordWrite r) s) s fun d =>
      (ringOf d r).seq = g.seq ∧ (r ≠ 3 → (ringOf d r).queue = q ∧ (e.kind ≠ 7 → (ringOf d r).loss.count = g.loss.count + 1)) ∧
      dget R.WINDOW_VIOLATIONS d = satAdd32 (dget R.WINDOW_VIOLATIONS s.dev) 1 ∧ LastFault 0x1301 d ∧
      SameEntriesBut (R.WINDOW_VIOLATIONS.key :: reportKeys) s.dev d ∧ ChangesOnly [.now, .time, .dict, .host, .engs, .flt, .freeCtr] s.dev d) ∧
  (∀ (r : Nat) (g : Ring) (s : State), isRing r → g = ringOf s.dev r →
    ending s.dev = false → g.queue = [] ∨ g.enabled = false ∨ hostOpen s.dev = false ∨ dget R.POWER_STATE s.dev = 3 ∨ g.consumer + g.entries ≤ g.seq ∨
      (∃ e, g.queue.head? = some e ∧ (needsCapture s.dev e = true ∨ linkWords s.dev e = none)) →
    exec (.recordWrite r) s = .next s) ∧
  (∀ (r : Nat) (s : State), isRing r →
    CompletesMem (exec (.recordWrite r) s) s fun d m => m = memWrites s.mem (recordWrite r s.dev).2 ∧ d = stopEnds (recordWrite r s.dev).1) ∧
  (∀ (e : Nat) (d : Dev), arrayState d = 2 → d.grid.endF = some e → e ≤ d.grid.nextIssue → dget R.RESTART_STATE d = 0 →
    (ringOf d 0).loss = Loss.rest → dget R.ARRAY_STATE (stopEnds d) = 0 ∧ ringOf (stopEnds d) 0 = ringOf d 0)

/-- A read of the consumer block starts while the link is up, also beside earlier ones (log entry 144). The words of the oldest move the consumer words of the enabled rings,
where they neither go backwards nor pass NEXT_SEQ (a word that does has an undefined result); after 50 µs without an answer to it the
old words stay, and it is counted and reported. The IRQ_DELAY of a ring with unannounced records sends its message. -/
def Obligations.ConsumerAndMessages : Prop :=
  (∀ (s : State), hostOpen s.dev = true →
    Completes (exec .ciFetch s) s fun d =>
      d.host = { s.dev.host with fetches := s.dev.host.fetches ++ [s.dev.now] } ∧ SameEntriesBut [] s.dev d ∧ ChangesOnly [.host] s.dev d) ∧
  (∀ (s : State), hostOpen s.dev = false → exec .ciFetch s = .next s) ∧
  (∀ (w : List Nat) (t : Nat) (l : List Nat) (s : State), w.length = 32 → (∀ x ∈ w, x < 2 ^ 64) → s.dev.host.fetches = t :: l →
    (∀ r, isRing r → (ringOf s.dev r).enabled = true → (ringOf s.dev r).consumer ≤ w.getD r 0 ∧ w.getD r 0 ≤ (ringOf s.dev r).seq) →
    Completes (exec (.ciFetchDone w) s) s fun d =>
      d.host.fetches = l ∧
      (∀ r, isRing r → ringOf d r = if (ringOf s.dev r).enabled then { ringOf s.dev r with consumer := w.getD r 0 } else ringOf s.dev r) ∧
      (∀ r, ¬ isRing r → ringOf d r = ringOf s.dev r) ∧ d.host.wins = s.dev.host.wins ∧ d.host.msixSent = s.dev.host.msixSent ∧
      (∀ n, n < 16 → (ringOf s.dev (16 + n)).enabled = false → engOf d n = engOf s.dev n) ∧
      (∀ n, n < 16 → (ringOf s.dev (16 + n)).enabled = true → (engOf d n).used = (engOf s.dev n).used.filter (fun x =>
        match x.seq with | some q => decide (w.getD (16 + n) 0 ≤ q) | none => true)) ∧
      SameEntriesBut [] s.dev d ∧ ChangesOnly [.host, .engs] s.dev d) ∧
  (∀ (w : List Nat) (t r : Nat) (l : List Nat) (s : State), w.length = 32 → (∀ x ∈ w, x < 2 ^ 64) → s.dev.host.fetches = t :: l → isRing r →
    (ringOf s.dev r).enabled = true → (w.getD r 0 < (ringOf s.dev r).consumer ∨ (ringOf s.dev r).seq < w.getD r 0) →
    Completes (exec (.ciFetchDone w) s) s fun d => d.undef = true ∧ ChangesOnly [.host, .engs, .undef, .freeCtr] s.dev d) ∧
  (∀ (w : List Nat) (s : State), w.length = 32 → (∀ x ∈ w, x < 2 ^ 64) → s.dev.host.fetches = [] → exec (.ciFetchDone w) s = .next s) ∧
  (∀ (t : Nat) (l : List Nat) (s : State), s.dev.host.fetches = t :: l →
    Completes (exec .ciFetchTimeout s) s fun d =>
      d.now = max (t + 50 * acPerUs) s.dev.now ∧ d.host.fetches = l ∧ (∀ r, (ringOf d r).consumer = (ringOf s.dev r).consumer) ∧
      dget R.CI_FETCH_ERRORS d = satAdd32 (dget R.CI_FETCH_ERRORS s.dev) 1 ∧ LastFault 0x1302 d ∧
      SameEntriesBut (R.CI_FETCH_ERRORS.key :: reportKeys) s.dev d ∧ ChangesOnly [.now, .time, .dict, .host, .flt] s.dev d) ∧
  (∀ (s : State), s.dev.host.fetches = [] → exec .ciFetchTimeout s = .next s) ∧
  (∀ (r : Nat) (g : Ring) (s : State), isRing r → g = ringOf s.dev r → bit g.ctrl 1 = true → g.unann ≠ 0 →
    Completes (exec (.msixDelayExpiry r) s) s fun d =>
      Messaged r s.dev d ∧ ringOf d r = { g with unann := 0 } ∧ (∀ k, k ≠ r → ringOf d k = ringOf s.dev k) ∧
      d.now = max (g.oldestAt + bits g.ctrl 31 16 * acPerUs) s.dev.now ∧ SameEntriesBut [] s.dev d ∧ ChangesOnly [.now, .time, .host] s.dev d) ∧
  (∀ (r : Nat) (s : State), isRing r → bit (ringOf s.dev r).ctrl 1 = false ∨ (ringOf s.dev r).unann = 0 → exec (.msixDelayExpiry r) s = .next s)

/-- Setting ENABLE enables a ring that may be, and is refused otherwise; clearing it disables the ring, and what waits in its queue is
lost and counted; base and size take a write while the ring is disabled and ignore it while it is enabled. A window takes a write to
its registers unless it is locked, which is counted; an access that is not 32 or 64 bits wide and aligned has an undefined result; a
write to a reserved range does nothing, and neither does any while the link is down. A stop of the array that waits for the queue of the
verdict ring ends with a write that settles it (R497). -/
def Obligations.RingControl : Prop :=
  (∀ (r v : Nat) (s : State), isRing r → v < 2 ^ 32 → v % 2 = 1 → HostReaches s.dev → ending s.dev = false → (ringOf s.dev r).enabled = false → RingGood r s.dev →
    Completes (exec (.ringEnable r v) s) s fun d =>
      ringOf d r = { recontrolled (ringOf s.dev r) v true with enabled := true, downed := false } ∧ (∀ k, k ≠ r → ringOf d k = ringOf s.dev k) ∧
      dget (R.RING_STATE r) d = 1 ∧ (r = 0 → armed s.dev = false → dget R.HOST_LINK d = 2) ∧
      SameEntriesBut [(R.RING_STATE r).key, R.HOST_LINK.key] s.dev d ∧ ChangesOnly [.dict, .host] s.dev d) ∧
  (∀ (r v : Nat) (s : State), isRing r → v < 2 ^ 32 → v % 2 = 1 → HostReaches s.dev → ending s.dev = false → (ringOf s.dev r).enabled = false → ¬ RingGood r s.dev →
    Completes (exec (.ringEnable r v) s) s fun d =>
      dget (R.RING_STATE r) d = 2 ∧ ringOf d r = recontrolled (ringOf s.dev r) v false ∧
      SameEntriesBut [(R.RING_STATE r).key] s.dev d ∧ ChangesOnly [.dict, .host] s.dev d) ∧
  (∀ (r v : Nat) (s : State), isRing r → v < 2 ^ 32 → v % 2 = 0 → HostReaches s.dev → ending s.dev = false → (ringOf s.dev r).enabled = true →
    Completes (exec (.ringDisable r v) s) s fun d =>
      (ringOf d r).enabled = false ∧ (ringOf d r).queue = [] ∧ (ringOf d r).ctrl = ctrlWritten v false ∧ (ringOf d r).unann = (recontrolled (ringOf s.dev r) v false).unann ∧
      (ringOf d r).seq = (ringOf s.dev r).seq ∧ (ringOf d r).epoch = (ringOf s.dev r).epoch ∧ (ringOf d r).base = (ringOf s.dev r).base ∧
      ((∀ e ∈ (ringOf s.dev r).queue, e.kind ≠ 7) → (ringOf d r).loss.count = (ringOf s.dev r).loss.count + (ringOf s.dev r).queue.length) ∧
      (∀ k, k ≠ r → ringOf d k = ringOf s.dev k) ∧ dget (R.RING_STATE r) d = 0 ∧
      SameEntriesBut [(R.RING_STATE r).key, R.HOST_LINK.key] s.dev d ∧ ChangesOnly [.dict, .host, .engs] s.dev d) ∧
  (∀ (r v : Nat) (s : State), isRing r → v < 2 ^ 32 → HostReaches s.dev → ending s.dev = false →
    (v % 2 = 1 → (ringOf s.dev r).enabled = true → Completes (exec (.ringEnable r v) s) s fun d =>
      ringOf d r = recontrolled (ringOf s.dev r) v true ∧
      (countMet { ringOf s.dev r with ctrl := ctrlWritten v true } = true → Messaged r s.dev d) ∧ SameEntriesBut [] s.dev d ∧ ChangesOnly [.host] s.dev d) ∧
    (v % 2 = 0 → (ringOf s.dev r).enabled = false → Completes (exec (.ringDisable r v) s) s fun d =>
      ringOf d r = recontrolled (ringOf s.dev r) v false ∧
      (countMet { ringOf s.dev r with ctrl := ctrlWritten v false } = true → Messaged r s.dev d) ∧ SameEntriesBut [] s.dev d ∧ ChangesOnly [.host] s.dev d)) ∧
  (∀ (r v : Nat) (g : Ring) (s : State), isRing r → HostReaches s.dev → ending s.dev = false → g = ringOf s.dev r → g.enabled = false → v < 2 ^ 64 →
    Completes (exec (.ringControlWrite (0x2000 + 64 * r) 64 v) s) s fun d =>
      ringOf d r = { g with base := g.base - g.base % 2 ^ 64 + v } ∧ (∀ k, k ≠ r → ringOf d k = ringOf s.dev k) ∧
      SameEntriesBut [] s.dev d ∧ ChangesOnly [.host] s.dev d) ∧
  (∀ (r v : Nat) (g : Ring) (s : State), isRing r → HostReaches s.dev → ending s.dev = false → g = ringOf s.dev r → v < 2 ^ 32 →
    (g.enabled = false → Completes (exec (.ringControlWrite (0x2000 + 64 * r) 32 v) s) s fun d =>
      ringOf d r = { g with base := g.base - g.base % 2 ^ 32 + v } ∧ ChangesOnly [.host] s.dev d) ∧
    (g.enabled = false → Completes (exec (.ringControlWrite (0x2004 + 64 * r) 32 v) s) s fun d =>
      ringOf d r = { g with base := g.base - g.base / 2 ^ 32 % 2 ^ 32 * 2 ^ 32 + v * 2 ^ 32 } ∧ ChangesOnly [.host] s.dev d) ∧
    (g.enabled = false → Completes (exec (.ringControlWrite (0x2008 + 64 * r) 32 v) s) s fun d =>
      ringOf d r = { g with entries := v } ∧ ChangesOnly [.host] s.dev d) ∧
    (g.enabled = true → exec (.ringControlWrite (0x2000 + 64 * r) 32 v) s = .next s ∧ exec (.ringControlWrite (0x2004 + 64 * r) 32 v) s = .next s ∧
      exec (.ringControlWrite (0x2008 + 64 * r) 32 v) s = .next s) ∧
    Completes (exec (.ringControlWrite (0x200C + 64 * r) 32 v) s) s fun d =>
      (bit v 0 = g.enabled → ringOf d r = recontrolled g v g.enabled) ∧ ChangesOnly [.dict, .host, .engs] s.dev d) ∧
  (∀ (v : Nat) (s : State), HostReaches s.dev → ending s.dev = false → v < 2 ^ 64 → s.dev.host.consumerBlock < 2 ^ 64 →
    Completes (exec (.ringControlWrite 0x2800 64 v) s) s fun d =>
      d.host = { s.dev.host with consumerBlock := v / 256 * 256 } ∧ SameEntriesBut [] s.dev d ∧ ChangesOnly [.host] s.dev d) ∧
  (∀ (o w v : Nat) (s : State), HostReaches s.dev → ending s.dev = false → 0x2000 ≤ o → o < 0x2808 → (w = 8 ∨ w = 16 ∨ w = 32 ∨ w = 64) → v < 2 ^ w → goodAccess o w = false →
    Completes (exec (.ringControlWrite o w v) s) s fun d => d.undef = true ∧ SameEntriesBut [] s.dev d ∧ ChangesOnly [.undef] s.dev d) ∧
  (∀ (k v : Nat) (x : Win) (s : State), k < 8 → HostReaches s.dev → x = winOf s.dev k → winLocked s.dev k = false → v < 2 ^ 64 →
    x.base < 2 ^ 64 → x.limit < 2 ^ 64 →
    (Completes (exec (.hostWindowWrite (0x1000 + 32 * k) 64 v) s) s fun d =>
      winOf d k = { x with base := v } ∧ (∀ j, j ≠ k → winOf d j = winOf s.dev j) ∧ SameEntriesBut [] s.dev d ∧ ChangesOnly [.host] s.dev d) ∧
    (Completes (exec (.hostWindowWrite (0x1008 + 32 * k) 64 v) s) s fun d =>
      winOf d k = { x with limit := v } ∧ (∀ j, j ≠ k → winOf d j = winOf s.dev j) ∧ SameEntriesBut [] s.dev d ∧ ChangesOnly [.host] s.dev d) ∧
    (Completes (exec (.hostWindowWrite (0x1010 + 32 * k) 64 v) s) s fun d =>
      winOf d k = { x with enable := bit v 0 } ∧ (∀ j, j ≠ k → winOf d j = winOf s.dev j) ∧ SameEntriesBut [] s.dev d ∧ ChangesOnly [.host] s.dev d)) ∧
  (∀ (k o w v : Nat) (s : State), k < 8 → o < 32 → HostReaches s.dev → winLocked s.dev k = true → v < 2 ^ w → goodAccess (0x1000 + 32 * k + o) w = true →
    Completes (exec (.hostWindowWrite (0x1000 + 32 * k + o) w v) s) s fun d =>
      dget R.WINDOW_WRITES_IGNORED d = satAdd32 (dget R.WINDOW_WRITES_IGNORED s.dev) 1 ∧
      SameEntriesBut [R.WINDOW_WRITES_IGNORED.key] s.dev d ∧ ChangesOnly [.dict] s.dev d) ∧
  (∀ (i v : Nat) (s : State), i < 128 → HostReaches s.dev → v < 2 ^ 64 → tget (msixDefault i) s.dev.host.msixTable i < 2 ^ 64 →
    Completes (exec (.hostWindowWrite (0x4000 + 8 * i) 64 v) s) s fun d =>
      d.host.msixTable = tset (msixDefault i) s.dev.host.msixTable i v ∧
      (bit s.dev.host.msixPba (i / 2) = false → d.host.msixSent = s.dev.host.msixSent ∧ d.host.msixPba = s.dev.host.msixPba) ∧
      (bit s.dev.host.msixPba (i / 2) = true → msiOpen (i / 2) d = true → bit d.host.msixPba (i / 2) = false ∧
        tget 0 d.host.msixSent (i / 2) = tget 0 s.dev.host.msixSent (i / 2) + 1) ∧
      (msiOpen (i / 2) d = false → d.host.msixSent = s.dev.host.msixSent ∧ d.host.msixPba = s.dev.host.msixPba) ∧ SameEntriesBut [] s.dev d ∧ ChangesOnly [.host] s.dev d) ∧
  (∀ (o w v : Nat) (s : State), HostReaches s.dev → (0x1000 ≤ o ∧ o < 0x1100 ∨ 0x4000 ≤ o ∧ o < 0x4400 ∨ 0x5000 ≤ o ∧ o < 0x5008) → (w = 8 ∨ w = 16 ∨ w = 32 ∨ w = 64) →
    v < 2 ^ w → goodAccess o w = false →
    Completes (exec (.hostWindowWrite o w v) s) s fun d => d.undef = true ∧ SameEntriesBut [] s.dev d ∧ ChangesOnly [.undef] s.dev d) ∧
  (∀ (o w v : Nat) (s : State), HostReaches s.dev → (o < 0x1000 ∨ (0x1100 ≤ o ∧ o < 0x2000) ∨ (0x2808 ≤ o ∧ o < 0x4000) ∨ 0x4400 ≤ o) → o < 0x100000 →
    (w = 8 ∨ w = 16 ∨ w = 32 ∨ w = 64) → v < 2 ^ w → (0x5000 ≤ o → o < 0x5008 → goodAccess o w = true) →
    exec (.hostWindowWrite o w v) s = .next s) ∧
  (∀ (r v o w : Nat) (s : State), isRing r → v < 2 ^ 32 → s.dev.host.linkUp = false → v < 2 ^ w → (w = 8 ∨ w = 16 ∨ w = 32 ∨ w = 64) →
    (v % 2 = 1 → exec (.ringEnable r v) s = .next s) ∧ (v % 2 = 0 → exec (.ringDisable r v) s = .next s) ∧
    (o < 0x1000 → exec (.hostWindowWrite o w v) s = .next s) ∧ (0x2000 ≤ o → o < 0x2808 → exec (.ringControlWrite o w v) s = .next s)) ∧
  (∀ (r v : Nat) (s : State), isRing r → v < 2 ^ 32 → HostReaches s.dev → ending s.dev = true →
    (v % 2 = 1 → Completes (exec (.ringEnable r v) s) s fun d => d = stopEnds (ringCtrl r v s.dev)) ∧
    (v % 2 = 0 → Completes (exec (.ringDisable r v) s) s fun d => d = stopEnds (ringCtrl r v s.dev) ∧ (ringOf d r).enabled = false)) ∧
  (∀ (o w v : Nat) (s : State), HostReaches s.dev → ending s.dev = true → 0x2000 ≤ o → o < 0x2808 → (w = 8 ∨ w = 16 ∨ w = 32 ∨ w = 64) → v < 2 ^ w →
    Completes (exec (.ringControlWrite o w v) s) s fun d => d = stopEnds (ringControlWrite o w v s.dev))

/-- After a loss of the host port: ring r is disabled, and keeps its sequence number, its epoch and its consumer word (R364). -/
def RingCut (r : Nat) (a d : Dev) : Prop :=
  (ringOf d r).enabled = false ∧ dget (R.RING_STATE r) d = 0 ∧ (ringOf d r).seq = (ringOf a r).seq ∧ (ringOf d r).epoch = (ringOf a r).epoch ∧
  (ringOf d r).consumer = (ringOf a r).consumer

/-- The parts of the block that no host-port event may touch (R364). -/
def portFree : List Part :=
  [.now, .grid, .pll, .ports, .lanes, .chans, .edges, .frames, .time, .pins, .fuses, .lnk, .sec, .sys, .undef]

/-- A function-level reset and PERST_N return windows, ring control, CONSUMER_BLOCK, the MSI-X table and configuration space to their
reset values, disable every ring and stop every channel; PERST_N also takes the link down until it is released; a link loss disables
the rings, stops the channels whose descriptor read it ends, and is counted. Sequence numbers and epochs are kept, and the array, its
frames, ports and channels are untouched. The link comes up with its rate and width once PERST_N is released and the hub is up, with
what the host has set in configuration space (log entry 133); messages that waited leave. -/
def Obligations.HostPortEvents : Prop :=
  (∀ (s : State), s.dev.host.linkUp = true →
    Completes (exec .functionLevelReset s) s fun d =>
      d.host.wins = [] ∧ d.host.consumerBlock = 0 ∧ d.host.fetches = [] ∧ d.host.msixTable = [] ∧ d.host.msixPba = 0 ∧ d.host.cfg = HostCfg.rest ∧ d.host.linkUp = true ∧
      (∀ r, isRing r → RingCut r s.dev d ∧ (ringOf d r).base = 0 ∧ (ringOf d r).entries = 0 ∧ (ringOf d r).ctrl = 0) ∧
      (∀ n, n < 16 → dget (R.CHANNEL_STATE n) d = 0) ∧ dget R.HOST_RESETS d = satAdd32 (dget R.HOST_RESETS s.dev) 1 ∧
      (armed s.dev = false → dget R.HOST_LINK d = 1) ∧ (ending s.dev = false → dget R.ARRAY_STATE d = dget R.ARRAY_STATE s.dev ∧ (∀ p, p ∈ portFree → p.same s.dev d))) ∧
  (∀ (s : State), s.dev.host.linkUp = false → exec .functionLevelReset s = .next s) ∧
  (∀ (s : State), 3 ≤ s.dev.sys.step →
    Completes (exec .perstNAssert s) s fun d =>
      d.host.perstN = false ∧ d.host.linkUp = false ∧ d.host.wins = [] ∧ d.host.consumerBlock = 0 ∧ d.host.msixTable = [] ∧ d.host.cfg = HostCfg.rest ∧
      dget R.LINK_RATE d = 0 ∧ dget R.LINK_WIDTH d = 0 ∧ (∀ r, isRing r → RingCut r s.dev d) ∧
      (∀ n, n < 16 → dget (R.CHANNEL_STATE n) d = 0) ∧ dget R.HOST_RESETS d = satAdd32 (dget R.HOST_RESETS s.dev) 1 ∧
      (armed s.dev = false → dget R.HOST_LINK d = 0) ∧ (ending s.dev = false → ∀ p, p ∈ portFree → p.same s.dev d)) ∧
  (∀ (s : State), s.dev.sys.step < 3 →
    Completes (exec .perstNAssert s) s fun d =>
      d.host = { s.dev.host with perstN := false } ∧ SameEntriesBut [] s.dev d ∧ ChangesOnly [.host] s.dev d) ∧
  (∀ (s : State), Completes (exec .perstNRelease s) s fun d =>
    d.host = { s.dev.host with perstN := true } ∧ SameEntriesBut [] s.dev d ∧ ChangesOnly [.host] s.dev d) ∧
  (∀ (s : State), s.dev.host.linkUp = true →
    Completes (exec .linkDown s) s fun d =>
      d.host.linkUp = false ∧ d.host.fetches = [] ∧ d.host.wins = s.dev.host.wins ∧ dget R.LINK_RATE d = 0 ∧ dget R.LINK_WIDTH d = 0 ∧
      (∀ r, isRing r → RingCut r s.dev d ∧ (ringOf d r).base = (ringOf s.dev r).base ∧
        ((ringOf s.dev r).enabled = true → (ringOf d r).downed = true)) ∧
      dget R.LINK_DOWN_EVENTS d = satAdd32 (dget R.LINK_DOWN_EVENTS s.dev) 1 ∧ (armed s.dev = false → dget R.HOST_LINK d = 0) ∧
      (∀ n, n < 16 → transfers s.dev n = true → (engOf s.dev n).cur = none → dget (R.CHANNEL_STATE n) d = 0) ∧
      (ending s.dev = false → ∀ p, p ∈ portFree → p.same s.dev d) ∧
      (ending s.dev = false → s.dev.ldr.job = none → dget R.ENC_STATE s.dev ≠ 1 → LastFault 0x0303 d ∧ ChangesOnly [.dict, .host, .engs, .flt] s.dev d)) ∧
  (∀ (s : State), s.dev.host.linkUp = false → exec .linkDown s = .next s) ∧
  (∀ (rate w : Nat) (l12 : Bool) (c : HostCfg) (s : State), 1 ≤ rate → rate ≤ 6 → w ∈ [1, 2, 4, 8, 16] → cfgOk c = true →
    s.dev.host.perstN = true → s.dev.pins.porN = true → 3 ≤ s.dev.sys.step →
    Completes (exec (.hostLinkUp rate w ⟨l12, c⟩) s) s fun d =>
      d.host = { s.dev.host with linkUp := true, cfg := c, msixPba := d.host.msixPba, msixSent := d.host.msixSent } ∧
      (∀ v, v < 64 → if bit s.dev.host.msixPba v = true ∧ msiOpen v d = true
        then bit d.host.msixPba v = false ∧ tget 0 d.host.msixSent v = tget 0 s.dev.host.msixSent v + 1
        else bit d.host.msixPba v = bit s.dev.host.msixPba v ∧ tget 0 d.host.msixSent v = tget 0 s.dev.host.msixSent v) ∧
      dget R.LINK_RATE d = rate ∧ dget R.LINK_WIDTH d = w ∧ d.pwr = { s.dev.pwr with aspm := l12 } ∧
      (armed s.dev = false → dget R.HOST_LINK d = if (ringOf s.dev 0).enabled then 2 else 1) ∧
      SameEntriesBut [R.LINK_RATE.key, R.LINK_WIDTH.key, R.HOST_LINK.key] s.dev d ∧ ChangesOnly [.dict, .host, .pwr] s.dev d) ∧
  (∀ (rate w : Nat) (l12 : Bool) (c : HostCfg) (s : State), 1 ≤ rate → rate ≤ 6 → w ∈ [1, 2, 4, 8, 16] → cfgOk c = true →
    s.dev.host.perstN = false ∨ s.dev.pins.porN = false ∨ s.dev.sys.step < 3 → exec (.hostLinkUp rate w ⟨l12, c⟩) s = .next s)

/-- An ordinary dictionary entry and its row of the tables (R365, Table 15.1). -/
def EntryAt (idx sub : Nat) (e : Entry) : Prop :=
  idxExists idx = true ∧ sub ≠ 0 ∧ stagingAt idx sub = none ∧ findEntry idx sub = some e

/-- The value that a write of `len` bytes of `v` by client c carries for an entry, or its abort code: BAR0 for the host, the exact
length for the others (R367, R380). -/
def carried (c len v : Nat) (e : Entry) : Except Nat Nat := (if c = 0 then barConv (8 * len) v else exact len v) e

/-- The entries of access RW and RWS from which nothing else follows. -/
def plainKey (key : Nat) : Prop :=
  key ∉ [R.FAULT_N_CLASSES.key, R.RING_DOMAIN.key, R.RING_POSITION_CFG.key, R.MIRROR_ROLE.key, R.FRAME_LENGTH.key, R.MIRROR_SYNC.key,
    R.NPP_PORT.key, R.PTP_PROFILE.key, R.PTP_DOMAIN.key, R.REVIEW_REGION_PAGES.key, R.FALLBACK_ENABLE.key, R.CANOPY_STREAM_SHARE.key,
    R.TIME_SOURCE_SELECT.key, R.PPS_OUT_MODE.key, R.PPS_OUT_WIDTH.key] ∧
  ghostLane key = false ∧
  (∀ n, n < 64 → key ≠ (R.PRBS_MODE n).key ∧ key ≠ (R.ADAPT_HOLD n).key ∧ key ≠ (R.INJECT_RATE n).key) ∧
  (∀ p, p < 16 → key ≠ (0x2010 + p) * 256 + 1) ∧ (∀ n, n < 16 → key ≠ (R.RATE_SHARE n).key)

/-- The operands of a dictionary write are in order. -/
def WriteIn (c idx sub len v : Nat) : Prop :=
  idx < 65536 ∧ sub < 256 ∧ len ≤ 1464 ∧ v < 2 ^ (8 * len) ∧ (c = 0 → len ∈ [1, 2, 4, 8])

/-- A write of a value that its entry admits takes effect at once for the plain entries of access RW and RWS, and waits as an RWL value
for its growth ring otherwise; a RATE_SHARE counts from now on, and a write to a test entry of LANE_64 to LANE_127 is ignored (R56).
A value that would break a loaded context, or change the decimated rate of a channel that one uses, is refused. A write of what does not exist, of an entry that is read only, reserved to the host, out of range,
or owned by a block that runs, and a value of another length, is refused with its code and changes nothing; so is a data buffer below
one segment of its channel (log entry 169), and a write by an NPP client without an open session, or that may not write. A setting that a
primary cannot send takes the synchronisation away (R425). -/
def Obligations.DictionaryWrites : Prop :=
  (∀ (c idx sub len v w : Nat) (e : Entry) (s : State), WriteIn c idx sub len v → Asks c s.dev → EntryAt idx sub e → carried c len v e = .ok w →
    (e.hostOnly = true → c = 0) → chkValue s.dev e.chk w = 0 → ownerRuns s.dev e.owner (idx * 256 + sub) = false →
    (e.access = .rw ∨ (e.access = .rws ∧ breaksLoaded s.dev (idx * 256 + sub) w = false ∧ underSegment s.dev (idx * 256 + sub) w = false)) → plainKey (idx * 256 + sub) →
    Completes (exec (.dictWrite c idx sub len v) s) s fun d =>
      dget (regOf (idx * 256 + sub)) d = w ∧ SameEntriesBut [idx * 256 + sub] s.dev d ∧ ChangesOnly [.dict] (asked c s.dev) d) ∧
  (∀ (c idx sub len v w : Nat) (e : Entry) (s : State), WriteIn c idx sub len v → Asks c s.dev → EntryAt idx sub e → carried c len v e = .ok w →
    (e.hostOnly = true → c = 0) → chkValue s.dev e.chk w = 0 → ownerRuns s.dev e.owner (idx * 256 + sub) = false → e.access = .rwl →
    breaksRate s.dev (idx * 256 + sub) w = false → forwards s.dev = false →
    (follows s.dev = false → unsent s.dev = true → mirrors (idx * 256 + sub) = true →
      Completes (exec (.dictWrite c idx sub len v) s) s fun d =>
        d.ctl.rwlNew = tset none s.dev.ctl.rwlNew (idx * 256 + sub) (some w) ∧ dget R.MIRROR_SYNC_STATE d = 3 ∧ LastFault 0x0445 d ∧
        SameEntriesBut (R.MIRROR_SYNC_STATE.key :: reportKeys) s.dev d) ∧
    (follows s.dev = false → unsent s.dev = false ∨ mirrors (idx * 256 + sub) = false → Completes (exec (.dictWrite c idx sub len v) s) s fun d =>
      d.ctl.rwlNew = tset none s.dev.ctl.rwlNew (idx * 256 + sub) (some w) ∧ d.ctl.rwlLatched = s.dev.ctl.rwlLatched ∧
      d.ctl.groups = s.dev.ctl.groups ∧ SameEntriesBut [] s.dev d ∧ ChangesOnly [.ctl] s.dev d) ∧
    (follows s.dev = true → mirrors (idx * 256 + sub) = true →
      Completes (exec (.dictWrite c idx sub len v) s) s (TurnedAway c 0xA011 s.dev))) ∧
  (∀ (c idx sub len v : Nat) (s : State), WriteIn c idx sub len v → Asks c s.dev →
    (idxExists idx = false → Completes (exec (.dictWrite c idx sub len v) s) s (TurnedAway c 0xA001 s.dev)) ∧
    (idxExists idx = true → sub = 0 ∨ (stagingAt idx sub).isSome = true → Completes (exec (.dictWrite c idx sub len v) s) s (TurnedAway c 0xA003 s.dev)) ∧
    (idxExists idx = true → sub ≠ 0 → stagingAt idx sub = none → findEntry idx sub = none →
      Completes (exec (.dictWrite c idx sub len v) s) s (TurnedAway c 0xA002 s.dev))) ∧
  (∀ (c idx sub len v : Nat) (e : Entry) (s : State), WriteIn c idx sub len v → Asks c s.dev → EntryAt idx sub e →
    (e.access = .const ∨ e.access = .ro → Completes (exec (.dictWrite c idx sub len v) s) s (TurnedAway c 0xA003 s.dev)) ∧
    (∀ code, e.access ≠ .const → e.access ≠ .ro → code < 2 ^ 16 → carried c len v e = .error code →
      Completes (exec (.dictWrite c idx sub len v) s) s (TurnedAway c code s.dev))) ∧
  (∀ (c idx sub len v w : Nat) (e : Entry) (s : State), WriteIn c idx sub len v → Asks c s.dev → EntryAt idx sub e → carried c len v e = .ok w →
    e.access ≠ .const → e.access ≠ .ro →
    (e.hostOnly = true → c ≠ 0 → Completes (exec (.dictWrite c idx sub len v) s) s (TurnedAway c 0xA011 s.dev)) ∧
    ((e.hostOnly = true → c = 0) → chkValue s.dev e.chk w ≠ 0 →
      Completes (exec (.dictWrite c idx sub len v) s) s (TurnedAway c (chkValue s.dev e.chk w) s.dev)) ∧
    ((e.hostOnly = true → c = 0) → chkValue s.dev e.chk w = 0 → ghostLane (idx * 256 + sub) = false → ownerRuns s.dev e.owner (idx * 256 + sub) = true →
      Completes (exec (.dictWrite c idx sub len v) s) s (TurnedAway c 0xA007 s.dev)) ∧
    ((e.hostOnly = true → c = 0) → chkValue s.dev e.chk w = 0 → ownerRuns s.dev e.owner (idx * 256 + sub) = false → e.access = .rws →
      breaksLoaded s.dev (idx * 256 + sub) w = true → Completes (exec (.dictWrite c idx sub len v) s) s (TurnedAway c 0xA006 s.dev)) ∧
    ((e.hostOnly = true → c = 0) → chkValue s.dev e.chk w = 0 → ownerRuns s.dev e.owner (idx * 256 + sub) = false → e.access = .rws →
      ghostLane (idx * 256 + sub) = false → breaksLoaded s.dev (idx * 256 + sub) w = false → underSegment s.dev (idx * 256 + sub) w = true →
      Completes (exec (.dictWrite c idx sub len v) s) s (TurnedAway c 0xA005 s.dev)) ∧
    ((e.hostOnly = true → c = 0) → chkValue s.dev e.chk w = 0 → ownerRuns s.dev e.owner (idx * 256 + sub) = false → e.access = .rwl →
      follows s.dev = false → breaksRate s.dev (idx * 256 + sub) w = true →
      Completes (exec (.dictWrite c idx sub len v) s) s (TurnedAway c 0xA00E s.dev)) ∧
    ((e.hostOnly = true → c = 0) → chkValue s.dev e.chk w = 0 → ghostLane (idx * 256 + sub) = true →
      Completes (exec (.dictWrite c idx sub len v) s) s fun d => d = asked c s.dev)) ∧
  (∀ (c n len v w : Nat) (e : Entry) (s : State), WriteIn c (0x2C20 + n) 0x0B len v → Asks c s.dev → n < 16 → EntryAt (0x2C20 + n) 0x0B e →
    carried c len v e = .ok w → 1 ≤ w → w ≤ 256 →
    Completes (exec (.dictWrite c (0x2C20 + n) 0x0B len v) s) s fun d =>
      dget (R.RATE_SHARE n) d = w ∧ (engOf d n).share = shareOf d n ∧ (engOf d n).credAt = s.dev.now ∧
      (engOf d n).credit = creditAt s.dev n s.dev.now ∧ SameEntriesBut [(R.RATE_SHARE n).key] s.dev d ∧ ChangesOnly [.dict, .engs] (asked c s.dev) d) ∧
  (∀ (c idx sub len v : Nat) (s : State), WriteIn c idx sub len v → c < 10 → (c = 0 ∧ s.dev.host.linkUp = false) ∨ (c = 1 ∧ s.dev.ldr.job = none) →
    exec (.dictWrite c idx sub len v) s = .next s) ∧
  (∀ (c idx sub len v : Nat) (s : State), WriteIn c idx sub len v → 2 ≤ c → c < 10 → nppServes s.dev = true →
    ((sessOf s.dev (c - 2)).isOpen = false → Completes (exec (.dictWrite c idx sub len v) s) s (TurnedAway c 0xA012 s.dev)) ∧
    ((sessOf s.dev (c - 2)).isOpen = true → dget R.NPP_WRITE_ENABLE s.dev = 0 →
      Completes (exec (.dictWrite c idx sub len v) s) s (TurnedAway c 0xA011 s.dev)))

/-- The other groups stay as they are. -/
def OtherGroups (gs : List Nat) (a d : Dev) : Prop := ∀ g, g ∉ gs → grpOf d g = grpOf a g

/-- A member write of a free group, or of one that the writer holds, stages its value and makes the writer its holder; it is refused
while another client holds the group, or while it is committed. A commit of a group that the writer holds and whose checks pass waits
for its growth ring, whose frame COMMIT_FRAME gives that client; a commit of all commits every group that the client holds in STAGING. A
discard frees the group, or all of them. A group that the client does not hold is refused with 0xA00A, one it has committed with 0xA009. -/
def Obligations.GroupCommands : Prop :=
  (∀ (c idx sub v : Nat) (e : Entry) (s : State), Asks c s.dev → memberAt idx sub = true → EntryAt idx sub e → e.access = .rwg → e.hostOnly = false →
    v < 2 ^ (8 * tyBytes e.ty) → v < 2 ^ 2048 → chkValue s.dev e.chk v = 0 → ownerRuns s.dev e.owner (idx * 256 + sub) = false →
    ((grpOf s.dev (groupOfKey (idx * 256 + sub))).st = 0 ∨
      ((grpOf s.dev (groupOfKey (idx * 256 + sub))).st = 1 ∧ (grpOf s.dev (groupOfKey (idx * 256 + sub))).holder = c) →
      Completes (exec (.groupMemberWrite c idx sub v) s) s fun d =>
        grpOf d (groupOfKey (idx * 256 + sub)) = { grpOf s.dev (groupOfKey (idx * 256 + sub)) with
          st := 1, holder := c
          staged := tset none (grpOf s.dev (groupOfKey (idx * 256 + sub))).staged (memberNo (groupOfKey (idx * 256 + sub)) (idx * 256 + sub)) (some v) } ∧
        OtherGroups [groupOfKey (idx * 256 + sub)] s.dev d ∧ d.ctl.rwlNew = s.dev.ctl.rwlNew ∧ SameEntriesBut [] s.dev d ∧ ChangesOnly [.ctl] s.dev d) ∧
    ((grpOf s.dev (groupOfKey (idx * 256 + sub))).st = 2 → Completes (exec (.groupMemberWrite c idx sub v) s) s (TurnedAway c 0xA009 s.dev)) ∧
    ((grpOf s.dev (groupOfKey (idx * 256 + sub))).st = 1 → (grpOf s.dev (groupOfKey (idx * 256 + sub))).holder ≠ c →
      Completes (exec (.groupMemberWrite c idx sub v) s) s (TurnedAway c 0xA008 s.dev))) ∧
  (∀ (c gid : Nat) (g : Grp) (s : State), Asks c s.dev → gid < 2 ^ 32 → g = grpOf s.dev gid → g.st = 1 → g.holder = c →
    (follows s.dev = false → forwards s.dev = false → unsent s.dev = false → groupFault s.dev gid = none → Completes (exec (.groupCommit c gid) s) s fun d =>
      grpOf d gid = { g with st := 2, due := if running s.dev then s.dev.grid.nextC else 0 } ∧ OtherGroups [gid] s.dev d ∧
      tget 0 d.ctl.commitFrame c = (if running s.dev then s.dev.grid.nextC else 0) ∧ SameEntriesBut [] s.dev d ∧ ChangesOnly [.ctl] s.dev d) ∧
    (follows s.dev = false → unsent s.dev = true → groupFault s.dev gid = none → Completes (exec (.groupCommit c gid) s) s fun d =>
      grpOf d gid = { g with st := 2, due := if running s.dev then s.dev.grid.nextC else 0 } ∧ OtherGroups [gid] s.dev d ∧
      dget R.MIRROR_SYNC_STATE d = 3 ∧ LastFault 0x0445 d ∧ SameEntriesBut (R.MIRROR_SYNC_STATE.key :: reportKeys) s.dev d) ∧
    (∀ f, follows s.dev = false → groupFault s.dev gid = some f → Completes (exec (.groupCommit c gid) s) s fun d =>
      TurnedAway c f.1 s.dev d ∧ grpOf d gid = g) ∧
    (follows s.dev = true → Completes (exec (.groupCommit c gid) s) s (TurnedAway c 0xA011 s.dev)) ∧
    (gid ≠ 0xFFFFFFFF → Completes (exec (.groupDiscard c gid) s) s fun d =>
      grpOf d gid = Grp.rest ∧ OtherGroups [gid] s.dev d ∧ SameEntriesBut [] s.dev d ∧ ChangesOnly [.ctl] s.dev d)) ∧
  (∀ (c gid : Nat) (s : State), Asks c s.dev → gid < 0xFFFFFFFF → (grpOf s.dev gid).st = 2 → (grpOf s.dev gid).holder = c →
    Completes (exec (.groupCommit c gid) s) s (TurnedAway c 0xA009 s.dev) ∧ Completes (exec (.groupDiscard c gid) s) s (TurnedAway c 0xA009 s.dev)) ∧
  (∀ (c gid : Nat) (s : State), Asks c s.dev → gid < 0xFFFFFFFF → (grpOf s.dev gid).st = 0 ∨ (grpOf s.dev gid).holder ≠ c →
    Completes (exec (.groupCommit c gid) s) s (TurnedAway c 0xA00A s.dev) ∧ Completes (exec (.groupDiscard c gid) s) s (TurnedAway c 0xA00A s.dev)) ∧
  (∀ (c : Nat) (s : State), Asks c s.dev → heldStaging s.dev c ≠ [] →
    (follows s.dev = false → forwards s.dev = false → unsent s.dev = false → (∀ g ∈ heldStaging s.dev c, groupFault s.dev g = none) →
      Completes (exec (.groupCommitAll c) s) s fun d =>
        (∀ g ∈ heldStaging s.dev c, grpOf d g = { grpOf s.dev g with st := 2, due := if running s.dev then s.dev.grid.nextC else 0 }) ∧
        OtherGroups (heldStaging s.dev c) s.dev d ∧ tget 0 d.ctl.commitFrame c = (if running s.dev then s.dev.grid.nextC else 0) ∧
        SameEntriesBut [] s.dev d ∧ ChangesOnly [.ctl] s.dev d) ∧
    Completes (exec (.groupDiscardAll c) s) s fun d =>
      (∀ g ∈ heldStaging s.dev c, grpOf d g = Grp.rest) ∧ OtherGroups (heldStaging s.dev c) s.dev d ∧ SameEntriesBut [] s.dev d ∧
      ChangesOnly [.ctl] s.dev d) ∧
  (∀ (c : Nat) (s : State), Asks c s.dev → heldStaging s.dev c = [] →
    Completes (exec (.groupCommitAll c) s) s (TurnedAway c 0xA00A s.dev) ∧ Completes (exec (.groupDiscardAll c) s) s (TurnedAway c 0xA00A s.dev))

/-- A bulk read puts the bytes of the entry into BULK_DATA, and a bulk write writes an entry from it; BULK_STATUS is 0, or the abort
code of a refusal, which LAST_ABORT and ABORT_COUNT record and which changes no entry. A host read at the entry's offset in BAR0 gives
an entry of at most 8 bytes, and 0 with an abort code otherwise. -/
def Obligations.BulkAccess : Prop :=
  (∀ (idx sub v n : Nat) (s : State), idx < 65536 → sub < 256 → HostReaches s.dev → readEntry 0 idx sub s.dev = .ok (v, n) →
    Completes (exec (.bulkRead idx sub) s) s fun d =>
      tgetRun 0 d.ctl.bulkData 0 n = bytesOf v n ∧ d.ctl.bulkStatus = 0 ∧ d.ctl.bulkCtrl = idx * 2 ^ 48 + sub * 2 ^ 40 + 1 ∧
      (∀ e, EntryAt idx sub e → e.access ≠ .wo → computed 0 (idx * 256 + sub) s.dev = none →
        v = dget (regOf (idx * 256 + sub)) s.dev ∧ n = tyBytes e.ty) ∧
      SameEntriesBut [] s.dev d ∧ ChangesOnly [.ctl] s.dev d) ∧
  (∀ (idx sub code : Nat) (s : State), idx < 65536 → sub < 256 → HostReaches s.dev → readEntry 0 idx sub s.dev = .error code →
    Completes (exec (.bulkRead idx sub) s) s fun d =>
      d.ctl.bulkStatus = code ∧ TurnedAway 0 code s.dev d ∧ (code = 0xA001 ∧ idxExists idx = false ∨ code = 0xA002 ∧ findEntry idx sub = none)) ∧
  (∀ (idx sub : Nat) (data : List Nat) (e : Entry) (s : State), idx < 65536 → sub < 256 → data.length = tyBytes e.ty → data.length ≤ 1024 →
    (∀ b ∈ data, b < 256) → HostReaches s.dev → dget R.BOOT_STATE s.dev = 2 → EntryAt idx sub e → chkValue s.dev e.chk (ofBytes data) = 0 →
    ownerRuns s.dev e.owner (idx * 256 + sub) = false →
    (e.access = .rw ∨ (e.access = .rws ∧ breaksLoaded s.dev (idx * 256 + sub) (ofBytes data) = false ∧
      underSegment s.dev (idx * 256 + sub) (ofBytes data) = false)) → plainKey (idx * 256 + sub) →
    Completes (exec (.bulkWrite idx sub data) s) s fun d =>
      dget (regOf (idx * 256 + sub)) d = ofBytes data ∧ d.ctl.bulkStatus = 0 ∧ d.ctl.bulkCtrl = idx * 2 ^ 48 + sub * 2 ^ 40 + 2 ∧
      SameEntriesBut [idx * 256 + sub] s.dev d ∧ ChangesOnly [.dict, .ctl] s.dev d) ∧
  (∀ (idx sub : Nat) (data : List Nat) (s : State), idx < 65536 → sub < 256 → data.length ≤ 1024 → (∀ b ∈ data, b < 256) → HostReaches s.dev →
    (idxExists idx = false → Completes (exec (.bulkWrite idx sub data) s) s fun d => d.ctl.bulkStatus = 0xA001 ∧ TurnedAway 0 0xA001 s.dev d) ∧
    (∀ e, EntryAt idx sub e → e.access = .const ∨ e.access = .ro →
      Completes (exec (.bulkWrite idx sub data) s) s fun d => d.ctl.bulkStatus = 0xA003 ∧ TurnedAway 0 0xA003 s.dev d)) ∧
  (∀ (idx sub : Nat) (data : List Nat) (s : State), idx < 65536 → sub < 256 → data.length ≤ 1024 → (∀ b ∈ data, b < 256) →
    s.dev.host.linkUp = false → exec (.bulkRead idx sub) s = .next s ∧ exec (.bulkWrite idx sub data) s = .next s) ∧
  (∀ (idx sub : Nat) (e : Entry) (d : Dev), 0x1000 ≤ idx → idx < 0x6000 → sub < 256 → d.host.linkUp = true → powerState d ≠ 3 →
    (∀ v n, EntryAt idx sub e → tySigned e.ty = false → readEntry 0 idx sub d = .ok (v, n) → n ≤ 8 → hostRead (dictOffset idx sub) 64 d = (v, d)) ∧
    (∀ v n, readEntry 0 idx sub d = .ok (v, n) → 8 < n →
      (hostRead (dictOffset idx sub) 64 d).1 = 0 ∧ TurnedAway 0 0xA004 d (hostRead (dictOffset idx sub) 64 d).2) ∧
    (∀ code, readEntry 0 idx sub d = .error code →
      (hostRead (dictOffset idx sub) 64 d).1 = 0 ∧ TurnedAway 0 code d (hostRead (dictOffset idx sub) 64 d).2))

/-- The NPP requests that name a session, each with its OP (Table 15.10). -/
def nppRequests (session seq gid : Nat) (r : List (Nat × Nat)) (w : List (Nat × Nat × List Nat)) : List (Nat × Instr) :=
  [(2, .nppClose session seq), (3, .nppRead session seq ⟨r.length, r⟩), (4, .nppWrite session seq ⟨w.length, w⟩), (5, .nppCommit session seq gid),
    (6, .nppDiscard session seq gid), (7, .nppKeepalive session seq)]

/-- The operands of an NPP request are in order. -/
def NppIn (session seq gid : Nat) (r : List (Nat × Nat)) (w : List (Nat × Nat × List Nat)) : Prop :=
  session < 2 ^ 32 ∧ seq < 2 ^ 32 ∧ gid < 2 ^ 32 ∧ readItems r = true ∧ writeItems w = true

/-- Session k, open under this identifier, is asked with its next SEQ while verified firmware runs. -/
def NppTurn (k session seq : Nat) (d : Dev) : Prop :=
  dget R.BOOT_STATE d = 2 ∧ powerState d ≠ 3 ∧ sessNamed d session = some k ∧ seq = (sessOf d k).nextSeq

/-- The request was processed: the reply is sent and stored in the session, whose next SEQ follows; the other sessions stay (R383). -/
def Replied (k seq : Nat) (bs : List Nat) (a d : Dev) : Prop :=
  d.ctl.reply = bs ∧ sessOf d k = { sessOf a k with nextSeq := (seq + 1) % 2 ^ 32, lastAt := a.now, reply := bs } ∧
  (∀ j, j ≠ k → sessOf d j = sessOf a j) ∧ dget R.NPP_REQUESTS d = satAdd32 (dget R.NPP_REQUESTS a) 1

/-- Session k while it is served a request with its next SEQ. -/
def served (k seq : Nat) (d : Dev) : Dev :=
  bump R.NPP_REQUESTS (setSess k { sessOf d k with nextSeq := (seq + 1) % 2 ^ 32, lastAt := d.now } d)

/-- The entries that follow the sessions. -/
def nppKeys : List Nat := [R.NPP_REQUESTS.key, R.NPP_SESSIONS.key]

/-- An OPEN takes the lowest free session under a new identifier, with SEQ 1 next, or is answered 0xA013. A request with the session's
next SEQ is processed and its reply stored; one that repeats the SEQ before gets the stored reply and nothing else happens; any other
gets 0xA014, and one that names no session 0xA012. A request
whose COUNT is not the number of its items gets 0xA015. A READ answers every item; a WRITE stops at the first refused item, and the items before it stand; a COMMIT answers the frame; a CLOSE, an expiry and a new NPP_PORT end sessions and give up the groups they hold in STAGING. In SLEEP nothing is answered. -/
def Obligations.NppSessions : Prop :=
  (∀ (k seq : Nat) (s : State), seq < 2 ^ 32 → nppServes s.dev = true → freeSession s.dev = some k →
    Completes (exec (.nppOpen seq) s) s fun d =>
      (∃ i, i ≠ 0 ∧ i < 2 ^ 32 ∧ sessNamed s.dev i = none ∧ sessOf d k = ⟨true, i, 1, [], s.dev.now⟩ ∧ d.ctl.reply = nppReply 1 i seq 0 0 []) ∧
      (∀ j, j ≠ k → sessOf d j = sessOf s.dev j) ∧ dget R.NPP_REQUESTS d = satAdd32 (dget R.NPP_REQUESTS s.dev) 1 ∧ d.freeCtr = s.dev.freeCtr + 1 ∧
      SameEntriesBut nppKeys s.dev d ∧ ChangesOnly [.dict, .ctl, .freeCtr] s.dev d) ∧
  (∀ (seq : Nat) (s : State), seq < 2 ^ 32 → nppServes s.dev = true → freeSession s.dev = none →
    Completes (exec (.nppOpen seq) s) s fun d =>
      d.ctl = { s.dev.ctl with reply := nppReply 1 0 seq 0 0xA013 [] } ∧ SameEntriesBut [] s.dev d ∧ ChangesOnly [.ctl] s.dev d) ∧
  (∀ (k session seq gid : Nat) (r : List (Nat × Nat)) (w : List (Nat × Nat × List Nat)) (s : State), NppIn session seq gid r w → NppTurn k session seq s.dev →
    (Completes (exec (.nppKeepalive session seq) s) s fun d =>
      Replied k seq (nppReply 7 session seq 0 0 []) s.dev d ∧ SameEntriesBut nppKeys s.dev d ∧ ChangesOnly [.dict, .ctl] s.dev d) ∧
    (1472 < 16 + (r.flatMap (fun i => (readItem (k + 2) s.dev i).1)).length → Completes (exec (.nppRead session seq ⟨r.length, r⟩) s) s fun d =>
      Replied k seq (nppReply 3 session seq 0 0xA015 []) s.dev d ∧ SameEntriesBut nppKeys s.dev d ∧ ChangesOnly [.dict, .ctl] s.dev d) ∧
    (16 + (r.flatMap (fun i => (readItem (k + 2) s.dev i).1)).length ≤ 1472 → Completes (exec (.nppRead session seq ⟨r.length, r⟩) s) s fun d =>
      Replied k seq (nppReply 3 session seq r.length (((r.map (fun i => (readItem (k + 2) (served k seq s.dev) i).2)).find? (fun e => decide (e ≠ 0))).getD 0)
        (r.flatMap (fun i => (readItem (k + 2) (served k seq s.dev) i).1))) s.dev d ∧
      SameEntriesBut nppKeys s.dev d ∧ ChangesOnly [.dict, .ctl] s.dev d) ∧
    (dget R.NPP_WRITE_ENABLE s.dev = 1 → Completes (exec (.nppWrite session seq ⟨w.length, w⟩) s) s fun d =>
      d.ctl.reply = nppReply 4 session seq (writeFrom (k + 2) w 0 (served k seq s.dev)).2.2 (writeFrom (k + 2) w 0 (served k seq s.dev)).2.1 [] ∧
      SameEntriesBut [R.NPP_SESSIONS.key] (writeFrom (k + 2) w 0 (served k seq s.dev)).1 d) ∧
    (dget R.NPP_WRITE_ENABLE s.dev = 0 →
      (Completes (exec (.nppWrite session seq ⟨w.length, w⟩) s) s fun d =>
        Replied k seq (nppReply 4 session seq 0 0xA011 []) s.dev d ∧ SameEntriesBut nppKeys s.dev d ∧ ChangesOnly [.dict, .ctl] s.dev d) ∧
      (Completes (exec (.nppCommit session seq gid) s) s fun d =>
        Replied k seq (nppReply 5 session seq 0 0xA011 []) s.dev d ∧ SameEntriesBut nppKeys s.dev d ∧ ChangesOnly [.dict, .ctl] s.dev d) ∧
      Completes (exec (.nppDiscard session seq gid) s) s fun d =>
        Replied k seq (nppReply 6 session seq 0 0xA011 []) s.dev d ∧ SameEntriesBut nppKeys s.dev d ∧ ChangesOnly [.dict, .ctl] s.dev d) ∧
    (Completes (exec (.nppClose session seq) s) s fun d =>
      d.ctl.reply = nppReply 2 session seq 0 0 [] ∧ sessOf d k = Sess.rest ∧ (∀ j, j ≠ k → sessOf d j = sessOf s.dev j) ∧
      (∀ g ∈ heldStaging s.dev (k + 2), grpOf d g = Grp.rest) ∧ OtherGroups (heldStaging s.dev (k + 2)) s.dev d ∧
      SameEntriesBut (R.HOLDS_DISCARDED.key :: nppKeys) s.dev d ∧ ChangesOnly [.dict, .ctl] s.dev d)) ∧
  (∀ (k session seq n : Nat) (r : List (Nat × Nat)) (w : List (Nat × Nat × List Nat)) (s : State), NppIn session seq 0 r w →
    NppTurn k session seq s.dev → n < 65536 →
    (n ≠ r.length → Completes (exec (.nppRead session seq ⟨n, r⟩) s) s fun d =>
      Replied k seq (nppReply 3 session seq 0 0xA015 []) s.dev d ∧ SameEntriesBut nppKeys s.dev d ∧ ChangesOnly [.dict, .ctl] s.dev d) ∧
    (n ≠ w.length → Completes (exec (.nppWrite session seq ⟨n, w⟩) s) s fun d =>
      Replied k seq (nppReply 4 session seq 0 0xA015 []) s.dev d ∧ SameEntriesBut nppKeys s.dev d ∧ ChangesOnly [.dict, .ctl] s.dev d)) ∧
  (∀ (k session seq idx sub : Nat) (e : Entry) (s : State), session < 2 ^ 32 → seq < 2 ^ 32 → NppTurn k session seq s.dev → idx < 65536 → sub < 256 →
    EntryAt idx sub e → e.access ≠ .wo → computed (k + 2) (idx * 256 + sub) s.dev = none → tyBytes e.ty ≤ 1024 →
    idx * 256 + sub ∉ nppKeys →
    Completes (exec (.nppRead session seq ⟨1, [(idx, sub)]⟩) s) s fun d =>
      Replied k seq (nppReply 3 session seq 1 0 (bytesOf idx 2 ++ [sub, 0, 0, 0] ++ bytesOf (tyBytes e.ty) 2 ++
        bytesOf (dget (regOf (idx * 256 + sub)) s.dev) (tyBytes e.ty) ++ List.replicate ((tyBytes e.ty + 3) / 4 * 4 - tyBytes e.ty) 0)) s.dev d ∧
      SameEntriesBut nppKeys s.dev d ∧ ChangesOnly [.dict, .ctl] s.dev d) ∧
  (∀ (k session seq idx sub : Nat) (data : List Nat) (e : Entry) (s : State), session < 2 ^ 32 → seq < 2 ^ 32 → writeItems [(idx, sub, data)] = true →
    NppTurn k session seq s.dev → dget R.NPP_WRITE_ENABLE s.dev = 1 → EntryAt idx sub e → data.length = tyBytes e.ty →
    e.hostOnly = false → chkValue s.dev e.chk (ofBytes data) = 0 → ownerRuns s.dev e.owner (idx * 256 + sub) = false →
    (e.access = .rw ∨ (e.access = .rws ∧ breaksLoaded s.dev (idx * 256 + sub) (ofBytes data) = false ∧
      underSegment s.dev (idx * 256 + sub) (ofBytes data) = false)) → plainKey (idx * 256 + sub) →
    idx * 256 + sub ∉ nppKeys → Completes (exec (.nppWrite session seq ⟨1, [(idx, sub, data)]⟩) s) s fun d =>
      dget (regOf (idx * 256 + sub)) d = ofBytes data ∧ Replied k seq (nppReply 4 session seq 1 0 []) s.dev d ∧
      SameEntriesBut ((idx * 256 + sub) :: nppKeys) s.dev d ∧ ChangesOnly [.dict, .ctl] s.dev d) ∧
  (∀ (k session seq idx sub : Nat) (data : List Nat) (rest : List (Nat × Nat × List Nat)) (s : State), session < 2 ^ 32 → seq < 2 ^ 32 →
    writeItems ((idx, sub, data) :: rest) = true → NppTurn k session seq s.dev → dget R.NPP_WRITE_ENABLE s.dev = 1 → idxExists idx = false →
    Completes (exec (.nppWrite session seq ⟨rest.length + 1, (idx, sub, data) :: rest⟩) s) s fun d =>
      Replied k seq (nppReply 4 session seq 0 0xA001 []) s.dev d ∧ SameEntriesBut nppKeys s.dev d ∧ ChangesOnly [.dict, .ctl] s.dev d) ∧
  (∀ (k session seq gid f : Nat) (s : State), session < 2 ^ 32 → seq < 2 ^ 32 → gid < 0xFFFFFFFF → NppTurn k session seq s.dev →
    dget R.NPP_WRITE_ENABLE s.dev = 1 → (grpOf s.dev gid).st = 1 → (grpOf s.dev gid).holder = k + 2 → f = (if running s.dev then s.dev.grid.nextC else 0) →
    (follows s.dev = false → forwards s.dev = false → unsent s.dev = false → groupFault s.dev gid = none → Completes (exec (.nppCommit session seq gid) s) s fun d =>
      Replied k seq (nppReply 5 session seq 1 0 (bytesOf f 8)) s.dev d ∧ grpOf d gid = { grpOf s.dev gid with st := 2, due := f } ∧
      OtherGroups [gid] s.dev d ∧ SameEntriesBut nppKeys s.dev d ∧ ChangesOnly [.dict, .ctl] s.dev d) ∧
    Completes (exec (.nppDiscard session seq gid) s) s fun d =>
      Replied k seq (nppReply 6 session seq 0 0 []) s.dev d ∧ grpOf d gid = Grp.rest ∧ OtherGroups [gid] s.dev d ∧
      SameEntriesBut nppKeys s.dev d ∧ ChangesOnly [.dict, .ctl] s.dev d) ∧
  (∀ (k session seq f : Nat) (s : State), session < 2 ^ 32 → seq < 2 ^ 32 → NppTurn k session seq s.dev →
    dget R.NPP_WRITE_ENABLE s.dev = 1 → heldStaging s.dev (k + 2) ≠ [] → f = (if running s.dev then s.dev.grid.nextC else 0) →
    (follows s.dev = false → forwards s.dev = false → unsent s.dev = false → (∀ g ∈ heldStaging s.dev (k + 2), groupFault s.dev g = none) →
      Completes (exec (.nppCommit session seq 0xFFFFFFFF) s) s fun d =>
        Replied k seq (nppReply 5 session seq 1 0 (bytesOf f 8)) s.dev d ∧
        (∀ g ∈ heldStaging s.dev (k + 2), grpOf d g = { grpOf s.dev g with st := 2, due := f }) ∧
        OtherGroups (heldStaging s.dev (k + 2)) s.dev d ∧ SameEntriesBut nppKeys s.dev d ∧ ChangesOnly [.dict, .ctl] s.dev d) ∧
    Completes (exec (.nppDiscard session seq 0xFFFFFFFF) s) s fun d =>
      Replied k seq (nppReply 6 session seq 0 0 []) s.dev d ∧ (∀ g ∈ heldStaging s.dev (k + 2), grpOf d g = Grp.rest) ∧
      OtherGroups (heldStaging s.dev (k + 2)) s.dev d ∧ SameEntriesBut nppKeys s.dev d ∧ ChangesOnly [.dict, .ctl] s.dev d) ∧
  (∀ (session seq gid : Nat) (r : List (Nat × Nat)) (w : List (Nat × Nat × List Nat)) (s : State), NppIn session seq gid r w →
    dget R.BOOT_STATE s.dev = 2 → powerState s.dev ≠ 3 → ∀ q ∈ nppRequests session seq gid r w,
    (sessNamed s.dev session = none → Completes (exec q.2 s) s fun d =>
      d.ctl = { s.dev.ctl with reply := nppReply q.1 session seq 0 0xA012 [] } ∧ SameEntriesBut [] s.dev d ∧ ChangesOnly [.ctl] s.dev d) ∧
    (∀ k, sessNamed s.dev session = some k → seq ≠ (sessOf s.dev k).nextSeq → (seq + 1) % 2 ^ 32 ≠ (sessOf s.dev k).nextSeq →
      Completes (exec q.2 s) s fun d =>
        d.ctl = { s.dev.ctl with reply := nppReply q.1 session seq 0 0xA014 [] } ∧ SameEntriesBut [] s.dev d ∧ ChangesOnly [.ctl] s.dev d) ∧
    (∀ k, sessNamed s.dev session = some k → seq ≠ (sessOf s.dev k).nextSeq → (seq + 1) % 2 ^ 32 = (sessOf s.dev k).nextSeq →
      (sessOf s.dev k).reply ≠ [] → Completes (exec q.2 s) s fun d =>
        d.ctl.reply = (sessOf s.dev k).reply ∧ sessOf d k = { sessOf s.dev k with lastAt := s.dev.now } ∧ (∀ j, j ≠ k → sessOf d j = sessOf s.dev j) ∧
        SameEntriesBut [R.NPP_SESSIONS.key] s.dev d ∧ ChangesOnly [.dict, .ctl] s.dev d)) ∧
  (∀ (session seq gid : Nat) (r : List (Nat × Nat)) (w : List (Nat × Nat × List Nat)) (s : State), NppIn session seq gid r w → nppServes s.dev = false →
    exec (.nppOpen seq) s = .next s ∧ exec .nppDatagramDiscard s = .next s ∧
    (∀ q ∈ nppRequests session seq gid r w, exec q.2 s = .next s)) ∧
  (∀ (s : State), nppServes s.dev = true →
    Completes (exec .nppDatagramDiscard s) s fun d =>
      dget R.NPP_ERRORS d = satAdd32 (dget R.NPP_ERRORS s.dev) 1 ∧ SameEntriesBut [R.NPP_ERRORS.key] s.dev d ∧ ChangesOnly [.dict] s.dev d) ∧
  (∀ (k : Nat) (s : State), k < 8 → (sessOf s.dev k).isOpen = true →
    Completes (exec (.nppSessionExpiry k) s) s fun d =>
      d.now = max ((sessOf s.dev k).lastAt + 2 * acPerS) s.dev.now ∧ sessOf d k = Sess.rest ∧ (∀ j, j ≠ k → sessOf d j = sessOf s.dev j) ∧
      (∀ g ∈ heldStaging s.dev (k + 2), grpOf d g = Grp.rest) ∧ OtherGroups (heldStaging s.dev (k + 2)) s.dev d ∧
      dget R.NPP_EXPIRIES d = satAdd32 (dget R.NPP_EXPIRIES s.dev) 1 ∧
      SameEntriesBut [R.NPP_EXPIRIES.key, R.NPP_SESSIONS.key, R.HOLDS_DISCARDED.key] s.dev d ∧ ChangesOnly [.now, .time, .dict, .ctl] s.dev d) ∧
  (∀ (k : Nat) (s : State), k < 8 → (sessOf s.dev k).isOpen = false → exec (.nppSessionExpiry k) s = .next s) ∧
  (∀ (c v : Nat) (s : State), Asks c s.dev → 1 ≤ v → v < 65536 →
    Completes (exec (.nppPort c v) s) s fun d =>
      dget R.NPP_PORT d = v ∧ (∀ k, k < 8 → (sessOf d k).isOpen = false) ∧
      SameEntriesBut [R.NPP_PORT.key, R.NPP_SESSIONS.key, R.HOLDS_DISCARDED.key] s.dev d ∧ ChangesOnly [.dict, .ctl] s.dev d) ∧
  (∀ (c : Nat) (s : State), Asks c s.dev → Completes (exec (.nppPort c 0) s) s (TurnedAway c 0xA005 s.dev))

/-- This measurement and the fifteen before it, since the acquisition began, lie within LOCK_THRESHOLD of one another (R396). -/
def SixteenClose (off : Int) (a : Dev) : Prop :=
  15 ≤ a.time.offs.length ∧
    ∀ x ∈ (off :: a.time.offs).take 16, ∀ y ∈ (off :: a.time.offs).take 16, x - y ≤ (dget R.LOCK_THRESHOLD a : Int) * 2 ^ 16

/-- One offset measurement (R396, R397): the offset is shown; a clock that no step waits for is corrected by rate alone, within 500 ppm,
and an offset beyond STEP_ALARM is reported; an acquiring one locks once sixteen measurements are close, with one step where the first
lock or a re-step asks for it. -/
def Measured (off : Int) (a d : Dev) : Prop :=
  dget R.OFFSET_FROM_SOURCE d = unsgn 64 (off + 2 ^ 63) ∧
  (dget R.SERVO_STATE a = 2 ∨ (a.time.stepDue = false ∧ a.time.restep = false) →
    d.time.clk = a.time.clk ∧ d.time.rate.natAbs ≤ 500000000 ∧ dget R.TIME_STEPS d = dget R.TIME_STEPS a ∧
    ((dget R.STEP_ALARM a : Int) * 2 ^ 16 < off.natAbs → LastFault 0x0482 d)) ∧
  (dget R.SERVO_STATE a = 2 → dget R.SERVO_STATE d = 2 ∧ d.time.offs = a.time.offs ∧ d.time.source = a.time.source) ∧
  (dget R.SERVO_STATE a ≠ 2 → d.time.offs = (off :: a.time.offs).take 16) ∧
  (dget R.SERVO_STATE a ≠ 2 → ¬ SixteenClose off a →
    dget R.SERVO_STATE d = dget R.SERVO_STATE a ∧ d.time.clk = a.time.clk ∧ d.time.source = a.time.source) ∧
  (dget R.SERVO_STATE a ≠ 2 → SixteenClose off a →
    dget R.SERVO_STATE d = 2 ∧ d.time.source = a.time.src ∧ d.time.holdAt = none ∧
    (a.time.stepDue = true ∨ a.time.restep = true → d.time.clk = ((a.time.clk : Int) + off * 2 ^ 16).toNat ∧ d.time.stepDue = false ∧
      d.time.restep = false ∧ dget R.TIME_STEPS d = satAdd32 (dget R.TIME_STEPS a) 1 ∧ LastFault 0x0481 d))

/-- The entries that a measurement may write. -/
def servoKeys : List Nat :=
  [R.OFFSET_FROM_SOURCE.key, R.RATE_CORRECTION.key, R.SERVO_STATE.key, R.TIME_SOURCE.key, R.TIME_STEPS.key, R.AC_PERIOD.key] ++ reportKeys

/-- What the servo follows is gone: a clock that was locked to it enters holdover at once, and the servo turns to PPS_IN, where that is
there and allowed, or to nothing (R395, R398, R400). -/
def SourceLost (a d : Dev) : Prop :=
  (a.time.source = 1 ∨ a.time.source = 2 → d.time.source = 3 ∧ d.time.holdAt = some d.now ∧ LastFault 0x0485 d) ∧
  (a.time.source ≠ 1 → a.time.source ≠ 2 → d.time.source = a.time.source ∧ d.time.holdAt = a.time.holdAt) ∧
  d.time.rate = a.time.rate ∧ (d.time.src = 0 → dget R.SERVO_STATE d = if d.time.source = 3 then 3 else 0) ∧
  (d.time.src = 2 → dget R.SERVO_STATE d = 1) ∧ d.time.offs = [] ∧ (d.time.src = 0 ∨ d.time.src = 2)

/-- An Announce of the domain in use gives UTC_OFFSET, and selects its master when there is none or when it is better, which starts holdover and is counted
when it replaces one; one of a worse clock, or with PPS_IN as the only source, selects
nothing, and one of another domain, or that does not reach the device in SLEEP, does nothing. A Sync from the master
measures the offset; an answer to the device's own delay message gives the path delay, end to end or peer to peer by profile. A lost master is counted, and the clock that followed it enters holdover; so it does when the domain or the
profile is written. Each profile sends and answers its own delay messages with the clock's time and the PHY's delays. -/
def Obligations.PtpCommands : Prop :=
  (∀ (dom ident key : Nat) (utc : Int) (s : State), dom < 128 → ident < 2 ^ 64 → dom = dget R.PTP_DOMAIN s.dev →
    ptpHears s.dev = true → dget R.TIME_SOURCE_SELECT s.dev ≠ 2 → s.dev.time.master = none →
    Completes (exec (.ptpAnnounce dom ident key utc) s) s fun d =>
      d.time = { s.dev.time with master := some ident, masterKey := key, src := 1, offs := [] } ∧ dget R.PTP_PARENT_ID d = ident ∧
      dget R.UTC_OFFSET d = unsgn 16 utc ∧ dget R.SERVO_STATE d = 1 ∧
      SameEntriesBut [R.PTP_PARENT_ID.key, R.UTC_OFFSET.key, R.SERVO_STATE.key] s.dev d ∧ ChangesOnly [.dict, .time] s.dev d) ∧
  (∀ (dom ident key : Nat) (utc : Int) (s : State), dom < 128 → ident < 2 ^ 64 → dom = dget R.PTP_DOMAIN s.dev →
    ptpHears s.dev = true → dget R.TIME_SOURCE_SELECT s.dev ≠ 2 → s.dev.time.master = some ident →
    Completes (exec (.ptpAnnounce dom ident key utc) s) s fun d =>
      d.time = { s.dev.time with masterKey := key } ∧ dget R.PTP_PARENT_ID d = ident ∧ dget R.UTC_OFFSET d = unsgn 16 utc ∧
      SameEntriesBut [R.PTP_PARENT_ID.key, R.UTC_OFFSET.key] s.dev d ∧ ChangesOnly [.dict, .time] s.dev d) ∧
  (∀ (dom ident key m : Nat) (utc : Int) (s : State), dom < 128 → ident < 2 ^ 64 → dom = dget R.PTP_DOMAIN s.dev →
    ptpHears s.dev = true → dget R.TIME_SOURCE_SELECT s.dev ≠ 2 → s.dev.time.master = some m → m ≠ ident →
    (key < s.dev.time.masterKey → Completes (exec (.ptpAnnounce dom ident key utc) s) s fun d =>
      d.time.master = some ident ∧ d.time.masterKey = key ∧ d.time.src = 1 ∧ dget R.SERVO_STATE d = 1 ∧ dget R.PTP_PARENT_ID d = ident ∧ dget R.UTC_OFFSET d = unsgn 16 utc ∧ d.time.offs = [] ∧
      dget R.PTP_MASTER_CHANGES d = satAdd32 (dget R.PTP_MASTER_CHANGES s.dev) 1 ∧ d.time.clk = s.dev.time.clk ∧
      (s.dev.time.source = 1 ∨ s.dev.time.source = 2 → d.time.source = 3 ∧ d.time.holdAt = some s.dev.now) ∧
      SameEntriesBut ([R.PTP_PARENT_ID.key, R.UTC_OFFSET.key, R.SERVO_STATE.key, R.PTP_MASTER_CHANGES.key, R.TIME_SOURCE.key] ++ reportKeys) s.dev d ∧
      ChangesOnly [.dict, .time, .host, .flt] s.dev d) ∧
    (s.dev.time.masterKey ≤ key → Completes (exec (.ptpAnnounce dom ident key utc) s) s fun d =>
      dget R.UTC_OFFSET d = unsgn 16 utc ∧ SameEntriesBut [R.UTC_OFFSET.key] s.dev d ∧ ChangesOnly [.dict] s.dev d)) ∧
  (∀ (dom ident key : Nat) (utc : Int) (s : State), dom < 128 → ident < 2 ^ 64 →
    (dom ≠ dget R.PTP_DOMAIN s.dev ∨ ptpHears s.dev = false → exec (.ptpAnnounce dom ident key utc) s = .next s) ∧
    (dom = dget R.PTP_DOMAIN s.dev → ptpHears s.dev = true → dget R.TIME_SOURCE_SELECT s.dev = 2 →
      Completes (exec (.ptpAnnounce dom ident key utc) s) s fun d =>
        dget R.UTC_OFFSET d = unsgn 16 utc ∧ SameEntriesBut [R.UTC_OFFSET.key] s.dev d ∧ ChangesOnly [.dict] s.dev d)) ∧
  (∀ (dom ident t1 t2 dl : Nat) (r : Option PtpReply) (s : State), dom < 128 → ident < 2 ^ 64 → dom = dget R.PTP_DOMAIN s.dev →
    s.dev.time.src = 1 → s.dev.time.master = some ident → ptpHears s.dev = true →
    t2 = (stampNs s.dev + dget R.PTP_INGRESS_LATENCY s.dev) * 2 ^ 16 →
    dl = (r.bind (fun x => pathDelay t1 t2 x s.dev)).getD (dget R.PTP_PATH_DELAY s.dev) →
    Completes (exec (.ptpSync dom ident t1 r) s) s fun d =>
      dget R.PTP_PATH_DELAY d = dl ∧ Measured ((t1 : Int) + (dl * 2 ^ 16 : Nat) - (t2 : Nat)) s.dev d ∧
      d.time.ptpTx = (if (r.bind (fun x => pathDelay t1 t2 x s.dev)).isSome then [] else s.dev.time.ptpTx) ∧
      d.time.master = s.dev.time.master ∧ d.time.src = 1 ∧
      SameEntriesBut (R.PTP_PATH_DELAY.key :: servoKeys) s.dev d ∧ ChangesOnly [.dict, .time, .host, .flt, .freeCtr] s.dev d) ∧
  (∀ (t1 t2 t3 : Nat) (r : PtpReply) (x : Int) (d : Dev), 0 ≤ x → x < 2 ^ 32 → d.time.ptpTx = [1, t3] →
    x = (((t2 : Int) - t1) + ((r.far : Int) - t3 * 2 ^ 16)) / 2 ^ 17 → pathDelay t1 t2 r d = some x.toNat) ∧
  (∀ (t1 t2 t3 : Nat) (r : PtpReply) (x : Int) (d : Dev), 0 ≤ x → x < 2 ^ 32 → d.time.ptpTx = [2, t3] →
    x = (((stationAc d r.back / 2 ^ 32 : Nat) + dget R.PTP_INGRESS_LATENCY d - t3 : Int) * 2 ^ 16 - r.far) / 2 ^ 17 →
    pathDelay t1 t2 r d = some x.toNat) ∧
  (∀ (dom ident t1 : Nat) (r : Option PtpReply) (s : State), dom < 128 → ident < 2 ^ 64 →
    dom ≠ dget R.PTP_DOMAIN s.dev ∨ s.dev.time.src ≠ 1 ∨ s.dev.time.master ≠ some ident ∨ ptpHears s.dev = false →
    exec (.ptpSync dom ident t1 r) s = .next s) ∧
  (∀ (m : Nat) (s : State) (i : Instr), (i = .ptpAnnounceTimeout ∨ i = .ptpSyncTimeout) → s.dev.time.master = some m →
    Completes (exec i s) s fun d =>
      d.time.master = none ∧ dget R.PTP_PARENT_ID d = 0 ∧ dget R.PTP_MASTER_CHANGES d = satAdd32 (dget R.PTP_MASTER_CHANGES s.dev) 1 ∧
      d.time.clk = s.dev.time.clk ∧ (s.dev.time.src = 1 → SourceLost s.dev d) ∧ (s.dev.time.src ≠ 1 → d.time = { s.dev.time with master := none }) ∧
      SameEntriesBut ([R.PTP_PARENT_ID.key, R.PTP_MASTER_CHANGES.key, R.SERVO_STATE.key, R.TIME_SOURCE.key] ++ reportKeys) s.dev d ∧
      ChangesOnly [.dict, .time, .host, .flt] s.dev d) ∧
  (∀ (s : State), s.dev.time.master = none → exec .ptpAnnounceTimeout s = .next s ∧ exec .ptpSyncTimeout s = .next s) ∧
  (∀ (c v : Nat) (dom : Bool) (s : State), Asks c s.dev → v ≤ (if dom then 127 else 1) →
    Completes (exec (.ptpPortRestart c dom v) s) s fun d =>
      dget (if dom then R.PTP_DOMAIN else R.PTP_PROFILE) d = v ∧ d.time.master = none ∧ dget R.PTP_PARENT_ID d = 0 ∧
      d.time.ptpTx = [] ∧ (s.dev.time.src ≠ 0 → SourceLost s.dev d) ∧ d.time.clk = s.dev.time.clk ∧
      (s.dev.time.src = 0 → d.time = { s.dev.time with master := none, ptpTx := [] }) ∧
      SameEntriesBut ([(if dom then R.PTP_DOMAIN else R.PTP_PROFILE).key, R.PTP_PARENT_ID.key, R.SERVO_STATE.key, R.TIME_SOURCE.key] ++ reportKeys) s.dev d ∧
      ChangesOnly [.dict, .time, .host, .flt] (asked c s.dev) d) ∧
  (∀ (c v : Nat) (dom : Bool) (s : State), Asks c s.dev → v < 256 → (if dom then 127 else 1) < v →
    Completes (exec (.ptpPortRestart c dom v) s) s (TurnedAway c 0xA005 s.dev)) ∧
  (∀ (s : State), (dget R.PTP_PROFILE s.dev = 1 → Completes (exec .ptpPdelayReq s) s fun d =>
      d.time = { s.dev.time with ptpAns := [stampNs s.dev + dget R.PTP_INGRESS_LATENCY s.dev, stampNs s.dev + dget R.PTP_EGRESS_LATENCY s.dev] } ∧
      SameEntriesBut [] s.dev d ∧ ChangesOnly [.time] s.dev d) ∧
    (dget R.PTP_PROFILE s.dev ≠ 1 → exec .ptpPdelayReq s = .next s ∧ exec .ptpPdelayReqSend s = .next s) ∧
    (dget R.PTP_PROFILE s.dev = 1 → Completes (exec .ptpPdelayReqSend s) s fun d =>
      d.time = { s.dev.time with ptpTx := [2, stampNs s.dev + dget R.PTP_EGRESS_LATENCY s.dev] } ∧ SameEntriesBut [] s.dev d ∧ ChangesOnly [.time] s.dev d) ∧
    (dget R.PTP_PROFILE s.dev = 0 → s.dev.time.master.isSome = true → Completes (exec .ptpDelayReqSend s) s fun d =>
      d.time = { s.dev.time with ptpTx := [1, stampNs s.dev + dget R.PTP_EGRESS_LATENCY s.dev] } ∧ SameEntriesBut [] s.dev d ∧ ChangesOnly [.time] s.dev d) ∧
    (dget R.PTP_PROFILE s.dev ≠ 0 ∨ s.dev.time.master = none → exec .ptpDelayReqSend s = .next s))

/-- An edge of PPS_IN of the polarity in use corrects the clock where PPS_IN is the source, and otherwise is checked against
PPS_CHECK_LIMIT where the check is on; the other edge does nothing; its loss starts holdover where it was the source. PPS_OUT goes high
at the next second boundary under its mode and low again after its width. A re-step is refused while the array is armed or no source
is present, and waits for the next lock otherwise. A write of PPS_OUT_MODE or PPS_OUT_WIDTH counts from the next second boundary on; one of
TIME_SOURCE_SELECT turns the servo to the source that it allows. -/
def Obligations.PulsesAndRestep : Prop :=
  (∀ (e : Bool) (t near : Int) (s : State), e ≠ decide (dget R.PPS_IN_POLARITY s.dev = 1) →
    t = (stampNs s.dev : Int) - sgn 16 (dget R.PPS_IN_DELAY s.dev) → near = (t + nsPerS / 2) / nsPerS * nsPerS →
    dget R.TIME_SOURCE_SELECT s.dev = 2 ∨ (dget R.TIME_SOURCE_SELECT s.dev = 1 ∧ s.dev.time.master = none) →
    Completes (exec (.ppsInEdge e) s) s fun d =>
      d.time.ppsAt = some s.dev.now ∧ d.time.ppsPresent = true ∧ d.time.src = 2 ∧
      (s.dev.time.src = 2 → Measured ((near - t) * 2 ^ 16) s.dev d) ∧
      (s.dev.time.src ≠ 2 → dget R.SERVO_STATE d = 1 ∧ d.time.offs = [(near - t) * 2 ^ 16] ∧ d.time.clk = s.dev.time.clk ∧
        dget R.OFFSET_FROM_SOURCE d = unsgn 64 ((near - t) * 2 ^ 16 + 2 ^ 63)) ∧
      SameEntriesBut servoKeys s.dev d ∧ ChangesOnly [.dict, .time, .host, .flt, .freeCtr] s.dev d) ∧
  (∀ (e : Bool) (t near : Int) (s : State), e ≠ decide (dget R.PPS_IN_POLARITY s.dev = 1) →
    t = (stampNs s.dev : Int) - sgn 16 (dget R.PPS_IN_DELAY s.dev) → near = (t + nsPerS / 2) / nsPerS * nsPerS →
    ¬ (dget R.TIME_SOURCE_SELECT s.dev = 2 ∨ (dget R.TIME_SOURCE_SELECT s.dev = 1 ∧ s.dev.time.master = none)) →
    Completes (exec (.ppsInEdge e) s) s fun d =>
      d.time = { s.dev.time with ppsAt := some s.dev.now, ppsPresent := true } ∧
      (dget R.PPS_IN_CHECK s.dev = 1 → dget R.PPS_OFFSET d = unsgn 32 (t - near + 0x80000000)) ∧
      (dget R.PPS_IN_CHECK s.dev = 1 → dget R.PPS_CHECK_LIMIT s.dev < (t - near).natAbs →
        dget R.PPS_CHECK_EVENTS d = satAdd32 (dget R.PPS_CHECK_EVENTS s.dev) 1 ∧ LastFault 0x0484 d) ∧
      (dget R.PPS_IN_CHECK s.dev = 1 → (t - near).natAbs ≤ dget R.PPS_CHECK_LIMIT s.dev → SameEntriesBut [R.PPS_OFFSET.key] s.dev d) ∧
      (dget R.PPS_IN_CHECK s.dev ≠ 1 → SameEntriesBut [] s.dev d) ∧
      SameEntriesBut ([R.PPS_OFFSET.key, R.PPS_CHECK_EVENTS.key] ++ reportKeys) s.dev d ∧ ChangesOnly [.dict, .time, .host, .flt] s.dev d) ∧
  (∀ (e : Bool) (s : State), e = decide (dget R.PPS_IN_POLARITY s.dev = 1) → exec (.ppsInEdge e) s = .next s) ∧
  (∀ (t : Nat) (s : State), s.dev.time.ppsAt = some t →
    Completes (exec .ppsInLoss s) s fun d =>
      d.now = max (t + 11 * (acPerS / 10)) s.dev.now ∧ d.time.ppsAt = none ∧ d.time.ppsPresent = false ∧
      (s.dev.time.src = 2 → SourceLost s.dev d ∧ d.time.src = 0) ∧ (s.dev.time.src ≠ 2 → d.time.src = s.dev.time.src ∧ SameEntriesBut [] s.dev d) ∧
      SameEntriesBut ([R.SERVO_STATE.key, R.TIME_SOURCE.key] ++ reportKeys) s.dev d ∧ ChangesOnly [.now, .dict, .time, .host, .flt] s.dev d) ∧
  (∀ (s : State), s.dev.time.ppsAt = none → exec .ppsInLoss s = .next s) ∧
  (∀ (s : State), Completes (exec .ppsOutAssert s) s fun d =>
      (∃ k, clkSecond s.dev ≤ k ∧ k ≤ clkSecond s.dev + 2 ∧ (sgn 16 (dget R.PPS_OUT_DELAY s.dev) = 0 → k = clkSecond s.dev + 1) ∧
        (d.pins.ppsOut = true ↔ (ppsOutSet s.dev k).1 = 1 ∨ ((ppsOutSet s.dev k).1 = 2 ∧ s.dev.time.source ≠ 0)) ∧
        d.time.outWidth = (ppsOutSet s.dev k).2 ∧
        (s.dev.time.outSec ≠ some k → ppsOutSet s.dev k = (dget R.PPS_OUT_MODE s.dev, dget R.PPS_OUT_WIDTH s.dev))) ∧
      d.time.outAt = (if d.pins.ppsOut then some d.now else none) ∧
      (s.dev.time.rate.natAbs ≤ 500000000 → s.dev.pins.porN = true → sgn 16 (dget R.PPS_OUT_DELAY s.dev) = 0 →
        (clkSecond s.dev + 1) * nsPerS * 2 ^ 32 ≤ d.time.clk ∧
        d.time.clk < (clkSecond s.dev + 1) * nsPerS * 2 ^ 32 + tickInc s.dev.time.rate) ∧
      SameEntriesBut [] s.dev d ∧ ChangesOnly [.now, .time, .pins] s.dev d) ∧
  (∀ (c : Nat) (s : State), s.dev.time.outAt = some c →
    Completes (exec .ppsOutEnd s) s fun d =>
      d.pins = { s.dev.pins with ppsOut := false } ∧ d.time.outAt = none ∧ d.now = max (c + s.dev.time.outWidth * acPerMs) s.dev.now ∧
      SameEntriesBut [] s.dev d ∧ ChangesOnly [.now, .time, .pins] s.dev d) ∧
  (∀ (c idx sub len v w : Nat) (e : Entry) (s : State), WriteIn c idx sub len v → Asks c s.dev → EntryAt idx sub e → carried c len v e = .ok w →
    chkValue s.dev e.chk w = 0 → ownerRuns s.dev e.owner (idx * 256 + sub) = false →
    (idx * 256 + sub = R.PPS_OUT_MODE.key ∨ idx * 256 + sub = R.PPS_OUT_WIDTH.key → Completes (exec (.dictWrite c idx sub len v) s) s fun d =>
      dget (regOf (idx * 256 + sub)) d = w ∧
      d.time = (if s.dev.time.outSec = some (clkSecond s.dev) then s.dev.time else { s.dev.time with
        outSec := some (clkSecond s.dev), outWas := (dget R.PPS_OUT_MODE s.dev, dget R.PPS_OUT_WIDTH s.dev) }) ∧
      SameEntriesBut [idx * 256 + sub] s.dev d ∧ ChangesOnly [.dict, .time] (asked c s.dev) d) ∧
    (idx * 256 + sub = R.TIME_SOURCE_SELECT.key → Completes (exec (.dictWrite c idx sub len v) s) s fun d =>
      let want := if w ≠ 2 ∧ s.dev.time.master.isSome = true then 1 else if w ≠ 0 ∧ s.dev.time.ppsPresent = true then 2 else 0
      dget R.TIME_SOURCE_SELECT d = w ∧ d.time.src = want ∧ d.time.clk = s.dev.time.clk ∧
      (want = s.dev.time.src → d.time = s.dev.time ∧ SameEntriesBut [R.TIME_SOURCE_SELECT.key] s.dev d) ∧
      (want ≠ s.dev.time.src → d.time.offs = [] ∧ dget R.SERVO_STATE d = (if want ≠ 0 then 1 else if d.time.source = 3 then 3 else 0) ∧
        ((s.dev.time.src = 1 ∧ w = 2) ∨ (s.dev.time.src = 2 ∧ w = 0) → s.dev.time.source = 1 ∨ s.dev.time.source = 2 →
          d.time.source = 3 ∧ d.time.holdAt = some s.dev.now ∧ LastFault 0x0485 d)) ∧
      SameEntriesBut (R.TIME_SOURCE_SELECT.key :: R.SERVO_STATE.key :: R.TIME_SOURCE.key :: reportKeys) s.dev d ∧
      ChangesOnly [.dict, .time, .host, .flt] (asked c s.dev) d)) ∧
  (∀ (s : State), s.dev.time.outAt = none → exec .ppsOutEnd s = .next s) ∧
  (∀ (s : State), Asks 0 s.dev →
    (armed s.dev = false → s.dev.time.src ≠ 0 → Completes (exec (.timeRestep 0) s) s fun d =>
      d.time = { s.dev.time with restep := true } ∧ SameEntriesBut [] s.dev d ∧ ChangesOnly [.time] s.dev d) ∧
    (armed s.dev = true ∨ s.dev.time.src = 0 → Completes (exec (.timeRestep 0) s) s (TurnedAway 0 0xA00B s.dev))) ∧
  (∀ (c : Nat) (s : State), c ≠ 0 → Asks c s.dev → Completes (exec (.timeRestep c) s) s (TurnedAway c 0xA011 s.dev))

/-- A flit with this LINK_SEQ arrives, for the first time, on a link that has joined (R406, R408); the replay of one that has been acted on
while another failed is not this (log entry 166). -/
def Arrives (p seq : Nat) (d : Dev) : Prop :=
  linkState d p = 2 ∧ tget none (linkOf d p).failed seq = none ∧ gotBefore (linkOf d p) seq d.now = false

/-- A link on which the flit q is acted on in ac `now`: it awaits that flit no more, and, while it awaits another's replay, notes that it has
had this one (R406; log entry 166). -/
def AfterFlit (q now : Nat) (x : Link) : Link :=
  { x with failed := tset none x.failed q none, got := if tset none x.failed q none = [] then x.got.filter (fun e => gotBefore x e.1 now) else tset none x.got q (some now) }

/-- A flit has been acted on: its link has noted it, and the links do not change otherwise. -/
def FlitNoted (p q now : Nat) (a d : Dev) : Prop :=
  linkOf d p = AfterFlit q now (linkOf a p) ∧ ∀ k, k ≠ p → linkOf d k = linkOf a k

/-- The link is up: joined, or trained and not joined. -/
def LinkUp (p : Nat) (d : Dev) : Prop := linkState d p = 2 ∨ linkState d p = 3

/-- Every other link stays as it is. -/
def OtherLinks (p : Nat) (a d : Dev) : Prop := ∀ q, q ≠ p → linkOf d q = linkOf a q

/-- The entries that describe the device ring, and those that follow the links. -/
def ringKeys : List Nat :=
  [R.RING_LINKS.key, R.MIRROR_LINK.key, R.DEVICE_RING_STATE.key, R.RING_SIZE.key, R.RING_POSITION.key, R.RING_REFUSE_REASON.key] ++
  (List.range 32).map (fun i => (R.RING_MEMBER_SERIAL i).key)

/-- The next retrain attempt of a link after k attempts of the episode: begun and reported, or, after three, the link is retired (R407). -/
def NextAttempt (p k : Nat) (d : Dev) : Prop :=
  (k < 3 → linkState d p = 4 ∧ (linkOf d p).attempt = k + 1 ∧ LastFault 0x1402 d) ∧
  (3 ≤ k → linkState d p = 5 ∧ LastFault 0x2403 d)

/-- A link that was up retrains: what it carried is gone. The device ring, when a ring link leaves it while the array is not armed, is to be
formed anew; while it is armed, positions and sizes stay and RING_STATE alone follows: a ring becomes a line, and a device without another
joined ring link is in no ring (R406, R407, R410, R427). -/
def LinkRetrains (p : Nat) (a d : Dev) : Prop :=
  NextAttempt p (if 60 * acPerS ≤ a.now - (linkOf a p).cleanFrom then 0 else (linkOf a p).attempt) d ∧
  (linkOf d p).hello = none ∧ (linkOf d p).replay = [] ∧ (linkOf d p).failed = [] ∧ (linkOf d p).naks = [] ∧ (linkOf d p).known = [] ∧
  (linkOf d p).resent = [] ∧ (linkOf d p).got = [] ∧ (p = 2 → d.lnk.flawed = true) ∧
  (p < 2 → linkState a p = 2 → armed a = false → dget R.RING_SIZE d = 1 ∧ dget R.RING_POSITION d = 0 ∧ d.lnk.stable = 0 ∧
    dget R.DEVICE_RING_STATE d = if linkState a (1 - p) = 2 then 1 else 0) ∧
  (p < 2 → linkState a p = 2 → armed a = true → dget R.RING_SIZE d = dget R.RING_SIZE a ∧ dget R.RING_POSITION d = dget R.RING_POSITION a ∧
    d.lnk.size = a.lnk.size ∧ d.lnk.stable = 0 ∧ dget R.DEVICE_RING_STATE d =
      if linkState a (1 - p) ≠ 2 then 0 else if dget R.DEVICE_RING_STATE a = 2 then 3 else dget R.DEVICE_RING_STATE a)

/-- The NAKs of a port within the last millisecond, with one more. -/
def naksNow (p : Nat) (d : Dev) : List Nat := d.now :: (linkOf d p).naks.filter (fun t => decide (d.now - t < acPerMs))

/-- The first CRC failure of a flit asks for it again with a NAK, on which the sender replays that flit and every later one of its buffer, oldest first; the second loses it, counted and reported. More NAKs than
RING_RETRAIN_LIMIT within 1 ms retrain the link, and so does a loss of FEC alignment; a third attempt that fails retires it, and
RING_REINSTATE returns it to training. A link that has trained sends HELLO. A flit of a reserved type is counted as lost. -/
def Obligations.LinkRetries : Prop :=
  (∀ (p q : Nat) (x : Link) (s : State), p < 3 → q < 4096 → LinkUp p s.dev → x = linkOf s.dev p → tget none x.failed q = none →
    (naksNow p s.dev).length ≤ dget R.RING_RETRAIN_LIMIT s.dev →
    Completes (exec (.flitCrcFail p q) s) s fun d =>
      (linkOf d p).failed = tset none x.failed q (some s.dev.now) ∧ (linkOf d p).naks = naksNow p s.dev ∧
      (linkState s.dev p = 2 → (linkOf d p).txSeq = (x.txSeq + 1) % 4096 ∧ (linkOf d p).replay.head? = some ⟨6, x.txSeq, [q]⟩) ∧
      OtherLinks p s.dev d ∧ SameEntriesBut [] s.dev d ∧ ChangesOnly [.lnk] s.dev d) ∧
  (∀ (p q : Nat) (s : State), p < 3 → q < 4096 → LinkUp p s.dev → tget none (linkOf s.dev p).failed q = none →
    dget R.RING_RETRAIN_LIMIT s.dev < (naksNow p s.dev).length →
    Completes (exec (.flitCrcFail p q) s) s fun d =>
      LinkRetrains p s.dev d ∧ OtherLinks p s.dev d ∧
      SameEntriesBut ((linkReg p).key :: ringKeys ++ reportKeys) s.dev d ∧ ChangesOnly [.dict, .lnk, .host, .flt] s.dev d) ∧
  (∀ (p q t : Nat) (x : Link) (s : State), p < 3 → q < 4096 → LinkUp p s.dev → x = linkOf s.dev p → tget none x.failed q = some t →
    Completes (exec (.flitCrcFail p q) s) s fun d =>
      linkOf d p = { x with failed := tset none x.failed q none } ∧ OtherLinks p s.dev d ∧ (p = 2 → d.lnk.flawed = true) ∧
      dget R.RING_LOST_FLITS d = satAdd32 (dget R.RING_LOST_FLITS s.dev) 1 ∧ LastFault 0x1401 d ∧
      SameEntriesBut (R.RING_LOST_FLITS.key :: reportKeys) s.dev d ∧ ChangesOnly [.dict, .lnk, .host, .flt] s.dev d) ∧
  (∀ (p q : Nat) (x : Link) (s : State), p < 3 → q < 4096 → LinkUp p s.dev → x = linkOf s.dev p →
    ((naksNow p s.dev).length ≤ dget R.RING_RETRAIN_LIMIT s.dev → Completes (exec (.nak p q) s) s fun d =>
      linkOf d p = { x with naks := naksNow p s.dev, resent := replayFrom q x.replay } ∧ OtherLinks p s.dev d ∧
      dget R.RING_RETRIES d = satAdd32 (dget R.RING_RETRIES s.dev) 1 ∧ SameEntriesBut [R.RING_RETRIES.key] s.dev d ∧
      ChangesOnly [.dict, .lnk] s.dev d) ∧
    (dget R.RING_RETRAIN_LIMIT s.dev < (naksNow p s.dev).length → Completes (exec (.nak p q) s) s fun d =>
      LinkRetrains p s.dev d ∧ OtherLinks p s.dev d ∧ dget R.RING_RETRIES d = satAdd32 (dget R.RING_RETRIES s.dev) 1)) ∧
  (∀ (q : Nat) (x : Flit) (a b : List Flit), (∀ y ∈ a, y.seq ≠ q) → (∀ y ∈ b, y.seq ≠ q) → x.seq = q → replayFrom q (a ++ x :: b) = x :: a.reverse) ∧
  (∀ (q : Nat) (l : List Flit), (∀ y ∈ l, y.seq ≠ q) → replayFrom q l = []) ∧
  (∀ (p ty : Nat) (s : State), p < 3 → 11 ≤ ty → ty < 16 → LinkUp p s.dev →
    Completes (exec (.reservedFlit p ty) s) s fun d =>
      dget R.RING_LOST_FLITS d = satAdd32 (dget R.RING_LOST_FLITS s.dev) 1 ∧ SameEntriesBut [R.RING_LOST_FLITS.key] s.dev d ∧
      ChangesOnly [.dict] s.dev d) ∧
  (∀ (p : Nat) (s : State), p < 3 → LinkUp p s.dev →
    Completes (exec (.fecAlignmentLoss p) s) s fun d =>
      LinkRetrains p s.dev d ∧ OtherLinks p s.dev d ∧
      SameEntriesBut ((linkReg p).key :: ringKeys ++ reportKeys) s.dev d ∧ ChangesOnly [.dict, .lnk, .host, .flt] s.dev d) ∧
  (∀ (p q ty : Nat) (s : State), p < 3 → q < 4096 → 11 ≤ ty → ty < 16 → ¬ LinkUp p s.dev →
    exec (.flitCrcFail p q) s = .next s ∧ exec (.nak p q) s = .next s ∧ exec (.reservedFlit p ty) s = .next s ∧
    exec (.fecAlignmentLoss p) s = .next s) ∧
  (∀ (p lat : Nat) (x : Link) (s : State), p < 3 → lat < 65536 → x = linkOf s.dev p → linkState s.dev p = 1 ∨ linkState s.dev p = 4 →
    Completes (exec (.linkTrained p lat) s) s fun d =>
      linkState d p = 3 ∧ (linkOf d p).lat = lat ∧ (linkOf d p).cleanFrom = s.dev.now ∧ (linkOf d p).txSeq = (x.txSeq + 1) % 4096 ∧
      (linkOf d p).replay.head? = some ⟨2, x.txSeq, [s.dev.fuses.serial, dget R.RING_DOMAIN s.dev, dget R.RING_POSITION_CFG s.dev,
        dget R.MIRROR_ROLE s.dev, fLen s.dev, lat]⟩ ∧
      ((linkOf d p).late = true ↔ p < 2 ∧ armed s.dev = true ∧ linkState s.dev p = 1) ∧
      (p = 0 → dget R.RING_PATH_LATENCY_W d = lat) ∧ (p = 1 → dget R.RING_PATH_LATENCY_E d = lat) ∧ OtherLinks p s.dev d ∧
      SameEntriesBut [(linkReg p).key, R.RING_PATH_LATENCY_W.key, R.RING_PATH_LATENCY_E.key] s.dev d ∧
      (linkState s.dev p = 1 → d.flt = s.dev.flt) ∧ (linkState s.dev p = 4 → d.flt = (reactionOver s.dev).flt) ∧ ChangesOnly [.dict, .lnk, .flt] s.dev d) ∧
  (∀ (p lat : Nat) (s : State), p < 3 → lat < 65536 → linkState s.dev p ≠ 1 → linkState s.dev p ≠ 4 → exec (.linkTrained p lat) s = .next s) ∧
  (∀ (p : Nat) (s : State), p < 3 → linkState s.dev p = 4 →
    Completes (exec (.linkTrainTimeout p) s) s fun d =>
      NextAttempt p (linkOf s.dev p).attempt d ∧ OtherLinks p s.dev d ∧ SameEntriesBut ((linkReg p).key :: reportKeys) s.dev d ∧
      ChangesOnly [.dict, .lnk, .host, .flt] s.dev d) ∧
  (∀ (p : Nat) (s : State), p < 3 → linkState s.dev p ≠ 4 → exec (.linkTrainTimeout p) s = .next s) ∧
  (∀ (m : Nat) (s : State), Asks 0 s.dev → m < 8 →
    Completes (exec (.ringReinstate 0 m) s) s fun d =>
      (∀ p, p < 3 → linkState d p = (if bit m p = true ∧ linkState s.dev p = 5 then 1 else linkState s.dev p) ∧
        linkOf d p = (if bit m p = true ∧ linkState s.dev p = 5 then { linkOf s.dev p with attempt := 0 } else linkOf s.dev p)) ∧
      SameEntriesBut [(linkReg 0).key, (linkReg 1).key, (linkReg 2).key] s.dev d ∧ ChangesOnly [.dict, .lnk] s.dev d) ∧
  (∀ (c m : Nat) (s : State), Asks c s.dev → m < 256 →
    (c ≠ 0 → Completes (exec (.ringReinstate c m) s) s (TurnedAway c 0xA011 s.dev)) ∧
    (c = 0 → 8 ≤ m → Completes (exec (.ringReinstate c m) s) s (TurnedAway c 0xA005 s.dev)))

/-- A HELLO of the same domain and frame length joins a ring link, one of the complementary role joins the mirror link, and any other leaves
it up and not joined; a ring link that trained while the array ran waits for the next arming, and each member writes one event for the
newcomer (log entry 167). FORM says what lies beyond a link; a
membership that three rounds find the same forms the ring, or refuses it with its reason. A contribution that its frame awaits is taken
once, and goes on to the next member until its TTL or its source ends it; one that no frame awaits is counted, and the words of a late
one that no ring word names count as late then, once (log entry 136). A replay that comes too
late is lost. -/
def Obligations.RingFormation : Prop :=
  (∀ (p : Nat) (w : List Nat) (s : State), p < 2 → w.length = 6 → LinkUp p s.dev →
    ((linkOf s.dev p).late = false ∨ ¬ (w.getD 1 0 = dget R.RING_DOMAIN s.dev ∧ w.getD 4 0 = fLen s.dev)) →
    Completes (exec (.hello p w) s) s fun d =>
      (linkOf d p).hello = some w ∧ OtherLinks p s.dev d ∧
      linkState d p = (if w.getD 1 0 = dget R.RING_DOMAIN s.dev ∧ w.getD 4 0 = fLen s.dev then 2 else 3) ∧
      (linkState d p ≠ linkState s.dev p → armed s.dev = false → dget R.RING_SIZE d = 1 ∧ dget R.RING_POSITION d = 0 ∧ d.lnk.stable = 0 ∧
        dget R.DEVICE_RING_STATE d = if linkState d 0 = 2 ∨ linkState d 1 = 2 then 1 else 0) ∧
      (armed s.dev = true → dget R.RING_SIZE d = dget R.RING_SIZE s.dev ∧ dget R.RING_POSITION d = dget R.RING_POSITION s.dev ∧ d.lnk.size = s.dev.lnk.size) ∧
      (linkState d p = linkState s.dev p → dget R.DEVICE_RING_STATE d = dget R.DEVICE_RING_STATE s.dev) ∧
      SameEntriesBut ((linkReg p).key :: ringKeys) s.dev d ∧ ChangesOnly [.dict, .lnk] s.dev d) ∧
  (∀ (p : Nat) (w : List Nat) (s : State), p < 2 → w.length = 6 → LinkUp p s.dev → (linkOf s.dev p).late = true →
    w.getD 1 0 = dget R.RING_DOMAIN s.dev → w.getD 4 0 = fLen s.dev →
    Completes (exec (.hello p w) s) s fun d =>
      linkState d p = 3 ∧ linkOf d p = { linkOf s.dev p with hello := some w } ∧ OtherLinks p s.dev d ∧
      (s.dev.lnk.seenLate.contains (w.headD 0) = false → LastFault 0x0404 d ∧ d.lnk.seenLate = w.headD 0 :: s.dev.lnk.seenLate) ∧
      (s.dev.lnk.seenLate.contains (w.headD 0) = true → SameEntriesBut [(linkReg p).key] s.dev d ∧ ChangesOnly [.dict, .lnk] s.dev d) ∧
      SameEntriesBut ((linkReg p).key :: reportKeys) s.dev d ∧ ChangesOnly [.dict, .lnk, .host, .flt] s.dev d) ∧
  (∀ (w : List Nat) (s : State), w.length = 6 → LinkUp 2 s.dev →
    Completes (exec (.hello 2 w) s) s fun d =>
      (linkOf d 2).hello = some w ∧ dget R.MIRROR_PARTNER_SERIAL d = w.headD 0 ∧ OtherLinks 2 s.dev d ∧
      dget R.MIRROR_LINK_STATE d = (if (dget R.MIRROR_ROLE s.dev = 1 ∧ w.getD 3 0 = 2) ∨ (dget R.MIRROR_ROLE s.dev = 2 ∧ w.getD 3 0 = 1) then 2 else 3) ∧
      (dget R.MIRROR_SYNC s.dev = 1 → dget R.MIRROR_ROLE s.dev = 1 → w.getD 3 0 = 2 → linkState s.dev 2 = 3 →
        dget R.MIRROR_SYNC_STATE d = if armed s.dev && !ending s.dev then 2 else 1) ∧
      (dget R.MIRROR_SYNC s.dev = 0 → dget R.MIRROR_SYNC_STATE d = dget R.MIRROR_SYNC_STATE s.dev) ∧
      (linkState s.dev 2 = 3 ∨ dget R.MIRROR_LINK_STATE d = 3 → d.lnk.flawed = true) ∧
      SameEntriesBut [R.MIRROR_LINK_STATE.key, R.MIRROR_PARTNER_SERIAL.key, R.RING_SIZE.key, R.RING_LINKS.key, R.MIRROR_LINK.key, R.MIRROR_SYNC_STATE.key] s.dev d ∧
      ChangesOnly [.dict, .lnk] s.dev d) ∧
  (∀ (p : Nat) (w : List Nat) (s : State), p < 3 → w.length = 6 → ¬ LinkUp p s.dev → exec (.hello p w) s = .next s) ∧
  (∀ (p q : Nat) (m : List (Nat × Nat)) (s : State), p < 2 → q < 4096 → m.length ≤ 33 → Arrives p q s.dev →
    Completes (exec (.form p q m) s) s fun d =>
      linkOf d p = { AfterFlit q s.dev.now (linkOf s.dev p) with known := m } ∧ OtherLinks p s.dev d ∧
      (armed s.dev = false ∨ (dget R.DEVICE_RING_STATE s.dev ≠ 2 ∧ dget R.DEVICE_RING_STATE s.dev ≠ 3) ∨
          (∀ x ∈ strangers s.dev m, s.dev.lnk.seenLate.contains x = true) → SameEntriesBut [] s.dev d ∧ ChangesOnly [.lnk] s.dev d) ∧
      (armed s.dev = true → dget R.DEVICE_RING_STATE s.dev = 2 ∨ dget R.DEVICE_RING_STATE s.dev = 3 → ∀ x ∈ strangers s.dev m,
        d.lnk.seenLate.contains x = true ∧ (s.dev.lnk.seenLate.contains x = false → LastFault 0x0404 d)) ∧
      SameEntriesBut reportKeys s.dev d ∧ ChangesOnly [.dict, .lnk, .host, .flt] s.dev d) ∧
  (∀ (p q : Nat) (m : List (Nat × Nat)) (s : State), p < 2 → q < 4096 → m.length ≤ 33 → linkState s.dev p = 2 →
    gotBefore (linkOf s.dev p) q s.dev.now = true →
    Completes (exec (.form p q m) s) s fun d =>
      linkOf d p = { linkOf s.dev p with failed := tset none (linkOf s.dev p).failed q none } ∧ OtherLinks p s.dev d ∧
      SameEntriesBut [] s.dev d ∧ ChangesOnly [.lnk] s.dev d) ∧
  (∀ (p q t : Nat) (m : List (Nat × Nat)) (x : Link) (s : State), p < 2 → q < 4096 → m.length ≤ 33 → linkState s.dev p = 2 → x = linkOf s.dev p →
    tget none x.failed q = some t → gotBefore x q s.dev.now = false →
    (s.dev.now - t ≤ 58 → Completes (exec (.form p q m) s) s fun d =>
      linkOf d p = { AfterFlit q s.dev.now x with known := m } ∧ SameEntriesBut reportKeys s.dev d ∧
      (armed s.dev = false → SameEntriesBut [] s.dev d ∧ ChangesOnly [.lnk] s.dev d) ∧ ChangesOnly [.dict, .lnk, .host, .flt] s.dev d) ∧
    (58 < s.dev.now - t → Completes (exec (.form p q m) s) s fun d =>
      linkOf d p = { x with failed := tset none x.failed q none } ∧ dget R.RING_LOST_FLITS d = satAdd32 (dget R.RING_LOST_FLITS s.dev) 1 ∧
      LastFault 0x1401 d)) ∧
  (∀ (p q : Nat) (m : List (Nat × Nat)) (w : List Nat) (s : State), p < 2 → q < 4096 → m.length ≤ 33 → w.length = 5 → (∀ x ∈ w, x < 2 ^ 64) →
    linkState s.dev p ≠ 2 → exec (.form p q m) s = .next s ∧ exec (.contrib p q w) s = .next s) ∧
  (∀ (s : State), ringJoined s.dev = false → exec .formRound s = .next s) ∧
  (∀ (k : Nat) (m : List (Nat × Nat) × Bool) (s : State), ringJoined s.dev = true → m = membership s.dev →
    k = (if s.dev.lnk.found = m.1 ∧ s.dev.lnk.closed = m.2 then s.dev.lnk.stable + 1 else 1) →
    Completes (exec .formRound s) s fun d =>
      d.lnk.found = m.1 ∧ d.lnk.closed = m.2 ∧ d.lnk.stable = k ∧
      (armed s.dev = false → k ≠ 3 → ¬ (3 ≤ k ∧ dget R.DEVICE_RING_STATE s.dev = 1) → SameEntriesBut [] s.dev d) ∧
      (armed s.dev = true → SameEntriesBut [R.DEVICE_RING_STATE.key] s.dev d ∧ dget R.DEVICE_RING_STATE d =
        if k = 3 ∧ (dget R.DEVICE_RING_STATE s.dev = 2 ∨ dget R.DEVICE_RING_STATE s.dev = 3 ∨ (dget R.DEVICE_RING_STATE s.dev = 0 ∧ 1 < s.dev.lnk.size)) then
          (if m.2 then 2 else 3) else dget R.DEVICE_RING_STATE s.dev) ∧
      (k = 3 ∨ (3 ≤ k ∧ dget R.DEVICE_RING_STATE s.dev = 1) → armed s.dev = false → ∀ r, arrange m.1 m.2 = .error r →
        dget R.DEVICE_RING_STATE d = 4 ∧ dget R.RING_REFUSE_REASON d = r ∧ dget R.RING_SIZE d = 1 ∧ dget R.RING_POSITION d = 0) ∧
      (k = 3 ∨ (3 ≤ k ∧ dget R.DEVICE_RING_STATE s.dev = 1) → armed s.dev = false → ∀ l ps, arrange m.1 m.2 = .ok (l, ps) →
        dget R.DEVICE_RING_STATE d = (if m.2 then 2 else 3) ∧ dget R.RING_REFUSE_REASON d = 0 ∧ dget R.RING_SIZE d = l.length ∧ d.lnk.size = l.length) ∧
      SameEntriesBut ringKeys s.dev d ∧ ChangesOnly [.dict, .lnk] s.dev d) ∧
  (∀ (p q n src : Nat) (w : List Nat) (s : State), p < 2 → q < 4096 → w.length = 5 → (∀ x ∈ w, x < 2 ^ 64) → Arrives p q s.dev →
    dget R.POWER_STATE s.dev = 0 → awaiting s.dev (bits (w.headD 0) 23 0) = some n → src = bits (w.headD 0) 47 43 →
    s.dev.lnk.inbox.any (fun c => decide (c.src = src) && decide (c.frame = n)) = false →
    Completes (exec (.contrib p q w) s) s fun d =>
      d.lnk.inbox = (⟨n, src, bits (w.headD 0) 37 34, bits (w.headD 0) 33 30, [w.getD 1 0, w.getD 2 0, w.getD 3 0, w.getD 4 0]⟩ :: s.dev.lnk.inbox).take 2048 ∧
      (1 < bits (w.headD 0) 42 38 →
        (if p = 0 then (dget R.RING_POSITION s.dev + 1) % max (ringSize s.dev) 1
          else (dget R.RING_POSITION s.dev + max (ringSize s.dev) 1 - 1) % max (ringSize s.dev) 1) ≠ src →
        FlitSent (1 - p) 1 ((w.headD 0 - 2 ^ 38) :: w.tail) s.dev d) ∧
      (bits (w.headD 0) 42 38 ≤ 1 → ∀ k, k ≠ p → linkOf d k = linkOf s.dev k) ∧ linkOf d p = AfterFlit q s.dev.now (linkOf s.dev p) ∧
      SameEntriesBut [] s.dev d ∧ ChangesOnly [.lnk] s.dev d) ∧
  (∀ (p q : Nat) (w : List Nat) (s : State), p < 2 → q < 4096 → w.length = 5 → (∀ x ∈ w, x < 2 ^ 64) → Arrives p q s.dev →
    dget R.POWER_STATE s.dev = 0 → awaiting s.dev (bits (w.headD 0) 23 0) = none →
    s.dev.lnk.inbox.any (fun c => decide (c.src = bits (w.headD 0) 47 43) && decide (c.frame % 2 ^ 24 = bits (w.headD 0) 23 0)) = false →
    Completes (exec (.contrib p q w) s) s fun d =>
      d.lnk.inbox = s.dev.lnk.inbox ∧ dget R.RING_FRAME_MISMATCH d = satAdd32 (dget R.RING_FRAME_MISMATCH s.dev) 1 ∧
      (running s.dev = false → SameEntriesBut [R.RING_FRAME_MISMATCH.key] s.dev d) ∧
      SameEntriesBut [R.RING_FRAME_MISMATCH.key, R.RING_LATE_COUNT.key, R.TIMING_CHOICES.key] s.dev d ∧ ChangesOnly [.dict, .lnk] s.dev d) ∧
  (∀ (p q n src k : Nat) (w : List Nat) (s : State), p < 2 → q < 4096 → w.length = 5 → (∀ x ∈ w, x < 2 ^ 64) → Arrives p q s.dev →
    dget R.POWER_STATE s.dev = 0 → awaiting s.dev (bits (w.headD 0) 23 0) = none → src = bits (w.headD 0) 47 43 →
    s.dev.lnk.inbox.any (fun c => decide (c.src = src) && decide (c.frame % 2 ^ 24 = bits (w.headD 0) 23 0)) = false →
    running s.dev = true → n < s.dev.grid.nextB → s.dev.grid.nextB ≤ n + 2 ^ 24 → n % 2 ^ 24 = bits (w.headD 0) 23 0 → inRing s.dev src = true →
    deadAt s.dev n < s.dev.now → s.dev.lnk.lateSeen.contains (bits (w.headD 0) 23 0, src) = false →
    k = (List.range 4).countP (fun k => bit (bits (w.headD 0) 37 34) k && !wordNames s.dev src k) → k ≠ 0 →
    Completes (exec (.contrib p q w) s) s fun d =>
      dget R.RING_LATE_COUNT d = satAdd32 (dget R.RING_LATE_COUNT s.dev) k ∧ dget R.TIMING_CHOICES d = satAdd32 (dget R.TIMING_CHOICES s.dev) k ∧
      d.lnk.lateSeen.contains (bits (w.headD 0) 23 0, src) = true) ∧
  (∀ (p q : Nat) (w : List Nat) (s : State), p < 2 → q < 4096 → w.length = 5 → (∀ x ∈ w, x < 2 ^ 64) → Arrives p q s.dev →
    dget R.POWER_STATE s.dev ≠ 0 → Completes (exec (.contrib p q w) s) s fun d =>
      FlitNoted p q s.dev.now s.dev d ∧ d.lnk.inbox = s.dev.lnk.inbox ∧ SameEntriesBut [] s.dev d ∧ ChangesOnly [.lnk] s.dev d)

/-- A member's WAITING message is kept for BARRIER_TIMEOUT (log entry 137), once, with the role of its ring in the mirror pair, and goes on to the other joined ports; the leader's message names the arming edge of a
device that waits for it. A barrier that does not complete in time ends the arming: BARRIER_STATE 3, the array OFF, the slot READY, a pending switch dropped. A
SYNC flit of a ring neighbour measures the skew of its frame; more than 3 ac is counted and reported. -/
def Obligations.BarrierAndSync : Prop :=
  (∀ (p q half pos size k path t h role : Nat) (s : State), p < 3 → q < 4096 → half < 6 → role = half / 2 → pos < 32 → size ≤ 32 → k < 65536 → Arrives p q s.dev →
    h = (if p = 2 then 1 - half % 2 else half % 2) →
    (∀ l : List Nat, l = (if h = 1 then [32 * h + pos, 1000 + size] else [32 * h + pos]) ++ (if role = 0 then [] else [2000 + if h = 0 then role else 3 - role]) → (waits (advTo t s.dev)).contains (32 * h + pos) = false →
      Completes (exec (.barrier p q 0 half pos size k path t) s) s fun d =>
      d.now = max t s.dev.now ∧
      d.lnk.waiting = l.map (fun m => (m, max t s.dev.now)) ++
        s.dev.lnk.waiting.filter (fun w => (waits (advTo t s.dev)).contains w.1 && !l.contains w.1) ∧
      (∀ j, j < 3 → j ≠ p → FlitSent j 4 [0, h + 2 * role, pos, size, k, path + (linkOf s.dev p).lat] s.dev d) ∧ linkOf d p = AfterFlit q s.dev.now (linkOf s.dev p) ∧
      SameEntriesBut [] s.dev d ∧ ChangesOnly [.now, .time, .lnk] s.dev d) ∧
    ((waits (advTo t s.dev)).contains (32 * h + pos) = true → Completes (exec (.barrier p q 0 half pos size k path t) s) s fun d =>
      d.lnk.waiting = s.dev.lnk.waiting ∧ d.lnk.barEdge = s.dev.lnk.barEdge ∧ FlitNoted p q s.dev.now s.dev d ∧ d.now = max t s.dev.now ∧
      SameEntriesBut [] s.dev d ∧ ChangesOnly [.now, .time, .lnk] s.dev d)) ∧
  (∀ (p q half pos size k path t l per : Nat) (s : State), p < 3 → q < 4096 → half < 6 → pos < 32 → size ≤ 32 → k < 65536 → Arrives p q s.dev →
    dget R.BARRIER_STATE s.dev = 1 → s.dev.lnk.barEdge = none → s.dev.pll.lastEdge = some l → per = max (sysrefPeriod s.dev (dget R.CLOCK_REF_PORT s.dev)) 1 →
    Completes (exec (.barrier p q 1 half pos size k path t) s) s fun d =>
      d.lnk.barEdge = some ((l : Int) + rneDiv ((t : Int) - (((path + (linkOf s.dev p).lat) / 16 : Nat) : Int) - l) per * per + (k * per : Nat)).toNat ∧
      d.lnk.waiting = s.dev.lnk.waiting ∧ d.now = max t s.dev.now ∧ SameEntriesBut [] s.dev d ∧ ChangesOnly [.now, .time, .lnk] s.dev d) ∧
  (∀ (p q half pos size k path t : Nat) (s : State), p < 3 → q < 4096 → half < 6 → pos < 32 → size ≤ 32 → k < 65536 → Arrives p q s.dev →
    dget R.BARRIER_STATE s.dev = 1 → s.dev.lnk.barEdge = none → s.dev.pll.lastEdge = none →
    Completes (exec (.barrier p q 1 half pos size k path t) s) s fun d =>
      d.lnk.barEdge = none ∧ SameEntriesBut [] s.dev d ∧ ChangesOnly [.now, .time, .lnk] s.dev d) ∧
  (∀ (p q half pos size k path t : Nat) (s : State), p < 3 → q < 4096 → half < 6 → pos < 32 → size ≤ 32 → k < 65536 → Arrives p q s.dev →
    dget R.BARRIER_STATE s.dev ≠ 1 ∨ s.dev.lnk.barEdge.isSome = true →
    Completes (exec (.barrier p q 1 half pos size k path t) s) s fun d =>
      d.lnk.waiting = s.dev.lnk.waiting ∧ d.lnk.barEdge = s.dev.lnk.barEdge ∧ FlitNoted p q s.dev.now s.dev d ∧
      SameEntriesBut [] s.dev d ∧ ChangesOnly [.now, .time, .lnk] s.dev d) ∧
  (∀ (s : State), arrayState s.dev = 1 → dget R.CURRENT_CONTEXT s.dev < 4 →
    Completes (exec .barrierTimeout s) s fun d =>
      dget R.ARRAY_STATE d = 0 ∧ dget R.BARRIER_STATE d = 3 ∧ dget (R.SLOT_STATE (dget R.CURRENT_CONTEXT s.dev)) d = 2 ∧ LastFault 0x0441 d ∧
      d.now = max (s.dev.grid.reqAt + dget R.BARRIER_TIMEOUT s.dev * acPerMs) s.dev.now ∧ (∀ p, p < 16 → portOf d p = portOf s.dev p) ∧
      pendingSwitch d = none ∧ d.store = s.dev.store ∧
      d.lnk = { s.dev.lnk with waiting := s.dev.lnk.waiting.filter (fun w => decide (w.1 ≠ dget R.RING_POSITION s.dev)), barEdge := none }) ∧
  (∀ (s : State), arrayState s.dev ≠ 1 → exec .barrierTimeout s = .next s) ∧
  (∀ (p q n at16 : Nat) (off : Int) (s : State), p < 2 → q < 4096 → n < 2 ^ 64 → Arrives p q s.dev → running s.dev = true →
    off = rneDiv ((at16 : Int) - (linkOf s.dev p).lat - (16 * t0At s.dev n : Nat)) 16 →
    Completes (exec (.sync p q n at16) s) s fun d =>
      dget R.BARRIER_SKEW_MAX d = max (dget R.BARRIER_SKEW_MAX s.dev) (min off.natAbs 255) ∧ d.now = max (at16 / 16) s.dev.now ∧
      (3 < off.natAbs → dget R.BARRIER_SKEW_EVENTS d = satAdd32 (dget R.BARRIER_SKEW_EVENTS s.dev) 1 ∧ LastFault 0x0442 d) ∧
      (off.natAbs ≤ 3 → SameEntriesBut [R.BARRIER_SKEW_MAX.key] s.dev d) ∧
      SameEntriesBut (R.BARRIER_SKEW_MAX.key :: R.BARRIER_SKEW_EVENTS.key :: reportKeys) s.dev d ∧
      FlitNoted p q (max (at16 / 16) s.dev.now) s.dev d ∧ ChangesOnly [.now, .time, .lnk, .dict, .host, .flt] s.dev d) ∧
  (∀ (p q n at16 : Nat) (s : State), p < 3 → q < 4096 → n < 2 ^ 64 → Arrives p q s.dev → running s.dev = false ∨ p = 2 →
    Completes (exec (.sync p q n at16) s) s fun d =>
      FlitNoted p q (max (at16 / 16) s.dev.now) s.dev d ∧ SameEntriesBut [] s.dev d ∧ ChangesOnly [.now, .time, .lnk] s.dev d) ∧
  (∀ (p q kind half pos size k path t n : Nat) (s : State), p < 3 → q < 4096 → kind < 2 → half < 6 → pos < 32 → size ≤ 32 → k < 65536 → n < 2 ^ 64 →
    linkState s.dev p ≠ 2 → exec (.barrier p q kind half pos size k path t) s = .next s ∧ exec (.sync p q n t) s = .next s)

/-- Frame n lies within MIRROR_SETTLE frames from frame r on (R421). -/
def Settles (n : Nat) (r : Option Nat) (d : Dev) : Prop := ∃ k, r = some k ∧ k ≤ n ∧ n < k + dget R.MIRROR_SETTLE d

/-- What a comparison of the pair's verdicts counts: nothing where one of them is not normal or the bits agree, the inputs where these
differ, the settling time after a rejoin of either partner, or a disagreement, which is reported (Table 17.5). `back` is the frame of the
partner's rejoin: none once its word says that it resumed from a pause (log entry 94). -/
def MirrorCompared (n : Nat) (back : Option Nat) (ours theirs : Nat × Nat) (a d : Dev) : Prop :=
  (bits ours.1 58 56 ≠ 0 ∨ bits theirs.1 58 56 ≠ 0 → SameEntriesBut [] a d) ∧
  (bits ours.1 58 56 = 0 → bits theirs.1 58 56 = 0 →
    (ours.2 ≠ theirs.2 → dget R.MIRROR_INPUT_DIFFER d = satAdd32 (dget R.MIRROR_INPUT_DIFFER a) 1 ∧ SameEntriesBut [R.MIRROR_INPUT_DIFFER.key] a d) ∧
    (ours.2 = theirs.2 → bits ours.1 31 0 = bits theirs.1 31 0 → SameEntriesBut [] a d) ∧
    (ours.2 = theirs.2 → bits ours.1 31 0 ≠ bits theirs.1 31 0 →
      (Settles n a.lnk.rejoin a ∨ Settles n back a →
        dget R.MIRROR_SETTLING d = satAdd32 (dget R.MIRROR_SETTLING a) 1 ∧ SameEntriesBut [R.MIRROR_SETTLING.key] a d) ∧
      (¬ Settles n a.lnk.rejoin a → ¬ Settles n back a →
        dget R.MIRROR_DISAGREE d = satAdd32 (dget R.MIRROR_DISAGREE a) 1 ∧ LastFault 0x0443 d)))

/-- This device is the secondary of a pair whose settings follow the primary's (R424). -/
def Secondary (d : Dev) : Prop := dget R.MIRROR_SYNC d = 1 ∧ dget R.MIRROR_ROLE d = 2

/-- Each of the three flits completes in every state, on a joined mirror link and otherwise. The partner's status of a frame counts when it
comes before the frame's check. The partner's verdict is compared with the device's own as soon as both are there. A mirrored setting
waits for the growth ring of its frame, or, while the array is not armed, for the next arming; a switch is pending with its frame; an
entry of a resynchronisation takes effect at once in an array that is not armed or is stopping; a setting that comes after its cut-off
loses the synchronisation; a device that is no secondary does nothing with it. -/
def Obligations.MirrorFlits : Prop :=
  (∀ (q f r act : Nat) (s : State), q < 4096 → f < 2 ^ 24 → r < 3 → act < 2 →
    Completes (exec (.mirrorStatus q f r act) s) s fun d =>
      SameEntriesBut (R.RING_LOST_FLITS.key :: reportKeys) s.dev d ∧ ChangesOnly [.lnk, .dict, .host, .flt] s.dev d) ∧
  (∀ (q f r act : Nat) (s : State), q < 4096 → f < 2 ^ 24 → r < 3 → act < 2 → Arrives 2 q s.dev →
    Completes (exec (.mirrorStatus q f r act) s) s fun d =>
      d.lnk.status = (if s.dev.grid.nextAlone ≤ nearFrame s.dev f then (nearFrame s.dev f :: s.dev.lnk.status).take 64 else s.dev.lnk.status) ∧
      FlitNoted 2 q s.dev.now s.dev d ∧ SameEntriesBut [] s.dev d ∧ ChangesOnly [.lnk] s.dev d) ∧
  (∀ (q f w fp : Nat) (s : State), q < 4096 → f < 2 ^ 24 → w < 2 ^ 64 → fp < 2 ^ 128 →
    Completes (exec (.mirrorVerdict q f w fp) s) s fun d =>
      SameEntriesBut (R.RING_LOST_FLITS.key :: R.MIRROR_INPUT_DIFFER.key :: R.MIRROR_SETTLING.key :: R.MIRROR_DISAGREE.key :: reportKeys) s.dev d ∧
      ChangesOnly [.dict, .lnk, .host, .flt] s.dev d) ∧
  (∀ (q f w fp n : Nat) (s : State), q < 4096 → f < 2 ^ 24 → w < 2 ^ 64 → fp < 2 ^ 128 → Arrives 2 q s.dev → n = nearFrame s.dev f →
    tget none s.dev.lnk.ours n = none →
    Completes (exec (.mirrorVerdict q f w fp) s) s fun d =>
      tget none d.lnk.theirs n = some (w, fp) ∧ d.lnk.ours = s.dev.lnk.ours ∧ FlitNoted 2 q s.dev.now s.dev d ∧
      SameEntriesBut [] s.dev d ∧ ChangesOnly [.lnk] s.dev d) ∧
  (∀ (q f w fp n : Nat) (o : Nat × Nat) (s : State), q < 4096 → f < 2 ^ 24 → w < 2 ^ 64 → fp < 2 ^ 128 → Arrives 2 q s.dev → n = nearFrame s.dev f →
    tget none s.dev.lnk.ours n = some o →
    Completes (exec (.mirrorVerdict q f w fp) s) s fun d =>
      MirrorCompared n (if bit w 57 = true ∧ s.dev.lnk.peerBack = some n then none else s.dev.lnk.peerBack) o (w, fp) s.dev d ∧
      tget none d.lnk.theirs n = none ∧ tget none d.lnk.ours n = none ∧ FlitNoted 2 q s.dev.now s.dev d ∧
      SameEntriesBut (R.MIRROR_INPUT_DIFFER.key :: R.MIRROR_SETTLING.key :: R.MIRROR_DISAGREE.key :: reportKeys) s.dev d ∧
      ChangesOnly [.dict, .lnk, .host, .flt] s.dev d) ∧
  (∀ (q kind key v f : Nat) (m : List Nat) (s : State), q < 4096 → kind < 4 → key < 2 ^ 32 → f < 2 ^ 64 →
    Completes (exec (.mirrorDict q kind key v f m) s) s fun d => ChangesOnly [.dict, .ctl, .lnk, .host, .flt] s.dev d) ∧
  (∀ (q kind key v f : Nat) (m : List Nat) (s : State), q < 4096 → kind < 4 → key < 2 ^ 32 → f < 2 ^ 64 → Arrives 2 q s.dev →
    Secondary s.dev → fwdOk ⟨kind, key, v, f, memberTab m⟩ = true → running s.dev = true → f < s.dev.grid.nextC →
    Completes (exec (.mirrorDict q kind key v f m) s) s fun d =>
      dget R.MIRROR_SYNC_STATE d = 3 ∧ LastFault 0x0445 d ∧ FlitNoted 2 q s.dev.now s.dev d ∧
      SameEntriesBut (R.MIRROR_SYNC_STATE.key :: reportKeys) s.dev d ∧ ChangesOnly [.dict, .lnk, .host, .flt] s.dev d) ∧
  (∀ (q key v f : Nat) (m : List Nat) (s : State), q < 4096 → key < 2 ^ 32 → f < 2 ^ 64 → Arrives 2 q s.dev →
    Secondary s.dev → running s.dev = false ∨ s.dev.grid.nextC ≤ f →
    Completes (exec (.mirrorDict q 2 key v f m) s) s fun d =>
      dget R.PENDING_SWITCH d = f % 2 ^ 56 * 256 + 128 + v % 4 ∧ FlitNoted 2 q s.dev.now s.dev d ∧
      SameEntriesBut [R.PENDING_SWITCH.key] s.dev d ∧ ChangesOnly [.dict, .lnk] s.dev d) ∧
  (∀ (q key v f : Nat) (m : List Nat) (s : State), q < 4096 → key < 2 ^ 32 → f < 2 ^ 64 → Arrives 2 q s.dev →
    Secondary s.dev → fwdOk ⟨3, key, v, f, memberTab m⟩ = true → armed s.dev = false ∨ ending s.dev = true →
    Completes (exec (.mirrorDict q 3 key v f m) s) s fun d =>
      dget (regOf key) d = v ∧ dget R.MIRROR_SYNC_STATE d = 1 ∧ FlitNoted 2 q s.dev.now s.dev d ∧
      SameEntriesBut [key, R.MIRROR_SYNC_STATE.key] s.dev d ∧ ChangesOnly [.dict, .lnk] s.dev d) ∧
  (∀ (q key v f : Nat) (m : List Nat) (s : State), q < 4096 → key < 2 ^ 32 → f < 2 ^ 64 → Arrives 2 q s.dev →
    Secondary s.dev → fwdOk ⟨0, key, v, f, memberTab m⟩ = true → running s.dev = false →
    Completes (exec (.mirrorDict q 0 key v f m) s) s fun d =>
      d.ctl = { s.dev.ctl with rwlNew := tset none s.dev.ctl.rwlNew key (some v) } ∧ FlitNoted 2 q s.dev.now s.dev d ∧
      SameEntriesBut [] s.dev d ∧ ChangesOnly [.ctl, .lnk] s.dev d) ∧
  (∀ (q key v f : Nat) (m : List Nat) (s : State), q < 4096 → key < 2 ^ 32 → f < 2 ^ 64 → Arrives 2 q s.dev →
    Secondary s.dev → fwdOk ⟨1, key, v, f, memberTab m⟩ = true → running s.dev = false →
    Completes (exec (.mirrorDict q 1 key v f m) s) s fun d =>
      d.ctl = { s.dev.ctl with rwlNew := putVals (fwdVals ⟨1, key, v, f, memberTab m⟩) s.dev.ctl.rwlNew } ∧ FlitNoted 2 q s.dev.now s.dev d ∧
      SameEntriesBut [] s.dev d ∧ ChangesOnly [.ctl, .lnk] s.dev d) ∧
  (∀ (q kind key v f : Nat) (m : List Nat) (x : Fwd) (s : State), q < 4096 → kind < 2 → key < 2 ^ 32 → f < 2 ^ 64 → Arrives 2 q s.dev →
    x = ⟨kind, key, v, f, memberTab m⟩ → Secondary s.dev → fwdOk x = true → running s.dev = true → s.dev.grid.nextC ≤ f →
    Completes (exec (.mirrorDict q kind key v f m) s) s fun d =>
      d.lnk.dictIn = s.dev.lnk.dictIn ++ [x] ∧ FlitNoted 2 q s.dev.now s.dev d ∧ SameEntriesBut [] s.dev d ∧ ChangesOnly [.lnk] s.dev d) ∧
  (∀ (q key v f : Nat) (m : List Nat) (x : Fwd) (s : State), q < 4096 → key < 2 ^ 32 → f < 2 ^ 64 → Arrives 2 q s.dev →
    x = ⟨3, key, v, f, memberTab m⟩ → Secondary s.dev → fwdOk x = true → running s.dev = true → s.dev.grid.nextC ≤ f →
    Completes (exec (.mirrorDict q 3 key v f m) s) s fun d =>
      d.lnk.dictIn = s.dev.lnk.dictIn ++ [x] ∧ d.lnk.resyncAt = some f ∧ dget R.MIRROR_SYNC_STATE d = 2 ∧ FlitNoted 2 q s.dev.now s.dev d ∧
      SameEntriesBut [R.MIRROR_SYNC_STATE.key] s.dev d ∧ ChangesOnly [.dict, .lnk] s.dev d) ∧
  (∀ (q kind key v f : Nat) (m : List Nat) (s : State), q < 4096 → kind < 4 → key < 2 ^ 32 → f < 2 ^ 64 → Arrives 2 q s.dev →
    ¬ Secondary s.dev ∨ fwdOk ⟨kind, key, v, f, memberTab m⟩ = false →
    Completes (exec (.mirrorDict q kind key v f m) s) s fun d =>
      FlitNoted 2 q s.dev.now s.dev d ∧ SameEntriesBut [] s.dev d ∧ ChangesOnly [.lnk] s.dev d) ∧
  (∀ (q kind key v f r act w fp : Nat) (m : List Nat) (s : State), q < 4096 → kind < 4 → key < 2 ^ 32 → f < 2 ^ 24 → r < 3 → act < 2 → w < 2 ^ 64 →
    fp < 2 ^ 128 → linkState s.dev 2 ≠ 2 →
    exec (.mirrorStatus q f r act) s = .next s ∧ exec (.mirrorVerdict q f w fp) s = .next s ∧ exec (.mirrorDict q kind key v f m) s = .next s)

/-- What every class T, P, J or D report and every event does: LAST_FAULT_CODE and LAST_FAULT_FRAME (free while an undefined use is in
force, R15), the class counter, and FAULT_ACTIVE (R430, R441). -/
def Collected (code : Nat) (a d : Dev) : Prop :=
  (d.undef = false → dget R.LAST_FAULT_CODE d = code ∧ dget R.LAST_FAULT_FRAME d = curFrame a) ∧
  (code / 0x1000 ≠ 0 → dget (classCounter (code / 0x1000)) d = satAdd32 (dget (classCounter (code / 0x1000)) a) 1 ∧
    bit (dget R.FAULT_ACTIVE d) (code / 0x1000) = true) ∧
  (code / 0x1000 = 0 → dget R.FAULT_ACTIVE d = dget R.FAULT_ACTIVE a)

/-- The device acts on a class D fault at once (R440): the lines at their safe level, the fault held, phase 1 of Table 18.6 while the
array runs or a stop of it is ending. -/
def DeviceFault (code : Nat) (a d : Dev) : Prop :=
  d.flt.dev = some code ∧ d.flt.pending = false ∧ dget R.VLINE_STATE d = safeLines a ∧ d.trig.pulseEnd = [] ∧
  dget R.RESTART_STATE d = (if running a = true ∨ ending a = true then 1 else 0) ∧ (running a = true ∨ ending a = true → d.flt.losing = true)

/-- The entries of class J and D reports beside those of every report. -/
def classKeys : List Nat := [R.FAULTS_J.key, R.FAULTS_D.key, R.RESTART_STATE.key, R.VLINE_STATE.key]

/-- Every report is counted, shown and made an event record while its ring takes it and the code has not been recorded within 1 ms. A
class P report retires its resource: a core joins the pending retirements, a channel, a lane with its port, a PSRAM die (an event when
its half falls below STORE_LOW_WATER, R310), a review cluster or a link is out of use. A class J report makes the job restart wait for the next growth ring, or starts a running one again; a
class D report acts at once. -/
def Obligations.FaultCollector : Prop :=
  (∀ (code a0 a1 : Nat) (s : State), code ∈ faultCodes → code < 0x2000 → a0 < 2 ^ 64 → a1 < 2 ^ 64 →
    Completes (exec (.faultReport code a0 a1) s) s fun d =>
      Collected code s.dev d ∧ d.flt.dev = s.dev.flt.dev ∧ d.flt.pending = s.dev.flt.pending ∧
      (tget none s.dev.flt.lastAt code = none → RingTakes 3 s.dev →
        (ringOf d 3).queue.length = (ringOf s.dev 3).queue.length + 1 ∧ tget none d.flt.lastAt code = some s.dev.now) ∧
      (∀ t, tget none s.dev.flt.lastAt code = some t → s.dev.now - t < acPerMs →
        ringOf d 3 = ringOf s.dev 3 ∧ dget R.EVENTS_SUPPRESSED d = satAdd32 (dget R.EVENTS_SUPPRESSED s.dev) 1) ∧
      SameEntriesBut reportKeys s.dev d ∧ ChangesOnly [.dict, .host, .flt] s.dev d) ∧
  (∀ (code a0 a1 u : Nat) (s : State), code = 0x2041 ∨ code = 0x2043 → a0 < 2 ^ 64 → a1 < 2 ^ 64 → u = a0 % 65536 →
    Completes (exec (.faultReport code a0 a1) s) s fun d =>
      Collected code s.dev d ∧
      d.ldr.pend = (if (retiredSet s.dev).contains u ∨ s.dev.ldr.pend.contains u then s.dev.ldr.pend else s.dev.ldr.pend ++ [u]) ∧
      (coreUsed s.dev u = false → d.flt.pending = s.dev.flt.pending) ∧
      (coreUsed s.dev u = true → s.dev.flt.dev = none → dget R.RESTART_STATE s.dev = 0 → d.flt.pending = true) ∧
      SameEntriesBut (R.RESTART_STATE.key :: reportKeys) s.dev d ∧ ChangesOnly [.dict, .host, .flt, .ldr, .cores, .fab] s.dev d) ∧
  (∀ (a0 a1 u : Nat) (s : State), a0 < 2 ^ 64 → a1 < 2 ^ 64 → u = a0 % 65536 →
    (u < 1024 → Completes (exec (.faultReport 0x21C2 a0 a1) s) s fun d =>
      Collected 0x21C2 s.dev d ∧ chanOf d u = { chanGone s.dev.now (chanOf s.dev u) with retired := true } ∧
      (∀ w x, s.dev.now ≤ x → flagBit (chanOf d u) w x = false) ∧ (∀ c, c ≠ u → chanOf d c = chanOf s.dev c) ∧
      SameEntriesBut reportKeys s.dev d ∧ ChangesOnly [.dict, .host, .flt, .chans] s.dev d) ∧
    (u < 64 → Completes (exec (.faultReport 0x2142 a0 a1) s) s fun d =>
      dget (R.LANE_STATE u) d = 4 ∧ dget (R.FE_STATE (u / 4)) d = 8 ∧ (portOf d (u / 4)).presentFrom = none ∧
      (∀ p, p ≠ u / 4 → portOf d p = portOf s.dev p) ∧
      (∀ c, c / 64 ≠ u / 4 → chanOf d c = chanOf s.dev c) ∧
      SameEntriesBut ((R.FE_STATE (u / 4)).key :: laneStateKeys (u / 4) ++ presenceKeys ++ reportKeys) s.dev d ∧
      ChangesOnly [.dict, .host, .flt, .ports, .chans, .frames] s.dev d) ∧
    (u < 32 → (∀ c ∈ s.dev.store.caps, ∀ p ∈ c.pages, p % 32 ≠ u) → Completes (exec (.faultReport 0x2282 a0 a1) s) s fun d =>
      (freeOf d (u / 16) < dget R.STORE_LOW_WATER s.dev → dget R.STORE_LOW_WATER s.dev ≤ freeOf s.dev (u / 16) → LastFault 0x0283 d) ∧
      (dget R.STORE_LOW_WATER s.dev ≤ freeOf d (u / 16) ∨ freeOf s.dev (u / 16) < dget R.STORE_LOW_WATER s.dev → Collected 0x2282 s.dev d) ∧ (∀ k, bit (dget R.PSRAM_RETIRED d) k = (decide (k = u) || bit (dget R.PSRAM_RETIRED s.dev) k)) ∧
      SameEntriesBut (R.PSRAM_RETIRED.key :: storeKeys ++ reportKeys) s.dev d ∧ ChangesOnly [.dict, .host, .flt, .store] s.dev d) ∧
    (u < 2 → Completes (exec (.faultReport 0x23C2 a0 a1) s) s fun d =>
      dget (R.CLUSTER_STATE u) d = 3 ∧ (clusOf d u).job = none ∧ (clusOf d u).queue = [] ∧ LastFault 0x23C2 d) ∧
    (u < 3 → Completes (exec (.faultReport 0x2403 a0 a1) s) s fun d =>
      Collected 0x2403 s.dev d ∧ linkState d u = 5 ∧ (linkOf d u).hello = none ∧ (linkOf d u).replay = [] ∧ OtherLinks u s.dev d ∧
      SameEntriesBut ((linkReg u).key :: ringKeys ++ reportKeys) s.dev d ∧ ChangesOnly [.dict, .host, .flt, .lnk] s.dev d)) ∧
  (∀ (code a0 a1 : Nat) (s : State), code = 0x3042 ∨ code = 0x30C2 → a0 < 2 ^ 64 → a1 < 2 ^ 64 →
    Completes (exec (.faultReport code a0 a1) s) s fun d =>
      Collected code s.dev d ∧ d.flt.dev = s.dev.flt.dev ∧
      (s.dev.flt.dev = none → dget R.RESTART_STATE s.dev = 0 → d.flt.pending = true ∧ dget R.RESTART_STATE d = 0) ∧
      (s.dev.flt.dev = none → dget R.RESTART_STATE s.dev ≠ 0 → dget R.RESTART_STATE d = 1) ∧
      (s.dev.flt.dev ≠ none → dget R.RESTART_STATE d = dget R.RESTART_STATE s.dev ∧ d.flt.pending = s.dev.flt.pending) ∧
      SameEntriesBut (classKeys ++ reportKeys) s.dev d ∧ ChangesOnly [.dict, .host, .flt, .cores, .fab] s.dev d) ∧
  (∀ (code a0 a1 : Nat) (s : State), code = 0x40C3 ∨ code = 0x44C2 ∨ code = 0x4502 ∨ code = 0x4542 → a0 < 2 ^ 64 → a1 < 2 ^ 64 →
    Completes (exec (.faultReport code a0 a1) s) s fun d =>
      Collected code s.dev d ∧ DeviceFault code s.dev d ∧ SameEntriesBut (classKeys ++ reportKeys) s.dev d ∧
      ChangesOnly [.dict, .host, .flt, .frames, .cores, .fab, .trig] s.dev d)

/-- Phase 1 leads to phase 2, but for an uncleared device fault, whose restart ends there. Phase 2 checks that every loaded context fits
the map with all retirements, phase 3 writes the contexts on that map, phase 4 aligns the die links; each failure is the device fault
0x4542, and so is a restart of 250 ms. After phase 4 the device waits to rejoin, or, when it may not, the restart ends with the next epoch in
every ring. A third failed read of the host copy for one core is a failure too (the class T fault of each read has no code in the spec, and the
command does not say which core's rows it was: free values, log entry 1). -/
def Obligations.RestartPhases : Prop :=
  (∀ (data : List (Nat × List Nat)) (s : State), hostCopy data = true → dget R.RESTART_STATE s.dev = 1 →
    Completes (exec (.restartPhaseDone data) s) s fun d =>
      dget R.RESTART_STATE d = (if s.dev.flt.dev = none then 2 else 0) ∧
      (s.dev.grid.endF = none ∨ s.dev.flt.dev = none → SameEntriesBut [R.RESTART_STATE.key] s.dev d ∧ ChangesOnly [.dict] s.dev d)) ∧
  (∀ (data : List (Nat × List Nat)) (gone : List Nat) (s : State), hostCopy data = true → dget R.RESTART_STATE s.dev = 2 → dget R.BOOT_STATE s.dev = 2 →
    gone = s.dev.fuses.windthrow ++ s.dev.ldr.map ++ s.dev.ldr.pend →
    (mapOk s.dev gone = true → (replan s.dev gone (loadedSlots s.dev)).isSome = true → Completes (exec (.restartPhaseDone data) s) s fun d =>
      dget R.RESTART_STATE d = 3 ∧ SameEntriesBut [R.RESTART_STATE.key] s.dev d ∧ ChangesOnly [.dict] s.dev d) ∧
    (mapOk s.dev gone = false ∨ replan s.dev gone (loadedSlots s.dev) = none → Completes (exec (.restartPhaseDone data) s) s fun d =>
      DeviceFault 0x4542 s.dev d ∧ LastFault 0x4542 d)) ∧
  (∀ (data : List (Nat × List Nat)) (s : State), hostCopy data = true → dget R.RESTART_STATE s.dev = 2 → dget R.BOOT_STATE s.dev ≠ 2 →
    exec (.restartPhaseDone data) s = .next s) ∧
  (∀ (data : List (Nat × List Nat)) (new : List Nat) (s : State), hostCopy data = true → dget R.RESTART_STATE s.dev = 3 →
    new = s.dev.fuses.windthrow ++ (s.dev.ldr.map ++ s.dev.ldr.pend) →
    (dget R.PSRAM_RETIRED s.dev = 0 → (replan s.dev new (loadedSlots s.dev)).isSome = true → Completes (exec (.restartPhaseDone data) s) s fun d =>
      dget R.RESTART_STATE d = 4 ∧ d.ldr.map = s.dev.ldr.map ++ s.dev.ldr.pend ∧ d.ldr.pend = []) ∧
    (dget R.PSRAM_RETIRED s.dev ≠ 0 ∨ replan s.dev new (loadedSlots s.dev) = none → Completes (exec (.restartPhaseDone data) s) s fun d =>
      DeviceFault 0x4542 s.dev d ∧ LastFault 0x4542 d)) ∧
  (∀ (data : List (Nat × List Nat)) (s : State), hostCopy data = true → dget R.RESTART_STATE s.dev = 4 →
    (s.dev.flt.noRejoin = false → Completes (exec (.restartPhaseDone data) s) s fun d =>
      dget R.RESTART_STATE d = 5 ∧ d.fab = { s.dev.fab with misaligned := [] } ∧ SameEntriesBut [R.RESTART_STATE.key] s.dev d ∧
      ChangesOnly [.dict, .fab] s.dev d) ∧
    (s.dev.flt.noRejoin = true → Completes (exec (.restartPhaseDone data) s) s fun d =>
      dget R.RESTART_STATE d = 0 ∧ LastFault 0x0541 d ∧ d.undef = s.dev.undefNew ∧ d.flt.mapWas = none ∧ d.flt.losing = false ∧
      (∀ r, isRing r → (ringOf d r).epoch = ((ringOf s.dev r).epoch + 1) % 65536))) ∧
  (∀ (data : List (Nat × List Nat)) (s : State), hostCopy data = true → dget R.RESTART_STATE s.dev = 0 ∨ 5 ≤ dget R.RESTART_STATE s.dev →
    exec (.restartPhaseDone data) s = .next s) ∧
  (∀ (s : State), dget R.RESTART_STATE s.dev ≠ 0 → s.dev.flt.dev = none →
    Completes (exec .restartTimeout s) s fun d =>
      DeviceFault 0x4542 s.dev d ∧ LastFault 0x4542 d ∧ d.now = max (s.dev.flt.runAt + 250 * acPerMs) s.dev.now) ∧
  (∀ (s : State), dget R.RESTART_STATE s.dev = 0 ∨ s.dev.flt.dev ≠ none → exec .restartTimeout s = .next s) ∧
  (∀ (x : Nat) (s : State), dget R.RESTART_STATE s.dev = 3 → hostReads s.dev ≠ [] →
    x = (hostReads s.dev).getD ((draw s.dev).1 % (hostReads s.dev).length) 0 →
    (tget 0 s.dev.flt.copyTries x < 2 → Completes (exec .hostCopyReadTimeout s) s fun d =>
      d.flt.copyTries = tset 0 s.dev.flt.copyTries x (tget 0 s.dev.flt.copyTries x + 1) ∧ d.freeCtr = s.dev.freeCtr + 4 ∧
      (d.undef = false → dget R.LAST_FAULT_CODE d / 0x1000 = 1) ∧
      dget R.FAULTS_T d = satAdd32 (dget R.FAULTS_T s.dev) 1 ∧ dget R.RESTART_STATE d = 3 ∧ SameEntriesBut reportKeys s.dev d ∧
      ChangesOnly [.dict, .host, .flt, .freeCtr] s.dev d) ∧
    (2 ≤ tget 0 s.dev.flt.copyTries x → Completes (exec .hostCopyReadTimeout s) s fun d =>
      DeviceFault 0x4542 s.dev d ∧ LastFault 0x4542 d ∧ d.flt.copyTries = [])) ∧
  (∀ (s : State), dget R.RESTART_STATE s.dev ≠ 3 ∨ hostReads s.dev = [] → exec .hostCopyReadTimeout s = .next s)

/-- The host clears a device fault once no die is above its control point and no PSRAM die is retired: a restart of phase 2 begins, which abandons a pause
that is pending (Table 9.6), a load and an update that is staged (R230, R437). It is
refused before, and to every other client. After a quiet period every other class clears, and the release of FAULT_N is counted. A
watchdog expiry reboots the management processor and closes its sessions; the third within 10 s is a device fault. -/
def Obligations.ClearingFaults : Prop :=
  (∀ (code : Nat) (s : State), Asks 0 s.dev → s.dev.flt.dev = some code → (∀ j ∈ s.dev.pwr.junctions, j.2 ≤ sgn 16 (dget R.JUNCTION_CONTROL s.dev)) →
    dget R.PSRAM_RETIRED s.dev = 0 →
    Completes (exec (.faultClear 0) s) s fun d =>
      d.flt.dev = none ∧ dget R.RESTART_STATE d = 2 ∧ d.flt.noRejoin = !running s.dev ∧ d.flt.runAt = s.dev.now ∧
      dget R.JOB_RESTARTS d = satAdd32 (dget R.JOB_RESTARTS s.dev) 1 ∧
      (∀ k, bit (dget R.FAULT_ACTIVE d) k = (decide (k ≠ 4) && bit (dget R.FAULT_ACTIVE s.dev) k)) ∧
      dget R.PAUSE_STATE d = (if dget R.PAUSE_STATE s.dev = 1 then 0 else dget R.PAUSE_STATE s.dev) ∧
      (dget R.ENC_STATE s.dev = 1 ∨ dget R.ENC_STATE s.dev = 2 → dget R.ENC_STATE d = 0) ∧
      (s.dev.ldr.job.isSome = true → d.ldr.job = none ∧ dget R.LOAD_STATE d = 7 ∧ dget R.LOAD_ERROR d = 0x001F) ∧
      (s.dev.ldr.job = none → dget R.ENC_STATE s.dev ≠ 1 → dget R.ENC_STATE s.dev ≠ 2 →
        SameEntriesBut [R.FAULT_ACTIVE.key, R.RESTART_STATE.key, R.JOB_RESTARTS.key, R.LAST_RESTART_FIRST.key, R.PAUSE_STATE.key] s.dev d ∧
        ChangesOnly [.dict, .flt, .undef] s.dev d)) ∧
  (∀ (s : State), Asks 0 s.dev → s.dev.flt.dev = none → exec (.faultClear 0) s = .next s) ∧
  (∀ (code : Nat) (s : State), Asks 0 s.dev → s.dev.flt.dev = some code →
    (∃ j ∈ s.dev.pwr.junctions, sgn 16 (dget R.JUNCTION_CONTROL s.dev) < j.2) ∨ dget R.PSRAM_RETIRED s.dev ≠ 0 →
    Completes (exec (.faultClear 0) s) s (TurnedAway 0 0xA00B s.dev)) ∧
  (∀ (c : Nat) (s : State), c ≠ 0 → Asks c s.dev → Completes (exec (.faultClear c) s) s (TurnedAway c 0xA011 s.dev)) ∧
  (∀ (s : State), reactionsDone s.dev = true → dget R.FAULT_ACTIVE s.dev % 16 ≠ 0 →
    Completes (exec .quietPeriodExpiry s) s fun d =>
      dget R.FAULT_ACTIVE d = (if bit (dget R.FAULT_ACTIVE s.dev) 4 then 16 else 0) ∧ d.flt.faultN = !faultNLow d ∧
      (s.dev.flt.faultN = false → d.flt.faultN = true → dget R.RECOVERY_COUNT d = satAdd32 (dget R.RECOVERY_COUNT s.dev) 1) ∧
      (s.dev.flt.faultN = true ∨ d.flt.faultN = false → dget R.RECOVERY_COUNT d = dget R.RECOVERY_COUNT s.dev) ∧
      d.now = max (s.dev.flt.quietFrom.getD 0 + dget R.QUIET_PERIOD s.dev * acPerS) s.dev.now ∧
      SameEntriesBut [R.FAULT_ACTIVE.key, R.RECOVERY_COUNT.key] s.dev d ∧ ChangesOnly [.now, .time, .dict, .flt] s.dev d) ∧
  (∀ (s : State), reactionsDone s.dev = false ∨ dget R.FAULT_ACTIVE s.dev % 16 = 0 → exec .quietPeriodExpiry s = .next s) ∧
  (∀ (at0 : List Nat) (s : State), 3 ≤ s.dev.sys.step → dget R.RECOVERY_STATUS s.dev ≠ 3 → powerState s.dev ≠ 3 →
    at0 = (s.dev.now :: s.dev.flt.mpAt.filter (fun t => decide (s.dev.now - t < 10 * acPerS))).take 3 →
    Completes (exec .mpWatchdogExpiry s) s fun d =>
      dget R.MP_WATCHDOG_EVENTS d = satAdd32 (dget R.MP_WATCHDOG_EVENTS s.dev) 1 ∧ dget R.BOOT_STATE d = 0 ∧ dget R.RECOVERY_STATUS d = 0 ∧
      d.flt.mpAt = at0 ∧ (∀ k, k < 8 → (sessOf d k).isOpen = false) ∧ d.sec.wait = false ∧
      (at0.length < 3 → d.flt.dev = s.dev.flt.dev) ∧ (at0.length = 3 → DeviceFault 0x4502 s.dev d ∧ LastFault 0x4502 d) ∧
      (∀ p, portOf d p = portOf s.dev p) ∧ d.lnk = s.dev.lnk) ∧
  (∀ (s : State), s.dev.sys.step < 3 ∨ dget R.RECOVERY_STATUS s.dev = 3 ∨ powerState s.dev = 3 → exec .mpWatchdogExpiry s = .next s)

/-- An exit to state v begins, from source src (R453, R458). -/
def ExitBegins (v src : Nat) (a d : Dev) : Prop :=
  dget R.POWER_TRANSITION d = 3 ∧ d.pwr = { a.pwr with target := v, since := d.now, source := src } ∧ dget R.LAST_WAKE_SOURCE d = src ∧
  dget R.WAKES d = satAdd32 (dget R.WAKES a) 1 ∧
  SameEntriesBut [R.POWER_TRANSITION.key, R.LAST_WAKE_SOURCE.key, R.WAKES.key] a d

/-- A wake from source src: a request for RUN, at once in a low-power state at rest, and pending in a transition; nothing in RUN at rest or
with the source off (R457, R458). -/
def Woken (src : Nat) (a d : Dev) : Prop :=
  (bit (dget R.WAKE_ENABLE a) (src - 1) = true → dget R.POWER_TRANSITION a = 0 → powerState a ≠ 0 → ExitBegins 0 src a d) ∧
  (bit (dget R.WAKE_ENABLE a) (src - 1) = true → dget R.POWER_TRANSITION a ≠ 0 →
    dget R.POWER_PENDING d = 0 ∧ d.pwr = { a.pwr with pendSource := src } ∧ SameEntriesBut [R.POWER_PENDING.key] a d) ∧
  (bit (dget R.WAKE_ENABLE a) (src - 1) = false ∨ (dget R.POWER_TRANSITION a = 0 ∧ powerState a = 0) → d.pwr = a.pwr ∧ SameEntriesBut [] a d)

/-- A request for a shallower state begins an exit, one for a deeper state the prepare phase of an entry, one for the current state
changes nothing; in a transition it becomes the pending request; the loader may not ask. Each wake source acts as a request for RUN while
it is enabled and the device is not in RUN at rest: the NPP WAKE that carries the device's serial, CLKREQ_N, a lane's signal, the wake
comb on a joined link and on one that is down. -/
def Obligations.PowerRequests : Prop :=
  (∀ (c v : Nat) (s : State), Asks c s.dev → c ≠ 1 → v < 4 →
    (dget R.POWER_TRANSITION s.dev = 0 → v < powerState s.dev → Completes (exec (.powerRequest c v) s) s fun d =>
      ExitBegins v 6 s.dev d ∧ ChangesOnly [.dict, .pwr] (asked c s.dev) d) ∧
    (dget R.POWER_TRANSITION s.dev = 0 → v = powerState s.dev → Completes (exec (.powerRequest c v) s) s fun d =>
      SameEntriesBut [] s.dev d ∧ ChangesOnly [] (asked c s.dev) d) ∧
    (dget R.POWER_TRANSITION s.dev = 0 → powerState s.dev < v →
      Completes (exec (.powerRequest c v) s) s fun d =>
        dget R.POWER_TRANSITION d = 1 ∧ d.pwr = { s.dev.pwr with target := v, since := s.dev.now, source := 0 } ∧
        (clusOf d 0).job = none ∧ (clusOf d 1).job = none ∧
        ((clusOf s.dev 0).job = none → (clusOf s.dev 1).job = none →
          SameEntriesBut [R.POWER_TRANSITION.key, (R.CLUSTER_STATE 0).key, (R.CLUSTER_STATE 1).key] s.dev d ∧
          ChangesOnly [.dict, .pwr] (asked c s.dev) d)) ∧
    (dget R.POWER_TRANSITION s.dev ≠ 0 → Completes (exec (.powerRequest c v) s) s fun d =>
      dget R.POWER_PENDING d = v ∧ d.pwr = { s.dev.pwr with pendSource := 6 } ∧ SameEntriesBut [R.POWER_PENDING.key] s.dev d ∧
      ChangesOnly [.dict, .pwr] (asked c s.dev) d)) ∧
  (∀ (c v : Nat) (s : State), Asks c s.dev → v < 256 →
    (3 < v → Completes (exec (.powerRequest c v) s) s (TurnedAway c 0xA005 s.dev)) ∧
    (c = 1 → v < 4 → Completes (exec (.powerRequest c v) s) s (TurnedAway 1 0xA011 s.dev))) ∧
  (∀ (x : Nat) (s : State), x < 2 ^ 128 →
    (x = s.dev.fuses.serial → powerState s.dev = 3 ∨ dget R.BOOT_STATE s.dev = 2 → Completes (exec (.nppWake x) s) s fun d =>
      Woken 5 s.dev d ∧ ChangesOnly [.dict, .pwr] s.dev d) ∧
    (x ≠ s.dev.fuses.serial ∨ (powerState s.dev ≠ 3 ∧ dget R.BOOT_STATE s.dev ≠ 2) → exec (.nppWake x) s = .next s)) ∧
  (∀ (s : State), Completes (exec .clkreqNAssert s) s fun d =>
    d.pins = { s.dev.pins with clkreqN := false } ∧
    (powerState s.dev = 3 ∨ (dget R.POWER_TRANSITION s.dev = 2 ∧ s.dev.pwr.target = 3) → Woken 4 s.dev d) ∧
    (¬ (powerState s.dev = 3 ∨ (dget R.POWER_TRANSITION s.dev = 2 ∧ s.dev.pwr.target = 3)) → SameEntriesBut [] s.dev d ∧ d.pwr = s.dev.pwr) ∧
    ChangesOnly [.pins, .dict, .pwr] s.dev d) ∧
  (∀ (l : Nat) (s : State), l < 67 →
    Completes (exec (.laneSignalDetect l) s) s fun d =>
      d.now = s.dev.now + 100 * acPerUs ∧ Woken (if l < 64 then 1 else 2) s.dev d ∧ ChangesOnly [.now, .time, .dict, .pwr] s.dev d) ∧
  (∀ (p : Nat) (s : State), p < 2 →
    (linkState s.dev p = 0 ∨ linkState s.dev p = 1 → Completes (exec (.wakeCombBursts p) s) s fun d =>
      Woken 3 s.dev d ∧ ChangesOnly [.dict, .pwr] s.dev d) ∧
    (1 < linkState s.dev p → exec (.wakeCombBursts p) s = .next s)) ∧
  (∀ (p q : Nat) (s : State), p < 2 → q < 4096 →
    (Arrives p q s.dev → Completes (exec (.wakeComb p q) s) s fun d =>
      Woken 3 s.dev d ∧ FlitNoted p q s.dev.now s.dev d ∧ ChangesOnly [.dict, .pwr, .lnk] s.dev d) ∧
    (linkState s.dev p ≠ 2 → exec (.wakeComb p q) s = .next s))

/-- Prepare ended REFUSED by a block, and no request is pending: the device stays in its state (R455). -/
def PrepareRefused (b : Nat) (a d : Dev) : Prop :=
  dget R.POWER_TRANSITION d = 0 ∧ dget R.POWER_STATE d = dget R.POWER_STATE a ∧ dget R.POWER_LAST_REFUSER d = b ∧
  dget R.POWER_REFUSALS d = satAdd32 (dget R.POWER_REFUSALS a) 1 ∧ LastFault 0x04C3 d ∧
  SameEntriesBut (R.POWER_TRANSITION.key :: R.POWER_PENDING.key :: R.POWER_LAST_REFUSER.key :: R.POWER_REFUSALS.key :: reportKeys) a d

/-- The wake comb goes out once on ring port p: as a flit on a link that has joined, as bursts on one that is down, and not on one that has
trained and not joined (R461). -/
def CombSent (p : Nat) (a d : Dev) : Prop :=
  (linkState a p = 2 → linkOf d p = { linkOf a p with txSeq := ((linkOf a p).txSeq + 1) % 4096, replay := (⟨10, (linkOf a p).txSeq, []⟩ :: (linkOf a p).replay).take 64 }) ∧
  (linkState a p = 3 → linkOf d p = linkOf a p) ∧
  (linkState a p ≠ 2 → linkState a p ≠ 3 → linkOf d p = { linkOf a p with bursts := (linkOf a p).bursts + 1 })

/-- Prepare ends in a refusal by the first block that refuses or does not answer, or in the commit, which in DOZE and SLEEP takes the
lines to their safe level and the clock and ports out of use, and for SLEEP releases CLKREQ_N. An entry and an exit end in their target
state, and the pending request follows; an exit to RUN that a wake began sends the wake comb on, and dies that leave DOZE or SLEEP stand as
after reset. Outside its phase a command does nothing. -/
def Obligations.PowerTransitions : Prop :=
  (∀ (b : Nat) (s : State), dget R.POWER_TRANSITION s.dev = 1 → refuser s.dev.pwr.target s.dev = some b → dget R.POWER_PENDING s.dev = 0xFF →
    Completes (exec .prepareDone s) s fun d => PrepareRefused b s.dev d ∧ d.pwr = s.dev.pwr ∧ ChangesOnly [.dict, .host, .flt] s.dev d) ∧
  (∀ (s : State), dget R.POWER_TRANSITION s.dev = 1 → refuser s.dev.pwr.target s.dev = none → s.dev.pwr.target = 1 →
    Completes (exec .prepareDone s) s fun d =>
      dget R.POWER_TRANSITION d = 2 ∧ SameEntriesBut [R.POWER_TRANSITION.key] s.dev d ∧ ChangesOnly [.dict] s.dev d) ∧
  (∀ (s : State), dget R.POWER_TRANSITION s.dev = 1 → refuser s.dev.pwr.target s.dev = none → 2 ≤ s.dev.pwr.target →
    (s.dev.pwr.target = 3 → (ringOf s.dev 3).enabled = false ∨ (ringOf s.dev 3).queue = []) → powerState s.dev ≤ 1 →
    Completes (exec .prepareDone s) s fun d =>
      dget R.POWER_TRANSITION d = 2 ∧ dget R.VLINE_STATE d = safeLines s.dev ∧ armed d = false ∧
      (armed s.dev = true ∨ dget R.CLOCK_REF_PORT s.dev = lowestPort (presentMask s.dev) → dget R.CLOCK_STATE d = 0) ∧
      (∀ p, p < 16 → (portOf d p).presentFrom = none ∧ (portOf d p).fesyncN = true) ∧ d.trig.pulseEnd = [] ∧
      (s.dev.pwr.target = 3 → d.pins.clkreqN = true ∧ ∀ p, p < 3 → linkState d p = if linkState s.dev p = 5 then 5 else 0) ∧
      (s.dev.pwr.target = 2 → d.pins = s.dev.pins ∧ d.lnk = s.dev.lnk) ∧
      (armed s.dev = true → d.flt.safeBelow = max s.dev.flt.safeBelow s.dev.grid.nextT) ∧ d.store = s.dev.store ∧ d.chans = s.dev.chans) ∧
  (∀ (s : State), dget R.POWER_TRANSITION s.dev = 1 → refuser s.dev.pwr.target s.dev = none → s.dev.pwr.target = 3 →
    (ringOf s.dev 3).enabled = false ∨ (ringOf s.dev 3).queue = [] → powerState s.dev = 2 →
    Completes (exec .prepareDone s) s fun d =>
      dget R.POWER_TRANSITION d = 2 ∧ d.pins = { s.dev.pins with clkreqN := true } ∧
      (∀ p, p < 3 → linkState d p = if linkState s.dev p = 5 then 5 else 0) ∧ ChangesOnly [.dict, .pins, .lnk, .flt] s.dev d) ∧
  (∀ (s : State), dget R.POWER_TRANSITION s.dev = 1 → refuser s.dev.pwr.target s.dev = none → s.dev.pwr.target = 3 →
    (ringOf s.dev 3).enabled = true → (ringOf s.dev 3).queue ≠ [] → exec .prepareDone s = .next s) ∧
  (∀ (b : Nat) (s : State), b ∈ [15, 14, 13, 11, 10, 8, 16, 12, 20] → dget R.POWER_TRANSITION s.dev = 1 → dget R.POWER_PENDING s.dev = 0xFF →
    Completes (exec (.prepareTimeout b) s) s fun d =>
      PrepareRefused b s.dev d ∧ d.now = max (s.dev.pwr.since + 50 * acPerUs) s.dev.now ∧ ChangesOnly [.now, .time, .dict, .host, .flt] s.dev d) ∧
  (∀ (b : Nat) (s : State), b ∈ [15, 14, 13, 11, 10, 8, 16, 12, 20] → dget R.POWER_TRANSITION s.dev ≠ 1 →
    exec .prepareDone s = .next s ∧ exec (.prepareTimeout b) s = .next s) ∧
  (∀ (s : State), dget R.POWER_TRANSITION s.dev = 2 →
    (dget R.POWER_PENDING s.dev = 0xFF → Completes (exec .powerTransitionDone s) s fun d =>
      dget R.POWER_STATE d = s.dev.pwr.target ∧ dget R.POWER_TRANSITION d = 0 ∧
      SameEntriesBut [R.POWER_STATE.key, R.POWER_TRANSITION.key, R.POWER_PENDING.key] s.dev d ∧ ChangesOnly [.dict] s.dev d) ∧
    (dget R.POWER_PENDING s.dev < 4 → dget R.POWER_PENDING s.dev < s.dev.pwr.target → Completes (exec .powerTransitionDone s) s fun d =>
      dget R.POWER_STATE d = s.dev.pwr.target ∧ dget R.POWER_TRANSITION d = 3 ∧ dget R.POWER_PENDING d = 0xFF ∧
      d.pwr.target = dget R.POWER_PENDING s.dev ∧ d.pwr.source = s.dev.pwr.pendSource ∧ ChangesOnly [.dict, .pwr] s.dev d) ∧
    (dget R.POWER_PENDING s.dev < 4 → s.dev.pwr.target < dget R.POWER_PENDING s.dev → Completes (exec .powerTransitionDone s) s fun d =>
      dget R.POWER_STATE d = s.dev.pwr.target ∧ dget R.POWER_TRANSITION d = 1 ∧ dget R.POWER_PENDING d = 0xFF ∧
      d.pwr.target = dget R.POWER_PENDING s.dev) ∧
    (dget R.POWER_PENDING s.dev = s.dev.pwr.target → Completes (exec .powerTransitionDone s) s fun d =>
      dget R.POWER_STATE d = s.dev.pwr.target ∧ dget R.POWER_TRANSITION d = 0 ∧ dget R.POWER_PENDING d = 0xFF ∧ ChangesOnly [.dict] s.dev d)) ∧
  (∀ (s : State), dget R.POWER_TRANSITION s.dev = 3 → dget R.POWER_PENDING s.dev = 0xFF →
    (powerState s.dev = 1 → dget R.RING_WAKE_PROPAGATE s.dev = 0 → Completes (exec .powerTransitionDone s) s fun d =>
      dget R.POWER_STATE d = s.dev.pwr.target ∧ dget R.POWER_TRANSITION d = 0 ∧
      SameEntriesBut [R.POWER_STATE.key, R.POWER_TRANSITION.key, R.POWER_PENDING.key] s.dev d ∧ ChangesOnly [.dict] s.dev d) ∧
    (s.dev.pwr.target = 0 → s.dev.pwr.source ≠ 0 → dget R.RING_WAKE_PROPAGATE s.dev = 1 →
      Completes (exec .powerTransitionDone s) s fun d =>
        dget R.POWER_STATE d = 0 ∧ dget R.POWER_TRANSITION d = 0 ∧ CombSent 0 s.dev d ∧ CombSent 1 s.dev d ∧
        (powerState s.dev = 1 → ChangesOnly [.dict, .lnk] s.dev d)) ∧
    (2 ≤ powerState s.dev → s.dev.pwr.target ≤ 1 → Completes (exec .powerTransitionDone s) s fun d =>
      dget R.TDC_CAL_STATE d = 0 ∧ d.pll.calDue = 0 ∧ (∀ l, (laneOf d l).adapt = 0)) ∧
    Completes (exec .powerTransitionDone s) s fun d =>
      dget R.POWER_STATE d = s.dev.pwr.target ∧ dget R.POWER_TRANSITION d = 0 ∧
      (∀ p, p < 3 → linkState d p = if linkState s.dev p = 0 ∧ powerState s.dev = 3 then 1 else linkState s.dev p)) ∧
  (∀ (s : State), dget R.POWER_TRANSITION s.dev ≠ 2 → dget R.POWER_TRANSITION s.dev ≠ 3 → exec .powerTransitionDone s = .next s)

/-- A stage of the canopy changes from the one before to n: reported, and at the ends of its range the review clusters are shed or
released; a fallback taken in this arming is switched back from as stage 3 ends, one not taken yet is due no more (R243, R465, R466,
Table 19.7). -/
def StageChanged (n : Nat) (a d : Dev) : Prop :=
  dget R.CANOPY_STAGE d = n ∧ LastFault 0x04C1 d ∧
  (stage a < n → dget R.SHED_EVENTS d = satAdd32 (dget R.SHED_EVENTS a) 1) ∧ (n ≤ stage a → dget R.SHED_EVENTS d = dget R.SHED_EVENTS a) ∧
  (stage a = 0 → n ≠ 0 → dget R.REVIEW_SHED d = 1 ∧ (clusOf d 0).job = none ∧ (clusOf d 1).job = none) ∧
  (stage a ≠ 0 → n = 0 → dget R.REVIEW_SHED d = 0) ∧
  (n = 3 → d.ctx.canopy = if dget R.FALLBACK_HELD a = 1 ∧ a.ctx.canopy ≠ 1 then 0 else 1) ∧
  (n ≠ 3 → stage a = 3 → (dget R.FALLBACK_HELD a = 1 ∧ a.ctx.canopy ≠ 1 → d.ctx.canopy = 2 ∧ dget R.FALLBACK_HELD d = 1) ∧
    (¬ (dget R.FALLBACK_HELD a = 1 ∧ a.ctx.canopy ≠ 1) → d.ctx.canopy = 0 ∧ dget R.FALLBACK_HELD d = 0)) ∧ dget R.CANOPY_CAUSE d = dget R.CANOPY_CAUSE a

/-- The stage-3 report while there is no fallback (R467). -/
def NoFallback (a d : Dev) : Prop :=
  dget R.CANOPY_STAGE d = 2 ∧ LastFault 0x04C1 d ∧ d.pwr.noFallback = some d.now ∧
  SameEntriesBut reportKeys a d ∧ ChangesOnly [.now, .time, .dict, .host, .flt, .pwr] a d

/-- A power sample shows power, current and the budget used, and sets causes 0 to 2; a thermal sample shows the temperatures and the flow,
sets causes 3 to 5, and trips a die that reaches JUNCTION_TRIP. While a cause is present the stage rises, or, with no fallback at stage
2, is reported, once per second; without a cause it falls. -/
def Obligations.Canopy : Prop :=
  (∀ (p i : Nat) (s : State), p < 65536 → i < 65536 →
    Completes (exec (.canopyPowerSample p i) s) s fun d =>
      dget R.POWER_NOW d = p ∧ dget R.CURRENT_NOW d = i ∧ dget R.PEAK_BUDGET_USED d = d.pwr.overAt.length / 100 ∧
      dget R.CANOPY_CAUSE d = (if dget R.POWER_PEAK_LIMIT s.dev < p then 1 else 0) + (if dget R.CURRENT_PEAK_LIMIT s.dev < i then 2 else 0) +
        (if d.pwr.latched then 4 else 0) + s.dev.pwr.hot ∧
      (p ≤ dget R.POWER_CONT_LIMIT s.dev → i ≤ dget R.CURRENT_CONT_LIMIT s.dev →
        d.pwr.overAt = s.dev.pwr.overAt.filter (fun t => decide (s.dev.now / acPerMs < t + 600000))) ∧
      (s.dev.pwr.latched = true → (d.pwr.latched = true ↔ 60000 < d.pwr.overAt.length)) ∧
      (s.dev.pwr.latched = false → (d.pwr.latched = true ↔ 120000 ≤ d.pwr.overAt.length ∧
        (dget R.POWER_CONT_LIMIT s.dev < p ∨ dget R.CURRENT_CONT_LIMIT s.dev < i))) ∧
      d.pwr.junctions = s.dev.pwr.junctions ∧
      SameEntriesBut [R.POWER_NOW.key, R.CURRENT_NOW.key, R.PEAK_BUDGET_USED.key, R.CANOPY_CAUSE.key] s.dev d ∧ ChangesOnly [.dict, .pwr] s.dev d) ∧
  (∀ (js : List Int) (inl out : Int) (f : Nat) (s : State), js.length = 100 → (∀ j ∈ js, -32768 ≤ j ∧ j < 32768) → -32768 ≤ inl → inl < 32768 →
    -32768 ≤ out → out < 32768 → f < 65536 → (∀ j ∈ js, j < sgn 16 (dget R.JUNCTION_TRIP s.dev)) →
    Completes (exec (.canopyThermalSample js inl out f) s) s fun d =>
      dget R.FLOW d = f ∧ dget R.INLET_TEMP d = unsgn 16 inl ∧ dget R.OUTLET_TEMP d = unsgn 16 out ∧
      (∃ m ∈ js, dget R.JUNCTION_MAX d = unsgn 16 m ∧ (∀ j ∈ js, j ≤ m) ∧ js.getD (dget R.JUNCTION_MAX_DIE d) 0 = m) ∧
      (∀ k, k < 100 → tget 0 d.pwr.junctions k = js.getD k 0) ∧
      (sgn 16 (dget R.INLET_LIMIT s.dev) < inl → bit (dget R.CANOPY_CAUSE d) 4 = true) ∧
      (f < dget R.FLOW_MIN s.dev → bit (dget R.CANOPY_CAUSE d) 5 = true) ∧
      ((∃ j ∈ js, sgn 16 (dget R.JUNCTION_CONTROL s.dev) ≤ j) → bit (dget R.CANOPY_CAUSE d) 3 = true) ∧
      (∀ k, k < 3 → bit (dget R.CANOPY_CAUSE d) k = bit (dget R.CANOPY_CAUSE s.dev) k) ∧
      SameEntriesBut [R.FLOW.key, R.INLET_TEMP.key, R.OUTLET_TEMP.key, R.JUNCTION_MAX.key, R.JUNCTION_MAX_DIE.key, R.CANOPY_CAUSE.key] s.dev d ∧
      ChangesOnly [.dict, .pwr] s.dev d) ∧
  (∀ (js : List Int) (inl out : Int) (f k : Nat) (s : State), js.length = 100 → (∀ j ∈ js, -32768 ≤ j ∧ j < 32768) → -32768 ≤ inl → inl < 32768 →
    -32768 ≤ out → out < 32768 → f < 65536 → k < 100 → sgn 16 (dget R.JUNCTION_TRIP s.dev) ≤ js.getD k 0 →
    tget 0 s.dev.pwr.junctions k < sgn 16 (dget R.JUNCTION_TRIP s.dev) →
    Completes (exec (.canopyThermalSample js inl out f) s) s fun d => d.flt.dev = some 0x44C2 ∧ LastFault 0x44C2 d) ∧
  (∀ (s : State), causes s.dev ≠ 0 → stage s.dev ≤ 2 → (stage s.dev = 2 → dget R.FALLBACK_ENABLE s.dev ≠ 0) →
    (s.dev.pwr.noFallback.isSome = true → dget R.FALLBACK_ENABLE s.dev ≠ 0) →
    Completes (exec .canopyEscalate s) s fun d =>
      StageChanged (stage s.dev + 1) s.dev d ∧ d.pwr.raised = some d.now ∧ d.pwr.noFallback = none ∧
      (∀ t, s.dev.pwr.raised = some t →
        d.now = max (t + (if causes s.dev % 4 ≠ 0 then 100 * acPerUs else dget R.CANOPY_SETTLE s.dev * acPerUs)) s.dev.now) ∧
      (s.dev.pwr.raised = none → d.now = s.dev.now)) ∧
  (∀ (s : State), causes s.dev ≠ 0 → stage s.dev = 2 → dget R.FALLBACK_ENABLE s.dev = 0 → s.dev.pwr.noFallback = none →
    Completes (exec .canopyEscalate s) s (NoFallback s.dev)) ∧
  (∀ (s : State), causes s.dev = 0 ∨ stage s.dev = 3 ∨ (s.dev.pwr.noFallback.isSome = true ∧ dget R.FALLBACK_ENABLE s.dev = 0) →
    exec .canopyEscalate s = .next s) ∧
  (∀ (t : Nat) (s : State), s.dev.pwr.clear = some t → causes s.dev = 0 → stage s.dev ≠ 0 →
    Completes (exec .canopyReleaseExpiry s) s fun d =>
      StageChanged (stage s.dev - 1) s.dev d ∧ d.pwr.clear = some d.now ∧ d.now = max (t + dget R.CANOPY_RELEASE s.dev * acPerMs) s.dev.now) ∧
  (∀ (s : State), s.dev.pwr.clear = none ∨ causes s.dev ≠ 0 ∨ stage s.dev = 0 → exec .canopyReleaseExpiry s = .next s) ∧
  (∀ (t : Nat) (s : State), s.dev.pwr.noFallback = some t → causes s.dev ≠ 0 → stage s.dev = 2 → dget R.FALLBACK_ENABLE s.dev = 0 →
    Completes (exec .canopyStage3Report s) s fun d => NoFallback s.dev d ∧ d.now = max (t + acPerS) s.dev.now) ∧
  (∀ (s : State), s.dev.pwr.noFallback = none ∨ causes s.dev = 0 ∨ stage s.dev ≠ 2 ∨ dget R.FALLBACK_ENABLE s.dev ≠ 0 →
    exec .canopyStage3Report s = .next s)

/-- An extend of measurement register i (R483, Table 20.4): the register, the log while it has room, and its counters. -/
def Extended (i event : Nat) (dg : List Nat) (a d : Dev) : Prop :=
  dget (R.MR i) d = sm3n (bytesOf (dget (R.MR i) a) 32 ++ dg) ∧ dget R.LOG_COUNT d = satAdd32 (dget R.LOG_COUNT a) 1 ∧
  (a.sec.log.length < 4096 → (∃ e : LogEntry, e.mr = i ∧ e.event = event ∧ e.digest = ofBytes dg ∧ d.sec.log = e :: a.sec.log) ∧
    dget R.LOG_DROPPED d = dget R.LOG_DROPPED a) ∧
  (4096 ≤ a.sec.log.length → d.sec.log = a.sec.log ∧ dget R.LOG_DROPPED d = satAdd32 (dget R.LOG_DROPPED a) 1)

/-- The digest of the owner keys, their revocation bits and the fused version (Table 20.3, event 4). -/
def keysDigest (d : Dev) : List Nat :=
  sm3 ((match keyOf d 0 with | some k => bytesOf (keyId k) 8 | none => List.replicate 8 0) ++
    (match keyOf d 1 with | some k => bytesOf (keyId k) 8 | none => List.replicate 8 0) ++ [d.fuses.revoked % 4, d.fuses.svn])

/-- The entries that an extend of register i writes. -/
def extendKeysOf (i : Nat) : List Nat := [(R.MR i).key, R.LOG_COUNT.key, R.LOG_DROPPED.key]

/-- The host provisions an owner key into the first empty slot, revokes one unless that would leave none, and advances the fused
security version up to that of the running firmware; each is measured. A quote is built from a snapshot, one at a time, and its
signature is an SM2 signature of the device's identity key over it (the key is secret, and the random number of a signature free: log
entry 2). Running firmware extends MR3. -/
def Obligations.OwnerKeysAndQuotes : Prop :=
  (∀ (v k : Nat) (s : State), HostReaches s.dev → v < 2 ^ 512 → k = beNum (bytesOf v 64) → armed s.dev = false → s.dev.pins.testEn = false →
    (keyOf s.dev 0 = none → Completes (exec (.ownerKeyProvision 0 v) s) s fun d =>
      keyOf d 0 = some k ∧ keyOf d 1 = keyOf s.dev 1 ∧ d.fuses.revoked = s.dev.fuses.revoked ∧ Extended 1 4 (keysDigest d) s.dev d ∧
      SameEntriesBut (extendKeysOf 1) s.dev d ∧ ChangesOnly [.dict, .fuses, .sec] s.dev d) ∧
    ((keyOf s.dev 0).isSome = true → keyOf s.dev 1 = none → Completes (exec (.ownerKeyProvision 0 v) s) s fun d =>
      keyOf d 1 = some k ∧ keyOf d 0 = keyOf s.dev 0 ∧ Extended 1 4 (keysDigest d) s.dev d ∧
      SameEntriesBut (extendKeysOf 1) s.dev d ∧ ChangesOnly [.dict, .fuses, .sec] s.dev d)) ∧
  (∀ (v : Nat) (s : State), HostReaches s.dev → v < 2 ^ 512 →
    armed s.dev = true ∨ s.dev.pins.testEn = true ∨ ((keyOf s.dev 0).isSome = true ∧ (keyOf s.dev 1).isSome = true) →
    Completes (exec (.ownerKeyProvision 0 v) s) s (TurnedAway 0 0xA00B s.dev)) ∧
  (∀ (x : Nat) (s : State), HostReaches s.dev → x < 2 →
    (provisioned s.dev = false ∨ (∃ y, y < 2 ∧ y ≠ x ∧ (keyOf s.dev y).isSome = true ∧ bit s.dev.fuses.revoked y = false) →
      Completes (exec (.ownerKeyRevoke 0 x) s) s fun d =>
        (∀ y, bit d.fuses.revoked y = (decide (y = x) || bit s.dev.fuses.revoked y)) ∧ d.fuses.ownerKeys = s.dev.fuses.ownerKeys ∧
        Extended 1 4 (keysDigest d) s.dev d ∧ SameEntriesBut (extendKeysOf 1) s.dev d ∧ ChangesOnly [.dict, .fuses, .sec] s.dev d) ∧
    (provisioned s.dev = true → (∀ y, y < 2 → y ≠ x → keyOf s.dev y = none ∨ bit s.dev.fuses.revoked y = true) →
      Completes (exec (.ownerKeyRevoke 0 x) s) s (TurnedAway 0 0xA00B s.dev))) ∧
  (∀ (v : Nat) (s : State), HostReaches s.dev → v < 256 →
    (s.dev.fuses.svn ≤ v → v ≤ dget R.FW_SVN s.dev → v ≤ 64 → Completes (exec (.svnAdvance 0 v) s) s fun d =>
      d.fuses = { s.dev.fuses with svn := v } ∧ Extended 1 4 (keysDigest d) s.dev d ∧ SameEntriesBut (extendKeysOf 1) s.dev d ∧
      ChangesOnly [.dict, .fuses, .sec] s.dev d) ∧
    (v < s.dev.fuses.svn ∨ dget R.FW_SVN s.dev < v ∨ 64 < v → Completes (exec (.svnAdvance 0 v) s) s (TurnedAway 0 0xA005 s.dev)) ∧
    (2 ≤ v → Completes (exec (.ownerKeyRevoke 0 v) s) s (TurnedAway 0 0xA005 s.dev))) ∧
  (∀ (c v : Nat) (s : State), c ≠ 0 → Asks c s.dev → v < 256 →
    Completes (exec (.ownerKeyProvision c v) s) s (TurnedAway c 0xA011 s.dev) ∧ Completes (exec (.ownerKeyRevoke c v) s) s (TurnedAway c 0xA011 s.dev) ∧
    Completes (exec (.svnAdvance c v) s) s (TurnedAway c 0xA011 s.dev)) ∧
  (∀ (c : Nat) (s : State), Asks c s.dev → powerState s.dev ≠ 3 →
    (dget R.QUOTE_STATE s.dev ≠ 1 → Completes (exec (.quoteCommand c) s) s fun d =>
      dget R.QUOTE_STATE d = 1 ∧ d.sec = { s.dev.sec with quote := quoteBytes s.dev } ∧ SameEntriesBut [R.QUOTE_STATE.key] s.dev d ∧
      ChangesOnly [.dict, .sec] (asked c s.dev) d) ∧
    (dget R.QUOTE_STATE s.dev = 1 → Completes (exec (.quoteCommand c) s) s (TurnedAway c 0xA00B s.dev))) ∧
  (∀ (s : State), dget R.QUOTE_STATE s.dev = 1 →
    Completes (exec .quoteReady s) s fun d =>
      dget R.QUOTE_STATE d = 2 ∧ dget R.QUOTE d = ofBytes (s.dev.sec.quote ++ identitySign s.dev s.dev.sec.quote) ∧
      SameEntriesBut [R.QUOTE_STATE.key, R.QUOTE.key] s.dev d ∧ ChangesOnly [.dict] s.dev d) ∧
  (∀ (s : State), dget R.QUOTE_STATE s.dev ≠ 1 → exec .quoteReady s = .next s) ∧
  (∀ (dg : List Nat) (s : State), dg.length = 32 → (∀ b ∈ dg, b < 256) →
    (dget R.BOOT_STATE s.dev = 2 → Completes (exec (.firmwareExtend dg) s) s fun d =>
      Extended 3 15 dg s.dev d ∧ SameEntriesBut (extendKeysOf 3) s.dev d ∧ ChangesOnly [.dict, .sec] s.dev d) ∧
    (dget R.BOOT_STATE s.dev ≠ 2 → exec (.firmwareExtend dg) s = .next s))

/-- Client c reaches the recovery entries: the host over its link, an NPP session while firmware runs or the ROM waits (R480, R482). -/
def AsksRom (c : Nat) (d : Dev) : Prop :=
  (c = 0 ∧ HostReaches d) ∨
  (2 ≤ c ∧ c < 10 ∧ powerState d ≠ 3 ∧ (sessOf d (c - 2)).isOpen = true ∧ dget R.NPP_WRITE_ENABLE d = 1 ∧
    (dget R.BOOT_STATE d = 2 ∨ dget R.BOOT_STATE d = 3))

/-- The header of the image in flash enters MR0 at each boot, if it could be read (R483, Table 20.3, event 2; log entry 171). -/
def HeaderMeasured (err : Bool) (a d : Dev) : Prop :=
  (err = true ∨ a.sec.flash.length < 512 → d.sec.log = a.sec.log ∧ dget (R.MR 0) d = dget (R.MR 0) a ∧ dget R.LOG_COUNT d = dget R.LOG_COUNT a) ∧
  (err = false → 512 ≤ a.sec.flash.length → Extended 0 2 (sm3 (a.sec.flash.take 192)) a d)

/-- An image that has passed its checks runs (R478, R480, R481): its version, a recovery image's measurement, START_STATE 3 once the dies
are up; FAULT_N is released from the boot failure. -/
def ImageRuns (img : List Nat) (recovered : Bool) (a d : Dev) : Prop :=
  dget R.BOOT_STATE d = 2 ∧ dget R.BOOT_FAIL_REASON d = 0 ∧ dget R.FW_VERSION d = imgVersion img ∧ dget R.FW_SVN d = imgSvn img ∧
  dget R.RECOVERY_STATUS d = 0 ∧ d.sec.recovered = recovered ∧ d.sec.signer = imgOwner img ∧ d.sec.wait = false ∧ d.sec.unproven = false ∧
  (recovered = true → Extended 1 3 (sm3 (img.take 192)) a d) ∧
  (a.sys.step = 5 → dget R.START_STATE d = 3) ∧ (a.sys.step ≠ 5 → dget R.START_STATE d = dget R.START_STATE a) ∧
  ChangesOnly [.dict, .sec, .flt] a d

/-- An image that fails a check leaves the ROM waiting for another (R480): the reason, and the report of Table 18.3. -/
def ImageFails (r : Nat) (d : Dev) : Prop :=
  dget R.BOOT_STATE d = 3 ∧ dget R.BOOT_FAIL_REASON d = r ∧ (r ≠ 0 → LastFault 0x1503 d) ∧
  (r ≠ 0 → d.sec.unproven = true ∧ d.flt.faultN = false)

/-- The ROM starts, measures itself and the keys, and verifies: an image that passes runs, one that fails, and a reboot to recovery, leave it
waiting; the image's header is measured whatever the checks say. In that state a host image, or one staged in chunks, is verified, and, with bit 7 of the command, written to the flash before it
runs; a failed check or write shows in RECOVERY_STATUS. A client that may not, or asks in another state, is refused. -/
def Obligations.BootAndRecovery : Prop :=
  (∀ (s : State), dget R.BOOT_STATE s.dev = 0 → 3 ≤ s.dev.sys.step →
    Completes (exec .mpBoot s) s fun d =>
      dget R.BOOT_STATE d = 1 ∧ dget R.MP_BOOTS d = satAdd32 (dget R.MP_BOOTS s.dev) 1 ∧
      dget (R.MR 0) d = sm3n (bytesOf (dget (R.MR 0) s.dev) 32 ++ bytesOf s.dev.fuses.romDigest 32) ∧
      dget (R.MR 1) d = sm3n (bytesOf (dget (R.MR 1) s.dev) 32 ++ keysDigest s.dev) ∧
      dget R.LOG_COUNT d = satAdd32 (satAdd32 (dget R.LOG_COUNT s.dev) 1) 1 ∧
      SameEntriesBut ([R.BOOT_STATE.key, R.MP_BOOTS.key] ++ extendKeysOf 0 ++ extendKeysOf 1) s.dev d ∧ ChangesOnly [.dict, .sec] s.dev d) ∧
  (∀ (s : State), dget R.BOOT_STATE s.dev ≠ 0 ∨ s.dev.sys.step < 3 → exec .mpBoot s = .next s) ∧
  (∀ (err : Bool) (r : Nat) (s : State), dget R.BOOT_STATE s.dev = 1 → r = imageReason s.dev err s.dev.sec.flash →
    Completes (exec (.bootVerifyDone err) s) s fun d =>
      HeaderMeasured err s.dev d ∧
      (r = 0 → s.dev.sec.wait = false → ImageRuns s.dev.sec.flash false s.dev d) ∧
      (r ≠ 0 ∨ s.dev.sec.wait = true → ImageFails r d ∧ dget R.RECOVERY_STATUS d = 1 ∧ ChangesOnly [.dict, .sec, .host, .flt] s.dev d) ∧
      (err = true → dget R.BOOT_FAIL_REASON d = 1)) ∧
  (∀ (err : Bool) (s : State), dget R.BOOT_STATE s.dev ≠ 1 → exec (.bootVerifyDone err) s = .next s) ∧
  (∀ (f : Bool) (s : State), Asks 0 s.dev →
    Completes (exec (.rebootToRecovery 0 f) s) s fun d =>
      dget R.BOOT_STATE d = 0 ∧ dget R.RECOVERY_STATUS d = 0 ∧ d.sec = { s.dev.sec with wait := true, recovered := false } ∧ d.ldr.job = none ∧
      (∀ k, k < 8 → (sessOf d k).isOpen = false) ∧ (∀ p, portOf d p = portOf s.dev p) ∧ d.lnk = s.dev.lnk) ∧
  (∀ (c : Nat) (f : Bool) (s : State), c ≠ 0 → Asks c s.dev → Completes (exec (.rebootToRecovery c f) s) s (TurnedAway c 0xA011 s.dev)) ∧
  (∀ (f : Bool) (s : State), HostReaches s.dev → dget R.BOOT_STATE s.dev ≠ 2 →
    Completes (exec (.rebootToRecovery 0 f) s) s (TurnedAway 0 0xA00B s.dev)) ∧
  (∀ (c : Nat) (f : Bool) (img : List Nat) (s : State), AsksRom c s.dev → (∀ b ∈ img, b < 256) → takesImage s.dev = true →
    (Completes (exec (.verifyHostImage c f img) s) s fun d =>
      dget R.RECOVERY_STATUS d = 2 ∧ d.sec = { s.dev.sec with image := img.take (dget R.RECOVERY_BYTES s.dev), toFlash := f } ∧
      SameEntriesBut [R.RECOVERY_STATUS.key] s.dev d ∧ ChangesOnly [.dict, .sec] (asked c s.dev) d) ∧
    Completes (exec (.verifyStagedImage c f) s) s fun d =>
      dget R.RECOVERY_STATUS d = 2 ∧ d.sec.toFlash = f ∧
      d.sec.image = (stagedImage ((dget R.RECOVERY_BYTES s.dev + 1023) / 1024) 0 s.dev).1.take (dget R.RECOVERY_BYTES s.dev) ∧
      ((∀ k, k < (dget R.RECOVERY_BYTES s.dev + 1023) / 1024 → tget [] s.dev.sec.chunks k ≠ []) →
        d.sec.image = ((List.range ((dget R.RECOVERY_BYTES s.dev + 1023) / 1024)).flatMap (fun k => tget [] s.dev.sec.chunks k)).take
          (dget R.RECOVERY_BYTES s.dev) ∧ d.freeCtr = s.dev.freeCtr) ∧
      SameEntriesBut [R.RECOVERY_STATUS.key] s.dev d ∧ ChangesOnly [.dict, .sec, .freeCtr] (asked c s.dev) d) ∧
  (∀ (c : Nat) (f : Bool) (img : List Nat) (s : State), AsksRom c s.dev → (∀ b ∈ img, b < 256) → takesImage s.dev = false →
    Completes (exec (.verifyHostImage c f img) s) s (TurnedAway c 0xA00B s.dev) ∧
    Completes (exec (.verifyStagedImage c f) s) s (TurnedAway c 0xA00B s.dev)) ∧
  (∀ (c : Nat) (ch : List Nat) (s : State), AsksRom c s.dev → ch.length = 1024 → (∀ b ∈ ch, b < 256) →
    Completes (exec (.recoveryChunk c ch) s) s fun d =>
      tget [] d.sec.chunks (dget R.RECOVERY_OFFSET s.dev / 1024) = ch ∧
      (∀ k, k ≠ dget R.RECOVERY_OFFSET s.dev / 1024 → tget [] d.sec.chunks k = tget [] s.dev.sec.chunks k) ∧
      dget R.RECOVERY_OFFSET d = (dget R.RECOVERY_OFFSET s.dev + 1024) % 2 ^ 32 ∧
      SameEntriesBut [R.RECOVERY_OFFSET.key] s.dev d ∧ ChangesOnly [.dict, .sec] (asked c s.dev) d) ∧
  (∀ (ok : Bool) (r : Nat) (s : State), dget R.RECOVERY_STATUS s.dev = 2 → r = imageReason s.dev (!ok) s.dev.sec.image →
    Completes (exec (.recoveryImageDone ok) s) s fun d =>
      (r ≠ 0 → ImageFails r d ∧ dget R.RECOVERY_STATUS d = 5) ∧
      (r = 0 → s.dev.sec.toFlash = true → dget R.RECOVERY_STATUS d = 3 ∧ SameEntriesBut [R.RECOVERY_STATUS.key] s.dev d ∧ ChangesOnly [.dict] s.dev d) ∧
      (r = 0 → s.dev.sec.toFlash = false → ImageRuns s.dev.sec.image true s.dev d ∧ d.sec.flash = s.dev.sec.flash)) ∧
  (∀ (s : State), dget R.RECOVERY_STATUS s.dev = 3 →
    (Completes (exec (.recoveryImageDone true) s) s fun d => ImageRuns s.dev.sec.image true s.dev d ∧ d.sec.flash = s.dev.sec.image) ∧
    Completes (exec (.recoveryImageDone false) s) s fun d =>
      dget R.RECOVERY_STATUS d = 6 ∧ d.sec = { s.dev.sec with flash := [] } ∧ SameEntriesBut [R.RECOVERY_STATUS.key] s.dev d ∧
      ChangesOnly [.dict, .sec] s.dev d) ∧
  (∀ (ok : Bool) (s : State), dget R.RECOVERY_STATUS s.dev ≠ 2 → dget R.RECOVERY_STATUS s.dev ≠ 3 → exec (.recoveryImageDone ok) s = .next s)

/-- The understorey step begins with these strap levels: straps sampled, lines at the sampled safe level, FAULT_N low (Table 21.1). -/
def Understorey (s0 s1 : Bool) (a d : Dev) : Prop :=
  d.pins = { a.pins with porN := true, safe0 := s0, safe1 := s1 } ∧ d.sys = { a.sys with step := 1 } ∧
  dget R.SAFE_LEVEL_STRAPS d = (if s0 then 1 else 0) + (if s1 then 2 else 0) ∧
  dget R.VLINE_STATE d = (if s0 then 0xFFFF else 0) + (if s1 then 0xFFFF0000 else 0) ∧
  (dget R.START_STATE a ≠ 3 → d.flt.faultN = false) ∧ d.trig = { a.trig with pulseEnd := [] } ∧
  d.flt = { a.flt with faultN := d.flt.faultN } ∧
  SameEntriesBut [R.SAFE_LEVEL_STRAPS.key, R.VLINE_STATE.key] a d ∧ ChangesOnly [.pins, .dict, .trig, .sys, .flt] a d

/-- The block after POR_N fell: as at reset, but for the fuses, the boot flash, the levels on the input pins, and the model's count of
free values; a flash write that the reset cuts off leaves no image (R488). -/
def PoweredDown (a d : Dev) : Prop :=
  ChangesOnly [.fuses, .freeCtr, .ports, .host, .pins, .sec] Dev.reset d ∧ d.fuses = a.fuses ∧ d.freeCtr = a.freeCtr ∧
  (∀ p, p < 16 → portOf d p = { Port.rest with presentN := (portOf a p).presentN }) ∧ d.host = { HostPort.rest with perstN := a.host.perstN } ∧
  d.pins = { Pins.rest with testEn := a.pins.testEn, safe0 := a.pins.safe0, safe1 := a.pins.safe1 } ∧
  d.sec = { Dev.reset.sec with flash := if dget R.RECOVERY_STATUS a = 3 then [] else a.sec.flash }

/-- POR_N low resets the whole device: every entry takes its default, the save-restore memory is lost, and only fuses, boot flash and
input levels stay. Its release samples the straps, puts the lines at their safe level, FAULT_N low, and begins the understorey step. A
rail fault while POR_N is high is both at once, with the straps as they stand on the pins. A rail sample shows the nine rails and keeps the
lowest voltage. A release while POR_N is high, and a rail fault or sample while it is low, change nothing. -/
def Obligations.ResetsAndRails : Prop :=
  (∀ (s : State), Completes (exec .porNAssert s) s fun d => PoweredDown s.dev d) ∧
  (∀ (s0 s1 : Bool) (s : State),
    (s.dev.pins.porN = false → Completes (exec (.porNRelease s0 s1) s) s fun d => Understorey s0 s1 s.dev d) ∧
    (s.dev.pins.porN = true → exec (.porNRelease s0 s1) s = .next s)) ∧
  (∀ (s : State), s.dev.pins.porN = true →
    Completes (exec .railFault s) s fun d => ∃ e, PoweredDown s.dev e ∧ Understorey s.dev.pins.safe0 s.dev.pins.safe1 e d) ∧
  (∀ (s : State), s.dev.pins.porN = false → exec .railFault s = .next s) ∧
  (∀ (vs cs : List Nat) (s : State), vs.length = 9 → cs.length = 9 → (∀ x ∈ vs, x < 65536) → (∀ x ∈ cs, x < 65536) →
    (s.dev.pins.porN = true → Completes (exec (.railSample vs cs) s) s fun d =>
      (∀ k, k < 9 → dget (R.RAIL_VOLTAGE k) d = vs.getD k 0 ∧ dget (R.RAIL_CURRENT k) d = cs.getD k 0 ∧
        dget (R.RAIL_VOLTAGE_MIN k) d = min (vs.getD k 0) (dget (R.RAIL_VOLTAGE_MIN k) s.dev)) ∧
      SameEntriesBut ((List.range 9).flatMap fun k => [(R.RAIL_VOLTAGE k).key, (R.RAIL_CURRENT k).key, (R.RAIL_VOLTAGE_MIN k).key]) s.dev d ∧
      ChangesOnly [.dict] s.dev d) ∧
    (s.dev.pins.porN = false → exec (.railSample vs cs) s = .next s))

/-- The report of the coolant hold (R490). -/
def HoldReported (a d : Dev) : Prop :=
  LastFault 0x04C1 d ∧ d.sys = { a.sys with holdAt := some d.now } ∧ SameEntriesBut reportKeys a d

/-- Each end of a step begins the next: the hub's end starts link training, COOLANT_HOLD and the save that TEST_EN asked for; a coolant
sample within limits begins DIES_UP, one that is not begins the hold's reports, 10 s apart; the end of DIES_UP begins discovery, and
READY where verified firmware runs. STORE_INIT is accepted when the store is OFF or FAILED, the device READY and no power transition in its prepare phase (log entry 169); its end makes the store
READY and empty, or FAILED with the failed dies retired. -/
def Obligations.StartUpSteps : Prop :=
  (∀ (s : State), s.dev.sys.step = 1 → Completes (exec .startStepDone s) s fun d =>
    d.sys = { s.dev.sys with step := 2 } ∧ ChangesOnly [.sys] s.dev d) ∧
  (∀ (s : State), s.dev.sys.step = 2 → Completes (exec .startStepDone s) s fun d =>
    dget R.START_STATE d = 1 ∧ d.sys.step = 3 ∧ (s.dev.pins.testEn = false → d.sys.saved = s.dev.sys.saved) ∧
    (s.dev.pins.testEn = true → d.sys.saved.isSome = true) ∧
    (∀ p, p < 3 → linkState d p = if linkState s.dev p = 0 then 1 else linkState s.dev p) ∧
    SameEntriesBut [R.START_STATE.key, (linkReg 0).key, (linkReg 1).key, (linkReg 2).key] s.dev d ∧ ChangesOnly [.dict, .sys] s.dev d) ∧
  (∀ (s : State), s.dev.sys.step = 3 →
    (coolantFits s.dev = true → Completes (exec .startStepDone s) s fun d =>
      dget R.START_STATE d = 2 ∧ d.sys = { s.dev.sys with step := 4, holdAt := none } ∧ SameEntriesBut [R.START_STATE.key] s.dev d ∧
      ChangesOnly [.dict, .sys] s.dev d) ∧
    (coolantFits s.dev = false → s.dev.sys.holdAt = none → Completes (exec .startStepDone s) s fun d =>
      HoldReported s.dev d ∧ d.now = s.dev.now ∧ ChangesOnly [.dict, .sys, .host, .flt] s.dev d) ∧
    (coolantFits s.dev = false → s.dev.sys.holdAt.isSome = true → exec .startStepDone s = .next s)) ∧
  (∀ (s : State), s.dev.sys.step = 4 → Completes (exec .startStepDone s) s fun d =>
    d.sys = { s.dev.sys with step := 5 } ∧ dget R.START_STATE d = (if dget R.BOOT_STATE s.dev = 2 then 3 else dget R.START_STATE s.dev) ∧
    (∀ p, p < 16 → dget (R.PORT_ENABLE p) s.dev = 1 → portsPowered s.dev = true →
      dget (R.FE_STATE p) d = if (portOf s.dev p).presentN then 0 else 1) ∧
    (∀ p, p < 16 → dget (R.PORT_ENABLE p) s.dev ≠ 1 → dget (R.FE_STATE p) d = dget (R.FE_STATE p) s.dev) ∧
    ChangesOnly [.dict, .sys, .ports, .flt] s.dev d) ∧
  (∀ (s : State), s.dev.sys.step = 0 ∨ s.dev.sys.step = 5 → exec .startStepDone s = .next s) ∧
  (∀ (t : Nat) (s : State), s.dev.sys.holdAt = some t → s.dev.sys.step = 3 → Completes (exec .coolantHoldReport s) s fun d =>
    HoldReported s.dev d ∧ d.now = max (t + 10 * acPerS) s.dev.now ∧ ChangesOnly [.now, .time, .dict, .sys, .host, .flt] s.dev d) ∧
  (∀ (s : State), s.dev.sys.holdAt = none ∨ s.dev.sys.step ≠ 3 → exec .coolantHoldReport s = .next s) ∧
  (∀ (c : Nat) (s : State), Asks c s.dev → dget R.START_STATE s.dev = 3 → preparing s.dev = false → dget R.STORE_STATE s.dev = 0 ∨ dget R.STORE_STATE s.dev = 3 →
    Completes (exec (.storeInit c) s) s fun d =>
      dget R.STORE_STATE d = 1 ∧ dget R.CAPTURE_PAGES d = 30720 - dget R.REVIEW_REGION_PAGES s.dev ∧
      SameEntriesBut [R.STORE_STATE.key, R.CAPTURE_PAGES.key] s.dev d ∧ ChangesOnly [.dict] (asked c s.dev) d) ∧
  (∀ (c : Nat) (s : State), Asks c s.dev → dget R.START_STATE s.dev ≠ 3 ∨ preparing s.dev = true ∨ dget R.STORE_STATE s.dev = 1 ∨ dget R.STORE_STATE s.dev = 2 →
    Completes (exec (.storeInit c) s) s (TurnedAway c 0xA00B s.dev)) ∧
  (∀ (s : State), dget R.STORE_STATE s.dev = 1 → dget R.PSRAM_RETIRED s.dev = 0 → Completes (exec (.storeInitDone 0) s) s fun d =>
    dget R.STORE_STATE d = 2 ∧ d.store.ready = true ∧ d.store.caps = [] ∧ dget R.CAPTURES_HELD d = 0 ∧
    SameEntriesBut [R.STORE_STATE.key, R.CAPTURES_HELD.key, R.FREE_PAGES_WEST.key, R.FREE_PAGES_EAST.key] s.dev d ∧
    ChangesOnly [.dict, .store] s.dev d) ∧
  (∀ (bad : Nat) (s : State), 0 < bad → bad < 2 ^ 32 → dget R.STORE_STATE s.dev = 1 → Completes (exec (.storeInitDone bad) s) s fun d =>
    dget R.STORE_STATE d = 3 ∧ dget R.PSRAM_RETIRED d = bad ||| dget R.PSRAM_RETIRED s.dev ∧ LastFault 0x2282 d) ∧
  (∀ (bad : Nat) (s : State), bad < 2 ^ 32 → dget R.STORE_STATE s.dev ≠ 1 → exec (.storeInitDone bad) s = .next s)

/-- An arming request is accepted (R236, R495, R496). -/
def ArmingBegins (k : Nat) (a d : Dev) : Prop :=
  dget R.ARRAY_STATE d = 1 ∧ dget R.CURRENT_CONTEXT d = k ∧ dget (R.SLOT_STATE k) d = 3 ∧
  dget R.COMPILED_LATENCY d = (loadedOf a k).lc ∧ d.grid = { a.grid with reqAt := a.now, stopReq := false } ∧ d.lnk.barEdge = none ∧
  d.time.restep = false

/-- The entries that an accepted arming request writes beside the device ring's. -/
def armKeys (k : Nat) : List Nat :=
  [R.ARRAY_STATE.key, R.CURRENT_CONTEXT.key, (R.SLOT_STATE k).key, R.COMPILED_LATENCY.key, R.AC_PERIOD.key, R.FALLBACK_HELD.key]

/-- ARM under every condition of Table 21.3 makes the array ARMING with the slot that ARM_CONTEXT names; the device ring is as it is known
by then (links that trained late join, a membership that has stood for three rounds forms, and without a joined link it is a ring of one, log
entry 138), and in a ring the device waits at
the barrier, beside the members whose WAITING still holds (log entry 137); a pending re-step is dropped and reported. Otherwise ARM is
refused, and with a reference more than 100 ppm off, reported. STOP ends an arming that has not taken its edge at once, with a pending
switch dropped and a pause ended as Table 9.6 has it; while the array runs it is taken at the next growth ring; on a stopped array,
and one whose stop is ending, nothing happens. The loader may do neither. -/
def Obligations.ArmAndStop : Prop :=
  (∀ (c k pos : Nat) (e : Dev) (s : State), Asks c s.dev → c ≠ 1 → mayArm s.dev = true → (refPpm s.dev).natAbs ≤ 100 → k = dget R.ARM_CONTEXT s.dev →
    k < 4 → e = linksAtArm s.dev → pos = dget R.RING_POSITION e →
    (atBarrier e = false → Completes (exec (.arm c) s) s fun d =>
      ArmingBegins k s.dev d ∧ (∀ p, linkOf d p = linkOf e p) ∧ d.lnk.waiting = s.dev.lnk.waiting ∧
      SameEntriesBut (armKeys k ++ reportKeys) e d ∧ (s.dev.time.restep = true → LastFault 0x0483 d) ∧
      (s.dev.time.restep = false → SameEntriesBut (armKeys k) e d) ∧ ChangesOnly [.dict, .grid, .lnk, .ctx, .time, .host, .flt] (asked c s.dev) d) ∧
    (atBarrier e = true → Completes (exec (.arm c) s) s fun d =>
      ArmingBegins k s.dev d ∧ dget R.BARRIER_STATE d = 1 ∧
      (∀ l, l = pos :: (if ownRole e = 0 then [] else [2000 + ownRole e]) →
        d.lnk.waiting = l.map (fun m => (m, s.dev.now)) ++ s.dev.lnk.waiting.filter (fun w => (waits s.dev).contains w.1 && !l.contains w.1)) ∧
      (∀ p, p < 3 → FlitSent p 4 [0, 2 * ownRole e, pos, ringSize e, 0, 0] e d) ∧
      SameEntriesBut (R.BARRIER_STATE.key :: armKeys k ++ reportKeys) e d ∧
      ChangesOnly [.dict, .grid, .lnk, .ctx, .time, .host, .flt] (asked c s.dev) d)) ∧
  (∀ (s : State), (linkOf s.dev 0).late = false → (linkOf s.dev 1).late = false →
    (ringJoined s.dev = false → dget R.RING_SIZE (linksAtArm s.dev) = 1 ∧ dget R.RING_POSITION (linksAtArm s.dev) = 0 ∧
      dget R.DEVICE_RING_STATE (linksAtArm s.dev) = 0 ∧ (linksAtArm s.dev).lnk = { s.dev.lnk with size := 1 }) ∧
    (ringJoined s.dev = true → s.dev.lnk.stable < 3 → linksAtArm s.dev = s.dev) ∧
    (ringJoined s.dev = true → 3 ≤ s.dev.lnk.stable →
      (∀ r, arrange s.dev.lnk.found s.dev.lnk.closed = .error r →
        dget R.DEVICE_RING_STATE (linksAtArm s.dev) = 4 ∧ dget R.RING_REFUSE_REASON (linksAtArm s.dev) = r ∧ dget R.RING_SIZE (linksAtArm s.dev) = 1) ∧
      ∀ (l : List (Nat × Nat)) (ps : List Nat), arrange s.dev.lnk.found s.dev.lnk.closed = .ok (l, ps) →
        dget R.DEVICE_RING_STATE (linksAtArm s.dev) = (if s.dev.lnk.closed then 2 else 3) ∧ dget R.RING_SIZE (linksAtArm s.dev) = l.length)) ∧
  (∀ (c : Nat) (s : State), Asks c s.dev → c ≠ 1 → mayArm s.dev = false → Completes (exec (.arm c) s) s (TurnedAway c 0xA00B s.dev)) ∧
  (∀ (c : Nat) (s : State), Asks c s.dev → c ≠ 1 → mayArm s.dev = true → 100 < (refPpm s.dev).natAbs →
    Completes (exec (.arm c) s) s fun d =>
      LastFault 0x1183 d ∧ arrayState d = 0 ∧ SameEntriesBut reportKeys s.dev d ∧
      (c = 0 → d.ctl.lastAbort % 2 ^ 16 = 0xA00B) ∧ (c ≠ 0 → tget 0 d.ctl.aborts c = 0xA00B) ∧ ChangesOnly [.dict, .host, .flt, .ctl] s.dev d) ∧
  (∀ (s : State), Asks 1 s.dev → Completes (exec (.arm 1) s) s (TurnedAway 1 0xA011 s.dev) ∧
    Completes (exec (.stop 1) s) s (TurnedAway 1 0xA011 s.dev)) ∧
  (∀ (c : Nat) (s : State), Asks c s.dev → c ≠ 1 →
    (arrayState s.dev = 1 → dget R.CURRENT_CONTEXT s.dev < 4 → Completes (exec (.stop c) s) s fun d =>
      arrayState d = 0 ∧ dget R.BARRIER_STATE d = 0 ∧ dget (R.SLOT_STATE (dget R.CURRENT_CONTEXT s.dev)) d = 2 ∧ d.grid = s.dev.grid ∧
      pendingSwitch d = none ∧ ((pendingSwitch s.dev).isSome = true → LastFault 0x0202 d) ∧
      dget R.PAUSE_STATE d = (if dget R.PAUSE_STATE s.dev = 1 then 0
        else if dget R.PAUSE_STATE s.dev = 4 ∨ dget R.PAUSE_STATE s.dev = 5 then 3 else dget R.PAUSE_STATE s.dev) ∧
      d.lnk = { s.dev.lnk with waiting := s.dev.lnk.waiting.filter (fun w => decide (w.1 ≠ dget R.RING_POSITION s.dev)), barEdge := none } ∧
      (dget R.ENC_STATE s.dev ≠ 3 → ChangesOnly [.dict, .lnk, .host, .flt] (asked c s.dev) d) ∧
      (dget R.ENC_STATE s.dev = 3 → d.enc.toCopy = encCores s.dev ∧ ∀ x ∈ encCores s.dev, (coreOf d x).ovlFrom = some 0)) ∧
    (running s.dev = true → Completes (exec (.stop c) s) s fun d =>
      d.grid = { s.dev.grid with stopReq := true } ∧ ChangesOnly [.grid] (asked c s.dev) d) ∧
    (arrayState s.dev = 0 ∨ ending s.dev = true → Completes (exec (.stop c) s) s fun d => ChangesOnly [] (asked c s.dev) d))

/-- TEST_EN rising saves every setting and every staged group once the hub is up, in RUN at once, whatever transition was in progress; falling brings the saved values
back, drops the save, and gives the lines their mode at the next edge, but a line that is at its safe level goes to it at once (log
entry 139). An edge to the level that stands changes nothing. -/
def Obligations.TestPin : Prop :=
  (∀ (s : State), s.dev.pins.testEn = true → exec .testEnRise s = .next s) ∧
  (∀ (s : State), s.dev.pins.testEn = false → s.dev.sys.step < 3 → Completes (exec .testEnRise s) s fun d =>
    d.pins = { s.dev.pins with testEn := true } ∧ ChangesOnly [.pins] s.dev d) ∧
  (∀ (s : State), s.dev.pins.testEn = false → 3 ≤ s.dev.sys.step → powerState s.dev = 0 → dget R.POWER_TRANSITION s.dev < 2 →
    Completes (exec .testEnRise s) s fun d =>
      d.pins = { s.dev.pins with testEn := true } ∧ ChangesOnly [.pins, .sys] s.dev d ∧
      (∃ v g, d.sys = { s.dev.sys with saved := some (v, g) } ∧
        (∀ k, isSetting k = true → ∀ n, tget n v k = tget n s.dev.dict k) ∧ (∀ k, isSetting k = false → ∀ n, tget n v k = n) ∧
        (∀ e, e ∈ g ↔ e ∈ s.dev.ctl.groups ∧ e.2.st = 1))) ∧
  (∀ (s : State), s.dev.pins.testEn = false → s.dev.sys.step = 5 → powerState s.dev ≠ 0 → dget R.POWER_TRANSITION s.dev = 0 →
    dget R.POWER_PENDING s.dev = 0xFF → Completes (exec .testEnRise s) s fun d =>
      d.pins.testEn = true ∧ powerState d = 0 ∧ dget R.POWER_TRANSITION d = 0 ∧ d.sys.saved.isSome = true) ∧
  (∀ (s : State), s.dev.pins.testEn = false → 3 ≤ s.dev.sys.step → dget R.POWER_TRANSITION s.dev = 2 ∨ dget R.POWER_TRANSITION s.dev = 3 →
    Completes (exec .testEnRise s) s fun d =>
      d.pins.testEn = true ∧ powerState d = 0 ∧ dget R.POWER_TRANSITION d = 0 ∧ d.sys.saved.isSome = true) ∧
  (∀ (s : State), s.dev.pins.testEn = false → exec .testEnFall s = .next s) ∧
  (∀ (s : State), s.dev.pins.testEn = true → s.dev.sys.saved = none → Completes (exec .testEnFall s) s fun d =>
    d.pins = { s.dev.pins with testEn := false } ∧ d.trig = { s.dev.trig with pulseEnd := [] } ∧
    (running s.dev = false → dget R.VLINE_STATE d = safeLines s.dev) ∧
    (running s.dev = true → ∀ k, k < 32 → bit (dget R.VLINE_STATE d) k =
      if safeSince s.dev k then safeLevel s.dev k else bit (dget R.VLINE_TEST_DRIVE s.dev) k) ∧
    dget R.TDC_CAL_STATE d = 0 ∧ d.pll = { s.dev.pll with calDue := 0 } ∧ (∀ l, (laneOf d l).adapt = 0) ∧
    SameEntriesBut [R.VLINE_STATE.key, R.TDC_CAL_STATE.key] s.dev d ∧ ChangesOnly [.pins, .dict, .trig, .pll, .lanes] s.dev d) ∧
  (∀ (vals : Tab Nat) (gs : Tab Grp) (s : State), s.dev.pins.testEn = true → s.dev.sys.saved = some (vals, gs) →
    Completes (exec .testEnFall s) s fun d =>
      d.pins.testEn = false ∧ d.sys.saved = none ∧ (∀ k, isSetting k = true → dget (regOf k) d = tget (defaultOf k) vals k) ∧
      (∀ g, g ∈ d.ctl.groups → g.2.st = 1 → g ∈ gs)) ∧
  (∀ (v x : Nat) (s : State), s.dev.pins.testEn = true →
    s.dev.sys.saved = some (tset R.STORE_LOW_WATER.dflt [] R.STORE_LOW_WATER.key v, []) → s.dev.dict = tset R.STORE_LOW_WATER.dflt [] R.STORE_LOW_WATER.key x →
    Completes (exec .testEnFall s) s fun d => dget R.STORE_LOW_WATER d = v ∧ d.sys = { s.dev.sys with saved := none } ∧
      ChangesOnly [.pins, .dict, .trig, .ctl, .sys, .pll, .lanes] s.dev d)

/-- Channel c's chain in frame n is bypassed: both biquads, FIR and baseline restorer off (R83). -/
def ChainBypassed (c n : Nat) (d : Dev) : Prop :=
  condGet d n (R.FILTER_ENABLE (condGet d n (R.CH_PROFILE c))) % 8 = 0 ∧ condGet d n (R.BLR_MODE (condGet d n (R.CH_PROFILE c))) = 0

/-- The entries that a sample tick may write. -/
def sampleKeys : List Nat :=
  (List.range 1024).flatMap (fun c => [(R.COND_SAT c).key, (R.FLAG_COUNT c).key]) ++ (List.range 64).map (fun l => (R.LANE_MARGIN l).key)

/-- The next sample tick of the frame under way moves the time to it and takes one sample on every channel that has one: with its chain
bypassed a delivered channel's output is its unpacked input, an absent channel takes the conditioned value 0, and a paused frame's sample
enters the fingerprint alone. A release margin below LANE_MARGIN becomes it. Nothing happens while the array does not run, before frame 0,
or with every tick of the frame released. -/
def Obligations.SampleTicks : Prop :=
  (∀ (xs ms : List (Nat × Nat)) (n o : Nat) (cs : List Nat) (s : State), (∀ x ∈ xs, x.1 < 1024 ∧ x.2 < 65536) →
    (∀ m ∈ ms, m.1 < 64 ∧ 4 ≤ m.2 ∧ m.2 ≤ 480) → running s.dev = true → s.dev.grid.nextB = n + 1 → nextTick s.dev n = some (o, cs) →
    Completes (exec (.sampleTick xs ms) s) s fun d =>
      d.now = max (bAt s.dev n + o) s.dev.now ∧
      (∀ c, c ∈ cs → delivered s.dev c n = true → (frameOf s.dev n).paused = false → tickRate s.dev c n ≤ 24 → ChainBypassed c n s.dev →
        condGet s.dev n (R.CH_PROFILE c) < 64 →
        let u := unpack (portOf s.dev (c / 64)) (((xs.filter (fun x => decide (x.1 = c))).map Prod.snd).getD 0 0)
        (chanOf d c).rawIdx = (chanOf s.dev c).rawIdx + 1 ∧ (chanOf d c).raw = unsgn 16 u :: (chanOf s.dev c).raw ∧
        (chanOf d c).outs = u :: (chanOf s.dev c).outs ∧ (chanOf d c).outIdx = (chanOf s.dev c).outIdx + 1) ∧
      (∀ c, c ∈ cs → delivered s.dev c n = true → (frameOf s.dev n).paused = true → tickRate s.dev c n ≤ 24 →
        (chanOf d c).rawIdx = (chanOf s.dev c).rawIdx + 1 ∧ (chanOf d c).outs = (chanOf s.dev c).outs ∧
        (chanOf d c).raw = unsgn 16 (unpack (portOf s.dev (c / 64)) (((xs.filter (fun x => decide (x.1 = c))).map Prod.snd).getD 0 0)) ::
          (chanOf s.dev c).raw) ∧
      (∀ c, c ∉ cs → chanOf d c = chanOf s.dev c) ∧
      (∀ l m, ms = [(l, m)] → dget (R.LANE_MARGIN l) d = if (m : Int) < sgn 16 (dget (R.LANE_MARGIN l) s.dev) then m else dget (R.LANE_MARGIN l) s.dev) ∧
      SameEntriesBut sampleKeys s.dev d ∧ ChangesOnly [.now, .time, .dict, .chans, .cores, .undef, .freeCtr] s.dev d) ∧
  (∀ (n o c : Nat) (s : State), running s.dev = true → s.dev.grid.nextB = n + 1 → nextTick s.dev n = some (o, [c]) →
    delivered s.dev c n = false → tickRate s.dev c n ≤ 24 → decim s.dev c n = 1 → Completes (exec (.sampleTick [] []) s) s fun d =>
      (chanOf d c).rawIdx = (chanOf s.dev c).rawIdx + 1 ∧ (chanOf d c).outs = 0 :: (chanOf s.dev c).outs ∧
      (chanOf d c).raw = (chanOf s.dev c).raw ∧ SameEntriesBut [] s.dev d) ∧
  (∀ (xs ms : List (Nat × Nat)) (s : State), (∀ x ∈ xs, x.1 < 1024 ∧ x.2 < 65536) → (∀ m ∈ ms, m.1 < 64 ∧ 4 ≤ m.2 ∧ m.2 ≤ 480) →
    running s.dev = false ∨ s.dev.grid.nextB = 0 ∨ nextTick s.dev (s.dev.grid.nextB - 1) = none →
    exec (.sampleTick xs ms) s = .next s)

/-- A step on a queue with a command c at the front is c's effect on the state with the rest of the queue. That commands wait in a queue,
first in, first out, is the model's form, not a rule of the spec. -/
def Obligations.StepRunsFront : Prop :=
  ∀ (c : Instr) (rest : List Instr) (s : State), step { s with pending := c :: rest } = exec c { s with pending := rest }

/-- The commands that write host memory: a record ring's write, a stream segment, and a transfer's copies. -/
def writesHost : Instr → Bool
  | .recordWrite _ => true
  | .streamSegment .. => true
  | .descCopy .. => true
  | .descCopyRelease .. => true
  | _ => false

/-- No command adds to the queue or takes from it; host memory changes only in a record's write, a stream segment and a transfer's copy.
With no command waiting, one array cycle passes and nothing else happens: this last is the model's choice (log entry 5). -/
def Obligations.QueueAndHostMemory : Prop :=
  (∀ (c : Instr) (s t : State), exec c s = .next t → t.pending = s.pending ∧ (writesHost c = false → t.mem = s.mem)) ∧
  (∀ (s : State), s.pending = [] → ∃ d, step s = .next { s with dev := d } ∧ d.now = s.dev.now + 1 ∧ ChangesOnly [.now, .time] s.dev d)

/-- A command whose operands are in range answers a next state in every state; one with an operand that no part of the device has is
refused as malformed; no command faults. What a malformed command does is the model's choice (log entry 14). -/
def Obligations.CommandsAnswer : Prop :=
  ∀ (c : Instr) (s : State), (c.wf = true → ∃ t, exec c s = .next t) ∧ (c.wf = false → exec c s = .refused .malformed) ∧
    ∀ f, exec c s ≠ .fault f

/-- At reset the block has written no host memory, and no command waits; that memory has the canonical form. -/
def Obligations.ResetMemory : Prop :=
  State.reset.mem = [] ∧ State.reset.pending = [] ∧ Memory.wf State.reset.mem = true

/-- From every state whose host memory has the canonical form, addresses strictly rising, each step that answers a next state leaves host
memory in that form. -/
def Obligations.MemoryKeepsItsForm : Prop :=
  ∀ (s t : State), Memory.wf s.mem = true → step s = .next t → Memory.wf t.mem = true

/-- The block as it is at reset: the state at reset, or what an assertion of POR_N leaves (R488). -/
def AtReset (d : Dev) : Prop := d = State.reset.dev ∨ ∃ s : State, exec .porNAssert s = .next { s with dev := d }

/-- At reset STORE_STATE is OFF, every group is OFF, every channel is OFF and STOPPED, every counter of Table 12.10 reads 0, and every
capture slot has generation 1. -/
def Obligations.ResetStore : Prop :=
  ∀ d, AtReset d →
    dget R.STORE_STATE d = 0 ∧ (∀ g, g < 16 → dget (R.GROUP_MODE g) d = 0) ∧
    (∀ n, n < 16 → dget (R.DMA_KIND n) d = 0 ∧ dget (R.CHANNEL_STATE n) d = 0) ∧
    (∀ r ∈ [R.CAPTURES_HELD, R.CAPTURES_COMPLETE, R.CAPTURES_TRUNCATED, R.CAPTURES_SHED, R.REFRESH_COLLISIONS, R.ELASTIC_MAX, R.PSRAM_RETRIES],
      dget r d = 0) ∧
    (∀ g, g < 16 → dget (R.GROUP_CAPTURES g) d = 0 ∧ dget (R.GROUP_SHED g) d = 0 ∧ dget (R.GROUP_MARKS_DROPPED g) d = 0 ∧
      dget (R.GROUP_OFF_HITS g) d = 0) ∧
    (∀ n, n < 16 → dget (R.BYTES_MOVED n) d = 0 ∧ dget (R.LOST_SEGMENTS n) d = 0 ∧ dget (R.DESC_CONSUMER n) d = 0) ∧
    ∀ k, k < 4096 → tget 1 d.store.gens k = 1

/-- At reset REVIEW_ENABLE is 1, both clusters are IDLE with empty queues and caches and no job, no network is loaded, every
GROUP_REVIEW_NET is 0xFF, and every counter of Table 13.6 reads 0. -/
def Obligations.ResetReview : Prop :=
  ∀ d, AtReset d →
    dget R.REVIEW_ENABLE d = 1 ∧
    (∀ c, c < 2 → dget (R.CLUSTER_STATE c) d = 0 ∧ dget (R.CLUSTER_QUEUED c) d = 0 ∧ (clusOf d c).queue = [] ∧ (clusOf d c).job = none ∧
      (clusOf d c).cache = []) ∧
    (∀ n, n < 16 → dget (R.NET_STATE n) d = 0 ∧ dget (R.NET_PAGES n) d = 0 ∧ dget (R.GROUP_REVIEW_NET n) d = 0xFF) ∧
    ∀ r ∈ [R.REVIEW_JOBS_DONE, R.REVIEW_JOBS_AGED, R.REVIEW_JOBS_DROPPED, R.REVIEW_JOBS_REQUEUED, R.REVIEW_PAGE_HITS, R.REVIEW_PAGE_MISSES,
      R.REVIEW_PAGES_USED], dget r d = 0
end

