-- ==== Sys2Proof/Laws/Table.lean ====
section
/-! SUPPORT. What the table operations of Machine/Ops.lean do: read after write, and the canonical form. -/

-- One theorem at a time: the package as one text then stays within its memory.
set_option Elab.async false

namespace Sys2Proof.Machine

variable {α : Type}

@[simp] theorem tget_nil (d : α) (i : Nat) : tget d [] i = d := rfl

theorem tget_cons (d : α) (k i : Nat) (v : α) (t : Tab α) : tget d ((k, v) :: t) i = if k = i then v else tget d t i := rfl

@[simp] theorem tget_terase_same (d : α) (t : Tab α) (i : Nat) : tget d (terase t i) i = d := by
  induction t with
  | nil => rfl
  | cons e t ih =>
    obtain ⟨k, v⟩ := e
    by_cases h : k = i <;> simp [terase, tget_cons, h, ih]

theorem tget_terase_ne (d : α) (t : Tab α) {i j : Nat} (h : i ≠ j) : tget d (terase t i) j = tget d t j := by
  induction t with
  | nil => rfl
  | cons e t ih =>
    obtain ⟨k, v⟩ := e
    by_cases hk : k = i
    · subst hk; simp [terase, tget_cons, h, ih]
    · simp [terase, tget_cons, hk, ih]

theorem tget_tins_ne (d : α) (t : Tab α) {i j : Nat} (v : α) (h : i ≠ j) : tget d (tins i v t) j = tget d t j := by
  induction t with
  | nil => simp [tins, tget_cons, h]
  | cons e t ih =>
    obtain ⟨k, w⟩ := e
    by_cases hk : i < k <;> simp [tins, tget_cons, hk, h, ih]

theorem tget_tins_terase (d : α) (t : Tab α) (i : Nat) (v : α) : tget d (tins i v (terase t i)) i = v := by
  induction t with
  | nil => simp [tins, terase, tget_cons]
  | cons e t ih =>
    obtain ⟨k, w⟩ := e
    by_cases hk : k = i
    · simp [terase, hk, ih]
    · by_cases h2 : i < k <;> simp [terase, hk, tins, h2, tget_cons, ih]

variable [DecidableEq α]

/-- Reading the number just written gives the value. -/
@[simp] theorem tget_tset_same (d : α) (t : Tab α) (i : Nat) (v : α) : tget d (tset d t i v) i = v := by
  by_cases h : v = d
  · simp [tset, h]
  · simp [tset, h, tget_tins_terase]

/-- A write leaves every other number alone. -/
theorem tget_tset_ne (d e : α) (t : Tab α) {i j : Nat} (v : α) (h : i ≠ j) : tget e (tset d t i v) j = tget e t j := by
  by_cases hv : v = d
  · simp [tset, hv, tget_terase_ne _ _ h]
  · simp [tset, hv, tget_tins_ne _ _ _ h, tget_terase_ne _ _ h]

theorem tget_tset (d : α) (t : Tab α) (i j : Nat) (v : α) : tget d (tset d t i v) j = if i = j then v else tget d t j := by
  by_cases h : i = j
  · subst h; simp
  · simp [h, tget_tset_ne _ _ _ _ h]

omit [DecidableEq α] in
theorem tabAbove_terase {t : Tab α} {n : Nat} (i : Nat) (h : tabAbove n t = true) : tabAbove n (terase t i) = true := by
  induction t with
  | nil => rfl
  | cons e t ih =>
    obtain ⟨k, v⟩ := e
    simp only [tabAbove, Bool.and_eq_true, decide_eq_true_eq] at h
    by_cases hk : k = i <;> simp [terase, hk, tabAbove, h.1, ih h.2]

omit [DecidableEq α] in
theorem tabAbove_tins {t : Tab α} {n i : Nat} {v : α} (h : tabAbove n t = true) (hi : n < i) : tabAbove n (tins i v t) = true := by
  induction t with
  | nil => simp [tins, tabAbove, hi]
  | cons e t ih =>
    obtain ⟨k, w⟩ := e
    simp only [tabAbove, Bool.and_eq_true, decide_eq_true_eq] at h
    by_cases hk : i < k <;> simp [tins, hk, tabAbove, h, hi, ih h.2]

omit [DecidableEq α] in
theorem tabAbove_lower {t : Tab α} {m n : Nat} (h : tabAbove n t = true) (hm : m ≤ n) : tabAbove m t = true := by
  induction t with
  | nil => rfl
  | cons e t ih =>
    obtain ⟨k, w⟩ := e
    simp only [tabAbove, Bool.and_eq_true, decide_eq_true_eq] at h ⊢
    exact ⟨by omega, ih h.2⟩

end Sys2Proof.Machine
end

