-- ==== Sys2Proof/Laws/Memory.lean ====
section
/-! SUPPORT. Host memory as the block has written it: read after write, and every operation keeps the canonical form. -/

-- One theorem at a time: the package as one text then stays within its memory.
set_option Elab.async false

namespace Sys2Proof.Machine

theorem memGet_cons (k : Nat) (b : Byte) (m : List Host.Cell) (a : Nat) :
    memGet ((k, b) :: m) a = if k = a then some b else memGet m a := rfl

theorem memGet_terase (m : List Host.Cell) (i a : Nat) : memGet (terase m i) a = if i = a then none else memGet m a := by
  induction m with
  | nil => simp [terase, memGet]
  | cons e m ih =>
    obtain ⟨k, b⟩ := e
    by_cases hk : k = i
    · subst hk; simp only [terase, if_true, ih, memGet_cons]; split <;> simp [*]
    · simp only [terase, hk, if_false, ih, memGet_cons]
      by_cases hi : i = a
      · subst hi; simp [hk]
      · simp [hi]

theorem memGet_tins (m : List Host.Cell) (i a : Nat) (b : Byte) (h : memGet m i = none) :
    memGet (tins i b m) a = if i = a then some b else memGet m a := by
  induction m with
  | nil => simp [tins, memGet]
  | cons e m ih =>
    obtain ⟨k, w⟩ := e
    simp only [memGet_cons] at h
    by_cases hk : k = i
    · simp [hk] at h
    · simp only [hk, if_false] at h
      by_cases h2 : i < k
      · simp [tins, h2, memGet_cons]
      · simp only [tins, h2, if_false, memGet_cons, ih h]
        by_cases hi : i = a
        · subst hi; simp [hk]
        · simp [hi]

/-- A byte written reads back; every other address reads as before. -/
theorem memGet_memPut (m : List Host.Cell) (i a : Nat) (b : Byte) : memGet (memPut i b m) a = if i = a then some b else memGet m a := by
  have h : memGet (terase m i) i = none := by simp [memGet_terase]
  simp only [memPut, memGet_tins _ _ _ _ h, memGet_terase]
  split <;> rfl

theorem memGet_memRun_outside (bs : List Nat) (m : List Host.Cell) (a x : Nat) (h : x < a ∨ a + bs.length ≤ x) :
    memGet (memRun m a bs) x = memGet m x := by
  induction bs generalizing m a with
  | nil => rfl
  | cons b bs ih =>
    simp only [List.length_cons] at h
    rw [memRun, ih _ _ (by omega), memGet_memPut, if_neg (by omega)]

theorem memGet_memRun_inside (bs : List Nat) (m : List Host.Cell) (a i : Nat) (h : i < bs.length) :
    memGet (memRun m a bs) (a + i) = some (BitVec.ofNat 8 (bs.getD i 0)) := by
  induction bs generalizing m a i with
  | nil => simp at h
  | cons b bs ih =>
    cases i with
    | zero => rw [memRun, memGet_memRun_outside _ _ _ _ (by omega), memGet_memPut]; simp
    | succ i =>
      have h' : i < bs.length := by simpa using h
      have e : a + (i + 1) = a + 1 + i := by omega
      rw [memRun, e, ih _ _ _ h']; simp

theorem memGet_memWrites_outside (ws : Writes) (m : List Host.Cell) (x : Nat)
    (h : ∀ w ∈ ws, x < w.1 ∨ w.1 + w.2.length ≤ x) : memGet (memWrites m ws) x = memGet m x := by
  induction ws generalizing m with
  | nil => rfl
  | cons w ws ih =>
    rw [memWrites, ih _ (fun v hv => h v (List.mem_cons_of_mem _ hv)), memGet_memRun_outside _ _ _ _ (h w List.mem_cons_self)]

theorem wf_terase {m : List Host.Cell} (i : Nat) (h : Memory.wf m = true) : Memory.wf (terase m i) = true := by
  induction m with
  | nil => rfl
  | cons e m ih =>
    obtain ⟨k, b⟩ := e
    simp only [Memory.wf, Bool.and_eq_true] at h
    by_cases hk : k = i
    · simp [terase, hk, ih h.2]
    · simp [terase, hk, Memory.wf, ih h.2, tabAbove_terase _ h.1]

theorem wf_tins {m : List Host.Cell} {i : Nat} {b : Byte} (h : Memory.wf m = true) (hn : memGet m i = none) :
    Memory.wf (tins i b m) = true := by
  induction m with
  | nil => rfl
  | cons e m ih =>
    obtain ⟨k, w⟩ := e
    simp only [Memory.wf, Bool.and_eq_true] at h
    simp only [memGet_cons] at hn
    by_cases hk : k = i
    · simp [hk] at hn
    · simp only [hk, if_false] at hn
      by_cases h2 : i < k
      · simp [tins, h2, Memory.wf, tabAbove, h, tabAbove_lower h.1 (Nat.le_of_lt h2)]
      · have h3 : k < i := by omega
        simp [tins, h2, Memory.wf, ih h.2 hn, tabAbove_tins h.1 h3]

/-- Every operation on host memory keeps its canonical form. -/
theorem wf_memPut {m : List Host.Cell} (a : Nat) (b : Byte) (h : Memory.wf m = true) : Memory.wf (memPut a b m) = true :=
  wf_tins (wf_terase a h) (by simp [memGet_terase])

theorem wf_memRun (bs : List Nat) {m : List Host.Cell} (a : Nat) (h : Memory.wf m = true) : Memory.wf (memRun m a bs) = true := by
  induction bs generalizing m a with
  | nil => exact h
  | cons b bs ih => exact ih _ (wf_memPut _ _ h)

theorem wf_memWrites (ws : Writes) {m : List Host.Cell} (h : Memory.wf m = true) : Memory.wf (memWrites m ws) = true := by
  induction ws generalizing m with
  | nil => exact h
  | cons w ws ih => exact ih (wf_memRun _ _ h)

/-- What a command that writes no host memory can answer. -/
theorem run_cases {ok : Bool} {f : Dev → Dev} {s : State} {o : Host.Outcome State Fault Refusal} (h : run ok f s = o) :
    (ok = true ∧ o = .next { s with dev := f s.dev }) ∨ (ok = false ∧ o = .refused .malformed) := by
  cases ok <;> simp_all [run]

/-- What a command that may write host memory can answer. -/
theorem runMem_cases {ok : Bool} {f : Dev → Dev × Writes} {s : State} {o : Host.Outcome State Fault Refusal} (h : runMem ok f s = o) :
    (ok = true ∧ o = .next { s with dev := (f s.dev).1, mem := memWrites s.mem (f s.dev).2 }) ∨ (ok = false ∧ o = .refused .malformed) := by
  cases ok <;> simp_all [runMem]

@[simp] theorem run_true (f : Dev → Dev) (s : State) : run true f s = .next { s with dev := f s.dev } := rfl
@[simp] theorem run_false (f : Dev → Dev) (s : State) : run false f s = .refused .malformed := rfl
@[simp] theorem runMem_true (f : Dev → Dev × Writes) (s : State) :
    runMem true f s = .next { s with dev := (f s.dev).1, mem := memWrites s.mem (f s.dev).2 } := rfl
@[simp] theorem runMem_false (f : Dev → Dev × Writes) (s : State) : runMem false f s = .refused .malformed := rfl

theorem reset_memory_wf : Memory.wf State.reset.mem = true := rfl

end Sys2Proof.Machine
end

