-- ==== Sys2Proof/Laws/State.lean ====
section
/-! SUPPORT. What each update of the state leaves as it was, one lemma per field and update, and what it sets. -/

-- One theorem at a time: the package as one text then stays within its memory.
set_option Elab.async false

namespace Sys2Proof.Machine

@[simp] theorem dset_now (r : Reg) (v : Nat) (d : Dev) : (dset r v d).now = d.now := rfl
@[simp] theorem dset_fuses (r : Reg) (v : Nat) (d : Dev) : (dset r v d).fuses = d.fuses := rfl
@[simp] theorem dset_pins (r : Reg) (v : Nat) (d : Dev) : (dset r v d).pins = d.pins := rfl
@[simp] theorem dset_ctl (r : Reg) (v : Nat) (d : Dev) : (dset r v d).ctl = d.ctl := rfl
@[simp] theorem dset_grid (r : Reg) (v : Nat) (d : Dev) : (dset r v d).grid = d.grid := rfl
@[simp] theorem dset_pll (r : Reg) (v : Nat) (d : Dev) : (dset r v d).pll = d.pll := rfl
@[simp] theorem dset_ports (r : Reg) (v : Nat) (d : Dev) : (dset r v d).ports = d.ports := rfl
@[simp] theorem dset_lanes (r : Reg) (v : Nat) (d : Dev) : (dset r v d).lanes = d.lanes := rfl
@[simp] theorem dset_chans (r : Reg) (v : Nat) (d : Dev) : (dset r v d).chans = d.chans := rfl
@[simp] theorem dset_edges (r : Reg) (v : Nat) (d : Dev) : (dset r v d).edges = d.edges := rfl
@[simp] theorem dset_cores (r : Reg) (v : Nat) (d : Dev) : (dset r v d).cores = d.cores := rfl
@[simp] theorem dset_fab (r : Reg) (v : Nat) (d : Dev) : (dset r v d).fab = d.fab := rfl
@[simp] theorem dset_enc (r : Reg) (v : Nat) (d : Dev) : (dset r v d).enc = d.enc := rfl
@[simp] theorem dset_ldr (r : Reg) (v : Nat) (d : Dev) : (dset r v d).ldr = d.ldr := rfl
@[simp] theorem dset_frames (r : Reg) (v : Nat) (d : Dev) : (dset r v d).frames = d.frames := rfl
@[simp] theorem dset_trig (r : Reg) (v : Nat) (d : Dev) : (dset r v d).trig = d.trig := rfl
@[simp] theorem dset_flt (r : Reg) (v : Nat) (d : Dev) : (dset r v d).flt = d.flt := rfl
@[simp] theorem dset_host (r : Reg) (v : Nat) (d : Dev) : (dset r v d).host = d.host := rfl
@[simp] theorem dset_time (r : Reg) (v : Nat) (d : Dev) : (dset r v d).time = d.time := rfl
@[simp] theorem dset_store (r : Reg) (v : Nat) (d : Dev) : (dset r v d).store = d.store := rfl
@[simp] theorem dset_engs (r : Reg) (v : Nat) (d : Dev) : (dset r v d).engs = d.engs := rfl
@[simp] theorem dset_clus (r : Reg) (v : Nat) (d : Dev) : (dset r v d).clus = d.clus := rfl
@[simp] theorem dset_ctx (r : Reg) (v : Nat) (d : Dev) : (dset r v d).ctx = d.ctx := rfl
@[simp] theorem dset_lnk (r : Reg) (v : Nat) (d : Dev) : (dset r v d).lnk = d.lnk := rfl
@[simp] theorem dset_pwr (r : Reg) (v : Nat) (d : Dev) : (dset r v d).pwr = d.pwr := rfl
@[simp] theorem dset_sec (r : Reg) (v : Nat) (d : Dev) : (dset r v d).sec = d.sec := rfl
@[simp] theorem dset_sys (r : Reg) (v : Nat) (d : Dev) : (dset r v d).sys = d.sys := rfl
@[simp] theorem dset_undef (r : Reg) (v : Nat) (d : Dev) : (dset r v d).undef = d.undef := rfl
@[simp] theorem dset_undefNew (r : Reg) (v : Nat) (d : Dev) : (dset r v d).undefNew = d.undefNew := rfl
@[simp] theorem dset_freeCtr (r : Reg) (v : Nat) (d : Dev) : (dset r v d).freeCtr = d.freeCtr := rfl
@[simp] theorem portOf_dset (k : Nat) (r : Reg) (v : Nat) (d : Dev) : portOf (dset r v d) k = portOf d k := rfl
@[simp] theorem laneOf_dset (k : Nat) (r : Reg) (v : Nat) (d : Dev) : laneOf (dset r v d) k = laneOf d k := rfl
@[simp] theorem chanOf_dset (k : Nat) (r : Reg) (v : Nat) (d : Dev) : chanOf (dset r v d) k = chanOf d k := rfl
@[simp] theorem coreOf_dset (k : Nat) (r : Reg) (v : Nat) (d : Dev) : coreOf (dset r v d) k = coreOf d k := rfl
@[simp] theorem frameOf_dset (k : Nat) (r : Reg) (v : Nat) (d : Dev) : frameOf (dset r v d) k = frameOf d k := rfl
@[simp] theorem engOf_dset (k : Nat) (r : Reg) (v : Nat) (d : Dev) : engOf (dset r v d) k = engOf d k := rfl
@[simp] theorem ringOf_dset (k : Nat) (r : Reg) (v : Nat) (d : Dev) : ringOf (dset r v d) k = ringOf d k := rfl
@[simp] theorem linkOf_dset (k : Nat) (r : Reg) (v : Nat) (d : Dev) : linkOf (dset r v d) k = linkOf d k := rfl

@[simp] theorem setFrame_now (n : Nat) (x : Frame) (d : Dev) : (setFrame n x d).now = d.now := rfl
@[simp] theorem setFrame_dict (n : Nat) (x : Frame) (d : Dev) : (setFrame n x d).dict = d.dict := rfl
@[simp] theorem setFrame_fuses (n : Nat) (x : Frame) (d : Dev) : (setFrame n x d).fuses = d.fuses := rfl
@[simp] theorem setFrame_pins (n : Nat) (x : Frame) (d : Dev) : (setFrame n x d).pins = d.pins := rfl
@[simp] theorem setFrame_ctl (n : Nat) (x : Frame) (d : Dev) : (setFrame n x d).ctl = d.ctl := rfl
@[simp] theorem setFrame_grid (n : Nat) (x : Frame) (d : Dev) : (setFrame n x d).grid = d.grid := rfl
@[simp] theorem setFrame_pll (n : Nat) (x : Frame) (d : Dev) : (setFrame n x d).pll = d.pll := rfl
@[simp] theorem setFrame_ports (n : Nat) (x : Frame) (d : Dev) : (setFrame n x d).ports = d.ports := rfl
@[simp] theorem setFrame_lanes (n : Nat) (x : Frame) (d : Dev) : (setFrame n x d).lanes = d.lanes := rfl
@[simp] theorem setFrame_chans (n : Nat) (x : Frame) (d : Dev) : (setFrame n x d).chans = d.chans := rfl
@[simp] theorem setFrame_edges (n : Nat) (x : Frame) (d : Dev) : (setFrame n x d).edges = d.edges := rfl
@[simp] theorem setFrame_cores (n : Nat) (x : Frame) (d : Dev) : (setFrame n x d).cores = d.cores := rfl
@[simp] theorem setFrame_fab (n : Nat) (x : Frame) (d : Dev) : (setFrame n x d).fab = d.fab := rfl
@[simp] theorem setFrame_enc (n : Nat) (x : Frame) (d : Dev) : (setFrame n x d).enc = d.enc := rfl
@[simp] theorem setFrame_ldr (n : Nat) (x : Frame) (d : Dev) : (setFrame n x d).ldr = d.ldr := rfl
@[simp] theorem setFrame_trig (n : Nat) (x : Frame) (d : Dev) : (setFrame n x d).trig = d.trig := rfl
@[simp] theorem setFrame_flt (n : Nat) (x : Frame) (d : Dev) : (setFrame n x d).flt = d.flt := rfl
@[simp] theorem setFrame_host (n : Nat) (x : Frame) (d : Dev) : (setFrame n x d).host = d.host := rfl
@[simp] theorem setFrame_time (n : Nat) (x : Frame) (d : Dev) : (setFrame n x d).time = d.time := rfl
@[simp] theorem setFrame_store (n : Nat) (x : Frame) (d : Dev) : (setFrame n x d).store = d.store := rfl
@[simp] theorem setFrame_engs (n : Nat) (x : Frame) (d : Dev) : (setFrame n x d).engs = d.engs := rfl
@[simp] theorem setFrame_clus (n : Nat) (x : Frame) (d : Dev) : (setFrame n x d).clus = d.clus := rfl
@[simp] theorem setFrame_ctx (n : Nat) (x : Frame) (d : Dev) : (setFrame n x d).ctx = d.ctx := rfl
@[simp] theorem setFrame_lnk (n : Nat) (x : Frame) (d : Dev) : (setFrame n x d).lnk = d.lnk := rfl
@[simp] theorem setFrame_pwr (n : Nat) (x : Frame) (d : Dev) : (setFrame n x d).pwr = d.pwr := rfl
@[simp] theorem setFrame_sec (n : Nat) (x : Frame) (d : Dev) : (setFrame n x d).sec = d.sec := rfl
@[simp] theorem setFrame_sys (n : Nat) (x : Frame) (d : Dev) : (setFrame n x d).sys = d.sys := rfl
@[simp] theorem setFrame_undef (n : Nat) (x : Frame) (d : Dev) : (setFrame n x d).undef = d.undef := rfl
@[simp] theorem setFrame_undefNew (n : Nat) (x : Frame) (d : Dev) : (setFrame n x d).undefNew = d.undefNew := rfl
@[simp] theorem setFrame_freeCtr (n : Nat) (x : Frame) (d : Dev) : (setFrame n x d).freeCtr = d.freeCtr := rfl
@[simp] theorem dget_setFrame (q : Reg) (n : Nat) (x : Frame) (d : Dev) : dget q (setFrame n x d) = dget q d := rfl
@[simp] theorem portOf_setFrame (k : Nat) (n : Nat) (x : Frame) (d : Dev) : portOf (setFrame n x d) k = portOf d k := rfl
@[simp] theorem laneOf_setFrame (k : Nat) (n : Nat) (x : Frame) (d : Dev) : laneOf (setFrame n x d) k = laneOf d k := rfl
@[simp] theorem chanOf_setFrame (k : Nat) (n : Nat) (x : Frame) (d : Dev) : chanOf (setFrame n x d) k = chanOf d k := rfl
@[simp] theorem coreOf_setFrame (k : Nat) (n : Nat) (x : Frame) (d : Dev) : coreOf (setFrame n x d) k = coreOf d k := rfl
@[simp] theorem engOf_setFrame (k : Nat) (n : Nat) (x : Frame) (d : Dev) : engOf (setFrame n x d) k = engOf d k := rfl
@[simp] theorem ringOf_setFrame (k : Nat) (n : Nat) (x : Frame) (d : Dev) : ringOf (setFrame n x d) k = ringOf d k := rfl
@[simp] theorem linkOf_setFrame (k : Nat) (n : Nat) (x : Frame) (d : Dev) : linkOf (setFrame n x d) k = linkOf d k := rfl

@[simp] theorem modFrame_now (n : Nat) (g : Frame → Frame) (d : Dev) : (modFrame n g d).now = d.now := rfl
@[simp] theorem modFrame_dict (n : Nat) (g : Frame → Frame) (d : Dev) : (modFrame n g d).dict = d.dict := rfl
@[simp] theorem modFrame_fuses (n : Nat) (g : Frame → Frame) (d : Dev) : (modFrame n g d).fuses = d.fuses := rfl
@[simp] theorem modFrame_pins (n : Nat) (g : Frame → Frame) (d : Dev) : (modFrame n g d).pins = d.pins := rfl
@[simp] theorem modFrame_ctl (n : Nat) (g : Frame → Frame) (d : Dev) : (modFrame n g d).ctl = d.ctl := rfl
@[simp] theorem modFrame_grid (n : Nat) (g : Frame → Frame) (d : Dev) : (modFrame n g d).grid = d.grid := rfl
@[simp] theorem modFrame_pll (n : Nat) (g : Frame → Frame) (d : Dev) : (modFrame n g d).pll = d.pll := rfl
@[simp] theorem modFrame_ports (n : Nat) (g : Frame → Frame) (d : Dev) : (modFrame n g d).ports = d.ports := rfl
@[simp] theorem modFrame_lanes (n : Nat) (g : Frame → Frame) (d : Dev) : (modFrame n g d).lanes = d.lanes := rfl
@[simp] theorem modFrame_chans (n : Nat) (g : Frame → Frame) (d : Dev) : (modFrame n g d).chans = d.chans := rfl
@[simp] theorem modFrame_edges (n : Nat) (g : Frame → Frame) (d : Dev) : (modFrame n g d).edges = d.edges := rfl
@[simp] theorem modFrame_cores (n : Nat) (g : Frame → Frame) (d : Dev) : (modFrame n g d).cores = d.cores := rfl
@[simp] theorem modFrame_fab (n : Nat) (g : Frame → Frame) (d : Dev) : (modFrame n g d).fab = d.fab := rfl
@[simp] theorem modFrame_enc (n : Nat) (g : Frame → Frame) (d : Dev) : (modFrame n g d).enc = d.enc := rfl
@[simp] theorem modFrame_ldr (n : Nat) (g : Frame → Frame) (d : Dev) : (modFrame n g d).ldr = d.ldr := rfl
@[simp] theorem modFrame_trig (n : Nat) (g : Frame → Frame) (d : Dev) : (modFrame n g d).trig = d.trig := rfl
@[simp] theorem modFrame_flt (n : Nat) (g : Frame → Frame) (d : Dev) : (modFrame n g d).flt = d.flt := rfl
@[simp] theorem modFrame_host (n : Nat) (g : Frame → Frame) (d : Dev) : (modFrame n g d).host = d.host := rfl
@[simp] theorem modFrame_time (n : Nat) (g : Frame → Frame) (d : Dev) : (modFrame n g d).time = d.time := rfl
@[simp] theorem modFrame_store (n : Nat) (g : Frame → Frame) (d : Dev) : (modFrame n g d).store = d.store := rfl
@[simp] theorem modFrame_engs (n : Nat) (g : Frame → Frame) (d : Dev) : (modFrame n g d).engs = d.engs := rfl
@[simp] theorem modFrame_clus (n : Nat) (g : Frame → Frame) (d : Dev) : (modFrame n g d).clus = d.clus := rfl
@[simp] theorem modFrame_ctx (n : Nat) (g : Frame → Frame) (d : Dev) : (modFrame n g d).ctx = d.ctx := rfl
@[simp] theorem modFrame_lnk (n : Nat) (g : Frame → Frame) (d : Dev) : (modFrame n g d).lnk = d.lnk := rfl
@[simp] theorem modFrame_pwr (n : Nat) (g : Frame → Frame) (d : Dev) : (modFrame n g d).pwr = d.pwr := rfl
@[simp] theorem modFrame_sec (n : Nat) (g : Frame → Frame) (d : Dev) : (modFrame n g d).sec = d.sec := rfl
@[simp] theorem modFrame_sys (n : Nat) (g : Frame → Frame) (d : Dev) : (modFrame n g d).sys = d.sys := rfl
@[simp] theorem modFrame_undef (n : Nat) (g : Frame → Frame) (d : Dev) : (modFrame n g d).undef = d.undef := rfl
@[simp] theorem modFrame_undefNew (n : Nat) (g : Frame → Frame) (d : Dev) : (modFrame n g d).undefNew = d.undefNew := rfl
@[simp] theorem modFrame_freeCtr (n : Nat) (g : Frame → Frame) (d : Dev) : (modFrame n g d).freeCtr = d.freeCtr := rfl
@[simp] theorem dget_modFrame (q : Reg) (n : Nat) (g : Frame → Frame) (d : Dev) : dget q (modFrame n g d) = dget q d := rfl
@[simp] theorem portOf_modFrame (k : Nat) (n : Nat) (g : Frame → Frame) (d : Dev) : portOf (modFrame n g d) k = portOf d k := rfl
@[simp] theorem laneOf_modFrame (k : Nat) (n : Nat) (g : Frame → Frame) (d : Dev) : laneOf (modFrame n g d) k = laneOf d k := rfl
@[simp] theorem chanOf_modFrame (k : Nat) (n : Nat) (g : Frame → Frame) (d : Dev) : chanOf (modFrame n g d) k = chanOf d k := rfl
@[simp] theorem coreOf_modFrame (k : Nat) (n : Nat) (g : Frame → Frame) (d : Dev) : coreOf (modFrame n g d) k = coreOf d k := rfl
@[simp] theorem engOf_modFrame (k : Nat) (n : Nat) (g : Frame → Frame) (d : Dev) : engOf (modFrame n g d) k = engOf d k := rfl
@[simp] theorem ringOf_modFrame (k : Nat) (n : Nat) (g : Frame → Frame) (d : Dev) : ringOf (modFrame n g d) k = ringOf d k := rfl
@[simp] theorem linkOf_modFrame (k : Nat) (n : Nat) (g : Frame → Frame) (d : Dev) : linkOf (modFrame n g d) k = linkOf d k := rfl

@[simp] theorem setPort_now (n : Nat) (x : Port) (d : Dev) : (setPort n x d).now = d.now := rfl
@[simp] theorem setPort_dict (n : Nat) (x : Port) (d : Dev) : (setPort n x d).dict = d.dict := rfl
@[simp] theorem setPort_fuses (n : Nat) (x : Port) (d : Dev) : (setPort n x d).fuses = d.fuses := rfl
@[simp] theorem setPort_pins (n : Nat) (x : Port) (d : Dev) : (setPort n x d).pins = d.pins := rfl
@[simp] theorem setPort_ctl (n : Nat) (x : Port) (d : Dev) : (setPort n x d).ctl = d.ctl := rfl
@[simp] theorem setPort_grid (n : Nat) (x : Port) (d : Dev) : (setPort n x d).grid = d.grid := rfl
@[simp] theorem setPort_pll (n : Nat) (x : Port) (d : Dev) : (setPort n x d).pll = d.pll := rfl
@[simp] theorem setPort_lanes (n : Nat) (x : Port) (d : Dev) : (setPort n x d).lanes = d.lanes := rfl
@[simp] theorem setPort_chans (n : Nat) (x : Port) (d : Dev) : (setPort n x d).chans = d.chans := rfl
@[simp] theorem setPort_edges (n : Nat) (x : Port) (d : Dev) : (setPort n x d).edges = d.edges := rfl
@[simp] theorem setPort_cores (n : Nat) (x : Port) (d : Dev) : (setPort n x d).cores = d.cores := rfl
@[simp] theorem setPort_fab (n : Nat) (x : Port) (d : Dev) : (setPort n x d).fab = d.fab := rfl
@[simp] theorem setPort_enc (n : Nat) (x : Port) (d : Dev) : (setPort n x d).enc = d.enc := rfl
@[simp] theorem setPort_ldr (n : Nat) (x : Port) (d : Dev) : (setPort n x d).ldr = d.ldr := rfl
@[simp] theorem setPort_frames (n : Nat) (x : Port) (d : Dev) : (setPort n x d).frames = d.frames := rfl
@[simp] theorem setPort_trig (n : Nat) (x : Port) (d : Dev) : (setPort n x d).trig = d.trig := rfl
@[simp] theorem setPort_flt (n : Nat) (x : Port) (d : Dev) : (setPort n x d).flt = d.flt := rfl
@[simp] theorem setPort_host (n : Nat) (x : Port) (d : Dev) : (setPort n x d).host = d.host := rfl
@[simp] theorem setPort_time (n : Nat) (x : Port) (d : Dev) : (setPort n x d).time = d.time := rfl
@[simp] theorem setPort_store (n : Nat) (x : Port) (d : Dev) : (setPort n x d).store = d.store := rfl
@[simp] theorem setPort_engs (n : Nat) (x : Port) (d : Dev) : (setPort n x d).engs = d.engs := rfl
@[simp] theorem setPort_clus (n : Nat) (x : Port) (d : Dev) : (setPort n x d).clus = d.clus := rfl
@[simp] theorem setPort_ctx (n : Nat) (x : Port) (d : Dev) : (setPort n x d).ctx = d.ctx := rfl
@[simp] theorem setPort_lnk (n : Nat) (x : Port) (d : Dev) : (setPort n x d).lnk = d.lnk := rfl
@[simp] theorem setPort_pwr (n : Nat) (x : Port) (d : Dev) : (setPort n x d).pwr = d.pwr := rfl
@[simp] theorem setPort_sec (n : Nat) (x : Port) (d : Dev) : (setPort n x d).sec = d.sec := rfl
@[simp] theorem setPort_sys (n : Nat) (x : Port) (d : Dev) : (setPort n x d).sys = d.sys := rfl
@[simp] theorem setPort_undef (n : Nat) (x : Port) (d : Dev) : (setPort n x d).undef = d.undef := rfl
@[simp] theorem setPort_undefNew (n : Nat) (x : Port) (d : Dev) : (setPort n x d).undefNew = d.undefNew := rfl
@[simp] theorem setPort_freeCtr (n : Nat) (x : Port) (d : Dev) : (setPort n x d).freeCtr = d.freeCtr := rfl
@[simp] theorem dget_setPort (q : Reg) (n : Nat) (x : Port) (d : Dev) : dget q (setPort n x d) = dget q d := rfl
@[simp] theorem laneOf_setPort (k : Nat) (n : Nat) (x : Port) (d : Dev) : laneOf (setPort n x d) k = laneOf d k := rfl
@[simp] theorem chanOf_setPort (k : Nat) (n : Nat) (x : Port) (d : Dev) : chanOf (setPort n x d) k = chanOf d k := rfl
@[simp] theorem coreOf_setPort (k : Nat) (n : Nat) (x : Port) (d : Dev) : coreOf (setPort n x d) k = coreOf d k := rfl
@[simp] theorem frameOf_setPort (k : Nat) (n : Nat) (x : Port) (d : Dev) : frameOf (setPort n x d) k = frameOf d k := rfl
@[simp] theorem engOf_setPort (k : Nat) (n : Nat) (x : Port) (d : Dev) : engOf (setPort n x d) k = engOf d k := rfl
@[simp] theorem ringOf_setPort (k : Nat) (n : Nat) (x : Port) (d : Dev) : ringOf (setPort n x d) k = ringOf d k := rfl
@[simp] theorem linkOf_setPort (k : Nat) (n : Nat) (x : Port) (d : Dev) : linkOf (setPort n x d) k = linkOf d k := rfl

@[simp] theorem modPort_now (n : Nat) (g : Port → Port) (d : Dev) : (modPort n g d).now = d.now := rfl
@[simp] theorem modPort_dict (n : Nat) (g : Port → Port) (d : Dev) : (modPort n g d).dict = d.dict := rfl
@[simp] theorem modPort_fuses (n : Nat) (g : Port → Port) (d : Dev) : (modPort n g d).fuses = d.fuses := rfl
@[simp] theorem modPort_pins (n : Nat) (g : Port → Port) (d : Dev) : (modPort n g d).pins = d.pins := rfl
@[simp] theorem modPort_ctl (n : Nat) (g : Port → Port) (d : Dev) : (modPort n g d).ctl = d.ctl := rfl
@[simp] theorem modPort_grid (n : Nat) (g : Port → Port) (d : Dev) : (modPort n g d).grid = d.grid := rfl
@[simp] theorem modPort_pll (n : Nat) (g : Port → Port) (d : Dev) : (modPort n g d).pll = d.pll := rfl
@[simp] theorem modPort_lanes (n : Nat) (g : Port → Port) (d : Dev) : (modPort n g d).lanes = d.lanes := rfl
@[simp] theorem modPort_chans (n : Nat) (g : Port → Port) (d : Dev) : (modPort n g d).chans = d.chans := rfl
@[simp] theorem modPort_edges (n : Nat) (g : Port → Port) (d : Dev) : (modPort n g d).edges = d.edges := rfl
@[simp] theorem modPort_cores (n : Nat) (g : Port → Port) (d : Dev) : (modPort n g d).cores = d.cores := rfl
@[simp] theorem modPort_fab (n : Nat) (g : Port → Port) (d : Dev) : (modPort n g d).fab = d.fab := rfl
@[simp] theorem modPort_enc (n : Nat) (g : Port → Port) (d : Dev) : (modPort n g d).enc = d.enc := rfl
@[simp] theorem modPort_ldr (n : Nat) (g : Port → Port) (d : Dev) : (modPort n g d).ldr = d.ldr := rfl
@[simp] theorem modPort_frames (n : Nat) (g : Port → Port) (d : Dev) : (modPort n g d).frames = d.frames := rfl
@[simp] theorem modPort_trig (n : Nat) (g : Port → Port) (d : Dev) : (modPort n g d).trig = d.trig := rfl
@[simp] theorem modPort_flt (n : Nat) (g : Port → Port) (d : Dev) : (modPort n g d).flt = d.flt := rfl
@[simp] theorem modPort_host (n : Nat) (g : Port → Port) (d : Dev) : (modPort n g d).host = d.host := rfl
@[simp] theorem modPort_time (n : Nat) (g : Port → Port) (d : Dev) : (modPort n g d).time = d.time := rfl
@[simp] theorem modPort_store (n : Nat) (g : Port → Port) (d : Dev) : (modPort n g d).store = d.store := rfl
@[simp] theorem modPort_engs (n : Nat) (g : Port → Port) (d : Dev) : (modPort n g d).engs = d.engs := rfl
@[simp] theorem modPort_clus (n : Nat) (g : Port → Port) (d : Dev) : (modPort n g d).clus = d.clus := rfl
@[simp] theorem modPort_ctx (n : Nat) (g : Port → Port) (d : Dev) : (modPort n g d).ctx = d.ctx := rfl
@[simp] theorem modPort_lnk (n : Nat) (g : Port → Port) (d : Dev) : (modPort n g d).lnk = d.lnk := rfl
@[simp] theorem modPort_pwr (n : Nat) (g : Port → Port) (d : Dev) : (modPort n g d).pwr = d.pwr := rfl
@[simp] theorem modPort_sec (n : Nat) (g : Port → Port) (d : Dev) : (modPort n g d).sec = d.sec := rfl
@[simp] theorem modPort_sys (n : Nat) (g : Port → Port) (d : Dev) : (modPort n g d).sys = d.sys := rfl
@[simp] theorem modPort_undef (n : Nat) (g : Port → Port) (d : Dev) : (modPort n g d).undef = d.undef := rfl
@[simp] theorem modPort_undefNew (n : Nat) (g : Port → Port) (d : Dev) : (modPort n g d).undefNew = d.undefNew := rfl
@[simp] theorem modPort_freeCtr (n : Nat) (g : Port → Port) (d : Dev) : (modPort n g d).freeCtr = d.freeCtr := rfl
@[simp] theorem dget_modPort (q : Reg) (n : Nat) (g : Port → Port) (d : Dev) : dget q (modPort n g d) = dget q d := rfl
@[simp] theorem laneOf_modPort (k : Nat) (n : Nat) (g : Port → Port) (d : Dev) : laneOf (modPort n g d) k = laneOf d k := rfl
@[simp] theorem chanOf_modPort (k : Nat) (n : Nat) (g : Port → Port) (d : Dev) : chanOf (modPort n g d) k = chanOf d k := rfl
@[simp] theorem coreOf_modPort (k : Nat) (n : Nat) (g : Port → Port) (d : Dev) : coreOf (modPort n g d) k = coreOf d k := rfl
@[simp] theorem frameOf_modPort (k : Nat) (n : Nat) (g : Port → Port) (d : Dev) : frameOf (modPort n g d) k = frameOf d k := rfl
@[simp] theorem engOf_modPort (k : Nat) (n : Nat) (g : Port → Port) (d : Dev) : engOf (modPort n g d) k = engOf d k := rfl
@[simp] theorem ringOf_modPort (k : Nat) (n : Nat) (g : Port → Port) (d : Dev) : ringOf (modPort n g d) k = ringOf d k := rfl
@[simp] theorem linkOf_modPort (k : Nat) (n : Nat) (g : Port → Port) (d : Dev) : linkOf (modPort n g d) k = linkOf d k := rfl

@[simp] theorem setLane_now (n : Nat) (x : Lane) (d : Dev) : (setLane n x d).now = d.now := rfl
@[simp] theorem setLane_dict (n : Nat) (x : Lane) (d : Dev) : (setLane n x d).dict = d.dict := rfl
@[simp] theorem setLane_fuses (n : Nat) (x : Lane) (d : Dev) : (setLane n x d).fuses = d.fuses := rfl
@[simp] theorem setLane_pins (n : Nat) (x : Lane) (d : Dev) : (setLane n x d).pins = d.pins := rfl
@[simp] theorem setLane_ctl (n : Nat) (x : Lane) (d : Dev) : (setLane n x d).ctl = d.ctl := rfl
@[simp] theorem setLane_grid (n : Nat) (x : Lane) (d : Dev) : (setLane n x d).grid = d.grid := rfl
@[simp] theorem setLane_pll (n : Nat) (x : Lane) (d : Dev) : (setLane n x d).pll = d.pll := rfl
@[simp] theorem setLane_ports (n : Nat) (x : Lane) (d : Dev) : (setLane n x d).ports = d.ports := rfl
@[simp] theorem setLane_chans (n : Nat) (x : Lane) (d : Dev) : (setLane n x d).chans = d.chans := rfl
@[simp] theorem setLane_edges (n : Nat) (x : Lane) (d : Dev) : (setLane n x d).edges = d.edges := rfl
@[simp] theorem setLane_cores (n : Nat) (x : Lane) (d : Dev) : (setLane n x d).cores = d.cores := rfl
@[simp] theorem setLane_fab (n : Nat) (x : Lane) (d : Dev) : (setLane n x d).fab = d.fab := rfl
@[simp] theorem setLane_enc (n : Nat) (x : Lane) (d : Dev) : (setLane n x d).enc = d.enc := rfl
@[simp] theorem setLane_ldr (n : Nat) (x : Lane) (d : Dev) : (setLane n x d).ldr = d.ldr := rfl
@[simp] theorem setLane_frames (n : Nat) (x : Lane) (d : Dev) : (setLane n x d).frames = d.frames := rfl
@[simp] theorem setLane_trig (n : Nat) (x : Lane) (d : Dev) : (setLane n x d).trig = d.trig := rfl
@[simp] theorem setLane_flt (n : Nat) (x : Lane) (d : Dev) : (setLane n x d).flt = d.flt := rfl
@[simp] theorem setLane_host (n : Nat) (x : Lane) (d : Dev) : (setLane n x d).host = d.host := rfl
@[simp] theorem setLane_time (n : Nat) (x : Lane) (d : Dev) : (setLane n x d).time = d.time := rfl
@[simp] theorem setLane_store (n : Nat) (x : Lane) (d : Dev) : (setLane n x d).store = d.store := rfl
@[simp] theorem setLane_engs (n : Nat) (x : Lane) (d : Dev) : (setLane n x d).engs = d.engs := rfl
@[simp] theorem setLane_clus (n : Nat) (x : Lane) (d : Dev) : (setLane n x d).clus = d.clus := rfl
@[simp] theorem setLane_ctx (n : Nat) (x : Lane) (d : Dev) : (setLane n x d).ctx = d.ctx := rfl
@[simp] theorem setLane_lnk (n : Nat) (x : Lane) (d : Dev) : (setLane n x d).lnk = d.lnk := rfl
@[simp] theorem setLane_pwr (n : Nat) (x : Lane) (d : Dev) : (setLane n x d).pwr = d.pwr := rfl
@[simp] theorem setLane_sec (n : Nat) (x : Lane) (d : Dev) : (setLane n x d).sec = d.sec := rfl
@[simp] theorem setLane_sys (n : Nat) (x : Lane) (d : Dev) : (setLane n x d).sys = d.sys := rfl
@[simp] theorem setLane_undef (n : Nat) (x : Lane) (d : Dev) : (setLane n x d).undef = d.undef := rfl
@[simp] theorem setLane_undefNew (n : Nat) (x : Lane) (d : Dev) : (setLane n x d).undefNew = d.undefNew := rfl
@[simp] theorem setLane_freeCtr (n : Nat) (x : Lane) (d : Dev) : (setLane n x d).freeCtr = d.freeCtr := rfl
@[simp] theorem dget_setLane (q : Reg) (n : Nat) (x : Lane) (d : Dev) : dget q (setLane n x d) = dget q d := rfl
@[simp] theorem portOf_setLane (k : Nat) (n : Nat) (x : Lane) (d : Dev) : portOf (setLane n x d) k = portOf d k := rfl
@[simp] theorem chanOf_setLane (k : Nat) (n : Nat) (x : Lane) (d : Dev) : chanOf (setLane n x d) k = chanOf d k := rfl
@[simp] theorem coreOf_setLane (k : Nat) (n : Nat) (x : Lane) (d : Dev) : coreOf (setLane n x d) k = coreOf d k := rfl
@[simp] theorem frameOf_setLane (k : Nat) (n : Nat) (x : Lane) (d : Dev) : frameOf (setLane n x d) k = frameOf d k := rfl
@[simp] theorem engOf_setLane (k : Nat) (n : Nat) (x : Lane) (d : Dev) : engOf (setLane n x d) k = engOf d k := rfl
@[simp] theorem ringOf_setLane (k : Nat) (n : Nat) (x : Lane) (d : Dev) : ringOf (setLane n x d) k = ringOf d k := rfl
@[simp] theorem linkOf_setLane (k : Nat) (n : Nat) (x : Lane) (d : Dev) : linkOf (setLane n x d) k = linkOf d k := rfl

@[simp] theorem modLane_now (n : Nat) (g : Lane → Lane) (d : Dev) : (modLane n g d).now = d.now := rfl
@[simp] theorem modLane_dict (n : Nat) (g : Lane → Lane) (d : Dev) : (modLane n g d).dict = d.dict := rfl
@[simp] theorem modLane_fuses (n : Nat) (g : Lane → Lane) (d : Dev) : (modLane n g d).fuses = d.fuses := rfl
@[simp] theorem modLane_pins (n : Nat) (g : Lane → Lane) (d : Dev) : (modLane n g d).pins = d.pins := rfl
@[simp] theorem modLane_ctl (n : Nat) (g : Lane → Lane) (d : Dev) : (modLane n g d).ctl = d.ctl := rfl
@[simp] theorem modLane_grid (n : Nat) (g : Lane → Lane) (d : Dev) : (modLane n g d).grid = d.grid := rfl
@[simp] theorem modLane_pll (n : Nat) (g : Lane → Lane) (d : Dev) : (modLane n g d).pll = d.pll := rfl
@[simp] theorem modLane_ports (n : Nat) (g : Lane → Lane) (d : Dev) : (modLane n g d).ports = d.ports := rfl
@[simp] theorem modLane_chans (n : Nat) (g : Lane → Lane) (d : Dev) : (modLane n g d).chans = d.chans := rfl
@[simp] theorem modLane_edges (n : Nat) (g : Lane → Lane) (d : Dev) : (modLane n g d).edges = d.edges := rfl
@[simp] theorem modLane_cores (n : Nat) (g : Lane → Lane) (d : Dev) : (modLane n g d).cores = d.cores := rfl
@[simp] theorem modLane_fab (n : Nat) (g : Lane → Lane) (d : Dev) : (modLane n g d).fab = d.fab := rfl
@[simp] theorem modLane_enc (n : Nat) (g : Lane → Lane) (d : Dev) : (modLane n g d).enc = d.enc := rfl
@[simp] theorem modLane_ldr (n : Nat) (g : Lane → Lane) (d : Dev) : (modLane n g d).ldr = d.ldr := rfl
@[simp] theorem modLane_frames (n : Nat) (g : Lane → Lane) (d : Dev) : (modLane n g d).frames = d.frames := rfl
@[simp] theorem modLane_trig (n : Nat) (g : Lane → Lane) (d : Dev) : (modLane n g d).trig = d.trig := rfl
@[simp] theorem modLane_flt (n : Nat) (g : Lane → Lane) (d : Dev) : (modLane n g d).flt = d.flt := rfl
@[simp] theorem modLane_host (n : Nat) (g : Lane → Lane) (d : Dev) : (modLane n g d).host = d.host := rfl
@[simp] theorem modLane_time (n : Nat) (g : Lane → Lane) (d : Dev) : (modLane n g d).time = d.time := rfl
@[simp] theorem modLane_store (n : Nat) (g : Lane → Lane) (d : Dev) : (modLane n g d).store = d.store := rfl
@[simp] theorem modLane_engs (n : Nat) (g : Lane → Lane) (d : Dev) : (modLane n g d).engs = d.engs := rfl
@[simp] theorem modLane_clus (n : Nat) (g : Lane → Lane) (d : Dev) : (modLane n g d).clus = d.clus := rfl
@[simp] theorem modLane_ctx (n : Nat) (g : Lane → Lane) (d : Dev) : (modLane n g d).ctx = d.ctx := rfl
@[simp] theorem modLane_lnk (n : Nat) (g : Lane → Lane) (d : Dev) : (modLane n g d).lnk = d.lnk := rfl
@[simp] theorem modLane_pwr (n : Nat) (g : Lane → Lane) (d : Dev) : (modLane n g d).pwr = d.pwr := rfl
@[simp] theorem modLane_sec (n : Nat) (g : Lane → Lane) (d : Dev) : (modLane n g d).sec = d.sec := rfl
@[simp] theorem modLane_sys (n : Nat) (g : Lane → Lane) (d : Dev) : (modLane n g d).sys = d.sys := rfl
@[simp] theorem modLane_undef (n : Nat) (g : Lane → Lane) (d : Dev) : (modLane n g d).undef = d.undef := rfl
@[simp] theorem modLane_undefNew (n : Nat) (g : Lane → Lane) (d : Dev) : (modLane n g d).undefNew = d.undefNew := rfl
@[simp] theorem modLane_freeCtr (n : Nat) (g : Lane → Lane) (d : Dev) : (modLane n g d).freeCtr = d.freeCtr := rfl
@[simp] theorem dget_modLane (q : Reg) (n : Nat) (g : Lane → Lane) (d : Dev) : dget q (modLane n g d) = dget q d := rfl
@[simp] theorem portOf_modLane (k : Nat) (n : Nat) (g : Lane → Lane) (d : Dev) : portOf (modLane n g d) k = portOf d k := rfl
@[simp] theorem chanOf_modLane (k : Nat) (n : Nat) (g : Lane → Lane) (d : Dev) : chanOf (modLane n g d) k = chanOf d k := rfl
@[simp] theorem coreOf_modLane (k : Nat) (n : Nat) (g : Lane → Lane) (d : Dev) : coreOf (modLane n g d) k = coreOf d k := rfl
@[simp] theorem frameOf_modLane (k : Nat) (n : Nat) (g : Lane → Lane) (d : Dev) : frameOf (modLane n g d) k = frameOf d k := rfl
@[simp] theorem engOf_modLane (k : Nat) (n : Nat) (g : Lane → Lane) (d : Dev) : engOf (modLane n g d) k = engOf d k := rfl
@[simp] theorem ringOf_modLane (k : Nat) (n : Nat) (g : Lane → Lane) (d : Dev) : ringOf (modLane n g d) k = ringOf d k := rfl
@[simp] theorem linkOf_modLane (k : Nat) (n : Nat) (g : Lane → Lane) (d : Dev) : linkOf (modLane n g d) k = linkOf d k := rfl

@[simp] theorem setChan_now (n : Nat) (x : Chan) (d : Dev) : (setChan n x d).now = d.now := rfl
@[simp] theorem setChan_dict (n : Nat) (x : Chan) (d : Dev) : (setChan n x d).dict = d.dict := rfl
@[simp] theorem setChan_fuses (n : Nat) (x : Chan) (d : Dev) : (setChan n x d).fuses = d.fuses := rfl
@[simp] theorem setChan_pins (n : Nat) (x : Chan) (d : Dev) : (setChan n x d).pins = d.pins := rfl
@[simp] theorem setChan_ctl (n : Nat) (x : Chan) (d : Dev) : (setChan n x d).ctl = d.ctl := rfl
@[simp] theorem setChan_grid (n : Nat) (x : Chan) (d : Dev) : (setChan n x d).grid = d.grid := rfl
@[simp] theorem setChan_pll (n : Nat) (x : Chan) (d : Dev) : (setChan n x d).pll = d.pll := rfl
@[simp] theorem setChan_ports (n : Nat) (x : Chan) (d : Dev) : (setChan n x d).ports = d.ports := rfl
@[simp] theorem setChan_lanes (n : Nat) (x : Chan) (d : Dev) : (setChan n x d).lanes = d.lanes := rfl
@[simp] theorem setChan_edges (n : Nat) (x : Chan) (d : Dev) : (setChan n x d).edges = d.edges := rfl
@[simp] theorem setChan_cores (n : Nat) (x : Chan) (d : Dev) : (setChan n x d).cores = d.cores := rfl
@[simp] theorem setChan_fab (n : Nat) (x : Chan) (d : Dev) : (setChan n x d).fab = d.fab := rfl
@[simp] theorem setChan_enc (n : Nat) (x : Chan) (d : Dev) : (setChan n x d).enc = d.enc := rfl
@[simp] theorem setChan_ldr (n : Nat) (x : Chan) (d : Dev) : (setChan n x d).ldr = d.ldr := rfl
@[simp] theorem setChan_frames (n : Nat) (x : Chan) (d : Dev) : (setChan n x d).frames = d.frames := rfl
@[simp] theorem setChan_trig (n : Nat) (x : Chan) (d : Dev) : (setChan n x d).trig = d.trig := rfl
@[simp] theorem setChan_flt (n : Nat) (x : Chan) (d : Dev) : (setChan n x d).flt = d.flt := rfl
@[simp] theorem setChan_host (n : Nat) (x : Chan) (d : Dev) : (setChan n x d).host = d.host := rfl
@[simp] theorem setChan_time (n : Nat) (x : Chan) (d : Dev) : (setChan n x d).time = d.time := rfl
@[simp] theorem setChan_store (n : Nat) (x : Chan) (d : Dev) : (setChan n x d).store = d.store := rfl
@[simp] theorem setChan_engs (n : Nat) (x : Chan) (d : Dev) : (setChan n x d).engs = d.engs := rfl
@[simp] theorem setChan_clus (n : Nat) (x : Chan) (d : Dev) : (setChan n x d).clus = d.clus := rfl
@[simp] theorem setChan_ctx (n : Nat) (x : Chan) (d : Dev) : (setChan n x d).ctx = d.ctx := rfl
@[simp] theorem setChan_lnk (n : Nat) (x : Chan) (d : Dev) : (setChan n x d).lnk = d.lnk := rfl
@[simp] theorem setChan_pwr (n : Nat) (x : Chan) (d : Dev) : (setChan n x d).pwr = d.pwr := rfl
@[simp] theorem setChan_sec (n : Nat) (x : Chan) (d : Dev) : (setChan n x d).sec = d.sec := rfl
@[simp] theorem setChan_sys (n : Nat) (x : Chan) (d : Dev) : (setChan n x d).sys = d.sys := rfl
@[simp] theorem setChan_undef (n : Nat) (x : Chan) (d : Dev) : (setChan n x d).undef = d.undef := rfl
@[simp] theorem setChan_undefNew (n : Nat) (x : Chan) (d : Dev) : (setChan n x d).undefNew = d.undefNew := rfl
@[simp] theorem setChan_freeCtr (n : Nat) (x : Chan) (d : Dev) : (setChan n x d).freeCtr = d.freeCtr := rfl
@[simp] theorem dget_setChan (q : Reg) (n : Nat) (x : Chan) (d : Dev) : dget q (setChan n x d) = dget q d := rfl
@[simp] theorem portOf_setChan (k : Nat) (n : Nat) (x : Chan) (d : Dev) : portOf (setChan n x d) k = portOf d k := rfl
@[simp] theorem laneOf_setChan (k : Nat) (n : Nat) (x : Chan) (d : Dev) : laneOf (setChan n x d) k = laneOf d k := rfl
@[simp] theorem coreOf_setChan (k : Nat) (n : Nat) (x : Chan) (d : Dev) : coreOf (setChan n x d) k = coreOf d k := rfl
@[simp] theorem frameOf_setChan (k : Nat) (n : Nat) (x : Chan) (d : Dev) : frameOf (setChan n x d) k = frameOf d k := rfl
@[simp] theorem engOf_setChan (k : Nat) (n : Nat) (x : Chan) (d : Dev) : engOf (setChan n x d) k = engOf d k := rfl
@[simp] theorem ringOf_setChan (k : Nat) (n : Nat) (x : Chan) (d : Dev) : ringOf (setChan n x d) k = ringOf d k := rfl
@[simp] theorem linkOf_setChan (k : Nat) (n : Nat) (x : Chan) (d : Dev) : linkOf (setChan n x d) k = linkOf d k := rfl

@[simp] theorem modChan_now (n : Nat) (g : Chan → Chan) (d : Dev) : (modChan n g d).now = d.now := rfl
@[simp] theorem modChan_dict (n : Nat) (g : Chan → Chan) (d : Dev) : (modChan n g d).dict = d.dict := rfl
@[simp] theorem modChan_fuses (n : Nat) (g : Chan → Chan) (d : Dev) : (modChan n g d).fuses = d.fuses := rfl
@[simp] theorem modChan_pins (n : Nat) (g : Chan → Chan) (d : Dev) : (modChan n g d).pins = d.pins := rfl
@[simp] theorem modChan_ctl (n : Nat) (g : Chan → Chan) (d : Dev) : (modChan n g d).ctl = d.ctl := rfl
@[simp] theorem modChan_grid (n : Nat) (g : Chan → Chan) (d : Dev) : (modChan n g d).grid = d.grid := rfl
@[simp] theorem modChan_pll (n : Nat) (g : Chan → Chan) (d : Dev) : (modChan n g d).pll = d.pll := rfl
@[simp] theorem modChan_ports (n : Nat) (g : Chan → Chan) (d : Dev) : (modChan n g d).ports = d.ports := rfl
@[simp] theorem modChan_lanes (n : Nat) (g : Chan → Chan) (d : Dev) : (modChan n g d).lanes = d.lanes := rfl
@[simp] theorem modChan_edges (n : Nat) (g : Chan → Chan) (d : Dev) : (modChan n g d).edges = d.edges := rfl
@[simp] theorem modChan_cores (n : Nat) (g : Chan → Chan) (d : Dev) : (modChan n g d).cores = d.cores := rfl
@[simp] theorem modChan_fab (n : Nat) (g : Chan → Chan) (d : Dev) : (modChan n g d).fab = d.fab := rfl
@[simp] theorem modChan_enc (n : Nat) (g : Chan → Chan) (d : Dev) : (modChan n g d).enc = d.enc := rfl
@[simp] theorem modChan_ldr (n : Nat) (g : Chan → Chan) (d : Dev) : (modChan n g d).ldr = d.ldr := rfl
@[simp] theorem modChan_frames (n : Nat) (g : Chan → Chan) (d : Dev) : (modChan n g d).frames = d.frames := rfl
@[simp] theorem modChan_trig (n : Nat) (g : Chan → Chan) (d : Dev) : (modChan n g d).trig = d.trig := rfl
@[simp] theorem modChan_flt (n : Nat) (g : Chan → Chan) (d : Dev) : (modChan n g d).flt = d.flt := rfl
@[simp] theorem modChan_host (n : Nat) (g : Chan → Chan) (d : Dev) : (modChan n g d).host = d.host := rfl
@[simp] theorem modChan_time (n : Nat) (g : Chan → Chan) (d : Dev) : (modChan n g d).time = d.time := rfl
@[simp] theorem modChan_store (n : Nat) (g : Chan → Chan) (d : Dev) : (modChan n g d).store = d.store := rfl
@[simp] theorem modChan_engs (n : Nat) (g : Chan → Chan) (d : Dev) : (modChan n g d).engs = d.engs := rfl
@[simp] theorem modChan_clus (n : Nat) (g : Chan → Chan) (d : Dev) : (modChan n g d).clus = d.clus := rfl
@[simp] theorem modChan_ctx (n : Nat) (g : Chan → Chan) (d : Dev) : (modChan n g d).ctx = d.ctx := rfl
@[simp] theorem modChan_lnk (n : Nat) (g : Chan → Chan) (d : Dev) : (modChan n g d).lnk = d.lnk := rfl
@[simp] theorem modChan_pwr (n : Nat) (g : Chan → Chan) (d : Dev) : (modChan n g d).pwr = d.pwr := rfl
@[simp] theorem modChan_sec (n : Nat) (g : Chan → Chan) (d : Dev) : (modChan n g d).sec = d.sec := rfl
@[simp] theorem modChan_sys (n : Nat) (g : Chan → Chan) (d : Dev) : (modChan n g d).sys = d.sys := rfl
@[simp] theorem modChan_undef (n : Nat) (g : Chan → Chan) (d : Dev) : (modChan n g d).undef = d.undef := rfl
@[simp] theorem modChan_undefNew (n : Nat) (g : Chan → Chan) (d : Dev) : (modChan n g d).undefNew = d.undefNew := rfl
@[simp] theorem modChan_freeCtr (n : Nat) (g : Chan → Chan) (d : Dev) : (modChan n g d).freeCtr = d.freeCtr := rfl
@[simp] theorem dget_modChan (q : Reg) (n : Nat) (g : Chan → Chan) (d : Dev) : dget q (modChan n g d) = dget q d := rfl
@[simp] theorem portOf_modChan (k : Nat) (n : Nat) (g : Chan → Chan) (d : Dev) : portOf (modChan n g d) k = portOf d k := rfl
@[simp] theorem laneOf_modChan (k : Nat) (n : Nat) (g : Chan → Chan) (d : Dev) : laneOf (modChan n g d) k = laneOf d k := rfl
@[simp] theorem coreOf_modChan (k : Nat) (n : Nat) (g : Chan → Chan) (d : Dev) : coreOf (modChan n g d) k = coreOf d k := rfl
@[simp] theorem frameOf_modChan (k : Nat) (n : Nat) (g : Chan → Chan) (d : Dev) : frameOf (modChan n g d) k = frameOf d k := rfl
@[simp] theorem engOf_modChan (k : Nat) (n : Nat) (g : Chan → Chan) (d : Dev) : engOf (modChan n g d) k = engOf d k := rfl
@[simp] theorem ringOf_modChan (k : Nat) (n : Nat) (g : Chan → Chan) (d : Dev) : ringOf (modChan n g d) k = ringOf d k := rfl
@[simp] theorem linkOf_modChan (k : Nat) (n : Nat) (g : Chan → Chan) (d : Dev) : linkOf (modChan n g d) k = linkOf d k := rfl

@[simp] theorem setCore_now (n : Nat) (x : Core) (d : Dev) : (setCore n x d).now = d.now := rfl
@[simp] theorem setCore_dict (n : Nat) (x : Core) (d : Dev) : (setCore n x d).dict = d.dict := rfl
@[simp] theorem setCore_fuses (n : Nat) (x : Core) (d : Dev) : (setCore n x d).fuses = d.fuses := rfl
@[simp] theorem setCore_pins (n : Nat) (x : Core) (d : Dev) : (setCore n x d).pins = d.pins := rfl
@[simp] theorem setCore_ctl (n : Nat) (x : Core) (d : Dev) : (setCore n x d).ctl = d.ctl := rfl
@[simp] theorem setCore_grid (n : Nat) (x : Core) (d : Dev) : (setCore n x d).grid = d.grid := rfl
@[simp] theorem setCore_pll (n : Nat) (x : Core) (d : Dev) : (setCore n x d).pll = d.pll := rfl
@[simp] theorem setCore_ports (n : Nat) (x : Core) (d : Dev) : (setCore n x d).ports = d.ports := rfl
@[simp] theorem setCore_lanes (n : Nat) (x : Core) (d : Dev) : (setCore n x d).lanes = d.lanes := rfl
@[simp] theorem setCore_chans (n : Nat) (x : Core) (d : Dev) : (setCore n x d).chans = d.chans := rfl
@[simp] theorem setCore_edges (n : Nat) (x : Core) (d : Dev) : (setCore n x d).edges = d.edges := rfl
@[simp] theorem setCore_fab (n : Nat) (x : Core) (d : Dev) : (setCore n x d).fab = d.fab := rfl
@[simp] theorem setCore_enc (n : Nat) (x : Core) (d : Dev) : (setCore n x d).enc = d.enc := rfl
@[simp] theorem setCore_ldr (n : Nat) (x : Core) (d : Dev) : (setCore n x d).ldr = d.ldr := rfl
@[simp] theorem setCore_frames (n : Nat) (x : Core) (d : Dev) : (setCore n x d).frames = d.frames := rfl
@[simp] theorem setCore_trig (n : Nat) (x : Core) (d : Dev) : (setCore n x d).trig = d.trig := rfl
@[simp] theorem setCore_flt (n : Nat) (x : Core) (d : Dev) : (setCore n x d).flt = d.flt := rfl
@[simp] theorem setCore_host (n : Nat) (x : Core) (d : Dev) : (setCore n x d).host = d.host := rfl
@[simp] theorem setCore_time (n : Nat) (x : Core) (d : Dev) : (setCore n x d).time = d.time := rfl
@[simp] theorem setCore_store (n : Nat) (x : Core) (d : Dev) : (setCore n x d).store = d.store := rfl
@[simp] theorem setCore_engs (n : Nat) (x : Core) (d : Dev) : (setCore n x d).engs = d.engs := rfl
@[simp] theorem setCore_clus (n : Nat) (x : Core) (d : Dev) : (setCore n x d).clus = d.clus := rfl
@[simp] theorem setCore_ctx (n : Nat) (x : Core) (d : Dev) : (setCore n x d).ctx = d.ctx := rfl
@[simp] theorem setCore_lnk (n : Nat) (x : Core) (d : Dev) : (setCore n x d).lnk = d.lnk := rfl
@[simp] theorem setCore_pwr (n : Nat) (x : Core) (d : Dev) : (setCore n x d).pwr = d.pwr := rfl
@[simp] theorem setCore_sec (n : Nat) (x : Core) (d : Dev) : (setCore n x d).sec = d.sec := rfl
@[simp] theorem setCore_sys (n : Nat) (x : Core) (d : Dev) : (setCore n x d).sys = d.sys := rfl
@[simp] theorem setCore_undef (n : Nat) (x : Core) (d : Dev) : (setCore n x d).undef = d.undef := rfl
@[simp] theorem setCore_undefNew (n : Nat) (x : Core) (d : Dev) : (setCore n x d).undefNew = d.undefNew := rfl
@[simp] theorem setCore_freeCtr (n : Nat) (x : Core) (d : Dev) : (setCore n x d).freeCtr = d.freeCtr := rfl
@[simp] theorem dget_setCore (q : Reg) (n : Nat) (x : Core) (d : Dev) : dget q (setCore n x d) = dget q d := rfl
@[simp] theorem portOf_setCore (k : Nat) (n : Nat) (x : Core) (d : Dev) : portOf (setCore n x d) k = portOf d k := rfl
@[simp] theorem laneOf_setCore (k : Nat) (n : Nat) (x : Core) (d : Dev) : laneOf (setCore n x d) k = laneOf d k := rfl
@[simp] theorem chanOf_setCore (k : Nat) (n : Nat) (x : Core) (d : Dev) : chanOf (setCore n x d) k = chanOf d k := rfl
@[simp] theorem frameOf_setCore (k : Nat) (n : Nat) (x : Core) (d : Dev) : frameOf (setCore n x d) k = frameOf d k := rfl
@[simp] theorem engOf_setCore (k : Nat) (n : Nat) (x : Core) (d : Dev) : engOf (setCore n x d) k = engOf d k := rfl
@[simp] theorem ringOf_setCore (k : Nat) (n : Nat) (x : Core) (d : Dev) : ringOf (setCore n x d) k = ringOf d k := rfl
@[simp] theorem linkOf_setCore (k : Nat) (n : Nat) (x : Core) (d : Dev) : linkOf (setCore n x d) k = linkOf d k := rfl

@[simp] theorem modCore_now (n : Nat) (g : Core → Core) (d : Dev) : (modCore n g d).now = d.now := rfl
@[simp] theorem modCore_dict (n : Nat) (g : Core → Core) (d : Dev) : (modCore n g d).dict = d.dict := rfl
@[simp] theorem modCore_fuses (n : Nat) (g : Core → Core) (d : Dev) : (modCore n g d).fuses = d.fuses := rfl
@[simp] theorem modCore_pins (n : Nat) (g : Core → Core) (d : Dev) : (modCore n g d).pins = d.pins := rfl
@[simp] theorem modCore_ctl (n : Nat) (g : Core → Core) (d : Dev) : (modCore n g d).ctl = d.ctl := rfl
@[simp] theorem modCore_grid (n : Nat) (g : Core → Core) (d : Dev) : (modCore n g d).grid = d.grid := rfl
@[simp] theorem modCore_pll (n : Nat) (g : Core → Core) (d : Dev) : (modCore n g d).pll = d.pll := rfl
@[simp] theorem modCore_ports (n : Nat) (g : Core → Core) (d : Dev) : (modCore n g d).ports = d.ports := rfl
@[simp] theorem modCore_lanes (n : Nat) (g : Core → Core) (d : Dev) : (modCore n g d).lanes = d.lanes := rfl
@[simp] theorem modCore_chans (n : Nat) (g : Core → Core) (d : Dev) : (modCore n g d).chans = d.chans := rfl
@[simp] theorem modCore_edges (n : Nat) (g : Core → Core) (d : Dev) : (modCore n g d).edges = d.edges := rfl
@[simp] theorem modCore_fab (n : Nat) (g : Core → Core) (d : Dev) : (modCore n g d).fab = d.fab := rfl
@[simp] theorem modCore_enc (n : Nat) (g : Core → Core) (d : Dev) : (modCore n g d).enc = d.enc := rfl
@[simp] theorem modCore_ldr (n : Nat) (g : Core → Core) (d : Dev) : (modCore n g d).ldr = d.ldr := rfl
@[simp] theorem modCore_frames (n : Nat) (g : Core → Core) (d : Dev) : (modCore n g d).frames = d.frames := rfl
@[simp] theorem modCore_trig (n : Nat) (g : Core → Core) (d : Dev) : (modCore n g d).trig = d.trig := rfl
@[simp] theorem modCore_flt (n : Nat) (g : Core → Core) (d : Dev) : (modCore n g d).flt = d.flt := rfl
@[simp] theorem modCore_host (n : Nat) (g : Core → Core) (d : Dev) : (modCore n g d).host = d.host := rfl
@[simp] theorem modCore_time (n : Nat) (g : Core → Core) (d : Dev) : (modCore n g d).time = d.time := rfl
@[simp] theorem modCore_store (n : Nat) (g : Core → Core) (d : Dev) : (modCore n g d).store = d.store := rfl
@[simp] theorem modCore_engs (n : Nat) (g : Core → Core) (d : Dev) : (modCore n g d).engs = d.engs := rfl
@[simp] theorem modCore_clus (n : Nat) (g : Core → Core) (d : Dev) : (modCore n g d).clus = d.clus := rfl
@[simp] theorem modCore_ctx (n : Nat) (g : Core → Core) (d : Dev) : (modCore n g d).ctx = d.ctx := rfl
@[simp] theorem modCore_lnk (n : Nat) (g : Core → Core) (d : Dev) : (modCore n g d).lnk = d.lnk := rfl
@[simp] theorem modCore_pwr (n : Nat) (g : Core → Core) (d : Dev) : (modCore n g d).pwr = d.pwr := rfl
@[simp] theorem modCore_sec (n : Nat) (g : Core → Core) (d : Dev) : (modCore n g d).sec = d.sec := rfl
@[simp] theorem modCore_sys (n : Nat) (g : Core → Core) (d : Dev) : (modCore n g d).sys = d.sys := rfl
@[simp] theorem modCore_undef (n : Nat) (g : Core → Core) (d : Dev) : (modCore n g d).undef = d.undef := rfl
@[simp] theorem modCore_undefNew (n : Nat) (g : Core → Core) (d : Dev) : (modCore n g d).undefNew = d.undefNew := rfl
@[simp] theorem modCore_freeCtr (n : Nat) (g : Core → Core) (d : Dev) : (modCore n g d).freeCtr = d.freeCtr := rfl
@[simp] theorem dget_modCore (q : Reg) (n : Nat) (g : Core → Core) (d : Dev) : dget q (modCore n g d) = dget q d := rfl
@[simp] theorem portOf_modCore (k : Nat) (n : Nat) (g : Core → Core) (d : Dev) : portOf (modCore n g d) k = portOf d k := rfl
@[simp] theorem laneOf_modCore (k : Nat) (n : Nat) (g : Core → Core) (d : Dev) : laneOf (modCore n g d) k = laneOf d k := rfl
@[simp] theorem chanOf_modCore (k : Nat) (n : Nat) (g : Core → Core) (d : Dev) : chanOf (modCore n g d) k = chanOf d k := rfl
@[simp] theorem frameOf_modCore (k : Nat) (n : Nat) (g : Core → Core) (d : Dev) : frameOf (modCore n g d) k = frameOf d k := rfl
@[simp] theorem engOf_modCore (k : Nat) (n : Nat) (g : Core → Core) (d : Dev) : engOf (modCore n g d) k = engOf d k := rfl
@[simp] theorem ringOf_modCore (k : Nat) (n : Nat) (g : Core → Core) (d : Dev) : ringOf (modCore n g d) k = ringOf d k := rfl
@[simp] theorem linkOf_modCore (k : Nat) (n : Nat) (g : Core → Core) (d : Dev) : linkOf (modCore n g d) k = linkOf d k := rfl

@[simp] theorem setRing_now (n : Nat) (x : Ring) (d : Dev) : (setRing n x d).now = d.now := rfl
@[simp] theorem setRing_dict (n : Nat) (x : Ring) (d : Dev) : (setRing n x d).dict = d.dict := rfl
@[simp] theorem setRing_fuses (n : Nat) (x : Ring) (d : Dev) : (setRing n x d).fuses = d.fuses := rfl
@[simp] theorem setRing_pins (n : Nat) (x : Ring) (d : Dev) : (setRing n x d).pins = d.pins := rfl
@[simp] theorem setRing_ctl (n : Nat) (x : Ring) (d : Dev) : (setRing n x d).ctl = d.ctl := rfl
@[simp] theorem setRing_grid (n : Nat) (x : Ring) (d : Dev) : (setRing n x d).grid = d.grid := rfl
@[simp] theorem setRing_pll (n : Nat) (x : Ring) (d : Dev) : (setRing n x d).pll = d.pll := rfl
@[simp] theorem setRing_ports (n : Nat) (x : Ring) (d : Dev) : (setRing n x d).ports = d.ports := rfl
@[simp] theorem setRing_lanes (n : Nat) (x : Ring) (d : Dev) : (setRing n x d).lanes = d.lanes := rfl
@[simp] theorem setRing_chans (n : Nat) (x : Ring) (d : Dev) : (setRing n x d).chans = d.chans := rfl
@[simp] theorem setRing_edges (n : Nat) (x : Ring) (d : Dev) : (setRing n x d).edges = d.edges := rfl
@[simp] theorem setRing_cores (n : Nat) (x : Ring) (d : Dev) : (setRing n x d).cores = d.cores := rfl
@[simp] theorem setRing_fab (n : Nat) (x : Ring) (d : Dev) : (setRing n x d).fab = d.fab := rfl
@[simp] theorem setRing_enc (n : Nat) (x : Ring) (d : Dev) : (setRing n x d).enc = d.enc := rfl
@[simp] theorem setRing_ldr (n : Nat) (x : Ring) (d : Dev) : (setRing n x d).ldr = d.ldr := rfl
@[simp] theorem setRing_frames (n : Nat) (x : Ring) (d : Dev) : (setRing n x d).frames = d.frames := rfl
@[simp] theorem setRing_trig (n : Nat) (x : Ring) (d : Dev) : (setRing n x d).trig = d.trig := rfl
@[simp] theorem setRing_flt (n : Nat) (x : Ring) (d : Dev) : (setRing n x d).flt = d.flt := rfl
@[simp] theorem setRing_time (n : Nat) (x : Ring) (d : Dev) : (setRing n x d).time = d.time := rfl
@[simp] theorem setRing_store (n : Nat) (x : Ring) (d : Dev) : (setRing n x d).store = d.store := rfl
@[simp] theorem setRing_engs (n : Nat) (x : Ring) (d : Dev) : (setRing n x d).engs = d.engs := rfl
@[simp] theorem setRing_clus (n : Nat) (x : Ring) (d : Dev) : (setRing n x d).clus = d.clus := rfl
@[simp] theorem setRing_ctx (n : Nat) (x : Ring) (d : Dev) : (setRing n x d).ctx = d.ctx := rfl
@[simp] theorem setRing_lnk (n : Nat) (x : Ring) (d : Dev) : (setRing n x d).lnk = d.lnk := rfl
@[simp] theorem setRing_pwr (n : Nat) (x : Ring) (d : Dev) : (setRing n x d).pwr = d.pwr := rfl
@[simp] theorem setRing_sec (n : Nat) (x : Ring) (d : Dev) : (setRing n x d).sec = d.sec := rfl
@[simp] theorem setRing_sys (n : Nat) (x : Ring) (d : Dev) : (setRing n x d).sys = d.sys := rfl
@[simp] theorem setRing_undef (n : Nat) (x : Ring) (d : Dev) : (setRing n x d).undef = d.undef := rfl
@[simp] theorem setRing_undefNew (n : Nat) (x : Ring) (d : Dev) : (setRing n x d).undefNew = d.undefNew := rfl
@[simp] theorem setRing_freeCtr (n : Nat) (x : Ring) (d : Dev) : (setRing n x d).freeCtr = d.freeCtr := rfl
@[simp] theorem dget_setRing (q : Reg) (n : Nat) (x : Ring) (d : Dev) : dget q (setRing n x d) = dget q d := rfl
@[simp] theorem portOf_setRing (k : Nat) (n : Nat) (x : Ring) (d : Dev) : portOf (setRing n x d) k = portOf d k := rfl
@[simp] theorem laneOf_setRing (k : Nat) (n : Nat) (x : Ring) (d : Dev) : laneOf (setRing n x d) k = laneOf d k := rfl
@[simp] theorem chanOf_setRing (k : Nat) (n : Nat) (x : Ring) (d : Dev) : chanOf (setRing n x d) k = chanOf d k := rfl
@[simp] theorem coreOf_setRing (k : Nat) (n : Nat) (x : Ring) (d : Dev) : coreOf (setRing n x d) k = coreOf d k := rfl
@[simp] theorem frameOf_setRing (k : Nat) (n : Nat) (x : Ring) (d : Dev) : frameOf (setRing n x d) k = frameOf d k := rfl
@[simp] theorem engOf_setRing (k : Nat) (n : Nat) (x : Ring) (d : Dev) : engOf (setRing n x d) k = engOf d k := rfl
@[simp] theorem linkOf_setRing (k : Nat) (n : Nat) (x : Ring) (d : Dev) : linkOf (setRing n x d) k = linkOf d k := rfl

@[simp] theorem modRing_now (n : Nat) (g : Ring → Ring) (d : Dev) : (modRing n g d).now = d.now := rfl
@[simp] theorem modRing_dict (n : Nat) (g : Ring → Ring) (d : Dev) : (modRing n g d).dict = d.dict := rfl
@[simp] theorem modRing_fuses (n : Nat) (g : Ring → Ring) (d : Dev) : (modRing n g d).fuses = d.fuses := rfl
@[simp] theorem modRing_pins (n : Nat) (g : Ring → Ring) (d : Dev) : (modRing n g d).pins = d.pins := rfl
@[simp] theorem modRing_ctl (n : Nat) (g : Ring → Ring) (d : Dev) : (modRing n g d).ctl = d.ctl := rfl
@[simp] theorem modRing_grid (n : Nat) (g : Ring → Ring) (d : Dev) : (modRing n g d).grid = d.grid := rfl
@[simp] theorem modRing_pll (n : Nat) (g : Ring → Ring) (d : Dev) : (modRing n g d).pll = d.pll := rfl
@[simp] theorem modRing_ports (n : Nat) (g : Ring → Ring) (d : Dev) : (modRing n g d).ports = d.ports := rfl
@[simp] theorem modRing_lanes (n : Nat) (g : Ring → Ring) (d : Dev) : (modRing n g d).lanes = d.lanes := rfl
@[simp] theorem modRing_chans (n : Nat) (g : Ring → Ring) (d : Dev) : (modRing n g d).chans = d.chans := rfl
@[simp] theorem modRing_edges (n : Nat) (g : Ring → Ring) (d : Dev) : (modRing n g d).edges = d.edges := rfl
@[simp] theorem modRing_cores (n : Nat) (g : Ring → Ring) (d : Dev) : (modRing n g d).cores = d.cores := rfl
@[simp] theorem modRing_fab (n : Nat) (g : Ring → Ring) (d : Dev) : (modRing n g d).fab = d.fab := rfl
@[simp] theorem modRing_enc (n : Nat) (g : Ring → Ring) (d : Dev) : (modRing n g d).enc = d.enc := rfl
@[simp] theorem modRing_ldr (n : Nat) (g : Ring → Ring) (d : Dev) : (modRing n g d).ldr = d.ldr := rfl
@[simp] theorem modRing_frames (n : Nat) (g : Ring → Ring) (d : Dev) : (modRing n g d).frames = d.frames := rfl
@[simp] theorem modRing_trig (n : Nat) (g : Ring → Ring) (d : Dev) : (modRing n g d).trig = d.trig := rfl
@[simp] theorem modRing_flt (n : Nat) (g : Ring → Ring) (d : Dev) : (modRing n g d).flt = d.flt := rfl
@[simp] theorem modRing_time (n : Nat) (g : Ring → Ring) (d : Dev) : (modRing n g d).time = d.time := rfl
@[simp] theorem modRing_store (n : Nat) (g : Ring → Ring) (d : Dev) : (modRing n g d).store = d.store := rfl
@[simp] theorem modRing_engs (n : Nat) (g : Ring → Ring) (d : Dev) : (modRing n g d).engs = d.engs := rfl
@[simp] theorem modRing_clus (n : Nat) (g : Ring → Ring) (d : Dev) : (modRing n g d).clus = d.clus := rfl
@[simp] theorem modRing_ctx (n : Nat) (g : Ring → Ring) (d : Dev) : (modRing n g d).ctx = d.ctx := rfl
@[simp] theorem modRing_lnk (n : Nat) (g : Ring → Ring) (d : Dev) : (modRing n g d).lnk = d.lnk := rfl
@[simp] theorem modRing_pwr (n : Nat) (g : Ring → Ring) (d : Dev) : (modRing n g d).pwr = d.pwr := rfl
@[simp] theorem modRing_sec (n : Nat) (g : Ring → Ring) (d : Dev) : (modRing n g d).sec = d.sec := rfl
@[simp] theorem modRing_sys (n : Nat) (g : Ring → Ring) (d : Dev) : (modRing n g d).sys = d.sys := rfl
@[simp] theorem modRing_undef (n : Nat) (g : Ring → Ring) (d : Dev) : (modRing n g d).undef = d.undef := rfl
@[simp] theorem modRing_undefNew (n : Nat) (g : Ring → Ring) (d : Dev) : (modRing n g d).undefNew = d.undefNew := rfl
@[simp] theorem modRing_freeCtr (n : Nat) (g : Ring → Ring) (d : Dev) : (modRing n g d).freeCtr = d.freeCtr := rfl
@[simp] theorem dget_modRing (q : Reg) (n : Nat) (g : Ring → Ring) (d : Dev) : dget q (modRing n g d) = dget q d := rfl
@[simp] theorem portOf_modRing (k : Nat) (n : Nat) (g : Ring → Ring) (d : Dev) : portOf (modRing n g d) k = portOf d k := rfl
@[simp] theorem laneOf_modRing (k : Nat) (n : Nat) (g : Ring → Ring) (d : Dev) : laneOf (modRing n g d) k = laneOf d k := rfl
@[simp] theorem chanOf_modRing (k : Nat) (n : Nat) (g : Ring → Ring) (d : Dev) : chanOf (modRing n g d) k = chanOf d k := rfl
@[simp] theorem coreOf_modRing (k : Nat) (n : Nat) (g : Ring → Ring) (d : Dev) : coreOf (modRing n g d) k = coreOf d k := rfl
@[simp] theorem frameOf_modRing (k : Nat) (n : Nat) (g : Ring → Ring) (d : Dev) : frameOf (modRing n g d) k = frameOf d k := rfl
@[simp] theorem engOf_modRing (k : Nat) (n : Nat) (g : Ring → Ring) (d : Dev) : engOf (modRing n g d) k = engOf d k := rfl
@[simp] theorem linkOf_modRing (k : Nat) (n : Nat) (g : Ring → Ring) (d : Dev) : linkOf (modRing n g d) k = linkOf d k := rfl

@[simp] theorem setEng_now (n : Nat) (x : Eng) (d : Dev) : (setEng n x d).now = d.now := rfl
@[simp] theorem setEng_dict (n : Nat) (x : Eng) (d : Dev) : (setEng n x d).dict = d.dict := rfl
@[simp] theorem setEng_fuses (n : Nat) (x : Eng) (d : Dev) : (setEng n x d).fuses = d.fuses := rfl
@[simp] theorem setEng_pins (n : Nat) (x : Eng) (d : Dev) : (setEng n x d).pins = d.pins := rfl
@[simp] theorem setEng_ctl (n : Nat) (x : Eng) (d : Dev) : (setEng n x d).ctl = d.ctl := rfl
@[simp] theorem setEng_grid (n : Nat) (x : Eng) (d : Dev) : (setEng n x d).grid = d.grid := rfl
@[simp] theorem setEng_pll (n : Nat) (x : Eng) (d : Dev) : (setEng n x d).pll = d.pll := rfl
@[simp] theorem setEng_ports (n : Nat) (x : Eng) (d : Dev) : (setEng n x d).ports = d.ports := rfl
@[simp] theorem setEng_lanes (n : Nat) (x : Eng) (d : Dev) : (setEng n x d).lanes = d.lanes := rfl
@[simp] theorem setEng_chans (n : Nat) (x : Eng) (d : Dev) : (setEng n x d).chans = d.chans := rfl
@[simp] theorem setEng_edges (n : Nat) (x : Eng) (d : Dev) : (setEng n x d).edges = d.edges := rfl
@[simp] theorem setEng_cores (n : Nat) (x : Eng) (d : Dev) : (setEng n x d).cores = d.cores := rfl
@[simp] theorem setEng_fab (n : Nat) (x : Eng) (d : Dev) : (setEng n x d).fab = d.fab := rfl
@[simp] theorem setEng_enc (n : Nat) (x : Eng) (d : Dev) : (setEng n x d).enc = d.enc := rfl
@[simp] theorem setEng_ldr (n : Nat) (x : Eng) (d : Dev) : (setEng n x d).ldr = d.ldr := rfl
@[simp] theorem setEng_frames (n : Nat) (x : Eng) (d : Dev) : (setEng n x d).frames = d.frames := rfl
@[simp] theorem setEng_trig (n : Nat) (x : Eng) (d : Dev) : (setEng n x d).trig = d.trig := rfl
@[simp] theorem setEng_flt (n : Nat) (x : Eng) (d : Dev) : (setEng n x d).flt = d.flt := rfl
@[simp] theorem setEng_host (n : Nat) (x : Eng) (d : Dev) : (setEng n x d).host = d.host := rfl
@[simp] theorem setEng_time (n : Nat) (x : Eng) (d : Dev) : (setEng n x d).time = d.time := rfl
@[simp] theorem setEng_store (n : Nat) (x : Eng) (d : Dev) : (setEng n x d).store = d.store := rfl
@[simp] theorem setEng_clus (n : Nat) (x : Eng) (d : Dev) : (setEng n x d).clus = d.clus := rfl
@[simp] theorem setEng_ctx (n : Nat) (x : Eng) (d : Dev) : (setEng n x d).ctx = d.ctx := rfl
@[simp] theorem setEng_lnk (n : Nat) (x : Eng) (d : Dev) : (setEng n x d).lnk = d.lnk := rfl
@[simp] theorem setEng_pwr (n : Nat) (x : Eng) (d : Dev) : (setEng n x d).pwr = d.pwr := rfl
@[simp] theorem setEng_sec (n : Nat) (x : Eng) (d : Dev) : (setEng n x d).sec = d.sec := rfl
@[simp] theorem setEng_sys (n : Nat) (x : Eng) (d : Dev) : (setEng n x d).sys = d.sys := rfl
@[simp] theorem setEng_undef (n : Nat) (x : Eng) (d : Dev) : (setEng n x d).undef = d.undef := rfl
@[simp] theorem setEng_undefNew (n : Nat) (x : Eng) (d : Dev) : (setEng n x d).undefNew = d.undefNew := rfl
@[simp] theorem setEng_freeCtr (n : Nat) (x : Eng) (d : Dev) : (setEng n x d).freeCtr = d.freeCtr := rfl
@[simp] theorem dget_setEng (q : Reg) (n : Nat) (x : Eng) (d : Dev) : dget q (setEng n x d) = dget q d := rfl
@[simp] theorem portOf_setEng (k : Nat) (n : Nat) (x : Eng) (d : Dev) : portOf (setEng n x d) k = portOf d k := rfl
@[simp] theorem laneOf_setEng (k : Nat) (n : Nat) (x : Eng) (d : Dev) : laneOf (setEng n x d) k = laneOf d k := rfl
@[simp] theorem chanOf_setEng (k : Nat) (n : Nat) (x : Eng) (d : Dev) : chanOf (setEng n x d) k = chanOf d k := rfl
@[simp] theorem coreOf_setEng (k : Nat) (n : Nat) (x : Eng) (d : Dev) : coreOf (setEng n x d) k = coreOf d k := rfl
@[simp] theorem frameOf_setEng (k : Nat) (n : Nat) (x : Eng) (d : Dev) : frameOf (setEng n x d) k = frameOf d k := rfl
@[simp] theorem ringOf_setEng (k : Nat) (n : Nat) (x : Eng) (d : Dev) : ringOf (setEng n x d) k = ringOf d k := rfl
@[simp] theorem linkOf_setEng (k : Nat) (n : Nat) (x : Eng) (d : Dev) : linkOf (setEng n x d) k = linkOf d k := rfl

@[simp] theorem setLink_now (n : Nat) (x : Link) (d : Dev) : (setLink n x d).now = d.now := rfl
@[simp] theorem setLink_dict (n : Nat) (x : Link) (d : Dev) : (setLink n x d).dict = d.dict := rfl
@[simp] theorem setLink_fuses (n : Nat) (x : Link) (d : Dev) : (setLink n x d).fuses = d.fuses := rfl
@[simp] theorem setLink_pins (n : Nat) (x : Link) (d : Dev) : (setLink n x d).pins = d.pins := rfl
@[simp] theorem setLink_ctl (n : Nat) (x : Link) (d : Dev) : (setLink n x d).ctl = d.ctl := rfl
@[simp] theorem setLink_grid (n : Nat) (x : Link) (d : Dev) : (setLink n x d).grid = d.grid := rfl
@[simp] theorem setLink_pll (n : Nat) (x : Link) (d : Dev) : (setLink n x d).pll = d.pll := rfl
@[simp] theorem setLink_ports (n : Nat) (x : Link) (d : Dev) : (setLink n x d).ports = d.ports := rfl
@[simp] theorem setLink_lanes (n : Nat) (x : Link) (d : Dev) : (setLink n x d).lanes = d.lanes := rfl
@[simp] theorem setLink_chans (n : Nat) (x : Link) (d : Dev) : (setLink n x d).chans = d.chans := rfl
@[simp] theorem setLink_edges (n : Nat) (x : Link) (d : Dev) : (setLink n x d).edges = d.edges := rfl
@[simp] theorem setLink_cores (n : Nat) (x : Link) (d : Dev) : (setLink n x d).cores = d.cores := rfl
@[simp] theorem setLink_fab (n : Nat) (x : Link) (d : Dev) : (setLink n x d).fab = d.fab := rfl
@[simp] theorem setLink_enc (n : Nat) (x : Link) (d : Dev) : (setLink n x d).enc = d.enc := rfl
@[simp] theorem setLink_ldr (n : Nat) (x : Link) (d : Dev) : (setLink n x d).ldr = d.ldr := rfl
@[simp] theorem setLink_frames (n : Nat) (x : Link) (d : Dev) : (setLink n x d).frames = d.frames := rfl
@[simp] theorem setLink_trig (n : Nat) (x : Link) (d : Dev) : (setLink n x d).trig = d.trig := rfl
@[simp] theorem setLink_flt (n : Nat) (x : Link) (d : Dev) : (setLink n x d).flt = d.flt := rfl
@[simp] theorem setLink_host (n : Nat) (x : Link) (d : Dev) : (setLink n x d).host = d.host := rfl
@[simp] theorem setLink_time (n : Nat) (x : Link) (d : Dev) : (setLink n x d).time = d.time := rfl
@[simp] theorem setLink_store (n : Nat) (x : Link) (d : Dev) : (setLink n x d).store = d.store := rfl
@[simp] theorem setLink_engs (n : Nat) (x : Link) (d : Dev) : (setLink n x d).engs = d.engs := rfl
@[simp] theorem setLink_clus (n : Nat) (x : Link) (d : Dev) : (setLink n x d).clus = d.clus := rfl
@[simp] theorem setLink_ctx (n : Nat) (x : Link) (d : Dev) : (setLink n x d).ctx = d.ctx := rfl
@[simp] theorem setLink_pwr (n : Nat) (x : Link) (d : Dev) : (setLink n x d).pwr = d.pwr := rfl
@[simp] theorem setLink_sec (n : Nat) (x : Link) (d : Dev) : (setLink n x d).sec = d.sec := rfl
@[simp] theorem setLink_sys (n : Nat) (x : Link) (d : Dev) : (setLink n x d).sys = d.sys := rfl
@[simp] theorem setLink_undef (n : Nat) (x : Link) (d : Dev) : (setLink n x d).undef = d.undef := rfl
@[simp] theorem setLink_undefNew (n : Nat) (x : Link) (d : Dev) : (setLink n x d).undefNew = d.undefNew := rfl
@[simp] theorem setLink_freeCtr (n : Nat) (x : Link) (d : Dev) : (setLink n x d).freeCtr = d.freeCtr := rfl
@[simp] theorem dget_setLink (q : Reg) (n : Nat) (x : Link) (d : Dev) : dget q (setLink n x d) = dget q d := rfl
@[simp] theorem portOf_setLink (k : Nat) (n : Nat) (x : Link) (d : Dev) : portOf (setLink n x d) k = portOf d k := rfl
@[simp] theorem laneOf_setLink (k : Nat) (n : Nat) (x : Link) (d : Dev) : laneOf (setLink n x d) k = laneOf d k := rfl
@[simp] theorem chanOf_setLink (k : Nat) (n : Nat) (x : Link) (d : Dev) : chanOf (setLink n x d) k = chanOf d k := rfl
@[simp] theorem coreOf_setLink (k : Nat) (n : Nat) (x : Link) (d : Dev) : coreOf (setLink n x d) k = coreOf d k := rfl
@[simp] theorem frameOf_setLink (k : Nat) (n : Nat) (x : Link) (d : Dev) : frameOf (setLink n x d) k = frameOf d k := rfl
@[simp] theorem engOf_setLink (k : Nat) (n : Nat) (x : Link) (d : Dev) : engOf (setLink n x d) k = engOf d k := rfl
@[simp] theorem ringOf_setLink (k : Nat) (n : Nat) (x : Link) (d : Dev) : ringOf (setLink n x d) k = ringOf d k := rfl

@[simp] theorem modLink_now (n : Nat) (g : Link → Link) (d : Dev) : (modLink n g d).now = d.now := rfl
@[simp] theorem modLink_dict (n : Nat) (g : Link → Link) (d : Dev) : (modLink n g d).dict = d.dict := rfl
@[simp] theorem modLink_fuses (n : Nat) (g : Link → Link) (d : Dev) : (modLink n g d).fuses = d.fuses := rfl
@[simp] theorem modLink_pins (n : Nat) (g : Link → Link) (d : Dev) : (modLink n g d).pins = d.pins := rfl
@[simp] theorem modLink_ctl (n : Nat) (g : Link → Link) (d : Dev) : (modLink n g d).ctl = d.ctl := rfl
@[simp] theorem modLink_grid (n : Nat) (g : Link → Link) (d : Dev) : (modLink n g d).grid = d.grid := rfl
@[simp] theorem modLink_pll (n : Nat) (g : Link → Link) (d : Dev) : (modLink n g d).pll = d.pll := rfl
@[simp] theorem modLink_ports (n : Nat) (g : Link → Link) (d : Dev) : (modLink n g d).ports = d.ports := rfl
@[simp] theorem modLink_lanes (n : Nat) (g : Link → Link) (d : Dev) : (modLink n g d).lanes = d.lanes := rfl
@[simp] theorem modLink_chans (n : Nat) (g : Link → Link) (d : Dev) : (modLink n g d).chans = d.chans := rfl
@[simp] theorem modLink_edges (n : Nat) (g : Link → Link) (d : Dev) : (modLink n g d).edges = d.edges := rfl
@[simp] theorem modLink_cores (n : Nat) (g : Link → Link) (d : Dev) : (modLink n g d).cores = d.cores := rfl
@[simp] theorem modLink_fab (n : Nat) (g : Link → Link) (d : Dev) : (modLink n g d).fab = d.fab := rfl
@[simp] theorem modLink_enc (n : Nat) (g : Link → Link) (d : Dev) : (modLink n g d).enc = d.enc := rfl
@[simp] theorem modLink_ldr (n : Nat) (g : Link → Link) (d : Dev) : (modLink n g d).ldr = d.ldr := rfl
@[simp] theorem modLink_frames (n : Nat) (g : Link → Link) (d : Dev) : (modLink n g d).frames = d.frames := rfl
@[simp] theorem modLink_trig (n : Nat) (g : Link → Link) (d : Dev) : (modLink n g d).trig = d.trig := rfl
@[simp] theorem modLink_flt (n : Nat) (g : Link → Link) (d : Dev) : (modLink n g d).flt = d.flt := rfl
@[simp] theorem modLink_host (n : Nat) (g : Link → Link) (d : Dev) : (modLink n g d).host = d.host := rfl
@[simp] theorem modLink_time (n : Nat) (g : Link → Link) (d : Dev) : (modLink n g d).time = d.time := rfl
@[simp] theorem modLink_store (n : Nat) (g : Link → Link) (d : Dev) : (modLink n g d).store = d.store := rfl
@[simp] theorem modLink_engs (n : Nat) (g : Link → Link) (d : Dev) : (modLink n g d).engs = d.engs := rfl
@[simp] theorem modLink_clus (n : Nat) (g : Link → Link) (d : Dev) : (modLink n g d).clus = d.clus := rfl
@[simp] theorem modLink_ctx (n : Nat) (g : Link → Link) (d : Dev) : (modLink n g d).ctx = d.ctx := rfl
@[simp] theorem modLink_pwr (n : Nat) (g : Link → Link) (d : Dev) : (modLink n g d).pwr = d.pwr := rfl
@[simp] theorem modLink_sec (n : Nat) (g : Link → Link) (d : Dev) : (modLink n g d).sec = d.sec := rfl
@[simp] theorem modLink_sys (n : Nat) (g : Link → Link) (d : Dev) : (modLink n g d).sys = d.sys := rfl
@[simp] theorem modLink_undef (n : Nat) (g : Link → Link) (d : Dev) : (modLink n g d).undef = d.undef := rfl
@[simp] theorem modLink_undefNew (n : Nat) (g : Link → Link) (d : Dev) : (modLink n g d).undefNew = d.undefNew := rfl
@[simp] theorem modLink_freeCtr (n : Nat) (g : Link → Link) (d : Dev) : (modLink n g d).freeCtr = d.freeCtr := rfl
@[simp] theorem dget_modLink (q : Reg) (n : Nat) (g : Link → Link) (d : Dev) : dget q (modLink n g d) = dget q d := rfl
@[simp] theorem portOf_modLink (k : Nat) (n : Nat) (g : Link → Link) (d : Dev) : portOf (modLink n g d) k = portOf d k := rfl
@[simp] theorem laneOf_modLink (k : Nat) (n : Nat) (g : Link → Link) (d : Dev) : laneOf (modLink n g d) k = laneOf d k := rfl
@[simp] theorem chanOf_modLink (k : Nat) (n : Nat) (g : Link → Link) (d : Dev) : chanOf (modLink n g d) k = chanOf d k := rfl
@[simp] theorem coreOf_modLink (k : Nat) (n : Nat) (g : Link → Link) (d : Dev) : coreOf (modLink n g d) k = coreOf d k := rfl
@[simp] theorem frameOf_modLink (k : Nat) (n : Nat) (g : Link → Link) (d : Dev) : frameOf (modLink n g d) k = frameOf d k := rfl
@[simp] theorem engOf_modLink (k : Nat) (n : Nat) (g : Link → Link) (d : Dev) : engOf (modLink n g d) k = engOf d k := rfl
@[simp] theorem ringOf_modLink (k : Nat) (n : Nat) (g : Link → Link) (d : Dev) : ringOf (modLink n g d) k = ringOf d k := rfl

@[simp] theorem modCtl_now (g : Ctl → Ctl) (d : Dev) : (modCtl g d).now = d.now := rfl
@[simp] theorem modCtl_dict (g : Ctl → Ctl) (d : Dev) : (modCtl g d).dict = d.dict := rfl
@[simp] theorem modCtl_fuses (g : Ctl → Ctl) (d : Dev) : (modCtl g d).fuses = d.fuses := rfl
@[simp] theorem modCtl_pins (g : Ctl → Ctl) (d : Dev) : (modCtl g d).pins = d.pins := rfl
@[simp] theorem modCtl_grid (g : Ctl → Ctl) (d : Dev) : (modCtl g d).grid = d.grid := rfl
@[simp] theorem modCtl_pll (g : Ctl → Ctl) (d : Dev) : (modCtl g d).pll = d.pll := rfl
@[simp] theorem modCtl_ports (g : Ctl → Ctl) (d : Dev) : (modCtl g d).ports = d.ports := rfl
@[simp] theorem modCtl_lanes (g : Ctl → Ctl) (d : Dev) : (modCtl g d).lanes = d.lanes := rfl
@[simp] theorem modCtl_chans (g : Ctl → Ctl) (d : Dev) : (modCtl g d).chans = d.chans := rfl
@[simp] theorem modCtl_edges (g : Ctl → Ctl) (d : Dev) : (modCtl g d).edges = d.edges := rfl
@[simp] theorem modCtl_cores (g : Ctl → Ctl) (d : Dev) : (modCtl g d).cores = d.cores := rfl
@[simp] theorem modCtl_fab (g : Ctl → Ctl) (d : Dev) : (modCtl g d).fab = d.fab := rfl
@[simp] theorem modCtl_enc (g : Ctl → Ctl) (d : Dev) : (modCtl g d).enc = d.enc := rfl
@[simp] theorem modCtl_ldr (g : Ctl → Ctl) (d : Dev) : (modCtl g d).ldr = d.ldr := rfl
@[simp] theorem modCtl_frames (g : Ctl → Ctl) (d : Dev) : (modCtl g d).frames = d.frames := rfl
@[simp] theorem modCtl_trig (g : Ctl → Ctl) (d : Dev) : (modCtl g d).trig = d.trig := rfl
@[simp] theorem modCtl_flt (g : Ctl → Ctl) (d : Dev) : (modCtl g d).flt = d.flt := rfl
@[simp] theorem modCtl_host (g : Ctl → Ctl) (d : Dev) : (modCtl g d).host = d.host := rfl
@[simp] theorem modCtl_time (g : Ctl → Ctl) (d : Dev) : (modCtl g d).time = d.time := rfl
@[simp] theorem modCtl_store (g : Ctl → Ctl) (d : Dev) : (modCtl g d).store = d.store := rfl
@[simp] theorem modCtl_engs (g : Ctl → Ctl) (d : Dev) : (modCtl g d).engs = d.engs := rfl
@[simp] theorem modCtl_clus (g : Ctl → Ctl) (d : Dev) : (modCtl g d).clus = d.clus := rfl
@[simp] theorem modCtl_ctx (g : Ctl → Ctl) (d : Dev) : (modCtl g d).ctx = d.ctx := rfl
@[simp] theorem modCtl_lnk (g : Ctl → Ctl) (d : Dev) : (modCtl g d).lnk = d.lnk := rfl
@[simp] theorem modCtl_pwr (g : Ctl → Ctl) (d : Dev) : (modCtl g d).pwr = d.pwr := rfl
@[simp] theorem modCtl_sec (g : Ctl → Ctl) (d : Dev) : (modCtl g d).sec = d.sec := rfl
@[simp] theorem modCtl_sys (g : Ctl → Ctl) (d : Dev) : (modCtl g d).sys = d.sys := rfl
@[simp] theorem modCtl_undef (g : Ctl → Ctl) (d : Dev) : (modCtl g d).undef = d.undef := rfl
@[simp] theorem modCtl_undefNew (g : Ctl → Ctl) (d : Dev) : (modCtl g d).undefNew = d.undefNew := rfl
@[simp] theorem modCtl_freeCtr (g : Ctl → Ctl) (d : Dev) : (modCtl g d).freeCtr = d.freeCtr := rfl
@[simp] theorem modCtl_ctl (g : Ctl → Ctl) (d : Dev) : (modCtl g d).ctl = g d.ctl := rfl
@[simp] theorem dget_modCtl (q : Reg) (g : Ctl → Ctl) (d : Dev) : dget q (modCtl g d) = dget q d := rfl
@[simp] theorem portOf_modCtl (k : Nat) (g : Ctl → Ctl) (d : Dev) : portOf (modCtl g d) k = portOf d k := rfl
@[simp] theorem laneOf_modCtl (k : Nat) (g : Ctl → Ctl) (d : Dev) : laneOf (modCtl g d) k = laneOf d k := rfl
@[simp] theorem chanOf_modCtl (k : Nat) (g : Ctl → Ctl) (d : Dev) : chanOf (modCtl g d) k = chanOf d k := rfl
@[simp] theorem coreOf_modCtl (k : Nat) (g : Ctl → Ctl) (d : Dev) : coreOf (modCtl g d) k = coreOf d k := rfl
@[simp] theorem frameOf_modCtl (k : Nat) (g : Ctl → Ctl) (d : Dev) : frameOf (modCtl g d) k = frameOf d k := rfl
@[simp] theorem engOf_modCtl (k : Nat) (g : Ctl → Ctl) (d : Dev) : engOf (modCtl g d) k = engOf d k := rfl
@[simp] theorem ringOf_modCtl (k : Nat) (g : Ctl → Ctl) (d : Dev) : ringOf (modCtl g d) k = ringOf d k := rfl
@[simp] theorem linkOf_modCtl (k : Nat) (g : Ctl → Ctl) (d : Dev) : linkOf (modCtl g d) k = linkOf d k := rfl

@[simp] theorem modCtx_now (g : Ctx → Ctx) (d : Dev) : (modCtx g d).now = d.now := rfl
@[simp] theorem modCtx_dict (g : Ctx → Ctx) (d : Dev) : (modCtx g d).dict = d.dict := rfl
@[simp] theorem modCtx_fuses (g : Ctx → Ctx) (d : Dev) : (modCtx g d).fuses = d.fuses := rfl
@[simp] theorem modCtx_pins (g : Ctx → Ctx) (d : Dev) : (modCtx g d).pins = d.pins := rfl
@[simp] theorem modCtx_ctl (g : Ctx → Ctx) (d : Dev) : (modCtx g d).ctl = d.ctl := rfl
@[simp] theorem modCtx_grid (g : Ctx → Ctx) (d : Dev) : (modCtx g d).grid = d.grid := rfl
@[simp] theorem modCtx_pll (g : Ctx → Ctx) (d : Dev) : (modCtx g d).pll = d.pll := rfl
@[simp] theorem modCtx_ports (g : Ctx → Ctx) (d : Dev) : (modCtx g d).ports = d.ports := rfl
@[simp] theorem modCtx_lanes (g : Ctx → Ctx) (d : Dev) : (modCtx g d).lanes = d.lanes := rfl
@[simp] theorem modCtx_chans (g : Ctx → Ctx) (d : Dev) : (modCtx g d).chans = d.chans := rfl
@[simp] theorem modCtx_edges (g : Ctx → Ctx) (d : Dev) : (modCtx g d).edges = d.edges := rfl
@[simp] theorem modCtx_cores (g : Ctx → Ctx) (d : Dev) : (modCtx g d).cores = d.cores := rfl
@[simp] theorem modCtx_fab (g : Ctx → Ctx) (d : Dev) : (modCtx g d).fab = d.fab := rfl
@[simp] theorem modCtx_enc (g : Ctx → Ctx) (d : Dev) : (modCtx g d).enc = d.enc := rfl
@[simp] theorem modCtx_ldr (g : Ctx → Ctx) (d : Dev) : (modCtx g d).ldr = d.ldr := rfl
@[simp] theorem modCtx_frames (g : Ctx → Ctx) (d : Dev) : (modCtx g d).frames = d.frames := rfl
@[simp] theorem modCtx_trig (g : Ctx → Ctx) (d : Dev) : (modCtx g d).trig = d.trig := rfl
@[simp] theorem modCtx_flt (g : Ctx → Ctx) (d : Dev) : (modCtx g d).flt = d.flt := rfl
@[simp] theorem modCtx_host (g : Ctx → Ctx) (d : Dev) : (modCtx g d).host = d.host := rfl
@[simp] theorem modCtx_time (g : Ctx → Ctx) (d : Dev) : (modCtx g d).time = d.time := rfl
@[simp] theorem modCtx_store (g : Ctx → Ctx) (d : Dev) : (modCtx g d).store = d.store := rfl
@[simp] theorem modCtx_engs (g : Ctx → Ctx) (d : Dev) : (modCtx g d).engs = d.engs := rfl
@[simp] theorem modCtx_clus (g : Ctx → Ctx) (d : Dev) : (modCtx g d).clus = d.clus := rfl
@[simp] theorem modCtx_lnk (g : Ctx → Ctx) (d : Dev) : (modCtx g d).lnk = d.lnk := rfl
@[simp] theorem modCtx_pwr (g : Ctx → Ctx) (d : Dev) : (modCtx g d).pwr = d.pwr := rfl
@[simp] theorem modCtx_sec (g : Ctx → Ctx) (d : Dev) : (modCtx g d).sec = d.sec := rfl
@[simp] theorem modCtx_sys (g : Ctx → Ctx) (d : Dev) : (modCtx g d).sys = d.sys := rfl
@[simp] theorem modCtx_undef (g : Ctx → Ctx) (d : Dev) : (modCtx g d).undef = d.undef := rfl
@[simp] theorem modCtx_undefNew (g : Ctx → Ctx) (d : Dev) : (modCtx g d).undefNew = d.undefNew := rfl
@[simp] theorem modCtx_freeCtr (g : Ctx → Ctx) (d : Dev) : (modCtx g d).freeCtr = d.freeCtr := rfl
@[simp] theorem modCtx_ctx (g : Ctx → Ctx) (d : Dev) : (modCtx g d).ctx = g d.ctx := rfl
@[simp] theorem dget_modCtx (q : Reg) (g : Ctx → Ctx) (d : Dev) : dget q (modCtx g d) = dget q d := rfl
@[simp] theorem portOf_modCtx (k : Nat) (g : Ctx → Ctx) (d : Dev) : portOf (modCtx g d) k = portOf d k := rfl
@[simp] theorem laneOf_modCtx (k : Nat) (g : Ctx → Ctx) (d : Dev) : laneOf (modCtx g d) k = laneOf d k := rfl
@[simp] theorem chanOf_modCtx (k : Nat) (g : Ctx → Ctx) (d : Dev) : chanOf (modCtx g d) k = chanOf d k := rfl
@[simp] theorem coreOf_modCtx (k : Nat) (g : Ctx → Ctx) (d : Dev) : coreOf (modCtx g d) k = coreOf d k := rfl
@[simp] theorem frameOf_modCtx (k : Nat) (g : Ctx → Ctx) (d : Dev) : frameOf (modCtx g d) k = frameOf d k := rfl
@[simp] theorem engOf_modCtx (k : Nat) (g : Ctx → Ctx) (d : Dev) : engOf (modCtx g d) k = engOf d k := rfl
@[simp] theorem ringOf_modCtx (k : Nat) (g : Ctx → Ctx) (d : Dev) : ringOf (modCtx g d) k = ringOf d k := rfl
@[simp] theorem linkOf_modCtx (k : Nat) (g : Ctx → Ctx) (d : Dev) : linkOf (modCtx g d) k = linkOf d k := rfl

@[simp] theorem modFlt_now (g : Flt → Flt) (d : Dev) : (modFlt g d).now = d.now := rfl
@[simp] theorem modFlt_dict (g : Flt → Flt) (d : Dev) : (modFlt g d).dict = d.dict := rfl
@[simp] theorem modFlt_fuses (g : Flt → Flt) (d : Dev) : (modFlt g d).fuses = d.fuses := rfl
@[simp] theorem modFlt_pins (g : Flt → Flt) (d : Dev) : (modFlt g d).pins = d.pins := rfl
@[simp] theorem modFlt_ctl (g : Flt → Flt) (d : Dev) : (modFlt g d).ctl = d.ctl := rfl
@[simp] theorem modFlt_grid (g : Flt → Flt) (d : Dev) : (modFlt g d).grid = d.grid := rfl
@[simp] theorem modFlt_pll (g : Flt → Flt) (d : Dev) : (modFlt g d).pll = d.pll := rfl
@[simp] theorem modFlt_ports (g : Flt → Flt) (d : Dev) : (modFlt g d).ports = d.ports := rfl
@[simp] theorem modFlt_lanes (g : Flt → Flt) (d : Dev) : (modFlt g d).lanes = d.lanes := rfl
@[simp] theorem modFlt_chans (g : Flt → Flt) (d : Dev) : (modFlt g d).chans = d.chans := rfl
@[simp] theorem modFlt_edges (g : Flt → Flt) (d : Dev) : (modFlt g d).edges = d.edges := rfl
@[simp] theorem modFlt_cores (g : Flt → Flt) (d : Dev) : (modFlt g d).cores = d.cores := rfl
@[simp] theorem modFlt_fab (g : Flt → Flt) (d : Dev) : (modFlt g d).fab = d.fab := rfl
@[simp] theorem modFlt_enc (g : Flt → Flt) (d : Dev) : (modFlt g d).enc = d.enc := rfl
@[simp] theorem modFlt_ldr (g : Flt → Flt) (d : Dev) : (modFlt g d).ldr = d.ldr := rfl
@[simp] theorem modFlt_frames (g : Flt → Flt) (d : Dev) : (modFlt g d).frames = d.frames := rfl
@[simp] theorem modFlt_trig (g : Flt → Flt) (d : Dev) : (modFlt g d).trig = d.trig := rfl
@[simp] theorem modFlt_host (g : Flt → Flt) (d : Dev) : (modFlt g d).host = d.host := rfl
@[simp] theorem modFlt_time (g : Flt → Flt) (d : Dev) : (modFlt g d).time = d.time := rfl
@[simp] theorem modFlt_store (g : Flt → Flt) (d : Dev) : (modFlt g d).store = d.store := rfl
@[simp] theorem modFlt_engs (g : Flt → Flt) (d : Dev) : (modFlt g d).engs = d.engs := rfl
@[simp] theorem modFlt_clus (g : Flt → Flt) (d : Dev) : (modFlt g d).clus = d.clus := rfl
@[simp] theorem modFlt_ctx (g : Flt → Flt) (d : Dev) : (modFlt g d).ctx = d.ctx := rfl
@[simp] theorem modFlt_lnk (g : Flt → Flt) (d : Dev) : (modFlt g d).lnk = d.lnk := rfl
@[simp] theorem modFlt_pwr (g : Flt → Flt) (d : Dev) : (modFlt g d).pwr = d.pwr := rfl
@[simp] theorem modFlt_sec (g : Flt → Flt) (d : Dev) : (modFlt g d).sec = d.sec := rfl
@[simp] theorem modFlt_sys (g : Flt → Flt) (d : Dev) : (modFlt g d).sys = d.sys := rfl
@[simp] theorem modFlt_undef (g : Flt → Flt) (d : Dev) : (modFlt g d).undef = d.undef := rfl
@[simp] theorem modFlt_undefNew (g : Flt → Flt) (d : Dev) : (modFlt g d).undefNew = d.undefNew := rfl
@[simp] theorem modFlt_freeCtr (g : Flt → Flt) (d : Dev) : (modFlt g d).freeCtr = d.freeCtr := rfl
@[simp] theorem modFlt_flt (g : Flt → Flt) (d : Dev) : (modFlt g d).flt = g d.flt := rfl
@[simp] theorem dget_modFlt (q : Reg) (g : Flt → Flt) (d : Dev) : dget q (modFlt g d) = dget q d := rfl
@[simp] theorem portOf_modFlt (k : Nat) (g : Flt → Flt) (d : Dev) : portOf (modFlt g d) k = portOf d k := rfl
@[simp] theorem laneOf_modFlt (k : Nat) (g : Flt → Flt) (d : Dev) : laneOf (modFlt g d) k = laneOf d k := rfl
@[simp] theorem chanOf_modFlt (k : Nat) (g : Flt → Flt) (d : Dev) : chanOf (modFlt g d) k = chanOf d k := rfl
@[simp] theorem coreOf_modFlt (k : Nat) (g : Flt → Flt) (d : Dev) : coreOf (modFlt g d) k = coreOf d k := rfl
@[simp] theorem frameOf_modFlt (k : Nat) (g : Flt → Flt) (d : Dev) : frameOf (modFlt g d) k = frameOf d k := rfl
@[simp] theorem engOf_modFlt (k : Nat) (g : Flt → Flt) (d : Dev) : engOf (modFlt g d) k = engOf d k := rfl
@[simp] theorem ringOf_modFlt (k : Nat) (g : Flt → Flt) (d : Dev) : ringOf (modFlt g d) k = ringOf d k := rfl
@[simp] theorem linkOf_modFlt (k : Nat) (g : Flt → Flt) (d : Dev) : linkOf (modFlt g d) k = linkOf d k := rfl

@[simp] theorem modSec_now (g : Sec → Sec) (d : Dev) : (modSec g d).now = d.now := rfl
@[simp] theorem modSec_dict (g : Sec → Sec) (d : Dev) : (modSec g d).dict = d.dict := rfl
@[simp] theorem modSec_fuses (g : Sec → Sec) (d : Dev) : (modSec g d).fuses = d.fuses := rfl
@[simp] theorem modSec_pins (g : Sec → Sec) (d : Dev) : (modSec g d).pins = d.pins := rfl
@[simp] theorem modSec_ctl (g : Sec → Sec) (d : Dev) : (modSec g d).ctl = d.ctl := rfl
@[simp] theorem modSec_grid (g : Sec → Sec) (d : Dev) : (modSec g d).grid = d.grid := rfl
@[simp] theorem modSec_pll (g : Sec → Sec) (d : Dev) : (modSec g d).pll = d.pll := rfl
@[simp] theorem modSec_ports (g : Sec → Sec) (d : Dev) : (modSec g d).ports = d.ports := rfl
@[simp] theorem modSec_lanes (g : Sec → Sec) (d : Dev) : (modSec g d).lanes = d.lanes := rfl
@[simp] theorem modSec_chans (g : Sec → Sec) (d : Dev) : (modSec g d).chans = d.chans := rfl
@[simp] theorem modSec_edges (g : Sec → Sec) (d : Dev) : (modSec g d).edges = d.edges := rfl
@[simp] theorem modSec_cores (g : Sec → Sec) (d : Dev) : (modSec g d).cores = d.cores := rfl
@[simp] theorem modSec_fab (g : Sec → Sec) (d : Dev) : (modSec g d).fab = d.fab := rfl
@[simp] theorem modSec_enc (g : Sec → Sec) (d : Dev) : (modSec g d).enc = d.enc := rfl
@[simp] theorem modSec_ldr (g : Sec → Sec) (d : Dev) : (modSec g d).ldr = d.ldr := rfl
@[simp] theorem modSec_frames (g : Sec → Sec) (d : Dev) : (modSec g d).frames = d.frames := rfl
@[simp] theorem modSec_trig (g : Sec → Sec) (d : Dev) : (modSec g d).trig = d.trig := rfl
@[simp] theorem modSec_flt (g : Sec → Sec) (d : Dev) : (modSec g d).flt = d.flt := rfl
@[simp] theorem modSec_host (g : Sec → Sec) (d : Dev) : (modSec g d).host = d.host := rfl
@[simp] theorem modSec_time (g : Sec → Sec) (d : Dev) : (modSec g d).time = d.time := rfl
@[simp] theorem modSec_store (g : Sec → Sec) (d : Dev) : (modSec g d).store = d.store := rfl
@[simp] theorem modSec_engs (g : Sec → Sec) (d : Dev) : (modSec g d).engs = d.engs := rfl
@[simp] theorem modSec_clus (g : Sec → Sec) (d : Dev) : (modSec g d).clus = d.clus := rfl
@[simp] theorem modSec_ctx (g : Sec → Sec) (d : Dev) : (modSec g d).ctx = d.ctx := rfl
@[simp] theorem modSec_lnk (g : Sec → Sec) (d : Dev) : (modSec g d).lnk = d.lnk := rfl
@[simp] theorem modSec_pwr (g : Sec → Sec) (d : Dev) : (modSec g d).pwr = d.pwr := rfl
@[simp] theorem modSec_sys (g : Sec → Sec) (d : Dev) : (modSec g d).sys = d.sys := rfl
@[simp] theorem modSec_undef (g : Sec → Sec) (d : Dev) : (modSec g d).undef = d.undef := rfl
@[simp] theorem modSec_undefNew (g : Sec → Sec) (d : Dev) : (modSec g d).undefNew = d.undefNew := rfl
@[simp] theorem modSec_freeCtr (g : Sec → Sec) (d : Dev) : (modSec g d).freeCtr = d.freeCtr := rfl
@[simp] theorem modSec_sec (g : Sec → Sec) (d : Dev) : (modSec g d).sec = g d.sec := rfl
@[simp] theorem dget_modSec (q : Reg) (g : Sec → Sec) (d : Dev) : dget q (modSec g d) = dget q d := rfl
@[simp] theorem portOf_modSec (k : Nat) (g : Sec → Sec) (d : Dev) : portOf (modSec g d) k = portOf d k := rfl
@[simp] theorem laneOf_modSec (k : Nat) (g : Sec → Sec) (d : Dev) : laneOf (modSec g d) k = laneOf d k := rfl
@[simp] theorem chanOf_modSec (k : Nat) (g : Sec → Sec) (d : Dev) : chanOf (modSec g d) k = chanOf d k := rfl
@[simp] theorem coreOf_modSec (k : Nat) (g : Sec → Sec) (d : Dev) : coreOf (modSec g d) k = coreOf d k := rfl
@[simp] theorem frameOf_modSec (k : Nat) (g : Sec → Sec) (d : Dev) : frameOf (modSec g d) k = frameOf d k := rfl
@[simp] theorem engOf_modSec (k : Nat) (g : Sec → Sec) (d : Dev) : engOf (modSec g d) k = engOf d k := rfl
@[simp] theorem ringOf_modSec (k : Nat) (g : Sec → Sec) (d : Dev) : ringOf (modSec g d) k = ringOf d k := rfl
@[simp] theorem linkOf_modSec (k : Nat) (g : Sec → Sec) (d : Dev) : linkOf (modSec g d) k = linkOf d k := rfl

@[simp] theorem modFuses_now (g : Fuses → Fuses) (d : Dev) : (modFuses g d).now = d.now := rfl
@[simp] theorem modFuses_dict (g : Fuses → Fuses) (d : Dev) : (modFuses g d).dict = d.dict := rfl
@[simp] theorem modFuses_pins (g : Fuses → Fuses) (d : Dev) : (modFuses g d).pins = d.pins := rfl
@[simp] theorem modFuses_ctl (g : Fuses → Fuses) (d : Dev) : (modFuses g d).ctl = d.ctl := rfl
@[simp] theorem modFuses_grid (g : Fuses → Fuses) (d : Dev) : (modFuses g d).grid = d.grid := rfl
@[simp] theorem modFuses_pll (g : Fuses → Fuses) (d : Dev) : (modFuses g d).pll = d.pll := rfl
@[simp] theorem modFuses_ports (g : Fuses → Fuses) (d : Dev) : (modFuses g d).ports = d.ports := rfl
@[simp] theorem modFuses_lanes (g : Fuses → Fuses) (d : Dev) : (modFuses g d).lanes = d.lanes := rfl
@[simp] theorem modFuses_chans (g : Fuses → Fuses) (d : Dev) : (modFuses g d).chans = d.chans := rfl
@[simp] theorem modFuses_edges (g : Fuses → Fuses) (d : Dev) : (modFuses g d).edges = d.edges := rfl
@[simp] theorem modFuses_cores (g : Fuses → Fuses) (d : Dev) : (modFuses g d).cores = d.cores := rfl
@[simp] theorem modFuses_fab (g : Fuses → Fuses) (d : Dev) : (modFuses g d).fab = d.fab := rfl
@[simp] theorem modFuses_enc (g : Fuses → Fuses) (d : Dev) : (modFuses g d).enc = d.enc := rfl
@[simp] theorem modFuses_ldr (g : Fuses → Fuses) (d : Dev) : (modFuses g d).ldr = d.ldr := rfl
@[simp] theorem modFuses_frames (g : Fuses → Fuses) (d : Dev) : (modFuses g d).frames = d.frames := rfl
@[simp] theorem modFuses_trig (g : Fuses → Fuses) (d : Dev) : (modFuses g d).trig = d.trig := rfl
@[simp] theorem modFuses_flt (g : Fuses → Fuses) (d : Dev) : (modFuses g d).flt = d.flt := rfl
@[simp] theorem modFuses_host (g : Fuses → Fuses) (d : Dev) : (modFuses g d).host = d.host := rfl
@[simp] theorem modFuses_time (g : Fuses → Fuses) (d : Dev) : (modFuses g d).time = d.time := rfl
@[simp] theorem modFuses_store (g : Fuses → Fuses) (d : Dev) : (modFuses g d).store = d.store := rfl
@[simp] theorem modFuses_engs (g : Fuses → Fuses) (d : Dev) : (modFuses g d).engs = d.engs := rfl
@[simp] theorem modFuses_clus (g : Fuses → Fuses) (d : Dev) : (modFuses g d).clus = d.clus := rfl
@[simp] theorem modFuses_ctx (g : Fuses → Fuses) (d : Dev) : (modFuses g d).ctx = d.ctx := rfl
@[simp] theorem modFuses_lnk (g : Fuses → Fuses) (d : Dev) : (modFuses g d).lnk = d.lnk := rfl
@[simp] theorem modFuses_pwr (g : Fuses → Fuses) (d : Dev) : (modFuses g d).pwr = d.pwr := rfl
@[simp] theorem modFuses_sec (g : Fuses → Fuses) (d : Dev) : (modFuses g d).sec = d.sec := rfl
@[simp] theorem modFuses_sys (g : Fuses → Fuses) (d : Dev) : (modFuses g d).sys = d.sys := rfl
@[simp] theorem modFuses_undef (g : Fuses → Fuses) (d : Dev) : (modFuses g d).undef = d.undef := rfl
@[simp] theorem modFuses_undefNew (g : Fuses → Fuses) (d : Dev) : (modFuses g d).undefNew = d.undefNew := rfl
@[simp] theorem modFuses_freeCtr (g : Fuses → Fuses) (d : Dev) : (modFuses g d).freeCtr = d.freeCtr := rfl
@[simp] theorem modFuses_fuses (g : Fuses → Fuses) (d : Dev) : (modFuses g d).fuses = g d.fuses := rfl
@[simp] theorem dget_modFuses (q : Reg) (g : Fuses → Fuses) (d : Dev) : dget q (modFuses g d) = dget q d := rfl
@[simp] theorem portOf_modFuses (k : Nat) (g : Fuses → Fuses) (d : Dev) : portOf (modFuses g d) k = portOf d k := rfl
@[simp] theorem laneOf_modFuses (k : Nat) (g : Fuses → Fuses) (d : Dev) : laneOf (modFuses g d) k = laneOf d k := rfl
@[simp] theorem chanOf_modFuses (k : Nat) (g : Fuses → Fuses) (d : Dev) : chanOf (modFuses g d) k = chanOf d k := rfl
@[simp] theorem coreOf_modFuses (k : Nat) (g : Fuses → Fuses) (d : Dev) : coreOf (modFuses g d) k = coreOf d k := rfl
@[simp] theorem frameOf_modFuses (k : Nat) (g : Fuses → Fuses) (d : Dev) : frameOf (modFuses g d) k = frameOf d k := rfl
@[simp] theorem engOf_modFuses (k : Nat) (g : Fuses → Fuses) (d : Dev) : engOf (modFuses g d) k = engOf d k := rfl
@[simp] theorem ringOf_modFuses (k : Nat) (g : Fuses → Fuses) (d : Dev) : ringOf (modFuses g d) k = ringOf d k := rfl
@[simp] theorem linkOf_modFuses (k : Nat) (g : Fuses → Fuses) (d : Dev) : linkOf (modFuses g d) k = linkOf d k := rfl

@[simp] theorem modPwr_now (g : Pwr → Pwr) (d : Dev) : (modPwr g d).now = d.now := rfl
@[simp] theorem modPwr_dict (g : Pwr → Pwr) (d : Dev) : (modPwr g d).dict = d.dict := rfl
@[simp] theorem modPwr_fuses (g : Pwr → Pwr) (d : Dev) : (modPwr g d).fuses = d.fuses := rfl
@[simp] theorem modPwr_pins (g : Pwr → Pwr) (d : Dev) : (modPwr g d).pins = d.pins := rfl
@[simp] theorem modPwr_ctl (g : Pwr → Pwr) (d : Dev) : (modPwr g d).ctl = d.ctl := rfl
@[simp] theorem modPwr_grid (g : Pwr → Pwr) (d : Dev) : (modPwr g d).grid = d.grid := rfl
@[simp] theorem modPwr_pll (g : Pwr → Pwr) (d : Dev) : (modPwr g d).pll = d.pll := rfl
@[simp] theorem modPwr_ports (g : Pwr → Pwr) (d : Dev) : (modPwr g d).ports = d.ports := rfl
@[simp] theorem modPwr_lanes (g : Pwr → Pwr) (d : Dev) : (modPwr g d).lanes = d.lanes := rfl
@[simp] theorem modPwr_chans (g : Pwr → Pwr) (d : Dev) : (modPwr g d).chans = d.chans := rfl
@[simp] theorem modPwr_edges (g : Pwr → Pwr) (d : Dev) : (modPwr g d).edges = d.edges := rfl
@[simp] theorem modPwr_cores (g : Pwr → Pwr) (d : Dev) : (modPwr g d).cores = d.cores := rfl
@[simp] theorem modPwr_fab (g : Pwr → Pwr) (d : Dev) : (modPwr g d).fab = d.fab := rfl
@[simp] theorem modPwr_enc (g : Pwr → Pwr) (d : Dev) : (modPwr g d).enc = d.enc := rfl
@[simp] theorem modPwr_ldr (g : Pwr → Pwr) (d : Dev) : (modPwr g d).ldr = d.ldr := rfl
@[simp] theorem modPwr_frames (g : Pwr → Pwr) (d : Dev) : (modPwr g d).frames = d.frames := rfl
@[simp] theorem modPwr_trig (g : Pwr → Pwr) (d : Dev) : (modPwr g d).trig = d.trig := rfl
@[simp] theorem modPwr_flt (g : Pwr → Pwr) (d : Dev) : (modPwr g d).flt = d.flt := rfl
@[simp] theorem modPwr_host (g : Pwr → Pwr) (d : Dev) : (modPwr g d).host = d.host := rfl
@[simp] theorem modPwr_time (g : Pwr → Pwr) (d : Dev) : (modPwr g d).time = d.time := rfl
@[simp] theorem modPwr_store (g : Pwr → Pwr) (d : Dev) : (modPwr g d).store = d.store := rfl
@[simp] theorem modPwr_engs (g : Pwr → Pwr) (d : Dev) : (modPwr g d).engs = d.engs := rfl
@[simp] theorem modPwr_clus (g : Pwr → Pwr) (d : Dev) : (modPwr g d).clus = d.clus := rfl
@[simp] theorem modPwr_ctx (g : Pwr → Pwr) (d : Dev) : (modPwr g d).ctx = d.ctx := rfl
@[simp] theorem modPwr_lnk (g : Pwr → Pwr) (d : Dev) : (modPwr g d).lnk = d.lnk := rfl
@[simp] theorem modPwr_sec (g : Pwr → Pwr) (d : Dev) : (modPwr g d).sec = d.sec := rfl
@[simp] theorem modPwr_sys (g : Pwr → Pwr) (d : Dev) : (modPwr g d).sys = d.sys := rfl
@[simp] theorem modPwr_undef (g : Pwr → Pwr) (d : Dev) : (modPwr g d).undef = d.undef := rfl
@[simp] theorem modPwr_undefNew (g : Pwr → Pwr) (d : Dev) : (modPwr g d).undefNew = d.undefNew := rfl
@[simp] theorem modPwr_freeCtr (g : Pwr → Pwr) (d : Dev) : (modPwr g d).freeCtr = d.freeCtr := rfl
@[simp] theorem modPwr_pwr (g : Pwr → Pwr) (d : Dev) : (modPwr g d).pwr = g d.pwr := rfl
@[simp] theorem dget_modPwr (q : Reg) (g : Pwr → Pwr) (d : Dev) : dget q (modPwr g d) = dget q d := rfl
@[simp] theorem portOf_modPwr (k : Nat) (g : Pwr → Pwr) (d : Dev) : portOf (modPwr g d) k = portOf d k := rfl
@[simp] theorem laneOf_modPwr (k : Nat) (g : Pwr → Pwr) (d : Dev) : laneOf (modPwr g d) k = laneOf d k := rfl
@[simp] theorem chanOf_modPwr (k : Nat) (g : Pwr → Pwr) (d : Dev) : chanOf (modPwr g d) k = chanOf d k := rfl
@[simp] theorem coreOf_modPwr (k : Nat) (g : Pwr → Pwr) (d : Dev) : coreOf (modPwr g d) k = coreOf d k := rfl
@[simp] theorem frameOf_modPwr (k : Nat) (g : Pwr → Pwr) (d : Dev) : frameOf (modPwr g d) k = frameOf d k := rfl
@[simp] theorem engOf_modPwr (k : Nat) (g : Pwr → Pwr) (d : Dev) : engOf (modPwr g d) k = engOf d k := rfl
@[simp] theorem ringOf_modPwr (k : Nat) (g : Pwr → Pwr) (d : Dev) : ringOf (modPwr g d) k = ringOf d k := rfl
@[simp] theorem linkOf_modPwr (k : Nat) (g : Pwr → Pwr) (d : Dev) : linkOf (modPwr g d) k = linkOf d k := rfl

@[simp] theorem modSys_now (g : Sys → Sys) (d : Dev) : (modSys g d).now = d.now := rfl
@[simp] theorem modSys_dict (g : Sys → Sys) (d : Dev) : (modSys g d).dict = d.dict := rfl
@[simp] theorem modSys_fuses (g : Sys → Sys) (d : Dev) : (modSys g d).fuses = d.fuses := rfl
@[simp] theorem modSys_pins (g : Sys → Sys) (d : Dev) : (modSys g d).pins = d.pins := rfl
@[simp] theorem modSys_ctl (g : Sys → Sys) (d : Dev) : (modSys g d).ctl = d.ctl := rfl
@[simp] theorem modSys_grid (g : Sys → Sys) (d : Dev) : (modSys g d).grid = d.grid := rfl
@[simp] theorem modSys_pll (g : Sys → Sys) (d : Dev) : (modSys g d).pll = d.pll := rfl
@[simp] theorem modSys_ports (g : Sys → Sys) (d : Dev) : (modSys g d).ports = d.ports := rfl
@[simp] theorem modSys_lanes (g : Sys → Sys) (d : Dev) : (modSys g d).lanes = d.lanes := rfl
@[simp] theorem modSys_chans (g : Sys → Sys) (d : Dev) : (modSys g d).chans = d.chans := rfl
@[simp] theorem modSys_edges (g : Sys → Sys) (d : Dev) : (modSys g d).edges = d.edges := rfl
@[simp] theorem modSys_cores (g : Sys → Sys) (d : Dev) : (modSys g d).cores = d.cores := rfl
@[simp] theorem modSys_fab (g : Sys → Sys) (d : Dev) : (modSys g d).fab = d.fab := rfl
@[simp] theorem modSys_enc (g : Sys → Sys) (d : Dev) : (modSys g d).enc = d.enc := rfl
@[simp] theorem modSys_ldr (g : Sys → Sys) (d : Dev) : (modSys g d).ldr = d.ldr := rfl
@[simp] theorem modSys_frames (g : Sys → Sys) (d : Dev) : (modSys g d).frames = d.frames := rfl
@[simp] theorem modSys_trig (g : Sys → Sys) (d : Dev) : (modSys g d).trig = d.trig := rfl
@[simp] theorem modSys_flt (g : Sys → Sys) (d : Dev) : (modSys g d).flt = d.flt := rfl
@[simp] theorem modSys_host (g : Sys → Sys) (d : Dev) : (modSys g d).host = d.host := rfl
@[simp] theorem modSys_time (g : Sys → Sys) (d : Dev) : (modSys g d).time = d.time := rfl
@[simp] theorem modSys_store (g : Sys → Sys) (d : Dev) : (modSys g d).store = d.store := rfl
@[simp] theorem modSys_engs (g : Sys → Sys) (d : Dev) : (modSys g d).engs = d.engs := rfl
@[simp] theorem modSys_clus (g : Sys → Sys) (d : Dev) : (modSys g d).clus = d.clus := rfl
@[simp] theorem modSys_ctx (g : Sys → Sys) (d : Dev) : (modSys g d).ctx = d.ctx := rfl
@[simp] theorem modSys_lnk (g : Sys → Sys) (d : Dev) : (modSys g d).lnk = d.lnk := rfl
@[simp] theorem modSys_pwr (g : Sys → Sys) (d : Dev) : (modSys g d).pwr = d.pwr := rfl
@[simp] theorem modSys_sec (g : Sys → Sys) (d : Dev) : (modSys g d).sec = d.sec := rfl
@[simp] theorem modSys_undef (g : Sys → Sys) (d : Dev) : (modSys g d).undef = d.undef := rfl
@[simp] theorem modSys_undefNew (g : Sys → Sys) (d : Dev) : (modSys g d).undefNew = d.undefNew := rfl
@[simp] theorem modSys_freeCtr (g : Sys → Sys) (d : Dev) : (modSys g d).freeCtr = d.freeCtr := rfl
@[simp] theorem modSys_sys (g : Sys → Sys) (d : Dev) : (modSys g d).sys = g d.sys := rfl
@[simp] theorem dget_modSys (q : Reg) (g : Sys → Sys) (d : Dev) : dget q (modSys g d) = dget q d := rfl
@[simp] theorem portOf_modSys (k : Nat) (g : Sys → Sys) (d : Dev) : portOf (modSys g d) k = portOf d k := rfl
@[simp] theorem laneOf_modSys (k : Nat) (g : Sys → Sys) (d : Dev) : laneOf (modSys g d) k = laneOf d k := rfl
@[simp] theorem chanOf_modSys (k : Nat) (g : Sys → Sys) (d : Dev) : chanOf (modSys g d) k = chanOf d k := rfl
@[simp] theorem coreOf_modSys (k : Nat) (g : Sys → Sys) (d : Dev) : coreOf (modSys g d) k = coreOf d k := rfl
@[simp] theorem frameOf_modSys (k : Nat) (g : Sys → Sys) (d : Dev) : frameOf (modSys g d) k = frameOf d k := rfl
@[simp] theorem engOf_modSys (k : Nat) (g : Sys → Sys) (d : Dev) : engOf (modSys g d) k = engOf d k := rfl
@[simp] theorem ringOf_modSys (k : Nat) (g : Sys → Sys) (d : Dev) : ringOf (modSys g d) k = ringOf d k := rfl
@[simp] theorem linkOf_modSys (k : Nat) (g : Sys → Sys) (d : Dev) : linkOf (modSys g d) k = linkOf d k := rfl

@[simp] theorem modTime_now (g : Time → Time) (d : Dev) : (modTime g d).now = d.now := rfl
@[simp] theorem modTime_dict (g : Time → Time) (d : Dev) : (modTime g d).dict = d.dict := rfl
@[simp] theorem modTime_fuses (g : Time → Time) (d : Dev) : (modTime g d).fuses = d.fuses := rfl
@[simp] theorem modTime_pins (g : Time → Time) (d : Dev) : (modTime g d).pins = d.pins := rfl
@[simp] theorem modTime_ctl (g : Time → Time) (d : Dev) : (modTime g d).ctl = d.ctl := rfl
@[simp] theorem modTime_grid (g : Time → Time) (d : Dev) : (modTime g d).grid = d.grid := rfl
@[simp] theorem modTime_pll (g : Time → Time) (d : Dev) : (modTime g d).pll = d.pll := rfl
@[simp] theorem modTime_ports (g : Time → Time) (d : Dev) : (modTime g d).ports = d.ports := rfl
@[simp] theorem modTime_lanes (g : Time → Time) (d : Dev) : (modTime g d).lanes = d.lanes := rfl
@[simp] theorem modTime_chans (g : Time → Time) (d : Dev) : (modTime g d).chans = d.chans := rfl
@[simp] theorem modTime_edges (g : Time → Time) (d : Dev) : (modTime g d).edges = d.edges := rfl
@[simp] theorem modTime_cores (g : Time → Time) (d : Dev) : (modTime g d).cores = d.cores := rfl
@[simp] theorem modTime_fab (g : Time → Time) (d : Dev) : (modTime g d).fab = d.fab := rfl
@[simp] theorem modTime_enc (g : Time → Time) (d : Dev) : (modTime g d).enc = d.enc := rfl
@[simp] theorem modTime_ldr (g : Time → Time) (d : Dev) : (modTime g d).ldr = d.ldr := rfl
@[simp] theorem modTime_frames (g : Time → Time) (d : Dev) : (modTime g d).frames = d.frames := rfl
@[simp] theorem modTime_trig (g : Time → Time) (d : Dev) : (modTime g d).trig = d.trig := rfl
@[simp] theorem modTime_flt (g : Time → Time) (d : Dev) : (modTime g d).flt = d.flt := rfl
@[simp] theorem modTime_host (g : Time → Time) (d : Dev) : (modTime g d).host = d.host := rfl
@[simp] theorem modTime_store (g : Time → Time) (d : Dev) : (modTime g d).store = d.store := rfl
@[simp] theorem modTime_engs (g : Time → Time) (d : Dev) : (modTime g d).engs = d.engs := rfl
@[simp] theorem modTime_clus (g : Time → Time) (d : Dev) : (modTime g d).clus = d.clus := rfl
@[simp] theorem modTime_ctx (g : Time → Time) (d : Dev) : (modTime g d).ctx = d.ctx := rfl
@[simp] theorem modTime_lnk (g : Time → Time) (d : Dev) : (modTime g d).lnk = d.lnk := rfl
@[simp] theorem modTime_pwr (g : Time → Time) (d : Dev) : (modTime g d).pwr = d.pwr := rfl
@[simp] theorem modTime_sec (g : Time → Time) (d : Dev) : (modTime g d).sec = d.sec := rfl
@[simp] theorem modTime_sys (g : Time → Time) (d : Dev) : (modTime g d).sys = d.sys := rfl
@[simp] theorem modTime_undef (g : Time → Time) (d : Dev) : (modTime g d).undef = d.undef := rfl
@[simp] theorem modTime_undefNew (g : Time → Time) (d : Dev) : (modTime g d).undefNew = d.undefNew := rfl
@[simp] theorem modTime_freeCtr (g : Time → Time) (d : Dev) : (modTime g d).freeCtr = d.freeCtr := rfl
@[simp] theorem modTime_time (g : Time → Time) (d : Dev) : (modTime g d).time = g d.time := rfl
@[simp] theorem dget_modTime (q : Reg) (g : Time → Time) (d : Dev) : dget q (modTime g d) = dget q d := rfl
@[simp] theorem portOf_modTime (k : Nat) (g : Time → Time) (d : Dev) : portOf (modTime g d) k = portOf d k := rfl
@[simp] theorem laneOf_modTime (k : Nat) (g : Time → Time) (d : Dev) : laneOf (modTime g d) k = laneOf d k := rfl
@[simp] theorem chanOf_modTime (k : Nat) (g : Time → Time) (d : Dev) : chanOf (modTime g d) k = chanOf d k := rfl
@[simp] theorem coreOf_modTime (k : Nat) (g : Time → Time) (d : Dev) : coreOf (modTime g d) k = coreOf d k := rfl
@[simp] theorem frameOf_modTime (k : Nat) (g : Time → Time) (d : Dev) : frameOf (modTime g d) k = frameOf d k := rfl
@[simp] theorem engOf_modTime (k : Nat) (g : Time → Time) (d : Dev) : engOf (modTime g d) k = engOf d k := rfl
@[simp] theorem ringOf_modTime (k : Nat) (g : Time → Time) (d : Dev) : ringOf (modTime g d) k = ringOf d k := rfl
@[simp] theorem linkOf_modTime (k : Nat) (g : Time → Time) (d : Dev) : linkOf (modTime g d) k = linkOf d k := rfl

@[simp] theorem setUndef_now (d : Dev) : (setUndef d).now = d.now := rfl
@[simp] theorem setUndef_dict (d : Dev) : (setUndef d).dict = d.dict := rfl
@[simp] theorem setUndef_fuses (d : Dev) : (setUndef d).fuses = d.fuses := rfl
@[simp] theorem setUndef_pins (d : Dev) : (setUndef d).pins = d.pins := rfl
@[simp] theorem setUndef_ctl (d : Dev) : (setUndef d).ctl = d.ctl := rfl
@[simp] theorem setUndef_grid (d : Dev) : (setUndef d).grid = d.grid := rfl
@[simp] theorem setUndef_pll (d : Dev) : (setUndef d).pll = d.pll := rfl
@[simp] theorem setUndef_ports (d : Dev) : (setUndef d).ports = d.ports := rfl
@[simp] theorem setUndef_lanes (d : Dev) : (setUndef d).lanes = d.lanes := rfl
@[simp] theorem setUndef_chans (d : Dev) : (setUndef d).chans = d.chans := rfl
@[simp] theorem setUndef_edges (d : Dev) : (setUndef d).edges = d.edges := rfl
@[simp] theorem setUndef_cores (d : Dev) : (setUndef d).cores = d.cores := rfl
@[simp] theorem setUndef_fab (d : Dev) : (setUndef d).fab = d.fab := rfl
@[simp] theorem setUndef_enc (d : Dev) : (setUndef d).enc = d.enc := rfl
@[simp] theorem setUndef_ldr (d : Dev) : (setUndef d).ldr = d.ldr := rfl
@[simp] theorem setUndef_frames (d : Dev) : (setUndef d).frames = d.frames := rfl
@[simp] theorem setUndef_trig (d : Dev) : (setUndef d).trig = d.trig := rfl
@[simp] theorem setUndef_flt (d : Dev) : (setUndef d).flt = d.flt := rfl
@[simp] theorem setUndef_host (d : Dev) : (setUndef d).host = d.host := rfl
@[simp] theorem setUndef_time (d : Dev) : (setUndef d).time = d.time := rfl
@[simp] theorem setUndef_store (d : Dev) : (setUndef d).store = d.store := rfl
@[simp] theorem setUndef_engs (d : Dev) : (setUndef d).engs = d.engs := rfl
@[simp] theorem setUndef_clus (d : Dev) : (setUndef d).clus = d.clus := rfl
@[simp] theorem setUndef_ctx (d : Dev) : (setUndef d).ctx = d.ctx := rfl
@[simp] theorem setUndef_lnk (d : Dev) : (setUndef d).lnk = d.lnk := rfl
@[simp] theorem setUndef_pwr (d : Dev) : (setUndef d).pwr = d.pwr := rfl
@[simp] theorem setUndef_sec (d : Dev) : (setUndef d).sec = d.sec := rfl
@[simp] theorem setUndef_sys (d : Dev) : (setUndef d).sys = d.sys := rfl
@[simp] theorem setUndef_freeCtr (d : Dev) : (setUndef d).freeCtr = d.freeCtr := rfl
@[simp] theorem setUndef_undef (d : Dev) : (setUndef d).undef = true := rfl
@[simp] theorem setUndef_undefNew (d : Dev) : (setUndef d).undefNew = true := rfl
@[simp] theorem dget_setUndef (q : Reg) (d : Dev) : dget q (setUndef d) = dget q d := rfl
@[simp] theorem portOf_setUndef (k : Nat) (d : Dev) : portOf (setUndef d) k = portOf d k := rfl
@[simp] theorem laneOf_setUndef (k : Nat) (d : Dev) : laneOf (setUndef d) k = laneOf d k := rfl
@[simp] theorem chanOf_setUndef (k : Nat) (d : Dev) : chanOf (setUndef d) k = chanOf d k := rfl
@[simp] theorem coreOf_setUndef (k : Nat) (d : Dev) : coreOf (setUndef d) k = coreOf d k := rfl
@[simp] theorem frameOf_setUndef (k : Nat) (d : Dev) : frameOf (setUndef d) k = frameOf d k := rfl
@[simp] theorem engOf_setUndef (k : Nat) (d : Dev) : engOf (setUndef d) k = engOf d k := rfl
@[simp] theorem ringOf_setUndef (k : Nat) (d : Dev) : ringOf (setUndef d) k = ringOf d k := rfl
@[simp] theorem linkOf_setUndef (k : Nat) (d : Dev) : linkOf (setUndef d) k = linkOf d k := rfl

@[simp] theorem frameOf_setFrame_same (k : Nat) (x : Frame) (d : Dev) : frameOf (setFrame k x d) k = x := tget_tset_same _ _ _ _
theorem frameOf_setFrame_ne {k j : Nat} (x : Frame) (d : Dev) (h : k ≠ j) : frameOf (setFrame k x d) j = frameOf d j := tget_tset_ne _ _ _ _ h
@[simp] theorem frameOf_modFrame_same (k : Nat) (g : Frame → Frame) (d : Dev) : frameOf (modFrame k g d) k = g (frameOf d k) := tget_tset_same _ _ _ _
theorem frameOf_modFrame_ne {k j : Nat} (g : Frame → Frame) (d : Dev) (h : k ≠ j) : frameOf (modFrame k g d) j = frameOf d j := tget_tset_ne _ _ _ _ h
@[simp] theorem portOf_setPort_same (k : Nat) (x : Port) (d : Dev) : portOf (setPort k x d) k = x := tget_tset_same _ _ _ _
theorem portOf_setPort_ne {k j : Nat} (x : Port) (d : Dev) (h : k ≠ j) : portOf (setPort k x d) j = portOf d j := tget_tset_ne _ _ _ _ h
@[simp] theorem portOf_modPort_same (k : Nat) (g : Port → Port) (d : Dev) : portOf (modPort k g d) k = g (portOf d k) := tget_tset_same _ _ _ _
theorem portOf_modPort_ne {k j : Nat} (g : Port → Port) (d : Dev) (h : k ≠ j) : portOf (modPort k g d) j = portOf d j := tget_tset_ne _ _ _ _ h
@[simp] theorem laneOf_setLane_same (k : Nat) (x : Lane) (d : Dev) : laneOf (setLane k x d) k = x := tget_tset_same _ _ _ _
theorem laneOf_setLane_ne {k j : Nat} (x : Lane) (d : Dev) (h : k ≠ j) : laneOf (setLane k x d) j = laneOf d j := tget_tset_ne _ _ _ _ h
@[simp] theorem laneOf_modLane_same (k : Nat) (g : Lane → Lane) (d : Dev) : laneOf (modLane k g d) k = g (laneOf d k) := tget_tset_same _ _ _ _
theorem laneOf_modLane_ne {k j : Nat} (g : Lane → Lane) (d : Dev) (h : k ≠ j) : laneOf (modLane k g d) j = laneOf d j := tget_tset_ne _ _ _ _ h
@[simp] theorem chanOf_setChan_same (k : Nat) (x : Chan) (d : Dev) : chanOf (setChan k x d) k = x := tget_tset_same _ _ _ _
theorem chanOf_setChan_ne {k j : Nat} (x : Chan) (d : Dev) (h : k ≠ j) : chanOf (setChan k x d) j = chanOf d j := tget_tset_ne _ _ _ _ h
@[simp] theorem chanOf_modChan_same (k : Nat) (g : Chan → Chan) (d : Dev) : chanOf (modChan k g d) k = g (chanOf d k) := tget_tset_same _ _ _ _
theorem chanOf_modChan_ne {k j : Nat} (g : Chan → Chan) (d : Dev) (h : k ≠ j) : chanOf (modChan k g d) j = chanOf d j := tget_tset_ne _ _ _ _ h
@[simp] theorem coreOf_setCore_same (k : Nat) (x : Core) (d : Dev) : coreOf (setCore k x d) k = x := tget_tset_same _ _ _ _
theorem coreOf_setCore_ne {k j : Nat} (x : Core) (d : Dev) (h : k ≠ j) : coreOf (setCore k x d) j = coreOf d j := tget_tset_ne _ _ _ _ h
@[simp] theorem coreOf_modCore_same (k : Nat) (g : Core → Core) (d : Dev) : coreOf (modCore k g d) k = g (coreOf d k) := tget_tset_same _ _ _ _
theorem coreOf_modCore_ne {k j : Nat} (g : Core → Core) (d : Dev) (h : k ≠ j) : coreOf (modCore k g d) j = coreOf d j := tget_tset_ne _ _ _ _ h
@[simp] theorem ringOf_setRing_same (k : Nat) (x : Ring) (d : Dev) : ringOf (setRing k x d) k = x := tget_tset_same _ _ _ _
theorem ringOf_setRing_ne {k j : Nat} (x : Ring) (d : Dev) (h : k ≠ j) : ringOf (setRing k x d) j = ringOf d j := tget_tset_ne _ _ _ _ h
@[simp] theorem ringOf_modRing_same (k : Nat) (g : Ring → Ring) (d : Dev) : ringOf (modRing k g d) k = g (ringOf d k) := tget_tset_same _ _ _ _
theorem ringOf_modRing_ne {k j : Nat} (g : Ring → Ring) (d : Dev) (h : k ≠ j) : ringOf (modRing k g d) j = ringOf d j := tget_tset_ne _ _ _ _ h
@[simp] theorem engOf_setEng_same (k : Nat) (x : Eng) (d : Dev) : engOf (setEng k x d) k = x := tget_tset_same _ _ _ _
theorem engOf_setEng_ne {k j : Nat} (x : Eng) (d : Dev) (h : k ≠ j) : engOf (setEng k x d) j = engOf d j := tget_tset_ne _ _ _ _ h
@[simp] theorem linkOf_setLink_same (k : Nat) (x : Link) (d : Dev) : linkOf (setLink k x d) k = x := tget_tset_same _ _ _ _
theorem linkOf_setLink_ne {k j : Nat} (x : Link) (d : Dev) (h : k ≠ j) : linkOf (setLink k x d) j = linkOf d j := tget_tset_ne _ _ _ _ h
@[simp] theorem linkOf_modLink_same (k : Nat) (g : Link → Link) (d : Dev) : linkOf (modLink k g d) k = g (linkOf d k) := tget_tset_same _ _ _ _
theorem linkOf_modLink_ne {k j : Nat} (g : Link → Link) (d : Dev) (h : k ≠ j) : linkOf (modLink k g d) j = linkOf d j := tget_tset_ne _ _ _ _ h

/-- An entry reads what was written to it. -/
theorem dget_dset_same (r : Reg) (v : Nat) (d : Dev) : dget r (dset r v d) = v := tget_tset_same _ _ _ _

/-- A write of one entry leaves the entries under other numbers alone. -/
theorem dget_dset_ne {r q : Reg} (v : Nat) (d : Dev) (h : r.key ≠ q.key) : dget q (dset r v d) = dget q d := tget_tset_ne _ _ _ _ h

/-- The two together, for entries whose defaults agree where their numbers do. -/
theorem dget_dset (r q : Reg) (v : Nat) (d : Dev) (h : r.key = q.key → r.dflt = q.dflt) : dget q (dset r v d) = if r.key = q.key then v else dget q d := by
  by_cases hk : r.key = q.key
  · have : r = q := by cases r; cases q; simp_all
    subst this; simp [dget_dset_same]
  · simp [hk, dget_dset_ne _ _ hk]

/-- With both entries written out, the numbers decide. -/
@[simp] theorem dget_dset_lit (k v w j u : Nat) (d : Dev) : dget ⟨j, u⟩ (dset ⟨k, w⟩ v d) = if k = j then (if v = w then u else v) else dget ⟨j, u⟩ d := by
  by_cases hk : k = j
  · subst hk
    by_cases hv : v = w
    · subst hv; simp [dget, dset, tset]
    · simp only [dget, dset, tset, hv, if_false, if_true, tget_tins_terase]
  · simp [hk, dget_dset_ne (r := ⟨k, w⟩) (q := ⟨j, u⟩) v d hk]

end Sys2Proof.Machine
end

