-- ==== Sys2Proof/Laws/Access.lean ====
section
/-! SUPPORT. What a write by a client does once its checks pass: the request's own mark, and the entry's effect. -/

-- One theorem at a time: the package as one text then stays within its memory.
set_option Elab.async false

namespace Sys2Proof.Machine

@[simp] theorem dget_asked (r : Reg) (c : Nat) (d : Dev) : dget r (asked c d) = dget r d := by
  unfold asked; split <;> rfl

@[simp] theorem asked_zero (d : Dev) : asked 0 d = d := rfl

theorem asked_eq (c : Nat) (d : Dev) : ∃ x, asked c d = { d with ctl := x } := by
  unfold asked; split
  · exact ⟨d.ctl, rfl⟩
  · exact ⟨_, rfl⟩

/-- An access that is not refused returns no abort code. -/
theorem answered_ok {c : Nat} {r : Answer} (h : r.2.1 = 0) : answered c r = r.1 := by simp [answered, h]

/-- A client that may ask gets the effect of what it asks for on the block it has marked. -/
theorem request_asks {c : Nat} {d : Dev} {f : Dev → Answer} (h : Asks c d) (hf : (f (asked c d)).2.1 = 0) :
    request c f d = (f (asked c d)).1 := by
  obtain ⟨-, hb, ⟨rfl, hl, hp⟩ | ⟨rfl, hj⟩ | ⟨h2, hp, ho, hw⟩⟩ := h
  · simp only [asked_zero] at hf ⊢
    simp [request, barAccess, hl, hp, hf]
  · have h1 : request 1 f d = answered 1 (f (asked 1 d)) := by simp [request, hj, asked]
    rw [h1, answered_ok hf]
  · have hc : ¬ c = 0 := by omega
    have hc1 : ¬ c = 1 := by omega
    have hc2 : ¬ c < 2 := by omega
    have h1 : request c f d = answered c (f (asked c d)) := by
      simp [request, hc, hc1, nppServes, hb, hp, ho, nppMayWrite, hw, asked, hc2]
    rw [h1, answered_ok hf]

theorem powerState_asked (c : Nat) (d : Dev) : powerState (asked c d) = powerState d := by simp [powerState]

theorem mayWrite_asks {c : Nat} {d : Dev} (h : Asks c d) (key : Nat) : mayWrite c key (asked c d) = true := by
  simp [mayWrite, h.2.1]

/-- The checks of a write that passes them, entry `e` being the one addressed. -/
theorem entryWrite_ok {c idx sub v : Nat} {conv : Conv} {img : Option (List Nat)} {d : Dev} {e : Entry}
    (hi : idxExists idx = true) (hs : sub ≠ 0) (hg : stagingAt idx sub = none) (he : findEntry idx sub = some e)
    (ha : e.access ≠ .const ∧ e.access ≠ .ro) (hv : conv e = .ok v) (hh : e.hostOnly = false ∨ c = 0)
    (hm : mayWrite c (idx * 256 + sub) d = true) (hc : chkValue d e.chk v = 0) (ho : ownerRuns d e.owner (idx * 256 + sub) = false)
    (hl : ghostLane (idx * 256 + sub) = false) :
    entryWrite c idx sub conv img d = putEntry c (idx * 256 + sub) v e.access img d := by
  have h1 : ¬ (e.access = .const ∨ e.access = .ro) := by rintro (h | h) <;> simp [h] at ha
  have h2 : ¬ (e.hostOnly = true ∧ c ≠ 0) := by rintro ⟨a, b⟩; rcases hh with h | h <;> simp_all
  simp [entryWrite, hi, hs, hg, he, h1, hv, h2, hm, hc, ho, hl]

/-- A command written to entry `r` by a client that may ask: with its checks passed and the effect not refused, the effect on
the block as the request marked it. -/
theorem rowWrite_ok {c v : Nat} {r : Reg} {d : Dev} (e : Entry) (h : Asks c d) (hi : idxExists (r.key / 256) = true)
    (hs : r.key % 256 ≠ 0) (hg : stagingAt (r.key / 256) (r.key % 256) = none) (he : findEntry (r.key / 256) (r.key % 256) = some e)
    (ha : e.access ≠ .const ∧ e.access ≠ .ro) (hv : v < 2 ^ (8 * tyBytes e.ty)) (hh : e.hostOnly = false ∨ c = 0)
    (hc : chkValue d e.chk v = 0) (ho : ownerRuns (asked c d) e.owner r.key = false)
    (hl : ghostLane r.key = false) (hc' : chkValue (asked c d) e.chk v = chkValue d e.chk v)
    (hp : (putEntry c r.key v e.access none (asked c d)).2.1 = 0) :
    rowWrite c r v d = (putEntry c r.key v e.access none (asked c d)).1 := by
  have hk : r.key / 256 * 256 + r.key % 256 = r.key := by omega
  have hw : entryWrite c (r.key / 256) (r.key % 256) (natural v) none (asked c d) = putEntry c r.key v e.access none (asked c d) := by
    have := entryWrite_ok (c := c) (idx := r.key / 256) (sub := r.key % 256) (v := v) (conv := natural v) (img := none) (d := asked c d) (e := e)
      hi hs hg he ha (by simp [natural, hv]) hh (mayWrite_asks h _) (by rw [hc', hc]) (by rw [hk]; exact ho) (by rw [hk]; exact hl)
    rw [hk] at this; exact this
  unfold rowWrite
  rw [request_asks h (by rw [hw]; exact hp), hw]

theorem chkValue_asked (c : Nat) (d : Dev) (k : Chk) (v : Nat) : chkValue (asked c d) k v = chkValue d k v := by
  obtain ⟨x, hx⟩ := asked_eq c d; rw [hx]; cases k <;> rfl

theorem loadedOf_asked (c : Nat) (d : Dev) (k : Nat) : loadedOf (asked c d) k = loadedOf d k := by
  obtain ⟨x, hx⟩ := asked_eq c d; rw [hx]; rfl

theorem usesPort_asked (c : Nat) (d : Dev) (s p : Nat) : usesPort (asked c d) s p = usesPort d s p := by
  obtain ⟨x, hx⟩ := asked_eq c d; rw [hx]; rfl

theorem armed_asked (c : Nat) (d : Dev) : armed (asked c d) = armed d := by
  obtain ⟨x, hx⟩ := asked_eq c d; rw [hx]; rfl

theorem ownerRuns_asked (c : Nat) (d : Dev) (o : Owner) (key : Nat) : ownerRuns (asked c d) o key = ownerRuns d o key := by
  obtain ⟨x, hx⟩ := asked_eq c d; rw [hx]; cases o <;> rfl

end Sys2Proof.Machine
end

