-- ==== Sys2Proof/Laws/Ops.lean ====
section
/-! SUPPORT. What the shared operations of Machine/Ops.lean leave as it was, and what they set: for each operation its shape, which
names the parts of the block it may write, and one lemma per part that it leaves alone. -/

-- One theorem at a time: the package as one text then stays within its memory.
set_option Elab.async false

namespace Sys2Proof.Machine

theorem advTo_shape (t : Nat) (d : Dev) :
    advTo t d = { d with now := (advTo t d).now, time := (advTo t d).time } := by
  rfl

@[simp] theorem advTo_dict (t : Nat) (d : Dev) : (advTo t d).dict = d.dict := (congrArg Dev.dict (advTo_shape t d)).trans rfl
@[simp] theorem advTo_fuses (t : Nat) (d : Dev) : (advTo t d).fuses = d.fuses := (congrArg Dev.fuses (advTo_shape t d)).trans rfl
@[simp] theorem advTo_pins (t : Nat) (d : Dev) : (advTo t d).pins = d.pins := (congrArg Dev.pins (advTo_shape t d)).trans rfl
@[simp] theorem advTo_ctl (t : Nat) (d : Dev) : (advTo t d).ctl = d.ctl := (congrArg Dev.ctl (advTo_shape t d)).trans rfl
@[simp] theorem advTo_grid (t : Nat) (d : Dev) : (advTo t d).grid = d.grid := (congrArg Dev.grid (advTo_shape t d)).trans rfl
@[simp] theorem advTo_pll (t : Nat) (d : Dev) : (advTo t d).pll = d.pll := (congrArg Dev.pll (advTo_shape t d)).trans rfl
@[simp] theorem advTo_ports (t : Nat) (d : Dev) : (advTo t d).ports = d.ports := (congrArg Dev.ports (advTo_shape t d)).trans rfl
@[simp] theorem advTo_lanes (t : Nat) (d : Dev) : (advTo t d).lanes = d.lanes := (congrArg Dev.lanes (advTo_shape t d)).trans rfl
@[simp] theorem advTo_chans (t : Nat) (d : Dev) : (advTo t d).chans = d.chans := (congrArg Dev.chans (advTo_shape t d)).trans rfl
@[simp] theorem advTo_edges (t : Nat) (d : Dev) : (advTo t d).edges = d.edges := (congrArg Dev.edges (advTo_shape t d)).trans rfl
@[simp] theorem advTo_cores (t : Nat) (d : Dev) : (advTo t d).cores = d.cores := (congrArg Dev.cores (advTo_shape t d)).trans rfl
@[simp] theorem advTo_fab (t : Nat) (d : Dev) : (advTo t d).fab = d.fab := (congrArg Dev.fab (advTo_shape t d)).trans rfl
@[simp] theorem advTo_enc (t : Nat) (d : Dev) : (advTo t d).enc = d.enc := (congrArg Dev.enc (advTo_shape t d)).trans rfl
@[simp] theorem advTo_ldr (t : Nat) (d : Dev) : (advTo t d).ldr = d.ldr := (congrArg Dev.ldr (advTo_shape t d)).trans rfl
@[simp] theorem advTo_frames (t : Nat) (d : Dev) : (advTo t d).frames = d.frames := (congrArg Dev.frames (advTo_shape t d)).trans rfl
@[simp] theorem advTo_trig (t : Nat) (d : Dev) : (advTo t d).trig = d.trig := (congrArg Dev.trig (advTo_shape t d)).trans rfl
@[simp] theorem advTo_flt (t : Nat) (d : Dev) : (advTo t d).flt = d.flt := (congrArg Dev.flt (advTo_shape t d)).trans rfl
@[simp] theorem advTo_host (t : Nat) (d : Dev) : (advTo t d).host = d.host := (congrArg Dev.host (advTo_shape t d)).trans rfl
@[simp] theorem advTo_store (t : Nat) (d : Dev) : (advTo t d).store = d.store := (congrArg Dev.store (advTo_shape t d)).trans rfl
@[simp] theorem advTo_engs (t : Nat) (d : Dev) : (advTo t d).engs = d.engs := (congrArg Dev.engs (advTo_shape t d)).trans rfl
@[simp] theorem advTo_clus (t : Nat) (d : Dev) : (advTo t d).clus = d.clus := (congrArg Dev.clus (advTo_shape t d)).trans rfl
@[simp] theorem advTo_ctx (t : Nat) (d : Dev) : (advTo t d).ctx = d.ctx := (congrArg Dev.ctx (advTo_shape t d)).trans rfl
@[simp] theorem advTo_lnk (t : Nat) (d : Dev) : (advTo t d).lnk = d.lnk := (congrArg Dev.lnk (advTo_shape t d)).trans rfl
@[simp] theorem advTo_pwr (t : Nat) (d : Dev) : (advTo t d).pwr = d.pwr := (congrArg Dev.pwr (advTo_shape t d)).trans rfl
@[simp] theorem advTo_sec (t : Nat) (d : Dev) : (advTo t d).sec = d.sec := (congrArg Dev.sec (advTo_shape t d)).trans rfl
@[simp] theorem advTo_sys (t : Nat) (d : Dev) : (advTo t d).sys = d.sys := (congrArg Dev.sys (advTo_shape t d)).trans rfl
@[simp] theorem advTo_undef (t : Nat) (d : Dev) : (advTo t d).undef = d.undef := (congrArg Dev.undef (advTo_shape t d)).trans rfl
@[simp] theorem advTo_undefNew (t : Nat) (d : Dev) : (advTo t d).undefNew = d.undefNew := (congrArg Dev.undefNew (advTo_shape t d)).trans rfl
@[simp] theorem advTo_freeCtr (t : Nat) (d : Dev) : (advTo t d).freeCtr = d.freeCtr := (congrArg Dev.freeCtr (advTo_shape t d)).trans rfl
@[simp] theorem dget_advTo (q : Reg) (t : Nat) (d : Dev) : dget q (advTo t d) = dget q d :=
  congrArg (fun x => tget q.dflt x q.key) (advTo_dict t d)
@[simp] theorem portOf_advTo (k : Nat) (t : Nat) (d : Dev) : portOf (advTo t d) k = portOf d k :=
  congrArg (fun x => tget Port.rest x k) (advTo_ports t d)
@[simp] theorem laneOf_advTo (k : Nat) (t : Nat) (d : Dev) : laneOf (advTo t d) k = laneOf d k :=
  congrArg (fun x => tget Lane.rest x k) (advTo_lanes t d)
@[simp] theorem chanOf_advTo (k : Nat) (t : Nat) (d : Dev) : chanOf (advTo t d) k = chanOf d k :=
  congrArg (fun x => tget Chan.rest x k) (advTo_chans t d)
@[simp] theorem coreOf_advTo (k : Nat) (t : Nat) (d : Dev) : coreOf (advTo t d) k = coreOf d k :=
  congrArg (fun x => tget Core.rest x k) (advTo_cores t d)
@[simp] theorem frameOf_advTo (k : Nat) (t : Nat) (d : Dev) : frameOf (advTo t d) k = frameOf d k :=
  congrArg (fun x => tget Frame.rest x k) (advTo_frames t d)
@[simp] theorem engOf_advTo (k : Nat) (t : Nat) (d : Dev) : engOf (advTo t d) k = engOf d k :=
  congrArg (fun x => tget Eng.rest x k) (advTo_engs t d)
@[simp] theorem ringOf_advTo (k : Nat) (t : Nat) (d : Dev) : ringOf (advTo t d) k = ringOf d k :=
  congrArg (fun (x : HostPort) => tget Ring.rest x.rings k) (advTo_host t d)
@[simp] theorem linkOf_advTo (k : Nat) (t : Nat) (d : Dev) : linkOf (advTo t d) k = linkOf d k :=
  congrArg (fun (x : Links) => tget Link.rest x.links k) (advTo_lnk t d)

theorem advTo_now (t : Nat) (d : Dev) : (advTo t d).now = max t d.now := rfl

theorem bumpBy_shape (r : Reg) (n : Nat) (d : Dev) :
    bumpBy r n d = { d with dict := (bumpBy r n d).dict } := by
  unfold bumpBy; split <;> rfl

@[simp] theorem bumpBy_now (r : Reg) (n : Nat) (d : Dev) : (bumpBy r n d).now = d.now := (congrArg Dev.now (bumpBy_shape r n d)).trans rfl
@[simp] theorem bumpBy_fuses (r : Reg) (n : Nat) (d : Dev) : (bumpBy r n d).fuses = d.fuses := (congrArg Dev.fuses (bumpBy_shape r n d)).trans rfl
@[simp] theorem bumpBy_pins (r : Reg) (n : Nat) (d : Dev) : (bumpBy r n d).pins = d.pins := (congrArg Dev.pins (bumpBy_shape r n d)).trans rfl
@[simp] theorem bumpBy_ctl (r : Reg) (n : Nat) (d : Dev) : (bumpBy r n d).ctl = d.ctl := (congrArg Dev.ctl (bumpBy_shape r n d)).trans rfl
@[simp] theorem bumpBy_grid (r : Reg) (n : Nat) (d : Dev) : (bumpBy r n d).grid = d.grid := (congrArg Dev.grid (bumpBy_shape r n d)).trans rfl
@[simp] theorem bumpBy_pll (r : Reg) (n : Nat) (d : Dev) : (bumpBy r n d).pll = d.pll := (congrArg Dev.pll (bumpBy_shape r n d)).trans rfl
@[simp] theorem bumpBy_ports (r : Reg) (n : Nat) (d : Dev) : (bumpBy r n d).ports = d.ports := (congrArg Dev.ports (bumpBy_shape r n d)).trans rfl
@[simp] theorem bumpBy_lanes (r : Reg) (n : Nat) (d : Dev) : (bumpBy r n d).lanes = d.lanes := (congrArg Dev.lanes (bumpBy_shape r n d)).trans rfl
@[simp] theorem bumpBy_chans (r : Reg) (n : Nat) (d : Dev) : (bumpBy r n d).chans = d.chans := (congrArg Dev.chans (bumpBy_shape r n d)).trans rfl
@[simp] theorem bumpBy_edges (r : Reg) (n : Nat) (d : Dev) : (bumpBy r n d).edges = d.edges := (congrArg Dev.edges (bumpBy_shape r n d)).trans rfl
@[simp] theorem bumpBy_cores (r : Reg) (n : Nat) (d : Dev) : (bumpBy r n d).cores = d.cores := (congrArg Dev.cores (bumpBy_shape r n d)).trans rfl
@[simp] theorem bumpBy_fab (r : Reg) (n : Nat) (d : Dev) : (bumpBy r n d).fab = d.fab := (congrArg Dev.fab (bumpBy_shape r n d)).trans rfl
@[simp] theorem bumpBy_enc (r : Reg) (n : Nat) (d : Dev) : (bumpBy r n d).enc = d.enc := (congrArg Dev.enc (bumpBy_shape r n d)).trans rfl
@[simp] theorem bumpBy_ldr (r : Reg) (n : Nat) (d : Dev) : (bumpBy r n d).ldr = d.ldr := (congrArg Dev.ldr (bumpBy_shape r n d)).trans rfl
@[simp] theorem bumpBy_frames (r : Reg) (n : Nat) (d : Dev) : (bumpBy r n d).frames = d.frames := (congrArg Dev.frames (bumpBy_shape r n d)).trans rfl
@[simp] theorem bumpBy_trig (r : Reg) (n : Nat) (d : Dev) : (bumpBy r n d).trig = d.trig := (congrArg Dev.trig (bumpBy_shape r n d)).trans rfl
@[simp] theorem bumpBy_flt (r : Reg) (n : Nat) (d : Dev) : (bumpBy r n d).flt = d.flt := (congrArg Dev.flt (bumpBy_shape r n d)).trans rfl
@[simp] theorem bumpBy_host (r : Reg) (n : Nat) (d : Dev) : (bumpBy r n d).host = d.host := (congrArg Dev.host (bumpBy_shape r n d)).trans rfl
@[simp] theorem bumpBy_time (r : Reg) (n : Nat) (d : Dev) : (bumpBy r n d).time = d.time := (congrArg Dev.time (bumpBy_shape r n d)).trans rfl
@[simp] theorem bumpBy_store (r : Reg) (n : Nat) (d : Dev) : (bumpBy r n d).store = d.store := (congrArg Dev.store (bumpBy_shape r n d)).trans rfl
@[simp] theorem bumpBy_engs (r : Reg) (n : Nat) (d : Dev) : (bumpBy r n d).engs = d.engs := (congrArg Dev.engs (bumpBy_shape r n d)).trans rfl
@[simp] theorem bumpBy_clus (r : Reg) (n : Nat) (d : Dev) : (bumpBy r n d).clus = d.clus := (congrArg Dev.clus (bumpBy_shape r n d)).trans rfl
@[simp] theorem bumpBy_ctx (r : Reg) (n : Nat) (d : Dev) : (bumpBy r n d).ctx = d.ctx := (congrArg Dev.ctx (bumpBy_shape r n d)).trans rfl
@[simp] theorem bumpBy_lnk (r : Reg) (n : Nat) (d : Dev) : (bumpBy r n d).lnk = d.lnk := (congrArg Dev.lnk (bumpBy_shape r n d)).trans rfl
@[simp] theorem bumpBy_pwr (r : Reg) (n : Nat) (d : Dev) : (bumpBy r n d).pwr = d.pwr := (congrArg Dev.pwr (bumpBy_shape r n d)).trans rfl
@[simp] theorem bumpBy_sec (r : Reg) (n : Nat) (d : Dev) : (bumpBy r n d).sec = d.sec := (congrArg Dev.sec (bumpBy_shape r n d)).trans rfl
@[simp] theorem bumpBy_sys (r : Reg) (n : Nat) (d : Dev) : (bumpBy r n d).sys = d.sys := (congrArg Dev.sys (bumpBy_shape r n d)).trans rfl
@[simp] theorem bumpBy_undef (r : Reg) (n : Nat) (d : Dev) : (bumpBy r n d).undef = d.undef := (congrArg Dev.undef (bumpBy_shape r n d)).trans rfl
@[simp] theorem bumpBy_undefNew (r : Reg) (n : Nat) (d : Dev) : (bumpBy r n d).undefNew = d.undefNew := (congrArg Dev.undefNew (bumpBy_shape r n d)).trans rfl
@[simp] theorem bumpBy_freeCtr (r : Reg) (n : Nat) (d : Dev) : (bumpBy r n d).freeCtr = d.freeCtr := (congrArg Dev.freeCtr (bumpBy_shape r n d)).trans rfl
@[simp] theorem portOf_bumpBy (k : Nat) (r : Reg) (n : Nat) (d : Dev) : portOf (bumpBy r n d) k = portOf d k :=
  congrArg (fun x => tget Port.rest x k) (bumpBy_ports r n d)
@[simp] theorem laneOf_bumpBy (k : Nat) (r : Reg) (n : Nat) (d : Dev) : laneOf (bumpBy r n d) k = laneOf d k :=
  congrArg (fun x => tget Lane.rest x k) (bumpBy_lanes r n d)
@[simp] theorem chanOf_bumpBy (k : Nat) (r : Reg) (n : Nat) (d : Dev) : chanOf (bumpBy r n d) k = chanOf d k :=
  congrArg (fun x => tget Chan.rest x k) (bumpBy_chans r n d)
@[simp] theorem coreOf_bumpBy (k : Nat) (r : Reg) (n : Nat) (d : Dev) : coreOf (bumpBy r n d) k = coreOf d k :=
  congrArg (fun x => tget Core.rest x k) (bumpBy_cores r n d)
@[simp] theorem frameOf_bumpBy (k : Nat) (r : Reg) (n : Nat) (d : Dev) : frameOf (bumpBy r n d) k = frameOf d k :=
  congrArg (fun x => tget Frame.rest x k) (bumpBy_frames r n d)
@[simp] theorem engOf_bumpBy (k : Nat) (r : Reg) (n : Nat) (d : Dev) : engOf (bumpBy r n d) k = engOf d k :=
  congrArg (fun x => tget Eng.rest x k) (bumpBy_engs r n d)
@[simp] theorem ringOf_bumpBy (k : Nat) (r : Reg) (n : Nat) (d : Dev) : ringOf (bumpBy r n d) k = ringOf d k :=
  congrArg (fun (x : HostPort) => tget Ring.rest x.rings k) (bumpBy_host r n d)
@[simp] theorem linkOf_bumpBy (k : Nat) (r : Reg) (n : Nat) (d : Dev) : linkOf (bumpBy r n d) k = linkOf d k :=
  congrArg (fun (x : Links) => tget Link.rest x.links k) (bumpBy_lnk r n d)

theorem bump_shape (r : Reg) (d : Dev) :
    bump r d = { d with dict := (bump r d).dict } := by
  exact bumpBy_shape r 1 d

@[simp] theorem bump_now (r : Reg) (d : Dev) : (bump r d).now = d.now := (congrArg Dev.now (bump_shape r d)).trans rfl
@[simp] theorem bump_fuses (r : Reg) (d : Dev) : (bump r d).fuses = d.fuses := (congrArg Dev.fuses (bump_shape r d)).trans rfl
@[simp] theorem bump_pins (r : Reg) (d : Dev) : (bump r d).pins = d.pins := (congrArg Dev.pins (bump_shape r d)).trans rfl
@[simp] theorem bump_ctl (r : Reg) (d : Dev) : (bump r d).ctl = d.ctl := (congrArg Dev.ctl (bump_shape r d)).trans rfl
@[simp] theorem bump_grid (r : Reg) (d : Dev) : (bump r d).grid = d.grid := (congrArg Dev.grid (bump_shape r d)).trans rfl
@[simp] theorem bump_pll (r : Reg) (d : Dev) : (bump r d).pll = d.pll := (congrArg Dev.pll (bump_shape r d)).trans rfl
@[simp] theorem bump_ports (r : Reg) (d : Dev) : (bump r d).ports = d.ports := (congrArg Dev.ports (bump_shape r d)).trans rfl
@[simp] theorem bump_lanes (r : Reg) (d : Dev) : (bump r d).lanes = d.lanes := (congrArg Dev.lanes (bump_shape r d)).trans rfl
@[simp] theorem bump_chans (r : Reg) (d : Dev) : (bump r d).chans = d.chans := (congrArg Dev.chans (bump_shape r d)).trans rfl
@[simp] theorem bump_edges (r : Reg) (d : Dev) : (bump r d).edges = d.edges := (congrArg Dev.edges (bump_shape r d)).trans rfl
@[simp] theorem bump_cores (r : Reg) (d : Dev) : (bump r d).cores = d.cores := (congrArg Dev.cores (bump_shape r d)).trans rfl
@[simp] theorem bump_fab (r : Reg) (d : Dev) : (bump r d).fab = d.fab := (congrArg Dev.fab (bump_shape r d)).trans rfl
@[simp] theorem bump_enc (r : Reg) (d : Dev) : (bump r d).enc = d.enc := (congrArg Dev.enc (bump_shape r d)).trans rfl
@[simp] theorem bump_ldr (r : Reg) (d : Dev) : (bump r d).ldr = d.ldr := (congrArg Dev.ldr (bump_shape r d)).trans rfl
@[simp] theorem bump_frames (r : Reg) (d : Dev) : (bump r d).frames = d.frames := (congrArg Dev.frames (bump_shape r d)).trans rfl
@[simp] theorem bump_trig (r : Reg) (d : Dev) : (bump r d).trig = d.trig := (congrArg Dev.trig (bump_shape r d)).trans rfl
@[simp] theorem bump_flt (r : Reg) (d : Dev) : (bump r d).flt = d.flt := (congrArg Dev.flt (bump_shape r d)).trans rfl
@[simp] theorem bump_host (r : Reg) (d : Dev) : (bump r d).host = d.host := (congrArg Dev.host (bump_shape r d)).trans rfl
@[simp] theorem bump_time (r : Reg) (d : Dev) : (bump r d).time = d.time := (congrArg Dev.time (bump_shape r d)).trans rfl
@[simp] theorem bump_store (r : Reg) (d : Dev) : (bump r d).store = d.store := (congrArg Dev.store (bump_shape r d)).trans rfl
@[simp] theorem bump_engs (r : Reg) (d : Dev) : (bump r d).engs = d.engs := (congrArg Dev.engs (bump_shape r d)).trans rfl
@[simp] theorem bump_clus (r : Reg) (d : Dev) : (bump r d).clus = d.clus := (congrArg Dev.clus (bump_shape r d)).trans rfl
@[simp] theorem bump_ctx (r : Reg) (d : Dev) : (bump r d).ctx = d.ctx := (congrArg Dev.ctx (bump_shape r d)).trans rfl
@[simp] theorem bump_lnk (r : Reg) (d : Dev) : (bump r d).lnk = d.lnk := (congrArg Dev.lnk (bump_shape r d)).trans rfl
@[simp] theorem bump_pwr (r : Reg) (d : Dev) : (bump r d).pwr = d.pwr := (congrArg Dev.pwr (bump_shape r d)).trans rfl
@[simp] theorem bump_sec (r : Reg) (d : Dev) : (bump r d).sec = d.sec := (congrArg Dev.sec (bump_shape r d)).trans rfl
@[simp] theorem bump_sys (r : Reg) (d : Dev) : (bump r d).sys = d.sys := (congrArg Dev.sys (bump_shape r d)).trans rfl
@[simp] theorem bump_undef (r : Reg) (d : Dev) : (bump r d).undef = d.undef := (congrArg Dev.undef (bump_shape r d)).trans rfl
@[simp] theorem bump_undefNew (r : Reg) (d : Dev) : (bump r d).undefNew = d.undefNew := (congrArg Dev.undefNew (bump_shape r d)).trans rfl
@[simp] theorem bump_freeCtr (r : Reg) (d : Dev) : (bump r d).freeCtr = d.freeCtr := (congrArg Dev.freeCtr (bump_shape r d)).trans rfl
@[simp] theorem portOf_bump (k : Nat) (r : Reg) (d : Dev) : portOf (bump r d) k = portOf d k :=
  congrArg (fun x => tget Port.rest x k) (bump_ports r d)
@[simp] theorem laneOf_bump (k : Nat) (r : Reg) (d : Dev) : laneOf (bump r d) k = laneOf d k :=
  congrArg (fun x => tget Lane.rest x k) (bump_lanes r d)
@[simp] theorem chanOf_bump (k : Nat) (r : Reg) (d : Dev) : chanOf (bump r d) k = chanOf d k :=
  congrArg (fun x => tget Chan.rest x k) (bump_chans r d)
@[simp] theorem coreOf_bump (k : Nat) (r : Reg) (d : Dev) : coreOf (bump r d) k = coreOf d k :=
  congrArg (fun x => tget Core.rest x k) (bump_cores r d)
@[simp] theorem frameOf_bump (k : Nat) (r : Reg) (d : Dev) : frameOf (bump r d) k = frameOf d k :=
  congrArg (fun x => tget Frame.rest x k) (bump_frames r d)
@[simp] theorem engOf_bump (k : Nat) (r : Reg) (d : Dev) : engOf (bump r d) k = engOf d k :=
  congrArg (fun x => tget Eng.rest x k) (bump_engs r d)
@[simp] theorem ringOf_bump (k : Nat) (r : Reg) (d : Dev) : ringOf (bump r d) k = ringOf d k :=
  congrArg (fun (x : HostPort) => tget Ring.rest x.rings k) (bump_host r d)
@[simp] theorem linkOf_bump (k : Nat) (r : Reg) (d : Dev) : linkOf (bump r d) k = linkOf d k :=
  congrArg (fun (x : Links) => tget Link.rest x.links k) (bump_lnk r d)

theorem dget_bump_same (r : Reg) (d : Dev) : dget r (bump r d) = satAdd32 (dget r d) 1 := by
  simp [bump, bumpBy, dget_dset_same]

theorem dget_bumpBy_ne {r q : Reg} (n : Nat) (d : Dev) (h : r.key ≠ q.key) : dget q (bumpBy r n d) = dget q d := by
  unfold bumpBy; split
  · rfl
  · exact dget_dset_ne _ _ h

theorem dget_bump_ne {r q : Reg} (d : Dev) (h : r.key ≠ q.key) : dget q (bump r d) = dget q d := dget_bumpBy_ne _ _ h

theorem msi_shape (v : Nat) (d : Dev) :
    msi v d = { d with host := (msi v d).host } := by
  unfold msi; split <;> rfl

@[simp] theorem msi_now (v : Nat) (d : Dev) : (msi v d).now = d.now := (congrArg Dev.now (msi_shape v d)).trans rfl
@[simp] theorem msi_dict (v : Nat) (d : Dev) : (msi v d).dict = d.dict := (congrArg Dev.dict (msi_shape v d)).trans rfl
@[simp] theorem msi_fuses (v : Nat) (d : Dev) : (msi v d).fuses = d.fuses := (congrArg Dev.fuses (msi_shape v d)).trans rfl
@[simp] theorem msi_pins (v : Nat) (d : Dev) : (msi v d).pins = d.pins := (congrArg Dev.pins (msi_shape v d)).trans rfl
@[simp] theorem msi_ctl (v : Nat) (d : Dev) : (msi v d).ctl = d.ctl := (congrArg Dev.ctl (msi_shape v d)).trans rfl
@[simp] theorem msi_grid (v : Nat) (d : Dev) : (msi v d).grid = d.grid := (congrArg Dev.grid (msi_shape v d)).trans rfl
@[simp] theorem msi_pll (v : Nat) (d : Dev) : (msi v d).pll = d.pll := (congrArg Dev.pll (msi_shape v d)).trans rfl
@[simp] theorem msi_ports (v : Nat) (d : Dev) : (msi v d).ports = d.ports := (congrArg Dev.ports (msi_shape v d)).trans rfl
@[simp] theorem msi_lanes (v : Nat) (d : Dev) : (msi v d).lanes = d.lanes := (congrArg Dev.lanes (msi_shape v d)).trans rfl
@[simp] theorem msi_chans (v : Nat) (d : Dev) : (msi v d).chans = d.chans := (congrArg Dev.chans (msi_shape v d)).trans rfl
@[simp] theorem msi_edges (v : Nat) (d : Dev) : (msi v d).edges = d.edges := (congrArg Dev.edges (msi_shape v d)).trans rfl
@[simp] theorem msi_cores (v : Nat) (d : Dev) : (msi v d).cores = d.cores := (congrArg Dev.cores (msi_shape v d)).trans rfl
@[simp] theorem msi_fab (v : Nat) (d : Dev) : (msi v d).fab = d.fab := (congrArg Dev.fab (msi_shape v d)).trans rfl
@[simp] theorem msi_enc (v : Nat) (d : Dev) : (msi v d).enc = d.enc := (congrArg Dev.enc (msi_shape v d)).trans rfl
@[simp] theorem msi_ldr (v : Nat) (d : Dev) : (msi v d).ldr = d.ldr := (congrArg Dev.ldr (msi_shape v d)).trans rfl
@[simp] theorem msi_frames (v : Nat) (d : Dev) : (msi v d).frames = d.frames := (congrArg Dev.frames (msi_shape v d)).trans rfl
@[simp] theorem msi_trig (v : Nat) (d : Dev) : (msi v d).trig = d.trig := (congrArg Dev.trig (msi_shape v d)).trans rfl
@[simp] theorem msi_flt (v : Nat) (d : Dev) : (msi v d).flt = d.flt := (congrArg Dev.flt (msi_shape v d)).trans rfl
@[simp] theorem msi_time (v : Nat) (d : Dev) : (msi v d).time = d.time := (congrArg Dev.time (msi_shape v d)).trans rfl
@[simp] theorem msi_store (v : Nat) (d : Dev) : (msi v d).store = d.store := (congrArg Dev.store (msi_shape v d)).trans rfl
@[simp] theorem msi_engs (v : Nat) (d : Dev) : (msi v d).engs = d.engs := (congrArg Dev.engs (msi_shape v d)).trans rfl
@[simp] theorem msi_clus (v : Nat) (d : Dev) : (msi v d).clus = d.clus := (congrArg Dev.clus (msi_shape v d)).trans rfl
@[simp] theorem msi_ctx (v : Nat) (d : Dev) : (msi v d).ctx = d.ctx := (congrArg Dev.ctx (msi_shape v d)).trans rfl
@[simp] theorem msi_lnk (v : Nat) (d : Dev) : (msi v d).lnk = d.lnk := (congrArg Dev.lnk (msi_shape v d)).trans rfl
@[simp] theorem msi_pwr (v : Nat) (d : Dev) : (msi v d).pwr = d.pwr := (congrArg Dev.pwr (msi_shape v d)).trans rfl
@[simp] theorem msi_sec (v : Nat) (d : Dev) : (msi v d).sec = d.sec := (congrArg Dev.sec (msi_shape v d)).trans rfl
@[simp] theorem msi_sys (v : Nat) (d : Dev) : (msi v d).sys = d.sys := (congrArg Dev.sys (msi_shape v d)).trans rfl
@[simp] theorem msi_undef (v : Nat) (d : Dev) : (msi v d).undef = d.undef := (congrArg Dev.undef (msi_shape v d)).trans rfl
@[simp] theorem msi_undefNew (v : Nat) (d : Dev) : (msi v d).undefNew = d.undefNew := (congrArg Dev.undefNew (msi_shape v d)).trans rfl
@[simp] theorem msi_freeCtr (v : Nat) (d : Dev) : (msi v d).freeCtr = d.freeCtr := (congrArg Dev.freeCtr (msi_shape v d)).trans rfl
@[simp] theorem dget_msi (q : Reg) (v : Nat) (d : Dev) : dget q (msi v d) = dget q d :=
  congrArg (fun x => tget q.dflt x q.key) (msi_dict v d)
@[simp] theorem portOf_msi (k : Nat) (v : Nat) (d : Dev) : portOf (msi v d) k = portOf d k :=
  congrArg (fun x => tget Port.rest x k) (msi_ports v d)
@[simp] theorem laneOf_msi (k : Nat) (v : Nat) (d : Dev) : laneOf (msi v d) k = laneOf d k :=
  congrArg (fun x => tget Lane.rest x k) (msi_lanes v d)
@[simp] theorem chanOf_msi (k : Nat) (v : Nat) (d : Dev) : chanOf (msi v d) k = chanOf d k :=
  congrArg (fun x => tget Chan.rest x k) (msi_chans v d)
@[simp] theorem coreOf_msi (k : Nat) (v : Nat) (d : Dev) : coreOf (msi v d) k = coreOf d k :=
  congrArg (fun x => tget Core.rest x k) (msi_cores v d)
@[simp] theorem frameOf_msi (k : Nat) (v : Nat) (d : Dev) : frameOf (msi v d) k = frameOf d k :=
  congrArg (fun x => tget Frame.rest x k) (msi_frames v d)
@[simp] theorem engOf_msi (k : Nat) (v : Nat) (d : Dev) : engOf (msi v d) k = engOf d k :=
  congrArg (fun x => tget Eng.rest x k) (msi_engs v d)
@[simp] theorem linkOf_msi (k : Nat) (v : Nat) (d : Dev) : linkOf (msi v d) k = linkOf d k :=
  congrArg (fun (x : Links) => tget Link.rest x.links k) (msi_lnk v d)

theorem loseRec_shape (r n : Nat) (e : Rec) (d : Dev) :
    loseRec r n e d = { d with host := (loseRec r n e d).host } := by
  unfold loseRec; simp only; split
  · rfl
  · split
    · rfl
    · split <;> rfl

@[simp] theorem loseRec_now (r n : Nat) (e : Rec) (d : Dev) : (loseRec r n e d).now = d.now := (congrArg Dev.now (loseRec_shape r n e d)).trans rfl
@[simp] theorem loseRec_dict (r n : Nat) (e : Rec) (d : Dev) : (loseRec r n e d).dict = d.dict := (congrArg Dev.dict (loseRec_shape r n e d)).trans rfl
@[simp] theorem loseRec_fuses (r n : Nat) (e : Rec) (d : Dev) : (loseRec r n e d).fuses = d.fuses := (congrArg Dev.fuses (loseRec_shape r n e d)).trans rfl
@[simp] theorem loseRec_pins (r n : Nat) (e : Rec) (d : Dev) : (loseRec r n e d).pins = d.pins := (congrArg Dev.pins (loseRec_shape r n e d)).trans rfl
@[simp] theorem loseRec_ctl (r n : Nat) (e : Rec) (d : Dev) : (loseRec r n e d).ctl = d.ctl := (congrArg Dev.ctl (loseRec_shape r n e d)).trans rfl
@[simp] theorem loseRec_grid (r n : Nat) (e : Rec) (d : Dev) : (loseRec r n e d).grid = d.grid := (congrArg Dev.grid (loseRec_shape r n e d)).trans rfl
@[simp] theorem loseRec_pll (r n : Nat) (e : Rec) (d : Dev) : (loseRec r n e d).pll = d.pll := (congrArg Dev.pll (loseRec_shape r n e d)).trans rfl
@[simp] theorem loseRec_ports (r n : Nat) (e : Rec) (d : Dev) : (loseRec r n e d).ports = d.ports := (congrArg Dev.ports (loseRec_shape r n e d)).trans rfl
@[simp] theorem loseRec_lanes (r n : Nat) (e : Rec) (d : Dev) : (loseRec r n e d).lanes = d.lanes := (congrArg Dev.lanes (loseRec_shape r n e d)).trans rfl
@[simp] theorem loseRec_chans (r n : Nat) (e : Rec) (d : Dev) : (loseRec r n e d).chans = d.chans := (congrArg Dev.chans (loseRec_shape r n e d)).trans rfl
@[simp] theorem loseRec_edges (r n : Nat) (e : Rec) (d : Dev) : (loseRec r n e d).edges = d.edges := (congrArg Dev.edges (loseRec_shape r n e d)).trans rfl
@[simp] theorem loseRec_cores (r n : Nat) (e : Rec) (d : Dev) : (loseRec r n e d).cores = d.cores := (congrArg Dev.cores (loseRec_shape r n e d)).trans rfl
@[simp] theorem loseRec_fab (r n : Nat) (e : Rec) (d : Dev) : (loseRec r n e d).fab = d.fab := (congrArg Dev.fab (loseRec_shape r n e d)).trans rfl
@[simp] theorem loseRec_enc (r n : Nat) (e : Rec) (d : Dev) : (loseRec r n e d).enc = d.enc := (congrArg Dev.enc (loseRec_shape r n e d)).trans rfl
@[simp] theorem loseRec_ldr (r n : Nat) (e : Rec) (d : Dev) : (loseRec r n e d).ldr = d.ldr := (congrArg Dev.ldr (loseRec_shape r n e d)).trans rfl
@[simp] theorem loseRec_frames (r n : Nat) (e : Rec) (d : Dev) : (loseRec r n e d).frames = d.frames := (congrArg Dev.frames (loseRec_shape r n e d)).trans rfl
@[simp] theorem loseRec_trig (r n : Nat) (e : Rec) (d : Dev) : (loseRec r n e d).trig = d.trig := (congrArg Dev.trig (loseRec_shape r n e d)).trans rfl
@[simp] theorem loseRec_flt (r n : Nat) (e : Rec) (d : Dev) : (loseRec r n e d).flt = d.flt := (congrArg Dev.flt (loseRec_shape r n e d)).trans rfl
@[simp] theorem loseRec_time (r n : Nat) (e : Rec) (d : Dev) : (loseRec r n e d).time = d.time := (congrArg Dev.time (loseRec_shape r n e d)).trans rfl
@[simp] theorem loseRec_store (r n : Nat) (e : Rec) (d : Dev) : (loseRec r n e d).store = d.store := (congrArg Dev.store (loseRec_shape r n e d)).trans rfl
@[simp] theorem loseRec_engs (r n : Nat) (e : Rec) (d : Dev) : (loseRec r n e d).engs = d.engs := (congrArg Dev.engs (loseRec_shape r n e d)).trans rfl
@[simp] theorem loseRec_clus (r n : Nat) (e : Rec) (d : Dev) : (loseRec r n e d).clus = d.clus := (congrArg Dev.clus (loseRec_shape r n e d)).trans rfl
@[simp] theorem loseRec_ctx (r n : Nat) (e : Rec) (d : Dev) : (loseRec r n e d).ctx = d.ctx := (congrArg Dev.ctx (loseRec_shape r n e d)).trans rfl
@[simp] theorem loseRec_lnk (r n : Nat) (e : Rec) (d : Dev) : (loseRec r n e d).lnk = d.lnk := (congrArg Dev.lnk (loseRec_shape r n e d)).trans rfl
@[simp] theorem loseRec_pwr (r n : Nat) (e : Rec) (d : Dev) : (loseRec r n e d).pwr = d.pwr := (congrArg Dev.pwr (loseRec_shape r n e d)).trans rfl
@[simp] theorem loseRec_sec (r n : Nat) (e : Rec) (d : Dev) : (loseRec r n e d).sec = d.sec := (congrArg Dev.sec (loseRec_shape r n e d)).trans rfl
@[simp] theorem loseRec_sys (r n : Nat) (e : Rec) (d : Dev) : (loseRec r n e d).sys = d.sys := (congrArg Dev.sys (loseRec_shape r n e d)).trans rfl
@[simp] theorem loseRec_undef (r n : Nat) (e : Rec) (d : Dev) : (loseRec r n e d).undef = d.undef := (congrArg Dev.undef (loseRec_shape r n e d)).trans rfl
@[simp] theorem loseRec_undefNew (r n : Nat) (e : Rec) (d : Dev) : (loseRec r n e d).undefNew = d.undefNew := (congrArg Dev.undefNew (loseRec_shape r n e d)).trans rfl
@[simp] theorem loseRec_freeCtr (r n : Nat) (e : Rec) (d : Dev) : (loseRec r n e d).freeCtr = d.freeCtr := (congrArg Dev.freeCtr (loseRec_shape r n e d)).trans rfl
@[simp] theorem dget_loseRec (q : Reg) (r n : Nat) (e : Rec) (d : Dev) : dget q (loseRec r n e d) = dget q d :=
  congrArg (fun x => tget q.dflt x q.key) (loseRec_dict r n e d)
@[simp] theorem portOf_loseRec (k : Nat) (r n : Nat) (e : Rec) (d : Dev) : portOf (loseRec r n e d) k = portOf d k :=
  congrArg (fun x => tget Port.rest x k) (loseRec_ports r n e d)
@[simp] theorem laneOf_loseRec (k : Nat) (r n : Nat) (e : Rec) (d : Dev) : laneOf (loseRec r n e d) k = laneOf d k :=
  congrArg (fun x => tget Lane.rest x k) (loseRec_lanes r n e d)
@[simp] theorem chanOf_loseRec (k : Nat) (r n : Nat) (e : Rec) (d : Dev) : chanOf (loseRec r n e d) k = chanOf d k :=
  congrArg (fun x => tget Chan.rest x k) (loseRec_chans r n e d)
@[simp] theorem coreOf_loseRec (k : Nat) (r n : Nat) (e : Rec) (d : Dev) : coreOf (loseRec r n e d) k = coreOf d k :=
  congrArg (fun x => tget Core.rest x k) (loseRec_cores r n e d)
@[simp] theorem frameOf_loseRec (k : Nat) (r n : Nat) (e : Rec) (d : Dev) : frameOf (loseRec r n e d) k = frameOf d k :=
  congrArg (fun x => tget Frame.rest x k) (loseRec_frames r n e d)
@[simp] theorem engOf_loseRec (k : Nat) (r n : Nat) (e : Rec) (d : Dev) : engOf (loseRec r n e d) k = engOf d k :=
  congrArg (fun x => tget Eng.rest x k) (loseRec_engs r n e d)
@[simp] theorem linkOf_loseRec (k : Nat) (r n : Nat) (e : Rec) (d : Dev) : linkOf (loseRec r n e d) k = linkOf d k :=
  congrArg (fun (x : Links) => tget Link.rest x.links k) (loseRec_lnk r n e d)

theorem pushRec_shape (r : Nat) (e : Rec) (d : Dev) :
    pushRec r e d = { d with host := (pushRec r e d).host } := by
  unfold pushRec; simp only; split_ifs <;> first | rfl | exact loseRec_shape _ _ _ _

@[simp] theorem pushRec_now (r : Nat) (e : Rec) (d : Dev) : (pushRec r e d).now = d.now := (congrArg Dev.now (pushRec_shape r e d)).trans rfl
@[simp] theorem pushRec_dict (r : Nat) (e : Rec) (d : Dev) : (pushRec r e d).dict = d.dict := (congrArg Dev.dict (pushRec_shape r e d)).trans rfl
@[simp] theorem pushRec_fuses (r : Nat) (e : Rec) (d : Dev) : (pushRec r e d).fuses = d.fuses := (congrArg Dev.fuses (pushRec_shape r e d)).trans rfl
@[simp] theorem pushRec_pins (r : Nat) (e : Rec) (d : Dev) : (pushRec r e d).pins = d.pins := (congrArg Dev.pins (pushRec_shape r e d)).trans rfl
@[simp] theorem pushRec_ctl (r : Nat) (e : Rec) (d : Dev) : (pushRec r e d).ctl = d.ctl := (congrArg Dev.ctl (pushRec_shape r e d)).trans rfl
@[simp] theorem pushRec_grid (r : Nat) (e : Rec) (d : Dev) : (pushRec r e d).grid = d.grid := (congrArg Dev.grid (pushRec_shape r e d)).trans rfl
@[simp] theorem pushRec_pll (r : Nat) (e : Rec) (d : Dev) : (pushRec r e d).pll = d.pll := (congrArg Dev.pll (pushRec_shape r e d)).trans rfl
@[simp] theorem pushRec_ports (r : Nat) (e : Rec) (d : Dev) : (pushRec r e d).ports = d.ports := (congrArg Dev.ports (pushRec_shape r e d)).trans rfl
@[simp] theorem pushRec_lanes (r : Nat) (e : Rec) (d : Dev) : (pushRec r e d).lanes = d.lanes := (congrArg Dev.lanes (pushRec_shape r e d)).trans rfl
@[simp] theorem pushRec_chans (r : Nat) (e : Rec) (d : Dev) : (pushRec r e d).chans = d.chans := (congrArg Dev.chans (pushRec_shape r e d)).trans rfl
@[simp] theorem pushRec_edges (r : Nat) (e : Rec) (d : Dev) : (pushRec r e d).edges = d.edges := (congrArg Dev.edges (pushRec_shape r e d)).trans rfl
@[simp] theorem pushRec_cores (r : Nat) (e : Rec) (d : Dev) : (pushRec r e d).cores = d.cores := (congrArg Dev.cores (pushRec_shape r e d)).trans rfl
@[simp] theorem pushRec_fab (r : Nat) (e : Rec) (d : Dev) : (pushRec r e d).fab = d.fab := (congrArg Dev.fab (pushRec_shape r e d)).trans rfl
@[simp] theorem pushRec_enc (r : Nat) (e : Rec) (d : Dev) : (pushRec r e d).enc = d.enc := (congrArg Dev.enc (pushRec_shape r e d)).trans rfl
@[simp] theorem pushRec_ldr (r : Nat) (e : Rec) (d : Dev) : (pushRec r e d).ldr = d.ldr := (congrArg Dev.ldr (pushRec_shape r e d)).trans rfl
@[simp] theorem pushRec_frames (r : Nat) (e : Rec) (d : Dev) : (pushRec r e d).frames = d.frames := (congrArg Dev.frames (pushRec_shape r e d)).trans rfl
@[simp] theorem pushRec_trig (r : Nat) (e : Rec) (d : Dev) : (pushRec r e d).trig = d.trig := (congrArg Dev.trig (pushRec_shape r e d)).trans rfl
@[simp] theorem pushRec_flt (r : Nat) (e : Rec) (d : Dev) : (pushRec r e d).flt = d.flt := (congrArg Dev.flt (pushRec_shape r e d)).trans rfl
@[simp] theorem pushRec_time (r : Nat) (e : Rec) (d : Dev) : (pushRec r e d).time = d.time := (congrArg Dev.time (pushRec_shape r e d)).trans rfl
@[simp] theorem pushRec_store (r : Nat) (e : Rec) (d : Dev) : (pushRec r e d).store = d.store := (congrArg Dev.store (pushRec_shape r e d)).trans rfl
@[simp] theorem pushRec_engs (r : Nat) (e : Rec) (d : Dev) : (pushRec r e d).engs = d.engs := (congrArg Dev.engs (pushRec_shape r e d)).trans rfl
@[simp] theorem pushRec_clus (r : Nat) (e : Rec) (d : Dev) : (pushRec r e d).clus = d.clus := (congrArg Dev.clus (pushRec_shape r e d)).trans rfl
@[simp] theorem pushRec_ctx (r : Nat) (e : Rec) (d : Dev) : (pushRec r e d).ctx = d.ctx := (congrArg Dev.ctx (pushRec_shape r e d)).trans rfl
@[simp] theorem pushRec_lnk (r : Nat) (e : Rec) (d : Dev) : (pushRec r e d).lnk = d.lnk := (congrArg Dev.lnk (pushRec_shape r e d)).trans rfl
@[simp] theorem pushRec_pwr (r : Nat) (e : Rec) (d : Dev) : (pushRec r e d).pwr = d.pwr := (congrArg Dev.pwr (pushRec_shape r e d)).trans rfl
@[simp] theorem pushRec_sec (r : Nat) (e : Rec) (d : Dev) : (pushRec r e d).sec = d.sec := (congrArg Dev.sec (pushRec_shape r e d)).trans rfl
@[simp] theorem pushRec_sys (r : Nat) (e : Rec) (d : Dev) : (pushRec r e d).sys = d.sys := (congrArg Dev.sys (pushRec_shape r e d)).trans rfl
@[simp] theorem pushRec_undef (r : Nat) (e : Rec) (d : Dev) : (pushRec r e d).undef = d.undef := (congrArg Dev.undef (pushRec_shape r e d)).trans rfl
@[simp] theorem pushRec_undefNew (r : Nat) (e : Rec) (d : Dev) : (pushRec r e d).undefNew = d.undefNew := (congrArg Dev.undefNew (pushRec_shape r e d)).trans rfl
@[simp] theorem pushRec_freeCtr (r : Nat) (e : Rec) (d : Dev) : (pushRec r e d).freeCtr = d.freeCtr := (congrArg Dev.freeCtr (pushRec_shape r e d)).trans rfl
@[simp] theorem dget_pushRec (q : Reg) (r : Nat) (e : Rec) (d : Dev) : dget q (pushRec r e d) = dget q d :=
  congrArg (fun x => tget q.dflt x q.key) (pushRec_dict r e d)
@[simp] theorem portOf_pushRec (k : Nat) (r : Nat) (e : Rec) (d : Dev) : portOf (pushRec r e d) k = portOf d k :=
  congrArg (fun x => tget Port.rest x k) (pushRec_ports r e d)
@[simp] theorem laneOf_pushRec (k : Nat) (r : Nat) (e : Rec) (d : Dev) : laneOf (pushRec r e d) k = laneOf d k :=
  congrArg (fun x => tget Lane.rest x k) (pushRec_lanes r e d)
@[simp] theorem chanOf_pushRec (k : Nat) (r : Nat) (e : Rec) (d : Dev) : chanOf (pushRec r e d) k = chanOf d k :=
  congrArg (fun x => tget Chan.rest x k) (pushRec_chans r e d)
@[simp] theorem coreOf_pushRec (k : Nat) (r : Nat) (e : Rec) (d : Dev) : coreOf (pushRec r e d) k = coreOf d k :=
  congrArg (fun x => tget Core.rest x k) (pushRec_cores r e d)
@[simp] theorem frameOf_pushRec (k : Nat) (r : Nat) (e : Rec) (d : Dev) : frameOf (pushRec r e d) k = frameOf d k :=
  congrArg (fun x => tget Frame.rest x k) (pushRec_frames r e d)
@[simp] theorem engOf_pushRec (k : Nat) (r : Nat) (e : Rec) (d : Dev) : engOf (pushRec r e d) k = engOf d k :=
  congrArg (fun x => tget Eng.rest x k) (pushRec_engs r e d)
@[simp] theorem linkOf_pushRec (k : Nat) (r : Nat) (e : Rec) (d : Dev) : linkOf (pushRec r e d) k = linkOf d k :=
  congrArg (fun (x : Links) => tget Link.rest x.links k) (pushRec_lnk r e d)

theorem report_small {code : Nat} (h : code < 0x3000) (a0 a1 : Nat) (w : Bool) (d : Dev) :
    reportW code a0 a1 w d = driveFaultN (collect code a0 a1 w d) := by
  have h4 : ¬ code / 0x1000 = 4 := by omega
  have h3 : ¬ code / 0x1000 = 3 := by omega
  simp [reportW, h3, h4]

/-- The parts that may differ are these: dictionary, host port and faults. -/
def DHF (a b : Dev) : Prop := b = { a with dict := b.dict, host := b.host, flt := b.flt }

theorem DHF.trans {a b c : Dev} (h : DHF a b) (g : DHF b c) : DHF a c := by
  unfold DHF at *; rw [g, h]

theorem dhf_dict {a : Dev} {f : Dev → Dev} (h : f a = { a with dict := (f a).dict }) : DHF a (f a) := by
  unfold DHF; rw [h]
theorem dhf_host {a : Dev} {f : Dev → Dev} (h : f a = { a with host := (f a).host }) : DHF a (f a) := by
  unfold DHF; rw [h]
theorem dhf_refl (a : Dev) : DHF a a := rfl
theorem dhf_dset (r : Reg) (v : Nat) (a : Dev) : DHF a (dset r v a) := rfl
theorem dhf_bump (r : Reg) (a : Dev) : DHF a (bump r a) := dhf_dict (bump_shape r a)
theorem dhf_pushRec (r : Nat) (e : Rec) (a : Dev) : DHF a (pushRec r e a) := dhf_host (pushRec_shape r e a)
theorem dhf_msi (v : Nat) (a : Dev) : DHF a (msi v a) := dhf_host (msi_shape v a)
theorem dhf_flt (x : Flt) (a : Dev) : DHF a { a with flt := x } := rfl
theorem dhf_ite {p : Prop} [Decidable p] {a b c : Dev} (h : DHF a b) (g : DHF a c) : DHF a (if p then b else c) := by
  split <;> assumption

theorem dhf_collect (c a0 a1 : Nat) (w : Bool) (d : Dev) : DHF d (collect c a0 a1 w d) := by
  unfold collect; simp only
  have h1 : ∀ e, DHF e (if c / 0x1000 = 0 then e else bump (classCounter (c / 0x1000)) e) := fun e => dhf_ite (dhf_refl _) (dhf_bump _ _)
  generalize hx : (if c / 0x1000 = 0 then d else bump (classCounter (c / 0x1000)) d) = x
  have hx' : DHF d x := hx ▸ h1 d
  have hy : DHF d (dset R.LAST_FAULT_FRAME (logged x c).2 (dset R.LAST_FAULT_CODE (logged x c).1 x)) := hx'.trans ((dhf_dset _ _ _).trans (dhf_dset _ _ _))
  generalize (dset R.LAST_FAULT_FRAME (logged x c).2 (dset R.LAST_FAULT_CODE (logged x c).1 x)) = y at hy
  have hp : DHF y (pushRec 3 (eventRec c a0 a1 y) y) := dhf_pushRec _ _ _
  generalize hq : pushRec 3 (eventRec c a0 a1 y) y = q at hp
  split_ifs <;>
    first
    | exact hy.trans (dhf_bump _ _)
    | exact (hy.trans hp).trans (dhf_flt _ _)
    | exact hy.trans ((dhf_bump _ _).trans ((dhf_dset _ _ _).trans (dhf_flt _ _)))
    | exact hy.trans ((dhf_bump _ _).trans (dhf_dset _ _ _))
    | exact (hy.trans hp).trans ((dhf_flt _ _).trans ((dhf_msi _ _).trans ((dhf_dset _ _ _).trans (dhf_flt _ _))))

theorem dhf_reportW {code : Nat} (h : code < 0x3000) (a0 a1 : Nat) (w : Bool) (d : Dev) : DHF d (reportW code a0 a1 w d) := by
  rw [report_small h]; exact (dhf_collect _ _ _ _ _).trans (dhf_flt _ _)

theorem reportW_shape {code : Nat} (a0 a1 : Nat) (w : Bool) (d : Dev) (h : code < 0x3000) :
    reportW code a0 a1 w d = { d with dict := (reportW code a0 a1 w d).dict, host := (reportW code a0 a1 w d).host, flt := (reportW code a0 a1 w d).flt } := by
  exact dhf_reportW h _ _ _ _

@[simp] theorem reportW_now {code : Nat} (a0 a1 : Nat) (w : Bool) (d : Dev) (h : code < 0x3000) : (reportW code a0 a1 w d).now = d.now := (congrArg Dev.now (reportW_shape a0 a1 w d h)).trans rfl
@[simp] theorem reportW_fuses {code : Nat} (a0 a1 : Nat) (w : Bool) (d : Dev) (h : code < 0x3000) : (reportW code a0 a1 w d).fuses = d.fuses := (congrArg Dev.fuses (reportW_shape a0 a1 w d h)).trans rfl
@[simp] theorem reportW_pins {code : Nat} (a0 a1 : Nat) (w : Bool) (d : Dev) (h : code < 0x3000) : (reportW code a0 a1 w d).pins = d.pins := (congrArg Dev.pins (reportW_shape a0 a1 w d h)).trans rfl
@[simp] theorem reportW_ctl {code : Nat} (a0 a1 : Nat) (w : Bool) (d : Dev) (h : code < 0x3000) : (reportW code a0 a1 w d).ctl = d.ctl := (congrArg Dev.ctl (reportW_shape a0 a1 w d h)).trans rfl
@[simp] theorem reportW_grid {code : Nat} (a0 a1 : Nat) (w : Bool) (d : Dev) (h : code < 0x3000) : (reportW code a0 a1 w d).grid = d.grid := (congrArg Dev.grid (reportW_shape a0 a1 w d h)).trans rfl
@[simp] theorem reportW_pll {code : Nat} (a0 a1 : Nat) (w : Bool) (d : Dev) (h : code < 0x3000) : (reportW code a0 a1 w d).pll = d.pll := (congrArg Dev.pll (reportW_shape a0 a1 w d h)).trans rfl
@[simp] theorem reportW_ports {code : Nat} (a0 a1 : Nat) (w : Bool) (d : Dev) (h : code < 0x3000) : (reportW code a0 a1 w d).ports = d.ports := (congrArg Dev.ports (reportW_shape a0 a1 w d h)).trans rfl
@[simp] theorem reportW_lanes {code : Nat} (a0 a1 : Nat) (w : Bool) (d : Dev) (h : code < 0x3000) : (reportW code a0 a1 w d).lanes = d.lanes := (congrArg Dev.lanes (reportW_shape a0 a1 w d h)).trans rfl
@[simp] theorem reportW_chans {code : Nat} (a0 a1 : Nat) (w : Bool) (d : Dev) (h : code < 0x3000) : (reportW code a0 a1 w d).chans = d.chans := (congrArg Dev.chans (reportW_shape a0 a1 w d h)).trans rfl
@[simp] theorem reportW_edges {code : Nat} (a0 a1 : Nat) (w : Bool) (d : Dev) (h : code < 0x3000) : (reportW code a0 a1 w d).edges = d.edges := (congrArg Dev.edges (reportW_shape a0 a1 w d h)).trans rfl
@[simp] theorem reportW_cores {code : Nat} (a0 a1 : Nat) (w : Bool) (d : Dev) (h : code < 0x3000) : (reportW code a0 a1 w d).cores = d.cores := (congrArg Dev.cores (reportW_shape a0 a1 w d h)).trans rfl
@[simp] theorem reportW_fab {code : Nat} (a0 a1 : Nat) (w : Bool) (d : Dev) (h : code < 0x3000) : (reportW code a0 a1 w d).fab = d.fab := (congrArg Dev.fab (reportW_shape a0 a1 w d h)).trans rfl
@[simp] theorem reportW_enc {code : Nat} (a0 a1 : Nat) (w : Bool) (d : Dev) (h : code < 0x3000) : (reportW code a0 a1 w d).enc = d.enc := (congrArg Dev.enc (reportW_shape a0 a1 w d h)).trans rfl
@[simp] theorem reportW_ldr {code : Nat} (a0 a1 : Nat) (w : Bool) (d : Dev) (h : code < 0x3000) : (reportW code a0 a1 w d).ldr = d.ldr := (congrArg Dev.ldr (reportW_shape a0 a1 w d h)).trans rfl
@[simp] theorem reportW_frames {code : Nat} (a0 a1 : Nat) (w : Bool) (d : Dev) (h : code < 0x3000) : (reportW code a0 a1 w d).frames = d.frames := (congrArg Dev.frames (reportW_shape a0 a1 w d h)).trans rfl
@[simp] theorem reportW_trig {code : Nat} (a0 a1 : Nat) (w : Bool) (d : Dev) (h : code < 0x3000) : (reportW code a0 a1 w d).trig = d.trig := (congrArg Dev.trig (reportW_shape a0 a1 w d h)).trans rfl
@[simp] theorem reportW_time {code : Nat} (a0 a1 : Nat) (w : Bool) (d : Dev) (h : code < 0x3000) : (reportW code a0 a1 w d).time = d.time := (congrArg Dev.time (reportW_shape a0 a1 w d h)).trans rfl
@[simp] theorem reportW_store {code : Nat} (a0 a1 : Nat) (w : Bool) (d : Dev) (h : code < 0x3000) : (reportW code a0 a1 w d).store = d.store := (congrArg Dev.store (reportW_shape a0 a1 w d h)).trans rfl
@[simp] theorem reportW_engs {code : Nat} (a0 a1 : Nat) (w : Bool) (d : Dev) (h : code < 0x3000) : (reportW code a0 a1 w d).engs = d.engs := (congrArg Dev.engs (reportW_shape a0 a1 w d h)).trans rfl
@[simp] theorem reportW_clus {code : Nat} (a0 a1 : Nat) (w : Bool) (d : Dev) (h : code < 0x3000) : (reportW code a0 a1 w d).clus = d.clus := (congrArg Dev.clus (reportW_shape a0 a1 w d h)).trans rfl
@[simp] theorem reportW_ctx {code : Nat} (a0 a1 : Nat) (w : Bool) (d : Dev) (h : code < 0x3000) : (reportW code a0 a1 w d).ctx = d.ctx := (congrArg Dev.ctx (reportW_shape a0 a1 w d h)).trans rfl
@[simp] theorem reportW_lnk {code : Nat} (a0 a1 : Nat) (w : Bool) (d : Dev) (h : code < 0x3000) : (reportW code a0 a1 w d).lnk = d.lnk := (congrArg Dev.lnk (reportW_shape a0 a1 w d h)).trans rfl
@[simp] theorem reportW_pwr {code : Nat} (a0 a1 : Nat) (w : Bool) (d : Dev) (h : code < 0x3000) : (reportW code a0 a1 w d).pwr = d.pwr := (congrArg Dev.pwr (reportW_shape a0 a1 w d h)).trans rfl
@[simp] theorem reportW_sec {code : Nat} (a0 a1 : Nat) (w : Bool) (d : Dev) (h : code < 0x3000) : (reportW code a0 a1 w d).sec = d.sec := (congrArg Dev.sec (reportW_shape a0 a1 w d h)).trans rfl
@[simp] theorem reportW_sys {code : Nat} (a0 a1 : Nat) (w : Bool) (d : Dev) (h : code < 0x3000) : (reportW code a0 a1 w d).sys = d.sys := (congrArg Dev.sys (reportW_shape a0 a1 w d h)).trans rfl
@[simp] theorem reportW_undef {code : Nat} (a0 a1 : Nat) (w : Bool) (d : Dev) (h : code < 0x3000) : (reportW code a0 a1 w d).undef = d.undef := (congrArg Dev.undef (reportW_shape a0 a1 w d h)).trans rfl
@[simp] theorem reportW_undefNew {code : Nat} (a0 a1 : Nat) (w : Bool) (d : Dev) (h : code < 0x3000) : (reportW code a0 a1 w d).undefNew = d.undefNew := (congrArg Dev.undefNew (reportW_shape a0 a1 w d h)).trans rfl
@[simp] theorem reportW_freeCtr {code : Nat} (a0 a1 : Nat) (w : Bool) (d : Dev) (h : code < 0x3000) : (reportW code a0 a1 w d).freeCtr = d.freeCtr := (congrArg Dev.freeCtr (reportW_shape a0 a1 w d h)).trans rfl
@[simp] theorem portOf_reportW (k : Nat) {code : Nat} (a0 a1 : Nat) (w : Bool) (d : Dev) (h : code < 0x3000) : portOf (reportW code a0 a1 w d) k = portOf d k :=
  congrArg (fun x => tget Port.rest x k) (reportW_ports a0 a1 w d h)
@[simp] theorem laneOf_reportW (k : Nat) {code : Nat} (a0 a1 : Nat) (w : Bool) (d : Dev) (h : code < 0x3000) : laneOf (reportW code a0 a1 w d) k = laneOf d k :=
  congrArg (fun x => tget Lane.rest x k) (reportW_lanes a0 a1 w d h)
@[simp] theorem chanOf_reportW (k : Nat) {code : Nat} (a0 a1 : Nat) (w : Bool) (d : Dev) (h : code < 0x3000) : chanOf (reportW code a0 a1 w d) k = chanOf d k :=
  congrArg (fun x => tget Chan.rest x k) (reportW_chans a0 a1 w d h)
@[simp] theorem coreOf_reportW (k : Nat) {code : Nat} (a0 a1 : Nat) (w : Bool) (d : Dev) (h : code < 0x3000) : coreOf (reportW code a0 a1 w d) k = coreOf d k :=
  congrArg (fun x => tget Core.rest x k) (reportW_cores a0 a1 w d h)
@[simp] theorem frameOf_reportW (k : Nat) {code : Nat} (a0 a1 : Nat) (w : Bool) (d : Dev) (h : code < 0x3000) : frameOf (reportW code a0 a1 w d) k = frameOf d k :=
  congrArg (fun x => tget Frame.rest x k) (reportW_frames a0 a1 w d h)
@[simp] theorem engOf_reportW (k : Nat) {code : Nat} (a0 a1 : Nat) (w : Bool) (d : Dev) (h : code < 0x3000) : engOf (reportW code a0 a1 w d) k = engOf d k :=
  congrArg (fun x => tget Eng.rest x k) (reportW_engs a0 a1 w d h)
@[simp] theorem linkOf_reportW (k : Nat) {code : Nat} (a0 a1 : Nat) (w : Bool) (d : Dev) (h : code < 0x3000) : linkOf (reportW code a0 a1 w d) k = linkOf d k :=
  congrArg (fun (x : Links) => tget Link.rest x.links k) (reportW_lnk a0 a1 w d h)

theorem report_shape {code : Nat} (a0 a1 : Nat) (d : Dev) (h : code < 0x3000) :
    report code a0 a1 d = { d with dict := (report code a0 a1 d).dict, host := (report code a0 a1 d).host, flt := (report code a0 a1 d).flt } := by
  exact dhf_reportW h _ _ _ _

@[simp] theorem report_now {code : Nat} (a0 a1 : Nat) (d : Dev) (h : code < 0x3000) : (report code a0 a1 d).now = d.now := (congrArg Dev.now (report_shape a0 a1 d h)).trans rfl
@[simp] theorem report_fuses {code : Nat} (a0 a1 : Nat) (d : Dev) (h : code < 0x3000) : (report code a0 a1 d).fuses = d.fuses := (congrArg Dev.fuses (report_shape a0 a1 d h)).trans rfl
@[simp] theorem report_pins {code : Nat} (a0 a1 : Nat) (d : Dev) (h : code < 0x3000) : (report code a0 a1 d).pins = d.pins := (congrArg Dev.pins (report_shape a0 a1 d h)).trans rfl
@[simp] theorem report_ctl {code : Nat} (a0 a1 : Nat) (d : Dev) (h : code < 0x3000) : (report code a0 a1 d).ctl = d.ctl := (congrArg Dev.ctl (report_shape a0 a1 d h)).trans rfl
@[simp] theorem report_grid {code : Nat} (a0 a1 : Nat) (d : Dev) (h : code < 0x3000) : (report code a0 a1 d).grid = d.grid := (congrArg Dev.grid (report_shape a0 a1 d h)).trans rfl
@[simp] theorem report_pll {code : Nat} (a0 a1 : Nat) (d : Dev) (h : code < 0x3000) : (report code a0 a1 d).pll = d.pll := (congrArg Dev.pll (report_shape a0 a1 d h)).trans rfl
@[simp] theorem report_ports {code : Nat} (a0 a1 : Nat) (d : Dev) (h : code < 0x3000) : (report code a0 a1 d).ports = d.ports := (congrArg Dev.ports (report_shape a0 a1 d h)).trans rfl
@[simp] theorem report_lanes {code : Nat} (a0 a1 : Nat) (d : Dev) (h : code < 0x3000) : (report code a0 a1 d).lanes = d.lanes := (congrArg Dev.lanes (report_shape a0 a1 d h)).trans rfl
@[simp] theorem report_chans {code : Nat} (a0 a1 : Nat) (d : Dev) (h : code < 0x3000) : (report code a0 a1 d).chans = d.chans := (congrArg Dev.chans (report_shape a0 a1 d h)).trans rfl
@[simp] theorem report_edges {code : Nat} (a0 a1 : Nat) (d : Dev) (h : code < 0x3000) : (report code a0 a1 d).edges = d.edges := (congrArg Dev.edges (report_shape a0 a1 d h)).trans rfl
@[simp] theorem report_cores {code : Nat} (a0 a1 : Nat) (d : Dev) (h : code < 0x3000) : (report code a0 a1 d).cores = d.cores := (congrArg Dev.cores (report_shape a0 a1 d h)).trans rfl
@[simp] theorem report_fab {code : Nat} (a0 a1 : Nat) (d : Dev) (h : code < 0x3000) : (report code a0 a1 d).fab = d.fab := (congrArg Dev.fab (report_shape a0 a1 d h)).trans rfl
@[simp] theorem report_enc {code : Nat} (a0 a1 : Nat) (d : Dev) (h : code < 0x3000) : (report code a0 a1 d).enc = d.enc := (congrArg Dev.enc (report_shape a0 a1 d h)).trans rfl
@[simp] theorem report_ldr {code : Nat} (a0 a1 : Nat) (d : Dev) (h : code < 0x3000) : (report code a0 a1 d).ldr = d.ldr := (congrArg Dev.ldr (report_shape a0 a1 d h)).trans rfl
@[simp] theorem report_frames {code : Nat} (a0 a1 : Nat) (d : Dev) (h : code < 0x3000) : (report code a0 a1 d).frames = d.frames := (congrArg Dev.frames (report_shape a0 a1 d h)).trans rfl
@[simp] theorem report_trig {code : Nat} (a0 a1 : Nat) (d : Dev) (h : code < 0x3000) : (report code a0 a1 d).trig = d.trig := (congrArg Dev.trig (report_shape a0 a1 d h)).trans rfl
@[simp] theorem report_time {code : Nat} (a0 a1 : Nat) (d : Dev) (h : code < 0x3000) : (report code a0 a1 d).time = d.time := (congrArg Dev.time (report_shape a0 a1 d h)).trans rfl
@[simp] theorem report_store {code : Nat} (a0 a1 : Nat) (d : Dev) (h : code < 0x3000) : (report code a0 a1 d).store = d.store := (congrArg Dev.store (report_shape a0 a1 d h)).trans rfl
@[simp] theorem report_engs {code : Nat} (a0 a1 : Nat) (d : Dev) (h : code < 0x3000) : (report code a0 a1 d).engs = d.engs := (congrArg Dev.engs (report_shape a0 a1 d h)).trans rfl
@[simp] theorem report_clus {code : Nat} (a0 a1 : Nat) (d : Dev) (h : code < 0x3000) : (report code a0 a1 d).clus = d.clus := (congrArg Dev.clus (report_shape a0 a1 d h)).trans rfl
@[simp] theorem report_ctx {code : Nat} (a0 a1 : Nat) (d : Dev) (h : code < 0x3000) : (report code a0 a1 d).ctx = d.ctx := (congrArg Dev.ctx (report_shape a0 a1 d h)).trans rfl
@[simp] theorem report_lnk {code : Nat} (a0 a1 : Nat) (d : Dev) (h : code < 0x3000) : (report code a0 a1 d).lnk = d.lnk := (congrArg Dev.lnk (report_shape a0 a1 d h)).trans rfl
@[simp] theorem report_pwr {code : Nat} (a0 a1 : Nat) (d : Dev) (h : code < 0x3000) : (report code a0 a1 d).pwr = d.pwr := (congrArg Dev.pwr (report_shape a0 a1 d h)).trans rfl
@[simp] theorem report_sec {code : Nat} (a0 a1 : Nat) (d : Dev) (h : code < 0x3000) : (report code a0 a1 d).sec = d.sec := (congrArg Dev.sec (report_shape a0 a1 d h)).trans rfl
@[simp] theorem report_sys {code : Nat} (a0 a1 : Nat) (d : Dev) (h : code < 0x3000) : (report code a0 a1 d).sys = d.sys := (congrArg Dev.sys (report_shape a0 a1 d h)).trans rfl
@[simp] theorem report_undef {code : Nat} (a0 a1 : Nat) (d : Dev) (h : code < 0x3000) : (report code a0 a1 d).undef = d.undef := (congrArg Dev.undef (report_shape a0 a1 d h)).trans rfl
@[simp] theorem report_undefNew {code : Nat} (a0 a1 : Nat) (d : Dev) (h : code < 0x3000) : (report code a0 a1 d).undefNew = d.undefNew := (congrArg Dev.undefNew (report_shape a0 a1 d h)).trans rfl
@[simp] theorem report_freeCtr {code : Nat} (a0 a1 : Nat) (d : Dev) (h : code < 0x3000) : (report code a0 a1 d).freeCtr = d.freeCtr := (congrArg Dev.freeCtr (report_shape a0 a1 d h)).trans rfl
@[simp] theorem portOf_report (k : Nat) {code : Nat} (a0 a1 : Nat) (d : Dev) (h : code < 0x3000) : portOf (report code a0 a1 d) k = portOf d k :=
  congrArg (fun x => tget Port.rest x k) (report_ports a0 a1 d h)
@[simp] theorem laneOf_report (k : Nat) {code : Nat} (a0 a1 : Nat) (d : Dev) (h : code < 0x3000) : laneOf (report code a0 a1 d) k = laneOf d k :=
  congrArg (fun x => tget Lane.rest x k) (report_lanes a0 a1 d h)
@[simp] theorem chanOf_report (k : Nat) {code : Nat} (a0 a1 : Nat) (d : Dev) (h : code < 0x3000) : chanOf (report code a0 a1 d) k = chanOf d k :=
  congrArg (fun x => tget Chan.rest x k) (report_chans a0 a1 d h)
@[simp] theorem coreOf_report (k : Nat) {code : Nat} (a0 a1 : Nat) (d : Dev) (h : code < 0x3000) : coreOf (report code a0 a1 d) k = coreOf d k :=
  congrArg (fun x => tget Core.rest x k) (report_cores a0 a1 d h)
@[simp] theorem frameOf_report (k : Nat) {code : Nat} (a0 a1 : Nat) (d : Dev) (h : code < 0x3000) : frameOf (report code a0 a1 d) k = frameOf d k :=
  congrArg (fun x => tget Frame.rest x k) (report_frames a0 a1 d h)
@[simp] theorem engOf_report (k : Nat) {code : Nat} (a0 a1 : Nat) (d : Dev) (h : code < 0x3000) : engOf (report code a0 a1 d) k = engOf d k :=
  congrArg (fun x => tget Eng.rest x k) (report_engs a0 a1 d h)
@[simp] theorem linkOf_report (k : Nat) {code : Nat} (a0 a1 : Nat) (d : Dev) (h : code < 0x3000) : linkOf (report code a0 a1 d) k = linkOf d k :=
  congrArg (fun (x : Links) => tget Link.rest x.links k) (report_lnk a0 a1 d h)

theorem reportLim_shape {code : Nat} (p u a0 a1 : Nat) (d : Dev) (h : code < 0x3000) :
    reportLim p u code a0 a1 d = { d with dict := (reportLim p u code a0 a1 d).dict, host := (reportLim p u code a0 a1 d).host, flt := (reportLim p u code a0 a1 d).flt } := by
  unfold reportLim; simp only; exact dhf_ite (dhf_reportW h _ _ _ _) ((dhf_reportW h _ _ _ _).trans (dhf_flt _ _))

@[simp] theorem reportLim_now {code : Nat} (p u a0 a1 : Nat) (d : Dev) (h : code < 0x3000) : (reportLim p u code a0 a1 d).now = d.now := (congrArg Dev.now (reportLim_shape p u a0 a1 d h)).trans rfl
@[simp] theorem reportLim_fuses {code : Nat} (p u a0 a1 : Nat) (d : Dev) (h : code < 0x3000) : (reportLim p u code a0 a1 d).fuses = d.fuses := (congrArg Dev.fuses (reportLim_shape p u a0 a1 d h)).trans rfl
@[simp] theorem reportLim_pins {code : Nat} (p u a0 a1 : Nat) (d : Dev) (h : code < 0x3000) : (reportLim p u code a0 a1 d).pins = d.pins := (congrArg Dev.pins (reportLim_shape p u a0 a1 d h)).trans rfl
@[simp] theorem reportLim_ctl {code : Nat} (p u a0 a1 : Nat) (d : Dev) (h : code < 0x3000) : (reportLim p u code a0 a1 d).ctl = d.ctl := (congrArg Dev.ctl (reportLim_shape p u a0 a1 d h)).trans rfl
@[simp] theorem reportLim_grid {code : Nat} (p u a0 a1 : Nat) (d : Dev) (h : code < 0x3000) : (reportLim p u code a0 a1 d).grid = d.grid := (congrArg Dev.grid (reportLim_shape p u a0 a1 d h)).trans rfl
@[simp] theorem reportLim_pll {code : Nat} (p u a0 a1 : Nat) (d : Dev) (h : code < 0x3000) : (reportLim p u code a0 a1 d).pll = d.pll := (congrArg Dev.pll (reportLim_shape p u a0 a1 d h)).trans rfl
@[simp] theorem reportLim_ports {code : Nat} (p u a0 a1 : Nat) (d : Dev) (h : code < 0x3000) : (reportLim p u code a0 a1 d).ports = d.ports := (congrArg Dev.ports (reportLim_shape p u a0 a1 d h)).trans rfl
@[simp] theorem reportLim_lanes {code : Nat} (p u a0 a1 : Nat) (d : Dev) (h : code < 0x3000) : (reportLim p u code a0 a1 d).lanes = d.lanes := (congrArg Dev.lanes (reportLim_shape p u a0 a1 d h)).trans rfl
@[simp] theorem reportLim_chans {code : Nat} (p u a0 a1 : Nat) (d : Dev) (h : code < 0x3000) : (reportLim p u code a0 a1 d).chans = d.chans := (congrArg Dev.chans (reportLim_shape p u a0 a1 d h)).trans rfl
@[simp] theorem reportLim_edges {code : Nat} (p u a0 a1 : Nat) (d : Dev) (h : code < 0x3000) : (reportLim p u code a0 a1 d).edges = d.edges := (congrArg Dev.edges (reportLim_shape p u a0 a1 d h)).trans rfl
@[simp] theorem reportLim_cores {code : Nat} (p u a0 a1 : Nat) (d : Dev) (h : code < 0x3000) : (reportLim p u code a0 a1 d).cores = d.cores := (congrArg Dev.cores (reportLim_shape p u a0 a1 d h)).trans rfl
@[simp] theorem reportLim_fab {code : Nat} (p u a0 a1 : Nat) (d : Dev) (h : code < 0x3000) : (reportLim p u code a0 a1 d).fab = d.fab := (congrArg Dev.fab (reportLim_shape p u a0 a1 d h)).trans rfl
@[simp] theorem reportLim_enc {code : Nat} (p u a0 a1 : Nat) (d : Dev) (h : code < 0x3000) : (reportLim p u code a0 a1 d).enc = d.enc := (congrArg Dev.enc (reportLim_shape p u a0 a1 d h)).trans rfl
@[simp] theorem reportLim_ldr {code : Nat} (p u a0 a1 : Nat) (d : Dev) (h : code < 0x3000) : (reportLim p u code a0 a1 d).ldr = d.ldr := (congrArg Dev.ldr (reportLim_shape p u a0 a1 d h)).trans rfl
@[simp] theorem reportLim_frames {code : Nat} (p u a0 a1 : Nat) (d : Dev) (h : code < 0x3000) : (reportLim p u code a0 a1 d).frames = d.frames := (congrArg Dev.frames (reportLim_shape p u a0 a1 d h)).trans rfl
@[simp] theorem reportLim_trig {code : Nat} (p u a0 a1 : Nat) (d : Dev) (h : code < 0x3000) : (reportLim p u code a0 a1 d).trig = d.trig := (congrArg Dev.trig (reportLim_shape p u a0 a1 d h)).trans rfl
@[simp] theorem reportLim_time {code : Nat} (p u a0 a1 : Nat) (d : Dev) (h : code < 0x3000) : (reportLim p u code a0 a1 d).time = d.time := (congrArg Dev.time (reportLim_shape p u a0 a1 d h)).trans rfl
@[simp] theorem reportLim_store {code : Nat} (p u a0 a1 : Nat) (d : Dev) (h : code < 0x3000) : (reportLim p u code a0 a1 d).store = d.store := (congrArg Dev.store (reportLim_shape p u a0 a1 d h)).trans rfl
@[simp] theorem reportLim_engs {code : Nat} (p u a0 a1 : Nat) (d : Dev) (h : code < 0x3000) : (reportLim p u code a0 a1 d).engs = d.engs := (congrArg Dev.engs (reportLim_shape p u a0 a1 d h)).trans rfl
@[simp] theorem reportLim_clus {code : Nat} (p u a0 a1 : Nat) (d : Dev) (h : code < 0x3000) : (reportLim p u code a0 a1 d).clus = d.clus := (congrArg Dev.clus (reportLim_shape p u a0 a1 d h)).trans rfl
@[simp] theorem reportLim_ctx {code : Nat} (p u a0 a1 : Nat) (d : Dev) (h : code < 0x3000) : (reportLim p u code a0 a1 d).ctx = d.ctx := (congrArg Dev.ctx (reportLim_shape p u a0 a1 d h)).trans rfl
@[simp] theorem reportLim_lnk {code : Nat} (p u a0 a1 : Nat) (d : Dev) (h : code < 0x3000) : (reportLim p u code a0 a1 d).lnk = d.lnk := (congrArg Dev.lnk (reportLim_shape p u a0 a1 d h)).trans rfl
@[simp] theorem reportLim_pwr {code : Nat} (p u a0 a1 : Nat) (d : Dev) (h : code < 0x3000) : (reportLim p u code a0 a1 d).pwr = d.pwr := (congrArg Dev.pwr (reportLim_shape p u a0 a1 d h)).trans rfl
@[simp] theorem reportLim_sec {code : Nat} (p u a0 a1 : Nat) (d : Dev) (h : code < 0x3000) : (reportLim p u code a0 a1 d).sec = d.sec := (congrArg Dev.sec (reportLim_shape p u a0 a1 d h)).trans rfl
@[simp] theorem reportLim_sys {code : Nat} (p u a0 a1 : Nat) (d : Dev) (h : code < 0x3000) : (reportLim p u code a0 a1 d).sys = d.sys := (congrArg Dev.sys (reportLim_shape p u a0 a1 d h)).trans rfl
@[simp] theorem reportLim_undef {code : Nat} (p u a0 a1 : Nat) (d : Dev) (h : code < 0x3000) : (reportLim p u code a0 a1 d).undef = d.undef := (congrArg Dev.undef (reportLim_shape p u a0 a1 d h)).trans rfl
@[simp] theorem reportLim_undefNew {code : Nat} (p u a0 a1 : Nat) (d : Dev) (h : code < 0x3000) : (reportLim p u code a0 a1 d).undefNew = d.undefNew := (congrArg Dev.undefNew (reportLim_shape p u a0 a1 d h)).trans rfl
@[simp] theorem reportLim_freeCtr {code : Nat} (p u a0 a1 : Nat) (d : Dev) (h : code < 0x3000) : (reportLim p u code a0 a1 d).freeCtr = d.freeCtr := (congrArg Dev.freeCtr (reportLim_shape p u a0 a1 d h)).trans rfl
@[simp] theorem portOf_reportLim (k : Nat) {code : Nat} (p u a0 a1 : Nat) (d : Dev) (h : code < 0x3000) : portOf (reportLim p u code a0 a1 d) k = portOf d k :=
  congrArg (fun x => tget Port.rest x k) (reportLim_ports p u a0 a1 d h)
@[simp] theorem laneOf_reportLim (k : Nat) {code : Nat} (p u a0 a1 : Nat) (d : Dev) (h : code < 0x3000) : laneOf (reportLim p u code a0 a1 d) k = laneOf d k :=
  congrArg (fun x => tget Lane.rest x k) (reportLim_lanes p u a0 a1 d h)
@[simp] theorem chanOf_reportLim (k : Nat) {code : Nat} (p u a0 a1 : Nat) (d : Dev) (h : code < 0x3000) : chanOf (reportLim p u code a0 a1 d) k = chanOf d k :=
  congrArg (fun x => tget Chan.rest x k) (reportLim_chans p u a0 a1 d h)
@[simp] theorem coreOf_reportLim (k : Nat) {code : Nat} (p u a0 a1 : Nat) (d : Dev) (h : code < 0x3000) : coreOf (reportLim p u code a0 a1 d) k = coreOf d k :=
  congrArg (fun x => tget Core.rest x k) (reportLim_cores p u a0 a1 d h)
@[simp] theorem frameOf_reportLim (k : Nat) {code : Nat} (p u a0 a1 : Nat) (d : Dev) (h : code < 0x3000) : frameOf (reportLim p u code a0 a1 d) k = frameOf d k :=
  congrArg (fun x => tget Frame.rest x k) (reportLim_frames p u a0 a1 d h)
@[simp] theorem engOf_reportLim (k : Nat) {code : Nat} (p u a0 a1 : Nat) (d : Dev) (h : code < 0x3000) : engOf (reportLim p u code a0 a1 d) k = engOf d k :=
  congrArg (fun x => tget Eng.rest x k) (reportLim_engs p u a0 a1 d h)
@[simp] theorem linkOf_reportLim (k : Nat) {code : Nat} (p u a0 a1 : Nat) (d : Dev) (h : code < 0x3000) : linkOf (reportLim p u code a0 a1 d) k = linkOf d k :=
  congrArg (fun (x : Links) => tget Link.rest x.links k) (reportLim_lnk p u a0 a1 d h)

/-! What a run of updates leaves of the dictionary. -/

theorem SameEntriesBut.trans {ks : List Nat} {a b c : Dev} (h : SameEntriesBut ks a b) (g : SameEntriesBut ks b c) : SameEntriesBut ks a c :=
  fun r hr => (g r hr).trans (h r hr)
theorem SameEntriesBut.mono {ks ls : List Nat} {a b : Dev} (h : SameEntriesBut ks a b) (hs : ks ⊆ ls) : SameEntriesBut ls a b :=
  fun r hr => h r (fun x => hr (hs x))
theorem seb_dict {ks : List Nat} {a b : Dev} (h : b.dict = a.dict) : SameEntriesBut ks a b := fun r _ => by simp [dget, h]
theorem seb_refl (ks : List Nat) (a : Dev) : SameEntriesBut ks a a := fun _ _ => rfl
theorem seb_dset {ks : List Nat} {r : Reg} (h : r.key ∈ ks) (v : Nat) (a : Dev) : SameEntriesBut ks a (dset r v a) :=
  fun _ hq => dget_dset_ne v a (fun e => hq (e ▸ h))
theorem seb_bumpBy {ks : List Nat} {r : Reg} (h : r.key ∈ ks) (n : Nat) (a : Dev) : SameEntriesBut ks a (bumpBy r n a) :=
  fun _ hq => dget_bumpBy_ne n a (fun e => hq (e ▸ h))
theorem seb_bump {ks : List Nat} {r : Reg} (h : r.key ∈ ks) (a : Dev) : SameEntriesBut ks a (bump r a) := seb_bumpBy h 1 a
theorem seb_ite {ks : List Nat} {p : Prop} [Decidable p] {a b c : Dev} (h : SameEntriesBut ks a b) (g : SameEntriesBut ks a c) :
    SameEntriesBut ks a (if p then b else c) := by split <;> assumption

theorem seb_collect {c : Nat} (h : c < 0x3000) (a0 a1 : Nat) (w : Bool) (d : Dev) : SameEntriesBut reportKeys d (collect c a0 a1 w d) := by
  have hc : ∀ e, SameEntriesBut reportKeys e (if c / 0x1000 = 0 then e else bump (classCounter (c / 0x1000)) e) := by
    intro e
    have : c / 0x1000 = 0 ∨ c / 0x1000 = 1 ∨ c / 0x1000 = 2 := by omega
    rcases this with k | k | k
    · simp [k, seb_refl]
    · simp only [k]; exact seb_bump (by simp [reportKeys, classCounter]) e
    · simp only [k]; exact seb_bump (by simp [reportKeys, classCounter]) e
  unfold collect; simp only
  generalize hx : (if c / 0x1000 = 0 then d else bump (classCounter (c / 0x1000)) d) = x
  have hx' : SameEntriesBut reportKeys d x := hx ▸ hc d
  have hy : SameEntriesBut reportKeys d (dset R.LAST_FAULT_FRAME (logged x c).2 (dset R.LAST_FAULT_CODE (logged x c).1 x)) :=
    hx'.trans ((seb_dset (by simp [reportKeys]) _ _).trans (seb_dset (by simp [reportKeys]) _ _))
  generalize (dset R.LAST_FAULT_FRAME (logged x c).2 (dset R.LAST_FAULT_CODE (logged x c).1 x)) = y at hy
  have hp : SameEntriesBut reportKeys y (pushRec 3 (eventRec c a0 a1 y) y) := seb_dict (by simp)
  generalize hq : pushRec 3 (eventRec c a0 a1 y) y = q at hp
  have hb : ∀ e, SameEntriesBut reportKeys e (bump R.EVENTS_SUPPRESSED e) := fun e => seb_bump (by simp [reportKeys]) e
  have ha : ∀ v e, SameEntriesBut reportKeys e (dset R.FAULT_ACTIVE v e) := fun v e => seb_dset (by simp [reportKeys]) v e
  have hf : ∀ (x : Flt) (e : Dev), SameEntriesBut reportKeys e { e with flt := x } := fun _ _ => seb_dict rfl
  have hm : ∀ e, SameEntriesBut reportKeys e (msi 5 e) := fun e => seb_dict (by simp)
  split_ifs <;>
    first
    | exact hy.trans (hb _)
    | exact (hy.trans hp).trans (hf _ _)
    | exact hy.trans ((hb _).trans ((ha _ _).trans (hf _ _)))
    | exact hy.trans ((hb _).trans (ha _ _))
    | exact (hy.trans hp).trans ((hf _ _).trans ((hm _).trans ((ha _ _).trans (hf _ _))))

theorem seb_reportW {c : Nat} (h : c < 0x3000) (a0 a1 : Nat) (w : Bool) (d : Dev) : SameEntriesBut reportKeys d (reportW c a0 a1 w d) := by
  rw [report_small h]; exact (seb_collect h _ _ _ _).trans (seb_dict rfl)

theorem seb_report {c : Nat} (h : c < 0x3000) (a0 a1 : Nat) (d : Dev) : SameEntriesBut reportKeys d (report c a0 a1 d) := seb_reportW h _ _ _ _

theorem seb_reportLim {c : Nat} (h : c < 0x3000) (p u a0 a1 : Nat) (d : Dev) : SameEntriesBut reportKeys d (reportLim p u c a0 a1 d) := by
  unfold reportLim; simp only; exact seb_ite (seb_reportW h _ _ _ _) ((seb_reportW h _ _ _ _).trans (seb_dict rfl))

theorem dget_report {c : Nat} (h : c < 0x3000) (a0 a1 : Nat) (d : Dev) (q : Reg) (hq : q.key ∉ reportKeys) :
    dget q (report c a0 a1 d) = dget q d := seb_report h _ _ _ q hq

theorem dget_reportLim {c : Nat} (h : c < 0x3000) (p u a0 a1 : Nat) (d : Dev) (q : Reg) (hq : q.key ∉ reportKeys) :
    dget q (reportLim p u c a0 a1 d) = dget q d := seb_reportLim h _ _ _ _ _ q hq

end Sys2Proof.Machine
end

