-- ==== Sys2Proof/Laws/Only.lean ====
section
/-! SUPPORT. Frames in one word: what each shared operation may change, that frames compose, and what a write to an entry without
a value of its own (WO) does once its checks pass. -/

-- One theorem at a time: the package as one text then stays within its memory.
set_option Elab.async false

namespace Sys2Proof.Machine

theorem ChangesOnly.refl (ps : List Part) (a : Dev) : ChangesOnly ps a a := fun p _ => by cases p <;> rfl

theorem ChangesOnly.trans {ps : List Part} {a b c : Dev} (h : ChangesOnly ps a b) (g : ChangesOnly ps b c) : ChangesOnly ps a c := by
  intro p hp
  have h1 := h p hp
  have h2 := g p hp
  cases p <;> exact Eq.trans h2 h1

theorem ChangesOnly.mono {ps qs : List Part} {a b : Dev} (h : ChangesOnly ps a b) (hs : ps ⊆ qs) : ChangesOnly qs a b :=
  fun p hp => h p (fun x => hp (hs x))

/-- Steps of one chain, each with a frame of its own. -/
theorem ChangesOnly.then {ps qs rs : List Part} {a b c : Dev} (h : ChangesOnly ps a b) (g : ChangesOnly qs b c) (hp : ps ⊆ rs) (hq : qs ⊆ rs) :
    ChangesOnly rs a c := (h.mono hp).trans (g.mono hq)

theorem ChangesOnly.ite {ps : List Part} {p : Prop} [Decidable p] {a b c : Dev} (h : ChangesOnly ps a b) (g : ChangesOnly ps a c) :
    ChangesOnly ps a (if p then b else c) := by split <;> assumption

theorem ChangesOnly.foldl {α : Type} {ps : List Part} {f : Dev → α → Dev} (h : ∀ d x, ChangesOnly ps d (f d x)) (l : List α) (d : Dev) :
    ChangesOnly ps d (l.foldl f d) := by
  induction l generalizing d with
  | nil => exact ChangesOnly.refl _ _
  | cons x l ih => exact (h d x).trans (ih _)

theorem only_modChan (n : Nat) (g : Chan → Chan) (d : Dev) : ChangesOnly [.chans] d (modChan n g d) :=
  fun p hp => by cases p <;> first | exact absurd (by decide) hp | rfl
theorem only_dset (r : Reg) (v : Nat) (d : Dev) : ChangesOnly [.dict] d (dset r v d) :=
  fun p hp => by cases p <;> first | exact absurd (by decide) hp | rfl
theorem only_bumpBy (r : Reg) (n : Nat) (d : Dev) : ChangesOnly [.dict] d (bumpBy r n d) :=
  fun p hp => by cases p <;> first | exact absurd (by decide) hp | simp [Part.same]
theorem only_bump (r : Reg) (d : Dev) : ChangesOnly [.dict] d (bump r d) := only_bumpBy r 1 d
theorem only_advTo (t : Nat) (d : Dev) : ChangesOnly [.now, .time] d (advTo t d) :=
  fun p hp => by cases p <;> first | exact absurd (by decide) hp | simp [Part.same]
theorem only_msi (v : Nat) (d : Dev) : ChangesOnly [.host] d (msi v d) :=
  fun p hp => by cases p <;> first | exact absurd (by decide) hp | simp [Part.same]
theorem only_pushRec (r : Nat) (x : Rec) (d : Dev) : ChangesOnly [.host] d (pushRec r x d) :=
  fun p hp => by cases p <;> first | exact absurd (by decide) hp | simp [Part.same]
theorem only_modPort (n : Nat) (g : Port → Port) (d : Dev) : ChangesOnly [.ports] d (modPort n g d) :=
  fun p hp => by cases p <;> first | exact absurd (by decide) hp | simp [Part.same]
theorem only_setPort (n : Nat) (g : Port) (d : Dev) : ChangesOnly [.ports] d (setPort n g d) :=
  fun p hp => by cases p <;> first | exact absurd (by decide) hp | simp [Part.same]
theorem only_modCtl (g : Ctl → Ctl) (d : Dev) : ChangesOnly [.ctl] d (modCtl g d) :=
  fun p hp => by cases p <;> first | exact absurd (by decide) hp | rfl
theorem only_asked (c : Nat) (d : Dev) : ChangesOnly [.ctl] d (asked c d) := by
  obtain ⟨x, hx⟩ := asked_eq c d
  rw [hx]
  exact fun p hp => by cases p <;> first | exact absurd (by decide) hp | rfl

/-- A command whose operands are in order answers its effect. -/
theorem run_ok {ok : Bool} {f : Dev → Dev} {s : State} (h : ok = true) : run ok f s = .next { s with dev := f s.dev } := by
  simp [run, h]

/-- The row of an entry in the dictionary's tables, as the lookups of a write find it. -/
def rowIs (r : Reg) (e : Entry) : Bool :=
  idxExists (r.key / 256) && decide (r.key % 256 ≠ 0) && (stagingAt (r.key / 256) (r.key % 256)).isNone
    && decide (findEntry (r.key / 256) (r.key % 256) = some e) && !ghostLane r.key

/-- A write of a value that its entry admits, by a client that may ask. -/
theorem row_write {c v : Nat} {r : Reg} {d : Dev} (e : Entry) (h : Asks c d) (hr : rowIs r e = true) (ha : e.access ≠ .const ∧ e.access ≠ .ro)
    (hv : v < 2 ^ (8 * tyBytes e.ty)) (hh : e.hostOnly = false ∨ c = 0) (hc : chkValue d e.chk v = 0) (ho : ownerRuns d e.owner r.key = false)
    (hp : (putEntry c r.key v e.access none (asked c d)).2.1 = 0) :
    rowWrite c r v d = (putEntry c r.key v e.access none (asked c d)).1 := by
  simp only [rowIs, Bool.and_eq_true, decide_eq_true_eq, Option.isNone_iff_eq_none, Bool.not_eq_true'] at hr
  obtain ⟨⟨⟨⟨h1, h2⟩, h3⟩, h4⟩, h5⟩ := hr
  exact rowWrite_ok e h h1 h2 h3 h4 ha hv hh hc (by rw [ownerRuns_asked]; exact ho) h5 (chkValue_asked c d _ _) hp

/-- The same for a command entry (WO): the effect is the command's. -/
theorem wo_write {c v : Nat} {r : Reg} {d : Dev} (e : Entry) (h : Asks c d) (hr : rowIs r e = true) (ha : e.access = .wo)
    (hv : v < 2 ^ (8 * tyBytes e.ty)) (hh : e.hostOnly = false ∨ c = 0) (hc : chkValue d e.chk v = 0) (ho : ownerRuns d e.owner r.key = false)
    (hp : (command c r.key v none (asked c d)).2.1 = 0) :
    rowWrite c r v d = (command c r.key v none (asked c d)).1 := by
  have := row_write (c := c) (v := v) (r := r) (d := d) e h hr (by simp [ha]) hv hh hc ho (by rw [ha]; exact hp)
  rw [this, ha]; rfl

end Sys2Proof.Machine
end

