-- ==== Sys2Proof/Laws/Front.lean ====
section
/-! SUPPORT. What the shared operations of the front-end ports do: lanes and port states shown in the dictionary, frames made
INVALID, the loss of the reference port. -/

-- One theorem at a time: the package as one text then stays within its memory.
set_option Elab.async false

namespace Sys2Proof.Machine

theorem only_driveFaultN (d : Dev) : ChangesOnly [.flt] d (driveFaultN d) :=
  fun p hp => by cases p <;> first | exact absurd (by decide) hp | rfl
theorem only_report {c : Nat} (h : c < 0x3000) (a0 a1 : Nat) (d : Dev) : ChangesOnly [.dict, .host, .flt] d (report c a0 a1 d) :=
  fun p hp => by cases p <;> first | exact absurd (by decide) hp | simp [Part.same, h]
theorem only_reportLim {c : Nat} (h : c < 0x3000) (t u a0 a1 : Nat) (d : Dev) : ChangesOnly [.dict, .host, .flt] d (reportLim t u c a0 a1 d) :=
  fun p hp => by cases p <;> first | exact absurd (by decide) hp | simp [Part.same, h]

theorem only_invalidate (n : Nat) (d : Dev) : ChangesOnly [.frames] d (invalidate n d) := by
  unfold invalidate; split
  · exact ChangesOnly.refl _ _
  · exact fun p hp => by cases p <;> first | exact absurd (by decide) hp | rfl
theorem seb_invalidate (ks : List Nat) (n : Nat) (d : Dev) : SameEntriesBut ks d (invalidate n d) := by
  unfold invalidate; split
  · exact seb_refl _ _
  · exact seb_dict rfl
theorem only_invalidNow (p : Nat) (d : Dev) : ChangesOnly [.frames] d (invalidNow p d) := by
  unfold invalidNow; split
  · exact ChangesOnly.ite (only_invalidate _ _) (ChangesOnly.refl _ _)
  · exact ChangesOnly.refl _ _
theorem seb_invalidNow (ks : List Nat) (p : Nat) (d : Dev) : SameEntriesBut ks d (invalidNow p d) := by
  unfold invalidNow; split
  · split
    · exact seb_invalidate _ _ _
    · exact seb_refl _ _
  · exact seb_refl _ _

theorem setLanes_eq (p : Nat) (f : Nat → Nat → Nat) (d : Dev) :
    setLanes p f d = dset (R.LANE_STATE (4 * p + 3)) (f 3 (dget (R.LANE_STATE (4 * p + 3)) d))
      (dset (R.LANE_STATE (4 * p + 2)) (f 2 (dget (R.LANE_STATE (4 * p + 2)) d))
      (dset (R.LANE_STATE (4 * p + 1)) (f 1 (dget (R.LANE_STATE (4 * p + 1)) d))
      (dset (R.LANE_STATE (4 * p + 0)) (f 0 (dget (R.LANE_STATE (4 * p + 0)) d)) d))) := by
  simp only [setLanes, List.range_succ, List.range_zero, List.nil_append, List.cons_append, List.foldl_cons, List.foldl_nil]
  rw [dget_dset_ne (q := R.LANE_STATE (4 * p + 1)) _ _ (by simp only [R.LANE_STATE]; omega),
    dget_dset_ne (q := R.LANE_STATE (4 * p + 2)) _ _ (by simp only [R.LANE_STATE]; omega),
    dget_dset_ne (q := R.LANE_STATE (4 * p + 2)) _ _ (by simp only [R.LANE_STATE]; omega),
    dget_dset_ne (q := R.LANE_STATE (4 * p + 3)) _ _ (by simp only [R.LANE_STATE]; omega),
    dget_dset_ne (q := R.LANE_STATE (4 * p + 3)) _ _ (by simp only [R.LANE_STATE]; omega),
    dget_dset_ne (q := R.LANE_STATE (4 * p + 3)) _ _ (by simp only [R.LANE_STATE]; omega)]

theorem only_setLanes (p : Nat) (f : Nat → Nat → Nat) (d : Dev) : ChangesOnly [.dict] d (setLanes p f d) := by
  rw [setLanes_eq]
  exact (only_dset _ _ _).trans ((only_dset _ _ _).trans ((only_dset _ _ _).trans (only_dset _ _ _)))
theorem seb_setLanes (p : Nat) (f : Nat → Nat → Nat) (d : Dev) : SameEntriesBut (laneStateKeys p) d (setLanes p f d) := by
  rw [setLanes_eq]
  have hk : ∀ i, i < 4 → (R.LANE_STATE (4 * p + i)).key ∈ laneStateKeys p :=
    fun i hi => by unfold laneStateKeys; exact List.mem_map.2 ⟨i, by simpa using hi, rfl⟩
  exact (seb_dset (hk 0 (by omega)) _ _).trans ((seb_dset (hk 1 (by omega)) _ _).trans
    ((seb_dset (hk 2 (by omega)) _ _).trans (seb_dset (hk 3 (by omega)) _ _)))
theorem dget_setLanes (p : Nat) (f : Nat → Nat → Nat) (d : Dev) {i : Nat} (hi : i < 4) :
    dget (R.LANE_STATE (4 * p + i)) (setLanes p f d) = f i (dget (R.LANE_STATE (4 * p + i)) d) := by
  rw [setLanes_eq]
  have : i = 0 ∨ i = 1 ∨ i = 2 ∨ i = 3 := by omega
  rcases this with rfl | rfl | rfl | rfl <;>
    (repeat' first
      | rw [dget_dset_same]
      | rw [dget_dset_ne _ _ (by simp only [R.LANE_STATE]; omega)])

theorem only_showPresent (d : Dev) : ChangesOnly [.dict] d (showPresent d) := by
  unfold showPresent; split
  · exact ChangesOnly.refl _ _
  · exact (only_dset _ _ _).trans (ChangesOnly.ite ((only_dset _ _ _).trans (only_dset _ _ _))
      (ChangesOnly.ite (ChangesOnly.refl _ _) ((only_dset _ _ _).trans (only_dset _ _ _))))
theorem seb_showPresent (d : Dev) : SameEntriesBut presenceKeys d (showPresent d) := by
  unfold showPresent; split
  · exact seb_refl _ _
  · exact (seb_dset (by simp [presenceKeys]) _ _).trans
      (seb_ite ((seb_dset (by simp [presenceKeys]) _ _).trans (seb_dset (by simp [presenceKeys]) _ _)) (seb_ite (seb_refl _ _)
        ((seb_dset (by simp [presenceKeys]) _ _).trans (seb_dset (by simp [presenceKeys]) _ _))))

theorem only_setFe (p st : Nat) (d : Dev) : ChangesOnly [.dict] d (setFe p st d) := (only_dset _ _ _).trans (only_showPresent _)
theorem seb_setFe (p st : Nat) (d : Dev) : SameEntriesBut ((R.FE_STATE p).key :: presenceKeys) d (setFe p st d) :=
  (seb_dset (by simp) _ _).trans ((seb_showPresent _).mono (by simp))
theorem dget_setFe (p st : Nat) (d : Dev) : dget (R.FE_STATE p) (setFe p st d) = st := by
  unfold setFe
  rw [seb_showPresent _ (R.FE_STATE p) (by
    simp only [presenceKeys, R.FE_STATE, R.FE_PRESENT, R.CLOCK_REF_PORT, R.CLOCK_STATE, List.mem_cons, List.not_mem_nil, or_false]; omega)]
  exact dget_dset_same _ _ _

theorem only_refLost (p : Nat) (d : Dev) : ChangesOnly [.dict, .host, .flt] d (refLost p d) := by
  unfold refLost; split
  · exact ((only_dset _ _ _).mono (by simp)).trans (((only_dset _ _ _).mono (by simp)).trans (only_report (by decide) _ _ _))
  · exact ChangesOnly.refl _ _
theorem seb_refLost (p : Nat) (d : Dev) : SameEntriesBut (presenceKeys ++ reportKeys) d (refLost p d) := by
  unfold refLost; split
  · exact ((seb_dset (by simp [presenceKeys]) _ _).trans (seb_dset (by simp [presenceKeys]) _ _)).trans
      ((seb_report (by decide) _ _ _).mono (by simp))
  · exact seb_refl _ _

theorem only_modLane (n : Nat) (g : Lane → Lane) (d : Dev) : ChangesOnly [.lanes] d (modLane n g d) :=
  fun p hp => by cases p <;> first | exact absurd (by decide) hp | rfl
theorem only_absent (p : Nat) (d : Dev) : ChangesOnly [.ports, .chans] d (absent p d) :=
  (only_modPort _ _ _).then (ChangesOnly.foldl (fun d _ => only_modChan _ _ d) _ _) (by simp) (by simp)

/-! Ports and lanes after operations that leave them alone. -/

@[simp] theorem setLanes_ports (p : Nat) (f : Nat → Nat → Nat) (d : Dev) : (setLanes p f d).ports = d.ports := only_setLanes p f d .ports (by decide)
@[simp] theorem portOf_setLanes (k : Nat) (p : Nat) (f : Nat → Nat → Nat) (d : Dev) : portOf (setLanes p f d) k = portOf d k := by
  unfold portOf; rw [setLanes_ports]
@[simp] theorem setLanes_lanes (p : Nat) (f : Nat → Nat → Nat) (d : Dev) : (setLanes p f d).lanes = d.lanes := only_setLanes p f d .lanes (by decide)
@[simp] theorem laneOf_setLanes (k : Nat) (p : Nat) (f : Nat → Nat → Nat) (d : Dev) : laneOf (setLanes p f d) k = laneOf d k := by
  unfold laneOf; rw [setLanes_lanes]
@[simp] theorem setLanes_now (p : Nat) (f : Nat → Nat → Nat) (d : Dev) : (setLanes p f d).now = d.now := only_setLanes p f d .now (by decide)
@[simp] theorem setFe_ports (p st : Nat) (d : Dev) : (setFe p st d).ports = d.ports := only_setFe p st d .ports (by decide)
@[simp] theorem portOf_setFe (k : Nat) (p st : Nat) (d : Dev) : portOf (setFe p st d) k = portOf d k := by
  unfold portOf; rw [setFe_ports]
@[simp] theorem setFe_lanes (p st : Nat) (d : Dev) : (setFe p st d).lanes = d.lanes := only_setFe p st d .lanes (by decide)
@[simp] theorem laneOf_setFe (k : Nat) (p st : Nat) (d : Dev) : laneOf (setFe p st d) k = laneOf d k := by
  unfold laneOf; rw [setFe_lanes]
@[simp] theorem setFe_now (p st : Nat) (d : Dev) : (setFe p st d).now = d.now := only_setFe p st d .now (by decide)
@[simp] theorem showPresent_ports (d : Dev) : (showPresent d).ports = d.ports := only_showPresent d .ports (by decide)
@[simp] theorem portOf_showPresent (k : Nat) (d : Dev) : portOf (showPresent d) k = portOf d k := by
  unfold portOf; rw [showPresent_ports]
@[simp] theorem showPresent_lanes (d : Dev) : (showPresent d).lanes = d.lanes := only_showPresent d .lanes (by decide)
@[simp] theorem laneOf_showPresent (k : Nat) (d : Dev) : laneOf (showPresent d) k = laneOf d k := by
  unfold laneOf; rw [showPresent_lanes]
@[simp] theorem showPresent_now (d : Dev) : (showPresent d).now = d.now := only_showPresent d .now (by decide)
@[simp] theorem invalidate_ports (n : Nat) (d : Dev) : (invalidate n d).ports = d.ports := only_invalidate n d .ports (by decide)
@[simp] theorem portOf_invalidate (k : Nat) (n : Nat) (d : Dev) : portOf (invalidate n d) k = portOf d k := by
  unfold portOf; rw [invalidate_ports]
@[simp] theorem invalidate_lanes (n : Nat) (d : Dev) : (invalidate n d).lanes = d.lanes := only_invalidate n d .lanes (by decide)
@[simp] theorem laneOf_invalidate (k : Nat) (n : Nat) (d : Dev) : laneOf (invalidate n d) k = laneOf d k := by
  unfold laneOf; rw [invalidate_lanes]
@[simp] theorem invalidate_now (n : Nat) (d : Dev) : (invalidate n d).now = d.now := only_invalidate n d .now (by decide)
@[simp] theorem invalidNow_ports (p : Nat) (d : Dev) : (invalidNow p d).ports = d.ports := only_invalidNow p d .ports (by decide)
@[simp] theorem portOf_invalidNow (k : Nat) (p : Nat) (d : Dev) : portOf (invalidNow p d) k = portOf d k := by
  unfold portOf; rw [invalidNow_ports]
@[simp] theorem invalidNow_lanes (p : Nat) (d : Dev) : (invalidNow p d).lanes = d.lanes := only_invalidNow p d .lanes (by decide)
@[simp] theorem laneOf_invalidNow (k : Nat) (p : Nat) (d : Dev) : laneOf (invalidNow p d) k = laneOf d k := by
  unfold laneOf; rw [invalidNow_lanes]
@[simp] theorem invalidNow_now (p : Nat) (d : Dev) : (invalidNow p d).now = d.now := only_invalidNow p d .now (by decide)
@[simp] theorem refLost_ports (p : Nat) (d : Dev) : (refLost p d).ports = d.ports := only_refLost p d .ports (by decide)
@[simp] theorem portOf_refLost (k : Nat) (p : Nat) (d : Dev) : portOf (refLost p d) k = portOf d k := by
  unfold portOf; rw [refLost_ports]
@[simp] theorem refLost_lanes (p : Nat) (d : Dev) : (refLost p d).lanes = d.lanes := only_refLost p d .lanes (by decide)
@[simp] theorem laneOf_refLost (k : Nat) (p : Nat) (d : Dev) : laneOf (refLost p d) k = laneOf d k := by
  unfold laneOf; rw [refLost_lanes]
@[simp] theorem refLost_now (p : Nat) (d : Dev) : (refLost p d).now = d.now := only_refLost p d .now (by decide)

/-- The latest code is the one just reported (Table 18.14); it is free while an undefined use is in force (R15). -/
theorem lastCode_reportW {c : Nat} (h : c < 0x3000) (a0 a1 : Nat) (w : Bool) (d : Dev) (u : d.undef = false) :
    dget R.LAST_FAULT_CODE (reportW c a0 a1 w d) = c := by
  rw [report_small h]
  show dget R.LAST_FAULT_CODE (collect c a0 a1 w d) = c
  unfold collect; simp only
  have ux : (if c / 0x1000 = 0 then d else bump (classCounter (c / 0x1000)) d).undef = false := by split <;> exact u
  generalize (if c / 0x1000 = 0 then d else bump (classCounter (c / 0x1000)) d) = x at ux
  have hl : (logged x c).1 = c := by unfold logged; rw [ux]; rfl
  rw [hl]
  generalize (logged x c).2 = fr
  have hy : dget R.LAST_FAULT_CODE (dset R.LAST_FAULT_FRAME fr (dset R.LAST_FAULT_CODE c x)) = c := by
    rw [dget_dset_ne _ _ (by decide), dget_dset_same]
  generalize dset R.LAST_FAULT_FRAME fr (dset R.LAST_FAULT_CODE c x) = y at hy
  have hb : ∀ (r : Reg) (e : Dev), r.key ≠ R.LAST_FAULT_CODE.key → dget R.LAST_FAULT_CODE (bump r e) = dget R.LAST_FAULT_CODE e :=
    fun r e k => dget_bump_ne _ k
  have hs : ∀ (r : Reg) (v : Nat) (e : Dev), r.key ≠ R.LAST_FAULT_CODE.key → dget R.LAST_FAULT_CODE (dset r v e) = dget R.LAST_FAULT_CODE e :=
    fun r v e k => dget_dset_ne _ _ k
  have hf : ∀ (f : Flt) (e : Dev), dget R.LAST_FAULT_CODE { e with flt := f } = dget R.LAST_FAULT_CODE e := fun _ _ => rfl
  split_ifs <;> simp only [hf, hs R.FAULT_ACTIVE _ _ (by decide), hb R.EVENTS_SUPPRESSED _ (by decide), dget_msi, dget_pushRec, hy]
theorem lastCode_report {c : Nat} (h : c < 0x3000) (a0 a1 : Nat) (d : Dev) (u : d.undef = false) :
    dget R.LAST_FAULT_CODE (report c a0 a1 d) = c := lastCode_reportW h _ _ _ _ u
theorem lastCode_reportLim {c : Nat} (h : c < 0x3000) (t u a0 a1 : Nat) (d : Dev) (v : d.undef = false) :
    dget R.LAST_FAULT_CODE (reportLim t u c a0 a1 d) = c := by
  unfold reportLim; dsimp only
  repeat' split
  all_goals exact lastCode_reportW h _ _ _ _ v
theorem running_congr {a b : Dev} (h : dget R.ARRAY_STATE b = dget R.ARRAY_STATE a) (g : b.grid = a.grid) : running b = running a := by
  unfold running arrayState; rw [h, g]

end Sys2Proof.Machine
end

