-- ==== Sys2Proof/Laws/PerInstr.lean ====
section
/-! SUPPORT. One lemma per command about its operands: a command that is well formed and carries a client is sent by one of the ten
clients of R368 (the host, the loader, eight NPP sessions). -/

-- One theorem at a time: the package as one text then stays within its memory.
set_option Elab.async false

namespace Sys2Proof.Laws.Sender

/-- The client that sends a command, where the command carries one. -/
def client : Instr → Option Nat
  | .dictWrite client _ _ _ _ => some client
  | .dictCutoff => none
  | .frameBoundary => none
  | .growthRing _ _ => none
  | .growthRingAtCore _ => none
  | .sysrefEdge _ _ _ => none
  | .clockRelockDone => none
  | .presentNFall _ => none
  | .discoveryDebounceDone _ _ => none
  | .laneLockDone _ _ _ => none
  | .discoveryTimeout _ => none
  | .presentNRise _ => none
  | .ibi _ _ => none
  | .portReinstate client _ => some client
  | .laneCodeError _ _ => none
  | .laneSyncLoss _ => none
  | .cdrLossOfLock _ => none
  | .releaseMarginViolation _ _ => none
  | .retrainTimeout _ => none
  | .retrainEpisodeEnd _ => none
  | .marginUpdate _ _ _ => none
  | .adaptUpdate _ _ => none
  | .adaptHold client _ _ => some client
  | .prbsMode client _ _ => some client
  | .injectRate client _ _ => some client
  | .tdcCalTable _ => none
  | .edgeInput _ _ _ => none
  | .condParityError _ _ => none
  | .tokenAdmit _ => none
  | .nop _ _ => none
  | .lutmac _ _ => none
  | .omac _ _ => none
  | .zcorr _ _ => none
  | .bclose _ _ => none
  | .rescale _ _ => none
  | .actlut _ _ => none
  | .stateRead _ _ => none
  | .stateWrite _ _ => none
  | .send _ _ => none
  | .recv _ _ => none
  | .reduce _ _ => none
  | .cmp _ _ => none
  | .sel _ _ => none
  | .maxp _ _ => none
  | .movRegisterRun _ _ => none
  | .movImmediate _ _ => none
  | .movClearAccumulators _ _ => none
  | .ldw _ _ => none
  | .waitCount _ _ => none
  | .waitTokenPresent _ _ => none
  | .waitGrowthRing _ _ => none
  | .ring _ _ => none
  | .fireWatchdogExpiry _ => none
  | .scrubberPass _ _ => none
  | .rideHop _ _ _ => none
  | .fbDepart _ => none
  | .fbIngress _ => none
  | .fbSlotTimeout _ => none
  | .dieLinkRealignTimeout _ => none
  | .verdictToken => none
  | .verdictClose => none
  | .contribSend => none
  | .ringWriteArrival => none
  | .ringDeadline => none
  | .mirrorVerdictSend => none
  | .mirrorAloneCheck => none
  | .verdictIssue => none
  | .vlinePulseEnd _ => none
  | .vlineUnlatch client _ => some client
  | .conditionVectorEval => none
  | .patAutoExpiry _ => none
  | .triggerRecord => none
  | .copyUnit _ => none
  | .copyTruncate _ => none
  | .psramTransactionDone _ _ => none
  | .psramTimeout _ => none
  | .captureRelease client _ => some client
  | .streamSegment _ => none
  | .streamOverrun _ => none
  | .descProducer client _ _ => some client
  | .descFetchTimeout _ => none
  | .descCopy _ _ _ => none
  | .descCopyRelease _ _ _ => none
  | .descRelease _ _ => none
  | .transferDone _ => none
  | .channelStart client _ => some client
  | .channelAbort client _ => some client
  | .channelAbortDone _ => none
  | .reviewDispatch _ => none
  | .reviewJobAged _ => none
  | .reviewInputReadDone _ => none
  | .reviewPassStart _ => none
  | .reviewPassEnd _ _ => none
  | .reviewJobEnd _ _ => none
  | .encStart client => some client
  | .encBlockStaged _ => none
  | .encReadTimeout => none
  | .encCommit client => some client
  | .encAbandon client => some client
  | .encRetire => none
  | .clipCountMerge => none
  | .load client => some client
  | .unload client => some client
  | .loadCheck client => some client
  | .loadPhaseDone _ => none
  | .loadReadTimeout => none
  | .retireCore client _ _ => some client
  | .contextSwitch client _ _ => some client
  | .slotDrained _ => none
  | .fallbackEnable client _ => some client
  | .pause client _ => some client
  | .resume client _ => some client
  | .resumeNoRestore client _ => some client
  | .saveImageWritten => none
  | .restoreDone => none
  | .auditTimeout _ => none
  | .recordWrite _ => none
  | .ciFetch => none
  | .ciFetchDone _ => none
  | .ciFetchTimeout => none
  | .msixDelayExpiry _ => none
  | .ringEnable _ _ => none
  | .ringDisable _ _ => none
  | .hostWindowWrite _ _ _ => none
  | .functionLevelReset => none
  | .perstNAssert => none
  | .perstNRelease => none
  | .linkDown => none
  | .hostLinkUp _ _ _ => none
  | .groupMemberWrite client _ _ _ => some client
  | .groupCommit client _ => some client
  | .groupCommitAll client => some client
  | .groupDiscard client _ => some client
  | .groupDiscardAll client => some client
  | .bulkRead _ _ => none
  | .bulkWrite _ _ _ => none
  | .nppOpen _ => none
  | .nppClose _ _ => none
  | .nppRead _ _ _ => none
  | .nppWrite _ _ _ => none
  | .nppCommit _ _ _ => none
  | .nppDiscard _ _ _ => none
  | .nppKeepalive _ _ => none
  | .nppWake _ => none
  | .nppSessionExpiry _ => none
  | .nppPort client _ => some client
  | .ptpAnnounce _ _ _ _ => none
  | .ptpSync _ _ _ _ => none
  | .ptpPdelayReq => none
  | .ptpDelayReqSend => none
  | .ptpAnnounceTimeout => none
  | .ptpSyncTimeout => none
  | .ptpPortRestart client _ _ => some client
  | .timeRestep client => some client
  | .ppsInEdge _ => none
  | .ppsInLoss => none
  | .ppsOutAssert => none
  | .ppsOutEnd => none
  | .flitCrcFail _ _ => none
  | .nak _ _ => none
  | .contrib _ _ _ => none
  | .hello _ _ => none
  | .form _ _ _ => none
  | .formRound => none
  | .barrier _ _ _ _ _ _ _ _ _ => none
  | .barrierTimeout => none
  | .sync _ _ _ _ => none
  | .mirrorStatus _ _ _ _ => none
  | .mirrorVerdict _ _ _ _ => none
  | .mirrorDict _ _ _ _ _ _ => none
  | .wakeComb _ _ => none
  | .reservedFlit _ _ => none
  | .linkTrained _ _ => none
  | .fecAlignmentLoss _ => none
  | .linkTrainTimeout _ => none
  | .ringReinstate client _ => some client
  | .faultReport _ _ _ => none
  | .restartPhaseDone _ => none
  | .restartTimeout => none
  | .faultClear client => some client
  | .quietPeriodExpiry => none
  | .mpWatchdogExpiry => none
  | .powerRequest client _ => some client
  | .prepareDone => none
  | .prepareTimeout _ => none
  | .powerTransitionDone => none
  | .laneSignalDetect _ => none
  | .wakeCombBursts _ => none
  | .clkreqNAssert => none
  | .canopyPowerSample _ _ => none
  | .canopyThermalSample _ _ _ _ => none
  | .canopyEscalate => none
  | .canopyReleaseExpiry => none
  | .canopyStage3Report => none
  | .ownerKeyProvision client _ => some client
  | .ownerKeyRevoke client _ => some client
  | .svnAdvance client _ => some client
  | .quoteCommand client => some client
  | .quoteReady => none
  | .firmwareExtend _ => none
  | .mpBoot => none
  | .bootVerifyDone _ => none
  | .rebootToRecovery client _ => some client
  | .verifyHostImage client _ _ => some client
  | .verifyStagedImage client _ => some client
  | .recoveryChunk client _ => some client
  | .recoveryImageDone _ => none
  | .porNAssert => none
  | .porNRelease _ _ => none
  | .startStepDone => none
  | .coolantHoldReport => none
  | .storeInit client => some client
  | .storeInitDone _ => none
  | .arm client => some client
  | .stop client => some client
  | .railSample _ _ => none
  | .railFault => none
  | .testEnRise => none
  | .testEnFall => none
  | .sampleTick _ _ => none
  | .hostCopyReadTimeout => none
  | .ptpPdelayReqSend => none
  | .nppDatagramDiscard => none
  | .ringControlWrite _ _ _ => none

/-- A well-formed command names a client that exists (R368). -/
def Statement (i : Instr) : Prop := i.wf = true → ∀ c, client i = some c → c < 10

theorem dictWrite (client idx sub len val : Nat) : Statement (.dictWrite client idx sub len val) := by
  intro h c e; cases e; simp [Instr.wf] at h; omega

theorem dictCutoff : Statement .dictCutoff := fun _ _ e => nomatch e

theorem frameBoundary : Statement .frameBoundary := fun _ _ e => nomatch e

theorem growthRing (phi : List Int) (misaligned : List Nat) : Statement (.growthRing phi misaligned) := fun _ _ e => nomatch e

theorem growthRingAtCore (core : Nat) : Statement (.growthRingAtCore core) := fun _ _ e => nomatch e

theorem sysrefEdge (port t : Nat) (margin : Int) : Statement (.sysrefEdge port t margin) := fun _ _ e => nomatch e

theorem clockRelockDone : Statement .clockRelockDone := fun _ _ e => nomatch e

theorem presentNFall (port : Nat) : Statement (.presentNFall port) := fun _ _ e => nomatch e

theorem discoveryDebounceDone (port : Nat) (desc : List Nat) : Statement (.discoveryDebounceDone port desc) := fun _ _ e => nomatch e

theorem laneLockDone (port : Nat) (ilasOk : Bool) (ppm : Int) : Statement (.laneLockDone port ilasOk ppm) := fun _ _ e => nomatch e

theorem discoveryTimeout (port : Nat) : Statement (.discoveryTimeout port) := fun _ _ e => nomatch e

theorem presentNRise (port : Nat) : Statement (.presentNRise port) := fun _ _ e => nomatch e

theorem ibi (port byte : Nat) : Statement (.ibi port byte) := fun _ _ e => nomatch e

theorem portReinstate (client port : Nat) : Statement (.portReinstate client port) := by
  intro h c e; cases e; simp [Instr.wf] at h; omega

theorem laneCodeError (lane unit : Nat) : Statement (.laneCodeError lane unit) := fun _ _ e => nomatch e

theorem laneSyncLoss (lane : Nat) : Statement (.laneSyncLoss lane) := fun _ _ e => nomatch e

theorem cdrLossOfLock (lane : Nat) : Statement (.cdrLossOfLock lane) := fun _ _ e => nomatch e

theorem releaseMarginViolation (lane : Nat) (margin : Int) : Statement (.releaseMarginViolation lane margin) := fun _ _ e => nomatch e

theorem retrainTimeout (port : Nat) : Statement (.retrainTimeout port) := fun _ _ e => nomatch e

theorem retrainEpisodeEnd (lane : Nat) : Statement (.retrainEpisodeEnd lane) := fun _ _ e => nomatch e

theorem marginUpdate (lane h w : Nat) : Statement (.marginUpdate lane h w) := fun _ _ e => nomatch e

theorem adaptUpdate (lane : Nat) (delta : Int) : Statement (.adaptUpdate lane delta) := fun _ _ e => nomatch e

theorem adaptHold (client lane val : Nat) : Statement (.adaptHold client lane val) := by
  intro h c e; cases e; simp [Instr.wf] at h; omega

theorem prbsMode (client lane val : Nat) : Statement (.prbsMode client lane val) := by
  intro h c e; cases e; simp [Instr.wf] at h; omega

theorem injectRate (client lane val : Nat) : Statement (.injectRate client lane val) := by
  intro h c e; cases e; simp [Instr.wf] at h; omega

theorem tdcCalTable (die : Nat) : Statement (.tdcCalTable die) := fun _ _ e => nomatch e

theorem edgeInput (k : Nat) (rising : Bool) (t : Nat) : Statement (.edgeInput k rising t) := fun _ _ e => nomatch e

theorem condParityError (ch kind : Nat) : Statement (.condParityError ch kind) := fun _ _ e => nomatch e

theorem tokenAdmit (core : Nat) : Statement (.tokenAdmit core) := fun _ _ e => nomatch e

theorem nop (core : Nat) (up : List Upset) : Statement (.nop core up) := fun _ _ e => nomatch e

theorem lutmac (core : Nat) (up : List Upset) : Statement (.lutmac core up) := fun _ _ e => nomatch e

theorem omac (core : Nat) (up : List Upset) : Statement (.omac core up) := fun _ _ e => nomatch e

theorem zcorr (core : Nat) (up : List Upset) : Statement (.zcorr core up) := fun _ _ e => nomatch e

theorem bclose (core : Nat) (up : List Upset) : Statement (.bclose core up) := fun _ _ e => nomatch e

theorem rescale (core : Nat) (up : List Upset) : Statement (.rescale core up) := fun _ _ e => nomatch e

theorem actlut (core : Nat) (up : List Upset) : Statement (.actlut core up) := fun _ _ e => nomatch e

theorem stateRead (core : Nat) (up : List Upset) : Statement (.stateRead core up) := fun _ _ e => nomatch e

theorem stateWrite (core : Nat) (up : List Upset) : Statement (.stateWrite core up) := fun _ _ e => nomatch e

theorem send (core : Nat) (up : List Upset) : Statement (.send core up) := fun _ _ e => nomatch e

theorem recv (core : Nat) (up : List Upset) : Statement (.recv core up) := fun _ _ e => nomatch e

theorem reduce (core : Nat) (up : List Upset) : Statement (.reduce core up) := fun _ _ e => nomatch e

theorem cmp (core : Nat) (up : List Upset) : Statement (.cmp core up) := fun _ _ e => nomatch e

theorem sel (core : Nat) (up : List Upset) : Statement (.sel core up) := fun _ _ e => nomatch e

theorem maxp (core : Nat) (up : List Upset) : Statement (.maxp core up) := fun _ _ e => nomatch e

theorem movRegisterRun (core : Nat) (up : List Upset) : Statement (.movRegisterRun core up) := fun _ _ e => nomatch e

theorem movImmediate (core : Nat) (up : List Upset) : Statement (.movImmediate core up) := fun _ _ e => nomatch e

theorem movClearAccumulators (core : Nat) (up : List Upset) : Statement (.movClearAccumulators core up) := fun _ _ e => nomatch e

theorem ldw (core : Nat) (up : List Upset) : Statement (.ldw core up) := fun _ _ e => nomatch e

theorem waitCount (core : Nat) (up : List Upset) : Statement (.waitCount core up) := fun _ _ e => nomatch e

theorem waitTokenPresent (core : Nat) (up : List Upset) : Statement (.waitTokenPresent core up) := fun _ _ e => nomatch e

theorem waitGrowthRing (core : Nat) (up : List Upset) : Statement (.waitGrowthRing core up) := fun _ _ e => nomatch e

theorem ring (core : Nat) (up : List Upset) : Statement (.ring core up) := fun _ _ e => nomatch e

theorem fireWatchdogExpiry (core : Nat) : Statement (.fireWatchdogExpiry core) := fun _ _ e => nomatch e

theorem scrubberPass (core : Nat) (ups : List Upset) : Statement (.scrubberPass core ups) := fun _ _ e => nomatch e

theorem rideHop (core dir : Nat) (parityErr : Bool) : Statement (.rideHop core dir parityErr) := fun _ _ e => nomatch e

theorem fbDepart (core : Nat) : Statement (.fbDepart core) := fun _ _ e => nomatch e

theorem fbIngress (bad : List Nat) : Statement (.fbIngress bad) := fun _ _ e => nomatch e

theorem fbSlotTimeout (core : Nat) : Statement (.fbSlotTimeout core) := fun _ _ e => nomatch e

theorem dieLinkRealignTimeout (link : Nat) : Statement (.dieLinkRealignTimeout link) := fun _ _ e => nomatch e

theorem verdictToken : Statement .verdictToken := fun _ _ e => nomatch e

theorem verdictClose : Statement .verdictClose := fun _ _ e => nomatch e

theorem contribSend : Statement .contribSend := fun _ _ e => nomatch e

theorem ringWriteArrival : Statement .ringWriteArrival := fun _ _ e => nomatch e

theorem ringDeadline : Statement .ringDeadline := fun _ _ e => nomatch e

theorem mirrorVerdictSend : Statement .mirrorVerdictSend := fun _ _ e => nomatch e

theorem mirrorAloneCheck : Statement .mirrorAloneCheck := fun _ _ e => nomatch e

theorem verdictIssue : Statement .verdictIssue := fun _ _ e => nomatch e

theorem vlinePulseEnd (line : Nat) : Statement (.vlinePulseEnd line) := fun _ _ e => nomatch e

theorem vlineUnlatch (client mask : Nat) : Statement (.vlineUnlatch client mask) := by
  intro h c e; cases e; simp [Instr.wf] at h; omega

theorem conditionVectorEval : Statement .conditionVectorEval := fun _ _ e => nomatch e

theorem patAutoExpiry (p : Nat) : Statement (.patAutoExpiry p) := fun _ _ e => nomatch e

theorem triggerRecord : Statement .triggerRecord := fun _ _ e => nomatch e

theorem copyUnit (half : Nat) : Statement (.copyUnit half) := fun _ _ e => nomatch e

theorem copyTruncate (half : Nat) : Statement (.copyTruncate half) := fun _ _ e => nomatch e

theorem psramTransactionDone (die : Nat) (refresh : Bool) : Statement (.psramTransactionDone die refresh) := fun _ _ e => nomatch e

theorem psramTimeout (page : Nat) : Statement (.psramTimeout page) := fun _ _ e => nomatch e

theorem captureRelease (client handle : Nat) : Statement (.captureRelease client handle) := by
  intro h c e; cases e; simp [Instr.wf] at h; omega

theorem streamSegment (seg : SegWrite) : Statement (.streamSegment seg) := fun _ _ e => nomatch e

theorem streamOverrun (ch : Nat) : Statement (.streamOverrun ch) := fun _ _ e => nomatch e

theorem descProducer (client ch val : Nat) : Statement (.descProducer client ch val) := by
  intro h c e; cases e; simp [Instr.wf] at h; omega

theorem descFetchTimeout (ch : Nat) : Statement (.descFetchTimeout ch) := fun _ _ e => nomatch e

theorem descCopy (ch : Nat) (desc : List Nat) (moved : Nat) : Statement (.descCopy ch desc moved) := fun _ _ e => nomatch e

theorem descCopyRelease (ch : Nat) (desc : List Nat) (moved : Nat) : Statement (.descCopyRelease ch desc moved) := fun _ _ e => nomatch e

theorem descRelease (ch : Nat) (desc : List Nat) : Statement (.descRelease ch desc) := fun _ _ e => nomatch e

theorem transferDone (ch : Nat) : Statement (.transferDone ch) := fun _ _ e => nomatch e

theorem channelStart (client ch : Nat) : Statement (.channelStart client ch) := by
  intro h c e; cases e; simp [Instr.wf] at h; omega

theorem channelAbort (client ch : Nat) : Statement (.channelAbort client ch) := by
  intro h c e; cases e; simp [Instr.wf] at h; omega

theorem channelAbortDone (ch : Nat) : Statement (.channelAbortDone ch) := fun _ _ e => nomatch e

theorem reviewDispatch (cluster : Nat) : Statement (.reviewDispatch cluster) := fun _ _ e => nomatch e

theorem reviewJobAged (cluster : Nat) : Statement (.reviewJobAged cluster) := fun _ _ e => nomatch e

theorem reviewInputReadDone (cluster : Nat) : Statement (.reviewInputReadDone cluster) := fun _ _ e => nomatch e

theorem reviewPassStart (cluster : Nat) : Statement (.reviewPassStart cluster) := fun _ _ e => nomatch e

theorem reviewPassEnd (cluster choices : Nat) : Statement (.reviewPassEnd cluster choices) := fun _ _ e => nomatch e

theorem reviewJobEnd (cluster : Nat) (fault : Bool) : Statement (.reviewJobEnd cluster fault) := fun _ _ e => nomatch e

theorem encStart (client : Nat) : Statement (.encStart client) := by
  intro h c e; cases e; simp [Instr.wf] at h; omega

theorem encBlockStaged (words : List Nat) : Statement (.encBlockStaged words) := fun _ _ e => nomatch e

theorem encReadTimeout : Statement .encReadTimeout := fun _ _ e => nomatch e

theorem encCommit (client : Nat) : Statement (.encCommit client) := by
  intro h c e; cases e; simp [Instr.wf] at h; omega

theorem encAbandon (client : Nat) : Statement (.encAbandon client) := by
  intro h c e; cases e; simp [Instr.wf] at h; omega

theorem encRetire : Statement .encRetire := fun _ _ e => nomatch e

theorem clipCountMerge : Statement .clipCountMerge := fun _ _ e => nomatch e

theorem load (client : Nat) : Statement (.load client) := by
  intro h c e; cases e; simp [Instr.wf] at h; omega

theorem unload (client : Nat) : Statement (.unload client) := by
  intro h c e; cases e; simp [Instr.wf] at h; omega

theorem loadCheck (client : Nat) : Statement (.loadCheck client) := by
  intro h c e; cases e; simp [Instr.wf] at h; omega

theorem loadPhaseDone (data : List Nat) : Statement (.loadPhaseDone data) := fun _ _ e => nomatch e

theorem loadReadTimeout : Statement .loadReadTimeout := fun _ _ e => nomatch e

theorem retireCore (client x y : Nat) : Statement (.retireCore client x y) := by
  intro h c e; cases e; simp [Instr.wf] at h; omega

theorem contextSwitch (client frame slot : Nat) : Statement (.contextSwitch client frame slot) := by
  intro h c e; cases e; simp [Instr.wf] at h; omega

theorem slotDrained (slot : Nat) : Statement (.slotDrained slot) := fun _ _ e => nomatch e

theorem fallbackEnable (client val : Nat) : Statement (.fallbackEnable client val) := by
  intro h c e; cases e; simp [Instr.wf] at h; omega

theorem pause (client frame : Nat) : Statement (.pause client frame) := by
  intro h c e; cases e; simp [Instr.wf] at h; omega

theorem resume (client frame : Nat) : Statement (.resume client frame) := by
  intro h c e; cases e; simp [Instr.wf] at h; omega

theorem resumeNoRestore (client frame : Nat) : Statement (.resumeNoRestore client frame) := by
  intro h c e; cases e; simp [Instr.wf] at h; omega

theorem saveImageWritten : Statement .saveImageWritten := fun _ _ e => nomatch e

theorem restoreDone : Statement .restoreDone := fun _ _ e => nomatch e

theorem auditTimeout (r : Nat) : Statement (.auditTimeout r) := fun _ _ e => nomatch e

theorem recordWrite (r : Nat) : Statement (.recordWrite r) := fun _ _ e => nomatch e

theorem ciFetch : Statement .ciFetch := fun _ _ e => nomatch e

theorem ciFetchDone (words : List Nat) : Statement (.ciFetchDone words) := fun _ _ e => nomatch e

theorem ciFetchTimeout : Statement .ciFetchTimeout := fun _ _ e => nomatch e

theorem msixDelayExpiry (r : Nat) : Statement (.msixDelayExpiry r) := fun _ _ e => nomatch e

theorem ringEnable (r ctrl : Nat) : Statement (.ringEnable r ctrl) := fun _ _ e => nomatch e

theorem ringDisable (r ctrl : Nat) : Statement (.ringDisable r ctrl) := fun _ _ e => nomatch e

theorem hostWindowWrite (offset width val : Nat) : Statement (.hostWindowWrite offset width val) := fun _ _ e => nomatch e

theorem functionLevelReset : Statement .functionLevelReset := fun _ _ e => nomatch e

theorem perstNAssert : Statement .perstNAssert := fun _ _ e => nomatch e

theorem perstNRelease : Statement .perstNRelease := fun _ _ e => nomatch e

theorem linkDown : Statement .linkDown := fun _ _ e => nomatch e

theorem hostLinkUp (rate width : Nat) (conf : HostConf) : Statement (.hostLinkUp rate width conf) := fun _ _ e => nomatch e

theorem groupMemberWrite (client idx sub val : Nat) : Statement (.groupMemberWrite client idx sub val) := by
  intro h c e; cases e; simp only [Instr.wf, Bool.and_eq_true, decide_eq_true_eq] at h; omega

theorem groupCommit (client gid : Nat) : Statement (.groupCommit client gid) := by
  intro h c e; cases e; simp [Instr.wf] at h; omega

theorem groupCommitAll (client : Nat) : Statement (.groupCommitAll client) := by
  intro h c e; cases e; simp [Instr.wf] at h; omega

theorem groupDiscard (client gid : Nat) : Statement (.groupDiscard client gid) := by
  intro h c e; cases e; simp [Instr.wf] at h; omega

theorem groupDiscardAll (client : Nat) : Statement (.groupDiscardAll client) := by
  intro h c e; cases e; simp [Instr.wf] at h; omega

theorem bulkRead (idx sub : Nat) : Statement (.bulkRead idx sub) := fun _ _ e => nomatch e

theorem bulkWrite (idx sub : Nat) (data : List Nat) : Statement (.bulkWrite idx sub data) := fun _ _ e => nomatch e

theorem nppOpen (seq : Nat) : Statement (.nppOpen seq) := fun _ _ e => nomatch e

theorem nppClose (session seq : Nat) : Statement (.nppClose session seq) := fun _ _ e => nomatch e

theorem nppRead (session seq : Nat) (body : ReadBody) : Statement (.nppRead session seq body) := fun _ _ e => nomatch e

theorem nppWrite (session seq : Nat) (body : WriteBody) : Statement (.nppWrite session seq body) := fun _ _ e => nomatch e

theorem nppCommit (session seq gid : Nat) : Statement (.nppCommit session seq gid) := fun _ _ e => nomatch e

theorem nppDiscard (session seq gid : Nat) : Statement (.nppDiscard session seq gid) := fun _ _ e => nomatch e

theorem nppKeepalive (session seq : Nat) : Statement (.nppKeepalive session seq) := fun _ _ e => nomatch e

theorem nppWake (serial : Nat) : Statement (.nppWake serial) := fun _ _ e => nomatch e

theorem nppSessionExpiry (session : Nat) : Statement (.nppSessionExpiry session) := fun _ _ e => nomatch e

theorem nppPort (client port : Nat) : Statement (.nppPort client port) := by
  intro h c e; cases e; simp [Instr.wf] at h; omega

theorem ptpAnnounce (domain ident key : Nat) (utc : Int) : Statement (.ptpAnnounce domain ident key utc) := fun _ _ e => nomatch e

theorem ptpSync (domain ident t1 : Nat) (reply : Option PtpReply) : Statement (.ptpSync domain ident t1 reply) := fun _ _ e => nomatch e

theorem ptpPdelayReq : Statement .ptpPdelayReq := fun _ _ e => nomatch e

theorem ptpDelayReqSend : Statement .ptpDelayReqSend := fun _ _ e => nomatch e

theorem ptpAnnounceTimeout : Statement .ptpAnnounceTimeout := fun _ _ e => nomatch e

theorem ptpSyncTimeout : Statement .ptpSyncTimeout := fun _ _ e => nomatch e

theorem ptpPortRestart (client : Nat) (dom : Bool) (val : Nat) : Statement (.ptpPortRestart client dom val) := by
  intro h c e; cases e; simp [Instr.wf] at h; omega

theorem timeRestep (client : Nat) : Statement (.timeRestep client) := by
  intro h c e; cases e; simp [Instr.wf] at h; omega

theorem ppsInEdge (rising : Bool) : Statement (.ppsInEdge rising) := fun _ _ e => nomatch e

theorem ppsInLoss : Statement .ppsInLoss := fun _ _ e => nomatch e

theorem ppsOutAssert : Statement .ppsOutAssert := fun _ _ e => nomatch e

theorem ppsOutEnd : Statement .ppsOutEnd := fun _ _ e => nomatch e

theorem flitCrcFail (port seq : Nat) : Statement (.flitCrcFail port seq) := fun _ _ e => nomatch e

theorem nak (port seq : Nat) : Statement (.nak port seq) := fun _ _ e => nomatch e

theorem contrib (port seq : Nat) (words : List Nat) : Statement (.contrib port seq words) := fun _ _ e => nomatch e

theorem hello (port : Nat) (words : List Nat) : Statement (.hello port words) := fun _ _ e => nomatch e

theorem form (port seq : Nat) (members : List (Nat × Nat)) : Statement (.form port seq members) := fun _ _ e => nomatch e

theorem formRound : Statement .formRound := fun _ _ e => nomatch e

theorem barrier (port seq kind half pos size k path at0 : Nat) : Statement (.barrier port seq kind half pos size k path at0) := fun _ _ e => nomatch e

theorem barrierTimeout : Statement .barrierTimeout := fun _ _ e => nomatch e

theorem sync (port seq frame at16 : Nat) : Statement (.sync port seq frame at16) := fun _ _ e => nomatch e

theorem mirrorStatus (seq frame role active : Nat) : Statement (.mirrorStatus seq frame role active) := fun _ _ e => nomatch e

theorem mirrorVerdict (seq frame word fp : Nat) : Statement (.mirrorVerdict seq frame word fp) := fun _ _ e => nomatch e

theorem mirrorDict (seq kind key val frame : Nat) (members : List Nat) : Statement (.mirrorDict seq kind key val frame members) := fun _ _ e => nomatch e

theorem wakeComb (port seq : Nat) : Statement (.wakeComb port seq) := fun _ _ e => nomatch e

theorem reservedFlit (port ty : Nat) : Statement (.reservedFlit port ty) := fun _ _ e => nomatch e

theorem linkTrained (port lat : Nat) : Statement (.linkTrained port lat) := fun _ _ e => nomatch e

theorem fecAlignmentLoss (port : Nat) : Statement (.fecAlignmentLoss port) := fun _ _ e => nomatch e

theorem linkTrainTimeout (port : Nat) : Statement (.linkTrainTimeout port) := fun _ _ e => nomatch e

theorem ringReinstate (client mask : Nat) : Statement (.ringReinstate client mask) := by
  intro h c e; cases e; simp [Instr.wf] at h; omega

theorem faultReport (code a0 a1 : Nat) : Statement (.faultReport code a0 a1) := fun _ _ e => nomatch e

theorem restartPhaseDone (data : List (Nat × List Nat)) : Statement (.restartPhaseDone data) := fun _ _ e => nomatch e

theorem restartTimeout : Statement .restartTimeout := fun _ _ e => nomatch e

theorem faultClear (client : Nat) : Statement (.faultClear client) := by
  intro h c e; cases e; simp [Instr.wf] at h; omega

theorem quietPeriodExpiry : Statement .quietPeriodExpiry := fun _ _ e => nomatch e

theorem mpWatchdogExpiry : Statement .mpWatchdogExpiry := fun _ _ e => nomatch e

theorem powerRequest (client target : Nat) : Statement (.powerRequest client target) := by
  intro h c e; cases e; simp [Instr.wf] at h; omega

theorem prepareDone : Statement .prepareDone := fun _ _ e => nomatch e

theorem prepareTimeout (block : Nat) : Statement (.prepareTimeout block) := fun _ _ e => nomatch e

theorem powerTransitionDone : Statement .powerTransitionDone := fun _ _ e => nomatch e

theorem laneSignalDetect (which : Nat) : Statement (.laneSignalDetect which) := fun _ _ e => nomatch e

theorem wakeCombBursts (port : Nat) : Statement (.wakeCombBursts port) := fun _ _ e => nomatch e

theorem clkreqNAssert : Statement .clkreqNAssert := fun _ _ e => nomatch e

theorem canopyPowerSample (p i : Nat) : Statement (.canopyPowerSample p i) := fun _ _ e => nomatch e

theorem canopyThermalSample (js : List Int) (inlet outlet : Int) (flow : Nat) : Statement (.canopyThermalSample js inlet outlet flow) := fun _ _ e => nomatch e

theorem canopyEscalate : Statement .canopyEscalate := fun _ _ e => nomatch e

theorem canopyReleaseExpiry : Statement .canopyReleaseExpiry := fun _ _ e => nomatch e

theorem canopyStage3Report : Statement .canopyStage3Report := fun _ _ e => nomatch e

theorem ownerKeyProvision (client key : Nat) : Statement (.ownerKeyProvision client key) := by
  intro h c e; cases e; simp only [Instr.wf, decide_eq_true_eq] at h; omega

theorem ownerKeyRevoke (client slot : Nat) : Statement (.ownerKeyRevoke client slot) := by
  intro h c e; cases e; simp [Instr.wf] at h; omega

theorem svnAdvance (client svn : Nat) : Statement (.svnAdvance client svn) := by
  intro h c e; cases e; simp [Instr.wf] at h; omega

theorem quoteCommand (client : Nat) : Statement (.quoteCommand client) := by
  intro h c e; cases e; simp [Instr.wf] at h; omega

theorem quoteReady : Statement .quoteReady := fun _ _ e => nomatch e

theorem firmwareExtend (digest : List Nat) : Statement (.firmwareExtend digest) := fun _ _ e => nomatch e

theorem mpBoot : Statement .mpBoot := fun _ _ e => nomatch e

theorem bootVerifyDone (err : Bool) : Statement (.bootVerifyDone err) := fun _ _ e => nomatch e

theorem rebootToRecovery (client : Nat) (toFlash : Bool) : Statement (.rebootToRecovery client toFlash) := by
  intro h c e; cases e; simp [Instr.wf] at h; omega

theorem verifyHostImage (client : Nat) (toFlash : Bool) (image : List Nat) : Statement (.verifyHostImage client toFlash image) := by
  intro h c e; cases e; simp [Instr.wf] at h; omega

theorem verifyStagedImage (client : Nat) (toFlash : Bool) : Statement (.verifyStagedImage client toFlash) := by
  intro h c e; cases e; simp [Instr.wf] at h; omega

theorem recoveryChunk (client : Nat) (chunk : List Nat) : Statement (.recoveryChunk client chunk) := by
  intro h c e; cases e; simp [Instr.wf] at h; omega

theorem recoveryImageDone (ok : Bool) : Statement (.recoveryImageDone ok) := fun _ _ e => nomatch e

theorem porNAssert : Statement .porNAssert := fun _ _ e => nomatch e

theorem porNRelease (safe0 safe1 : Bool) : Statement (.porNRelease safe0 safe1) := fun _ _ e => nomatch e

theorem startStepDone : Statement .startStepDone := fun _ _ e => nomatch e

theorem coolantHoldReport : Statement .coolantHoldReport := fun _ _ e => nomatch e

theorem storeInit (client : Nat) : Statement (.storeInit client) := by
  intro h c e; cases e; simp [Instr.wf] at h; omega

theorem storeInitDone (failed : Nat) : Statement (.storeInitDone failed) := fun _ _ e => nomatch e

theorem arm (client : Nat) : Statement (.arm client) := by
  intro h c e; cases e; simp [Instr.wf] at h; omega

theorem stop (client : Nat) : Statement (.stop client) := by
  intro h c e; cases e; simp [Instr.wf] at h; omega

theorem railSample (volts amps : List Nat) : Statement (.railSample volts amps) := fun _ _ e => nomatch e

theorem railFault : Statement .railFault := fun _ _ e => nomatch e

theorem testEnRise : Statement .testEnRise := fun _ _ e => nomatch e

theorem testEnFall : Statement .testEnFall := fun _ _ e => nomatch e

theorem sampleTick (samples : List (Nat × Nat)) (margins : List (Nat × Nat)) : Statement (.sampleTick samples margins) := fun _ _ e => nomatch e

theorem hostCopyReadTimeout : Statement .hostCopyReadTimeout := fun _ _ e => nomatch e

theorem ptpPdelayReqSend : Statement .ptpPdelayReqSend := fun _ _ e => nomatch e

theorem nppDatagramDiscard : Statement .nppDatagramDiscard := fun _ _ e => nomatch e

theorem ringControlWrite (offset width val : Nat) : Statement (.ringControlWrite offset width val) := fun _ _ e => nomatch e

end Sys2Proof.Laws.Sender
end

