-- ==== Sys2Proof/Tests/Slice0.lean ====
section
/-! SUPPORT. Tests: ill-formed commands are refused, the spec's worked values, and, for every statement with hypotheses, a state and
operands that meet those of each of its clauses. -/

namespace Sys2Proof.Tests

open Sys2Proof Sys2Proof.Machine

-- One theorem at a time: each runs the kernel on a state of the block.
set_option Elab.async false


/-! ### Ill-formed commands: for each bound of WellFormed.lean one that breaks it -/

theorem test_ill_formed_1 : ([
    .dictWrite 10 0 0 1 0, .dictWrite 0 65536 0 1 0, .dictWrite 0 0 256 1 0, .dictWrite 0 0 0 1465 0,
    .dictWrite 0 0 0 3 0, .dictWrite 0 0 0 1 256, .growthRing [32768] [], .growthRing [-32769] [],
    .growthRing [] [256], .growthRingAtCore 65536, .growthRingAtCore 51200, .growthRingAtCore 128,
    .sysrefEdge 16 0 0, .sysrefEdge 0 0 128, .sysrefEdge 0 0 (-129), .presentNFall 16,
    .discoveryDebounceDone 16 [], .discoveryDebounceDone 0 [1, 2], .discoveryDebounceDone 0 (List.replicate 256 256), .laneLockDone 16 false 0,
    .discoveryTimeout 16, .presentNRise 16, .ibi 16 0, .ibi 0 256,
    .portReinstate 10 0, .portReinstate 0 16, .laneCodeError 64 0, .laneCodeError 0 (2 ^ 64),
    .laneSyncLoss 64, .cdrLossOfLock 64, .releaseMarginViolation 0 4, .releaseMarginViolation 0 480,
    .releaseMarginViolation 0 32767, .releaseMarginViolation 0 (-32769), .retrainTimeout 16, .retrainEpisodeEnd 64,
    .marginUpdate 64 0 0, .marginUpdate 0 65536 0, .marginUpdate 0 0 256, .adaptUpdate 64 0] : List Instr).all (fun c => !c.wf) = true := by
  decide +kernel

theorem test_ill_formed_2 : ([
    .adaptUpdate 0 65, .adaptUpdate 0 (-65), .adaptHold 10 0 0, .adaptHold 0 128 0,
    .adaptHold 0 0 256, .prbsMode 10 0 0, .prbsMode 0 128 0, .prbsMode 0 0 256,
    .injectRate 10 0 0, .injectRate 0 128 0, .injectRate 0 0 256, .tdcCalTable 2,
    .edgeInput 32 false 0, .condParityError 1024 0, .condParityError 0 2, .tokenAdmit 51200,
    .tokenAdmit 128, .tokenAdmit 66048, .nop 51200 [], .nop 128 [],
    .nop 66048 [], .lutmac 51200 [], .lutmac 128 [], .lutmac 66048 [],
    .omac 51200 [], .omac 128 [], .omac 66048 [], .zcorr 51200 [],
    .zcorr 128 [], .zcorr 66048 [], .bclose 51200 [], .bclose 128 [],
    .bclose 66048 [], .rescale 51200 [], .rescale 128 [], .rescale 66048 [],
    .actlut 51200 [], .actlut 128 [], .actlut 66048 [], .stateRead 51200 []] : List Instr).all (fun c => !c.wf) = true := by
  decide +kernel

theorem test_ill_formed_3 : ([
    .stateRead 128 [], .stateRead 66048 [], .stateWrite 51200 [], .stateWrite 128 [],
    .stateWrite 66048 [], .send 51200 [], .send 128 [], .send 66048 [],
    .recv 51200 [], .recv 128 [], .recv 66048 [], .reduce 51200 [],
    .reduce 128 [], .reduce 66048 [], .cmp 51200 [], .cmp 128 [],
    .cmp 66048 [], .sel 51200 [], .sel 128 [], .sel 66048 [],
    .maxp 51200 [], .maxp 128 [], .maxp 66048 [], .movRegisterRun 51200 [],
    .movRegisterRun 128 [], .movRegisterRun 66048 [], .movImmediate 51200 [], .movImmediate 128 [],
    .movImmediate 66048 [], .movClearAccumulators 51200 [], .movClearAccumulators 128 [], .movClearAccumulators 66048 [],
    .ldw 51200 [], .ldw 128 [], .ldw 66048 [], .waitCount 51200 [],
    .waitCount 128 [], .waitCount 66048 [], .waitTokenPresent 51200 [], .waitTokenPresent 128 []] : List Instr).all (fun c => !c.wf) = true := by
  decide +kernel

theorem test_ill_formed_4 : ([
    .waitTokenPresent 66048 [], .waitGrowthRing 51200 [], .waitGrowthRing 128 [], .waitGrowthRing 66048 [],
    .ring 51200 [], .ring 128 [], .ring 66048 [], .fireWatchdogExpiry 51200,
    .fireWatchdogExpiry 128, .fireWatchdogExpiry 66048, .scrubberPass 51200 [], .scrubberPass 128 [],
    .scrubberPass 66048 [], .scrubberPass 0 [⟨3, 0, false⟩], .scrubberPass 0 [⟨0, 4096, false⟩], .rideHop 65536 0 false,
    .rideHop 0 4 false, .rideHop 51200 0 false, .rideHop 128 0 false, .fbDepart 65536,
    .fbDepart 51200, .fbDepart 128, .fbSlotTimeout 65536, .fbSlotTimeout 51200,
    .fbSlotTimeout 128, .dieLinkRealignTimeout 256, .vlinePulseEnd 32, .vlineUnlatch 10 0,
    .vlineUnlatch 0 (2 ^ 32), .patAutoExpiry 64, .copyUnit 2, .copyTruncate 2,
    .psramTransactionDone 32 false, .psramTimeout 32768, .captureRelease 10 0, .captureRelease 0 (2 ^ 32),
    .streamSegment ⟨16, 0⟩, .streamOverrun 16, .descProducer 10 0 0, .descProducer 0 16 0] : List Instr).all (fun c => !c.wf) = true := by
  decide +kernel

theorem test_ill_formed_5 : ([
    .descProducer 0 0 (2 ^ 32), .descFetchTimeout 16, .descCopy 16 (List.replicate 8 0) 0, .descCopy 0 (List.replicate 8 0) (2 ^ 64),
    .descCopy 0 (List.replicate 7 0) 0, .descCopy 0 (List.replicate 8 (2 ^ 64)) 0, .descCopyRelease 16 (List.replicate 8 0) 0, .descCopyRelease 0 (List.replicate 8 0) (2 ^ 64),
    .descCopyRelease 0 (List.replicate 7 0) 0, .descCopyRelease 0 (List.replicate 8 (2 ^ 64)) 0, .descRelease 16 (List.replicate 8 0), .descRelease 0 (List.replicate 9 0),
    .descRelease 0 (List.replicate 8 (2 ^ 64)), .transferDone 16, .channelStart 10 0, .channelStart 0 16,
    .channelAbort 10 0, .channelAbort 0 16, .channelAbortDone 16, .reviewDispatch 2,
    .reviewJobAged 2, .reviewInputReadDone 2, .reviewPassStart 2, .reviewPassEnd 2 0,
    .reviewJobEnd 2 false, .encStart 10, .encBlockStaged (List.replicate 139 0), .encBlockStaged (List.replicate 140 (2 ^ 64)),
    .encCommit 10, .encAbandon 10, .load 10, .unload 10,
    .loadCheck 10, .loadPhaseDone [2 ^ 64], .retireCore 10 0 0, .retireCore 0 256 0,
    .retireCore 0 0 256, .contextSwitch 10 0 0, .contextSwitch 0 (2 ^ 56) 0, .contextSwitch 0 0 4] : List Instr).all (fun c => !c.wf) = true := by
  decide +kernel

theorem test_ill_formed_6 : ([
    .slotDrained 4, .fallbackEnable 10 0, .fallbackEnable 0 256, .pause 10 0,
    .pause 0 (2 ^ 56), .resume 10 0, .resume 0 (2 ^ 56), .resumeNoRestore 10 0,
    .resumeNoRestore 0 (2 ^ 56), .auditTimeout 3, .auditTimeout 0, .recordWrite 5,
    .recordWrite 15, .recordWrite 32, .ciFetchDone (List.replicate 31 0), .ciFetchDone (List.replicate 32 (2 ^ 64)),
    .msixDelayExpiry 5, .msixDelayExpiry 32, .ringEnable 5 1, .ringEnable 0 2,
    .ringEnable 32 1, .ringEnable 0 (2 ^ 32 + 1), .ringDisable 5 0, .ringDisable 0 1,
    .ringDisable 32 0, .ringDisable 0 (2 ^ 32), .hostWindowWrite 0x2000 8 0, .hostWindowWrite 0x2807 8 0,
    .hostWindowWrite 0x100000 8 0, .hostWindowWrite 0 24 0, .hostWindowWrite 0 8 256, .hostLinkUp 7 1 ⟨false, HostCfg.rest⟩,
    .hostLinkUp 0 1 ⟨false, HostCfg.rest⟩, .hostLinkUp 1 3 ⟨false, HostCfg.rest⟩, .hostLinkUp 1 1 ⟨false, { HostCfg.rest with payload := 64 }⟩, .hostLinkUp 1 1 ⟨false, { HostCfg.rest with readReq := 64 }⟩,
    .groupMemberWrite 10 0x2600 1 0, .groupMemberWrite 0 0x2600 1 (2 ^ 2048), .groupMemberWrite 0 0x2600 0 0, .groupMemberWrite 0 0x2640 1 0] : List Instr).all (fun c => !c.wf) = true := by
  decide +kernel

theorem test_ill_formed_7 : ([
    .groupCommit 10 0, .groupCommit 0 (2 ^ 32), .groupCommitAll 10, .groupDiscard 10 0,
    .groupDiscard 0 0xFFFFFFFF, .groupDiscardAll 10, .bulkRead 65536 0, .bulkRead 0 256,
    .bulkWrite 65536 0 [], .bulkWrite 0 256 [], .bulkWrite 0 0 [256], .bulkWrite 0 0 (List.replicate 1025 0),
    .nppOpen (2 ^ 32), .nppClose (2 ^ 32) 0, .nppClose 0 (2 ^ 32), .nppRead (2 ^ 32) 0 ⟨0, []⟩,
    .nppRead 0 (2 ^ 32) ⟨0, []⟩, .nppRead 0 0 ⟨0, [(65536, 0)]⟩, .nppRead 0 0 ⟨0, [(0, 256)]⟩, .nppRead 0 0 ⟨0, List.replicate 365 (0, 0)⟩,
    .nppRead 0 0 ⟨65536, []⟩, .nppWrite (2 ^ 32) 0 ⟨0, []⟩, .nppWrite 0 (2 ^ 32) ⟨0, []⟩, .nppWrite 0 0 ⟨0, [(65536, 0, [])]⟩,
    .nppWrite 0 0 ⟨0, [(0, 256, [])]⟩, .nppWrite 0 0 ⟨0, [(0, 0, [256])]⟩, .nppWrite 0 0 ⟨0, [(0, 0, List.replicate 1449 0)]⟩, .nppWrite 0 0 ⟨65536, []⟩,
    .nppCommit (2 ^ 32) 0 0, .nppCommit 0 (2 ^ 32) 0, .nppCommit 0 0 (2 ^ 32), .nppDiscard (2 ^ 32) 0 0,
    .nppDiscard 0 (2 ^ 32) 0, .nppDiscard 0 0 (2 ^ 32), .nppKeepalive (2 ^ 32) 0, .nppKeepalive 0 (2 ^ 32),
    .nppWake (2 ^ 128), .nppSessionExpiry 8, .nppPort 10 0, .nppPort 0 65536] : List Instr).all (fun c => !c.wf) = true := by
  decide +kernel

theorem test_ill_formed_8 : ([
    .ptpAnnounce 128 0 0 0, .ptpAnnounce 0 (2 ^ 64) 0 0, .ptpSync 128 0 0 none, .ptpSync 0 (2 ^ 64) 0 none,
    .ptpPortRestart 10 false 0, .ptpPortRestart 0 false 256, .timeRestep 10, .flitCrcFail 3 0,
    .flitCrcFail 0 4096, .nak 3 0, .nak 0 4096, .contrib 2 0 (List.replicate 5 0),
    .contrib 0 4096 (List.replicate 5 0), .contrib 0 0 (List.replicate 4 0), .contrib 0 0 (List.replicate 5 (2 ^ 64)), .hello 3 (List.replicate 6 0),
    .hello 0 (List.replicate 5 0), .form 2 0 [], .form 0 4096 [], .form 0 0 (List.replicate 34 (0, 0)),
    .barrier 3 0 0 0 0 0 0 0 0, .barrier 0 4096 0 0 0 0 0 0 0, .barrier 0 0 2 0 0 0 0 0 0, .barrier 0 0 0 6 0 0 0 0 0,
    .barrier 0 0 0 0 32 0 0 0 0, .barrier 0 0 0 0 0 33 0 0 0, .barrier 0 0 0 0 0 0 65536 0 0, .sync 3 0 0 0,
    .sync 0 4096 0 0, .sync 0 0 (2 ^ 64) 0, .mirrorStatus 4096 0 0 0, .mirrorStatus 0 (2 ^ 24) 0 0,
    .mirrorStatus 0 0 3 0, .mirrorStatus 0 0 0 2, .mirrorVerdict 4096 0 0 0, .mirrorVerdict 0 (2 ^ 24) 0 0,
    .mirrorVerdict 0 0 (2 ^ 64) 0, .mirrorVerdict 0 0 0 (2 ^ 128), .mirrorDict 4096 0 0 0 0 [], .mirrorDict 0 4 0 0 0 []] : List Instr).all (fun c => !c.wf) = true := by
  decide +kernel

theorem test_ill_formed_9 : ([
    .mirrorDict 0 0 (2 ^ 32) 0 0 [], .mirrorDict 0 0 0 0 (2 ^ 64) [], .wakeComb 2 0, .wakeComb 0 4096,
    .reservedFlit 0 10, .reservedFlit 0 16, .linkTrained 3 0, .linkTrained 0 65536,
    .fecAlignmentLoss 3, .linkTrainTimeout 3, .ringReinstate 10 0, .ringReinstate 0 256,
    .faultReport 0x2041 (2 ^ 64) 0, .faultReport 0x2041 0 (2 ^ 64), .faultReport 0x2042 0 0, .restartPhaseDone [(4, [])],
    .restartPhaseDone [(0, [2 ^ 64])], .faultClear 10, .powerRequest 10 0, .powerRequest 0 256,
    .prepareTimeout 9, .laneSignalDetect 67, .wakeCombBursts 2, .canopyPowerSample 65536 0,
    .canopyPowerSample 0 65536, .canopyThermalSample (List.replicate 100 0) 32768 0 0, .canopyThermalSample (List.replicate 100 0) 0 32768 0, .canopyThermalSample (List.replicate 100 0) 0 0 65536,
    .canopyThermalSample (List.replicate 99 0) 0 0 0, .canopyThermalSample (List.replicate 100 32768) 0 0 0, .canopyThermalSample (List.replicate 100 (-32769)) 0 0 0, .canopyThermalSample (List.replicate 100 0) (-32769) 0 0,
    .canopyThermalSample (List.replicate 100 0) 0 (-32769) 0, .ownerKeyProvision 10 0, .ownerKeyProvision 0 (2 ^ 512), .ownerKeyRevoke 10 0,
    .ownerKeyRevoke 0 256, .svnAdvance 10 0, .svnAdvance 0 256, .quoteCommand 10] : List Instr).all (fun c => !c.wf) = true := by
  decide +kernel

theorem test_ill_formed_10 : ([
    .firmwareExtend (List.replicate 31 0), .firmwareExtend (List.replicate 32 256), .rebootToRecovery 10 false, .verifyHostImage 10 false [],
    .verifyHostImage 0 false [256], .verifyStagedImage 10 false, .recoveryChunk 10 (List.replicate 1024 0), .recoveryChunk 0 (List.replicate 1023 0),
    .recoveryChunk 0 (List.replicate 1024 256), .storeInit 10, .storeInitDone (2 ^ 32), .arm 10,
    .stop 10, .railSample (List.replicate 8 0) (List.replicate 9 0), .railSample (List.replicate 9 0) (List.replicate 8 0), .railSample (List.replicate 9 65536) (List.replicate 9 0),
    .railSample (List.replicate 9 0) (List.replicate 9 65536), .sampleTick [(1024, 0)] [], .sampleTick [(0, 65536)] [], .sampleTick [] [(64, 4)],
    .sampleTick [] [(0, 3)], .sampleTick [] [(0, 481)], .ringControlWrite 0x1FFF 8 0, .ringControlWrite 0x2808 8 0,
    .ringControlWrite 0x2000 24 0, .ringControlWrite 0x2000 8 256] : List Instr).all (fun c => !c.wf) = true := by
  decide +kernel

theorem test_ill_formed_is_refused : exec (.dictWrite 10 0 0 1 0) State.reset = .refused .malformed := rfl

/-! ### Worked values of the spec -/

/-- Table 7.5: the block close on lane 3, and the accumulator after it. -/
theorem test_block_close : closeSum 188000 24160 512 240 7 = 10688 ∧ -120000 + 37 * closeSum 188000 24160 512 240 7 = 275456 := by decide

/-- Table 7.6: ties go to even on both sides of zero, and a sum past 16 bits saturates. -/
theorem test_rescale_ties :
    [2464, 2528, -2464, 3400].map (fun a => rescaleVal a (40000 * 2 ^ 48 + 12 * 2 ^ 26)) =
      [(24062, false), (24688, false), (-24062, false), (32767, true)] := by decide +kernel

/-- After Table 7.6: c is added before saturation, and lane 3 of the first-layer example. -/
theorem test_rescale_offset :
    rescaleVal 3400 (40000 * 2 ^ 48 + (65536 - 500) * 2 ^ 32 + 12 * 2 ^ 26) = (32703, false) ∧
    rescaleVal 275456 (23040 * 2 ^ 48 + (65536 - 40) * 2 ^ 32 + 22 * 2 ^ 26) = (1473, false) := by decide +kernel

/-- Table 7.12: S2 = 2^-9 and s = 40; the weights 0.1953125 (0x3E48), 0.15625 (0x3E20), 1.0 (0x3F80), -1.0 (0xBF80) and 0. -/
theorem test_encoder_ties_and_clamps :
    [(0x3E48, 8), (0x3E48, 7), (0x3E20, 8), (0x3F80, 8), (0xBF80, 8), (0, 8)].map
      (fun x => encodeW (floatVal 7 x.1) (floatVal 23 0x3B000000) 40 x.2 0 15) =
      [(10, 0), (10, 0), (10, 0), (15, 1), (0, 1), (8, 0)] := by decide +kernel

/-- Tables 4.3 and 11.7: channels 70 and 71 of the travelling-wave front, without their phase of 37. -/
theorem test_crossings :
    crossing ⟨1, 12000, 0, 0, 0, 0⟩ 1 (some 9000) 15400 38 3072 1 46080 + 37 = 69061 ∧
    crossing ⟨1, 12000, 0, 0, 0, 0⟩ 1 (some 8200) 13000 37 3072 1 46080 + 37 = 66981 := by decide +kernel

/-- Table 6.7: the hop from x = 23 to x = 24 crosses the die boundary, in 4 ac on B0 and in 5 on A1. -/
theorem test_die_crossing :
    hopEW Dev.reset (23 * 256 + 12) (25 * 256 + 12) = 4 ∧
    hopEW { Dev.reset with fuses := { Dev.reset.fuses with stepping := 0xA1 } } (23 * 256 + 12) (25 * 256 + 12) = 5 := by decide +kernel

/-- The check value of CRC-32 of IEEE 802.3, and the first example of GB/T 32905: the digest of "abc". -/
theorem test_digests :
    crc32 [0x31, 0x32, 0x33, 0x34, 0x35, 0x36, 0x37, 0x38, 0x39] = 0xCBF43926 ∧
    beNum (sm3 [0x61, 0x62, 0x63]) = 0x66C7F0F462EEEDD9D1F2D46BDC10E4E24167C4875CF2F7A2297DA02B8F4BA8E0 := by decide +kernel

/-- A command runs from reset: POR_N rises with both straps low, and the understorey step begins (Table 21.1). -/
theorem test_por_release :
    (match step { State.reset with pending := [.porNRelease false false, .frameBoundary] } with
      | .next t => t.pending = [.frameBoundary] ∧ t.dev.sys.step = 1 ∧ t.dev.pins.porN = true
      | _ => False) := by
  refine ⟨rfl, ?_, ?_⟩ <;> decide +kernel

/-! ### States that meet the hypotheses of each statement's clauses -/

/-- A small state: the state at reset with some entries set and a change to its parts. -/
def st (es : List (Reg × Nat)) (f : Dev → Dev := id) : State := ⟨f (es.foldl (fun d e => dset e.1 e.2 d) Dev.reset), [], []⟩

/-- The block READY with its host link up. -/
def up (es : List (Reg × Nat)) (f : Dev → Dev := id) : State :=
  st ([(R.BOOT_STATE, 2), (R.START_STATE, 3), (R.STORE_STATE, 2)] ++ es) fun d =>
    f { d with sys := { d.sys with step := 5 }, pins := { d.pins with porN := true }, host := { d.host with linkUp := true }, now := 100000 }

/-- The array RUNNING in frame 2, whose growth ring is still to come. -/
def on (es : List (Reg × Nat)) (f : Dev → Dev := id) : State :=
  up ((R.ARRAY_STATE, 2) :: es) fun d =>
    f { d with grid := { d.grid with edge := 900, b0 := 1000, nextB := 3, nextC := 3, nextT := 2, nextClose := 2, nextIssue := 2, nextDead := 2, nextSend := 2, nextMv := 2, nextAlone := 2 } }

/-- TEST_EN is high. -/
def testHigh (d : Dev) : Dev := { d with pins := { d.pins with testEn := true } }

/-- A front-end descriptor that is in order: one lane, one channel, 50 MS/s. -/
def goodDescHead : List Nat :=
  let w (n : Nat) := bytesOf n 8
  w (2 ^ 48 + 256 * 2 ^ 32 + 0x46454431) ++ w 0 ++
  w (0x0C * 2 ^ 56 + 1 * 2 ^ 52 + 1 * 2 ^ 48 + 1 * 2 ^ 40 + 2 * 2 ^ 32 + 16 * 2 ^ 16 + 16 * 2 ^ 8) ++
  w (1 * 2 ^ 48 + 1 * 2 ^ 32 + 50000) ++ w (6250000 * 2 ^ 32 + 1) ++ List.replicate 208 0 ++ [0, 0, 0, 0]
def goodDesc : List Nat := goodDescHead ++ bytesOf 2760539223 4

/-- A core whose one instance issues the word w next. -/
def opCore (w : Nat) (f : Core → Core := id) : Core :=
  f { Core.rest with prog := [(0, w)], insts := [⟨0, 0, 0, false, 0, none, 0, 0⟩], lastRing := some 2 }

/-- The array RUNNING with that core. -/
def opAt (w : Nat) (f : Core → Core := id) (g : Dev → Dev := id) : State :=
  on [] fun d => g { d with cores := [(0, opCore w f)] }

/-- What core 0 issues next, and when. -/
def candAt (s : State) : Nat × Cand := (pick (coreOf s.dev 0) (issueFrom 0 s.dev)).getD (0, ⟨0, 0, 0, 0, 0, none⟩)

/-- A word of operation n with field values at their low bits. -/
def opW (n : Nat) (fs : List (Nat × Nat) := []) : Nat := fs.foldl (fun w f => w + f.1 * 2 ^ f.2) (n * 2 ^ 58)

/-- Record ring r is enabled. -/
def ringOn (r : Nat) (d : Dev) : Dev := setRing r { ringOf d r with enabled := true, entries := 64, base := 4096 } d

/-- Frame and tick of the next pattern evaluation. -/
def frameTick (s : State) : Nat × Nat := (evalTick s.dev (nextEval s.dev)).getD (0, 0)

/-- An open copy of two blocks of channel 4, at a handle of generation 1; the frame under way has its ring time at 20000. -/
def cap0 (f : Cap → Cap := id) : Cap :=
  f ⟨some 5, 1, 3, 2, 7, 1, 2, 0, 2, 1, 0, [⟨4, 4, 1⟩], [], 1, 0, 255, 0, 0, [3], 0, 0, [], none, 0, 0, true, false, [], false, [], false⟩
def hnd : Nat := 4096 + 5
def capAt (c : Cap) (t : Nat) (d : Dev) : Dev :=
  { d with store := { d.store with caps := [c] }, frames := [(2, { Frame.rest with ringB := t })] }

/-- The same capture once it has ended, its record written. -/
def held : Cap := cap0 fun c => { c with status := some 0, valid := 2, recDue := false, doneW := 2, data := [(4, List.range 512)] }

/-- A trigger of the capture that still waits. -/
def trigW : Trigger := ⟨7, 2, 0, 1, 0, 0, 0, 0, 0, false, 0, 0, 0⟩

/-- Host window 0 is open over the first megabyte, and engine channel n's record ring is enabled. -/
def winOn (d : Dev) : Dev := { d with host := { d.host with wins := [(0, ⟨0, 2 ^ 20, true⟩)] } }
def engAt (n : Nat) (g : Eng) (d : Dev) : Dev := ringOn (16 + n) (winOn { d with engs := [(n, g)] })

/-- A review job on the capture, and the network it names. -/
def job0 : Job := ⟨3, 0, 2, false, 7, 1, 3, hnd, [256], 2, false, [], 1000, 0, 0, false, 0, 0, false, 0, false, [], []⟩
def net0 : Net := ⟨0, 1, 1, 256, 1, 4, [[0, 1, 1, 2, 3]], 0, []⟩

/-- An object whose only core record, logical core (0, 0), owns the table words 100 to 103. -/
def obj1 : List Nat := (List.range 92).map fun i =>
  tget 0 [(16, 2 ^ 48), (17, 512), (18, 40), (19, 4 * 2 ^ 48), (20, 576), (21, 160), (64, 2 ^ 32), (72, 2 ^ 48), (73, 100 * 2 ^ 55 + 3 * 2 ^ 46)] i
/-- The same object, compiled for the frame length at reset. -/
def obj2 : List Nat := obj1.set 2 (fLen State.reset.dev * 2 ^ 16)
def obj1At (d : Dev) : Dev := { d with ldr := { d.ldr with ctxs := [(0, { Loaded.rest with present := true, layers := [obj1] })] } }

/-- The same object with one row of weights. -/
def obj3At (d : Dev) : Dev := { d with ldr := { d.ldr with ctxs := [(0, { Loaded.rest with present := true, layers := [obj1.set 65 256] })] } }

/-- An update block of one rescale entry at table word 100 of core (0, 0), and one that no object owns. -/
def blk1 : List Nat := (2 * 2 ^ 44 + 100 * 2 ^ 28) :: List.replicate 11 0 ++ [5 * 2 ^ 26] ++ List.replicate 127 0
def blkBad : List Nat := 2 ^ 44 :: List.replicate 139 0
def staged1 : EncBlock := (encodeBlk 0 blk1).1
def encAt (d : Dev) : Dev := obj1At { d with enc := { d.enc with staged := [staged1], next := 1 }, cores := [(0, putOverlay staged1 Core.rest)] }
def job1 (cmd : Nat) (o : List Nat) : LoadJob := ⟨cmd, 2, 4096, 8 * o.length, o, [], 0, [], false, 0⟩
def jobAt (cmd : Nat) (o : List Nat) (d : Dev) : Dev := { d with ldr := { d.ldr with job := some (job1 cmd o) } }
def save0 : Save := ⟨1, 0, 0, 2, [], [], [], [], [], [], 0, 0, 0⟩

/-- A record of a ring, and a ring that holds it. -/
def rec1 : Rec := ⟨1, 0, some 2, [5, 6, 7, 8], none, false, false, 0, []⟩
def ring1 : Ring := { Ring.rest with base := 4096, entries := 64, enabled := true, seq := 65, consumer := 2, queue := [rec1], epoch := 1, ctrl := 2 + 16 }
def ringIs (r : Nat) (g : Ring) (d : Dev) : Dev := setRing r g (winOn d)

/-- The row of an entry, and a device in which NPP session 0 (client 2) is open. -/
def entOf (idx sub : Nat) : Entry := (findEntry idx sub).getD ⟨0, 0, 0, 0, .u8, .ro, .any, .none, false⟩
def npp (d : Dev) : Dev := modCtl (fun x => { x with sess := [(0, ⟨true, 77, 5, [1, 2], 90000⟩)] }) d
def grp0 (st holder : Nat) : Grp := ⟨st, holder, [(3, some 4)], false, 0⟩
def grpAt (st holder : Nat) (d : Dev) : Dev := modCtl (fun x => { x with groups := [(0x4000003, grp0 st holder)] }) d

/-- A master is selected; the servo follows source n. -/
def ptpOn (n : Nat) (d : Dev) : Dev := { d with time := { d.time with master := some 77, masterKey := 7, src := n } }
def clkAt (n : Nat) (d : Dev) : Dev := { d with time := { d.time with clk := n * 2 ^ 32 } }

/-- Link p is in state n, and holds x. -/
def linkAt (p n : Nat) (x : Link) (d : Dev) : Dev := dset (linkReg p) n { d with lnk := { d.lnk with links := tset Link.rest d.lnk.links p x } }
def hello0 (d : Dev) : List Nat := [5, dget R.RING_DOMAIN d, 0, 0, fLen d, 0]

/-- A firmware image of no body, version 7, security version 3, signed with the private key 1; and a part whose ROM key 0 is that key's. -/
def img1 : List Nat :=
  bytesOf 0x4D50465700010200 8 ++ bytesOf 512 8 ++ bytesOf (7 * 2 ^ 32 + 3 * 2 ^ 24) 8 ++ bytesOf 0 8 ++ sm3 [] ++
  beBytes 0xf2cbc9bd284d4fb5676ea01167956931307b5fbc06140827ff42016ad8540327 32 ++
  beBytes 0x869a1b206bd958254c48aff74c354b66d9c62f8d1ebc0117541af353cdab3f90 32 ++ List.replicate 384 0
def romG (d : Dev) : Dev := { d with fuses := { d.fuses with romKeys := [sm2gx * 2 ^ 256 + sm2gy] } }
def secAt (f : Sec → Sec) (d : Dev) : Dev := { d with sec := f d.sec }
def pwrAt (f : Pwr → Pwr) (d : Dev) : Dev := { d with pwr := f d.pwr }
def stepAt (n : Nat) (d : Dev) : Dev := { d with sys := { d.sys with step := n } }
/-- What arming needs beside record ring 0. -/
def readyArm : List (Reg × Nat) := [(R.ARM_CONTEXT, 1), (R.SLOT_STATE 1, 2), (R.CLOCK_STATE, 1)]
/-- Port 0 delivers n channels at rate 16 from frame 0 on. -/
def chans1 (n : Nat) (d : Dev) : Dev := { d with ports := [(0, { Port.rest with presentFrom := some 0, chans := n, rate := 16, bitsN := 16, lanes := 1 })] }
def serial5 (d : Dev) : Dev := { d with fuses := { d.fuses with serial := 5 } }

/-- The descriptor's check sum, a quarter at a time. -/
theorem desc_crc : crc32 (goodDesc.take 252) = 2760539223 := by
  have h : goodDesc.take 252 = ((goodDescHead.take 63 ++ (goodDescHead.drop 63).take 63) ++ (goodDescHead.drop 126).take 63) ++
      goodDescHead.drop 189 := by decide +kernel
  have h1 : (goodDescHead.take 63).foldl crcStep 0xFFFFFFFF = 3943235122 := by decide +kernel
  have h2 : ((goodDescHead.drop 63).take 63).foldl crcStep 3943235122 = 4078922193 := by decide +kernel
  have h3 : ((goodDescHead.drop 126).take 63).foldl crcStep 4078922193 = 1595250739 := by decide +kernel
  have h4 : (goodDescHead.drop 189).foldl crcStep 1595250739 = 1534428072 := by decide +kernel
  rw [crc32, h, List.foldl_append, List.foldl_append, List.foldl_append, h1, h2, h3, h4]
  decide

theorem desc_good : descGood goodDesc = true := by
  have h : (decide (goodDesc.length = 256) && decide (bits (descWord goodDesc 0) 63 48 = 1) && decide (bits (descWord goodDesc 0) 47 32 = 256)
      && decide (bits (descWord goodDesc 0) 31 0 = 0x46454431) && decide (bits (descWord goodDesc 31) 63 32 = 2760539223)
      && decide (bits (descWord goodDesc 4) 7 0 = bits (descWord goodDesc 2) 47 40)) = true := by decide +kernel
  simpa only [descGood, desc_crc] using h

theorem test_meets_front_end_discovery_1 :
    (∃ (p : Nat) (s : State), p < 16 ∧ (portOf s.dev p).presentN = true ∧ (portOf s.dev p).held = false ∧ portWatched s.dev p = true ∧ dget R.POWER_STATE s.dev = 0 ∧ dget R.POWER_TRANSITION s.dev = 0) ∧
    (∃ (p t : Nat) (desc : List Nat) (s : State), p < 16 ∧ desc.length = 256 ∧ ((∀ b ∈ desc, b < 256)) ∧ (portOf s.dev p).fellAt = some t ∧ descGood desc = true ∧ descSupported desc = true ∧ descWanted s.dev p desc = true ∧ descCompiled s.dev p desc = true) ∧
    (∃ (p : Nat) (s : State), p < 16 ∧ dget (R.FE_STATE p) s.dev = 3) ∧
    (∃ (p t : Nat) (s : State), p < 16 ∧ dget (R.FE_STATE p) s.dev = 1 ∧ (portOf s.dev p).fellAt = some t) ∧
    (∃ (p : Nat) (s : State), p < 16 ∧ (dget (R.FE_STATE p) s.dev = 3 ∨ dget (R.FE_STATE p) s.dev = 7) ∧ portTested s.dev p = false) ∧
    (∃ (p : Nat) (s : State), p < 16 ∧ (portOf s.dev p).presentN = false ∧ portWatched s.dev p = true) :=
  ⟨⟨3, (up []), by decide +kernel⟩,
   ⟨3, 77, goodDesc, (up [] (modPort 3 fun x => { x with fellAt := some 77 })), by decide +kernel, by decide +kernel, by decide +kernel, by decide +kernel, desc_good, by decide +kernel⟩,
   ⟨3, (up [(R.FE_STATE 3, 3)]), by decide +kernel⟩,
   ⟨3, 7, (up [(R.FE_STATE 3, 1)] (modPort 3 fun x => { x with fellAt := some 7 })), by decide +kernel⟩,
   ⟨3, (up [(R.FE_STATE 3, 7), (R.LANE_RETRAINS 12, 1)] (modPort 3 fun x => { x with lanes := 4 })), by decide +kernel⟩,
   ⟨3, (up [(R.FE_STATE 3, 4)] (modPort 3 fun x => { x with presentN := false })), by decide +kernel⟩⟩

theorem test_meets_front_end_discovery_2 :
    (∃ (p : Nat) (s : State), p < 16 ∧ Asks 0 s.dev ∧ dget (R.PORT_ENABLE p) s.dev = 1 ∧ (portOf s.dev p).presentN = false ∧ portWatched s.dev p = true) :=
  ⟨3, (up [(R.FE_STATE 3, 7)] (modPort 3 fun x => { x with presentN := false })), by decide +kernel, by unfold Asks; decide +kernel, by decide +kernel⟩

theorem test_meets_lane_errors_retrain_1 :
    (∃ (lane u : Nat) (s : State), lane < 64 ∧ u < 2 ^ 64 ∧ dget (R.LANE_STATE lane) s.dev = 2 ∧ ((laneOf s.dev lane).errs.filter (fun t => decide (s.dev.now - t < acPerMs))).length < dget R.RETRAIN_ERROR_LIMIT s.dev) ∧
    (∃ (lane u : Nat) (s : State), lane < 64 ∧ u < 2 ^ 64 ∧ dget (R.LANE_STATE lane) s.dev = 5) ∧
    (∃ (lane : Nat) (s : State), lane < 64 ∧ laneUp s.dev lane = true ∧ dget (R.LANE_RETRAINS lane) s.dev < 3) ∧
    (∃ (lane : Nat) (margin : Int) (s : State), lane < 64 ∧ (margin < 4 ∨ 480 < margin) ∧ -32768 ≤ margin ∧ margin < 32767 ∧ laneUp s.dev lane = true ∧ dget (R.LANE_RETRAINS lane) s.dev < 3 ∧ margin < sgn 16 (dget (R.LANE_MARGIN lane) s.dev)) ∧
    (∃ (p t lane cause : Nat) (s : State), p < 16 ∧ (portOf s.dev p).retrainAt = some t ∧ (portOf s.dev p).retrainLane = lane ∧ (portOf s.dev p).retrainCause = cause ∧ dget (R.LANE_RETRAINS lane) s.dev < 3) ∧
    (∃ (p lane cause : Nat) (s : State), p < 16 ∧ dget (R.FE_STATE p) s.dev = 7 ∧ (portOf s.dev p).retrainLane = lane ∧ lane / 4 = p ∧ (portOf s.dev p).retrainCause = cause ∧ dget (R.LANE_RETRAINS lane) s.dev < 3) :=
  ⟨⟨63, 1, (up [(R.LANE_STATE 63, 2)]), by decide +kernel⟩,
   ⟨63, 1, (up [(R.LANE_STATE 63, 5)]), by decide +kernel⟩,
   ⟨63, (up [(R.LANE_STATE 63, 2)]), by decide +kernel⟩,
   ⟨63, 3, (up [(R.LANE_STATE 63, 2)]), by decide +kernel⟩,
   ⟨15, 9, 61, 2, (up [] (modPort 15 fun x => { x with retrainAt := some 9, retrainLane := 61, retrainCause := 2 })), by decide +kernel⟩,
   ⟨15, 61, 2, (up [(R.FE_STATE 15, 7)] (modPort 15 fun x => { x with retrainAt := some 9, retrainLane := 61, retrainCause := 2 })), by decide +kernel⟩⟩

theorem test_meets_lane_errors_retrain_2 :
    (∃ (lane : Nat) (s : State), lane < 64 ∧ laneUp s.dev lane = true ∧ 3 ≤ dget (R.LANE_RETRAINS lane) s.dev) ∧
    (∃ (lane t : Nat) (s : State), lane < 64 ∧ laneUp s.dev lane = true ∧ (laneOf s.dev lane).cleanFrom = some t) :=
  ⟨⟨63, (up [(R.LANE_STATE 63, 2), (R.LANE_RETRAINS 63, 3)]), by decide +kernel⟩,
   ⟨63, 4, (up [(R.LANE_STATE 63, 2)] fun d => { d with lanes := [(63, { laneOf d 63 with cleanFrom := some 4 })] }), by decide +kernel⟩⟩

theorem test_meets_lane_monitors_and_tests_1 :
    (∃ (p b : Nat), p < 16 ∧ b < 256) ∧
    (∃ (lane h w : Nat), lane < 64 ∧ h < 65536 ∧ w < 256) ∧
    (∃ (lane : Nat) (delta : Int) (s : State), lane < 64 ∧ -64 ≤ delta ∧ delta ≤ 64 ∧ laneUp s.dev lane = true ∧ dget (R.ADAPT_HOLD lane) s.dev = 0 ∧ ((∀ t, (laneOf s.dev lane).adaptAt = some t → t + 10 * acPerUs ≤ s.dev.now))) ∧
    (∃ (lane : Nat) (delta : Int) (s : State), lane < 64 ∧ -64 ≤ delta ∧ delta ≤ 64 ∧ dget (R.ADAPT_HOLD lane) s.dev = 1) ∧
    (∃ (c lane v : Nat) (s : State), Asks c s.dev ∧ lane < 64 ∧ v < 2 ∧ s.dev.pins.testEn = true) ∧
    (∃ (lane v : Nat) (s : State), Asks 0 s.dev ∧ lane < 64 ∧ v < 2 ∧ s.dev.pins.testEn = false) :=
  ⟨⟨15, 255, by decide +kernel⟩,
   ⟨63, 65535, 255, by decide +kernel⟩,
   ⟨63, (-64), (up [(R.LANE_STATE 63, 2)]), by decide +kernel⟩,
   ⟨63, 64, (up [(R.ADAPT_HOLD 63, 1)]), by decide +kernel⟩,
   ⟨0, 63, 1, (up [] testHigh), by unfold Asks; decide +kernel, by decide +kernel⟩,
   ⟨63, 1, (up []), by unfold Asks; decide +kernel, by decide +kernel⟩⟩

theorem test_meets_lane_monitors_and_tests_2 :
    (∃ (c lane v : Nat) (s : State), Asks c s.dev ∧ lane < 64 ∧ 1 ≤ v ∧ v < 6 ∧ ownerRuns s.dev .lanePort (R.PRBS_MODE lane).key = false) ∧
    (∃ (c lane v : Nat) (s : State), Asks c s.dev ∧ lane < 64 ∧ (v = 0 ∨ (10 ≤ v ∧ v ≤ 40)) ∧ s.dev.pins.testEn = true) ∧
    (∃ (c lane : Nat) (s : State), Asks c s.dev ∧ lane < 64 ∧ s.dev.pins.testEn = true ∧ dget (R.LANE_STATE lane) s.dev = 5) ∧
    (∃ (c lane : Nat) (s : State), Asks c s.dev ∧ lane < 64 ∧ dget (R.LANE_STATE lane) s.dev ≠ 5 ∧ ownerRuns s.dev .lanePort (R.PRBS_MODE lane).key = false) :=
  ⟨⟨0, 63, 5, (up []), by unfold Asks; decide +kernel, by decide +kernel⟩,
   ⟨0, 63, 40, (up [] testHigh), by unfold Asks; decide +kernel, by decide +kernel⟩,
   ⟨0, 63, (up [(R.LANE_STATE 63, 5)] testHigh), by unfold Asks; decide +kernel, by decide +kernel⟩,
   ⟨0, 63, (up [(R.LANE_STATE 63, 2)]), by unfold Asks; decide +kernel, by decide +kernel⟩⟩

theorem test_meets_frame_grid_events :
    (∃ (s : State), running s.dev = true) ∧
    (∃ (s : State), running s.dev = true ∧ s.dev.grid.nextT = s.dev.grid.nextB) ∧
    (∃ (n y t : Nat) (d : Dev), d.grid.fpNext = some (n, t) ∧ (frameOf d n).fpDigest = some y) ∧
    (∃ (phi : List Int) (bad : List Nat) (s : State), ((∀ x ∈ phi, -32768 ≤ x ∧ x < 32768)) ∧ ((∀ l ∈ bad, l < 256)) ∧ running s.dev = true ∧ s.dev.grid.nextT < s.dev.grid.nextB ∧ s.dev.grid.stopReq = false) ∧
    (∃ (phi : List Int) (bad : List Nat) (s : State), ((∀ x ∈ phi, -32768 ≤ x ∧ x < 32768)) ∧ ((∀ l ∈ bad, l < 256)) ∧ running s.dev = true ∧ s.dev.grid.nextT < s.dev.grid.nextB ∧ s.dev.grid.stopReq = true) ∧
    (∃ (core x y : Nat) (s : State), core < 51200 ∧ core % 256 < 128 ∧ actsAs s.dev core = some (x, y) ∧ s.dev.grid.nextT ≠ 0 ∧ coresOn s.dev = true ∧ (coreOf s.dev core).lastRing ≠ some (s.dev.grid.endF.getD (curFrame s.dev))) :=
  ⟨⟨(on [] fun d => modCtl (fun x => { x with rwlNew := [(0x240001, some 3)], groups := [(0x4000003, ⟨2, 1, [(3, some 4)], false, 0⟩)] }) d), by decide +kernel⟩,
   ⟨(on [] fun d => { d with grid := { d.grid with nextT := 3, fpNext := some (1, 7) } }), by decide +kernel⟩,
   ⟨2, 9, 7, ((on [] fun d => modFrame 2 (fun f => { f with fpDigest := some 9 }) { d with grid := { d.grid with fpNext := some (2, 7) } }).dev), by decide +kernel⟩,
   ⟨[5], [255], (on [] fun d => { d with trig := { d.trig with unlatchNew := 1 } }), by decide +kernel⟩,
   ⟨[], [], (on [] fun d => { d with grid := { d.grid with stopReq := true } }), by decide +kernel⟩,
   ⟨0, 0, 0, (on []), by decide +kernel⟩⟩

theorem test_meets_clocks_and_edges_1 :
    (∃ (p t : Nat) (m : Int) (s : State), p < 16 ∧ -128 ≤ m ∧ m < 128 ∧ running s.dev = true ∧ dget (R.FE_STATE p) s.dev = 5 ∧ (portOf s.dev p).presentFrom = none ∧ (portOf s.dev p).phase = none ∧ (t - s.dev.grid.edge) % 24 = 0) ∧
    (∃ (p t : Nat) (m : Int) (s : State), p < 16 ∧ -128 ≤ m ∧ m < 128 ∧ running s.dev = true ∧ (t - s.dev.grid.edge) % 24 ≠ 0) ∧
    (∃ (s : State), dget R.CLOCK_REF_PORT s.dev ≠ 0xFF) ∧
    (∃ (s : State), dget R.CLOCK_REF_PORT s.dev = 0xFF) ∧
    (∃ (die : Nat), die < 2) ∧
    (∃ (k t : Nat) (rising : Bool) (s : State), k < 32 ∧ running s.dev = true ∧ s.dev.grid.edge ≤ t / 256 ∧ (dget (R.EDGE_CONFIG k) s.dev = (if rising then 1 else 2) ∨ dget (R.EDGE_CONFIG k) s.dev = 3) ∧ ((∀ u, (tget EdgeIn.rest s.dev.edges k).lastAt = some u → 1024 ≤ t - u)) ∧ (frameOf s.dev ((t - s.dev.grid.b0 * 256) / (fLen s.dev * 256))).paused = false) :=
  ⟨⟨15, 924, (-128), (on [(R.FE_STATE 15, 5)]), by decide +kernel⟩,
   ⟨15, 925, 127, (on []), by decide +kernel⟩,
   ⟨(up [(R.CLOCK_REF_PORT, 3)]), by decide +kernel⟩,
   ⟨(up []), by decide +kernel⟩,
   ⟨1, by decide +kernel⟩,
   ⟨31, 300000, true, (on [(R.EDGE_CONFIG 31, 1)]), by decide +kernel⟩⟩

theorem test_meets_clocks_and_edges_2 :
    (∃ (k t : Nat) (rising : Bool) (s : State), k < 32 ∧ running s.dev = true ∧ s.dev.grid.edge ≤ t / 256 ∧ (dget (R.EDGE_CONFIG k) s.dev = (if rising then 1 else 2) ∨ dget (R.EDGE_CONFIG k) s.dev = 3) ∧ ((∀ u, (tget EdgeIn.rest s.dev.edges k).lastAt = some u → 1024 ≤ t - u)) ∧ (frameOf s.dev ((t - s.dev.grid.b0 * 256) / (fLen s.dev * 256))).paused = true) ∧
    (∃ (k t u : Nat) (rising : Bool) (s : State), k < 32 ∧ running s.dev = true ∧ s.dev.grid.edge ≤ t / 256 ∧ (dget (R.EDGE_CONFIG k) s.dev = (if rising then 1 else 2) ∨ dget (R.EDGE_CONFIG k) s.dev = 3) ∧ (tget EdgeIn.rest s.dev.edges k).lastAt = some u ∧ t - u < 1024 ∧ (tget EdgeIn.rest s.dev.edges k).close = true) ∧
    (∃ (k : Nat) (s : State), k < 32 ∧ dget (R.EDGE_CONFIG k) s.dev = 0) ∧
    (∃ (c kind : Nat) (s : State), c < 1024 ∧ kind < 2 ∧ (chanOf s.dev c).retired = true) ∧
    (∃ (c kind : Nat) (s : State), c < 1024 ∧ kind < 2 ∧ (chanOf s.dev c).retired = false) :=
  ⟨⟨31, 300000, true, (on [(R.EDGE_CONFIG 31, 1)] fun d => modFrame ((300000 - d.grid.b0 * 256) / (fLen d * 256)) (fun f => { f with paused := true }) d), by decide +kernel⟩,
   ⟨31, 300000, 299999, true, (on [(R.EDGE_CONFIG 31, 3)] fun d => { d with edges := [(31, { EdgeIn.rest with lastAt := some 299999, close := true })] }), by decide +kernel⟩,
   ⟨31, (on []), by decide +kernel⟩,
   ⟨0, 0, (on [] fun d => setChan 0 { Chan.rest with retired := true } d), by decide +kernel⟩,
   ⟨1023, 1, (on []), by decide +kernel⟩⟩

theorem test_meets_firing_rule_1 :
    (∃ (o : (Nat → List Upset → Instr) × (Nat → Bool)) (key t : Nat) (k : Cand) (s : State), o ∈ coreOps ∧ Issues o.2 key t k s.dev ∧ opOf k.word ≠ 0x04) ∧
    (∃ (o : (Nat → List Upset → Instr) × (Nat → Bool)) (key : Nat) (s : State), o ∈ coreOps ∧ coreKey key = true ∧ ((coresOn s.dev = false ∨ coreRuns s.dev key = false ∨ ∀ t k, pick (coreOf s.dev key) (issueFrom key s.dev) = some (t, k) → o.2 k.word = false))) ∧
    (∃ (o : (Nat → List Upset → Instr) × (Nat → Bool)) (key t : Nat) (k : Cand) (up : List Upset) (s : State), o ∈ coreOps ∧ Issues o.2 key t k s.dev ∧ ((∀ u ∈ up, u.double = false))) ∧
    (∃ (o : (Nat → List Upset → Instr) × (Nat → Bool)) (key t : Nat) (k : Cand) (u : Upset) (s : State), o ∈ coreOps ∧ Issues o.2 key t k s.dev ∧ key < 65536 ∧ u.double = true ∧ (sramReads (coreOf s.dev key) k).contains (u.mem, u.word) = true ∧ s.dev.flt.dev = none ∧ dget R.RESTART_STATE s.dev = 0) ∧
    (∃ (o : (Nat → List Upset → Instr) × (Nat → Bool)) (key t : Nat) (k : Cand) (s : State), o ∈ coreOps ∧ Issues o.2 key t k s.dev ∧ opOf k.word ≠ 0x04) ∧
    (∃ (o : (Nat → List Upset → Instr) × (Nat → Bool)) (key t : Nat) (k : Cand) (s : State), o ∈ coreOps ∧ Issues o.2 key t k s.dev ∧ opOf k.word ≠ 0x04) :=
  ⟨⟨((.nop, isOp 0x00)), 0, ((candAt (opAt (opW 0))).1), ((candAt (opAt (opW 0))).2), ((opAt (opW 0))), by unfold coreOps; repeat (first | exact .head _ | apply List.Mem.tail), by unfold Issues; decide +kernel, by decide +kernel⟩,
   ⟨((.lutmac, isOp 0x01)), 0, ((opAt (opW 0) id fun d => dset R.POWER_STATE 2 d)), by unfold coreOps; repeat (first | exact .head _ | apply List.Mem.tail), by decide +kernel, .inl (by decide +kernel)⟩,
   ⟨((.nop, isOp 0x00)), 0, ((candAt (opAt (opW 0))).1), ((candAt (opAt (opW 0))).2), [⟨0, 0, false⟩, ⟨2, 4095, false⟩], ((opAt (opW 0))), by unfold coreOps; repeat (first | exact .head _ | apply List.Mem.tail), by unfold Issues; decide +kernel, by decide +kernel⟩,
   ⟨((.nop, isOp 0x00)), 0, ((candAt (opAt (opW 0))).1), ((candAt (opAt (opW 0))).2), ⟨0, 0, true⟩, ((opAt (opW 0))), by unfold coreOps; repeat (first | exact .head _ | apply List.Mem.tail), by unfold Issues; decide +kernel, by decide +kernel⟩,
   ⟨((.lutmac, isOp 0x01)), 0, ((candAt (opAt (opW 0x01 [(7, 49)]) fun c => { c with slots := [⟨⟨99, 0, true⟩, 2, 1⟩], sreg := [(2, ⟨5, false, 255, false⟩)] })).1), ((candAt (opAt (opW 0x01 [(7, 49)]) fun c => { c with slots := [⟨⟨99, 0, true⟩, 2, 1⟩], sreg := [(2, ⟨5, false, 255, false⟩)] })).2), ((opAt (opW 0x01 [(7, 49)]) fun c => { c with slots := [⟨⟨99, 0, true⟩, 2, 1⟩], sreg := [(2, ⟨5, false, 255, false⟩)] })), by unfold coreOps; repeat (first | exact .head _ | apply List.Mem.tail), by unfold Issues; decide +kernel, by decide +kernel⟩,
   ⟨((.omac, isOp 0x02)), 0, ((candAt (opAt (opW 0x02 [(7, 49)]) fun c => { c with slots := [⟨⟨99, 0, true⟩, 2, 1⟩], sreg := [(2, ⟨5, false, 255, false⟩)] })).1), ((candAt (opAt (opW 0x02 [(7, 49)]) fun c => { c with slots := [⟨⟨99, 0, true⟩, 2, 1⟩], sreg := [(2, ⟨5, false, 255, false⟩)] })).2), ((opAt (opW 0x02 [(7, 49)]) fun c => { c with slots := [⟨⟨99, 0, true⟩, 2, 1⟩], sreg := [(2, ⟨5, false, 255, false⟩)] })), by unfold coreOps; repeat (first | exact .head _ | apply List.Mem.tail), by unfold Issues; decide +kernel, by decide +kernel⟩⟩

theorem test_meets_firing_rule_2 :
    (∃ (o : (Nat → List Upset → Instr) × (Nat → Bool)) (key t : Nat) (k : Cand) (s : State), o ∈ coreOps ∧ Issues o.2 key t k s.dev ∧ opOf k.word ≠ 0x04) ∧
    (∃ (o : (Nat → List Upset → Instr) × (Nat → Bool)) (key t : Nat) (k : Cand) (s : State), o ∈ coreOps ∧ Issues o.2 key t k s.dev ∧ opOf k.word ≠ 0x04) ∧
    (∃ (o : (Nat → List Upset → Instr) × (Nat → Bool)) (key t : Nat) (k : Cand) (s : State), o ∈ coreOps ∧ Issues o.2 key t k s.dev ∧ opOf k.word ≠ 0x04) ∧
    (∃ (o : (Nat → List Upset → Instr) × (Nat → Bool)) (key t : Nat) (k : Cand) (s : State), o ∈ coreOps ∧ Issues o.2 key t k s.dev ∧ opOf k.word ≠ 0x04) ∧
    (∃ (o : (Nat → List Upset → Instr) × (Nat → Bool)) (key t : Nat) (k : Cand) (s : State), o ∈ coreOps ∧ Issues o.2 key t k s.dev ∧ opOf k.word ≠ 0x04) ∧
    (∃ (o : (Nat → List Upset → Instr) × (Nat → Bool)) (key t : Nat) (k : Cand) (s : State), o ∈ coreOps ∧ Issues o.2 key t k s.dev ∧ opOf k.word ≠ 0x04) :=
  ⟨⟨((.zcorr, isOp 0x03)), 0, ((candAt (opAt (opW 0x03 [(5, 43)]) fun c => { c with slots := [⟨⟨99, 0, true⟩, 2, 1⟩], sreg := [(2, ⟨5, false, 255, false⟩)] })).1), ((candAt (opAt (opW 0x03 [(5, 43)]) fun c => { c with slots := [⟨⟨99, 0, true⟩, 2, 1⟩], sreg := [(2, ⟨5, false, 255, false⟩)] })).2), ((opAt (opW 0x03 [(5, 43)]) fun c => { c with slots := [⟨⟨99, 0, true⟩, 2, 1⟩], sreg := [(2, ⟨5, false, 255, false⟩)] })), by unfold coreOps; repeat (first | exact .head _ | apply List.Mem.tail), by unfold Issues; decide +kernel, by decide +kernel⟩,
   ⟨((.rescale, isOp 0x05)), 0, ((candAt (opAt (opW 0x05 [(1, 27)]) fun c => { c with slots := [⟨⟨99, 0, true⟩, 2, 1⟩], sreg := [(2, ⟨5, false, 255, false⟩)] })).1), ((candAt (opAt (opW 0x05 [(1, 27)]) fun c => { c with slots := [⟨⟨99, 0, true⟩, 2, 1⟩], sreg := [(2, ⟨5, false, 255, false⟩)] })).2), ((opAt (opW 0x05 [(1, 27)]) fun c => { c with slots := [⟨⟨99, 0, true⟩, 2, 1⟩], sreg := [(2, ⟨5, false, 255, false⟩)] })), by unfold coreOps; repeat (first | exact .head _ | apply List.Mem.tail), by unfold Issues; decide +kernel, by decide +kernel⟩,
   ⟨((.actlut, isOp 0x06)), 0, ((candAt (opAt (opW 0x06) fun c => { c with slots := [⟨⟨99, 0, true⟩, 2, 1⟩], sreg := [(2, ⟨5, false, 255, false⟩)] })).1), ((candAt (opAt (opW 0x06) fun c => { c with slots := [⟨⟨99, 0, true⟩, 2, 1⟩], sreg := [(2, ⟨5, false, 255, false⟩)] })).2), ((opAt (opW 0x06) fun c => { c with slots := [⟨⟨99, 0, true⟩, 2, 1⟩], sreg := [(2, ⟨5, false, 255, false⟩)] })), by unfold coreOps; repeat (first | exact .head _ | apply List.Mem.tail), by unfold Issues; decide +kernel, by decide +kernel⟩,
   ⟨((.stateRead, isState false)), 0, ((candAt (opAt (opW 0x07 [(2, 47), (3, 45), (28, 40)]) fun c => { c with slots := [⟨⟨99, 0, true⟩, 2, 1⟩], sreg := [(2, ⟨5, false, 255, false⟩)] })).1), ((candAt (opAt (opW 0x07 [(2, 47), (3, 45), (28, 40)]) fun c => { c with slots := [⟨⟨99, 0, true⟩, 2, 1⟩], sreg := [(2, ⟨5, false, 255, false⟩)] })).2), ((opAt (opW 0x07 [(2, 47), (3, 45), (28, 40)]) fun c => { c with slots := [⟨⟨99, 0, true⟩, 2, 1⟩], sreg := [(2, ⟨5, false, 255, false⟩)] })), by unfold coreOps; repeat (first | exact .head _ | apply List.Mem.tail), by unfold Issues; decide +kernel, by decide +kernel⟩,
   ⟨((.stateWrite, isState true)), 0, ((candAt (opAt (opW 0x07 [(1, 51), (2, 47), (3, 45), (28, 40)]) fun c => { c with slots := [⟨⟨99, 0, true⟩, 2, 1⟩], sreg := [(2, ⟨5, false, 255, false⟩)] })).1), ((candAt (opAt (opW 0x07 [(1, 51), (2, 47), (3, 45), (28, 40)]) fun c => { c with slots := [⟨⟨99, 0, true⟩, 2, 1⟩], sreg := [(2, ⟨5, false, 255, false⟩)] })).2), ((opAt (opW 0x07 [(1, 51), (2, 47), (3, 45), (28, 40)]) fun c => { c with slots := [⟨⟨99, 0, true⟩, 2, 1⟩], sreg := [(2, ⟨5, false, 255, false⟩)] })), by unfold coreOps; repeat (first | exact .head _ | apply List.Mem.tail), by unfold Issues; decide +kernel, by decide +kernel⟩,
   ⟨((.send, isOp 0x08)), 0, ((candAt (opAt (opW 0x08 [(64, 45)]) fun c => { c with slots := [⟨⟨99, 0, true⟩, 2, 1⟩], sreg := [(2, ⟨5, false, 255, false⟩)] })).1), ((candAt (opAt (opW 0x08 [(64, 45)]) fun c => { c with slots := [⟨⟨99, 0, true⟩, 2, 1⟩], sreg := [(2, ⟨5, false, 255, false⟩)] })).2), ((opAt (opW 0x08 [(64, 45)]) fun c => { c with slots := [⟨⟨99, 0, true⟩, 2, 1⟩], sreg := [(2, ⟨5, false, 255, false⟩)] })), by unfold coreOps; repeat (first | exact .head _ | apply List.Mem.tail), by unfold Issues; decide +kernel, by decide +kernel⟩⟩

theorem test_meets_firing_rule_3 :
    (∃ (o : (Nat → List Upset → Instr) × (Nat → Bool)) (key t : Nat) (k : Cand) (s : State), o ∈ coreOps ∧ Issues o.2 key t k s.dev ∧ opOf k.word ≠ 0x04) ∧
    (∃ (o : (Nat → List Upset → Instr) × (Nat → Bool)) (key t : Nat) (k : Cand) (s : State), o ∈ coreOps ∧ Issues o.2 key t k s.dev ∧ opOf k.word ≠ 0x04) ∧
    (∃ (o : (Nat → List Upset → Instr) × (Nat → Bool)) (key t : Nat) (k : Cand) (s : State), o ∈ coreOps ∧ Issues o.2 key t k s.dev ∧ opOf k.word ≠ 0x04) ∧
    (∃ (o : (Nat → List Upset → Instr) × (Nat → Bool)) (key t : Nat) (k : Cand) (s : State), o ∈ coreOps ∧ Issues o.2 key t k s.dev ∧ opOf k.word ≠ 0x04) ∧
    (∃ (o : (Nat → List Upset → Instr) × (Nat → Bool)) (key t : Nat) (k : Cand) (s : State), o ∈ coreOps ∧ Issues o.2 key t k s.dev ∧ opOf k.word ≠ 0x04) ∧
    (∃ (o : (Nat → List Upset → Instr) × (Nat → Bool)) (key t : Nat) (k : Cand) (s : State), o ∈ coreOps ∧ Issues o.2 key t k s.dev ∧ opOf k.word ≠ 0x04) :=
  ⟨⟨((.recv, isOp 0x09)), 0, ((candAt (opAt (opW 0x09 [(2, 49), (7, 43)]) fun c => { c with slots := [⟨⟨99, 0, true⟩, 2, 1⟩], sreg := [(2, ⟨5, false, 255, false⟩)] })).1), ((candAt (opAt (opW 0x09 [(2, 49), (7, 43)]) fun c => { c with slots := [⟨⟨99, 0, true⟩, 2, 1⟩], sreg := [(2, ⟨5, false, 255, false⟩)] })).2), ((opAt (opW 0x09 [(2, 49), (7, 43)]) fun c => { c with slots := [⟨⟨99, 0, true⟩, 2, 1⟩], sreg := [(2, ⟨5, false, 255, false⟩)] })), by unfold coreOps; repeat (first | exact .head _ | apply List.Mem.tail), by unfold Issues; decide +kernel, by decide +kernel⟩,
   ⟨((.reduce, isOp 0x0A)), 0, ((candAt (opAt (opW 0x0A [(2, 49), (7, 45)]) fun c => { c with slots := [⟨⟨99, 0, true⟩, 2, 1⟩], sreg := [(2, ⟨5, false, 255, false⟩)] })).1), ((candAt (opAt (opW 0x0A [(2, 49), (7, 45)]) fun c => { c with slots := [⟨⟨99, 0, true⟩, 2, 1⟩], sreg := [(2, ⟨5, false, 255, false⟩)] })).2), ((opAt (opW 0x0A [(2, 49), (7, 45)]) fun c => { c with slots := [⟨⟨99, 0, true⟩, 2, 1⟩], sreg := [(2, ⟨5, false, 255, false⟩)] })), by unfold coreOps; repeat (first | exact .head _ | apply List.Mem.tail), by unfold Issues; decide +kernel, by decide +kernel⟩,
   ⟨((.cmp, isOp 0x0B)), 0, ((candAt (opAt (opW 0x0B) fun c => { c with slots := [⟨⟨99, 0, true⟩, 2, 1⟩], sreg := [(2, ⟨5, false, 255, false⟩)] })).1), ((candAt (opAt (opW 0x0B) fun c => { c with slots := [⟨⟨99, 0, true⟩, 2, 1⟩], sreg := [(2, ⟨5, false, 255, false⟩)] })).2), ((opAt (opW 0x0B) fun c => { c with slots := [⟨⟨99, 0, true⟩, 2, 1⟩], sreg := [(2, ⟨5, false, 255, false⟩)] })), by unfold coreOps; repeat (first | exact .head _ | apply List.Mem.tail), by unfold Issues; decide +kernel, by decide +kernel⟩,
   ⟨((.sel, isOp 0x0C)), 0, ((candAt (opAt (opW 0x0C) fun c => { c with slots := [⟨⟨99, 0, true⟩, 2, 1⟩], sreg := [(2, ⟨5, false, 255, false⟩)] })).1), ((candAt (opAt (opW 0x0C) fun c => { c with slots := [⟨⟨99, 0, true⟩, 2, 1⟩], sreg := [(2, ⟨5, false, 255, false⟩)] })).2), ((opAt (opW 0x0C) fun c => { c with slots := [⟨⟨99, 0, true⟩, 2, 1⟩], sreg := [(2, ⟨5, false, 255, false⟩)] })), by unfold coreOps; repeat (first | exact .head _ | apply List.Mem.tail), by unfold Issues; decide +kernel, by decide +kernel⟩,
   ⟨((.maxp, isOp 0x0D)), 0, ((candAt (opAt (opW 0x0D) fun c => { c with slots := [⟨⟨99, 0, true⟩, 2, 1⟩], sreg := [(2, ⟨5, false, 255, false⟩)] })).1), ((candAt (opAt (opW 0x0D) fun c => { c with slots := [⟨⟨99, 0, true⟩, 2, 1⟩], sreg := [(2, ⟨5, false, 255, false⟩)] })).2), ((opAt (opW 0x0D) fun c => { c with slots := [⟨⟨99, 0, true⟩, 2, 1⟩], sreg := [(2, ⟨5, false, 255, false⟩)] })), by unfold coreOps; repeat (first | exact .head _ | apply List.Mem.tail), by unfold Issues; decide +kernel, by decide +kernel⟩,
   ⟨((.movRegisterRun, isMode 0x0E 0)), 0, ((candAt (opAt (opW 0x0E) fun c => { c with slots := [⟨⟨99, 0, true⟩, 2, 1⟩], sreg := [(2, ⟨5, false, 255, false⟩)] })).1), ((candAt (opAt (opW 0x0E) fun c => { c with slots := [⟨⟨99, 0, true⟩, 2, 1⟩], sreg := [(2, ⟨5, false, 255, false⟩)] })).2), ((opAt (opW 0x0E) fun c => { c with slots := [⟨⟨99, 0, true⟩, 2, 1⟩], sreg := [(2, ⟨5, false, 255, false⟩)] })), by unfold coreOps; repeat (first | exact .head _ | apply List.Mem.tail), by unfold Issues; decide +kernel, by decide +kernel⟩⟩

theorem test_meets_firing_rule_4 :
    (∃ (o : (Nat → List Upset → Instr) × (Nat → Bool)) (key t : Nat) (k : Cand) (s : State), o ∈ coreOps ∧ Issues o.2 key t k s.dev ∧ opOf k.word ≠ 0x04) ∧
    (∃ (o : (Nat → List Upset → Instr) × (Nat → Bool)) (key t : Nat) (k : Cand) (s : State), o ∈ coreOps ∧ Issues o.2 key t k s.dev ∧ opOf k.word ≠ 0x04) ∧
    (∃ (o : (Nat → List Upset → Instr) × (Nat → Bool)) (key t : Nat) (k : Cand) (s : State), o ∈ coreOps ∧ Issues o.2 key t k s.dev ∧ opOf k.word ≠ 0x04) ∧
    (∃ (o : (Nat → List Upset → Instr) × (Nat → Bool)) (key t : Nat) (k : Cand) (s : State), o ∈ coreOps ∧ Issues o.2 key t k s.dev ∧ opOf k.word ≠ 0x04) ∧
    (∃ (o : (Nat → List Upset → Instr) × (Nat → Bool)) (key t : Nat) (k : Cand) (s : State), o ∈ coreOps ∧ Issues o.2 key t k s.dev ∧ opOf k.word ≠ 0x04) ∧
    (∃ (o : (Nat → List Upset → Instr) × (Nat → Bool)) (key t : Nat) (k : Cand) (s : State), o ∈ coreOps ∧ Issues o.2 key t k s.dev ∧ opOf k.word ≠ 0x04) :=
  ⟨⟨((.movImmediate, isMode 0x0E 1)), 0, ((candAt (opAt (opW 0x0E [(1, 50)]) fun c => { c with slots := [⟨⟨99, 0, true⟩, 2, 1⟩], sreg := [(2, ⟨5, false, 255, false⟩)] })).1), ((candAt (opAt (opW 0x0E [(1, 50)]) fun c => { c with slots := [⟨⟨99, 0, true⟩, 2, 1⟩], sreg := [(2, ⟨5, false, 255, false⟩)] })).2), ((opAt (opW 0x0E [(1, 50)]) fun c => { c with slots := [⟨⟨99, 0, true⟩, 2, 1⟩], sreg := [(2, ⟨5, false, 255, false⟩)] })), by unfold coreOps; repeat (first | exact .head _ | apply List.Mem.tail), by unfold Issues; decide +kernel, by decide +kernel⟩,
   ⟨((.movClearAccumulators, isMode 0x0E 2)), 0, ((candAt (opAt (opW 0x0E [(2, 50)]) fun c => { c with slots := [⟨⟨99, 0, true⟩, 2, 1⟩], sreg := [(2, ⟨5, false, 255, false⟩)] })).1), ((candAt (opAt (opW 0x0E [(2, 50)]) fun c => { c with slots := [⟨⟨99, 0, true⟩, 2, 1⟩], sreg := [(2, ⟨5, false, 255, false⟩)] })).2), ((opAt (opW 0x0E [(2, 50)]) fun c => { c with slots := [⟨⟨99, 0, true⟩, 2, 1⟩], sreg := [(2, ⟨5, false, 255, false⟩)] })), by unfold coreOps; repeat (first | exact .head _ | apply List.Mem.tail), by unfold Issues; decide +kernel, by decide +kernel⟩,
   ⟨((.ldw, isOp 0x0F)), 0, ((candAt (opAt (opW 0x0F) fun c => { c with slots := [⟨⟨99, 0, true⟩, 2, 1⟩], sreg := [(2, ⟨5, false, 255, false⟩)] })).1), ((candAt (opAt (opW 0x0F) fun c => { c with slots := [⟨⟨99, 0, true⟩, 2, 1⟩], sreg := [(2, ⟨5, false, 255, false⟩)] })).2), ((opAt (opW 0x0F) fun c => { c with slots := [⟨⟨99, 0, true⟩, 2, 1⟩], sreg := [(2, ⟨5, false, 255, false⟩)] })), by unfold coreOps; repeat (first | exact .head _ | apply List.Mem.tail), by unfold Issues; decide +kernel, by decide +kernel⟩,
   ⟨((.waitCount, isMode 0x10 0)), 0, ((candAt (opAt (opW 0x10) fun c => { c with slots := [⟨⟨99, 0, true⟩, 2, 1⟩], sreg := [(2, ⟨5, false, 255, false⟩)] })).1), ((candAt (opAt (opW 0x10) fun c => { c with slots := [⟨⟨99, 0, true⟩, 2, 1⟩], sreg := [(2, ⟨5, false, 255, false⟩)] })).2), ((opAt (opW 0x10) fun c => { c with slots := [⟨⟨99, 0, true⟩, 2, 1⟩], sreg := [(2, ⟨5, false, 255, false⟩)] })), by unfold coreOps; repeat (first | exact .head _ | apply List.Mem.tail), by unfold Issues; decide +kernel, by decide +kernel⟩,
   ⟨((.waitTokenPresent, isMode 0x10 1)), 0, ((candAt (opAt (opW 0x10 [(1, 50)]) fun c => { c with slots := [⟨⟨99, 0, true⟩, 2, 1⟩], sreg := [(2, ⟨5, false, 255, false⟩)] })).1), ((candAt (opAt (opW 0x10 [(1, 50)]) fun c => { c with slots := [⟨⟨99, 0, true⟩, 2, 1⟩], sreg := [(2, ⟨5, false, 255, false⟩)] })).2), ((opAt (opW 0x10 [(1, 50)]) fun c => { c with slots := [⟨⟨99, 0, true⟩, 2, 1⟩], sreg := [(2, ⟨5, false, 255, false⟩)] })), by unfold coreOps; repeat (first | exact .head _ | apply List.Mem.tail), by unfold Issues; decide +kernel, by decide +kernel⟩,
   ⟨((.waitGrowthRing, isMode 0x10 2)), 0, ((candAt (opAt (opW 0x10 [(2, 50)]) fun c => { c with slots := [⟨⟨99, 0, true⟩, 2, 1⟩], sreg := [(2, ⟨5, false, 255, false⟩)] })).1), ((candAt (opAt (opW 0x10 [(2, 50)]) fun c => { c with slots := [⟨⟨99, 0, true⟩, 2, 1⟩], sreg := [(2, ⟨5, false, 255, false⟩)] })).2), ((opAt (opW 0x10 [(2, 50)]) fun c => { c with slots := [⟨⟨99, 0, true⟩, 2, 1⟩], sreg := [(2, ⟨5, false, 255, false⟩)] })), by unfold coreOps; repeat (first | exact .head _ | apply List.Mem.tail), by unfold Issues; decide +kernel, by decide +kernel⟩⟩

theorem test_meets_firing_rule_5 :
    (∃ (o : (Nat → List Upset → Instr) × (Nat → Bool)) (key t : Nat) (k : Cand) (s : State), o ∈ coreOps ∧ Issues o.2 key t k s.dev ∧ opOf k.word ≠ 0x04) :=
  ⟨((.ring, isOp 0x11)), 0, ((candAt (opAt (opW 0x11) fun c => { c with slots := [⟨⟨99, 0, true⟩, 2, 1⟩], sreg := [(2, ⟨5, false, 255, false⟩)] })).1), ((candAt (opAt (opW 0x11) fun c => { c with slots := [⟨⟨99, 0, true⟩, 2, 1⟩], sreg := [(2, ⟨5, false, 255, false⟩)] })).2), ((opAt (opW 0x11) fun c => { c with slots := [⟨⟨99, 0, true⟩, 2, 1⟩], sreg := [(2, ⟨5, false, 255, false⟩)] })), by unfold coreOps; repeat (first | exact .head _ | apply List.Mem.tail), by unfold Issues; decide +kernel, by decide +kernel⟩

theorem test_meets_moves_and_waits_1 :
    (∃ (key t : Nat) (k : Cand) (s : State), Issues (isOp 0x00) key t k s.dev) ∧
    (∃ (key t : Nat) (k : Cand) (s : State), Issues (isMode 0x10 0) key t k s.dev) ∧
    (∃ (key t : Nat) (k : Cand) (s : State), Issues (isMode 0x10 1) key t k s.dev) ∧
    (∃ (key t : Nat) (k : Cand) (s : State), Issues (isMode 0x10 2) key t k s.dev) ∧
    (∃ (key t : Nat) (k : Cand) (s : State), Runs (isMode 0x0E 0) key t k s.dev) ∧
    (∃ (key t : Nat) (k : Cand) (s : State), Runs (isMode 0x0E 1) key t k s.dev) :=
  ⟨⟨0, ((candAt (opAt (opW 0))).1), ((candAt (opAt (opW 0))).2), ((opAt (opW 0))), by unfold Issues; decide +kernel⟩,
   ⟨0, ((candAt (opAt (opW 0x10 [(1023, 40)]))).1), ((candAt (opAt (opW 0x10 [(1023, 40)]))).2), ((opAt (opW 0x10 [(1023, 40)]))), by unfold Issues; decide +kernel⟩,
   ⟨0, ((candAt (opAt (opW 0x10 [(1, 50)]))).1), ((candAt (opAt (opW 0x10 [(1, 50)]))).2), ((opAt (opW 0x10 [(1, 50)]))), by unfold Issues; decide +kernel⟩,
   ⟨0, ((candAt (opAt (opW 0x10 [(2, 50)]))).1), ((candAt (opAt (opW 0x10 [(2, 50)]))).2), ((opAt (opW 0x10 [(2, 50)]))), by unfold Issues; decide +kernel⟩,
   ⟨0, ((candAt (opAt (opW 0x0E [(28, 45), (1, 40), (3, 38)]) fun c => { c with ar := [(2, ⟨7, true⟩)] })).1), ((candAt (opAt (opW 0x0E [(28, 45), (1, 40), (3, 38)]) fun c => { c with ar := [(2, ⟨7, true⟩)] })).2), ((opAt (opW 0x0E [(28, 45), (1, 40), (3, 38)]) fun c => { c with ar := [(2, ⟨7, true⟩)] })), by unfold Runs Issues; decide +kernel⟩,
   ⟨0, ((candAt (opAt (opW 0x0E [(1, 50), (28, 45), (3, 38), (32768, 22)]))).1), ((candAt (opAt (opW 0x0E [(1, 50), (28, 45), (3, 38), (32768, 22)]))).2), ((opAt (opW 0x0E [(1, 50), (28, 45), (3, 38), (32768, 22)]))), by unfold Runs Issues; decide +kernel⟩⟩

theorem test_meets_moves_and_waits_2 :
    (∃ (key t : Nat) (k : Cand) (s : State), Runs (isMode 0x0E 2) key t k s.dev) ∧
    (∃ (key t : Nat) (k : Cand) (s : State), Runs (isOp 0x0F) key t k s.dev) ∧
    (∃ (key t : Nat) (k : Cand) (s : State), Issues (isOp 0x0C) key t k s.dev) ∧
    (∃ (key t : Nat) (k : Cand) (s : State) (a : PReg) (b : PReg) (o : PReg), Runs (isOp 0x0B) key t k s.dev ∧ a = arOf (coreOf s.dev key) (bits k.word 51 47) ∧ b = (if bit k.word 41 then ⟨sgn 16 (bits k.word 32 17), false⟩ else arOf (coreOf s.dev key) (bits k.word 46 42)) ∧ o = predOf (coreOf s.dev key) (bits k.word 40 38) ∧ bits k.word 34 33 < 3) ∧
    (∃ (key t : Nat) (k : Cand) (s : State) (v : Nat → Int), Runs (isOp 0x0D) key t k s.dev ∧ v = (fun j => (arOf (coreOf s.dev key) (bits k.word 51 47 + j)).v)) :=
  ⟨⟨0, ((candAt (opAt (opW 0x0E [(2, 50), (1, 21)]) fun c => { c with acc := [(17, ⟨7, true⟩), (16, ⟨5, false⟩)] })).1), ((candAt (opAt (opW 0x0E [(2, 50), (1, 21)]) fun c => { c with acc := [(17, ⟨7, true⟩), (16, ⟨5, false⟩)] })).2), ((opAt (opW 0x0E [(2, 50), (1, 21)]) fun c => { c with acc := [(17, ⟨7, true⟩), (16, ⟨5, false⟩)] })), by unfold Runs Issues; decide +kernel⟩,
   ⟨0, ((candAt (opAt (opW 0x0F [(511, 43), (28, 38)]) fun c => { c with table := [(511, 0x800100020003FFFF)] })).1), ((candAt (opAt (opW 0x0F [(511, 43), (28, 38)]) fun c => { c with table := [(511, 0x800100020003FFFF)] })).2), ((opAt (opW 0x0F [(511, 43), (28, 38)]) fun c => { c with table := [(511, 0x800100020003FFFF)] })), by unfold Runs Issues; decide +kernel⟩,
   ⟨0, ((candAt (opAt (opW 0x0C [(3, 47), (6, 42), (28, 37), (3, 35)]) fun c => { c with ar := [(3, ⟨5, true⟩), (6, ⟨9, false⟩)] })).1), ((candAt (opAt (opW 0x0C [(3, 47), (6, 42), (28, 37), (3, 35)]) fun c => { c with ar := [(3, ⟨5, true⟩), (6, ⟨9, false⟩)] })).2), ((opAt (opW 0x0C [(3, 47), (6, 42), (28, 37), (3, 35)]) fun c => { c with ar := [(3, ⟨5, true⟩), (6, ⟨9, false⟩)] })), by unfold Issues; decide +kernel⟩,
   ⟨0, ((candAt (opAt (opW 0x0B [(3, 47), (1, 41), (7, 38), (2, 35), (2, 33), (0x8000, 17)]))).1), ((candAt (opAt (opW 0x0B [(3, 47), (1, 41), (7, 38), (2, 35), (2, 33), (0x8000, 17)]))).2), ((opAt (opW 0x0B [(3, 47), (1, 41), (7, 38), (2, 35), (2, 33), (0x8000, 17)]))), ⟨0, false⟩, ⟨sgn 16 0x8000, false⟩, ⟨0, false⟩, by unfold Runs Issues; decide +kernel, rfl, rfl, rfl, by decide +kernel⟩,
   ⟨0, ((candAt (opAt (opW 0x0D [(0, 47), (7, 42), (30, 37), (1, 36)]) fun c => { c with ar := [(3, ⟨5, false⟩), (6, ⟨5, true⟩)] })).1), ((candAt (opAt (opW 0x0D [(0, 47), (7, 42), (30, 37), (1, 36)]) fun c => { c with ar := [(3, ⟨5, false⟩), (6, ⟨5, true⟩)] })).2), ((opAt (opW 0x0D [(0, 47), (7, 42), (30, 37), (1, 36)]) fun c => { c with ar := [(3, ⟨5, false⟩), (6, ⟨5, true⟩)] })), (fun j => (arOf (coreOf (opAt (opW 0x0D [(0, 47), (7, 42), (30, 37), (1, 36)]) fun c => { c with ar := [(3, ⟨5, false⟩), (6, ⟨5, true⟩)] }).dev 0) (bits (candAt (opAt (opW 0x0D [(0, 47), (7, 42), (30, 37), (1, 36)]) fun c => { c with ar := [(3, ⟨5, false⟩), (6, ⟨5, true⟩)] })).2.word 51 47 + j)).v), by unfold Runs Issues; decide +kernel, rfl⟩⟩

theorem test_meets_mac_operations :
    (∃ (key t : Nat) (k : Cand) (s : State) (x : IssueArgs) (c : Core) (m : Core), Runs (isOp 0x01) key t k s.dev ∧ x = argsOf key t k s.dev ∧ c = coreOf s.dev key ∧ m = macCore k c) ∧
    (∃ (key t : Nat) (k : Cand) (s : State) (x : IssueArgs) (c : Core) (m : Core), Runs (isOp 0x02) key t k s.dev ∧ x = argsOf key t k s.dev ∧ c = coreOf s.dev key ∧ m = macCore k c) ∧
    (∃ (key t : Nat) (k : Cand) (s : State) (c : Core) (m : Core), Runs (isOp 0x03) key t k s.dev ∧ c = coreOf s.dev key ∧ m = macCore k c) ∧
    (∃ (key t : Nat) (k : Cand) (s : State) (c : Core) (m : Core) (lane : Nat → Int × Nat), Runs (isOp 0x04) key t k s.dev ∧ c = coreOf s.dev key ∧ m = macCore k c ∧ closeDiffers k c = false ∧ lane = (fun j => accAdd (closeLane k c j).2.v (closeLane k c j).1 (closePoison k c))) ∧
    (∃ (key t : Nat) (k : Cand) (s : State) (frame : Nat) (fs : List Nat), Runs (isOp 0x04) key t k s.dev ∧ closeDiffers k (coreOf s.dev key) = true ∧ frame = (argsOf key t k s.dev).frame ∧ fs = skewWith frame (coreOf s.dev key).skewed ∧ ((∀ f ∈ fs, ¬ (f + 1 ∈ fs ∧ f + 2 ∈ fs))) ∧ s.dev.grid.nextIssue ≤ frame) ∧
    (∃ (key t : Nat) (k : Cand) (s : State) (frame : Nat), Runs (isOp 0x04) key t k s.dev ∧ closeDiffers k (coreOf s.dev key) = true ∧ frame = (argsOf key t k s.dev).frame ∧ frame + 1 ∈ (coreOf s.dev key).skewed.take 31 ∧ frame + 2 ∈ (coreOf s.dev key).skewed.take 31 ∧ key < 65536 ∧ s.dev.flt.dev = none ∧ dget R.RESTART_STATE s.dev = 0) :=
  ⟨⟨0, ((candAt (opAt (opW 0x01 [(7, 49), (2, 38), (1, 31), (1, 25), (3, 18), (1, 16)]) fun c => { c with ar := [(0, ⟨5, false⟩), (1, ⟨-3, true⟩), (2, ⟨-32768, false⟩)], acc := [(16, ⟨2 ^ 39 - 1, false⟩)], weight := [(32, 0x123456789ABCDEF0), (33, 5), (34, 0xFFFFFFFFFFFFFFFF), (96 + 8, 0x8080FF7F05060708)] })).1), ((candAt (opAt (opW 0x01 [(7, 49), (2, 38), (1, 31), (1, 25), (3, 18), (1, 16)]) fun c => { c with ar := [(0, ⟨5, false⟩), (1, ⟨-3, true⟩), (2, ⟨-32768, false⟩)], acc := [(16, ⟨2 ^ 39 - 1, false⟩)], weight := [(32, 0x123456789ABCDEF0), (33, 5), (34, 0xFFFFFFFFFFFFFFFF), (96 + 8, 0x8080FF7F05060708)] })).2), ((opAt (opW 0x01 [(7, 49), (2, 38), (1, 31), (1, 25), (3, 18), (1, 16)]) fun c => { c with ar := [(0, ⟨5, false⟩), (1, ⟨-3, true⟩), (2, ⟨-32768, false⟩)], acc := [(16, ⟨2 ^ 39 - 1, false⟩)], weight := [(32, 0x123456789ABCDEF0), (33, 5), (34, 0xFFFFFFFFFFFFFFFF), (96 + 8, 0x8080FF7F05060708)] })), (argsOf 0 (candAt (opAt (opW 0x01 [(7, 49), (2, 38), (1, 31), (1, 25), (3, 18), (1, 16)]) fun c => { c with ar := [(0, ⟨5, false⟩), (1, ⟨-3, true⟩), (2, ⟨-32768, false⟩)], acc := [(16, ⟨2 ^ 39 - 1, false⟩)], weight := [(32, 0x123456789ABCDEF0), (33, 5), (34, 0xFFFFFFFFFFFFFFFF), (96 + 8, 0x8080FF7F05060708)] })).1 (candAt (opAt (opW 0x01 [(7, 49), (2, 38), (1, 31), (1, 25), (3, 18), (1, 16)]) fun c => { c with ar := [(0, ⟨5, false⟩), (1, ⟨-3, true⟩), (2, ⟨-32768, false⟩)], acc := [(16, ⟨2 ^ 39 - 1, false⟩)], weight := [(32, 0x123456789ABCDEF0), (33, 5), (34, 0xFFFFFFFFFFFFFFFF), (96 + 8, 0x8080FF7F05060708)] })).2 (opAt (opW 0x01 [(7, 49), (2, 38), (1, 31), (1, 25), (3, 18), (1, 16)]) fun c => { c with ar := [(0, ⟨5, false⟩), (1, ⟨-3, true⟩), (2, ⟨-32768, false⟩)], acc := [(16, ⟨2 ^ 39 - 1, false⟩)], weight := [(32, 0x123456789ABCDEF0), (33, 5), (34, 0xFFFFFFFFFFFFFFFF), (96 + 8, 0x8080FF7F05060708)] }).dev), (coreOf (opAt (opW 0x01 [(7, 49), (2, 38), (1, 31), (1, 25), (3, 18), (1, 16)]) fun c => { c with ar := [(0, ⟨5, false⟩), (1, ⟨-3, true⟩), (2, ⟨-32768, false⟩)], acc := [(16, ⟨2 ^ 39 - 1, false⟩)], weight := [(32, 0x123456789ABCDEF0), (33, 5), (34, 0xFFFFFFFFFFFFFFFF), (96 + 8, 0x8080FF7F05060708)] }).dev 0), (macCore (candAt (opAt (opW 0x01 [(7, 49), (2, 38), (1, 31), (1, 25), (3, 18), (1, 16)]) fun c => { c with ar := [(0, ⟨5, false⟩), (1, ⟨-3, true⟩), (2, ⟨-32768, false⟩)], acc := [(16, ⟨2 ^ 39 - 1, false⟩)], weight := [(32, 0x123456789ABCDEF0), (33, 5), (34, 0xFFFFFFFFFFFFFFFF), (96 + 8, 0x8080FF7F05060708)] })).2 (coreOf (opAt (opW 0x01 [(7, 49), (2, 38), (1, 31), (1, 25), (3, 18), (1, 16)]) fun c => { c with ar := [(0, ⟨5, false⟩), (1, ⟨-3, true⟩), (2, ⟨-32768, false⟩)], acc := [(16, ⟨2 ^ 39 - 1, false⟩)], weight := [(32, 0x123456789ABCDEF0), (33, 5), (34, 0xFFFFFFFFFFFFFFFF), (96 + 8, 0x8080FF7F05060708)] }).dev 0)), by unfold Runs Issues; decide +kernel, rfl, rfl, rfl⟩,
   ⟨0, ((candAt (opAt (opW 0x02 [(7, 49), (2, 38), (1, 31), (1, 25), (3, 18), (1, 16)]) fun c => { c with ar := [(0, ⟨5, false⟩), (1, ⟨-3, true⟩), (2, ⟨-32768, false⟩)], acc := [(16, ⟨2 ^ 39 - 1, false⟩)], weight := [(32, 0x123456789ABCDEF0), (33, 5), (34, 0xFFFFFFFFFFFFFFFF), (96 + 8, 0x8080FF7F05060708)] })).1), ((candAt (opAt (opW 0x02 [(7, 49), (2, 38), (1, 31), (1, 25), (3, 18), (1, 16)]) fun c => { c with ar := [(0, ⟨5, false⟩), (1, ⟨-3, true⟩), (2, ⟨-32768, false⟩)], acc := [(16, ⟨2 ^ 39 - 1, false⟩)], weight := [(32, 0x123456789ABCDEF0), (33, 5), (34, 0xFFFFFFFFFFFFFFFF), (96 + 8, 0x8080FF7F05060708)] })).2), ((opAt (opW 0x02 [(7, 49), (2, 38), (1, 31), (1, 25), (3, 18), (1, 16)]) fun c => { c with ar := [(0, ⟨5, false⟩), (1, ⟨-3, true⟩), (2, ⟨-32768, false⟩)], acc := [(16, ⟨2 ^ 39 - 1, false⟩)], weight := [(32, 0x123456789ABCDEF0), (33, 5), (34, 0xFFFFFFFFFFFFFFFF), (96 + 8, 0x8080FF7F05060708)] })), (argsOf 0 (candAt (opAt (opW 0x02 [(7, 49), (2, 38), (1, 31), (1, 25), (3, 18), (1, 16)]) fun c => { c with ar := [(0, ⟨5, false⟩), (1, ⟨-3, true⟩), (2, ⟨-32768, false⟩)], acc := [(16, ⟨2 ^ 39 - 1, false⟩)], weight := [(32, 0x123456789ABCDEF0), (33, 5), (34, 0xFFFFFFFFFFFFFFFF), (96 + 8, 0x8080FF7F05060708)] })).1 (candAt (opAt (opW 0x02 [(7, 49), (2, 38), (1, 31), (1, 25), (3, 18), (1, 16)]) fun c => { c with ar := [(0, ⟨5, false⟩), (1, ⟨-3, true⟩), (2, ⟨-32768, false⟩)], acc := [(16, ⟨2 ^ 39 - 1, false⟩)], weight := [(32, 0x123456789ABCDEF0), (33, 5), (34, 0xFFFFFFFFFFFFFFFF), (96 + 8, 0x8080FF7F05060708)] })).2 (opAt (opW 0x02 [(7, 49), (2, 38), (1, 31), (1, 25), (3, 18), (1, 16)]) fun c => { c with ar := [(0, ⟨5, false⟩), (1, ⟨-3, true⟩), (2, ⟨-32768, false⟩)], acc := [(16, ⟨2 ^ 39 - 1, false⟩)], weight := [(32, 0x123456789ABCDEF0), (33, 5), (34, 0xFFFFFFFFFFFFFFFF), (96 + 8, 0x8080FF7F05060708)] }).dev), (coreOf (opAt (opW 0x02 [(7, 49), (2, 38), (1, 31), (1, 25), (3, 18), (1, 16)]) fun c => { c with ar := [(0, ⟨5, false⟩), (1, ⟨-3, true⟩), (2, ⟨-32768, false⟩)], acc := [(16, ⟨2 ^ 39 - 1, false⟩)], weight := [(32, 0x123456789ABCDEF0), (33, 5), (34, 0xFFFFFFFFFFFFFFFF), (96 + 8, 0x8080FF7F05060708)] }).dev 0), (macCore (candAt (opAt (opW 0x02 [(7, 49), (2, 38), (1, 31), (1, 25), (3, 18), (1, 16)]) fun c => { c with ar := [(0, ⟨5, false⟩), (1, ⟨-3, true⟩), (2, ⟨-32768, false⟩)], acc := [(16, ⟨2 ^ 39 - 1, false⟩)], weight := [(32, 0x123456789ABCDEF0), (33, 5), (34, 0xFFFFFFFFFFFFFFFF), (96 + 8, 0x8080FF7F05060708)] })).2 (coreOf (opAt (opW 0x02 [(7, 49), (2, 38), (1, 31), (1, 25), (3, 18), (1, 16)]) fun c => { c with ar := [(0, ⟨5, false⟩), (1, ⟨-3, true⟩), (2, ⟨-32768, false⟩)], acc := [(16, ⟨2 ^ 39 - 1, false⟩)], weight := [(32, 0x123456789ABCDEF0), (33, 5), (34, 0xFFFFFFFFFFFFFFFF), (96 + 8, 0x8080FF7F05060708)] }).dev 0)), by unfold Runs Issues; decide +kernel, rfl, rfl, rfl⟩,
   ⟨0, ((candAt (opAt (opW 0x03 [(5, 43), (0x8001, 27)]) fun c => { c with table := [(5, 77)] })).1), ((candAt (opAt (opW 0x03 [(5, 43), (0x8001, 27)]) fun c => { c with table := [(5, 77)] })).2), ((opAt (opW 0x03 [(5, 43), (0x8001, 27)]) fun c => { c with table := [(5, 77)] })), (coreOf (opAt (opW 0x03 [(5, 43), (0x8001, 27)]) fun c => { c with table := [(5, 77)] }).dev 0), (macCore (candAt (opAt (opW 0x03 [(5, 43), (0x8001, 27)]) fun c => { c with table := [(5, 77)] })).2 (coreOf (opAt (opW 0x03 [(5, 43), (0x8001, 27)]) fun c => { c with table := [(5, 77)] }).dev 0)), by unfold Runs Issues; decide +kernel, rfl, rfl⟩,
   ⟨0, ((candAt (opAt (opW 0x04 [(5, 43)]) fun c => { c with table := [(5, 0x0102030405060708)], insts := [⟨0, 0, 0, true, 0, none, 0, 0⟩], pAcc := [(3, 9)], aSum := 2 })).1), ((candAt (opAt (opW 0x04 [(5, 43)]) fun c => { c with table := [(5, 0x0102030405060708)], insts := [⟨0, 0, 0, true, 0, none, 0, 0⟩], pAcc := [(3, 9)], aSum := 2 })).2), ((opAt (opW 0x04 [(5, 43)]) fun c => { c with table := [(5, 0x0102030405060708)], insts := [⟨0, 0, 0, true, 0, none, 0, 0⟩], pAcc := [(3, 9)], aSum := 2 })), (coreOf (opAt (opW 0x04 [(5, 43)]) fun c => { c with table := [(5, 0x0102030405060708)], insts := [⟨0, 0, 0, true, 0, none, 0, 0⟩], pAcc := [(3, 9)], aSum := 2 }).dev 0), (macCore (candAt (opAt (opW 0x04 [(5, 43)]) fun c => { c with table := [(5, 0x0102030405060708)], insts := [⟨0, 0, 0, true, 0, none, 0, 0⟩], pAcc := [(3, 9)], aSum := 2 })).2 (coreOf (opAt (opW 0x04 [(5, 43)]) fun c => { c with table := [(5, 0x0102030405060708)], insts := [⟨0, 0, 0, true, 0, none, 0, 0⟩], pAcc := [(3, 9)], aSum := 2 }).dev 0)), (fun j => accAdd (closeLane (candAt (opAt (opW 0x04 [(5, 43)]) fun c => { c with table := [(5, 0x0102030405060708)], insts := [⟨0, 0, 0, true, 0, none, 0, 0⟩], pAcc := [(3, 9)], aSum := 2 })).2 (coreOf (opAt (opW 0x04 [(5, 43)]) fun c => { c with table := [(5, 0x0102030405060708)], insts := [⟨0, 0, 0, true, 0, none, 0, 0⟩], pAcc := [(3, 9)], aSum := 2 }).dev 0) j).2.v (closeLane (candAt (opAt (opW 0x04 [(5, 43)]) fun c => { c with table := [(5, 0x0102030405060708)], insts := [⟨0, 0, 0, true, 0, none, 0, 0⟩], pAcc := [(3, 9)], aSum := 2 })).2 (coreOf (opAt (opW 0x04 [(5, 43)]) fun c => { c with table := [(5, 0x0102030405060708)], insts := [⟨0, 0, 0, true, 0, none, 0, 0⟩], pAcc := [(3, 9)], aSum := 2 }).dev 0) j).1 (closePoison (candAt (opAt (opW 0x04 [(5, 43)]) fun c => { c with table := [(5, 0x0102030405060708)], insts := [⟨0, 0, 0, true, 0, none, 0, 0⟩], pAcc := [(3, 9)], aSum := 2 })).2 (coreOf (opAt (opW 0x04 [(5, 43)]) fun c => { c with table := [(5, 0x0102030405060708)], insts := [⟨0, 0, 0, true, 0, none, 0, 0⟩], pAcc := [(3, 9)], aSum := 2 }).dev 0))), by unfold Runs Issues; decide +kernel, rfl, rfl, by decide +kernel, rfl⟩,
   ⟨0, ((candAt (opAt (opW 0x04 [(5, 43)]) (fun c => { c with insts := [⟨0, 2 * 256, 0, true, 0, none, 0, 0⟩], latch := [3], sideTag := [(5, 7)] }))).1), ((candAt (opAt (opW 0x04 [(5, 43)]) (fun c => { c with insts := [⟨0, 2 * 256, 0, true, 0, none, 0, 0⟩], latch := [3], sideTag := [(5, 7)] }))).2), ((opAt (opW 0x04 [(5, 43)]) (fun c => { c with insts := [⟨0, 2 * 256, 0, true, 0, none, 0, 0⟩], latch := [3], sideTag := [(5, 7)] }))), ((argsOf 0 (candAt (opAt (opW 0x04 [(5, 43)]) (fun c => { c with insts := [⟨0, 2 * 256, 0, true, 0, none, 0, 0⟩], latch := [3], sideTag := [(5, 7)] }))).1 (candAt (opAt (opW 0x04 [(5, 43)]) (fun c => { c with insts := [⟨0, 2 * 256, 0, true, 0, none, 0, 0⟩], latch := [3], sideTag := [(5, 7)] }))).2 (opAt (opW 0x04 [(5, 43)]) (fun c => { c with insts := [⟨0, 2 * 256, 0, true, 0, none, 0, 0⟩], latch := [3], sideTag := [(5, 7)] })).dev).frame), ([(argsOf 0 (candAt (opAt (opW 0x04 [(5, 43)]) (fun c => { c with insts := [⟨0, 2 * 256, 0, true, 0, none, 0, 0⟩], latch := [3], sideTag := [(5, 7)] }))).1 (candAt (opAt (opW 0x04 [(5, 43)]) (fun c => { c with insts := [⟨0, 2 * 256, 0, true, 0, none, 0, 0⟩], latch := [3], sideTag := [(5, 7)] }))).2 (opAt (opW 0x04 [(5, 43)]) (fun c => { c with insts := [⟨0, 2 * 256, 0, true, 0, none, 0, 0⟩], latch := [3], sideTag := [(5, 7)] })).dev).frame]), by unfold Runs Issues; decide +kernel, by decide +kernel, rfl, rfl, by decide +kernel⟩,
   ⟨0, ((candAt (opAt (opW 0x04 [(5, 43)]) (fun c => { c with skewed := [3, 4], insts := [⟨0, 2 * 256, 0, true, 0, none, 0, 0⟩], latch := [3], sideTag := [(5, 7)] }))).1), ((candAt (opAt (opW 0x04 [(5, 43)]) (fun c => { c with skewed := [3, 4], insts := [⟨0, 2 * 256, 0, true, 0, none, 0, 0⟩], latch := [3], sideTag := [(5, 7)] }))).2), ((opAt (opW 0x04 [(5, 43)]) (fun c => { c with skewed := [3, 4], insts := [⟨0, 2 * 256, 0, true, 0, none, 0, 0⟩], latch := [3], sideTag := [(5, 7)] }))), ((argsOf 0 (candAt (opAt (opW 0x04 [(5, 43)]) (fun c => { c with skewed := [3, 4], insts := [⟨0, 2 * 256, 0, true, 0, none, 0, 0⟩], latch := [3], sideTag := [(5, 7)] }))).1 (candAt (opAt (opW 0x04 [(5, 43)]) (fun c => { c with skewed := [3, 4], insts := [⟨0, 2 * 256, 0, true, 0, none, 0, 0⟩], latch := [3], sideTag := [(5, 7)] }))).2 (opAt (opW 0x04 [(5, 43)]) (fun c => { c with skewed := [3, 4], insts := [⟨0, 2 * 256, 0, true, 0, none, 0, 0⟩], latch := [3], sideTag := [(5, 7)] })).dev).frame), by unfold Runs Issues; decide +kernel, by decide +kernel, rfl, by decide +kernel⟩⟩

theorem test_meets_conversions_and_state :
    (∃ (key t : Nat) (k : Cand) (s : State) (c : Core) (ent : Nat → Nat) (a : Nat → PReg), Runs (isOp 0x05) key t k s.dev ∧ c = coreOf s.dev key ∧ ent = (fun j => tblWord c (tagCtx k.tag) (tagFrame k.tag) (bits k.word 51 43 + j)) ∧ a = (fun j => accOf c (bits k.word 42 38 + j)) ∧ ((∀ j, j ≤ bits k.word 37 33 → bits (ent j) 31 26 ≤ 47))) ∧
    (∃ (key t : Nat) (k : Cand) (s : State) (c : Core) (ent : Nat → Nat) (a : Nat → PReg) (n : Nat), Runs (isOp 0x05) key t k s.dev ∧ c = coreOf s.dev key ∧ ent = (fun j => tblWord c (tagCtx k.tag) (tagFrame k.tag) (bits k.word 51 43 + j)) ∧ a = (fun j => accOf c (bits k.word 42 38 + j)) ∧ n = (List.range (bits k.word 37 33 + 1)).countP (fun j => decide (47 < bits (ent j) 31 26)) ∧ 0 < n) ∧
    (∃ (key t : Nat) (k : Cand) (s : State) (c : Core) (tab : Nat → Int), Runs (isOp 0x06) key t k s.dev ∧ c = coreOf s.dev key ∧ tab = (fun i => v4 (tblWord c (tagCtx k.tag) (tagFrame k.tag) (bits k.word 39 31 + i / 4)) (i % 4))) ∧
    (∃ (key t : Nat) (k : Cand) (s : State) (c : Core) (r0 : Nat), Runs (isState false) key t k s.dev ∧ c = coreOf s.dev key ∧ r0 = tagCtx k.tag * 16 + bits k.word 50 47) ∧
    (∃ (key t : Nat) (k : Cand) (s : State) (c : Core) (r0 : Nat), Runs (isState true) key t k s.dev ∧ c = coreOf s.dev key ∧ r0 = tagCtx k.tag * 16 + bits k.word 50 47) :=
  ⟨⟨0, ((candAt (opAt (opW 0x05 [(5, 43), (2, 38), (1, 33), (3, 28), (1, 27)]) fun c => { c with table := [(5, 0x7FFF000100000000 + 47 * 2 ^ 26), (6, 0x7FFF000100000000)], acc := [(2, ⟨99, false⟩), (3, ⟨99999, false⟩)], monitor := [(0, 5 * 2 ^ 55 + 1 * 2 ^ 50 + 9 * 2 ^ 38)] })).1), ((candAt (opAt (opW 0x05 [(5, 43), (2, 38), (1, 33), (3, 28), (1, 27)]) fun c => { c with table := [(5, 0x7FFF000100000000 + 47 * 2 ^ 26), (6, 0x7FFF000100000000)], acc := [(2, ⟨99, false⟩), (3, ⟨99999, false⟩)], monitor := [(0, 5 * 2 ^ 55 + 1 * 2 ^ 50 + 9 * 2 ^ 38)] })).2), ((opAt (opW 0x05 [(5, 43), (2, 38), (1, 33), (3, 28), (1, 27)]) fun c => { c with table := [(5, 0x7FFF000100000000 + 47 * 2 ^ 26), (6, 0x7FFF000100000000)], acc := [(2, ⟨99, false⟩), (3, ⟨99999, false⟩)], monitor := [(0, 5 * 2 ^ 55 + 1 * 2 ^ 50 + 9 * 2 ^ 38)] })), (coreOf (opAt (opW 0x05 [(5, 43), (2, 38), (1, 33), (3, 28), (1, 27)]) fun c => { c with table := [(5, 0x7FFF000100000000 + 47 * 2 ^ 26), (6, 0x7FFF000100000000)], acc := [(2, ⟨99, false⟩), (3, ⟨99999, false⟩)], monitor := [(0, 5 * 2 ^ 55 + 1 * 2 ^ 50 + 9 * 2 ^ 38)] }).dev 0), ((fun j => tblWord (coreOf (opAt (opW 0x05 [(5, 43), (2, 38), (1, 33), (3, 28), (1, 27)]) fun c => { c with table := [(5, 0x7FFF000100000000 + 47 * 2 ^ 26), (6, 0x7FFF000100000000)], acc := [(2, ⟨99, false⟩), (3, ⟨99999, false⟩)], monitor := [(0, 5 * 2 ^ 55 + 1 * 2 ^ 50 + 9 * 2 ^ 38)] }).dev 0) (tagCtx (candAt (opAt (opW 0x05 [(5, 43), (2, 38), (1, 33), (3, 28), (1, 27)]) fun c => { c with table := [(5, 0x7FFF000100000000 + 47 * 2 ^ 26), (6, 0x7FFF000100000000)], acc := [(2, ⟨99, false⟩), (3, ⟨99999, false⟩)], monitor := [(0, 5 * 2 ^ 55 + 1 * 2 ^ 50 + 9 * 2 ^ 38)] })).2.tag) (tagFrame (candAt (opAt (opW 0x05 [(5, 43), (2, 38), (1, 33), (3, 28), (1, 27)]) fun c => { c with table := [(5, 0x7FFF000100000000 + 47 * 2 ^ 26), (6, 0x7FFF000100000000)], acc := [(2, ⟨99, false⟩), (3, ⟨99999, false⟩)], monitor := [(0, 5 * 2 ^ 55 + 1 * 2 ^ 50 + 9 * 2 ^ 38)] })).2.tag) (bits (candAt (opAt (opW 0x05 [(5, 43), (2, 38), (1, 33), (3, 28), (1, 27)]) fun c => { c with table := [(5, 0x7FFF000100000000 + 47 * 2 ^ 26), (6, 0x7FFF000100000000)], acc := [(2, ⟨99, false⟩), (3, ⟨99999, false⟩)], monitor := [(0, 5 * 2 ^ 55 + 1 * 2 ^ 50 + 9 * 2 ^ 38)] })).2.word 51 43 + j))), ((fun j => accOf (coreOf (opAt (opW 0x05 [(5, 43), (2, 38), (1, 33), (3, 28), (1, 27)]) fun c => { c with table := [(5, 0x7FFF000100000000 + 47 * 2 ^ 26), (6, 0x7FFF000100000000)], acc := [(2, ⟨99, false⟩), (3, ⟨99999, false⟩)], monitor := [(0, 5 * 2 ^ 55 + 1 * 2 ^ 50 + 9 * 2 ^ 38)] }).dev 0) (bits (candAt (opAt (opW 0x05 [(5, 43), (2, 38), (1, 33), (3, 28), (1, 27)]) fun c => { c with table := [(5, 0x7FFF000100000000 + 47 * 2 ^ 26), (6, 0x7FFF000100000000)], acc := [(2, ⟨99, false⟩), (3, ⟨99999, false⟩)], monitor := [(0, 5 * 2 ^ 55 + 1 * 2 ^ 50 + 9 * 2 ^ 38)] })).2.word 42 38 + j))), by unfold Runs Issues; decide +kernel, rfl, rfl, rfl, by decide +kernel⟩,
   ⟨0, ((candAt (opAt (opW 0x05 [(5, 43), (1, 33)]) fun c => { c with table := [(5, 48 * 2 ^ 26), (6, 2 ^ 48)], acc := [(0, ⟨7, true⟩), (1, ⟨9, false⟩)] })).1), ((candAt (opAt (opW 0x05 [(5, 43), (1, 33)]) fun c => { c with table := [(5, 48 * 2 ^ 26), (6, 2 ^ 48)], acc := [(0, ⟨7, true⟩), (1, ⟨9, false⟩)] })).2), ((opAt (opW 0x05 [(5, 43), (1, 33)]) fun c => { c with table := [(5, 48 * 2 ^ 26), (6, 2 ^ 48)], acc := [(0, ⟨7, true⟩), (1, ⟨9, false⟩)] })), (coreOf (opAt (opW 0x05 [(5, 43), (1, 33)]) fun c => { c with table := [(5, 48 * 2 ^ 26), (6, 2 ^ 48)], acc := [(0, ⟨7, true⟩), (1, ⟨9, false⟩)] }).dev 0), ((fun j => tblWord (coreOf (opAt (opW 0x05 [(5, 43), (1, 33)]) fun c => { c with table := [(5, 48 * 2 ^ 26), (6, 2 ^ 48)], acc := [(0, ⟨7, true⟩), (1, ⟨9, false⟩)] }).dev 0) (tagCtx (candAt (opAt (opW 0x05 [(5, 43), (1, 33)]) fun c => { c with table := [(5, 48 * 2 ^ 26), (6, 2 ^ 48)], acc := [(0, ⟨7, true⟩), (1, ⟨9, false⟩)] })).2.tag) (tagFrame (candAt (opAt (opW 0x05 [(5, 43), (1, 33)]) fun c => { c with table := [(5, 48 * 2 ^ 26), (6, 2 ^ 48)], acc := [(0, ⟨7, true⟩), (1, ⟨9, false⟩)] })).2.tag) (bits (candAt (opAt (opW 0x05 [(5, 43), (1, 33)]) fun c => { c with table := [(5, 48 * 2 ^ 26), (6, 2 ^ 48)], acc := [(0, ⟨7, true⟩), (1, ⟨9, false⟩)] })).2.word 51 43 + j))), ((fun j => accOf (coreOf (opAt (opW 0x05 [(5, 43), (1, 33)]) fun c => { c with table := [(5, 48 * 2 ^ 26), (6, 2 ^ 48)], acc := [(0, ⟨7, true⟩), (1, ⟨9, false⟩)] }).dev 0) (bits (candAt (opAt (opW 0x05 [(5, 43), (1, 33)]) fun c => { c with table := [(5, 48 * 2 ^ 26), (6, 2 ^ 48)], acc := [(0, ⟨7, true⟩), (1, ⟨9, false⟩)] })).2.word 42 38 + j))), 1, by unfold Runs Issues; decide +kernel, rfl, rfl, rfl, by decide +kernel⟩,
   ⟨0, ((candAt (opAt (opW 0x06 [(3, 47), (4, 42), (1, 40), (9, 31), (15, 27), (1, 26)]) fun c => { c with ar := [(3, ⟨777, true⟩), (4, ⟨-32768, false⟩)], table := [(9, 0x0001000200030004), (40, 0x0001000200030004)] })).1), ((candAt (opAt (opW 0x06 [(3, 47), (4, 42), (1, 40), (9, 31), (15, 27), (1, 26)]) fun c => { c with ar := [(3, ⟨777, true⟩), (4, ⟨-32768, false⟩)], table := [(9, 0x0001000200030004), (40, 0x0001000200030004)] })).2), ((opAt (opW 0x06 [(3, 47), (4, 42), (1, 40), (9, 31), (15, 27), (1, 26)]) fun c => { c with ar := [(3, ⟨777, true⟩), (4, ⟨-32768, false⟩)], table := [(9, 0x0001000200030004), (40, 0x0001000200030004)] })), (coreOf (opAt (opW 0x06 [(3, 47), (4, 42), (1, 40), (9, 31), (15, 27), (1, 26)]) fun c => { c with ar := [(3, ⟨777, true⟩), (4, ⟨-32768, false⟩)], table := [(9, 0x0001000200030004), (40, 0x0001000200030004)] }).dev 0), ((fun i => v4 (tblWord (coreOf (opAt (opW 0x06 [(3, 47), (4, 42), (1, 40), (9, 31), (15, 27), (1, 26)]) fun c => { c with ar := [(3, ⟨777, true⟩), (4, ⟨-32768, false⟩)], table := [(9, 0x0001000200030004), (40, 0x0001000200030004)] }).dev 0) (tagCtx (candAt (opAt (opW 0x06 [(3, 47), (4, 42), (1, 40), (9, 31), (15, 27), (1, 26)]) fun c => { c with ar := [(3, ⟨777, true⟩), (4, ⟨-32768, false⟩)], table := [(9, 0x0001000200030004), (40, 0x0001000200030004)] })).2.tag) (tagFrame (candAt (opAt (opW 0x06 [(3, 47), (4, 42), (1, 40), (9, 31), (15, 27), (1, 26)]) fun c => { c with ar := [(3, ⟨777, true⟩), (4, ⟨-32768, false⟩)], table := [(9, 0x0001000200030004), (40, 0x0001000200030004)] })).2.tag) (bits (candAt (opAt (opW 0x06 [(3, 47), (4, 42), (1, 40), (9, 31), (15, 27), (1, 26)]) fun c => { c with ar := [(3, ⟨777, true⟩), (4, ⟨-32768, false⟩)], table := [(9, 0x0001000200030004), (40, 0x0001000200030004)] })).2.word 39 31 + i / 4)) (i % 4))), by unfold Runs Issues; decide +kernel, rfl, rfl⟩,
   ⟨0, ((candAt (opAt (opW 0x07 [(2, 47), (3, 45), (28, 40)]) fun c => { c with sreg := [(2, ⟨5, true, 0, true⟩), (5, ⟨7, false, 255, false⟩)] })).1), ((candAt (opAt (opW 0x07 [(2, 47), (3, 45), (28, 40)]) fun c => { c with sreg := [(2, ⟨5, true, 0, true⟩), (5, ⟨7, false, 255, false⟩)] })).2), ((opAt (opW 0x07 [(2, 47), (3, 45), (28, 40)]) fun c => { c with sreg := [(2, ⟨5, true, 0, true⟩), (5, ⟨7, false, 255, false⟩)] })), (coreOf (opAt (opW 0x07 [(2, 47), (3, 45), (28, 40)]) fun c => { c with sreg := [(2, ⟨5, true, 0, true⟩), (5, ⟨7, false, 255, false⟩)] }).dev 0), 2, by unfold Runs Issues; decide +kernel, rfl, by decide +kernel⟩,
   ⟨0, ((candAt (opAt (opW 0x07 [(1, 51), (2, 47), (3, 45), (28, 40)]) fun c => { c with ar := [(29, ⟨5, true⟩)] })).1), ((candAt (opAt (opW 0x07 [(1, 51), (2, 47), (3, 45), (28, 40)]) fun c => { c with ar := [(29, ⟨5, true⟩)] })).2), ((opAt (opW 0x07 [(1, 51), (2, 47), (3, 45), (28, 40)]) fun c => { c with ar := [(29, ⟨5, true⟩)] })), (coreOf (opAt (opW 0x07 [(1, 51), (2, 47), (3, 45), (28, 40)]) fun c => { c with ar := [(29, ⟨5, true⟩)] }).dev 0), 2, by unfold Runs Issues; decide +kernel, rfl, by decide +kernel⟩⟩

theorem test_meets_tokens_in_and_out_1 :
    (∃ (key t : Nat) (k : Cand) (s : State) (c : Core), Issues (isOp 0x08) key t k s.dev ∧ c = coreOf s.dev key ∧ ((bit k.word 47 = true → c.egress.length < 2))) ∧
    (∃ (key t : Nat) (k : Cand) (s : State), Issues (isOp 0x08) key t k s.dev ∧ bits k.word 51 45 = 4 ∧ 2 ≤ (coreOf s.dev key).egress.length) ∧
    (∃ (key t : Nat) (k : Cand) (s : State) (c : Core), Runs (isOp 0x09) key t k s.dev ∧ c = coreOf s.dev key) ∧
    (∃ (key t : Nat) (k : Cand) (s : State) (c : Core), Runs (isOp 0x0A) key t k s.dev ∧ c = coreOf s.dev key) ∧
    (∃ (key t : Nat) (k : Cand) (s : State) (rs : List PReg), Issues (isOp 0x11) key t k s.dev ∧ rs = (List.range 4).map (fun j => arOf (coreOf s.dev key) (bits k.word 49 45 + j))) ∧
    (∃ (key i h : Nat) (x : Timed) (c : Core) (s : State), coreKey key = true ∧ coresOn s.dev = true ∧ coreRuns s.dev key = true ∧ c = coreOf s.dev key ∧ c.queues = [(i, [x])] ∧ i < 7 ∧ x.pr < 16 ∧ c.rr < 7 ∧ c.slots.length < 8 ∧ headFor c (tagCtx x.tok.tag) i = some h) :=
  ⟨⟨0, ((candAt (opAt (opW 0x08 [(127, 45), (5, 40), (3, 30)]) fun c => { c with ar := [(5, ⟨7, false⟩), (8, ⟨-1, true⟩)] })).1), ((candAt (opAt (opW 0x08 [(127, 45), (5, 40), (3, 30)]) fun c => { c with ar := [(5, ⟨7, false⟩), (8, ⟨-1, true⟩)] })).2), ((opAt (opW 0x08 [(127, 45), (5, 40), (3, 30)]) fun c => { c with ar := [(5, ⟨7, false⟩), (8, ⟨-1, true⟩)] })), (coreOf (opAt (opW 0x08 [(127, 45), (5, 40), (3, 30)]) fun c => { c with ar := [(5, ⟨7, false⟩), (8, ⟨-1, true⟩)] }).dev 0), by unfold Issues; decide +kernel, rfl, by decide +kernel⟩,
   ⟨0, ((candAt (opAt (opW 0x08 [(4, 45)]) fun c => { c with egress := [⟨1, ⟨2, 3, false⟩, 0⟩, ⟨2, ⟨2, 3, false⟩, 0⟩] })).1), ((candAt (opAt (opW 0x08 [(4, 45)]) fun c => { c with egress := [⟨1, ⟨2, 3, false⟩, 0⟩, ⟨2, ⟨2, 3, false⟩, 0⟩] })).2), ((opAt (opW 0x08 [(4, 45)]) fun c => { c with egress := [⟨1, ⟨2, 3, false⟩, 0⟩, ⟨2, ⟨2, 3, false⟩, 0⟩] })), by unfold Issues; decide +kernel, by decide +kernel⟩,
   ⟨0, ((candAt (opAt (opW 0x09 [(2, 49), (7, 43), (1, 42)]) fun c => { c with slots := [⟨⟨99, 0, true⟩, 2, 1⟩] })).1), ((candAt (opAt (opW 0x09 [(2, 49), (7, 43), (1, 42)]) fun c => { c with slots := [⟨⟨99, 0, true⟩, 2, 1⟩] })).2), ((opAt (opW 0x09 [(2, 49), (7, 43), (1, 42)]) fun c => { c with slots := [⟨⟨99, 0, true⟩, 2, 1⟩] })), (coreOf (opAt (opW 0x09 [(2, 49), (7, 43), (1, 42)]) fun c => { c with slots := [⟨⟨99, 0, true⟩, 2, 1⟩] }).dev 0), by unfold Runs Issues; decide +kernel, rfl⟩,
   ⟨0, ((candAt (opAt (opW 0x0A [(2, 49), (7, 45), (1, 41)]) fun c => { c with slots := [⟨⟨99, 0, true⟩, 2, 1⟩] })).1), ((candAt (opAt (opW 0x0A [(2, 49), (7, 45), (1, 41)]) fun c => { c with slots := [⟨⟨99, 0, true⟩, 2, 1⟩] })).2), ((opAt (opW 0x0A [(2, 49), (7, 45), (1, 41)]) fun c => { c with slots := [⟨⟨99, 0, true⟩, 2, 1⟩] })), (coreOf (opAt (opW 0x0A [(2, 49), (7, 45), (1, 41)]) fun c => { c with slots := [⟨⟨99, 0, true⟩, 2, 1⟩] }).dev 0), by unfold Runs Issues; decide +kernel, rfl⟩,
   ⟨0, ((candAt (opAt (opW 0x11 [(4, 45)]) fun c => { c with ar := [(5, ⟨7, false⟩)] })).1), ((candAt (opAt (opW 0x11 [(4, 45)]) fun c => { c with ar := [(5, ⟨7, false⟩)] })).2), ((opAt (opW 0x11 [(4, 45)]) fun c => { c with ar := [(5, ⟨7, false⟩)] })), ((List.range 4).map (fun j => arOf (coreOf (opAt (opW 0x11 [(4, 45)]) fun c => { c with ar := [(5, ⟨7, false⟩)] }).dev 0) (bits (candAt (opAt (opW 0x11 [(4, 45)]) fun c => { c with ar := [(5, ⟨7, false⟩)] })).2.word 49 45 + j))), by unfold Issues; decide +kernel, rfl⟩,
   ⟨0, 2, 255, ⟨1, ⟨99, 0, false⟩, 0⟩, (coreOf (on [] fun d => { d with cores := [(0, { Core.rest with queues := [(2, [⟨1, ⟨99, 0, false⟩, 0⟩])], prog := [(255, opW 0x09 [(1, 57), (2, 49)])] })] }).dev 0), ((on [] fun d => { d with cores := [(0, { Core.rest with queues := [(2, [⟨1, ⟨99, 0, false⟩, 0⟩])], prog := [(255, opW 0x09 [(1, 57), (2, 49)])] })] })), by decide +kernel, by decide +kernel, by decide +kernel, rfl, by decide +kernel⟩⟩

theorem test_meets_tokens_in_and_out_2 :
    (∃ (key t : Nat) (s : State), coreKey key = true ∧ coresOn s.dev = true ∧ coreRuns s.dev key = true ∧ admitAt (coreOf s.dev key) s.dev.now = some t) ∧
    (∃ (key : Nat) (s : State), coreKey key = true ∧ (coreOf s.dev key).queues = []) :=
  ⟨⟨0, ((admitAt (coreOf (on [] fun d => { d with cores := [(0, { Core.rest with queues := [(2, [⟨1, ⟨99, 0, false⟩, 0⟩])], prog := [(255, opW 0x09 [(1, 57), (2, 49)])] })] }).dev 0) (on [] fun d => { d with cores := [(0, { Core.rest with queues := [(2, [⟨1, ⟨99, 0, false⟩, 0⟩])], prog := [(255, opW 0x09 [(1, 57), (2, 49)])] })] }).dev.now).getD 0), ((on [] fun d => { d with cores := [(0, { Core.rest with queues := [(2, [⟨1, ⟨99, 0, false⟩, 0⟩])], prog := [(255, opW 0x09 [(1, 57), (2, 49)])] })] })), by decide +kernel⟩,
   ⟨0, (on []), by decide +kernel⟩⟩

theorem test_meets_guarded_operations :
    (∃ (o : (Nat → List Upset → Instr) × (Nat → Bool)) (key t : Nat) (k : Cand) (s : State) (m : Core), o ∈ guardedOps ∧ Issues o.2 key t k s.dev ∧ guardOf (coreOf s.dev key) k.word = .skip ∧ m = (if needsLock k.word then macCore k (coreOf s.dev key) else coreOf s.dev key)) ∧
    (∃ (o : (Nat → List Upset → Instr) × (Nat → Bool)) (key t : Nat) (k : Cand) (s : State) (c : Core), o ∈ guardedOps ∧ Issues o.2 key t k s.dev ∧ c = coreOf s.dev key ∧ guardOf c k.word = .poison) :=
  ⟨⟨((.stateWrite, isState true)), 0, ((candAt (opAt (opW 0x07 [(1, 52), (1, 51), (2, 47), (3, 45), (28, 40)]) fun c => { c with pred := [(1, ⟨0, false⟩)], slots := [⟨⟨99, 0, true⟩, 2, 1⟩], ar := [(3, ⟨5, false⟩)], acc := [(0, ⟨7, false⟩), (17, ⟨5, false⟩)], pAcc := [(1, 3)], sreg := [(2, ⟨5, false, 255, false⟩)] })).1), ((candAt (opAt (opW 0x07 [(1, 52), (1, 51), (2, 47), (3, 45), (28, 40)]) fun c => { c with pred := [(1, ⟨0, false⟩)], slots := [⟨⟨99, 0, true⟩, 2, 1⟩], ar := [(3, ⟨5, false⟩)], acc := [(0, ⟨7, false⟩), (17, ⟨5, false⟩)], pAcc := [(1, 3)], sreg := [(2, ⟨5, false, 255, false⟩)] })).2), ((opAt (opW 0x07 [(1, 52), (1, 51), (2, 47), (3, 45), (28, 40)]) fun c => { c with pred := [(1, ⟨0, false⟩)], slots := [⟨⟨99, 0, true⟩, 2, 1⟩], ar := [(3, ⟨5, false⟩)], acc := [(0, ⟨7, false⟩), (17, ⟨5, false⟩)], pAcc := [(1, 3)], sreg := [(2, ⟨5, false, 255, false⟩)] })), ((if needsLock (candAt (opAt (opW 0x07 [(1, 52), (1, 51), (2, 47), (3, 45), (28, 40)]) fun c => { c with pred := [(1, ⟨0, false⟩)], slots := [⟨⟨99, 0, true⟩, 2, 1⟩], ar := [(3, ⟨5, false⟩)], acc := [(0, ⟨7, false⟩), (17, ⟨5, false⟩)], pAcc := [(1, 3)], sreg := [(2, ⟨5, false, 255, false⟩)] })).2.word then macCore (candAt (opAt (opW 0x07 [(1, 52), (1, 51), (2, 47), (3, 45), (28, 40)]) fun c => { c with pred := [(1, ⟨0, false⟩)], slots := [⟨⟨99, 0, true⟩, 2, 1⟩], ar := [(3, ⟨5, false⟩)], acc := [(0, ⟨7, false⟩), (17, ⟨5, false⟩)], pAcc := [(1, 3)], sreg := [(2, ⟨5, false, 255, false⟩)] })).2 (coreOf (opAt (opW 0x07 [(1, 52), (1, 51), (2, 47), (3, 45), (28, 40)]) fun c => { c with pred := [(1, ⟨0, false⟩)], slots := [⟨⟨99, 0, true⟩, 2, 1⟩], ar := [(3, ⟨5, false⟩)], acc := [(0, ⟨7, false⟩), (17, ⟨5, false⟩)], pAcc := [(1, 3)], sreg := [(2, ⟨5, false, 255, false⟩)] }).dev 0) else coreOf (opAt (opW 0x07 [(1, 52), (1, 51), (2, 47), (3, 45), (28, 40)]) fun c => { c with pred := [(1, ⟨0, false⟩)], slots := [⟨⟨99, 0, true⟩, 2, 1⟩], ar := [(3, ⟨5, false⟩)], acc := [(0, ⟨7, false⟩), (17, ⟨5, false⟩)], pAcc := [(1, 3)], sreg := [(2, ⟨5, false, 255, false⟩)] }).dev 0)), by unfold guardedOps; repeat (first | exact .head _ | apply List.Mem.tail), by unfold Issues; decide +kernel, by decide +kernel, rfl⟩,
   ⟨((.stateWrite, isState true)), 0, ((candAt (opAt (opW 0x07 [(1, 52), (1, 51), (2, 47), (3, 45), (28, 40)]) fun c => { c with pred := [(1, ⟨0, true⟩)], slots := [⟨⟨99, 0, true⟩, 2, 1⟩], ar := [(3, ⟨5, false⟩)], acc := [(0, ⟨7, false⟩), (17, ⟨5, false⟩)], pAcc := [(1, 3)], sreg := [(2, ⟨5, false, 255, false⟩)] })).1), ((candAt (opAt (opW 0x07 [(1, 52), (1, 51), (2, 47), (3, 45), (28, 40)]) fun c => { c with pred := [(1, ⟨0, true⟩)], slots := [⟨⟨99, 0, true⟩, 2, 1⟩], ar := [(3, ⟨5, false⟩)], acc := [(0, ⟨7, false⟩), (17, ⟨5, false⟩)], pAcc := [(1, 3)], sreg := [(2, ⟨5, false, 255, false⟩)] })).2), ((opAt (opW 0x07 [(1, 52), (1, 51), (2, 47), (3, 45), (28, 40)]) fun c => { c with pred := [(1, ⟨0, true⟩)], slots := [⟨⟨99, 0, true⟩, 2, 1⟩], ar := [(3, ⟨5, false⟩)], acc := [(0, ⟨7, false⟩), (17, ⟨5, false⟩)], pAcc := [(1, 3)], sreg := [(2, ⟨5, false, 255, false⟩)] })), (coreOf (opAt (opW 0x07 [(1, 52), (1, 51), (2, 47), (3, 45), (28, 40)]) fun c => { c with pred := [(1, ⟨0, true⟩)], slots := [⟨⟨99, 0, true⟩, 2, 1⟩], ar := [(3, ⟨5, false⟩)], acc := [(0, ⟨7, false⟩), (17, ⟨5, false⟩)], pAcc := [(1, 3)], sreg := [(2, ⟨5, false, 255, false⟩)] }).dev 0), by unfold guardedOps; repeat (first | exact .head _ | apply List.Mem.tail), by unfold Issues; decide +kernel, rfl, by decide +kernel⟩⟩

theorem test_meets_rides_and_firebreak_1 :
    (∃ (key dir x y : Nat) (x' : Nat) (y' : Nat) (b u a nib : Nat) (par : Bool) (win : Timed) (rest : List Timed) (tok : Tok) (s : State), coreKey key = true ∧ key < 65536 ∧ dir < 4 ∧ coresOn s.dev = true ∧ arbitrate (outOf (coreOf s.dev key) dir) = some (u, win, [], rest) ∧ logOf s.dev key = some (x, y) ∧ neighbour s.dev x y dir = some (x', y') ∧ physOf s.dev x' y' = some b ∧ b ≠ key ∧ a = u + hopAc s.dev key b dir ∧ nib = bits (tget 0 (coreOf s.dev b).route (tagCtx win.tok.tag)) (63 - 4 * ((dir + 2) % 4)) (60 - 4 * ((dir + 2) % 4)) ∧ (arrived (queueOf (coreOf s.dev b) ((dir + 2) % 4))).length < 8 ∧ tok = { win.tok with poison := win.tok.poison || (par && decide (dieOf key ≠ dieOf b)) }) ∧
    (∃ (key x u : Nat) (win : Timed) (rest : List Timed) (s : State), coreKey key = true ∧ key < 65536 ∧ coresOn s.dev = true ∧ arbitrate (outOf (coreOf s.dev key) 0) = some (u, win, [], rest) ∧ logOf s.dev key = some (x, 0)) ∧
    (∃ (key dir x y u : Nat) (win : Timed) (l : Timed) (rest : List Timed) (s : State), coreKey key = true ∧ key < 65536 ∧ dir < 4 ∧ coresOn s.dev = true ∧ arbitrate (outOf (coreOf s.dev key) dir) = some (u, win, [l], rest) ∧ logOf s.dev key = some (x, y) ∧ neighbour s.dev x y dir = none ∧ dir ≠ 0) ∧
    (∃ (key dir : Nat) (s : State), coreKey key = true ∧ key < 65536 ∧ dir < 4 ∧ ((coresOn s.dev = false ∨ outOf (coreOf s.dev key) dir = []))) ∧
    (∃ (key a : Nat) (x : Timed) (s : State), coreKey key = true ∧ key < 65536 ∧ coresOn s.dev = true ∧ fbFirst s.dev key = some (a, x)) ∧
    (∃ (bad : List Nat) (x : Flight) (e key : Nat) (tok : Tok) (s : State), ((∀ l ∈ bad, l < 256)) ∧ coresOn s.dev = true ∧ firstFlight s.dev.fab.flight = some x ∧ e = fbEntry s.dev (x.copse / 24) (3328 + 64 * (x.copse % 24) + fbSlot s.dev (x.due - 2)) ∧ fbValid e = true ∧ key = copseCore (x.copse / 24) (x.copse % 24) (fbSel e) ∧ (arrived (queueOf (coreOf s.dev key) 4)).length < 8 ∧ x.copse < 1536 ∧ tok = { x.tok with poison := x.tok.poison || wayFailed bad x s.dev }) :=
  ⟨⟨(23 * 256), 1, 23, 0, 24, 0, (25 * 256), 105000, (105000 + hopAc (on [] fun d => { d with cores := [(23 * 256, { Core.rest with outs := [(1, [⟨105000, ⟨5, 0, false⟩, 0⟩, ⟨105001, ⟨6, 0, false⟩, 0⟩])] }), (25 * 256, { Core.rest with route := [(0, 9 * 2 ^ 48)] })] }).dev (23 * 256) (25 * 256) 1), 9, true, ⟨105000, ⟨5, 0, false⟩, 0⟩, [⟨105001, ⟨6, 0, false⟩, 0⟩], ⟨5, 0, true⟩, ((on [] fun d => { d with cores := [(23 * 256, { Core.rest with outs := [(1, [⟨105000, ⟨5, 0, false⟩, 0⟩, ⟨105001, ⟨6, 0, false⟩, 0⟩])] }), (25 * 256, { Core.rest with route := [(0, 9 * 2 ^ 48)] })] })), by decide +kernel, by decide +kernel, by decide +kernel, by decide +kernel, by decide +kernel, by decide +kernel, ⟨by decide +kernel, by decide +kernel, by decide +kernel, rfl, by decide +kernel, by decide +kernel, rfl⟩⟩,
   ⟨0, 0, 105000, ⟨105000, ⟨5, 0, false⟩, 0⟩, [], (on [] fun d => { d with cores := [(0, { Core.rest with outs := [(0, [⟨105000, ⟨5, 0, false⟩, 0⟩])] })] }), by decide +kernel⟩,
   ⟨0, 3, 0, 0, 105000, ⟨105000, ⟨5, 0, false⟩, 0⟩, ⟨105000, ⟨6, 0, false⟩, 4⟩, [], (on [] fun d => { d with cores := [(0, { Core.rest with lastRing := some 1, outs := [(3, [⟨105000, ⟨5, 0, false⟩, 0⟩, ⟨105000, ⟨6, 0, false⟩, 4⟩])] })] }), by decide +kernel⟩,
   ⟨(65535 - 255 - 255 * 256 + 51000 - 51000 % 256), 3, (on []), by decide +kernel⟩,
   ⟨0, (((fbFirst (on [] fun d => { d with cores := [(0, { Core.rest with egress := [⟨105000, ⟨5, 0, false⟩, 0⟩] })], fab := { d.fab with fb := (List.range 64).map fun i => (1792 + i, 0x80) } }).dev 0).getD (0, ⟨0, ⟨0, 0, false⟩, 0⟩)).1), ⟨105000, ⟨5, 0, false⟩, 0⟩, ((on [] fun d => { d with cores := [(0, { Core.rest with egress := [⟨105000, ⟨5, 0, false⟩, 0⟩] })], fab := { d.fab with fb := (List.range 64).map fun i => (1792 + i, 0x80) } })), by decide +kernel⟩,
   ⟨[3, 255], ⟨105000, 0, ⟨5, 0, false⟩, [3], 0⟩, 0x80, 0, ⟨5, 0, true⟩, (on [] fun d => { d with fab := { d.fab with flight := [⟨105000, 0, ⟨5, 0, false⟩, [3], 0⟩], fb := (List.range 64).map fun i => (3328 + i, 0x80) } }), by decide +kernel, by decide +kernel, by decide +kernel, rfl, by decide +kernel, by decide +kernel, by decide +kernel, by decide +kernel, rfl⟩⟩

theorem test_meets_rides_and_firebreak_2 :
    (∃ (bad : List Nat) (x : Flight) (s : State), ((∀ l ∈ bad, l < 256)) ∧ coresOn s.dev = true ∧ firstFlight s.dev.fab.flight = some x ∧ x.copse < 1536 ∧ fbValid (fbEntry s.dev (x.copse / 24) (3328 + 64 * (x.copse % 24) + fbSlot s.dev (x.due - 2))) = false) ∧
    (∃ (key : Nat) (x : Timed) (s : State), coreKey key = true ∧ key < 65536 ∧ (coreOf s.dev key).egress.find? (fun x => (fbDeparture s.dev key (tagCtx x.tok.tag) x.due (dget R.FB_SLOT_TIMEOUT s.dev)).isNone) = some x) ∧
    (∃ (link t : Nat) (s : State), link < 256 ∧ tget none s.dev.fab.misaligned link = some t ∧ JobRuns s.dev) ∧
    (∃ (link t : Nat) (s : State), link < 256 ∧ tget none s.dev.fab.misaligned link = some t ∧ dget R.RESTART_STATE s.dev = 4) ∧
    (∃ (bad : List Nat) (x : Flight) (s : State), ((∀ l ∈ bad, l < 256)) ∧ coresOn s.dev = true ∧ firstFlight s.dev.fab.flight = some x ∧ 1536 ≤ x.copse) :=
  ⟨⟨[], ⟨105000, 0, ⟨5, 0, false⟩, [3], 0⟩, (on [] fun d => { d with fab := { d.fab with flight := [⟨105000, 0, ⟨5, 0, false⟩, [3], 0⟩] } }), by decide +kernel⟩,
   ⟨0, ⟨105000, ⟨5, 0, false⟩, 0⟩, (on [] fun d => { d with cores := [(0, { Core.rest with lastRing := some 1, egress := [⟨105000, ⟨5, 0, false⟩, 0⟩] })] }), by decide +kernel⟩,
   ⟨255, 50, (on [] fun d => { d with fab := { d.fab with misaligned := [(255, some 50)] } }), by decide +kernel, by decide +kernel, by unfold JobRuns; decide +kernel⟩,
   ⟨255, 50, (on [(R.RESTART_STATE, 4)] fun d => { d with fab := { d.fab with misaligned := [(255, some 50)] } }), by decide +kernel⟩,
   ⟨[3], ⟨105000, 1536, ⟨5, 0, false⟩, [3], 0⟩, (on [] fun d => { d with fab := { d.fab with flight := [⟨105000, 1536, ⟨5, 0, false⟩, [3], 0⟩] } }), by decide +kernel⟩⟩

theorem test_meets_watchdog_and_scrubber :
    (∃ (key e t : Nat) (c : Core) (s : State), coreKey key = true ∧ key < 65536 ∧ c = coreOf s.dev key ∧ countsFrom c = some e ∧ JobRuns s.dev ∧ coreRuns s.dev key = true ∧ ((∀ x ∈ pick c (issueFrom key s.dev), t ≤ x.1)) ∧ t = max (max c.wdAt (overBy c)) e + (dget R.FIRE_WATCHDOG s.dev - (c.wdCount + (overBy c - c.wdAt)))) ∧
    (∃ (key : Nat) (s : State), coreKey key = true ∧ (((key < 65536 ∧ (coreRuns s.dev key = false ∨ expiryAt key s.dev = none)) ∨ (65536 ≤ key ∧ (clusOf s.dev ((key - 65536) / 256)).job = none)))) ∧
    (∃ (key : Nat) (ups : List Upset), coreKey key = true ∧ ((∀ u ∈ ups, u.mem < 3 ∧ u.word < 4096 ∧ u.double = false))) ∧
    (∃ (key : Nat) (u : Upset) (s : State), coreKey key = true ∧ key < 65536 ∧ u.mem < 3 ∧ u.word < 4096 ∧ u.double = true ∧ JobRuns s.dev) :=
  ⟨⟨0, 0, (max (max (opCore 0).wdAt (overBy (opCore 0))) 0 + (dget R.FIRE_WATCHDOG (opAt 0).dev - ((opCore 0).wdCount + (overBy (opCore 0) - (opCore 0).wdAt)))), (opCore 0), ((opAt 0)), by decide +kernel, by decide +kernel, rfl, by decide +kernel, by unfold JobRuns; decide +kernel, by decide +kernel, by decide +kernel, rfl⟩,
   ⟨(51199 - 128), (on []), by decide +kernel⟩,
   ⟨65536, [⟨2, 4095, false⟩, ⟨0, 0, false⟩], by decide +kernel⟩,
   ⟨0, ⟨2, 4095, true⟩, (opAt 0), by decide +kernel, by decide +kernel, by decide +kernel, by decide +kernel, by decide +kernel, by unfold JobRuns; decide +kernel⟩⟩

theorem test_meets_verdict_collector_1 :
    (∃ (n w : Nat) (x : Timed) (s : State), firstTimed s.dev.fab.vtoks = some x ∧ n = fullFrame (curFrame s.dev) (tagFrame x.tok.tag) ∧ w = bits x.tok.tag 7 2 ∧ (¬ (n < s.dev.grid.nextClose ∨ (n < s.dev.grid.nextT ∧ closeAt s.dev n < x.due)))) ∧
    (∃ (n : Nat) (x : Timed) (s : State), firstTimed s.dev.fab.vtoks = some x ∧ n = fullFrame (curFrame s.dev) (tagFrame x.tok.tag) ∧ ((n < s.dev.grid.nextClose ∨ (n < s.dev.grid.nextT ∧ closeAt s.dev n < x.due)))) ∧
    (∃ (n : Nat) (s : State), s.dev.fab.vtoks = [] ∧ n = s.dev.grid.nextClose) ∧
    (∃ (n : Nat) (s : State), n = s.dev.grid.nextClose ∧ FrameOn n s.dev ∧ n - 2 ≤ s.dev.enc.nextMerge) ∧
    (∃ (n : Nat) (s : State), n = s.dev.grid.nextClose ∧ ringPassed s.dev n = true) ∧
    (∃ (s : State), ringPassed s.dev s.dev.grid.nextClose = false) :=
  ⟨⟨1, 0, ⟨1001, ⟨7, 256, false⟩, 0⟩, (on [] fun d => { d with grid := { d.grid with nextClose := 1 }, fab := { d.fab with vtoks := [⟨1001, ⟨7, 256, false⟩, 0⟩, ⟨1001, ⟨8, 256, false⟩, 0⟩] } }), by decide +kernel⟩,
   ⟨1, ⟨9000, ⟨7, 256, false⟩, 0⟩, (on [] fun d => { d with fab := { d.fab with vtoks := [⟨9000, ⟨7, 256, false⟩, 0⟩] } }), by decide +kernel⟩,
   ⟨2, (on []), by decide +kernel⟩,
   ⟨1, (on [] fun d => { d with grid := { d.grid with nextClose := 1 } }), by decide +kernel, by unfold FrameOn; decide +kernel, by decide +kernel⟩,
   ⟨1, (on [] fun d => { d with grid := { d.grid with nextClose := 1 } }), by decide +kernel⟩,
   ⟨(on []), by decide +kernel⟩⟩

theorem test_meets_verdict_collector_2 :
    (∃ (n : Nat) (x : RWrite) (r : List RWrite) (s : State), s.dev.fab.rwrites = x :: r ∧ ((∀ y ∈ r, x.due ≤ y.due)) ∧ n = fullFrame (curFrame s.dev) (tagFrame x.tag) ∧ (¬ (n < s.dev.grid.nextSend ∨ (n < s.dev.grid.nextT ∧ sendAt s.dev n < x.due)))) ∧
    (∃ (n : Nat) (x : RWrite) (r : List RWrite) (s : State), s.dev.fab.rwrites = x :: r ∧ ((∀ y ∈ r, x.due ≤ y.due)) ∧ n = fullFrame (curFrame s.dev) (tagFrame x.tag) ∧ ((n < s.dev.grid.nextSend ∨ (n < s.dev.grid.nextT ∧ sendAt s.dev n < x.due)))) ∧
    (∃ (n : Nat) (c : Contrib) (s : State), n = s.dev.grid.nextSend ∧ ringPassed s.dev n = true ∧ frameRuns s.dev n = true ∧ dget R.POWER_STATE s.dev = 0 ∧ c = (freeContrib (ownContrib s.dev n) s.dev).1) ∧
    (∃ (n : Nat) (s : State), n = s.dev.grid.nextSend ∧ ringPassed s.dev n = true ∧ (frameRuns s.dev n = false ∨ dget R.POWER_STATE s.dev ≠ 0)) ∧
    (∃ (n late pois : Nat) (s : State), n = s.dev.grid.nextDead ∧ FrameOn n s.dev ∧ n < s.dev.grid.nextSend ∧ n < s.dev.grid.nextClose ∧ late = (((List.range 7).filter (fun k => decide ((ringWord s.dev n k).2 = 2))).map (fun k => bits (dget (R.RING_WORD_SELECT k) s.dev) 7 1)).eraseDups.length ∧ pois = (List.range 7).countP (fun k => decide ((ringWord s.dev n k).2 = 3))) ∧
    (∃ (n : Nat) (s : State), n = s.dev.grid.nextDead ∧ ringPassed s.dev n = true ∧ (frameOf s.dev n).lost = true ∧ n < s.dev.grid.nextSend ∧ n < s.dev.grid.nextClose) :=
  ⟨⟨1, ⟨1001, 256, 3, 77, true⟩, [⟨1001, 256, 2, 7, true⟩], (on [] fun d => { d with grid := { d.grid with nextSend := 1 }, fab := { d.fab with rwrites := [⟨1001, 256, 3, 77, true⟩, ⟨1001, 256, 2, 7, true⟩] } }), by decide +kernel⟩,
   ⟨1, ⟨9000, 256, 3, 77, true⟩, [], (on [] fun d => { d with fab := { d.fab with rwrites := [⟨9000, 256, 3, 77, true⟩] } }), by decide +kernel⟩,
   ⟨1, ((freeContrib (ownContrib (on [((R.RING_LINK_STATE_W), 2)] fun d => { d with lnk := { d.lnk with size := 2 }, grid := { d.grid with nextSend := 1 }, frames := [(1, { Frame.rest with contrib := [(3, some 77)] })] }).dev 1) (on [((R.RING_LINK_STATE_W), 2)] fun d => { d with lnk := { d.lnk with size := 2 }, grid := { d.grid with nextSend := 1 }, frames := [(1, { Frame.rest with contrib := [(3, some 77)] })] }).dev).1), ((on [((R.RING_LINK_STATE_W), 2)] fun d => { d with lnk := { d.lnk with size := 2 }, grid := { d.grid with nextSend := 1 }, frames := [(1, { Frame.rest with contrib := [(3, some 77)] })] })), by decide +kernel, by decide +kernel, by decide +kernel, by decide +kernel, rfl⟩,
   ⟨1, (on [] fun d => { d with grid := { d.grid with nextSend := 1 }, frames := [(1, { Frame.rest with lost := true })] }), by decide +kernel⟩,
   ⟨1, ((((List.range 7).filter (fun k => decide ((ringWord (on [(R.RING_SIZE, 3), (R.RING_LINK_STATE_W, 2), (R.RING_WORD_SELECT 2, 9)] fun d => { d with grid := { d.grid with nextDead := 1 } }).dev 1 k).2 = 2))).map (fun k => bits (dget (R.RING_WORD_SELECT k) (on [(R.RING_SIZE, 3), (R.RING_LINK_STATE_W, 2), (R.RING_WORD_SELECT 2, 9)] fun d => { d with grid := { d.grid with nextDead := 1 } }).dev) 7 1)).eraseDups.length), ((List.range 7).countP (fun k => decide ((ringWord (on [(R.RING_SIZE, 3), (R.RING_LINK_STATE_W, 2), (R.RING_WORD_SELECT 2, 9)] fun d => { d with grid := { d.grid with nextDead := 1 } }).dev 1 k).2 = 3))), ((on [(R.RING_SIZE, 3), (R.RING_LINK_STATE_W, 2), (R.RING_WORD_SELECT 2, 9)] fun d => { d with grid := { d.grid with nextDead := 1 } })), by decide +kernel, by unfold FrameOn; decide +kernel, by decide +kernel, by decide +kernel, rfl, rfl⟩,
   ⟨1, (on [] fun d => { d with grid := { d.grid with nextDead := 1 }, frames := [(1, { Frame.rest with lost := true })] }), by decide +kernel⟩⟩

theorem test_meets_verdict_issue_and_lines_1 :
    (∃ (n w : Nat) (safe : Bool) (s : State), n = s.dev.grid.nextIssue ∧ s.dev.grid.endF = none ∧ FrameOn n s.dev ∧ n < s.dev.grid.nextDead ∧ ((dget R.MIRROR_ROLE s.dev ≠ 0 → n < s.dev.grid.nextAlone)) ∧ s.dev.undef = false ∧ RingTakes 0 s.dev ∧ w = verdictWord s.dev n ∧ safe = (decide (dget R.MIRROR_ROLE s.dev = 2 ∧ dget R.MIRROR_LINE_POLICY s.dev = 1 ∧ drivesLines n s.dev = false) || decide (n < s.dev.flt.safeBelow))) ∧
    (∃ (n : Nat) (safe : Bool) (s : State), n = s.dev.grid.nextIssue ∧ s.dev.grid.endF ≠ some n ∧ FrameOn n s.dev ∧ n < s.dev.grid.nextDead ∧ ((dget R.MIRROR_ROLE s.dev ≠ 0 → n < s.dev.grid.nextAlone)) ∧ safe = (decide (dget R.MIRROR_ROLE s.dev = 2 ∧ dget R.MIRROR_LINE_POLICY s.dev = 1 ∧ drivesLines n s.dev = false) || decide (n < s.dev.flt.safeBelow))) ∧
    (∃ (n : Nat) (s : State), n = s.dev.grid.nextIssue ∧ s.dev.grid.endF = some n) ∧
    (∃ (n : Nat) (s : State), n = s.dev.grid.nextIssue ∧ s.dev.grid.endF = none ∧ ringPassed s.dev n = true ∧ (frameOf s.dev n).lost = true ∧ n < s.dev.grid.nextDead ∧ dget R.MIRROR_ROLE s.dev = 0) ∧
    (∃ (s : State), s.dev.grid.endF = none ∧ ringPassed s.dev s.dev.grid.nextIssue = false) ∧
    (∃ (k t : Nat) (s : State), k < 32 ∧ tget none s.dev.trig.pulseEnd k = some t) :=
  ⟨⟨1, (verdictWord (on [] fun d => ringOn 0 { d with grid := { d.grid with nextIssue := 1, nextClose := 3 }, frames := [(1, { Frame.rest with closed := true, cls := 5 })] }).dev 1), false, ((on [] fun d => ringOn 0 { d with grid := { d.grid with nextIssue := 1, nextClose := 3 }, frames := [(1, { Frame.rest with closed := true, cls := 5 })] })), by decide +kernel, by decide +kernel, by unfold FrameOn; decide +kernel, by decide +kernel, by decide +kernel, by decide +kernel, by unfold RingTakes; decide +kernel, rfl, by decide +kernel⟩,
   ⟨1, false, (on [] fun d => ringOn 0 { d with undef := true, grid := { d.grid with nextIssue := 1 } }), by decide +kernel, by decide +kernel, by unfold FrameOn; decide +kernel, by decide +kernel⟩,
   ⟨1, (on [] fun d => ringOn 0 { d with grid := { d.grid with nextIssue := 1, endF := some 1 } }), by decide +kernel⟩,
   ⟨1, (on [] fun d => ringOn 0 { d with grid := { d.grid with nextIssue := 1 }, frames := [(1, { Frame.rest with lost := true })] }), by decide +kernel⟩,
   ⟨(on []), by decide +kernel⟩,
   ⟨31, 100500, (on [] fun d => { d with trig := { d.trig with pulseEnd := [(31, some 100500)] } }), by decide +kernel⟩⟩

theorem test_meets_verdict_issue_and_lines_2 :
    (∃ (k : Nat) (s : State), k < 32 ∧ tget none s.dev.trig.pulseEnd k = none) ∧
    (∃ (c mask : Nat) (s : State), Asks c s.dev ∧ mask < 2 ^ 32) :=
  ⟨⟨31, (on []), by decide +kernel⟩,
   ⟨0, (2 ^ 32 - 1), (on []), by unfold Asks; decide +kernel, by decide +kernel⟩⟩

theorem test_meets_patterns_and_triggers_1 :
    (∃ (n tk x : Nat) (a : Dev) (s : State), x = nextEval s.dev ∧ evalTick s.dev x = some (n, tk) ∧ (frameOf s.dev n).lost = false ∧ (frameOf s.dev n).paused = false ∧ a = advTo x s.dev) ∧
    (∃ (n tk x : Nat) (s : State), x = nextEval s.dev ∧ evalTick s.dev x = some (n, tk) ∧ ((frameOf s.dev n).lost = true ∨ (frameOf s.dev n).paused = true)) ∧
    (∃ (s : State), evalTick s.dev (nextEval s.dev) = none) ∧
    (∃ (p n tk x : Nat) (a : Dev) (s : State), p < 64 ∧ x = nextEval s.dev ∧ evalTick s.dev x = some (n, tk) ∧ (frameOf s.dev n).lost = false ∧ (frameOf s.dev n).paused = false ∧ a = advTo x s.dev ∧ evalGet s.dev (R.PAT_ENABLE p) = 1 ∧ evalGet s.dev (R.PAT_AUTO p) ≠ 0 ∧ (tget Pat.rest s.dev.trig.pats p).autoFrom.getD s.dev.trig.start + evalGet s.dev (R.PAT_AUTO p) ≤ x) ∧
    (∃ (p n tk x : Nat) (s : State), p < 64 ∧ x = nextEval s.dev ∧ evalTick s.dev x = some (n, tk) ∧ ((frameOf s.dev n).lost = true ∨ (frameOf s.dev n).paused = true) ∧ evalGet s.dev (R.PAT_ENABLE p) = 1 ∧ evalGet s.dev (R.PAT_AUTO p) ≠ 0 ∧ (tget Pat.rest s.dev.trig.pats p).autoFrom.getD s.dev.trig.start + evalGet s.dev (R.PAT_AUTO p) ≤ x) ∧
    (∃ (p : Nat) (s : State), p < 64 ∧ evalGet s.dev (R.PAT_AUTO p) = 0) :=
  ⟨⟨((frameTick (on [(R.PAT_ENABLE 5, 1), (R.PAT_MASK 5, 1), (R.PAT_GROUP 5, 3), (R.PAT_ENABLE 7, 1), (R.PAT_MASK 7, 2)] fun d => { d with trig := { d.trig with start := 1164 + fLen d }, now := 1100 + fLen d })).1), ((frameTick (on [(R.PAT_ENABLE 5, 1), (R.PAT_MASK 5, 1), (R.PAT_GROUP 5, 3), (R.PAT_ENABLE 7, 1), (R.PAT_MASK 7, 2)] fun d => { d with trig := { d.trig with start := 1164 + fLen d }, now := 1100 + fLen d })).2), (nextEval (on [(R.PAT_ENABLE 5, 1), (R.PAT_MASK 5, 1), (R.PAT_GROUP 5, 3), (R.PAT_ENABLE 7, 1), (R.PAT_MASK 7, 2)] fun d => { d with trig := { d.trig with start := 1164 + fLen d }, now := 1100 + fLen d }).dev), (advTo (nextEval (on [(R.PAT_ENABLE 5, 1), (R.PAT_MASK 5, 1), (R.PAT_GROUP 5, 3), (R.PAT_ENABLE 7, 1), (R.PAT_MASK 7, 2)] fun d => { d with trig := { d.trig with start := 1164 + fLen d }, now := 1100 + fLen d }).dev) (on [(R.PAT_ENABLE 5, 1), (R.PAT_MASK 5, 1), (R.PAT_GROUP 5, 3), (R.PAT_ENABLE 7, 1), (R.PAT_MASK 7, 2)] fun d => { d with trig := { d.trig with start := 1164 + fLen d }, now := 1100 + fLen d }).dev), ((on [(R.PAT_ENABLE 5, 1), (R.PAT_MASK 5, 1), (R.PAT_GROUP 5, 3), (R.PAT_ENABLE 7, 1), (R.PAT_MASK 7, 2)] fun d => { d with trig := { d.trig with start := 1164 + fLen d }, now := 1100 + fLen d })), rfl, by decide +kernel, by decide +kernel, by decide +kernel, rfl⟩,
   ⟨((frameTick (on [] fun d => { d with trig := { d.trig with start := 1164 + fLen d }, now := 1100 + fLen d, frames := [(1, { Frame.rest with lost := true }), (2, { Frame.rest with paused := true })] })).1), ((frameTick (on [] fun d => { d with trig := { d.trig with start := 1164 + fLen d }, now := 1100 + fLen d, frames := [(1, { Frame.rest with lost := true }), (2, { Frame.rest with paused := true })] })).2), (nextEval (on [] fun d => { d with trig := { d.trig with start := 1164 + fLen d }, now := 1100 + fLen d, frames := [(1, { Frame.rest with lost := true }), (2, { Frame.rest with paused := true })] }).dev), ((on [] fun d => { d with trig := { d.trig with start := 1164 + fLen d }, now := 1100 + fLen d, frames := [(1, { Frame.rest with lost := true }), (2, { Frame.rest with paused := true })] })), rfl, by decide +kernel⟩,
   ⟨(on [] fun d => { d with grid := { d.grid with b0 := 10 ^ 9 } }), by decide +kernel⟩,
   ⟨5, ((frameTick (on [(R.PAT_ENABLE 5, 1), (R.PAT_AUTO 5, 2)] fun d => { d with trig := { d.trig with start := 1164 + fLen d, lastEval := some (1170 + fLen d) }, now := 1100 + fLen d })).1), ((frameTick (on [(R.PAT_ENABLE 5, 1), (R.PAT_AUTO 5, 2)] fun d => { d with trig := { d.trig with start := 1164 + fLen d, lastEval := some (1170 + fLen d) }, now := 1100 + fLen d })).2), (nextEval (on [(R.PAT_ENABLE 5, 1), (R.PAT_AUTO 5, 2)] fun d => { d with trig := { d.trig with start := 1164 + fLen d, lastEval := some (1170 + fLen d) }, now := 1100 + fLen d }).dev), (advTo (nextEval (on [(R.PAT_ENABLE 5, 1), (R.PAT_AUTO 5, 2)] fun d => { d with trig := { d.trig with start := 1164 + fLen d, lastEval := some (1170 + fLen d) }, now := 1100 + fLen d }).dev) (on [(R.PAT_ENABLE 5, 1), (R.PAT_AUTO 5, 2)] fun d => { d with trig := { d.trig with start := 1164 + fLen d, lastEval := some (1170 + fLen d) }, now := 1100 + fLen d }).dev), ((on [(R.PAT_ENABLE 5, 1), (R.PAT_AUTO 5, 2)] fun d => { d with trig := { d.trig with start := 1164 + fLen d, lastEval := some (1170 + fLen d) }, now := 1100 + fLen d })), by decide +kernel, rfl, by decide +kernel, by decide +kernel, by decide +kernel, rfl, by decide +kernel⟩,
   ⟨5, ((frameTick (on [(R.PAT_ENABLE 5, 1), (R.PAT_AUTO 5, 2)] fun d => { d with trig := { d.trig with start := 1164 + fLen d, lastEval := some (1170 + fLen d) }, now := 1100 + fLen d, frames := [(1, { Frame.rest with lost := true }), (2, { Frame.rest with paused := true })] })).1), ((frameTick (on [(R.PAT_ENABLE 5, 1), (R.PAT_AUTO 5, 2)] fun d => { d with trig := { d.trig with start := 1164 + fLen d, lastEval := some (1170 + fLen d) }, now := 1100 + fLen d, frames := [(1, { Frame.rest with lost := true }), (2, { Frame.rest with paused := true })] })).2), (nextEval (on [(R.PAT_ENABLE 5, 1), (R.PAT_AUTO 5, 2)] fun d => { d with trig := { d.trig with start := 1164 + fLen d, lastEval := some (1170 + fLen d) }, now := 1100 + fLen d, frames := [(1, { Frame.rest with lost := true }), (2, { Frame.rest with paused := true })] }).dev), ((on [(R.PAT_ENABLE 5, 1), (R.PAT_AUTO 5, 2)] fun d => { d with trig := { d.trig with start := 1164 + fLen d, lastEval := some (1170 + fLen d) }, now := 1100 + fLen d, frames := [(1, { Frame.rest with lost := true }), (2, { Frame.rest with paused := true })] })), by decide +kernel, rfl, by decide +kernel⟩,
   ⟨5, (on []), by decide +kernel⟩⟩

theorem test_meets_patterns_and_triggers_2 :
    (∃ (t : Trigger) (r : List Trigger) (s : State), s.dev.trig.waiting = t :: r ∧ t.frame < s.dev.grid.nextIssue ∧ RingTakes 1 s.dev ∧ ((∀ c ∈ s.dev.store.caps, c.trig ≠ t.ident))) ∧
    (∃ (t : Trigger) (r : List Trigger) (s : State), s.dev.trig.waiting = t :: r ∧ (t.frame < s.dev.grid.nextIssue ∨ (frameOf s.dev t.frame).lost = true ∨ (running s.dev = false ∧ ending s.dev = false))) ∧
    (∃ (s : State), s.dev.trig.waiting = []) :=
  ⟨⟨⟨7, 1, 2, 3, 4, 5, 6, 0, 1, true, 0, 0, 1⟩, [], (on [] fun d => ringOn 1 { d with trig := { d.trig with waiting := [⟨7, 1, 2, 3, 4, 5, 6, 0, 1, true, 0, 0, 1⟩] } }), by decide +kernel, by decide +kernel, by unfold RingTakes; decide +kernel, by decide +kernel⟩,
   ⟨⟨7, 1, 2, 3, 4, 5, 6, 0, 1, true, 0, 0, 1⟩, [], (on [] fun d => ringOn 1 { d with trig := { d.trig with waiting := [⟨7, 1, 2, 3, 4, 5, 6, 0, 1, true, 0, 0, 1⟩] }, store := { d.store with caps := [cap0 fun c => { c with status := some 0, recDue := true }] } }), by decide +kernel⟩,
   ⟨(on []), by decide +kernel⟩⟩

theorem test_meets_mirror_words_1 :
    (∃ (n w fp : Nat) (s : State), n = s.dev.grid.nextMv ∧ ringPassed s.dev n = true ∧ n < s.dev.grid.nextDead ∧ ((64 < (frameOf s.dev n).la + (frameOf s.dev n).lr → n < s.dev.grid.nextAlone)) ∧ dget R.MIRROR_ROLE s.dev ≠ 0 ∧ frameRuns s.dev n = true ∧ s.dev.undef = false ∧ w = verdictWord s.dev n ∧ fp = (frameOf s.dev n).fpDigest.getD 0) ∧
    (∃ (n fp : Nat) (s : State), n = s.dev.grid.nextMv ∧ ringPassed s.dev n = true ∧ n < s.dev.grid.nextDead ∧ ((64 < (frameOf s.dev n).la + (frameOf s.dev n).lr → n < s.dev.grid.nextAlone)) ∧ dget R.MIRROR_ROLE s.dev ≠ 0 ∧ frameRuns s.dev n = true ∧ s.dev.undef = true ∧ fp = (frameOf s.dev n).fpDigest.getD 0) ∧
    (∃ (n w fp tw : Nat) (s : State), n = s.dev.grid.nextMv ∧ ringPassed s.dev n = true ∧ n < s.dev.grid.nextDead ∧ ((64 < (frameOf s.dev n).la + (frameOf s.dev n).lr → n < s.dev.grid.nextAlone)) ∧ dget R.MIRROR_ROLE s.dev ≠ 0 ∧ frameRuns s.dev n = true ∧ s.dev.undef = false ∧ w = verdictWord s.dev n ∧ fp = (frameOf s.dev n).fpDigest.getD 0 ∧ tget none s.dev.lnk.theirs n = some (tw, fp) ∧ bits w 58 56 = 0 ∧ bits tw 58 56 = 0 ∧ s.dev.lnk.rejoin = none ∧ s.dev.lnk.peerBack = none) ∧
    (∃ (s : State), ringPassed s.dev s.dev.grid.nextMv = false) ∧
    (∃ (n : Nat) (s : State), n = s.dev.grid.nextAlone ∧ ringPassed s.dev n = true ∧ dget R.MIRROR_ROLE s.dev = 1 ∧ frameRuns s.dev n = true ∧ s.dev.lnk.status.contains n = true) ∧
    (∃ (n : Nat) (s : State), n = s.dev.grid.nextAlone ∧ ringPassed s.dev n = true ∧ dget R.MIRROR_ROLE s.dev ≠ 0 ∧ frameRuns s.dev n = false) :=
  ⟨⟨1, (verdictWord (on [(R.MIRROR_ROLE, 1), (R.MIRROR_LINK_STATE, 2)] fun d => { d with grid := { d.grid with nextMv := 1, nextAlone := 2 }, frames := [(1, { Frame.rest with fpDigest := some 77, cls := 5 })] }).dev 1), (((frameOf (on [(R.MIRROR_ROLE, 1), (R.MIRROR_LINK_STATE, 2)] fun d => { d with grid := { d.grid with nextMv := 1, nextAlone := 2 }, frames := [(1, { Frame.rest with fpDigest := some 77, cls := 5 })] }).dev 1).fpDigest).getD 0), ((on [(R.MIRROR_ROLE, 1), (R.MIRROR_LINK_STATE, 2)] fun d => { d with grid := { d.grid with nextMv := 1, nextAlone := 2 }, frames := [(1, { Frame.rest with fpDigest := some 77, cls := 5 })] })), by decide +kernel, by decide +kernel, by decide +kernel, by decide +kernel, by decide +kernel, by decide +kernel, ⟨by decide +kernel, rfl, rfl⟩⟩,
   ⟨1, (((frameOf (on [(R.MIRROR_ROLE, 1), (R.MIRROR_LINK_STATE, 2)] fun d => { d with undef := true, grid := { d.grid with nextMv := 1, nextAlone := 2 } }).dev 1).fpDigest).getD 0), ((on [(R.MIRROR_ROLE, 1), (R.MIRROR_LINK_STATE, 2)] fun d => { d with undef := true, grid := { d.grid with nextMv := 1, nextAlone := 2 } })), by decide +kernel, by decide +kernel, by decide +kernel, by decide +kernel, by decide +kernel, by decide +kernel, ⟨by decide +kernel, rfl⟩⟩,
   ⟨1, (verdictWord (on [(R.MIRROR_ROLE, 2), (R.MIRROR_LINK_STATE, 2)] fun d => { d with grid := { d.grid with nextMv := 1, nextAlone := 2 }, lnk := { d.lnk with theirs := [(1, some (2 ^ 59 + 4, 77))] }, frames := [(1, { Frame.rest with fpDigest := some 77, cls := 5 })] }).dev 1), (((frameOf (on [(R.MIRROR_ROLE, 2), (R.MIRROR_LINK_STATE, 2)] fun d => { d with grid := { d.grid with nextMv := 1, nextAlone := 2 }, lnk := { d.lnk with theirs := [(1, some (2 ^ 59 + 4, 77))] }, frames := [(1, { Frame.rest with fpDigest := some 77, cls := 5 })] }).dev 1).fpDigest).getD 0), (2 ^ 59 + 4), ((on [(R.MIRROR_ROLE, 2), (R.MIRROR_LINK_STATE, 2)] fun d => { d with grid := { d.grid with nextMv := 1, nextAlone := 2 }, lnk := { d.lnk with theirs := [(1, some (2 ^ 59 + 4, 77))] }, frames := [(1, { Frame.rest with fpDigest := some 77, cls := 5 })] })), by decide +kernel, by decide +kernel, by decide +kernel, by decide +kernel, by decide +kernel, by decide +kernel, ⟨by decide +kernel, rfl, rfl, by decide +kernel⟩⟩,
   ⟨(on []), by decide +kernel⟩,
   ⟨1, (on [(R.MIRROR_ROLE, 1)] fun d => { d with grid := { d.grid with nextAlone := 1 }, lnk := { d.lnk with status := [1] } }), by decide +kernel⟩,
   ⟨1, (on [(R.MIRROR_ROLE, 1), (R.MIRROR_ACTIVE, 1)] fun d => { d with grid := { d.grid with nextAlone := 1 }, frames := [(1, { Frame.rest with lost := true })] }), by decide +kernel⟩⟩

theorem test_meets_mirror_words_2 :
    (∃ (s : State), ringPassed s.dev s.dev.grid.nextAlone = true ∧ dget R.MIRROR_ROLE s.dev = 0) ∧
    (∃ (n : Nat) (s : State), n = s.dev.grid.nextAlone ∧ ringPassed s.dev n = true ∧ dget R.MIRROR_ROLE s.dev ≠ 0 ∧ frameRuns s.dev n = true ∧ s.dev.lnk.status.contains n = false) ∧
    (∃ (s : State), ringPassed s.dev s.dev.grid.nextAlone = false) :=
  ⟨⟨(on [] fun d => { d with grid := { d.grid with nextAlone := 1 } }), by decide +kernel⟩,
   ⟨1, (on [(R.MIRROR_ROLE, 2)] fun d => { d with grid := { d.grid with nextAlone := 1 } }), by decide +kernel⟩,
   ⟨(on []), by decide +kernel⟩⟩

theorem test_meets_capture_store_1 :
    (∃ (half : Nat) (c : Cap) (u : Nat × CapChan) (s : State), half < 2 ∧ firstCap (s.dev.store.caps.filter (unitReady s.dev half)) = some c ∧ nextUnit c half = some u ∧ (¬ (nextUnit (copied s.dev half c u) 0 = none ∧ nextUnit (copied s.dev half c u) 1 = none))) ∧
    (∃ (half : Nat) (c : Cap) (u : Nat × CapChan) (s : State), half < 2 ∧ firstCap (s.dev.store.caps.filter (unitReady s.dev half)) = some c ∧ nextUnit c half = some u ∧ nextUnit (copied s.dev half c u) 0 = none ∧ nextUnit (copied s.dev half c u) 1 = none ∧ ((∀ t ∈ s.dev.trig.waiting, t.ident ≠ c.trig)) ∧ RingTakes 2 s.dev ∧ 15 < c.net) ∧
    (∃ (half : Nat) (c : Cap) (u : Nat × CapChan) (s : State), half < 2 ∧ firstCap (s.dev.store.caps.filter (unitReady s.dev half)) = some c ∧ nextUnit c half = some u ∧ nextUnit (copied s.dev half c u) 0 = none ∧ nextUnit (copied s.dev half c u) 1 = none) ∧
    (∃ (half : Nat) (s : State), half < 2 ∧ s.dev.store.caps.filter (unitReady s.dev half) = []) ∧
    (∃ (half : Nat) (c : Cap) (s : State), half < 2 ∧ firstCap (s.dev.store.caps.filter (unitLost s.dev half)) = some c ∧ blocksDone c ≠ 0 ∧ ((∀ t ∈ s.dev.trig.waiting, t.ident ≠ c.trig)) ∧ RingTakes 2 s.dev ∧ 15 < c.net) ∧
    (∃ (half : Nat) (c : Cap) (s : State), half < 2 ∧ firstCap (s.dev.store.caps.filter (unitLost s.dev half)) = some c ∧ blocksDone c ≠ 0) :=
  ⟨⟨0, cap0, ((0, ⟨4, 4, 1⟩)), (on [] (capAt cap0 20000)), by decide +kernel⟩,
   ⟨0, (cap0 (fun c => { c with doneW := 1 })), ((1, ⟨4, 4, 1⟩)), (on [] fun d => ringOn 2 (capAt (cap0 fun c => { c with doneW := 1 }) 20000 d)), by decide +kernel, by decide +kernel, by decide +kernel, by decide +kernel, by decide +kernel, by decide +kernel, ⟨by unfold RingTakes; decide +kernel, by decide +kernel⟩⟩,
   ⟨0, (cap0 (fun c => { c with doneW := 1 })), ((1, ⟨4, 4, 1⟩)), (on [] fun d => ringOn 2 (capAt (cap0 fun c => { c with doneW := 1 }) 20000 d)), by decide +kernel⟩,
   ⟨1, (on []), by decide +kernel⟩,
   ⟨0, (cap0 (fun c => { c with doneW := 1 })), (on [] fun d => ringOn 2 (capAt (cap0 fun c => { c with doneW := 1 }) 400000 d)), by decide +kernel, by decide +kernel, by decide +kernel, by decide +kernel, by unfold RingTakes; decide +kernel, by decide +kernel⟩,
   ⟨0, (cap0 (fun c => { c with doneW := 1 })), (on [] fun d => ringOn 2 (capAt (cap0 fun c => { c with doneW := 1 }) 400000 d)), by decide +kernel⟩⟩

theorem test_meets_capture_store_2 :
    (∃ (half : Nat) (c : Cap) (s : State), half < 2 ∧ firstCap (s.dev.store.caps.filter (unitLost s.dev half)) = some c ∧ blocksDone c = 0 ∧ ((∀ t ∈ s.dev.trig.waiting, t.ident ≠ c.trig)) ∧ RingTakes 2 s.dev) ∧
    (∃ (half : Nat) (c : Cap) (s : State), half < 2 ∧ firstCap (s.dev.store.caps.filter (unitLost s.dev half)) = some c ∧ blocksDone c = 0 ∧ ((∃ t ∈ s.dev.trig.waiting, t.ident = c.trig))) ∧
    (∃ (half : Nat) (s : State), half < 2 ∧ s.dev.store.caps.filter (unitLost s.dev half) = []) ∧
    (∃ (die : Nat), die < 32) ∧
    (∃ (page : Nat) (s : State), page < 32768 ∧ tget 0 s.dev.store.fails (page % 32) < 2) ∧
    (∃ (page : Nat) (s : State), page < 32768 ∧ 2 ≤ tget 0 s.dev.store.fails (page % 32) ∧ ((∀ c ∈ s.dev.store.caps, ∀ p ∈ c.pages, p % 32 ≠ page % 32))) :=
  ⟨⟨0, cap0, (on [] fun d => ringOn 2 (capAt cap0 400000 d)), by decide +kernel, by decide +kernel, by decide +kernel, by decide +kernel, by unfold RingTakes; decide +kernel⟩,
   ⟨0, cap0, (on [] fun d => ringOn 2 (capAt cap0 400000 { d with trig := { d.trig with waiting := [trigW] } })), by decide +kernel⟩,
   ⟨1, (on []), by decide +kernel⟩,
   ⟨31, by decide +kernel⟩,
   ⟨32767, (on [] fun d => { d with store := { d.store with fails := [(31, 1)] } }), by decide +kernel⟩,
   ⟨32767, (on [] fun d => { d with store := { d.store with fails := [(31, 2)] } }), by decide +kernel⟩⟩

theorem test_meets_capture_store_3 :
    (∃ (page : Nat) (s : State), page < 32768 ∧ 2 ≤ tget 0 s.dev.store.fails (page % 32)) ∧
    (∃ (c h k : Nat) (x : Cap) (s : State), Asks c s.dev ∧ h < 2 ^ 32 ∧ capOf s.dev h = some x ∧ x.status.isSome = true ∧ x.reading = [] ∧ x.revReading = false ∧ x.recDue = false ∧ x.slot = some k ∧ ((∀ q, q < 2 → ∀ j ∈ (clusOf s.dev q).queue, j.handle ≠ h))) ∧
    (∃ (c h k : Nat) (x : Cap) (s : State), Asks c s.dev ∧ h < 2 ^ 32 ∧ capOf s.dev h = some x ∧ x.status.isSome = true ∧ x.reading = [] ∧ x.revReading = false ∧ x.recDue = false ∧ x.slot = some k) ∧
    (∃ (c h : Nat) (s : State), Asks c s.dev ∧ h < 2 ^ 32 ∧ capOf s.dev h = none) ∧
    (∃ (c h : Nat) (x : Cap) (s : State), Asks c s.dev ∧ h < 2 ^ 32 ∧ capOf s.dev h = some x ∧ (x.status = none ∨ x.reading ≠ [] ∨ x.revReading = true ∨ x.recDue = true)) :=
  ⟨⟨32767, (on [] fun d => { d with store := { d.store with fails := [(31, 2)] } }), by decide +kernel⟩,
   ⟨0, hnd, 5, held, (up [] (capAt held 0)), by unfold Asks; decide +kernel, by decide +kernel⟩,
   ⟨0, hnd, 5, held, (up [] (capAt held 0)), by unfold Asks; decide +kernel, by decide +kernel⟩,
   ⟨0, (2 ^ 32 - 1), (up [] (capAt held 0)), by unfold Asks; decide +kernel, by decide +kernel⟩,
   ⟨0, hnd, cap0, (up [] (capAt cap0 0)), by unfold Asks; decide +kernel, by decide +kernel⟩⟩

theorem test_meets_stream_segments :
    (∃ (n lim size base : Nat) (g : Eng) (s : State), n < 16 ∧ g = engOf s.dev n ∧ segRoom s.dev n = true ∧ preparing s.dev = false ∧ (¬ segGone s.dev n) ∧ g.sent = 0 ∧ g.sentBytes = 0 ∧ segThere s.dev n = segBlocks s.dev n ∧ (segRest s.dev n).length ≤ lim ∧ 256 ≤ shareOf s.dev n ∧ size = bufSize s.dev n ∧ base = dget (R.DATA_BUF_ADDR n) s.dev ∧ g.head < size ∧ g.marks = [] ∧ inWindow s.dev base size = true ∧ RingTakes (16 + n) s.dev) ∧
    (∃ (n lim : Nat) (g : Eng) (x : Nat × Nat × (Dev × Writes)) (s : State), n < 16 ∧ g = engOf s.dev n ∧ segRoom s.dev n = true ∧ (¬ segGone s.dev n) ∧ (preparing s.dev = false ∨ g.sent ≠ 0) ∧ x = sendBursts n lim (segRest s.dev n) (s.dev, [])) ∧
    (∃ (n : Nat) (g : Eng) (s : State), n < 16 ∧ g = engOf s.dev n ∧ segRoom s.dev n = true ∧ segGone s.dev n ∧ g.sent ≠ 0 ∧ g.marks = [] ∧ RingTakes (16 + n) s.dev) ∧
    (∃ (n : Nat) (s : State), n < 16 ∧ ((segRoom s.dev n = false ∨ ((segGone s.dev n ∨ preparing s.dev = true) ∧ (engOf s.dev n).sent = 0)))) ∧
    (∃ (n k : Nat) (g : Eng) (s : State), n < 16 ∧ streams s.dev n = true ∧ g = engOf s.dev n ∧ g.sent = 0 ∧ blockGone s.dev n (g.seg * segBlocks s.dev n) = true ∧ k = max (g.seg + 1) ((ringFront s.dev - 140400) / segLen s.dev n) - g.seg) ∧
    (∃ (n : Nat) (s : State), n < 16 ∧ ((streams s.dev n = false ∨ (engOf s.dev n).sent ≠ 0 ∨ blockGone s.dev n ((engOf s.dev n).seg * segBlocks s.dev n) = false))) :=
  ⟨⟨15, 64, 65536, 4096, (engOf (on [(R.CHANNEL_STATE 15, 1), (R.DMA_KIND 15, 2), (R.GROUP_MODE 0, 2), (R.DATA_BUF_BYTES 15, 65536), (R.DATA_BUF_ADDR 15, 4096), (R.SEG_BLOCKS 15, 1), (R.GROUP_CHANNELS 0, 16), (R.RATE_SHARE 15, 256)] fun d => engAt 15 { Eng.rest with begun := true } { modPort 0 (fun x => { x with presentFrom := some 0, rate := 4, chans := 64 }) d with frames := [(2, { Frame.rest with ringB := 20000 })] }).dev 15), ((on [(R.CHANNEL_STATE 15, 1), (R.DMA_KIND 15, 2), (R.GROUP_MODE 0, 2), (R.DATA_BUF_BYTES 15, 65536), (R.DATA_BUF_ADDR 15, 4096), (R.SEG_BLOCKS 15, 1), (R.GROUP_CHANNELS 0, 16), (R.RATE_SHARE 15, 256)] fun d => engAt 15 { Eng.rest with begun := true } { modPort 0 (fun x => { x with presentFrom := some 0, rate := 4, chans := 64 }) d with frames := [(2, { Frame.rest with ringB := 20000 })] })), by decide +kernel, rfl, by decide +kernel, by decide +kernel, by unfold segGone; decide +kernel, by decide +kernel, by decide +kernel, by decide +kernel, by decide +kernel, by decide +kernel, by decide +kernel, ⟨by decide +kernel, by decide +kernel, by decide +kernel, by decide +kernel, by unfold RingTakes; decide +kernel⟩⟩,
   ⟨15, 1, (engOf (on [(R.CHANNEL_STATE 15, 1), (R.DMA_KIND 15, 2), (R.GROUP_MODE 0, 2), (R.DATA_BUF_BYTES 15, 65536), (R.DATA_BUF_ADDR 15, 4096), (R.SEG_BLOCKS 15, 1), (R.GROUP_CHANNELS 0, 16), (R.RATE_SHARE 15, 256)] fun d => engAt 15 { Eng.rest with begun := true } { modPort 0 (fun x => { x with presentFrom := some 0, rate := 4, chans := 64 }) d with frames := [(2, { Frame.rest with ringB := 20000 })] }).dev 15), (sendBursts 15 1 (segRest (on [(R.CHANNEL_STATE 15, 1), (R.DMA_KIND 15, 2), (R.GROUP_MODE 0, 2), (R.DATA_BUF_BYTES 15, 65536), (R.DATA_BUF_ADDR 15, 4096), (R.SEG_BLOCKS 15, 1), (R.GROUP_CHANNELS 0, 16), (R.RATE_SHARE 15, 256)] fun d => engAt 15 { Eng.rest with begun := true } { modPort 0 (fun x => { x with presentFrom := some 0, rate := 4, chans := 64 }) d with frames := [(2, { Frame.rest with ringB := 20000 })] }).dev 15) ((on [(R.CHANNEL_STATE 15, 1), (R.DMA_KIND 15, 2), (R.GROUP_MODE 0, 2), (R.DATA_BUF_BYTES 15, 65536), (R.DATA_BUF_ADDR 15, 4096), (R.SEG_BLOCKS 15, 1), (R.GROUP_CHANNELS 0, 16), (R.RATE_SHARE 15, 256)] fun d => engAt 15 { Eng.rest with begun := true } { modPort 0 (fun x => { x with presentFrom := some 0, rate := 4, chans := 64 }) d with frames := [(2, { Frame.rest with ringB := 20000 })] }).dev, [])), ((on [(R.CHANNEL_STATE 15, 1), (R.DMA_KIND 15, 2), (R.GROUP_MODE 0, 2), (R.DATA_BUF_BYTES 15, 65536), (R.DATA_BUF_ADDR 15, 4096), (R.SEG_BLOCKS 15, 1), (R.GROUP_CHANNELS 0, 16), (R.RATE_SHARE 15, 256)] fun d => engAt 15 { Eng.rest with begun := true } { modPort 0 (fun x => { x with presentFrom := some 0, rate := 4, chans := 64 }) d with frames := [(2, { Frame.rest with ringB := 20000 })] })), by decide +kernel, rfl, by decide +kernel, by unfold segGone; decide +kernel, by decide +kernel, rfl⟩,
   ⟨15, (engOf (on [(R.CHANNEL_STATE 15, 1), (R.DMA_KIND 15, 2), (R.GROUP_MODE 0, 2), (R.DATA_BUF_BYTES 15, 65536), (R.DATA_BUF_ADDR 15, 4096), (R.SEG_BLOCKS 15, 2), (R.GROUP_CHANNELS 0, 16), (R.RATE_SHARE 15, 256)] fun d => engAt 15 { Eng.rest with begun := true, sent := 1, sentBytes := 4096 } { modPort 0 (fun x => { x with presentFrom := some 0, rate := 4, chans := 64 }) d with frames := [(2, { Frame.rest with ringB := 400000 })] }).dev 15), ((on [(R.CHANNEL_STATE 15, 1), (R.DMA_KIND 15, 2), (R.GROUP_MODE 0, 2), (R.DATA_BUF_BYTES 15, 65536), (R.DATA_BUF_ADDR 15, 4096), (R.SEG_BLOCKS 15, 2), (R.GROUP_CHANNELS 0, 16), (R.RATE_SHARE 15, 256)] fun d => engAt 15 { Eng.rest with begun := true, sent := 1, sentBytes := 4096 } { modPort 0 (fun x => { x with presentFrom := some 0, rate := 4, chans := 64 }) d with frames := [(2, { Frame.rest with ringB := 400000 })] })), by decide +kernel, rfl, by decide +kernel, by unfold segGone; decide +kernel, by decide +kernel, by decide +kernel, by unfold RingTakes; decide +kernel⟩,
   ⟨15, (on []), by decide +kernel, by unfold segGone; decide +kernel⟩,
   ⟨15, (max ((engOf (on [(R.CHANNEL_STATE 15, 1), (R.DMA_KIND 15, 2), (R.GROUP_MODE 0, 2), (R.DATA_BUF_BYTES 15, 65536), (R.DATA_BUF_ADDR 15, 4096), (R.SEG_BLOCKS 15, 1), (R.GROUP_CHANNELS 0, 16), (R.RATE_SHARE 15, 256)] fun d => engAt 15 { Eng.rest with begun := true } { modPort 0 (fun x => { x with presentFrom := some 0, rate := 4, chans := 64 }) d with frames := [(2, { Frame.rest with ringB := 400000 })] }).dev 15).seg + 1) ((ringFront (on [(R.CHANNEL_STATE 15, 1), (R.DMA_KIND 15, 2), (R.GROUP_MODE 0, 2), (R.DATA_BUF_BYTES 15, 65536), (R.DATA_BUF_ADDR 15, 4096), (R.SEG_BLOCKS 15, 1), (R.GROUP_CHANNELS 0, 16), (R.RATE_SHARE 15, 256)] fun d => engAt 15 { Eng.rest with begun := true } { modPort 0 (fun x => { x with presentFrom := some 0, rate := 4, chans := 64 }) d with frames := [(2, { Frame.rest with ringB := 400000 })] }).dev - 140400) / segLen (on [(R.CHANNEL_STATE 15, 1), (R.DMA_KIND 15, 2), (R.GROUP_MODE 0, 2), (R.DATA_BUF_BYTES 15, 65536), (R.DATA_BUF_ADDR 15, 4096), (R.SEG_BLOCKS 15, 1), (R.GROUP_CHANNELS 0, 16), (R.RATE_SHARE 15, 256)] fun d => engAt 15 { Eng.rest with begun := true } { modPort 0 (fun x => { x with presentFrom := some 0, rate := 4, chans := 64 }) d with frames := [(2, { Frame.rest with ringB := 400000 })] }).dev 15) - (engOf (on [(R.CHANNEL_STATE 15, 1), (R.DMA_KIND 15, 2), (R.GROUP_MODE 0, 2), (R.DATA_BUF_BYTES 15, 65536), (R.DATA_BUF_ADDR 15, 4096), (R.SEG_BLOCKS 15, 1), (R.GROUP_CHANNELS 0, 16), (R.RATE_SHARE 15, 256)] fun d => engAt 15 { Eng.rest with begun := true } { modPort 0 (fun x => { x with presentFrom := some 0, rate := 4, chans := 64 }) d with frames := [(2, { Frame.rest with ringB := 400000 })] }).dev 15).seg), (engOf (on [(R.CHANNEL_STATE 15, 1), (R.DMA_KIND 15, 2), (R.GROUP_MODE 0, 2), (R.DATA_BUF_BYTES 15, 65536), (R.DATA_BUF_ADDR 15, 4096), (R.SEG_BLOCKS 15, 1), (R.GROUP_CHANNELS 0, 16), (R.RATE_SHARE 15, 256)] fun d => engAt 15 { Eng.rest with begun := true } { modPort 0 (fun x => { x with presentFrom := some 0, rate := 4, chans := 64 }) d with frames := [(2, { Frame.rest with ringB := 400000 })] }).dev 15), ((on [(R.CHANNEL_STATE 15, 1), (R.DMA_KIND 15, 2), (R.GROUP_MODE 0, 2), (R.DATA_BUF_BYTES 15, 65536), (R.DATA_BUF_ADDR 15, 4096), (R.SEG_BLOCKS 15, 1), (R.GROUP_CHANNELS 0, 16), (R.RATE_SHARE 15, 256)] fun d => engAt 15 { Eng.rest with begun := true } { modPort 0 (fun x => { x with presentFrom := some 0, rate := 4, chans := 64 }) d with frames := [(2, { Frame.rest with ringB := 400000 })] })), by decide +kernel, by decide +kernel, rfl, by decide +kernel, by decide +kernel, rfl⟩,
   ⟨15, (on []), by decide +kernel⟩⟩

theorem test_meets_transfers_1 :
    (∃ (c n v : Nat) (s : State), Asks c s.dev ∧ n < 16 ∧ v < 2 ^ 32) ∧
    (∃ (n moved : Nat) (w : List Nat) (s : State), n < 16 ∧ w.length = 8 ∧ ((∀ x ∈ w, x < 2 ^ 64)) ∧ moved < 2 ^ 64 ∧ transfers s.dev n = true ∧ hostOpen s.dev = true ∧ (engOf s.dev n).cur = none ∧ preparing s.dev = false ∧ descCheck s.dev w ≠ 0 ∧ descOp w ≠ 2 ∧ descOp w ≠ 3) ∧
    (∃ (n moved : Nat) (w : List Nat) (s : State), n < 16 ∧ w.length = 8 ∧ ((∀ x ∈ w, x < 2 ^ 64)) ∧ moved < 2 ^ 64 ∧ transfers s.dev n = true ∧ hostOpen s.dev = true ∧ (engOf s.dev n).cur = none ∧ preparing s.dev = false ∧ descCheck s.dev w ≠ 0 ∧ descOp w = 2) ∧
    (∃ (n moved k : Nat) (w : List Nat) (bs : List Nat) (ws : Writes) (c : Cap) (s : State) (mk : Instr), n < 16 ∧ w.length = 8 ∧ ((∀ x ∈ w, x < 2 ^ 64)) ∧ moved < 2 ^ 64 ∧ transfers s.dev n = true ∧ hostOpen s.dev = true ∧ 256 ≤ shareOf s.dev n ∧ (engOf s.dev n).cur = none ∧ preparing s.dev = false ∧ descCheck s.dev w = 0 ∧ capOf s.dev (descHandle w) = some c ∧ c.valid = c.blocks ∧ bs = ((layoutBytes (descLayout w) ((c.west ++ c.east).map (capSamples c))).drop (descOffset w)).take (descLength w) ∧ ws = within moved (bursts (bs.length + 1) (descDst w) bs) ∧ k = (ws.map (fun x => x.2.length)).sum ∧ mk ∈ (if descOp w = 1 then [Instr.descCopy n w moved] else if descOp w = 2 then [Instr.descCopyRelease n w moved] else [])) ∧
    (∃ (n moved : Nat) (w : List Nat) (s : State), n < 16 ∧ w.length = 8 ∧ ((∀ x ∈ w, x < 2 ^ 64)) ∧ moved < 2 ^ 64 ∧ ((transfers s.dev n = false ∨ hostOpen s.dev = false ∨ ((engOf s.dev n).cur = none ∧ preparing s.dev = true) ∨ ((engOf s.dev n).cur.any (fun x => decide (x.words = w ∧ x.status = 0)) = true ∧ (capOf s.dev (descHandle w)).any (fun c => decide (c.status = some 3)) = true)))) ∧
    (∃ (n moved : Nat) (w : List Nat) (s : State), n < 16 ∧ w.length = 8 ∧ ((∀ x ∈ w, x < 2 ^ 64)) ∧ moved < 2 ^ 64 ∧ ((transfers s.dev n = false ∨ hostOpen s.dev = false ∨ ((engOf s.dev n).cur = none ∧ preparing s.dev = true) ∨ ((engOf s.dev n).cur.any (fun x => decide (x.words = w ∧ x.status = 0)) = true ∧ (capOf s.dev (descHandle w)).any (fun c => decide (c.status = some 3)) = true)))) :=
  ⟨⟨0, 15, 16, (up []), by unfold Asks; decide +kernel, by decide +kernel⟩,
   ⟨15, 8, [0, 0, 0, 0, 9, 0, 0, 0], (up [(R.CHANNEL_STATE 15, 1), (R.DMA_KIND 15, 1), (R.DESC_PRODUCER 15, 1)]), by decide +kernel⟩,
   ⟨15, 8, [2 * 2 ^ 56, 0, 0, 0, 9, 0, 0, 0], (up [(R.CHANNEL_STATE 15, 1), (R.DMA_KIND 15, 1), (R.DESC_PRODUCER 15, 1)]), by decide +kernel⟩,
   ⟨15, 8, 0, [2 ^ 56 + hnd, 4, 16, 8192, 9, 0, 0, 0], [2, 0, 3, 0, 4, 0, 5, 0, 6, 0, 7, 0, 8, 0, 9, 0], (within 8 (bursts 17 8192 [2, 0, 3, 0, 4, 0, 5, 0, 6, 0, 7, 0, 8, 0, 9, 0])), held, ((up [(R.CHANNEL_STATE 15, 1), (R.DMA_KIND 15, 1), (R.DESC_PRODUCER 15, 1), (R.RATE_SHARE 15, 256)] fun d => winOn (capAt held 0 d))), (.descCopy 15 [2 ^ 56 + hnd, 4, 16, 8192, 9, 0, 0, 0] 8), by decide +kernel, by decide +kernel, by decide +kernel, by decide +kernel, by decide +kernel, by decide +kernel, ⟨by decide +kernel, by decide +kernel, by decide +kernel, by decide +kernel, by decide +kernel, by decide +kernel, by decide +kernel, ⟨rfl, by decide +kernel⟩⟩⟩,
   ⟨15, 8, [2 ^ 56, 0, 0, 0, 9, 0, 0, 0], (up []), by decide +kernel⟩,
   ⟨15, 8, [3 * 2 ^ 56, 0, 0, 0, 9, 0, 0, 0], (up []), by decide +kernel⟩⟩

theorem test_meets_transfers_2 :
    (∃ (n : Nat) (w : List Nat) (x : Cap) (s : State), n < 16 ∧ w.length = 8 ∧ ((∀ y ∈ w, y < 2 ^ 64)) ∧ transfers s.dev n = true ∧ hostOpen s.dev = true ∧ preparing s.dev = false ∧ (engOf s.dev n).cur = none ∧ descOp w = 3 ∧ descCheck s.dev w = 0 ∧ capOf s.dev (descHandle w) = some x ∧ x.reading = [] ∧ x.revReading = false) ∧
    (∃ (n : Nat) (w : List Nat) (s : State), n < 16 ∧ w.length = 8 ∧ ((∀ y ∈ w, y < 2 ^ 64)) ∧ transfers s.dev n = true ∧ hostOpen s.dev = true ∧ preparing s.dev = false ∧ (engOf s.dev n).cur = none ∧ descOp w = 3 ∧ descCheck s.dev w ≠ 0) ∧
    (∃ (n e : Nat) (x : Desc) (s : State), n < 16 ∧ (engOf s.dev n).cur = some x ∧ x.status ≠ 0 ∧ RingTakes (16 + n) s.dev ∧ e = max (dget (R.DESC_RING_ENTRIES n) s.dev) 1) ∧
    (∃ (n e : Nat) (x : Desc) (s : State), n < 16 ∧ (engOf s.dev n).cur = some x ∧ (x.status ≠ 0 ∨ descOp x.words = 3 ∨ descLength x.words ≤ x.moved ∨ (capOf s.dev (descHandle x.words)).map Cap.status = some (some 3)) ∧ e = max (dget (R.DESC_RING_ENTRIES n) s.dev) 1) ∧
    (∃ (n e : Nat) (x : Desc) (c : Cap) (s : State), n < 16 ∧ (engOf s.dev n).cur = some x ∧ x.status = 0 ∧ descOp x.words = 2 ∧ descLength x.words ≤ x.moved ∧ capOf s.dev (descHandle x.words) = some c ∧ ((∀ q, q < 2 → ∀ j ∈ (clusOf s.dev q).queue, j.handle ≠ descHandle x.words)) ∧ c.status.isSome = true ∧ c.recDue = false ∧ c.revReading = false ∧ c.reading.erase n = [] ∧ RingTakes (16 + n) s.dev ∧ e = max (dget (R.DESC_RING_ENTRIES n) s.dev) 1) ∧
    (∃ (n : Nat) (s : State), n < 16 ∧ (engOf s.dev n).cur = none) :=
  ⟨⟨15, [3 * 2 ^ 56 + hnd, 0, 0, 0, 9, 0, 0, 0], held, (up [(R.CHANNEL_STATE 15, 1), (R.DMA_KIND 15, 1), (R.DESC_PRODUCER 15, 1)] (capAt held 0)), by decide +kernel⟩,
   ⟨15, [3 * 2 ^ 56, 0, 0, 0, 9, 0, 0, 0], (up [(R.CHANNEL_STATE 15, 1), (R.DMA_KIND 15, 1), (R.DESC_PRODUCER 15, 1)]), by decide +kernel⟩,
   ⟨15, 16, ⟨[2 ^ 56, 0, 0, 0, 9, 0, 0, 0], 6, 0⟩, (up [(R.DESC_RING_ENTRIES 15, 16), (R.DESC_CONSUMER 15, 15)] (engAt 15 { Eng.rest with cur := some ⟨[2 ^ 56, 0, 0, 0, 9, 0, 0, 0], 6, 0⟩ })), by decide +kernel, by decide +kernel, by decide +kernel, by unfold RingTakes; decide +kernel, by decide +kernel⟩,
   ⟨15, 16, ⟨[2 ^ 56, 0, 0, 0, 9, 0, 0, 0], 6, 0⟩, (up [(R.DESC_RING_ENTRIES 15, 16), (R.DESC_CONSUMER 15, 15)] (engAt 15 { Eng.rest with cur := some ⟨[2 ^ 56, 0, 0, 0, 9, 0, 0, 0], 6, 0⟩ })), by decide +kernel⟩,
   ⟨15, 16, ⟨[2 * 2 ^ 56 + hnd, 0, 16, 8192, 9, 0, 0, 0], 0, 16⟩, ({ held with reading := [15] }), (up [(R.DESC_RING_ENTRIES 15, 16), (R.DESC_CONSUMER 15, 15)] fun d => engAt 15 { Eng.rest with cur := some ⟨[2 * 2 ^ 56 + hnd, 0, 16, 8192, 9, 0, 0, 0], 0, 16⟩ } (capAt { held with reading := [15] } 0 d)), by decide +kernel, by decide +kernel, by decide +kernel, by decide +kernel, by decide +kernel, by decide +kernel, ⟨by decide +kernel, by decide +kernel, by decide +kernel, by decide +kernel, by decide +kernel, by unfold RingTakes; decide +kernel, by decide +kernel⟩⟩,
   ⟨15, (up []), by decide +kernel⟩⟩

theorem test_meets_transfers_3 :
    (∃ (n : Nat) (s : State), n < 16 ∧ transfers s.dev n = true ∧ (engOf s.dev n).cur = none ∧ (engOf s.dev n).tries < 2) ∧
    (∃ (n : Nat) (s : State), n < 16 ∧ transfers s.dev n = true ∧ (engOf s.dev n).cur = none ∧ 2 ≤ (engOf s.dev n).tries) ∧
    (∃ (c n : Nat) (s : State), Asks c s.dev ∧ n < 16 ∧ dget (R.CHANNEL_STATE n) s.dev = 0 ∧ ((dget (R.DMA_KIND n) s.dev = 1 ∧ dget (R.DESC_RING_ENTRIES n) s.dev ≠ 0 ∧ inWindow s.dev (dget (R.DESC_RING_ADDR n) s.dev) (dget (R.DESC_RING_ENTRIES n) s.dev * 64) = true) ∨ (dget (R.DMA_KIND n) s.dev = 2 ∧ dget (R.DATA_BUF_BYTES n) s.dev ≠ 0 ∧ inWindow s.dev (dget (R.DATA_BUF_ADDR n) s.dev) (dget (R.DATA_BUF_BYTES n) s.dev) = true)) ∧ preparing s.dev = false) ∧
    (∃ (c n : Nat) (s : State), Asks c s.dev ∧ n < 16 ∧ (dget (R.DMA_KIND n) s.dev = 0 ∨ dget (R.CHANNEL_STATE n) s.dev ≠ 0 ∨ preparing s.dev = true)) ∧
    (∃ (c n : Nat) (s : State), Asks c s.dev ∧ n < 16 ∧ dget (R.DMA_KIND n) s.dev ≠ 0) ∧
    (∃ (c n : Nat) (s : State), Asks c s.dev ∧ n < 16 ∧ dget (R.DMA_KIND n) s.dev = 0) :=
  ⟨⟨15, (up [(R.CHANNEL_STATE 15, 1), (R.DMA_KIND 15, 1), (R.DESC_PRODUCER 15, 1)]), by decide +kernel⟩,
   ⟨15, (up [(R.CHANNEL_STATE 15, 1), (R.DMA_KIND 15, 1), (R.DESC_PRODUCER 15, 1)] fun d => engAt 15 { Eng.rest with tries := 2 } d), by decide +kernel⟩,
   ⟨0, 15, (up [(R.DMA_KIND 15, 1), (R.DESC_RING_ENTRIES 15, 16), (R.DESC_RING_ADDR 15, 64)] winOn), by unfold Asks; decide +kernel, by decide +kernel⟩,
   ⟨0, 15, (up []), by unfold Asks; decide +kernel, by decide +kernel⟩,
   ⟨0, 15, (up [(R.DMA_KIND 15, 1), (R.CHANNEL_STATE 15, 1)]), by unfold Asks; decide +kernel, by decide +kernel⟩,
   ⟨0, 15, (up []), by unfold Asks; decide +kernel, by decide +kernel⟩⟩

theorem test_meets_transfers_4 :
    (∃ (n : Nat) (s : State), n < 16 ∧ dget (R.CHANNEL_STATE n) s.dev = 2 ∧ RingTakes (16 + n) s.dev ∧ (engOf s.dev n).cur = none ∧ (engOf s.dev n).sent = 0) ∧
    (∃ (n : Nat) (g : Eng) (s : State), n < 16 ∧ g = engOf s.dev n ∧ dget (R.CHANNEL_STATE n) s.dev = 2) ∧
    (∃ (n : Nat) (s : State), n < 16 ∧ dget (R.CHANNEL_STATE n) s.dev ≠ 2) ∧
    (∃ (n moved from0 : Nat) (w : List Nat) (c : Cap) (s : State) (mk : Instr), n < 16 ∧ w.length = 8 ∧ ((∀ x ∈ w, x < 2 ^ 64)) ∧ moved < 2 ^ 64 ∧ transfers s.dev n = true ∧ hostOpen s.dev = true ∧ capOf s.dev (descHandle w) = some c ∧ (((engOf s.dev n).cur = none ∧ preparing s.dev = false ∧ descCheck s.dev w = 0 ∧ from0 = 0) ∨ ((engOf s.dev n).cur = some ⟨w, 0, from0⟩ ∧ c.status ≠ some 3)) ∧ mk ∈ (if descOp w = 1 then [Instr.descCopy n w moved] else if descOp w = 2 then [Instr.descCopyRelease n w moved] else [])) ∧
    (∃ (n : Nat) (w : List Nat) (x : Cap) (s : State), n < 16 ∧ w.length = 8 ∧ ((∀ y ∈ w, y < 2 ^ 64)) ∧ transfers s.dev n = true ∧ hostOpen s.dev = true ∧ preparing s.dev = false ∧ (engOf s.dev n).cur = none ∧ descOp w = 3 ∧ descCheck s.dev w = 0 ∧ capOf s.dev (descHandle w) = some x ∧ (x.reading ≠ [] ∨ x.revReading = true)) ∧
    (∃ (n e : Nat) (x : Desc) (c : Cap) (s : State), n < 16 ∧ (engOf s.dev n).cur = some x ∧ x.status = 0 ∧ descOp x.words = 1 ∧ descLength x.words ≤ x.moved ∧ capOf s.dev (descHandle x.words) = some c ∧ RingTakes (16 + n) s.dev ∧ e = max (dget (R.DESC_RING_ENTRIES n) s.dev) 1) :=
  ⟨⟨15, (up [(R.CHANNEL_STATE 15, 2)] (engAt 15 Eng.rest)), by decide +kernel, by decide +kernel, by unfold RingTakes; decide +kernel, by decide +kernel⟩,
   ⟨15, Eng.rest, (up [(R.CHANNEL_STATE 15, 2)] (engAt 15 Eng.rest)), by decide +kernel, rfl, by decide +kernel⟩,
   ⟨15, (up []), by decide +kernel⟩,
   ⟨15, 8, 0, [2 ^ 56 + hnd, 4, 16, 8192, 9, 0, 0, 0], held, ((up [(R.CHANNEL_STATE 15, 1), (R.DMA_KIND 15, 1), (R.DESC_PRODUCER 15, 1)] fun d => winOn (capAt held 0 d))), (.descCopy 15 [2 ^ 56 + hnd, 4, 16, 8192, 9, 0, 0, 0] 8), by decide +kernel⟩,
   ⟨15, [3 * 2 ^ 56 + hnd, 0, 0, 0, 9, 0, 0, 0], ({ held with reading := [3] }), (up [(R.CHANNEL_STATE 15, 1), (R.DMA_KIND 15, 1), (R.DESC_PRODUCER 15, 1)] (capAt { held with reading := [3] } 0)), by decide +kernel⟩,
   ⟨15, 16, ⟨[2 ^ 56 + hnd, 0, 16, 8192, 9, 0, 0, 0], 0, 16⟩, ({ held with reading := [15] }), (up [(R.DESC_RING_ENTRIES 15, 16), (R.DESC_CONSUMER 15, 15)] fun d => engAt 15 { Eng.rest with cur := some ⟨[2 ^ 56 + hnd, 0, 16, 8192, 9, 0, 0, 0], 0, 16⟩ } (capAt { held with reading := [15] } 0 d)), by decide +kernel, by decide +kernel, by decide +kernel, by decide +kernel, by decide +kernel, by decide +kernel, ⟨by unfold RingTakes; decide +kernel, by decide +kernel⟩⟩⟩

theorem test_meets_review_engine_1 :
    (∃ (c : Nat) (j : Job) (n : Net) (s : State), c < 2 ∧ dget R.REVIEW_ENABLE s.dev = 1 ∧ dget R.REVIEW_SHED s.dev = 0 ∧ dget (R.CLUSTER_STATE c) s.dev = 0 ∧ clustersOn s.dev = true ∧ firstJob (clusOf s.dev c).queue = some j ∧ (capOf s.dev j.handle).isSome = true ∧ netOf s.dev j.net = some n ∧ partFits j n = true) ∧
    (∃ (c st : Nat) (j : Job) (s : State), c < 2 ∧ dget R.REVIEW_ENABLE s.dev = 1 ∧ dget R.REVIEW_SHED s.dev = 0 ∧ dget (R.CLUSTER_STATE c) s.dev = 0 ∧ clustersOn s.dev = true ∧ firstJob (clusOf s.dev c).queue = some j ∧ RingTakes 4 s.dev ∧ ((st = 3 ∧ capOf s.dev j.handle = none) ∨ (st = 6 ∧ (capOf s.dev j.handle).isSome = true ∧ netOf s.dev j.net = none) ∨ (st = 4 ∧ (capOf s.dev j.handle).isSome = true ∧ ∃ n, netOf s.dev j.net = some n ∧ partFits j n = false))) ∧
    (∃ (c : Nat) (s : State), c < 2 ∧ ((dget R.REVIEW_ENABLE s.dev ≠ 1 ∨ dget R.REVIEW_SHED s.dev = 1 ∨ dget (R.CLUSTER_STATE c) s.dev ≠ 0 ∨ clustersOn s.dev = false ∨ (clusOf s.dev c).queue = []))) ∧
    (∃ (c : Nat) (j : Job) (s : State), c < 2 ∧ oldestJob (clusOf s.dev c).queue = some j ∧ RingTakes 4 s.dev) ∧
    (∃ (c : Nat) (s : State), c < 2 ∧ (clusOf s.dev c).queue = []) ∧
    (∃ (c : Nat) (j : Job) (s : State), c < 2 ∧ (clusOf s.dev c).job = some j) :=
  ⟨⟨1, job0, net0, (up [] fun d => capAt held 0 { d with clus := [(1, ⟨[job0], none, [], []⟩)], ldr := { d.ldr with nets := [(3, some net0)] } }), by decide +kernel⟩,
   ⟨1, 3, job0, (up [] fun d => ringOn 4 { d with clus := [(1, ⟨[job0], none, [], []⟩)] }), by decide +kernel, by decide +kernel, by decide +kernel, by decide +kernel, by decide +kernel, by decide +kernel, ⟨by unfold RingTakes; decide +kernel, by decide +kernel⟩⟩,
   ⟨1, (up [(R.REVIEW_ENABLE, 0)]), by decide +kernel⟩,
   ⟨1, job0, (up [] fun d => ringOn 4 { d with clus := [(1, ⟨[job0], none, [], []⟩)] }), by decide +kernel, by decide +kernel, by unfold RingTakes; decide +kernel⟩,
   ⟨1, (up []), by decide +kernel⟩,
   ⟨1, job0, (up [(R.CLUSTER_STATE 1, 1)] fun d => capAt held 0 { d with clus := [(1, ⟨[], some job0, [], []⟩)], ldr := { d.ldr with nets := [(3, some net0)] } }), by decide +kernel⟩⟩

theorem test_meets_review_engine_2 :
    (∃ (c hits misses : Nat) (j : Job) (n : Net) (cache : List Nat) (s : State), c < 2 ∧ (clusOf s.dev c).job = some j ∧ netOf s.dev j.net = some n ∧ j.inputRead = true ∧ j.passOn = false ∧ j.pass < n.passes.length ∧ (hits, misses, cache) = (passPages n j.net j.pass).foldl (fun (a : Nat × Nat × List Nat) p => let q := pageReq (cacheRoom n j.pass) p a.2.2; if q.1 then (a.1, a.2.1 + 1, q.2) else (a.1 + 1, a.2.1, q.2)) (0, 0, (clusOf s.dev c).cache.take (cacheRoom n j.pass))) ∧
    (∃ (c ch k : Nat) (j : Job) (n : Net) (s : State), c < 2 ∧ (clusOf s.dev c).job = some j ∧ netOf s.dev j.net = some n ∧ j.passOn = true ∧ k = (if j.mode = 1 then 0 else ch)) ∧
    (∃ (c : Nat) (j : Job) (n : Net) (s : State), c < 2 ∧ (clusOf s.dev c).job = some j ∧ netOf s.dev j.net = some n ∧ j.passOn = false ∧ n.passes.length ≤ j.pass ∧ dget (R.CLUSTER_STATE c) s.dev ≠ 3 ∧ RingTakes 4 s.dev) ∧
    (∃ (c : Nat) (j : Job) (s : State), c < 2 ∧ (clusOf s.dev c).job = some j ∧ dget (R.CLUSTER_STATE c) s.dev ≠ 3 ∧ RingTakes 4 s.dev) ∧
    (∃ (c : Nat) (s : State), c < 2 ∧ (clusOf s.dev c).job = none) :=
  ⟨⟨1, 1, 2, ({ job0 with inputRead := true }), net0, (((passPages net0 3 0).foldl (fun (a : Nat × Nat × List Nat) p => let q := pageReq (cacheRoom net0 0) p a.2.2; if q.1 then (a.1, a.2.1 + 1, q.2) else (a.1 + 1, a.2.1, q.2)) (0, 0, [3 * 65536 + 1].take (cacheRoom net0 0))).2.2), (up [(R.CLUSTER_STATE 1, 1)] fun d => { d with clus := [(1, ⟨[], some { job0 with inputRead := true }, [3 * 65536 + 1], []⟩)], ldr := { d.ldr with nets := [(3, some net0)] } }), by decide +kernel⟩,
   ⟨1, 5, 5, ({ job0 with inputRead := true, passOn := true }), net0, (up [(R.CLUSTER_STATE 1, 1)] fun d => { d with clus := [(1, ⟨[], some { job0 with inputRead := true, passOn := true }, [3 * 65536 + 1], []⟩)], ldr := { d.ldr with nets := [(3, some net0)] } }), by decide +kernel⟩,
   ⟨1, ({ job0 with inputRead := true, pass := 1 }), net0, (up [(R.CLUSTER_STATE 1, 1)] fun d => ringOn 4 { d with clus := [(1, ⟨[], some { job0 with inputRead := true, pass := 1 }, [], []⟩)], ldr := { d.ldr with nets := [(3, some net0)] } }), by decide +kernel, by decide +kernel, by decide +kernel, by decide +kernel, by decide +kernel, by decide +kernel, by unfold RingTakes; decide +kernel⟩,
   ⟨1, job0, (up [(R.CLUSTER_STATE 1, 1)] fun d => ringOn 4 { d with clus := [(1, ⟨[], some job0, [], []⟩)] }), by decide +kernel, by decide +kernel, by decide +kernel, by unfold RingTakes; decide +kernel⟩,
   ⟨1, (up []), by decide +kernel⟩⟩

theorem test_meets_weight_encoder_1 :
    (∃ (c : Nat) (s : State), Asks c s.dev ∧ (dget R.ENC_STATE s.dev = 0 ∨ dget R.ENC_STATE s.dev = 5) ∧ dget R.ENC_LIST_COUNT s.dev ≠ 0 ∧ preparing s.dev = false) ∧
    (∃ (c : Nat) (s : State), Asks c s.dev ∧ dget R.ENC_STATE s.dev ≠ 0 ∧ dget R.ENC_STATE s.dev ≠ 5) ∧
    (∃ (c : Nat) (s : State), Asks c s.dev ∧ preparing s.dev = true) ∧
    (∃ (c : Nat) (s : State), Asks c s.dev ∧ dget R.ENC_STATE s.dev = 0 ∧ dget R.ENC_LIST_COUNT s.dev = 0 ∧ preparing s.dev = false) ∧
    (∃ (c : Nat) (s : State), Asks c s.dev ∧ dget R.ENC_STATE s.dev ≠ 2) ∧
    (∃ (c : Nat) (s : State), Asks c s.dev ∧ dget R.ENC_STATE s.dev ≠ 1 ∧ dget R.ENC_STATE s.dev ≠ 2 ∧ dget R.ENC_STATE s.dev ≠ 5) :=
  ⟨⟨0, (up [(R.ENC_STATE, 5), (R.ENC_ERROR, 9), (R.ENC_LIST_COUNT, 2)] encAt), by unfold Asks; decide +kernel, by decide +kernel⟩,
   ⟨0, (up [(R.ENC_STATE, 1)]), by unfold Asks; decide +kernel, by decide +kernel⟩,
   ⟨0, (up [(R.POWER_TRANSITION, 1)]), by unfold Asks; decide +kernel, by decide +kernel⟩,
   ⟨0, (up []), by unfold Asks; decide +kernel, by decide +kernel⟩,
   ⟨0, (up [(R.ENC_STATE, 3)]), by unfold Asks; decide +kernel, by decide +kernel⟩,
   ⟨0, (up [(R.ENC_STATE, 4)]), by unfold Asks; decide +kernel, by decide +kernel⟩⟩

theorem test_meets_weight_encoder_2 :
    (∃ (ws : List Nat) (key : Nat) (s : State), ws.length = 140 ∧ ((∀ w ∈ ws, w < 2 ^ 64)) ∧ dget R.ENC_STATE s.dev = 1 ∧ encoderOn s.dev = true ∧ blkCause s.dev ws = 0 ∧ physOf s.dev (blkX ws) (blkY ws) = some key) ∧
    (∃ (ws : List Nat) (s : State), ws.length = 140 ∧ ((∀ w ∈ ws, w < 2 ^ 64)) ∧ dget R.ENC_STATE s.dev = 1 ∧ encoderOn s.dev = true ∧ blkCause s.dev ws ≠ 0) ∧
    (∃ (s : State), dget R.ENC_STATE s.dev = 1) ∧
    (∃ (s : State), dget R.ENC_STATE s.dev ≠ 1) ∧
    (∃ (c : Nat) (s : State), Asks c s.dev ∧ dget R.ENC_STATE s.dev = 2 ∧ armed s.dev = true) ∧
    (∃ (c : Nat) (s : State), Asks c s.dev ∧ dget R.ENC_STATE s.dev = 2 ∧ armed s.dev = false) :=
  ⟨⟨blk1, 0, (up [(R.ENC_STATE, 1), (R.ENC_LIST_COUNT, 2), (R.SLOT_STATE 0, 2)] obj1At), by decide +kernel⟩,
   ⟨blkBad, (up [(R.ENC_STATE, 1)] obj1At), by decide +kernel⟩,
   ⟨(up [(R.ENC_STATE, 1)] encAt), by decide +kernel⟩,
   ⟨(up []), by decide +kernel⟩,
   ⟨0, (on [(R.ENC_STATE, 2)] encAt), by unfold Asks; decide +kernel, by decide +kernel⟩,
   ⟨0, (up [(R.ENC_STATE, 2)] encAt), by unfold Asks; decide +kernel, by decide +kernel⟩⟩

theorem test_meets_weight_encoder_3 :
    (∃ (c : Nat) (s : State), Asks c s.dev ∧ (dget R.ENC_STATE s.dev = 1 ∨ dget R.ENC_STATE s.dev = 2 ∨ dget R.ENC_STATE s.dev = 5)) ∧
    (∃ (s : State), dget R.ENC_STATE s.dev = 4 ∧ armed s.dev = true ∧ s.dev.enc.toCopy = []) ∧
    (∃ (s : State), dget R.ENC_STATE s.dev = 4 ∧ arrayState s.dev ≠ 2) ∧
    (∃ (n : Nat) (s : State), n = s.dev.grid.nextIssue ∧ s.dev.grid.endF = some (n + 1) ∧ arrayState s.dev = 2 ∧ dget R.ENC_STATE s.dev = 3 ∧ FrameOn n s.dev ∧ n < s.dev.grid.nextDead ∧ dget R.MIRROR_ROLE s.dev = 0 ∧ s.dev.undef = false ∧ RingTakes 0 s.dev ∧ dget R.RESTART_STATE s.dev = 0) ∧
    (∃ (s : State), (dget R.ENC_STATE s.dev ≠ 4 ∨ (arrayState s.dev = 2 ∧ s.dev.enc.toCopy ≠ []))) :=
  ⟨⟨0, (up [(R.ENC_STATE, 5)] encAt), by unfold Asks; decide +kernel, by decide +kernel⟩,
   ⟨(on [(R.ENC_STATE, 4)] encAt), by decide +kernel⟩,
   ⟨(up [(R.ENC_STATE, 4)] fun d => encAt { d with enc := { d.enc with toCopy := [0] } }), by decide +kernel⟩,
   ⟨1, (on [(R.ENC_STATE, 3)] fun d => encAt (ringOn 0 { d with grid := { d.grid with nextIssue := 1, endF := some 2 } })), by decide +kernel, by decide +kernel, by decide +kernel, by decide +kernel, by unfold FrameOn; decide +kernel, by decide +kernel, by decide +kernel, by decide +kernel, by unfold RingTakes; decide +kernel, by decide +kernel⟩,
   ⟨(up []), by decide +kernel⟩⟩

theorem test_meets_clip_counts :
    (∃ (n : Nat) (s : State), nextRun s.dev (s.dev.grid.nextClose - s.dev.enc.nextMerge) s.dev.enc.nextMerge = some n ∧ ((∀ c ∈ s.dev.enc.counts, c.mon < 4096))) ∧
    (∃ (s : State), mergeDue s.dev s.dev.enc.nextMerge = false) :=
  ⟨⟨1, (on [(R.CLIP_COUNT 4095, 7)] fun d => { d with grid := { d.grid with nextT := 5 }, enc := { d.enc with nextMerge := 1, counts := [⟨4095, 1, 1, 1⟩, ⟨3, 1, 1, 0⟩, ⟨4095, 2, 1, 1⟩] } }), by decide +kernel⟩,
   ⟨(on [] fun d => { d with enc := { d.enc with nextMerge := 5 } }), by decide +kernel⟩⟩

theorem test_meets_load_commands_1 :
    (∃ (c k : Nat) (s : State), Asks c s.dev ∧ k = dget R.LOAD_SLOT s.dev ∧ k < 4 ∧ dget R.STORE_STATE s.dev = 2 ∧ LoadIdle s.dev ∧ slotBarred s.dev 1 k = false) ∧
    (∃ (c k : Nat) (s : State), Asks c s.dev ∧ k = dget R.LOAD_SLOT s.dev ∧ k < 4 ∧ LoadIdle s.dev ∧ slotBarred s.dev 2 k = false) ∧
    (∃ (c k : Nat) (s : State), Asks c s.dev ∧ k = dget R.LOAD_SLOT s.dev ∧ dget R.STORE_STATE s.dev = 2 ∧ LoadIdle s.dev) ∧
    (∃ (c k : Nat) (s : State), Asks c s.dev ∧ k = dget R.LOAD_SLOT s.dev ∧ LoadIdle s.dev ∧ dget R.STORE_STATE s.dev = 2 ∧ slotBarred s.dev 1 k = true) ∧
    (∃ (c k : Nat) (s : State), Asks c s.dev ∧ k = dget R.LOAD_SLOT s.dev ∧ LoadIdle s.dev ∧ dget R.STORE_STATE s.dev = 2 ∧ slotBarred s.dev 2 k = true) ∧
    (∃ (c : Nat) (s : State), Asks c s.dev ∧ ((1 ≤ dget R.LOAD_STATE s.dev ∧ dget R.LOAD_STATE s.dev ≤ 5) ∨ preparing s.dev = true)) :=
  ⟨⟨0, 2, (up [(R.LOAD_SLOT, 2), (R.LOAD_ADDR, 4096), (R.LOAD_BYTES, 800), (R.LOAD_ERROR, 3)]), by unfold Asks; decide +kernel, by decide +kernel, by decide +kernel, by decide +kernel, by unfold LoadIdle; decide +kernel, by decide +kernel⟩,
   ⟨0, 2, (up [(R.LOAD_SLOT, 2), (R.SLOT_STATE 2, 2)]), by unfold Asks; decide +kernel, by decide +kernel, by decide +kernel, by unfold LoadIdle; decide +kernel, by decide +kernel⟩,
   ⟨0, 2, (up [(R.LOAD_SLOT, 2)]), by unfold Asks; decide +kernel, by decide +kernel, by decide +kernel, by unfold LoadIdle; decide +kernel⟩,
   ⟨0, 2, (up [(R.LOAD_SLOT, 2), (R.SLOT_STATE 2, 3)]), by unfold Asks; decide +kernel, by decide +kernel, by unfold LoadIdle; decide +kernel, by decide +kernel⟩,
   ⟨0, 2, (up [(R.LOAD_SLOT, 2), (R.SLOT_STATE 2, 0)]), by unfold Asks; decide +kernel, by decide +kernel, by unfold LoadIdle; decide +kernel, by decide +kernel⟩,
   ⟨0, (up [(R.LOAD_STATE, 5)]), by unfold Asks; decide +kernel, by decide +kernel⟩⟩

theorem test_meets_load_commands_2 :
    (∃ (c : Nat) (s : State), Asks c s.dev ∧ dget R.STORE_STATE s.dev ≠ 2) ∧
    (∃ (c x y : Nat) (s : State), Asks c s.dev ∧ x < 200 ∧ y < 128) ∧
    (∃ (c x y : Nat) (s : State), Asks c s.dev ∧ x < 256 ∧ y < 256 ∧ (199 < x ∨ 127 < y)) :=
  ⟨⟨0, (up [(R.STORE_STATE, 3)]), by unfold Asks; decide +kernel, by decide +kernel⟩,
   ⟨0, 199, 127, (up []), by unfold Asks; decide +kernel, by decide +kernel⟩,
   ⟨0, 200, 127, (up []), by unfold Asks; decide +kernel, by decide +kernel⟩⟩

theorem test_meets_load_phases_1 :
    (∃ (data : List Nat) (j : LoadJob) (s : State), ((∀ w ∈ data, w < 2 ^ 64)) ∧ s.dev.ldr.job = some j ∧ loaderOn s.dev = true ∧ j.cmd ≠ 2 ∧ j.slot < 4 ∧ dget R.LOAD_STATE s.dev = 1 ∧ (j.bytes + 7) / 8 ≤ data.length) ∧
    (∃ (data : List Nat) (j : LoadJob) (s : State), ((∀ w ∈ data, w < 2 ^ 64)) ∧ s.dev.ldr.job = some j ∧ loaderOn s.dev = true ∧ j.cmd ≠ 2 ∧ j.slot < 4 ∧ dget R.LOAD_STATE s.dev = 2) ∧
    (∃ (data : List Nat) (j : LoadJob) (s : State), ((∀ w ∈ data, w < 2 ^ 64)) ∧ s.dev.ldr.job = some j ∧ loaderOn s.dev = true ∧ j.cmd ≠ 2 ∧ j.slot < 4 ∧ dget R.LOAD_STATE s.dev = 3) ∧
    (∃ (data : List Nat) (j : LoadJob) (s : State), ((∀ w ∈ data, w < 2 ^ 64)) ∧ s.dev.ldr.job = some j ∧ loaderOn s.dev = true ∧ j.cmd ≠ 2 ∧ j.slot < 4 ∧ dget R.LOAD_STATE s.dev = 4) ∧
    (∃ (data : List Nat) (j : LoadJob) (s : State), ((∀ w ∈ data, w < 2 ^ 64)) ∧ s.dev.ldr.job = some j ∧ loaderOn s.dev = true ∧ j.cmd ≠ 2 ∧ j.slot < 4 ∧ dget R.LOAD_STATE s.dev = 5) ∧
    (∃ (data : List Nat) (j : LoadJob) (s : State), ((∀ w ∈ data, w < 2 ^ 64)) ∧ s.dev.ldr.job = some j ∧ loaderOn s.dev = true ∧ j.cmd = 2 ∧ j.slot < 4) :=
  ⟨⟨obj1, (job1 1 []), (up [(R.LOAD_STATE, 1)] (jobAt 1 [])), by decide +kernel⟩,
   ⟨[], (job1 1 obj1), (up [(R.LOAD_STATE, 2)] (jobAt 1 obj1)), by decide +kernel⟩,
   ⟨[], (job1 1 obj1), (up [(R.LOAD_STATE, 3)] (jobAt 1 obj1)), by decide +kernel⟩,
   ⟨[], (job1 1 obj1), (up [(R.LOAD_STATE, 4)] (jobAt 1 obj1)), by decide +kernel⟩,
   ⟨obj1, (job1 1 obj1), (up [(R.LOAD_STATE, 5)] (jobAt 1 obj1)), by decide +kernel⟩,
   ⟨[], (job1 2 []), (up [(R.LOAD_STATE, 5), (R.SLOT_STATE 2, 1), (R.PROGRAM_DIGEST 2, 7)] (jobAt 2 [])), by decide +kernel⟩⟩

theorem test_meets_load_phases_2 :
    (∃ (data : List Nat) (s : State), ((∀ w ∈ data, w < 2 ^ 64)) ∧ (s.dev.ldr.job = none ∨ loaderOn s.dev = false)) ∧
    (∃ (j : LoadJob) (s : State), s.dev.ldr.job = some j ∧ j.cmd ≠ 2 ∧ j.slot < 4 ∧ (dget R.LOAD_STATE s.dev = 1 ∨ dget R.LOAD_STATE s.dev = 5)) ∧
    (∃ (s : State), s.dev.ldr.job = none) ∧
    (∃ (data : List Nat) (j : LoadJob) (s : State), ((∀ w ∈ data, w < 2 ^ 64)) ∧ s.dev.ldr.job = some j ∧ loaderOn s.dev = true ∧ j.cmd ≠ 2 ∧ j.slot < 4 ∧ dget R.LOAD_STATE s.dev = 1 ∧ data.length < (j.bytes + 7) / 8) ∧
    (∃ (j : LoadJob) (s : State), s.dev.ldr.job = some j ∧ j.cmd = 1 ∧ j.slot < 4 ∧ (dget R.LOAD_STATE s.dev = 1 ∨ dget R.LOAD_STATE s.dev = 5)) :=
  ⟨⟨[], (up []), by decide +kernel⟩,
   ⟨(job1 3 []), (up [(R.LOAD_STATE, 1)] (jobAt 3 [])), by decide +kernel⟩,
   ⟨(up []), by decide +kernel⟩,
   ⟨[7], ({ job1 1 [] with bytes := 800 }), (up [(R.LOAD_STATE, 1)] fun d => { d with ldr := { d.ldr with job := some { job1 1 [] with bytes := 800 } } }), by decide +kernel⟩,
   ⟨(job1 1 obj1), (up [(R.LOAD_STATE, 5), (R.SLOT_STATE 2, 1)] (jobAt 1 obj1)), by decide +kernel⟩⟩

theorem test_meets_contexts_and_pause_1 :
    (∃ (c k f : Nat) (s : State), Asks c s.dev ∧ k < 4 ∧ f < 2 ^ 56 ∧ follows s.dev = false ∧ forwards s.dev = false ∧ running s.dev = true ∧ ((f = 0 ∨ s.dev.grid.nextC ≤ f)) ∧ s.dev.grid.nextC < 2 ^ 56 ∧ switchable s.dev k = true ∧ unsent s.dev = false) ∧
    (∃ (c k f : Nat) (s : State), Asks c s.dev ∧ k < 4 ∧ f < 2 ^ 56 ∧ follows s.dev = false ∧ ((armed s.dev = false ∨ ending s.dev = true ∨ switchable s.dev k = false ∨ (running s.dev = true ∧ forwards s.dev = false ∧ f ≠ 0 ∧ f < s.dev.grid.nextC)))) ∧
    (∃ (c k f : Nat) (s : State), Asks c s.dev ∧ k < 4 ∧ f < 2 ^ 56 ∧ follows s.dev = true) ∧
    (∃ (k g : Nat) (s : State), k < 4 ∧ tget none s.dev.ctx.drain k = some g ∧ ((running s.dev = true → g + 2 < s.dev.grid.nextT)) ∧ egressFree s.dev k = true) ∧
    (∃ (k : Nat) (s : State), k < 4 ∧ tget none s.dev.ctx.drain k = none) ∧
    (∃ (c v : Nat) (s : State), Asks c s.dev ∧ v < 2 ∧ ((v = 1 → switchable s.dev 3 = true))) :=
  ⟨⟨0, 3, 0, (on [(R.SLOT_STATE 3, 2)]), by unfold Asks; decide +kernel, by decide +kernel⟩,
   ⟨0, 3, 5, (up [(R.SLOT_STATE 3, 2)]), by unfold Asks; decide +kernel, by decide +kernel⟩,
   ⟨0, 3, 5, (on [(R.MIRROR_SYNC, 1), (R.MIRROR_ROLE, 2), (R.MIRROR_SYNC_STATE, 1)]), by unfold Asks; decide +kernel, by decide +kernel⟩,
   ⟨3, 0, (on [(R.SLOT_STATE 3, 4)] fun d => { d with grid := { d.grid with nextT := 3 }, ctx := { d.ctx with drain := [(3, some 0)] } }), by decide +kernel⟩,
   ⟨3, (on []), by decide +kernel⟩,
   ⟨0, 1, (up [(R.SLOT_STATE 3, 2)]), by unfold Asks; decide +kernel, by decide +kernel⟩⟩

theorem test_meets_contexts_and_pause_2 :
    (∃ (c : Nat) (s : State), Asks c s.dev ∧ switchable s.dev 3 = false) ∧
    (∃ (c f : Nat) (s : State), Asks c s.dev ∧ f < 2 ^ 56 ∧ running s.dev = true ∧ ((f = 0 ∨ s.dev.grid.nextC ≤ f)) ∧ dget R.PAUSE_STATE s.dev = 0) ∧
    (∃ (c f : Nat) (s : State), Asks c s.dev ∧ f < 2 ^ 56 ∧ (armed s.dev = false ∨ dget R.PAUSE_STATE s.dev ≠ 0)) ∧
    (∃ (c f : Nat) (s : State), Asks c s.dev ∧ f < 2 ^ 56 ∧ running s.dev = true ∧ ((f = 0 ∨ s.dev.grid.nextC ≤ f)) ∧ dget R.PAUSE_STATE s.dev = 3 ∧ dget R.POWER_STATE s.dev = 0 ∧ preparing s.dev = false ∧ imageFits s.dev = true) ∧
    (∃ (c f : Nat) (s : State), Asks c s.dev ∧ f < 2 ^ 56 ∧ running s.dev = true ∧ ((f = 0 ∨ s.dev.grid.nextC ≤ f)) ∧ dget R.PAUSE_STATE s.dev = 3 ∧ dget R.POWER_STATE s.dev = 0 ∧ preparing s.dev = false ∧ imageFits s.dev = false) ∧
    (∃ (c f : Nat) (s : State), Asks c s.dev ∧ f < 2 ^ 56 ∧ running s.dev = true ∧ ((f = 0 ∨ s.dev.grid.nextC ≤ f)) ∧ dget R.PAUSE_STATE s.dev = 3 ∧ dget R.POWER_STATE s.dev = 0 ∧ preparing s.dev = false) :=
  ⟨⟨0, (up []), by unfold Asks; decide +kernel, by decide +kernel⟩,
   ⟨0, 0, (on []), by unfold Asks; decide +kernel, by decide +kernel⟩,
   ⟨0, 0, (up []), by unfold Asks; decide +kernel, by decide +kernel⟩,
   ⟨0, 7, (on [(R.PAUSE_STATE, 3)] fun d => { d with ctx := { d.ctx with save := some save0 } }), by unfold Asks; decide +kernel, by decide +kernel⟩,
   ⟨0, 0, (on [(R.PAUSE_STATE, 3)]), by unfold Asks; decide +kernel, by decide +kernel⟩,
   ⟨0, 0, (on [(R.PAUSE_STATE, 3)]), by unfold Asks; decide +kernel, by decide +kernel⟩⟩

theorem test_meets_contexts_and_pause_3 :
    (∃ (c f : Nat) (s : State), Asks c s.dev ∧ f < 2 ^ 56 ∧ (dget R.PAUSE_STATE s.dev ≠ 3 ∨ dget R.POWER_STATE s.dev ≠ 0 ∨ preparing s.dev = true)) ∧
    (∃ (p : Nat) (h : Save) (s : State), dget R.PAUSE_STATE s.dev = 2 ∧ dget R.RESTART_STATE s.dev = 0 ∧ p = dget R.PAUSE_FRAME s.dev ∧ ((running s.dev = true → p + 2 < s.dev.grid.nextT)) ∧ s.dev.ctx.save = some h) ∧
    (∃ (s : State), dget R.PAUSE_STATE s.dev ≠ 2) ∧
    (∃ (s : State), dget R.PAUSE_STATE s.dev = 4 ∧ dget R.RESTART_STATE s.dev = 0) ∧
    (∃ (s : State), dget R.PAUSE_STATE s.dev ≠ 4) ∧
    (∃ (r i : Nat) (e : Rec) (s : State), (r = 1 ∨ r = 2 ∨ r = 4) ∧ (ringOf s.dev r).queue[i]? = some e ∧ e.audit = true ∧ ((e.kind = 2 ∨ e.kind = 3 ∨ e.kind = 4)) ∧ ((∀ x ∈ (ringOf s.dev r).queue.take i, x.audit = false))) :=
  ⟨⟨0, 0, (on [(R.PAUSE_STATE, 2)]), by unfold Asks; decide +kernel, by decide +kernel⟩,
   ⟨1, save0, (on [(R.PAUSE_STATE, 2), (R.PAUSE_FRAME, 1)] fun d => { d with grid := { d.grid with nextT := 4 }, ctx := { d.ctx with save := some save0 } }), by decide +kernel⟩,
   ⟨(on []), by decide +kernel⟩,
   ⟨(on [(R.PAUSE_STATE, 4)]), by decide +kernel⟩,
   ⟨(on []), by decide +kernel⟩,
   ⟨4, 1, ⟨4, 0, some 1, List.replicate 16 9, some 7, true, false, 0, []⟩, (up [] fun d => setRing 4 { ringOf d 4 with queue := [⟨4, 0, some 1, [], some 7, false, false, 0, []⟩, ⟨4, 0, some 1, List.replicate 16 9, some 7, true, false, 0, []⟩] } d), by decide +kernel⟩⟩

theorem test_meets_contexts_and_pause_4 :
    (∃ (c k f : Nat) (s : State), Asks c s.dev ∧ k < 4 ∧ f < 2 ^ 56 ∧ follows s.dev = false ∧ forwards s.dev = false ∧ running s.dev = true ∧ ((f = 0 ∨ s.dev.grid.nextC ≤ f)) ∧ s.dev.grid.nextC < 2 ^ 56 ∧ switchable s.dev k = true ∧ unsent s.dev = true) :=
  ⟨0, 3, 0, (on [(R.SLOT_STATE 3, 2), (R.MIRROR_SYNC, 1), (R.MIRROR_ROLE, 1)]), by unfold Asks; decide +kernel, by decide +kernel⟩

theorem test_meets_record_write :
    (∃ (r a : Nat) (e : Rec) (q : List Rec) (g : Ring) (ws : List Nat) (us : List Nat) (b : List Nat × List Nat) (s : State), isRing r ∧ g = ringOf s.dev r ∧ g.queue = e :: q ∧ g.enabled = true ∧ hostOpen s.dev = true ∧ dget R.POWER_STATE s.dev ≠ 3 ∧ g.seq < g.consumer + g.entries ∧ needsCapture s.dev e = false ∧ linkWords s.dev e = some ws ∧ ending s.dev = false ∧ (us = (if s.dev.undef ∨ e.free then (List.range (entryWords r - 2)).map (fun k => (Config.freeWord (s.dev.freeCtr + k)).toNat) else markWords s.dev r e ws)) ∧ (b = recordBytes r g.seq { e with epoch := if r = 0 ∨ e.kind = 7 then e.epoch else g.epoch } us) ∧ a = g.base + g.seq % g.entries * (8 * entryWords r) ∧ inWindow s.dev a (8 * entryWords r) = true) ∧
    (∃ (r a : Nat) (e : Rec) (q : List Rec) (g : Ring) (ws : List Nat) (s : State), isRing r ∧ g = ringOf s.dev r ∧ g.queue = e :: q ∧ g.enabled = true ∧ hostOpen s.dev = true ∧ dget R.POWER_STATE s.dev ≠ 3 ∧ g.seq < g.consumer + g.entries ∧ needsCapture s.dev e = false ∧ linkWords s.dev e = some ws ∧ ending s.dev = false ∧ a = g.base + g.seq % g.entries * (8 * entryWords r) ∧ inWindow s.dev a (8 * entryWords r) = false) ∧
    (∃ (r : Nat) (g : Ring) (s : State), isRing r ∧ g = ringOf s.dev r ∧ ending s.dev = false ∧ (g.queue = [] ∨ g.enabled = false ∨ hostOpen s.dev = false ∨ dget R.POWER_STATE s.dev = 3 ∨ g.consumer + g.entries ≤ g.seq ∨ (∃ e, g.queue.head? = some e ∧ (needsCapture s.dev e = true ∨ linkWords s.dev e = none)))) ∧
    (∃ (r : Nat), isRing r) ∧
    (∃ (e : Nat) (d : Dev), arrayState d = 2 ∧ d.grid.endF = some e ∧ e ≤ d.grid.nextIssue ∧ dget R.RESTART_STATE d = 0 ∧ (ringOf d 0).loss = Loss.rest) :=
  ⟨⟨0, (4096 + 65 % 64 * (8 * entryWords 0)), rec1, [], ring1, (markWords (up [] (ringIs 0 ring1)).dev 0 rec1 ((linkWords (up [] (ringIs 0 ring1)).dev rec1).getD [])), ((linkWords (up [] (ringIs 0 ring1)).dev rec1).getD []), (recordBytes 0 65 { rec1 with epoch := 0 } (markWords (up [] (ringIs 0 ring1)).dev 0 rec1 ((linkWords (up [] (ringIs 0 ring1)).dev rec1).getD []))), ((up [] (ringIs 0 ring1))), by unfold isRing; decide +kernel, rfl, by decide +kernel, by decide +kernel, by decide +kernel, by decide +kernel, by decide +kernel, by decide +kernel, ⟨by decide +kernel, by decide +kernel, by decide +kernel, by decide +kernel, rfl, by decide +kernel⟩⟩,
   ⟨0, (2 ^ 30 + 65 % 64 * (8 * entryWords 0)), rec1, [], ({ ring1 with base := 2 ^ 30 }), ((linkWords (up [] (ringIs 0 { ring1 with base := 2 ^ 30 })).dev rec1).getD []), ((up [] (ringIs 0 { ring1 with base := 2 ^ 30 }))), by unfold isRing; decide +kernel, rfl, by decide +kernel, by decide +kernel, by decide +kernel, by decide +kernel, by decide +kernel, by decide +kernel, ⟨by decide +kernel, by decide +kernel, rfl, by decide +kernel⟩⟩,
   ⟨31, Ring.rest, (up []), by unfold isRing; decide +kernel, rfl, by decide +kernel⟩,
   ⟨31, by unfold isRing; decide +kernel⟩,
   ⟨2, ((on [] fun d => { d with grid := { d.grid with endF := some 2, nextIssue := 2 } }).dev), by decide +kernel⟩⟩

theorem test_meets_consumer_and_messages_1 :
    (∃ (s : State), hostOpen s.dev = true) ∧
    (∃ (s : State), hostOpen s.dev = false) ∧
    (∃ (w : List Nat) (t : Nat) (l : List Nat) (s : State), w.length = 32 ∧ ((∀ x ∈ w, x < 2 ^ 64)) ∧ s.dev.host.fetches = t :: l ∧ ((∀ r, isRing r → (ringOf s.dev r).enabled = true → (ringOf s.dev r).consumer ≤ w.getD r 0 ∧ w.getD r 0 ≤ (ringOf s.dev r).seq))) ∧
    (∃ (w : List Nat) (t r : Nat) (l : List Nat) (s : State), w.length = 32 ∧ ((∀ x ∈ w, x < 2 ^ 64)) ∧ s.dev.host.fetches = t :: l ∧ isRing r ∧ (ringOf s.dev r).enabled = true ∧ ((w.getD r 0 < (ringOf s.dev r).consumer ∨ (ringOf s.dev r).seq < w.getD r 0))) ∧
    (∃ (w : List Nat) (s : State), w.length = 32 ∧ ((∀ x ∈ w, x < 2 ^ 64)) ∧ s.dev.host.fetches = []) ∧
    (∃ (t : Nat) (l : List Nat) (s : State), s.dev.host.fetches = t :: l) :=
  ⟨⟨(up []), by decide +kernel⟩,
   ⟨(st []), by decide +kernel⟩,
   ⟨(5 :: List.replicate 31 0), 9, [], (up [] fun d => ringIs 0 ring1 { d with host := { d.host with fetches := [9] } }), by decide +kernel, by decide +kernel, by decide +kernel, fun r h => (by decide +kernel : ∀ r, r < 32 → (ringOf (up [] fun d => ringIs 0 ring1 { d with host := { d.host with fetches := [9] } }).dev r).enabled = true → (ringOf (up [] fun d => ringIs 0 ring1 { d with host := { d.host with fetches := [9] } }).dev r).consumer ≤ (5 :: List.replicate 31 0).getD r 0 ∧ (5 :: List.replicate 31 0).getD r 0 ≤ (ringOf (up [] fun d => ringIs 0 ring1 { d with host := { d.host with fetches := [9] } }).dev r).seq) r (by unfold isRing at h; omega)⟩,
   ⟨(List.replicate 32 0), 9, 0, [], (up [] fun d => ringIs 0 ring1 { d with host := { d.host with fetches := [9] } }), by decide +kernel, by decide +kernel, by decide +kernel, by unfold isRing; decide +kernel, by decide +kernel⟩,
   ⟨(List.replicate 32 0), (up []), by decide +kernel⟩,
   ⟨9, [], (up [] fun d => { d with host := { d.host with fetches := [9] } }), by decide +kernel⟩⟩

theorem test_meets_consumer_and_messages_2 :
    (∃ (s : State), s.dev.host.fetches = []) ∧
    (∃ (r : Nat) (g : Ring) (s : State), isRing r ∧ g = ringOf s.dev r ∧ bit g.ctrl 1 = true ∧ g.unann ≠ 0) ∧
    (∃ (r : Nat) (s : State), isRing r ∧ (bit (ringOf s.dev r).ctrl 1 = false ∨ (ringOf s.dev r).unann = 0)) :=
  ⟨⟨(up []), by decide +kernel⟩,
   ⟨0, ({ ring1 with unann := 3 }), (up [] (ringIs 0 { ring1 with unann := 3 })), by unfold isRing; decide +kernel, rfl, by decide +kernel⟩,
   ⟨31, (up []), by unfold isRing; decide +kernel, by decide +kernel⟩⟩

theorem test_meets_ring_control_1 :
    (∃ (r v : Nat) (s : State), isRing r ∧ v < 2 ^ 32 ∧ v % 2 = 1 ∧ HostReaches s.dev ∧ ending s.dev = false ∧ (ringOf s.dev r).enabled = false ∧ RingGood r s.dev) ∧
    (∃ (r v : Nat) (s : State), isRing r ∧ v < 2 ^ 32 ∧ v % 2 = 1 ∧ HostReaches s.dev ∧ ending s.dev = false ∧ (ringOf s.dev r).enabled = false ∧ (¬ RingGood r s.dev)) ∧
    (∃ (r v : Nat) (s : State), isRing r ∧ v < 2 ^ 32 ∧ v % 2 = 0 ∧ HostReaches s.dev ∧ ending s.dev = false ∧ (ringOf s.dev r).enabled = true) ∧
    (∃ (r v : Nat) (s : State), isRing r ∧ v < 2 ^ 32 ∧ HostReaches s.dev ∧ ending s.dev = false ∧ v % 2 = 1 ∧ (ringOf s.dev r).enabled = true) ∧
    (∃ (r v : Nat) (s : State), isRing r ∧ v < 2 ^ 32 ∧ HostReaches s.dev ∧ ending s.dev = false ∧ v % 2 = 0 ∧ (ringOf s.dev r).enabled = false) ∧
    (∃ (r v : Nat) (g : Ring) (s : State), isRing r ∧ HostReaches s.dev ∧ ending s.dev = false ∧ g = ringOf s.dev r ∧ g.enabled = false ∧ v < 2 ^ 64) :=
  ⟨⟨31, 0x00010013, (up [] fun d => { ringIs 31 { ring1 with enabled := false } d with host := { (ringIs 31 { ring1 with enabled := false } d).host with consumerBlock := 256 } }), by unfold isRing; decide +kernel, by decide +kernel, by decide +kernel, by unfold HostReaches; decide +kernel, by decide +kernel, by decide +kernel, by unfold RingGood; decide +kernel⟩,
   ⟨31, 1, (up [] (ringIs 31 { ring1 with enabled := false, base := 100 })), by unfold isRing; decide +kernel, by decide +kernel, by decide +kernel, by unfold HostReaches; decide +kernel, by decide +kernel, by decide +kernel, by unfold RingGood; decide +kernel⟩,
   ⟨4, 0, (up [] (ringIs 4 ring1)), by unfold isRing; decide +kernel, by decide +kernel, by decide +kernel, by unfold HostReaches; decide +kernel, by decide +kernel⟩,
   ⟨4, 0x00010013, (up [] (ringIs 4 ring1)), by unfold isRing; decide +kernel, by decide +kernel, by unfold HostReaches; decide +kernel, by decide +kernel⟩,
   ⟨4, 0x00010012, (up [] (ringIs 4 { ring1 with enabled := false })), by unfold isRing; decide +kernel, by decide +kernel, by unfold HostReaches; decide +kernel, by decide +kernel⟩,
   ⟨4, (2 ^ 64 - 1), ({ ring1 with enabled := false }), (up [] (ringIs 4 { ring1 with enabled := false })), by unfold isRing; decide +kernel, by unfold HostReaches; decide +kernel, by decide +kernel, rfl, by decide +kernel⟩⟩

theorem test_meets_ring_control_2 :
    (∃ (r v : Nat) (g : Ring) (s : State), isRing r ∧ HostReaches s.dev ∧ ending s.dev = false ∧ g = ringOf s.dev r ∧ v < 2 ^ 32 ∧ g.enabled = false) ∧
    (∃ (r v : Nat) (g : Ring) (s : State), isRing r ∧ HostReaches s.dev ∧ ending s.dev = false ∧ g = ringOf s.dev r ∧ v < 2 ^ 32 ∧ g.enabled = true) ∧
    (∃ (r v : Nat) (g : Ring) (s : State), isRing r ∧ HostReaches s.dev ∧ ending s.dev = false ∧ g = ringOf s.dev r ∧ v < 2 ^ 32) ∧
    (∃ (v : Nat) (s : State), HostReaches s.dev ∧ ending s.dev = false ∧ v < 2 ^ 64 ∧ s.dev.host.consumerBlock < 2 ^ 64) ∧
    (∃ (o w v : Nat) (s : State), HostReaches s.dev ∧ ending s.dev = false ∧ 0x2000 ≤ o ∧ o < 0x2808 ∧ ((w = 8 ∨ w = 16 ∨ w = 32 ∨ w = 64)) ∧ v < 2 ^ w ∧ goodAccess o w = false) ∧
    (∃ (k v : Nat) (x : Win) (s : State), k < 8 ∧ HostReaches s.dev ∧ x = winOf s.dev k ∧ winLocked s.dev k = false ∧ v < 2 ^ 64 ∧ x.base < 2 ^ 64 ∧ x.limit < 2 ^ 64) :=
  ⟨⟨4, (2 ^ 32 - 1), ({ ring1 with enabled := false }), (up [] (ringIs 4 { ring1 with enabled := false })), by unfold isRing; decide +kernel, by unfold HostReaches; decide +kernel, by decide +kernel, rfl, by decide +kernel⟩,
   ⟨4, (2 ^ 32 - 1), ring1, (up [] (ringIs 4 ring1)), by unfold isRing; decide +kernel, by unfold HostReaches; decide +kernel, by decide +kernel, rfl, by decide +kernel⟩,
   ⟨4, (2 ^ 32 - 1), ring1, (up [] (ringIs 4 ring1)), by unfold isRing; decide +kernel, by unfold HostReaches; decide +kernel, by decide +kernel, rfl, by decide +kernel⟩,
   ⟨(2 ^ 64 - 1), (up []), by unfold HostReaches; decide +kernel, by decide +kernel⟩,
   ⟨0x2001, 64, 5, (up []), by unfold HostReaches; decide +kernel, by decide +kernel⟩,
   ⟨7, (2 ^ 64 - 1), Win.rest, (up []), by decide +kernel, by unfold HostReaches; decide +kernel, rfl, by decide +kernel⟩⟩

theorem test_meets_ring_control_3 :
    (∃ (k o w v : Nat) (s : State), k < 8 ∧ o < 32 ∧ HostReaches s.dev ∧ winLocked s.dev k = true ∧ v < 2 ^ w ∧ goodAccess (0x1000 + 32 * k + o) w = true) ∧
    (∃ (i v : Nat) (s : State), i < 128 ∧ HostReaches s.dev ∧ v < 2 ^ 64 ∧ tget (msixDefault i) s.dev.host.msixTable i < 2 ^ 64) ∧
    (∃ (o w v : Nat) (s : State), HostReaches s.dev ∧ ((0x1000 ≤ o ∧ o < 0x1100 ∨ 0x4000 ≤ o ∧ o < 0x4400 ∨ 0x5000 ≤ o ∧ o < 0x5008)) ∧ ((w = 8 ∨ w = 16 ∨ w = 32 ∨ w = 64)) ∧ v < 2 ^ w ∧ goodAccess o w = false) ∧
    (∃ (o w v : Nat) (s : State), HostReaches s.dev ∧ ((o < 0x1000 ∨ (0x1100 ≤ o ∧ o < 0x2000) ∨ (0x2808 ≤ o ∧ o < 0x4000) ∨ 0x4400 ≤ o)) ∧ o < 0x100000 ∧ ((w = 8 ∨ w = 16 ∨ w = 32 ∨ w = 64)) ∧ v < 2 ^ w ∧ ((0x5000 ≤ o → o < 0x5008 → goodAccess o w = true))) ∧
    (∃ (r v w : Nat) (s : State), isRing r ∧ v < 2 ^ 32 ∧ s.dev.host.linkUp = false ∧ v < 2 ^ w ∧ ((w = 8 ∨ w = 16 ∨ w = 32 ∨ w = 64)) ∧ v % 2 = 1) ∧
    (∃ (r v w : Nat) (s : State), isRing r ∧ v < 2 ^ 32 ∧ s.dev.host.linkUp = false ∧ v < 2 ^ w ∧ ((w = 8 ∨ w = 16 ∨ w = 32 ∨ w = 64)) ∧ v % 2 = 0) :=
  ⟨⟨0, 8, 64, 5, (up [] (ringIs 0 ring1)), by decide +kernel, by decide +kernel, by unfold HostReaches; decide +kernel, by decide +kernel⟩,
   ⟨127, (2 ^ 64 - 1), (up []), by decide +kernel, by unfold HostReaches; decide +kernel, by decide +kernel⟩,
   ⟨0x10FC, 64, 5, (up []), by unfold HostReaches; decide +kernel, by decide +kernel⟩,
   ⟨0xFFFFF, 8, 5, (up []), by unfold HostReaches; decide +kernel, by decide +kernel⟩,
   ⟨31, 3, 32, (st []), by unfold isRing; decide +kernel, by decide +kernel⟩,
   ⟨31, 2, 32, (st []), by unfold isRing; decide +kernel, by decide +kernel⟩⟩

theorem test_meets_ring_control_4 :
    (∃ (r v o w : Nat) (s : State), isRing r ∧ v < 2 ^ 32 ∧ s.dev.host.linkUp = false ∧ v < 2 ^ w ∧ ((w = 8 ∨ w = 16 ∨ w = 32 ∨ w = 64)) ∧ o < 0x1000) ∧
    (∃ (r v o w : Nat) (s : State), isRing r ∧ v < 2 ^ 32 ∧ s.dev.host.linkUp = false ∧ v < 2 ^ w ∧ ((w = 8 ∨ w = 16 ∨ w = 32 ∨ w = 64)) ∧ 0x2000 ≤ o ∧ o < 0x2808) ∧
    (∃ (r v : Nat) (s : State), isRing r ∧ v < 2 ^ 32 ∧ HostReaches s.dev ∧ ending s.dev = true ∧ v % 2 = 1) ∧
    (∃ (r v : Nat) (s : State), isRing r ∧ v < 2 ^ 32 ∧ HostReaches s.dev ∧ ending s.dev = true ∧ v % 2 = 0) ∧
    (∃ (o w v : Nat) (s : State), HostReaches s.dev ∧ ending s.dev = true ∧ 0x2000 ≤ o ∧ o < 0x2808 ∧ ((w = 8 ∨ w = 16 ∨ w = 32 ∨ w = 64)) ∧ v < 2 ^ w) :=
  ⟨⟨31, 3, 0xFF8, 32, (st []), by unfold isRing; decide +kernel, by decide +kernel⟩,
   ⟨31, 3, 0x2000, 32, (st []), by unfold isRing; decide +kernel, by decide +kernel⟩,
   ⟨4, 3, (on [] fun d => ringIs 4 ring1 { d with grid := { d.grid with endF := some 2 } }), by unfold isRing; decide +kernel, by decide +kernel, by unfold HostReaches; decide +kernel, by decide +kernel⟩,
   ⟨4, 2, (on [] fun d => ringIs 4 ring1 { d with grid := { d.grid with endF := some 2 } }), by unfold isRing; decide +kernel, by decide +kernel, by unfold HostReaches; decide +kernel, by decide +kernel⟩,
   ⟨0x2100, 32, 5, (on [] fun d => ringIs 4 ring1 { d with grid := { d.grid with endF := some 2 } }), by unfold HostReaches; decide +kernel, by decide +kernel⟩⟩

theorem test_meets_host_port_events :
    (∃ (s : State), s.dev.host.linkUp = true) ∧
    (∃ (s : State), s.dev.host.linkUp = false) ∧
    (∃ (s : State), 3 ≤ s.dev.sys.step) ∧
    (∃ (s : State), s.dev.sys.step < 3) ∧
    (∃ (rate w : Nat) (c : HostCfg) (s : State), 1 ≤ rate ∧ rate ≤ 6 ∧ w ∈ [1, 2, 4, 8, 16] ∧ cfgOk c = true ∧ s.dev.host.perstN = true ∧ s.dev.pins.porN = true ∧ 3 ≤ s.dev.sys.step) ∧
    (∃ (rate w : Nat) (c : HostCfg) (s : State), 1 ≤ rate ∧ rate ≤ 6 ∧ w ∈ [1, 2, 4, 8, 16] ∧ cfgOk c = true ∧ (s.dev.host.perstN = false ∨ s.dev.pins.porN = false ∨ s.dev.sys.step < 3)) :=
  ⟨⟨(up [] (ringIs 0 ring1)), by decide +kernel⟩,
   ⟨(st []), by decide +kernel⟩,
   ⟨(up [] fun d => ringIs 0 ring1 { d with host := { d.host with perstN := true } }), by decide +kernel⟩,
   ⟨(st []), by decide +kernel⟩,
   ⟨6, 16, HostCfg.rest, (up [] fun d => { d with host := { d.host with perstN := true } }), by decide +kernel⟩,
   ⟨1, 1, HostCfg.rest, (up []), by decide +kernel⟩⟩

theorem test_meets_dictionary_writes_1 :
    (∃ (c idx sub len v w : Nat) (e : Entry) (s : State), WriteIn c idx sub len v ∧ Asks c s.dev ∧ EntryAt idx sub e ∧ carried c len v e = .ok w ∧ ((e.hostOnly = true → c = 0)) ∧ chkValue s.dev e.chk w = 0 ∧ ownerRuns s.dev e.owner (idx * 256 + sub) = false ∧ ((e.access = .rw ∨ (e.access = .rws ∧ breaksLoaded s.dev (idx * 256 + sub) w = false ∧ underSegment s.dev (idx * 256 + sub) w = false))) ∧ plainKey (idx * 256 + sub)) ∧
    (∃ (c idx sub len v w : Nat) (e : Entry) (s : State), WriteIn c idx sub len v ∧ Asks c s.dev ∧ EntryAt idx sub e ∧ carried c len v e = .ok w ∧ ((e.hostOnly = true → c = 0)) ∧ chkValue s.dev e.chk w = 0 ∧ ownerRuns s.dev e.owner (idx * 256 + sub) = false ∧ e.access = .rwl ∧ breaksRate s.dev (idx * 256 + sub) w = false ∧ forwards s.dev = false ∧ follows s.dev = false ∧ (unsent s.dev = false ∨ mirrors (idx * 256 + sub) = false)) ∧
    (∃ (c idx sub len v w : Nat) (e : Entry) (s : State), WriteIn c idx sub len v ∧ Asks c s.dev ∧ EntryAt idx sub e ∧ carried c len v e = .ok w ∧ ((e.hostOnly = true → c = 0)) ∧ chkValue s.dev e.chk w = 0 ∧ ownerRuns s.dev e.owner (idx * 256 + sub) = false ∧ e.access = .rwl ∧ breaksRate s.dev (idx * 256 + sub) w = false ∧ forwards s.dev = false ∧ follows s.dev = true ∧ mirrors (idx * 256 + sub) = true) ∧
    (∃ (c idx sub len v : Nat) (s : State), WriteIn c idx sub len v ∧ Asks c s.dev ∧ idxExists idx = false) ∧
    (∃ (c idx sub len v : Nat) (s : State), WriteIn c idx sub len v ∧ Asks c s.dev ∧ idxExists idx = true ∧ (sub = 0 ∨ (stagingAt idx sub).isSome = true)) ∧
    (∃ (c idx sub len v : Nat) (s : State), WriteIn c idx sub len v ∧ Asks c s.dev ∧ idxExists idx = true ∧ sub ≠ 0 ∧ stagingAt idx sub = none ∧ findEntry idx sub = none) :=
  ⟨⟨0, 0x2C00, 6, 8, 1000, 1000, (entOf 0x2C00 6), (up []), by unfold WriteIn; decide +kernel, by unfold Asks; decide +kernel, by unfold EntryAt; decide +kernel, rfl, by decide +kernel, by decide +kernel, by decide +kernel, by decide +kernel, by unfold plainKey; decide +kernel⟩,
   ⟨0, 0x3072, 16, 8, 15, 15, (entOf 0x3072 16), (up []), by unfold WriteIn; decide +kernel, by unfold Asks; decide +kernel, by unfold EntryAt; decide +kernel, rfl, by decide +kernel⟩,
   ⟨0, 0x3072, 16, 8, 15, 15, (entOf 0x3072 16), (up [(R.MIRROR_SYNC, 1), (R.MIRROR_ROLE, 2), (R.MIRROR_SYNC_STATE, 1)]), by unfold WriteIn; decide +kernel, by unfold Asks; decide +kernel, by unfold EntryAt; decide +kernel, rfl, by decide +kernel⟩,
   ⟨0, 0xFFFF, 1, 1, 15, (up []), by unfold WriteIn; decide +kernel, by unfold Asks; decide +kernel, by decide +kernel⟩,
   ⟨0, 0x2C00, 0, 1, 15, (up []), by unfold WriteIn; decide +kernel, by unfold Asks; decide +kernel, by decide +kernel⟩,
   ⟨0, 0x2C00, 0x40, 1, 15, (up []), by unfold WriteIn; decide +kernel, by unfold Asks; decide +kernel, by decide +kernel⟩⟩

theorem test_meets_dictionary_writes_2 :
    (∃ (c idx sub len v : Nat) (e : Entry) (s : State), WriteIn c idx sub len v ∧ Asks c s.dev ∧ EntryAt idx sub e ∧ (e.access = .const ∨ e.access = .ro)) ∧
    (∃ (c idx sub len v : Nat) (e : Entry) (s : State) (code : Nat), WriteIn c idx sub len v ∧ Asks c s.dev ∧ EntryAt idx sub e ∧ e.access ≠ .const ∧ e.access ≠ .ro ∧ code < 2 ^ 16 ∧ carried c len v e = .error code) ∧
    (∃ (c idx sub len v w : Nat) (e : Entry) (s : State), WriteIn c idx sub len v ∧ Asks c s.dev ∧ EntryAt idx sub e ∧ carried c len v e = .ok w ∧ e.access ≠ .const ∧ e.access ≠ .ro ∧ e.hostOnly = true ∧ c ≠ 0) ∧
    (∃ (c idx sub len v w : Nat) (e : Entry) (s : State), WriteIn c idx sub len v ∧ Asks c s.dev ∧ EntryAt idx sub e ∧ carried c len v e = .ok w ∧ e.access ≠ .const ∧ e.access ≠ .ro ∧ ((e.hostOnly = true → c = 0)) ∧ chkValue s.dev e.chk w ≠ 0) ∧
    (∃ (c idx sub len v w : Nat) (e : Entry) (s : State), WriteIn c idx sub len v ∧ Asks c s.dev ∧ EntryAt idx sub e ∧ carried c len v e = .ok w ∧ e.access ≠ .const ∧ e.access ≠ .ro ∧ ((e.hostOnly = true → c = 0)) ∧ chkValue s.dev e.chk w = 0 ∧ ghostLane (idx * 256 + sub) = false ∧ ownerRuns s.dev e.owner (idx * 256 + sub) = true) ∧
    (∃ (c idx sub len v w : Nat) (e : Entry) (s : State), WriteIn c idx sub len v ∧ Asks c s.dev ∧ EntryAt idx sub e ∧ carried c len v e = .ok w ∧ ((e.hostOnly = true → c = 0)) ∧ chkValue s.dev e.chk w = 0 ∧ ownerRuns s.dev e.owner (idx * 256 + sub) = false ∧ e.access = .rwl ∧ breaksRate s.dev (idx * 256 + sub) w = false ∧ forwards s.dev = false ∧ follows s.dev = false ∧ unsent s.dev = true ∧ mirrors (idx * 256 + sub) = true) :=
  ⟨⟨0, 0x2C00, 1, 1, 15, (entOf 0x2C00 1), (up []), by unfold WriteIn; decide +kernel, by unfold Asks; decide +kernel, by unfold EntryAt; decide +kernel, by decide +kernel⟩,
   ⟨2, 0x2C00, 6, 1, 15, (entOf 0x2C00 6), ((up [] npp)), ((match carried 2 1 15 (entOf 0x2C00 6) with | .error e => e | _ => 0)), by unfold WriteIn; decide +kernel, by unfold Asks; decide +kernel, by unfold EntryAt; decide +kernel, by decide +kernel, by decide +kernel, by decide +kernel, rfl⟩,
   ⟨2, 0x1030, 2, 1, 1, 1, (entOf 0x1030 2), (up [] npp), by unfold WriteIn; decide +kernel, by unfold Asks; decide +kernel, by unfold EntryAt; decide +kernel, rfl, by decide +kernel⟩,
   ⟨0, 0x2C00, 2, 4, 33, 33, (entOf 0x2C00 2), (up []), by unfold WriteIn; decide +kernel, by unfold Asks; decide +kernel, by unfold EntryAt; decide +kernel, rfl, by decide +kernel⟩,
   ⟨0, 0x3000, 1, 4, 600, 600, (entOf 0x3000 1), (on []), by unfold WriteIn; decide +kernel, by unfold Asks; decide +kernel, by unfold EntryAt; decide +kernel, rfl, by decide +kernel⟩,
   ⟨0, 0x3072, 16, 8, 15, 15, (entOf 0x3072 16), (up [(R.MIRROR_SYNC, 1), (R.MIRROR_ROLE, 1)]), by unfold WriteIn; decide +kernel, by unfold Asks; decide +kernel, by unfold EntryAt; decide +kernel, rfl, by decide +kernel⟩⟩

theorem test_meets_dictionary_writes_3 :
    (∃ (c idx sub len v w : Nat) (e : Entry) (s : State), WriteIn c idx sub len v ∧ Asks c s.dev ∧ EntryAt idx sub e ∧ carried c len v e = .ok w ∧ e.access ≠ .const ∧ e.access ≠ .ro ∧ ((e.hostOnly = true → c = 0)) ∧ chkValue s.dev e.chk w = 0 ∧ ownerRuns s.dev e.owner (idx * 256 + sub) = false ∧ e.access = .rws ∧ ghostLane (idx * 256 + sub) = false ∧ breaksLoaded s.dev (idx * 256 + sub) w = false ∧ underSegment s.dev (idx * 256 + sub) w = true) ∧
    (∃ (c idx sub len v : Nat) (s : State), WriteIn c idx sub len v ∧ c < 10 ∧ ((c = 0 ∧ s.dev.host.linkUp = false) ∨ (c = 1 ∧ s.dev.ldr.job = none))) ∧
    (∃ (c idx sub len v : Nat) (s : State), WriteIn c idx sub len v ∧ 2 ≤ c ∧ c < 10 ∧ nppServes s.dev = true ∧ (sessOf s.dev (c - 2)).isOpen = false) ∧
    (∃ (c idx sub len v : Nat) (s : State), WriteIn c idx sub len v ∧ 2 ≤ c ∧ c < 10 ∧ nppServes s.dev = true ∧ (sessOf s.dev (c - 2)).isOpen = true ∧ dget R.NPP_WRITE_ENABLE s.dev = 0) ∧
    (∃ (c idx sub len v w : Nat) (e : Entry) (s : State), WriteIn c idx sub len v ∧ Asks c s.dev ∧ EntryAt idx sub e ∧ carried c len v e = .ok w ∧ e.access ≠ .const ∧ e.access ≠ .ro ∧ ((e.hostOnly = true → c = 0)) ∧ chkValue s.dev e.chk w = 0 ∧ ghostLane (idx * 256 + sub) = true) ∧
    (∃ (c n len v w : Nat) (e : Entry) (s : State), WriteIn c (0x2C20 + n) 0x0B len v ∧ Asks c s.dev ∧ n < 16 ∧ EntryAt (0x2C20 + n) 0x0B e ∧ carried c len v e = .ok w ∧ 1 ≤ w ∧ w ≤ 256) :=
  ⟨⟨0, 0x2C20, 6, 8, 4096, 4096, (entOf 0x2C20 6), (up [(R.SEG_BLOCKS 0, 64), (R.GROUP_CHANNELS 0, 1)] fun d => { d with ldr := { d.ldr with ctxs := [(0, { Loaded.rest with present := true, rates := [(0, (16, 0))] })] } }), by unfold WriteIn; decide +kernel, by unfold Asks; decide +kernel, by unfold EntryAt; decide +kernel, rfl, by decide +kernel⟩,
   ⟨0, 0x3000, 1, 2, 600, (st []), by unfold WriteIn; decide +kernel, by decide +kernel⟩,
   ⟨9, 0x3000, 1, 2, 600, (up []), by unfold WriteIn; decide +kernel, by decide +kernel⟩,
   ⟨2, 0x3000, 1, 2, 600, (up [(R.NPP_WRITE_ENABLE, 0)] npp), by unfold WriteIn; decide +kernel, by decide +kernel⟩,
   ⟨0, 0x5010, 65, 4, 1, 1, (entOf 0x5010 65), (up []), by unfold WriteIn; decide +kernel, by unfold Asks; decide +kernel, by unfold EntryAt; decide +kernel, rfl, by decide +kernel⟩,
   ⟨0, 15, 4, 256, 256, (entOf 0x2C2F 11), (up []), by unfold WriteIn; decide +kernel, by unfold Asks; decide +kernel, by decide +kernel, by unfold EntryAt; decide +kernel, rfl, by decide +kernel⟩⟩

theorem test_meets_dictionary_writes_4 :
    (∃ (c idx sub len v w : Nat) (e : Entry) (s : State), WriteIn c idx sub len v ∧ Asks c s.dev ∧ EntryAt idx sub e ∧ carried c len v e = .ok w ∧ e.access ≠ .const ∧ e.access ≠ .ro ∧ ((e.hostOnly = true → c = 0)) ∧ chkValue s.dev e.chk w = 0 ∧ ownerRuns s.dev e.owner (idx * 256 + sub) = false ∧ e.access = .rws ∧ breaksLoaded s.dev (idx * 256 + sub) w = true) ∧
    (∃ (c idx sub len v w : Nat) (e : Entry) (s : State), WriteIn c idx sub len v ∧ Asks c s.dev ∧ EntryAt idx sub e ∧ carried c len v e = .ok w ∧ e.access ≠ .const ∧ e.access ≠ .ro ∧ ((e.hostOnly = true → c = 0)) ∧ chkValue s.dev e.chk w = 0 ∧ ownerRuns s.dev e.owner (idx * 256 + sub) = false ∧ e.access = .rwl ∧ follows s.dev = false ∧ breaksRate s.dev (idx * 256 + sub) w = true) :=
  ⟨⟨0, 0x3000, 1, 4, 600, 600, (entOf 0x3000 1), (up [] obj1At), by unfold WriteIn; decide +kernel, by unfold Asks; decide +kernel, by unfold EntryAt; decide +kernel, rfl, by decide +kernel⟩,
   ⟨0, 0x2400, 1, 4, 3, 3, (entOf 0x2400 1), (up [(R.FILTER_ENABLE 3, 4), (R.FIR_DECIMATION 3, 2)] fun d => { d with ldr := { d.ldr with ctxs := [(0, { Loaded.rest with present := true, rates := [(0, (1, 1))] })] } }), by unfold WriteIn; decide +kernel, by unfold Asks; decide +kernel, by unfold EntryAt; decide +kernel, rfl, by decide +kernel⟩⟩

theorem test_meets_group_commands_1 :
    (∃ (c idx sub v : Nat) (e : Entry) (s : State), Asks c s.dev ∧ memberAt idx sub = true ∧ EntryAt idx sub e ∧ e.access = .rwg ∧ e.hostOnly = false ∧ v < 2 ^ (8 * tyBytes e.ty) ∧ v < 2 ^ 2048 ∧ chkValue s.dev e.chk v = 0 ∧ ownerRuns s.dev e.owner (idx * 256 + sub) = false ∧ ((grpOf s.dev (groupOfKey (idx * 256 + sub))).st = 0 ∨ ((grpOf s.dev (groupOfKey (idx * 256 + sub))).st = 1 ∧ (grpOf s.dev (groupOfKey (idx * 256 + sub))).holder = c))) ∧
    (∃ (c idx sub v : Nat) (e : Entry) (s : State), Asks c s.dev ∧ memberAt idx sub = true ∧ EntryAt idx sub e ∧ e.access = .rwg ∧ e.hostOnly = false ∧ v < 2 ^ (8 * tyBytes e.ty) ∧ v < 2 ^ 2048 ∧ chkValue s.dev e.chk v = 0 ∧ ownerRuns s.dev e.owner (idx * 256 + sub) = false ∧ (grpOf s.dev (groupOfKey (idx * 256 + sub))).st = 2) ∧
    (∃ (c idx sub v : Nat) (e : Entry) (s : State), Asks c s.dev ∧ memberAt idx sub = true ∧ EntryAt idx sub e ∧ e.access = .rwg ∧ e.hostOnly = false ∧ v < 2 ^ (8 * tyBytes e.ty) ∧ v < 2 ^ 2048 ∧ chkValue s.dev e.chk v = 0 ∧ ownerRuns s.dev e.owner (idx * 256 + sub) = false ∧ (grpOf s.dev (groupOfKey (idx * 256 + sub))).st = 1 ∧ (grpOf s.dev (groupOfKey (idx * 256 + sub))).holder ≠ c) ∧
    (∃ (c gid : Nat) (g : Grp) (s : State), Asks c s.dev ∧ gid < 2 ^ 32 ∧ g = grpOf s.dev gid ∧ g.st = 1 ∧ g.holder = c ∧ follows s.dev = false ∧ forwards s.dev = false ∧ unsent s.dev = false ∧ groupFault s.dev gid = none) ∧
    (∃ (c gid : Nat) (g : Grp) (s : State) (f : Nat × Nat), Asks c s.dev ∧ gid < 2 ^ 32 ∧ g = grpOf s.dev gid ∧ g.st = 1 ∧ g.holder = c ∧ follows s.dev = false ∧ groupFault s.dev gid = some f) ∧
    (∃ (c gid : Nat) (g : Grp) (s : State), Asks c s.dev ∧ gid < 2 ^ 32 ∧ g = grpOf s.dev gid ∧ g.st = 1 ∧ g.holder = c ∧ follows s.dev = false ∧ unsent s.dev = true ∧ groupFault s.dev gid = none) :=
  ⟨⟨2, 0x2C13, 4, 7, (entOf 0x2C13 4), (up [] npp), by unfold Asks; decide +kernel, by decide +kernel, by unfold EntryAt; decide +kernel, by decide +kernel⟩,
   ⟨0, 0x2C13, 4, 7, (entOf 0x2C13 4), (up [] (grpAt 2 0)), by unfold Asks; decide +kernel, by decide +kernel, by unfold EntryAt; decide +kernel, by decide +kernel⟩,
   ⟨0, 0x2C13, 4, 7, (entOf 0x2C13 4), (up [] (grpAt 1 2)), by unfold Asks; decide +kernel, by decide +kernel, by unfold EntryAt; decide +kernel, by decide +kernel⟩,
   ⟨0, 0x4000003, (grp0 1 0), (on [] (grpAt 1 0)), by unfold Asks; decide +kernel, by decide +kernel, rfl, by decide +kernel⟩,
   ⟨0, 0x4000003, ({ grp0 1 0 with staged := [(2, some 279265)] }), ((up [] fun d => modCtl (fun x => { x with groups := [(0x4000003, { grp0 1 0 with staged := [(2, some 279265)] })] }) d)), ((groupFault (up [] fun d => modCtl (fun x => { x with groups := [(0x4000003, { grp0 1 0 with staged := [(2, some 279265)] })] }) d).dev 0x4000003).getD (0, 0)), by unfold Asks; decide +kernel, by decide +kernel, rfl, by decide +kernel⟩,
   ⟨0, 0x4000003, (grp0 1 0), (on [(R.MIRROR_SYNC, 1), (R.MIRROR_ROLE, 1)] (grpAt 1 0)), by unfold Asks; decide +kernel, by decide +kernel, rfl, by decide +kernel⟩⟩

theorem test_meets_group_commands_2 :
    (∃ (c gid : Nat) (g : Grp) (s : State), Asks c s.dev ∧ gid < 2 ^ 32 ∧ g = grpOf s.dev gid ∧ g.st = 1 ∧ g.holder = c ∧ follows s.dev = true) ∧
    (∃ (c gid : Nat) (g : Grp) (s : State), Asks c s.dev ∧ gid < 2 ^ 32 ∧ g = grpOf s.dev gid ∧ g.st = 1 ∧ g.holder = c ∧ gid ≠ 0xFFFFFFFF) ∧
    (∃ (c gid : Nat) (s : State), Asks c s.dev ∧ gid < 0xFFFFFFFF ∧ (grpOf s.dev gid).st = 2 ∧ (grpOf s.dev gid).holder = c) ∧
    (∃ (c gid : Nat) (s : State), Asks c s.dev ∧ gid < 0xFFFFFFFF ∧ ((grpOf s.dev gid).st = 0 ∨ (grpOf s.dev gid).holder ≠ c)) ∧
    (∃ (c : Nat) (s : State), Asks c s.dev ∧ heldStaging s.dev c ≠ [] ∧ follows s.dev = false ∧ forwards s.dev = false ∧ unsent s.dev = false ∧ ((∀ g ∈ heldStaging s.dev c, groupFault s.dev g = none))) ∧
    (∃ (c : Nat) (s : State), Asks c s.dev ∧ heldStaging s.dev c ≠ []) :=
  ⟨⟨0, 0x4000003, (grp0 1 0), (up [(R.MIRROR_SYNC, 1), (R.MIRROR_ROLE, 2), (R.MIRROR_SYNC_STATE, 1)] (grpAt 1 0)), by unfold Asks; decide +kernel, by decide +kernel, rfl, by decide +kernel⟩,
   ⟨0, 0x4000003, (grp0 1 0), (up [] (grpAt 1 0)), by unfold Asks; decide +kernel, by decide +kernel, rfl, by decide +kernel⟩,
   ⟨0, 0x4000003, (up [] (grpAt 2 0)), by unfold Asks; decide +kernel, by decide +kernel⟩,
   ⟨0, 0x4000003, (up [] (grpAt 1 2)), by unfold Asks; decide +kernel, by decide +kernel⟩,
   ⟨0, (on [] (grpAt 1 0)), by unfold Asks; decide +kernel, by decide +kernel⟩,
   ⟨0, (up [] (grpAt 1 0)), by unfold Asks; decide +kernel, by decide +kernel⟩⟩

theorem test_meets_group_commands_3 :
    (∃ (c : Nat) (s : State), Asks c s.dev ∧ heldStaging s.dev c = []) :=
  ⟨0, (up [] (grpAt 1 2)), by unfold Asks; decide +kernel, by decide +kernel⟩

theorem test_meets_bulk_access_1 :
    (∃ (idx sub v n : Nat) (s : State), idx < 65536 ∧ sub < 256 ∧ HostReaches s.dev ∧ readEntry 0 idx sub s.dev = .ok (v, n)) ∧
    (∃ (idx sub code : Nat) (s : State), idx < 65536 ∧ sub < 256 ∧ HostReaches s.dev ∧ readEntry 0 idx sub s.dev = .error code) ∧
    (∃ (idx sub : Nat) (data : List Nat) (e : Entry) (s : State), idx < 65536 ∧ sub < 256 ∧ data.length = tyBytes e.ty ∧ data.length ≤ 1024 ∧ ((∀ b ∈ data, b < 256)) ∧ HostReaches s.dev ∧ dget R.BOOT_STATE s.dev = 2 ∧ EntryAt idx sub e ∧ chkValue s.dev e.chk (ofBytes data) = 0 ∧ ownerRuns s.dev e.owner (idx * 256 + sub) = false ∧ ((e.access = .rw ∨ (e.access = .rws ∧ breaksLoaded s.dev (idx * 256 + sub) (ofBytes data) = false ∧ underSegment s.dev (idx * 256 + sub) (ofBytes data) = false))) ∧ plainKey (idx * 256 + sub)) ∧
    (∃ (idx sub : Nat) (data : List Nat) (s : State), idx < 65536 ∧ sub < 256 ∧ data.length ≤ 1024 ∧ ((∀ b ∈ data, b < 256)) ∧ HostReaches s.dev ∧ idxExists idx = false) ∧
    (∃ (idx sub : Nat) (data : List Nat) (s : State) (e : Entry), idx < 65536 ∧ sub < 256 ∧ data.length ≤ 1024 ∧ ((∀ b ∈ data, b < 256)) ∧ HostReaches s.dev ∧ EntryAt idx sub e ∧ (e.access = .const ∨ e.access = .ro)) ∧
    (∃ (idx sub : Nat) (data : List Nat) (s : State), idx < 65536 ∧ sub < 256 ∧ data.length ≤ 1024 ∧ ((∀ b ∈ data, b < 256)) ∧ s.dev.host.linkUp = false) :=
  ⟨⟨0x2C00, 6, 1024, 2, (up []), by decide +kernel, by decide +kernel, by unfold HostReaches; decide +kernel, rfl⟩,
   ⟨0x2C00, 0x40, 0xA002, (up []), by decide +kernel, by decide +kernel, by unfold HostReaches; decide +kernel, rfl⟩,
   ⟨0x2C00, 6, [1, 2], (entOf 0x2C00 6), (up []), by decide +kernel, by decide +kernel, by decide +kernel, by decide +kernel, by decide +kernel, by unfold HostReaches; decide +kernel, by decide +kernel, by unfold EntryAt; decide +kernel, by decide +kernel, by decide +kernel, by decide +kernel, by unfold plainKey; decide +kernel⟩,
   ⟨0xFFFF, 6, [1, 2], (up []), by decide +kernel, by decide +kernel, by decide +kernel, by decide +kernel, by unfold HostReaches; decide +kernel, by decide +kernel⟩,
   ⟨0x2C00, 1, [1, 2], ((up [])), (entOf 0x2C00 1), by decide +kernel, by decide +kernel, by decide +kernel, by decide +kernel, by unfold HostReaches; decide +kernel, by unfold EntryAt; decide +kernel, by decide +kernel⟩,
   ⟨0x2C00, 1, [1, 2], (st []), by decide +kernel⟩⟩

theorem test_meets_bulk_access_2 :
    (∃ (idx sub : Nat) (e : Entry) (d : Dev) (v n : Nat), 0x1000 ≤ idx ∧ idx < 0x6000 ∧ sub < 256 ∧ d.host.linkUp = true ∧ powerState d ≠ 3 ∧ EntryAt idx sub e ∧ tySigned e.ty = false ∧ readEntry 0 idx sub d = .ok (v, n) ∧ n ≤ 8) ∧
    (∃ (idx sub : Nat) (d : Dev) (v n : Nat), 0x1000 ≤ idx ∧ idx < 0x6000 ∧ sub < 256 ∧ d.host.linkUp = true ∧ powerState d ≠ 3 ∧ readEntry 0 idx sub d = .ok (v, n) ∧ 8 < n) ∧
    (∃ (idx sub : Nat) (d : Dev) (code : Nat), 0x1000 ≤ idx ∧ idx < 0x6000 ∧ sub < 256 ∧ d.host.linkUp = true ∧ powerState d ≠ 3 ∧ readEntry 0 idx sub d = .error code) :=
  ⟨⟨0x2C00, 6, (entOf 0x2C00 6), ((up []).dev), 1024, 2, by decide +kernel, by decide +kernel, by decide +kernel, by decide +kernel, by decide +kernel, by unfold EntryAt; decide +kernel, by decide +kernel, rfl, by decide +kernel⟩,
   ⟨0x3060, 3, ((up []).dev), 0, 16, by decide +kernel, by decide +kernel, by decide +kernel, by decide +kernel, by decide +kernel, rfl, by decide +kernel⟩,
   ⟨0x2C00, 0x40, ((up []).dev), 0xA002, by decide +kernel, by decide +kernel, by decide +kernel, by decide +kernel, by decide +kernel, rfl⟩⟩

theorem test_meets_npp_sessions_1 :
    (∃ (k seq : Nat) (s : State), seq < 2 ^ 32 ∧ nppServes s.dev = true ∧ freeSession s.dev = some k) ∧
    (∃ (seq : Nat) (s : State), seq < 2 ^ 32 ∧ nppServes s.dev = true ∧ freeSession s.dev = none) ∧
    (∃ (k session seq gid : Nat) (r : List (Nat × Nat)) (w : List (Nat × Nat × List Nat)) (s : State), NppIn session seq gid r w ∧ NppTurn k session seq s.dev) ∧
    (∃ (k session seq gid : Nat) (r : List (Nat × Nat)) (w : List (Nat × Nat × List Nat)) (s : State), NppIn session seq gid r w ∧ NppTurn k session seq s.dev ∧ 1472 < 16 + (r.flatMap (fun i => (readItem (k + 2) s.dev i).1)).length) ∧
    (∃ (k session seq gid : Nat) (r : List (Nat × Nat)) (w : List (Nat × Nat × List Nat)) (s : State), NppIn session seq gid r w ∧ NppTurn k session seq s.dev ∧ dget R.NPP_WRITE_ENABLE s.dev = 0) ∧
    (∃ (k session seq gid : Nat) (r : List (Nat × Nat)) (w : List (Nat × Nat × List Nat)) (s : State), NppIn session seq gid r w ∧ NppTurn k session seq s.dev ∧ dget R.NPP_WRITE_ENABLE s.dev = 0) :=
  ⟨⟨1, 9, (up [] npp), by decide +kernel⟩,
   ⟨9, (up [] fun d => modCtl (fun x => { x with sess := (List.range 8).map fun i => (i, ⟨true, i + 1, 1, [], 0⟩) }) d), by decide +kernel⟩,
   ⟨0, 77, 5, 3, [], [], (up [] npp), by unfold NppIn; decide +kernel, by unfold NppTurn; decide +kernel⟩,
   ⟨0, 77, 5, 3, (List.replicate 300 (0x2600, 4)), [], (up [] npp), by unfold NppIn; decide +kernel, by unfold NppTurn; decide +kernel, by decide +kernel⟩,
   ⟨0, 77, 5, 3, [], ([(0x2C00, 6, [1, 2])]), (up [(R.NPP_WRITE_ENABLE, 0)] npp), by unfold NppIn; decide +kernel, by unfold NppTurn; decide +kernel, by decide +kernel⟩,
   ⟨0, 77, 5, 3, [], [], (up [(R.NPP_WRITE_ENABLE, 0)] npp), by unfold NppIn; decide +kernel, by unfold NppTurn; decide +kernel, by decide +kernel⟩⟩

theorem test_meets_npp_sessions_2 :
    (∃ (k session seq gid : Nat) (r : List (Nat × Nat)) (w : List (Nat × Nat × List Nat)) (s : State), NppIn session seq gid r w ∧ NppTurn k session seq s.dev) ∧
    (∃ (k session seq n : Nat) (r : List (Nat × Nat)) (w : List (Nat × Nat × List Nat)) (s : State), NppIn session seq 0 r w ∧ NppTurn k session seq s.dev ∧ n < 65536 ∧ n ≠ r.length) ∧
    (∃ (k session seq n : Nat) (r : List (Nat × Nat)) (w : List (Nat × Nat × List Nat)) (s : State), NppIn session seq 0 r w ∧ NppTurn k session seq s.dev ∧ n < 65536 ∧ n ≠ w.length) ∧
    (∃ (k session seq idx sub : Nat) (e : Entry) (s : State), session < 2 ^ 32 ∧ seq < 2 ^ 32 ∧ NppTurn k session seq s.dev ∧ idx < 65536 ∧ sub < 256 ∧ EntryAt idx sub e ∧ e.access ≠ .wo ∧ computed (k + 2) (idx * 256 + sub) s.dev = none ∧ tyBytes e.ty ≤ 1024 ∧ idx * 256 + sub ∉ nppKeys) ∧
    (∃ (k session seq idx sub : Nat) (data : List Nat) (e : Entry) (s : State), session < 2 ^ 32 ∧ seq < 2 ^ 32 ∧ writeItems [(idx, sub, data)] = true ∧ NppTurn k session seq s.dev ∧ dget R.NPP_WRITE_ENABLE s.dev = 1 ∧ EntryAt idx sub e ∧ data.length = tyBytes e.ty ∧ e.hostOnly = false ∧ chkValue s.dev e.chk (ofBytes data) = 0 ∧ ownerRuns s.dev e.owner (idx * 256 + sub) = false ∧ ((e.access = .rw ∨ (e.access = .rws ∧ breaksLoaded s.dev (idx * 256 + sub) (ofBytes data) = false ∧ underSegment s.dev (idx * 256 + sub) (ofBytes data) = false))) ∧ plainKey (idx * 256 + sub) ∧ idx * 256 + sub ∉ nppKeys) ∧
    (∃ (k session seq idx sub : Nat) (data : List Nat) (rest : List (Nat × Nat × List Nat)) (s : State), session < 2 ^ 32 ∧ seq < 2 ^ 32 ∧ writeItems ((idx, sub, data) :: rest) = true ∧ NppTurn k session seq s.dev ∧ dget R.NPP_WRITE_ENABLE s.dev = 1 ∧ idxExists idx = false) :=
  ⟨⟨0, 77, 5, 3, [], [], (up [] fun d => npp (grpAt 1 2 d)), by unfold NppIn; decide +kernel, by unfold NppTurn; decide +kernel⟩,
   ⟨0, 77, 5, 3, [], [], (up [] npp), by unfold NppIn; decide +kernel, by unfold NppTurn; decide +kernel, by decide +kernel⟩,
   ⟨0, 77, 5, 3, [], [], (up [] npp), by unfold NppIn; decide +kernel, by unfold NppTurn; decide +kernel, by decide +kernel⟩,
   ⟨0, 77, 5, 0x2C00, 6, (entOf 0x2C00 6), (up [] npp), by decide +kernel, by decide +kernel, by unfold NppTurn; decide +kernel, by decide +kernel, by decide +kernel, by unfold EntryAt; decide +kernel, by decide +kernel⟩,
   ⟨0, 77, 5, 0x2C00, 6, [1, 2], (entOf 0x2C00 6), (up [] npp), by decide +kernel, by decide +kernel, by decide +kernel, by unfold NppTurn; decide +kernel, by decide +kernel, by unfold EntryAt; decide +kernel, by decide +kernel, by decide +kernel, by decide +kernel, by decide +kernel, by decide +kernel, by unfold plainKey; decide +kernel, by decide +kernel⟩,
   ⟨0, 77, 5, 0xFFFF, 6, [1, 2], ([(0x2C00, 6, [1, 2])]), (up [] npp), by decide +kernel, by decide +kernel, by decide +kernel, by unfold NppTurn; decide +kernel, by decide +kernel⟩⟩

theorem test_meets_npp_sessions_3 :
    (∃ (k session seq gid f : Nat) (s : State), session < 2 ^ 32 ∧ seq < 2 ^ 32 ∧ gid < 0xFFFFFFFF ∧ NppTurn k session seq s.dev ∧ dget R.NPP_WRITE_ENABLE s.dev = 1 ∧ (grpOf s.dev gid).st = 1 ∧ (grpOf s.dev gid).holder = k + 2 ∧ f = (if running s.dev then s.dev.grid.nextC else 0) ∧ follows s.dev = false ∧ forwards s.dev = false ∧ unsent s.dev = false ∧ groupFault s.dev gid = none) ∧
    (∃ (k session seq gid f : Nat) (s : State), session < 2 ^ 32 ∧ seq < 2 ^ 32 ∧ gid < 0xFFFFFFFF ∧ NppTurn k session seq s.dev ∧ dget R.NPP_WRITE_ENABLE s.dev = 1 ∧ (grpOf s.dev gid).st = 1 ∧ (grpOf s.dev gid).holder = k + 2 ∧ f = (if running s.dev then s.dev.grid.nextC else 0)) ∧
    (∃ (session seq gid : Nat) (r : List (Nat × Nat)) (w : List (Nat × Nat × List Nat)) (s : State) (q : Nat × Instr), NppIn session seq gid r w ∧ dget R.BOOT_STATE s.dev = 2 ∧ powerState s.dev ≠ 3 ∧ q ∈ nppRequests session seq gid r w ∧ sessNamed s.dev session = none) ∧
    (∃ (session seq gid : Nat) (r : List (Nat × Nat)) (w : List (Nat × Nat × List Nat)) (s : State) (q : Nat × Instr) (k : Nat), NppIn session seq gid r w ∧ dget R.BOOT_STATE s.dev = 2 ∧ powerState s.dev ≠ 3 ∧ q ∈ nppRequests session seq gid r w ∧ sessNamed s.dev session = some k ∧ seq ≠ (sessOf s.dev k).nextSeq ∧ (seq + 1) % 2 ^ 32 ≠ (sessOf s.dev k).nextSeq) ∧
    (∃ (session seq gid : Nat) (r : List (Nat × Nat)) (w : List (Nat × Nat × List Nat)) (s : State) (q : Nat × Instr) (k : Nat), NppIn session seq gid r w ∧ dget R.BOOT_STATE s.dev = 2 ∧ powerState s.dev ≠ 3 ∧ q ∈ nppRequests session seq gid r w ∧ sessNamed s.dev session = some k ∧ seq ≠ (sessOf s.dev k).nextSeq ∧ (seq + 1) % 2 ^ 32 = (sessOf s.dev k).nextSeq ∧ (sessOf s.dev k).reply ≠ []) ∧
    (∃ (session seq gid : Nat) (r : List (Nat × Nat)) (w : List (Nat × Nat × List Nat)) (s : State), NppIn session seq gid r w ∧ nppServes s.dev = false) :=
  ⟨⟨0, 77, 5, 0x4000003, 3, (on [] fun d => npp (grpAt 1 2 d)), by decide +kernel, by decide +kernel, by decide +kernel, by unfold NppTurn; decide +kernel, by decide +kernel⟩,
   ⟨0, 77, 5, 0x4000003, 3, (on [] fun d => npp (grpAt 1 2 d)), by decide +kernel, by decide +kernel, by decide +kernel, by unfold NppTurn; decide +kernel, by decide +kernel⟩,
   ⟨78, 5, 3, [], [], (up [] npp), ((7, .nppKeepalive 78 5)), by unfold NppIn; decide +kernel, by decide +kernel⟩,
   ⟨77, 7, 3, [], [], (up [] npp), ((7, .nppKeepalive 77 7)), 0, by unfold NppIn; decide +kernel, by decide +kernel⟩,
   ⟨77, 4, 3, [], [], (up [] npp), ((2, .nppClose 77 4)), 0, by unfold NppIn; decide +kernel, by decide +kernel⟩,
   ⟨77, 4, 3, [], [], (st []), by unfold NppIn; decide +kernel, by decide +kernel⟩⟩

theorem test_meets_npp_sessions_4 :
    (∃ (session seq gid : Nat) (r : List (Nat × Nat)) (w : List (Nat × Nat × List Nat)) (s : State) (q : Nat × Instr), NppIn session seq gid r w ∧ nppServes s.dev = false ∧ q ∈ nppRequests session seq gid r w) ∧
    (∃ (s : State), nppServes s.dev = true) ∧
    (∃ (k : Nat) (s : State), k < 8 ∧ (sessOf s.dev k).isOpen = true) ∧
    (∃ (k : Nat) (s : State), k < 8 ∧ (sessOf s.dev k).isOpen = false) ∧
    (∃ (c v : Nat) (s : State), Asks c s.dev ∧ 1 ≤ v ∧ v < 65536) ∧
    (∃ (c : Nat) (s : State), Asks c s.dev) :=
  ⟨⟨77, 4, 3, [], [], (st []), ((7, .nppKeepalive 77 4)), by unfold NppIn; decide +kernel, by decide +kernel⟩,
   ⟨(up []), by decide +kernel⟩,
   ⟨0, (up [] fun d => npp (grpAt 1 2 d)), by decide +kernel⟩,
   ⟨7, (up []), by decide +kernel⟩,
   ⟨0, 65535, (up [] npp), by unfold Asks; decide +kernel, by decide +kernel⟩,
   ⟨0, (up []), by unfold Asks; decide +kernel⟩⟩

theorem test_meets_npp_sessions_5 :
    (∃ (k session seq gid : Nat) (r : List (Nat × Nat)) (w : List (Nat × Nat × List Nat)) (s : State), NppIn session seq gid r w ∧ NppTurn k session seq s.dev ∧ 16 + (r.flatMap (fun i => (readItem (k + 2) s.dev i).1)).length ≤ 1472) ∧
    (∃ (k session seq gid : Nat) (r : List (Nat × Nat)) (w : List (Nat × Nat × List Nat)) (s : State), NppIn session seq gid r w ∧ NppTurn k session seq s.dev ∧ dget R.NPP_WRITE_ENABLE s.dev = 1) ∧
    (∃ (k session seq f : Nat) (s : State), session < 2 ^ 32 ∧ seq < 2 ^ 32 ∧ NppTurn k session seq s.dev ∧ dget R.NPP_WRITE_ENABLE s.dev = 1 ∧ heldStaging s.dev (k + 2) ≠ [] ∧ f = (if running s.dev then s.dev.grid.nextC else 0) ∧ follows s.dev = false ∧ forwards s.dev = false ∧ unsent s.dev = false ∧ ((∀ g ∈ heldStaging s.dev (k + 2), groupFault s.dev g = none))) ∧
    (∃ (k session seq f : Nat) (s : State), session < 2 ^ 32 ∧ seq < 2 ^ 32 ∧ NppTurn k session seq s.dev ∧ dget R.NPP_WRITE_ENABLE s.dev = 1 ∧ heldStaging s.dev (k + 2) ≠ [] ∧ f = (if running s.dev then s.dev.grid.nextC else 0)) :=
  ⟨⟨0, 77, 5, 3, [(0x2600, 4), (0xFFFF, 1)], [], (up [] npp), by unfold NppIn; decide +kernel, by unfold NppTurn; decide +kernel, by decide +kernel⟩,
   ⟨0, 77, 5, 3, [], ([(0x2C00, 6, [1, 2])]), (up [] npp), by unfold NppIn; decide +kernel, by unfold NppTurn; decide +kernel, by decide +kernel⟩,
   ⟨0, 77, 5, 3, (on [] fun d => npp (grpAt 1 2 d)), by decide +kernel, by decide +kernel, by unfold NppTurn; decide +kernel, by decide +kernel⟩,
   ⟨0, 77, 5, 3, (on [] fun d => npp (grpAt 1 2 d)), by decide +kernel, by decide +kernel, by unfold NppTurn; decide +kernel, by decide +kernel⟩⟩

theorem test_meets_ptp_commands_1 :
    (∃ (dom ident : Nat) (s : State), dom < 128 ∧ ident < 2 ^ 64 ∧ dom = dget R.PTP_DOMAIN s.dev ∧ ptpHears s.dev = true ∧ dget R.TIME_SOURCE_SELECT s.dev ≠ 2 ∧ s.dev.time.master = none) ∧
    (∃ (dom ident : Nat) (s : State), dom < 128 ∧ ident < 2 ^ 64 ∧ dom = dget R.PTP_DOMAIN s.dev ∧ ptpHears s.dev = true ∧ dget R.TIME_SOURCE_SELECT s.dev ≠ 2 ∧ s.dev.time.master = some ident) ∧
    (∃ (dom ident key m : Nat) (s : State), dom < 128 ∧ ident < 2 ^ 64 ∧ dom = dget R.PTP_DOMAIN s.dev ∧ ptpHears s.dev = true ∧ dget R.TIME_SOURCE_SELECT s.dev ≠ 2 ∧ s.dev.time.master = some m ∧ m ≠ ident ∧ key < s.dev.time.masterKey) ∧
    (∃ (dom ident key m : Nat) (s : State), dom < 128 ∧ ident < 2 ^ 64 ∧ dom = dget R.PTP_DOMAIN s.dev ∧ ptpHears s.dev = true ∧ dget R.TIME_SOURCE_SELECT s.dev ≠ 2 ∧ s.dev.time.master = some m ∧ m ≠ ident ∧ s.dev.time.masterKey ≤ key) ∧
    (∃ (dom ident : Nat) (s : State), dom < 128 ∧ ident < 2 ^ 64 ∧ (dom ≠ dget R.PTP_DOMAIN s.dev ∨ ptpHears s.dev = false)) ∧
    (∃ (dom ident : Nat) (s : State), dom < 128 ∧ ident < 2 ^ 64 ∧ dom = dget R.PTP_DOMAIN s.dev ∧ ptpHears s.dev = true ∧ dget R.TIME_SOURCE_SELECT s.dev = 2) :=
  ⟨⟨0, 77, (up []), by decide +kernel⟩,
   ⟨0, 77, (up [] (ptpOn 0)), by decide +kernel⟩,
   ⟨0, 78, 5, 77, (up [(R.TIME_SOURCE, 1)] fun d => ptpOn 1 { d with time := { d.time with source := 1 } }), by decide +kernel⟩,
   ⟨0, 78, 8, 77, (up [] (ptpOn 1)), by decide +kernel⟩,
   ⟨1, 77, (up []), by decide +kernel⟩,
   ⟨0, 77, (up [(R.TIME_SOURCE_SELECT, 2)]), by decide +kernel⟩⟩

theorem test_meets_ptp_commands_2 :
    (∃ (dom ident t1 t2 dl : Nat) (r : Option PtpReply) (s : State), dom < 128 ∧ ident < 2 ^ 64 ∧ dom = dget R.PTP_DOMAIN s.dev ∧ s.dev.time.src = 1 ∧ s.dev.time.master = some ident ∧ ptpHears s.dev = true ∧ t2 = (stampNs s.dev + dget R.PTP_INGRESS_LATENCY s.dev) * 2 ^ 16 ∧ dl = (r.bind (fun x => pathDelay t1 t2 x s.dev)).getD (dget R.PTP_PATH_DELAY s.dev)) ∧
    (∃ (t1 t2 t3 : Nat) (r : PtpReply) (x : Int) (d : Dev), 0 ≤ x ∧ x < 2 ^ 32 ∧ d.time.ptpTx = [1, t3] ∧ x = (((t2 : Int) - t1) + ((r.far : Int) - t3 * 2 ^ 16)) / 2 ^ 17) ∧
    (∃ (t3 : Nat) (r : PtpReply) (x : Int) (d : Dev), 0 ≤ x ∧ x < 2 ^ 32 ∧ d.time.ptpTx = [2, t3] ∧ x = (((stationAc d r.back / 2 ^ 32 : Nat) + dget R.PTP_INGRESS_LATENCY d - t3 : Int) * 2 ^ 16 - r.far) / 2 ^ 17) ∧
    (∃ (dom ident : Nat) (s : State), dom < 128 ∧ ident < 2 ^ 64 ∧ (dom ≠ dget R.PTP_DOMAIN s.dev ∨ s.dev.time.src ≠ 1 ∨ s.dev.time.master ≠ some ident ∨ ptpHears s.dev = false)) ∧
    (∃ (m : Nat) (s : State) (i : Instr), ((i = .ptpAnnounceTimeout ∨ i = .ptpSyncTimeout)) ∧ s.dev.time.master = some m) ∧
    (∃ (s : State), s.dev.time.master = none) :=
  ⟨⟨0, 77, 50000, ((stampNs (up [(R.SERVO_STATE, 2)] fun d => ptpOn 1 d).dev + dget R.PTP_INGRESS_LATENCY (up [(R.SERVO_STATE, 2)] fun d => ptpOn 1 d).dev) * 2 ^ 16), (dget R.PTP_PATH_DELAY (up [(R.SERVO_STATE, 2)] fun d => ptpOn 1 d).dev), none, ((up [(R.SERVO_STATE, 2)] fun d => ptpOn 1 d)), by decide +kernel, by decide +kernel, by decide +kernel, by decide +kernel, by decide +kernel, by decide +kernel, ⟨rfl, rfl⟩⟩,
   ⟨1000, 70000000, 500, ⟨2 ^ 31, 0⟩, ((((70000000 : Int) - 1000) + ((2 ^ 31 : Int) - 500 * 2 ^ 16)) / 2 ^ 17), ((up [] fun d => { d with time := { d.time with ptpTx := [1, 500] } }).dev), by decide +kernel, by decide +kernel, by decide +kernel, rfl⟩,
   ⟨0, ⟨100, 100000⟩, ((((stationAc (up [] (clkAt 900)).dev 100000 / 2 ^ 32 : Nat) + dget R.PTP_INGRESS_LATENCY (up []).dev - (0 : Nat) : Int) * 2 ^ 16 - (100 : Nat)) / 2 ^ 17), ((up [] fun d => clkAt 900 { d with time := { d.time with ptpTx := [2, 0] } }).dev), by decide +kernel, by decide +kernel, by decide +kernel, rfl⟩,
   ⟨0, 78, (up [] (ptpOn 1)), by decide +kernel⟩,
   ⟨77, ((up [(R.TIME_SOURCE, 1)] fun d => ptpOn 1 { d with time := { d.time with source := 1 } })), .ptpAnnounceTimeout, by decide +kernel⟩,
   ⟨(up []), by decide +kernel⟩⟩

theorem test_meets_ptp_commands_3 :
    (∃ (c v : Nat) (dom : Bool) (s : State), Asks c s.dev ∧ v ≤ (if dom then 127 else 1)) ∧
    (∃ (c v : Nat) (dom : Bool) (s : State), Asks c s.dev ∧ v < 256 ∧ (if dom then 127 else 1) < v) ∧
    (∃ (s : State), dget R.PTP_PROFILE s.dev = 1) ∧
    (∃ (s : State), dget R.PTP_PROFILE s.dev ≠ 1) ∧
    (∃ (s : State), dget R.PTP_PROFILE s.dev ≠ 1) ∧
    (∃ (s : State), dget R.PTP_PROFILE s.dev = 0 ∧ s.dev.time.master.isSome = true) :=
  ⟨⟨0, 3, true, (up [(R.TIME_SOURCE, 1)] fun d => ptpOn 1 { d with time := { d.time with source := 1 } }), by unfold Asks; decide +kernel, by decide +kernel⟩,
   ⟨0, 2, false, (up []), by unfold Asks; decide +kernel, by decide +kernel⟩,
   ⟨(up [(R.PTP_PROFILE, 1)] (ptpOn 1)), by decide +kernel⟩,
   ⟨(on [(R.PTP_PROFILE, 0)] (ptpOn 1)), by decide +kernel⟩,
   ⟨(up [(R.PTP_PROFILE, 0)] (ptpOn 1)), by decide +kernel⟩,
   ⟨(on [(R.PTP_PROFILE, 0)] fun d => ptpOn 1 d), by decide +kernel⟩⟩

theorem test_meets_ptp_commands_4 :
    (∃ (s : State), (dget R.PTP_PROFILE s.dev ≠ 0 ∨ s.dev.time.master = none)) :=
  ⟨(up [(R.PTP_PROFILE, 1)] (ptpOn 1)), by decide +kernel⟩

theorem test_meets_pulses_and_restep_1 :
    (∃ (e : Bool) (t : Int) (near : Int) (s : State), e ≠ decide (dget R.PPS_IN_POLARITY s.dev = 1) ∧ t = (stampNs s.dev : Int) - sgn 16 (dget R.PPS_IN_DELAY s.dev) ∧ near = (t + nsPerS / 2) / nsPerS * nsPerS ∧ (dget R.TIME_SOURCE_SELECT s.dev = 2 ∨ (dget R.TIME_SOURCE_SELECT s.dev = 1 ∧ s.dev.time.master = none))) ∧
    (∃ (e : Bool) (t : Int) (near : Int) (s : State), e ≠ decide (dget R.PPS_IN_POLARITY s.dev = 1) ∧ t = (stampNs s.dev : Int) - sgn 16 (dget R.PPS_IN_DELAY s.dev) ∧ near = (t + nsPerS / 2) / nsPerS * nsPerS ∧ (¬ (dget R.TIME_SOURCE_SELECT s.dev = 2 ∨ (dget R.TIME_SOURCE_SELECT s.dev = 1 ∧ s.dev.time.master = none)))) ∧
    (∃ (e : Bool) (s : State), e = decide (dget R.PPS_IN_POLARITY s.dev = 1)) ∧
    (∃ (t : Nat) (s : State), s.dev.time.ppsAt = some t) ∧
    (∃ (s : State), s.dev.time.ppsAt = none) ∧
    (∃ (c : Nat) (s : State), s.dev.time.outAt = some c) :=
  ⟨⟨true, ((stampNs (up [(R.TIME_SOURCE_SELECT, 2)] (clkAt 100)).dev : Int) - sgn 16 (dget R.PPS_IN_DELAY (up [(R.TIME_SOURCE_SELECT, 2)] (clkAt 100)).dev)), (((stampNs (up [(R.TIME_SOURCE_SELECT, 2)] (clkAt 100)).dev : Int) - sgn 16 (dget R.PPS_IN_DELAY (up [(R.TIME_SOURCE_SELECT, 2)] (clkAt 100)).dev) + nsPerS / 2) / nsPerS * nsPerS), ((up [(R.TIME_SOURCE_SELECT, 2)] (clkAt 100))), by decide +kernel, rfl, rfl, by decide +kernel⟩,
   ⟨true, ((stampNs (up [(R.PPS_IN_CHECK, 1), (R.PPS_CHECK_LIMIT, 50)] fun d => ptpOn 1 (clkAt 100 d)).dev : Int) - sgn 16 (dget R.PPS_IN_DELAY (up [(R.PPS_IN_CHECK, 1), (R.PPS_CHECK_LIMIT, 50)] fun d => ptpOn 1 (clkAt 100 d)).dev)), (((stampNs (up [(R.PPS_IN_CHECK, 1), (R.PPS_CHECK_LIMIT, 50)] fun d => ptpOn 1 (clkAt 100 d)).dev : Int) - sgn 16 (dget R.PPS_IN_DELAY (up [(R.PPS_IN_CHECK, 1), (R.PPS_CHECK_LIMIT, 50)] fun d => ptpOn 1 (clkAt 100 d)).dev) + nsPerS / 2) / nsPerS * nsPerS), ((up [(R.PPS_IN_CHECK, 1), (R.PPS_CHECK_LIMIT, 50)] fun d => ptpOn 1 (clkAt 100 d))), by decide +kernel, rfl, rfl, by decide +kernel⟩,
   ⟨true, (up [(R.PPS_IN_POLARITY, 1)]), rfl⟩,
   ⟨99000, (up [(R.TIME_SOURCE, 2)] fun d => { d with time := { d.time with src := 2, source := 2, ppsPresent := true, ppsAt := some 99000 } }), by decide +kernel⟩,
   ⟨(up []), by decide +kernel⟩,
   ⟨100500, (up [(R.PPS_OUT_MODE, 1)] fun d => clkAt 1000000001 { d with time := { d.time with outAt := some 100500, outWidth := 1 }, pins := { d.pins with ppsOut := true } }), by decide +kernel⟩⟩

theorem test_meets_pulses_and_restep_2 :
    (∃ (c idx sub len v w : Nat) (e : Entry) (s : State), WriteIn c idx sub len v ∧ Asks c s.dev ∧ EntryAt idx sub e ∧ carried c len v e = .ok w ∧ chkValue s.dev e.chk w = 0 ∧ ownerRuns s.dev e.owner (idx * 256 + sub) = false ∧ (idx * 256 + sub = R.PPS_OUT_MODE.key ∨ idx * 256 + sub = R.PPS_OUT_WIDTH.key)) ∧
    (∃ (c idx sub len v w : Nat) (e : Entry) (s : State), WriteIn c idx sub len v ∧ Asks c s.dev ∧ EntryAt idx sub e ∧ carried c len v e = .ok w ∧ chkValue s.dev e.chk w = 0 ∧ ownerRuns s.dev e.owner (idx * 256 + sub) = false ∧ idx * 256 + sub = R.TIME_SOURCE_SELECT.key) ∧
    (∃ (s : State), s.dev.time.outAt = none) ∧
    (∃ (s : State), Asks 0 s.dev ∧ armed s.dev = false ∧ s.dev.time.src ≠ 0) ∧
    (∃ (s : State), Asks 0 s.dev ∧ (armed s.dev = true ∨ s.dev.time.src = 0)) ∧
    (∃ (c : Nat) (s : State), c ≠ 0 ∧ Asks c s.dev) :=
  ⟨⟨0, 0x3C20, 8, 4, 50, 50, (entOf 0x3C20 8), (up [(R.PPS_OUT_MODE, 1)] (clkAt 999999990)), by unfold WriteIn; decide +kernel, by unfold Asks; decide +kernel, by unfold EntryAt; decide +kernel, rfl, by decide +kernel⟩,
   ⟨0, 0x3C00, 3, 4, 2, 2, (entOf 0x3C00 3), (up [(R.TIME_SOURCE, 1)] fun d => ptpOn 1 { d with time := { d.time with source := 1 } }), by unfold WriteIn; decide +kernel, by unfold Asks; decide +kernel, by unfold EntryAt; decide +kernel, rfl, by decide +kernel⟩,
   ⟨(up []), by decide +kernel⟩,
   ⟨(up [] (ptpOn 1)), by unfold Asks; decide +kernel, by decide +kernel⟩,
   ⟨(on [] (ptpOn 1)), by unfold Asks; decide +kernel, by decide +kernel⟩,
   ⟨2, (up [] fun d => npp (ptpOn 1 d)), by decide +kernel, by unfold Asks; decide +kernel⟩⟩

theorem test_meets_link_retries_1 :
    (∃ (p q : Nat) (x : Link) (s : State), p < 3 ∧ q < 4096 ∧ LinkUp p s.dev ∧ x = linkOf s.dev p ∧ tget none x.failed q = none ∧ (naksNow p s.dev).length ≤ dget R.RING_RETRAIN_LIMIT s.dev) ∧
    (∃ (p q : Nat) (s : State), p < 3 ∧ q < 4096 ∧ LinkUp p s.dev ∧ tget none (linkOf s.dev p).failed q = none ∧ dget R.RING_RETRAIN_LIMIT s.dev < (naksNow p s.dev).length) ∧
    (∃ (p q t : Nat) (x : Link) (s : State), p < 3 ∧ q < 4096 ∧ LinkUp p s.dev ∧ x = linkOf s.dev p ∧ tget none x.failed q = some t) ∧
    (∃ (p q : Nat) (x : Link) (s : State), p < 3 ∧ q < 4096 ∧ LinkUp p s.dev ∧ x = linkOf s.dev p ∧ (naksNow p s.dev).length ≤ dget R.RING_RETRAIN_LIMIT s.dev) ∧
    (∃ (p q : Nat) (x : Link) (s : State), p < 3 ∧ q < 4096 ∧ LinkUp p s.dev ∧ x = linkOf s.dev p ∧ dget R.RING_RETRAIN_LIMIT s.dev < (naksNow p s.dev).length) ∧
    (∃ (p ty : Nat) (s : State), p < 3 ∧ 11 ≤ ty ∧ ty < 16 ∧ LinkUp p s.dev) :=
  ⟨⟨0, 7, (linkOf (up [] (linkAt 0 2 Link.rest)).dev 0), ((up [] (linkAt 0 2 Link.rest))), by decide +kernel, by decide +kernel, by unfold LinkUp; decide +kernel, rfl, by decide +kernel⟩,
   ⟨0, 7, (up [(R.RING_RETRAIN_LIMIT, 2), (R.RING_SIZE, 3), (R.DEVICE_RING_STATE, 2)] (linkAt 0 2 { Link.rest with naks := [99000, 98000, 97000] })), by decide +kernel, by decide +kernel, by unfold LinkUp; decide +kernel, by decide +kernel⟩,
   ⟨1, 7, 99990, (linkOf (up [] (linkAt 1 2 { Link.rest with failed := [(7, some 99990)] })).dev 1), ((up [] (linkAt 1 2 { Link.rest with failed := [(7, some 99990)] }))), by decide +kernel, by decide +kernel, by unfold LinkUp; decide +kernel, rfl, by decide +kernel⟩,
   ⟨0, 7, (linkOf (up [] (linkAt 0 2 Link.rest)).dev 0), ((up [] (linkAt 0 2 Link.rest))), by decide +kernel, by decide +kernel, by unfold LinkUp; decide +kernel, rfl, by decide +kernel⟩,
   ⟨0, 7, (linkOf (up [(R.RING_RETRAIN_LIMIT, 2)] (linkAt 0 2 { Link.rest with naks := [99000, 98000, 97000] })).dev 0), ((up [(R.RING_RETRAIN_LIMIT, 2)] (linkAt 0 2 { Link.rest with naks := [99000, 98000, 97000] }))), by decide +kernel, by decide +kernel, by unfold LinkUp; decide +kernel, rfl, by decide +kernel⟩,
   ⟨0, 11, (up [] (linkAt 0 2 Link.rest)), by decide +kernel, by decide +kernel, by decide +kernel, by unfold LinkUp; decide +kernel⟩⟩

theorem test_meets_link_retries_2 :
    (∃ (p : Nat) (s : State), p < 3 ∧ LinkUp p s.dev) ∧
    (∃ (p q ty : Nat) (s : State), p < 3 ∧ q < 4096 ∧ 11 ≤ ty ∧ ty < 16 ∧ (¬ LinkUp p s.dev)) ∧
    (∃ (p lat : Nat) (x : Link) (s : State), p < 3 ∧ lat < 65536 ∧ x = linkOf s.dev p ∧ (linkState s.dev p = 1 ∨ linkState s.dev p = 4)) ∧
    (∃ (p lat : Nat) (s : State), p < 3 ∧ lat < 65536 ∧ linkState s.dev p ≠ 1 ∧ linkState s.dev p ≠ 4) ∧
    (∃ (p : Nat) (s : State), p < 3 ∧ linkState s.dev p = 4) ∧
    (∃ (p : Nat) (s : State), p < 3 ∧ linkState s.dev p ≠ 4) :=
  ⟨⟨1, (on [] (linkAt 1 2 Link.rest)), by decide +kernel, by unfold LinkUp; decide +kernel⟩,
   ⟨0, 7, 11, (up [] (linkAt 0 4 Link.rest)), by decide +kernel, by decide +kernel, by decide +kernel, by decide +kernel, by unfold LinkUp; decide +kernel⟩,
   ⟨0, 300, (linkOf (up [] (linkAt 0 1 Link.rest)).dev 0), ((up [] (linkAt 0 1 Link.rest))), by decide +kernel, by decide +kernel, rfl, by decide +kernel⟩,
   ⟨0, 300, (up [] (linkAt 0 2 Link.rest)), by decide +kernel⟩,
   ⟨0, (up [] (linkAt 0 4 { Link.rest with attempt := 1 })), by decide +kernel⟩,
   ⟨0, (up [] (linkAt 0 2 Link.rest)), by decide +kernel⟩⟩

theorem test_meets_link_retries_3 :
    (∃ (m : Nat) (s : State), Asks 0 s.dev ∧ m < 8) ∧
    (∃ (c m : Nat) (s : State), Asks c s.dev ∧ m < 256 ∧ c ≠ 0) ∧
    (∃ (c m : Nat) (s : State), Asks c s.dev ∧ m < 256 ∧ c = 0 ∧ 8 ≤ m) ∧
    (∃ (q : Nat) (x : Flit) (a : List Flit) (b : List Flit), ((∀ y ∈ a, y.seq ≠ q)) ∧ ((∀ y ∈ b, y.seq ≠ q)) ∧ x.seq = q) ∧
    (∃ (q : Nat) (l : List Flit), ((∀ y ∈ l, y.seq ≠ q))) :=
  ⟨⟨5, (up [] fun d => linkAt 0 5 { Link.rest with attempt := 3 } (linkAt 1 5 { Link.rest with attempt := 3 } d)), by unfold Asks; decide +kernel, by decide +kernel⟩,
   ⟨2, 5, (up [] npp), by unfold Asks; decide +kernel, by decide +kernel⟩,
   ⟨0, 8, (up []), by unfold Asks; decide +kernel, by decide +kernel⟩,
   ⟨7, ⟨2, 7, [1]⟩, ([⟨2, 9, []⟩, ⟨2, 8, []⟩]), ([⟨2, 6, []⟩]), by decide +kernel⟩,
   ⟨7, ([⟨2, 6, []⟩]), by decide +kernel⟩⟩

theorem test_meets_ring_formation_1 :
    (∃ (p : Nat) (w : List Nat) (s : State), p < 2 ∧ w.length = 6 ∧ LinkUp p s.dev ∧ (((linkOf s.dev p).late = false ∨ ¬ (w.getD 1 0 = dget R.RING_DOMAIN s.dev ∧ w.getD 4 0 = fLen s.dev)))) ∧
    (∃ (p : Nat) (w : List Nat) (s : State), p < 2 ∧ w.length = 6 ∧ LinkUp p s.dev ∧ (linkOf s.dev p).late = true ∧ w.getD 1 0 = dget R.RING_DOMAIN s.dev ∧ w.getD 4 0 = fLen s.dev) ∧
    (∃ (w : List Nat) (s : State), w.length = 6 ∧ LinkUp 2 s.dev) ∧
    (∃ (p : Nat) (w : List Nat) (s : State), p < 3 ∧ w.length = 6 ∧ (¬ LinkUp p s.dev)) ∧
    (∃ (p q : Nat) (m : List (Nat × Nat)) (s : State), p < 2 ∧ q < 4096 ∧ m.length ≤ 33 ∧ Arrives p q s.dev) ∧
    (∃ (p q t : Nat) (m : List (Nat × Nat)) (x : Link) (s : State), p < 2 ∧ q < 4096 ∧ m.length ≤ 33 ∧ linkState s.dev p = 2 ∧ x = linkOf s.dev p ∧ tget none x.failed q = some t ∧ gotBefore x q s.dev.now = false ∧ s.dev.now - t ≤ 58) :=
  ⟨⟨0, (hello0 (up [] (linkAt 0 3 Link.rest)).dev), ((up [] (linkAt 0 3 Link.rest))), by decide +kernel, by decide +kernel, by unfold LinkUp; decide +kernel, by decide +kernel⟩,
   ⟨0, (hello0 (on [] (linkAt 0 3 { Link.rest with late := true })).dev), ((on [] (linkAt 0 3 { Link.rest with late := true }))), by decide +kernel, by decide +kernel, by unfold LinkUp; decide +kernel, by decide +kernel⟩,
   ⟨[5, 77, 0, 2, 0, 0], (up [(R.MIRROR_ROLE, 1), (R.MIRROR_SYNC, 1)] (linkAt 2 3 Link.rest)), by decide +kernel, by unfold LinkUp; decide +kernel⟩,
   ⟨0, [5, 77, 0, 2, 0, 0], (up []), by decide +kernel, by decide +kernel, by unfold LinkUp; decide +kernel⟩,
   ⟨0, 7, [(5, 1), (6, 2)], (up [] (linkAt 0 2 Link.rest)), by decide +kernel, by decide +kernel, by decide +kernel, by unfold Arrives; decide +kernel⟩,
   ⟨0, 7, 99990, [(5, 1)], (linkOf (up [] (linkAt 0 2 { Link.rest with failed := [(7, some 99990)] })).dev 0), ((up [] (linkAt 0 2 { Link.rest with failed := [(7, some 99990)] }))), by decide +kernel, by decide +kernel, by decide +kernel, by decide +kernel, rfl, by decide +kernel⟩⟩

theorem test_meets_ring_formation_2 :
    (∃ (p q t : Nat) (m : List (Nat × Nat)) (x : Link) (s : State), p < 2 ∧ q < 4096 ∧ m.length ≤ 33 ∧ linkState s.dev p = 2 ∧ x = linkOf s.dev p ∧ tget none x.failed q = some t ∧ gotBefore x q s.dev.now = false ∧ 58 < s.dev.now - t) ∧
    (∃ (p q : Nat) (m : List (Nat × Nat)) (w : List Nat) (s : State), p < 2 ∧ q < 4096 ∧ m.length ≤ 33 ∧ w.length = 5 ∧ ((∀ x ∈ w, x < 2 ^ 64)) ∧ linkState s.dev p ≠ 2) ∧
    (∃ (s : State), ringJoined s.dev = false) ∧
    (∃ (k : Nat) (m : List (Nat × Nat) × Bool) (s : State), ringJoined s.dev = true ∧ m = membership s.dev ∧ k = (if s.dev.lnk.found = m.1 ∧ s.dev.lnk.closed = m.2 then s.dev.lnk.stable + 1 else 1)) ∧
    (∃ (p q n src : Nat) (w : List Nat) (s : State), p < 2 ∧ q < 4096 ∧ w.length = 5 ∧ ((∀ x ∈ w, x < 2 ^ 64)) ∧ Arrives p q s.dev ∧ dget R.POWER_STATE s.dev = 0 ∧ awaiting s.dev (bits (w.headD 0) 23 0) = some n ∧ src = bits (w.headD 0) 47 43 ∧ s.dev.lnk.inbox.any (fun c => decide (c.src = src) && decide (c.frame = n)) = false) ∧
    (∃ (p q : Nat) (w : List Nat) (s : State), p < 2 ∧ q < 4096 ∧ w.length = 5 ∧ ((∀ x ∈ w, x < 2 ^ 64)) ∧ Arrives p q s.dev ∧ dget R.POWER_STATE s.dev = 0 ∧ awaiting s.dev (bits (w.headD 0) 23 0) = none ∧ s.dev.lnk.inbox.any (fun c => decide (c.src = bits (w.headD 0) 47 43) && decide (c.frame % 2 ^ 24 = bits (w.headD 0) 23 0)) = false) :=
  ⟨⟨0, 7, 99900, [(5, 1)], (linkOf (up [] (linkAt 0 2 { Link.rest with failed := [(7, some 99900)] })).dev 0), ((up [] (linkAt 0 2 { Link.rest with failed := [(7, some 99900)] }))), by decide +kernel, by decide +kernel, by decide +kernel, by decide +kernel, rfl, by decide +kernel⟩,
   ⟨0, 7, [(5, 1)], [1, 2, 3, 4, 5], (up []), by decide +kernel⟩,
   ⟨(up []), by decide +kernel⟩,
   ⟨1, (membership (up [] fun d => serial5 (linkAt 0 2 { Link.rest with known := [(6, 1)] } d)).dev), ((up [] fun d => serial5 (linkAt 0 2 { Link.rest with known := [(6, 1)] } d))), by decide +kernel, rfl, by decide +kernel⟩,
   ⟨0, 7, 2, 3, [2 + 3 * 2 ^ 43 + 2 * 2 ^ 38 + 15 * 2 ^ 34, 1, 2, 3, 4], (on [(R.RING_SIZE, 5), (R.RING_POSITION, 1)] (linkAt 0 2 Link.rest)), by decide +kernel, by decide +kernel, by decide +kernel, by decide +kernel, by unfold Arrives; decide +kernel, by decide +kernel⟩,
   ⟨0, 7, [9 + 3 * 2 ^ 43 + 2 * 2 ^ 38 + 15 * 2 ^ 34, 1, 2, 3, 4], (on [(R.RING_SIZE, 5), (R.RING_POSITION, 1)] (linkAt 0 2 Link.rest)), by decide +kernel, by decide +kernel, by decide +kernel, by decide +kernel, by unfold Arrives; decide +kernel, by decide +kernel⟩⟩

theorem test_meets_ring_formation_3 :
    (∃ (p q n src k : Nat) (w : List Nat) (s : State), p < 2 ∧ q < 4096 ∧ w.length = 5 ∧ ((∀ x ∈ w, x < 2 ^ 64)) ∧ Arrives p q s.dev ∧ dget R.POWER_STATE s.dev = 0 ∧ awaiting s.dev (bits (w.headD 0) 23 0) = none ∧ src = bits (w.headD 0) 47 43 ∧ s.dev.lnk.inbox.any (fun c => decide (c.src = src) && decide (c.frame % 2 ^ 24 = bits (w.headD 0) 23 0)) = false ∧ running s.dev = true ∧ n < s.dev.grid.nextB ∧ s.dev.grid.nextB ≤ n + 2 ^ 24 ∧ n % 2 ^ 24 = bits (w.headD 0) 23 0 ∧ inRing s.dev src = true ∧ deadAt s.dev n < s.dev.now ∧ s.dev.lnk.lateSeen.contains (bits (w.headD 0) 23 0, src) = false ∧ k = (List.range 4).countP (fun k => bit (bits (w.headD 0) 37 34) k && !wordNames s.dev src k) ∧ k ≠ 0) ∧
    (∃ (p q : Nat) (w : List Nat) (s : State), p < 2 ∧ q < 4096 ∧ w.length = 5 ∧ ((∀ x ∈ w, x < 2 ^ 64)) ∧ Arrives p q s.dev ∧ dget R.POWER_STATE s.dev ≠ 0) ∧
    (∃ (p q : Nat) (m : List (Nat × Nat)) (s : State), p < 2 ∧ q < 4096 ∧ m.length ≤ 33 ∧ linkState s.dev p = 2 ∧ gotBefore (linkOf s.dev p) q s.dev.now = true) :=
  ⟨⟨0, 7, 1, 3, 4, [1 + 3 * 2 ^ 43 + 2 * 2 ^ 38 + 15 * 2 ^ 34, 1, 2, 3, 4], (on [(R.RING_SIZE, 5), (R.RING_POSITION, 1)] fun d => linkAt 0 2 Link.rest { d with lnk := { d.lnk with size := 5 } }), by decide +kernel, by decide +kernel, by decide +kernel, by decide +kernel, by unfold Arrives; decide +kernel, by decide +kernel⟩,
   ⟨0, 7, [2 + 3 * 2 ^ 43 + 2 * 2 ^ 38 + 15 * 2 ^ 34, 1, 2, 3, 4], (up [(R.POWER_STATE, 1)] (linkAt 0 2 Link.rest)), by decide +kernel, by decide +kernel, by decide +kernel, by decide +kernel, by unfold Arrives; decide +kernel, by decide +kernel⟩,
   ⟨0, 7, [(5, 1)], (up [] (linkAt 0 2 { Link.rest with got := [(7, some 99990)] })), by decide +kernel⟩⟩

theorem test_meets_barrier_and_sync_1 :
    (∃ (p q half pos size k t h role : Nat) (s : State) (l : List Nat), p < 3 ∧ q < 4096 ∧ half < 6 ∧ role = half / 2 ∧ pos < 32 ∧ size ≤ 32 ∧ k < 65536 ∧ Arrives p q s.dev ∧ h = (if p = 2 then 1 - half % 2 else half % 2) ∧ l = (if h = 1 then [32 * h + pos, 1000 + size] else [32 * h + pos]) ++ (if role = 0 then [] else [2000 + if h = 0 then role else 3 - role]) ∧ (waits (advTo t s.dev)).contains (32 * h + pos) = false) ∧
    (∃ (p q half pos size k t h role : Nat) (s : State), p < 3 ∧ q < 4096 ∧ half < 6 ∧ role = half / 2 ∧ pos < 32 ∧ size ≤ 32 ∧ k < 65536 ∧ Arrives p q s.dev ∧ h = (if p = 2 then 1 - half % 2 else half % 2) ∧ (waits (advTo t s.dev)).contains (32 * h + pos) = true) ∧
    (∃ (p q half pos size k l per : Nat) (s : State), p < 3 ∧ q < 4096 ∧ half < 6 ∧ pos < 32 ∧ size ≤ 32 ∧ k < 65536 ∧ Arrives p q s.dev ∧ dget R.BARRIER_STATE s.dev = 1 ∧ s.dev.lnk.barEdge = none ∧ s.dev.pll.lastEdge = some l ∧ per = max (sysrefPeriod s.dev (dget R.CLOCK_REF_PORT s.dev)) 1) ∧
    (∃ (p q half pos size k : Nat) (s : State), p < 3 ∧ q < 4096 ∧ half < 6 ∧ pos < 32 ∧ size ≤ 32 ∧ k < 65536 ∧ Arrives p q s.dev ∧ dget R.BARRIER_STATE s.dev = 1 ∧ s.dev.lnk.barEdge = none ∧ s.dev.pll.lastEdge = none) ∧
    (∃ (p q half pos size k : Nat) (s : State), p < 3 ∧ q < 4096 ∧ half < 6 ∧ pos < 32 ∧ size ≤ 32 ∧ k < 65536 ∧ Arrives p q s.dev ∧ (dget R.BARRIER_STATE s.dev ≠ 1 ∨ s.dev.lnk.barEdge.isSome = true)) ∧
    (∃ (s : State), arrayState s.dev = 1 ∧ dget R.CURRENT_CONTEXT s.dev < 4) :=
  ⟨⟨0, 7, 1, 3, 5, 9, 100050, 1, 0, (up [] fun d => linkAt 0 2 { Link.rest with lat := 60 } (linkAt 1 2 Link.rest (linkAt 2 2 Link.rest d))), [35, 1005], by decide +kernel, by decide +kernel, by decide +kernel, by decide +kernel, by decide +kernel, by decide +kernel, ⟨by decide +kernel, by unfold Arrives; decide +kernel, by decide +kernel⟩⟩,
   ⟨0, 7, 0, 3, 5, 9, 100050, 0, 0, (up [] fun d => linkAt 0 2 Link.rest { d with lnk := { d.lnk with waiting := [(3, 99000)] } }), by decide +kernel, by decide +kernel, by decide +kernel, by decide +kernel, by decide +kernel, by decide +kernel, ⟨by decide +kernel, by unfold Arrives; decide +kernel, by decide +kernel⟩⟩,
   ⟨0, 7, 0, 3, 5, 9, 99000, (max (sysrefPeriod (up [(R.BARRIER_STATE, 1)] fun d => linkAt 0 2 { Link.rest with lat := 60 } { d with pll := { d.pll with lastEdge := some 99000 } }).dev (dget R.CLOCK_REF_PORT (up [(R.BARRIER_STATE, 1)] fun d => linkAt 0 2 { Link.rest with lat := 60 } { d with pll := { d.pll with lastEdge := some 99000 } }).dev)) 1), ((up [(R.BARRIER_STATE, 1)] fun d => linkAt 0 2 { Link.rest with lat := 60 } { d with pll := { d.pll with lastEdge := some 99000 } })), by decide +kernel, by decide +kernel, by decide +kernel, by decide +kernel, by decide +kernel, by decide +kernel, ⟨by unfold Arrives; decide +kernel, by decide +kernel, by decide +kernel, by decide +kernel, rfl⟩⟩,
   ⟨0, 7, 0, 3, 5, 9, (up [(R.BARRIER_STATE, 1)] (linkAt 0 2 Link.rest)), by decide +kernel, by decide +kernel, by decide +kernel, by decide +kernel, by decide +kernel, by decide +kernel, ⟨by unfold Arrives; decide +kernel, by decide +kernel⟩⟩,
   ⟨0, 7, 0, 3, 5, 9, (up [(R.BARRIER_STATE, 0)] (linkAt 0 2 Link.rest)), by decide +kernel, by decide +kernel, by decide +kernel, by decide +kernel, by decide +kernel, by decide +kernel, ⟨by unfold Arrives; decide +kernel, by decide +kernel⟩⟩,
   ⟨(up [(R.ARRAY_STATE, 1), (R.CURRENT_CONTEXT, 1), (R.SLOT_STATE 1, 3), (R.BARRIER_STATE, 1)] fun d => { d with grid := { d.grid with reqAt := 90000 } }), by decide +kernel⟩⟩

theorem test_meets_barrier_and_sync_2 :
    (∃ (s : State), arrayState s.dev ≠ 1) ∧
    (∃ (p q n at16 : Nat) (off : Int) (s : State), p < 2 ∧ q < 4096 ∧ n < 2 ^ 64 ∧ Arrives p q s.dev ∧ running s.dev = true ∧ off = rneDiv ((at16 : Int) - (linkOf s.dev p).lat - (16 * t0At s.dev n : Nat)) 16) ∧
    (∃ (p q n : Nat) (s : State), p < 3 ∧ q < 4096 ∧ n < 2 ^ 64 ∧ Arrives p q s.dev ∧ (running s.dev = false ∨ p = 2)) ∧
    (∃ (p q kind half pos size k n : Nat) (s : State), p < 3 ∧ q < 4096 ∧ kind < 2 ∧ half < 6 ∧ pos < 32 ∧ size ≤ 32 ∧ k < 65536 ∧ n < 2 ^ 64 ∧ linkState s.dev p ≠ 2) :=
  ⟨⟨(up []), by decide +kernel⟩,
   ⟨0, 7, 2, (16 * t0At (on [] (linkAt 0 2 { Link.rest with lat := 60 })).dev 2 + 60), (rneDiv ((16 * t0At (on [] (linkAt 0 2 { Link.rest with lat := 60 })).dev 2 + 60 : Int) - 60 - (16 * t0At (on [] (linkAt 0 2 { Link.rest with lat := 60 })).dev 2 : Nat)) 16), ((on [] (linkAt 0 2 { Link.rest with lat := 60 }))), by decide +kernel, by decide +kernel, by decide +kernel, by unfold Arrives; decide +kernel, by decide +kernel, rfl⟩,
   ⟨0, 7, 2, (up [] (linkAt 0 2 Link.rest)), by decide +kernel, by decide +kernel, by decide +kernel, by unfold Arrives; decide +kernel, by decide +kernel⟩,
   ⟨2, 7, 0, 1, 0, 0, 1, 2, (up []), by decide +kernel⟩⟩

theorem test_meets_mirror_flits_1 :
    (∃ (q f r act : Nat), q < 4096 ∧ f < 2 ^ 24 ∧ r < 3 ∧ act < 2) ∧
    (∃ (q f r act : Nat) (s : State), q < 4096 ∧ f < 2 ^ 24 ∧ r < 3 ∧ act < 2 ∧ Arrives 2 q s.dev) ∧
    (∃ (q f w fp : Nat), q < 4096 ∧ f < 2 ^ 24 ∧ w < 2 ^ 64 ∧ fp < 2 ^ 128) ∧
    (∃ (q f w fp n : Nat) (s : State), q < 4096 ∧ f < 2 ^ 24 ∧ w < 2 ^ 64 ∧ fp < 2 ^ 128 ∧ Arrives 2 q s.dev ∧ n = nearFrame s.dev f ∧ tget none s.dev.lnk.ours n = none) ∧
    (∃ (q f w fp n : Nat) (o : Nat × Nat) (s : State), q < 4096 ∧ f < 2 ^ 24 ∧ w < 2 ^ 64 ∧ fp < 2 ^ 128 ∧ Arrives 2 q s.dev ∧ n = nearFrame s.dev f ∧ tget none s.dev.lnk.ours n = some o) ∧
    (∃ (q kind key f : Nat), q < 4096 ∧ kind < 4 ∧ key < 2 ^ 32 ∧ f < 2 ^ 64) :=
  ⟨⟨7, 2, 1, 1, by decide +kernel⟩,
   ⟨7, 2, 1, 1, (on [] (linkAt 2 2 Link.rest)), by decide +kernel, by decide +kernel, by decide +kernel, by decide +kernel, by unfold Arrives; decide +kernel⟩,
   ⟨7, 2, 5, 77, by decide +kernel⟩,
   ⟨7, 2, 5, 77, 2, (on [] (linkAt 2 2 Link.rest)), by decide +kernel, by decide +kernel, by decide +kernel, by decide +kernel, by unfold Arrives; decide +kernel, by decide +kernel⟩,
   ⟨7, 2, 5, 77, 2, ((5, 77)), (on [(R.MIRROR_SETTLE, 3)] fun d => linkAt 2 2 Link.rest { d with lnk := { d.lnk with ours := [(2, some (5, 77))] } }), by decide +kernel, by decide +kernel, by decide +kernel, by decide +kernel, by unfold Arrives; decide +kernel, by decide +kernel⟩,
   ⟨7, 0, 0x2C1001, 2, by decide +kernel⟩⟩

theorem test_meets_mirror_flits_2 :
    (∃ (q kind key v f : Nat) (m : List Nat) (s : State), q < 4096 ∧ kind < 4 ∧ key < 2 ^ 32 ∧ f < 2 ^ 64 ∧ Arrives 2 q s.dev ∧ Secondary s.dev ∧ fwdOk ⟨kind, key, v, f, memberTab m⟩ = true ∧ running s.dev = true ∧ f < s.dev.grid.nextC) ∧
    (∃ (q key f : Nat) (s : State), q < 4096 ∧ key < 2 ^ 32 ∧ f < 2 ^ 64 ∧ Arrives 2 q s.dev ∧ Secondary s.dev ∧ (running s.dev = false ∨ s.dev.grid.nextC ≤ f)) ∧
    (∃ (q key v f : Nat) (m : List Nat) (s : State), q < 4096 ∧ key < 2 ^ 32 ∧ f < 2 ^ 64 ∧ Arrives 2 q s.dev ∧ Secondary s.dev ∧ fwdOk ⟨3, key, v, f, memberTab m⟩ = true ∧ (armed s.dev = false ∨ ending s.dev = true)) ∧
    (∃ (q key v f : Nat) (m : List Nat) (s : State), q < 4096 ∧ key < 2 ^ 32 ∧ f < 2 ^ 64 ∧ Arrives 2 q s.dev ∧ Secondary s.dev ∧ fwdOk ⟨0, key, v, f, memberTab m⟩ = true ∧ running s.dev = false) ∧
    (∃ (q key v f : Nat) (m : List Nat) (s : State), q < 4096 ∧ key < 2 ^ 32 ∧ f < 2 ^ 64 ∧ Arrives 2 q s.dev ∧ Secondary s.dev ∧ fwdOk ⟨1, key, v, f, memberTab m⟩ = true ∧ running s.dev = false) ∧
    (∃ (q kind key v f : Nat) (m : List Nat) (x : Fwd) (s : State), q < 4096 ∧ kind < 2 ∧ key < 2 ^ 32 ∧ f < 2 ^ 64 ∧ Arrives 2 q s.dev ∧ x = ⟨kind, key, v, f, memberTab m⟩ ∧ Secondary s.dev ∧ fwdOk x = true ∧ running s.dev = true ∧ s.dev.grid.nextC ≤ f) :=
  ⟨⟨7, 0, 0x2C1001, 5, 2, [], (on [(R.MIRROR_SYNC, 1), (R.MIRROR_ROLE, 2)] (linkAt 2 2 Link.rest)), by decide +kernel, by decide +kernel, by decide +kernel, by decide +kernel, by unfold Arrives; decide +kernel, by unfold Secondary; decide +kernel, by decide +kernel⟩,
   ⟨7, 0, 20, (on [(R.MIRROR_SYNC, 1), (R.MIRROR_ROLE, 2)] (linkAt 2 2 Link.rest)), by decide +kernel, by decide +kernel, by decide +kernel, by unfold Arrives; decide +kernel, by unfold Secondary; decide +kernel, by decide +kernel⟩,
   ⟨7, 0x2C1001, 5, 20, [], (up [(R.MIRROR_SYNC, 1), (R.MIRROR_ROLE, 2)] (linkAt 2 2 Link.rest)), by decide +kernel, by decide +kernel, by decide +kernel, by unfold Arrives; decide +kernel, by unfold Secondary; decide +kernel, by decide +kernel⟩,
   ⟨7, 0x2C1001, 5, 20, [], (up [(R.MIRROR_SYNC, 1), (R.MIRROR_ROLE, 2)] (linkAt 2 2 Link.rest)), by decide +kernel, by decide +kernel, by decide +kernel, by unfold Arrives; decide +kernel, by unfold Secondary; decide +kernel, by decide +kernel⟩,
   ⟨7, 0x4000003, 5, 20, [2, 5], (up [(R.MIRROR_SYNC, 1), (R.MIRROR_ROLE, 2)] (linkAt 2 2 Link.rest)), by decide +kernel, by decide +kernel, by decide +kernel, by unfold Arrives; decide +kernel, by unfold Secondary; decide +kernel, by decide +kernel⟩,
   ⟨7, 1, 0x4000003, 5, 20, [2, 5], ⟨1, 0x4000003, 5, 20, memberTab [2, 5]⟩, (on [(R.MIRROR_SYNC, 1), (R.MIRROR_ROLE, 2)] (linkAt 2 2 Link.rest)), by decide +kernel, by decide +kernel, by decide +kernel, by decide +kernel, by unfold Arrives; decide +kernel, rfl, by unfold Secondary; decide +kernel, by decide +kernel⟩⟩

theorem test_meets_mirror_flits_3 :
    (∃ (q key v f : Nat) (m : List Nat) (x : Fwd) (s : State), q < 4096 ∧ key < 2 ^ 32 ∧ f < 2 ^ 64 ∧ Arrives 2 q s.dev ∧ x = ⟨3, key, v, f, memberTab m⟩ ∧ Secondary s.dev ∧ fwdOk x = true ∧ running s.dev = true ∧ s.dev.grid.nextC ≤ f) ∧
    (∃ (q kind key v f : Nat) (m : List Nat) (s : State), q < 4096 ∧ kind < 4 ∧ key < 2 ^ 32 ∧ f < 2 ^ 64 ∧ Arrives 2 q s.dev ∧ (¬ Secondary s.dev ∨ fwdOk ⟨kind, key, v, f, memberTab m⟩ = false)) ∧
    (∃ (q kind key f r act w fp : Nat) (s : State), q < 4096 ∧ kind < 4 ∧ key < 2 ^ 32 ∧ f < 2 ^ 24 ∧ r < 3 ∧ act < 2 ∧ w < 2 ^ 64 ∧ fp < 2 ^ 128 ∧ linkState s.dev 2 ≠ 2) :=
  ⟨⟨7, 0x2C1001, 5, 20, [], ⟨3, 0x2C1001, 5, 20, memberTab []⟩, (on [(R.MIRROR_SYNC, 1), (R.MIRROR_ROLE, 2)] (linkAt 2 2 Link.rest)), by decide +kernel, by decide +kernel, by decide +kernel, by unfold Arrives; decide +kernel, rfl, by unfold Secondary; decide +kernel, by decide +kernel⟩,
   ⟨7, 0, 0x2C1001, 5, 2, [], (up [] (linkAt 2 2 Link.rest)), by decide +kernel, by decide +kernel, by decide +kernel, by decide +kernel, by unfold Arrives; decide +kernel, by unfold Secondary; decide +kernel⟩,
   ⟨7, 0, 0x2C1001, 2, 1, 1, 5, 77, (up []), by decide +kernel⟩⟩

theorem test_meets_fault_collector_1 :
    (∃ (code a0 a1 : Nat), code ∈ faultCodes ∧ code < 0x2000 ∧ a0 < 2 ^ 64 ∧ a1 < 2 ^ 64) ∧
    (∃ (code a0 a1 u : Nat), (code = 0x2041 ∨ code = 0x2043) ∧ a0 < 2 ^ 64 ∧ a1 < 2 ^ 64 ∧ u = a0 % 65536) ∧
    (∃ (a0 a1 u : Nat), a0 < 2 ^ 64 ∧ a1 < 2 ^ 64 ∧ u = a0 % 65536 ∧ u < 1024) ∧
    (∃ (a0 a1 u : Nat), a0 < 2 ^ 64 ∧ a1 < 2 ^ 64 ∧ u = a0 % 65536 ∧ u < 64) ∧
    (∃ (a0 a1 u : Nat) (s : State), a0 < 2 ^ 64 ∧ a1 < 2 ^ 64 ∧ u = a0 % 65536 ∧ u < 32 ∧ ((∀ c ∈ s.dev.store.caps, ∀ p ∈ c.pages, p % 32 ≠ u))) ∧
    (∃ (a0 a1 u : Nat), a0 < 2 ^ 64 ∧ a1 < 2 ^ 64 ∧ u = a0 % 65536 ∧ u < 2) :=
  ⟨⟨0x1043, 5, 6, by decide +kernel⟩,
   ⟨0x2041, 300, 6, 300, by decide +kernel⟩,
   ⟨5, 6, 5, by decide +kernel⟩,
   ⟨6, 6, 6, by decide +kernel⟩,
   ⟨6, 6, 6, (on [] (ringOn 3)), by decide +kernel⟩,
   ⟨1, 6, 1, by decide +kernel⟩⟩

theorem test_meets_fault_collector_2 :
    (∃ (a0 a1 u : Nat), a0 < 2 ^ 64 ∧ a1 < 2 ^ 64 ∧ u = a0 % 65536 ∧ u < 3) ∧
    (∃ (code a0 a1 : Nat), (code = 0x3042 ∨ code = 0x30C2) ∧ a0 < 2 ^ 64 ∧ a1 < 2 ^ 64) ∧
    (∃ (code a0 a1 : Nat), (code = 0x40C3 ∨ code = 0x44C2 ∨ code = 0x4502 ∨ code = 0x4542) ∧ a0 < 2 ^ 64 ∧ a1 < 2 ^ 64) :=
  ⟨⟨1, 6, 1, by decide +kernel⟩,
   ⟨0x3042, 5, 6, by decide +kernel⟩,
   ⟨0x40C3, 5, 6, by decide +kernel⟩⟩

theorem test_meets_restart_phases_1 :
    (∃ (data : List (Nat × List Nat)) (s : State), hostCopy data = true ∧ dget R.RESTART_STATE s.dev = 1) ∧
    (∃ (data : List (Nat × List Nat)) (gone : List Nat) (s : State), hostCopy data = true ∧ dget R.RESTART_STATE s.dev = 2 ∧ dget R.BOOT_STATE s.dev = 2 ∧ gone = s.dev.fuses.windthrow ++ s.dev.ldr.map ++ s.dev.ldr.pend ∧ mapOk s.dev gone = true ∧ (replan s.dev gone (loadedSlots s.dev)).isSome = true) ∧
    (∃ (data : List (Nat × List Nat)) (gone : List Nat) (s : State), hostCopy data = true ∧ dget R.RESTART_STATE s.dev = 2 ∧ dget R.BOOT_STATE s.dev = 2 ∧ gone = s.dev.fuses.windthrow ++ s.dev.ldr.map ++ s.dev.ldr.pend ∧ (mapOk s.dev gone = false ∨ replan s.dev gone (loadedSlots s.dev) = none)) ∧
    (∃ (data : List (Nat × List Nat)) (s : State), hostCopy data = true ∧ dget R.RESTART_STATE s.dev = 2 ∧ dget R.BOOT_STATE s.dev ≠ 2) ∧
    (∃ (data : List (Nat × List Nat)) (new : List Nat) (s : State), hostCopy data = true ∧ dget R.RESTART_STATE s.dev = 3 ∧ new = s.dev.fuses.windthrow ++ (s.dev.ldr.map ++ s.dev.ldr.pend) ∧ dget R.PSRAM_RETIRED s.dev = 0 ∧ (replan s.dev new (loadedSlots s.dev)).isSome = true) ∧
    (∃ (data : List (Nat × List Nat)) (new : List Nat) (s : State), hostCopy data = true ∧ dget R.RESTART_STATE s.dev = 3 ∧ new = s.dev.fuses.windthrow ++ (s.dev.ldr.map ++ s.dev.ldr.pend) ∧ (dget R.PSRAM_RETIRED s.dev ≠ 0 ∨ replan s.dev new (loadedSlots s.dev) = none)) :=
  ⟨⟨([(0, [1, 2])]), (on [(R.RESTART_STATE, 1)]), by decide +kernel⟩,
   ⟨[], ((on [(R.RESTART_STATE, 2)]).dev.fuses.windthrow ++ (on [(R.RESTART_STATE, 2)]).dev.ldr.map ++ (on [(R.RESTART_STATE, 2)]).dev.ldr.pend), ((on [(R.RESTART_STATE, 2)])), by decide +kernel, by decide +kernel, by decide +kernel, rfl, by decide +kernel⟩,
   ⟨[], ((on [(R.RESTART_STATE, 2)] obj1At).dev.fuses.windthrow ++ (on [(R.RESTART_STATE, 2)] obj1At).dev.ldr.map ++ (on [(R.RESTART_STATE, 2)] obj1At).dev.ldr.pend), ((on [(R.RESTART_STATE, 2)] obj1At)), by decide +kernel, by decide +kernel, by decide +kernel, rfl, by decide +kernel⟩,
   ⟨[], (on [(R.RESTART_STATE, 2), (R.BOOT_STATE, 1)]), by decide +kernel⟩,
   ⟨[], ((on [(R.RESTART_STATE, 3)] fun d => { d with ldr := { d.ldr with pend := [300] } }).dev.fuses.windthrow ++ ((on [(R.RESTART_STATE, 3)] fun d => { d with ldr := { d.ldr with pend := [300] } }).dev.ldr.map ++ (on [(R.RESTART_STATE, 3)] fun d => { d with ldr := { d.ldr with pend := [300] } }).dev.ldr.pend)), ((on [(R.RESTART_STATE, 3)] fun d => { d with ldr := { d.ldr with pend := [300] } })), by decide +kernel, by decide +kernel, rfl, by decide +kernel⟩,
   ⟨[], ((on [(R.RESTART_STATE, 3)] fun d => obj1At { d with ldr := { d.ldr with pend := [300] } }).dev.fuses.windthrow ++ ((on [(R.RESTART_STATE, 3)] fun d => obj1At { d with ldr := { d.ldr with pend := [300] } }).dev.ldr.map ++ (on [(R.RESTART_STATE, 3)] fun d => obj1At { d with ldr := { d.ldr with pend := [300] } }).dev.ldr.pend)), ((on [(R.RESTART_STATE, 3)] fun d => obj1At { d with ldr := { d.ldr with pend := [300] } })), by decide +kernel, by decide +kernel, rfl, by decide +kernel⟩⟩

theorem test_meets_restart_phases_2 :
    (∃ (data : List (Nat × List Nat)) (s : State), hostCopy data = true ∧ dget R.RESTART_STATE s.dev = 4 ∧ s.dev.flt.noRejoin = false) ∧
    (∃ (data : List (Nat × List Nat)) (s : State), hostCopy data = true ∧ dget R.RESTART_STATE s.dev = 4 ∧ s.dev.flt.noRejoin = true) ∧
    (∃ (data : List (Nat × List Nat)) (s : State), hostCopy data = true ∧ (dget R.RESTART_STATE s.dev = 0 ∨ 5 ≤ dget R.RESTART_STATE s.dev)) ∧
    (∃ (s : State), dget R.RESTART_STATE s.dev ≠ 0 ∧ s.dev.flt.dev = none) ∧
    (∃ (s : State), (dget R.RESTART_STATE s.dev = 0 ∨ s.dev.flt.dev ≠ none)) ∧
    (∃ (x : Nat) (s : State), dget R.RESTART_STATE s.dev = 3 ∧ hostReads s.dev ≠ [] ∧ x = (hostReads s.dev).getD ((draw s.dev).1 % (hostReads s.dev).length) 0 ∧ tget 0 s.dev.flt.copyTries x < 2) :=
  ⟨⟨[], (on [(R.RESTART_STATE, 4)]), by decide +kernel⟩,
   ⟨[], (up [(R.RESTART_STATE, 4)] fun d => { d with flt := { d.flt with noRejoin := true, mapWas := some [3] }, undef := true }), by decide +kernel⟩,
   ⟨[], (on []), by decide +kernel⟩,
   ⟨(on [(R.RESTART_STATE, 3)]), by decide +kernel⟩,
   ⟨(on []), by decide +kernel⟩,
   ⟨((hostReads (on [(R.RESTART_STATE, 3)] fun d => obj3At { d with ldr := { d.ldr with pend := [0] } }).dev).getD ((draw (on [(R.RESTART_STATE, 3)] fun d => obj3At { d with ldr := { d.ldr with pend := [0] } }).dev).1 % (hostReads (on [(R.RESTART_STATE, 3)] fun d => obj3At { d with ldr := { d.ldr with pend := [0] } }).dev).length) 0), ((on [(R.RESTART_STATE, 3)] fun d => obj3At { d with ldr := { d.ldr with pend := [0] } })), by decide +kernel, by decide +kernel, rfl, by decide +kernel⟩⟩

theorem test_meets_restart_phases_3 :
    (∃ (x : Nat) (s : State), dget R.RESTART_STATE s.dev = 3 ∧ hostReads s.dev ≠ [] ∧ x = (hostReads s.dev).getD ((draw s.dev).1 % (hostReads s.dev).length) 0 ∧ 2 ≤ tget 0 s.dev.flt.copyTries x) ∧
    (∃ (s : State), (dget R.RESTART_STATE s.dev ≠ 3 ∨ hostReads s.dev = [])) :=
  ⟨⟨0, ((on [(R.RESTART_STATE, 3)] fun d => obj3At { d with ldr := { d.ldr with pend := [0] }, flt := { d.flt with copyTries := [(0, 2)] } })), by decide +kernel, by decide +kernel, by rw [show hostReads ((on [(R.RESTART_STATE, 3)] fun d => obj3At { d with ldr := { d.ldr with pend := [0] }, flt := { d.flt with copyTries := [(0, 2)] } })).dev = [0] from by decide +kernel]; simp [Nat.mod_one], by decide +kernel⟩,
   ⟨(on []), by decide +kernel⟩⟩

theorem test_meets_clearing_faults_1 :
    (∃ (code : Nat) (s : State), Asks 0 s.dev ∧ s.dev.flt.dev = some code ∧ ((∀ j ∈ s.dev.pwr.junctions, j.2 ≤ sgn 16 (dget R.JUNCTION_CONTROL s.dev))) ∧ dget R.PSRAM_RETIRED s.dev = 0) ∧
    (∃ (s : State), Asks 0 s.dev ∧ s.dev.flt.dev = none) ∧
    (∃ (code : Nat) (s : State), Asks 0 s.dev ∧ s.dev.flt.dev = some code ∧ ((∃ j ∈ s.dev.pwr.junctions, sgn 16 (dget R.JUNCTION_CONTROL s.dev) < j.2) ∨ dget R.PSRAM_RETIRED s.dev ≠ 0)) ∧
    (∃ (c : Nat) (s : State), c ≠ 0 ∧ Asks c s.dev) ∧
    (∃ (s : State), reactionsDone s.dev = true ∧ dget R.FAULT_ACTIVE s.dev % 16 ≠ 0) ∧
    (∃ (s : State), (reactionsDone s.dev = false ∨ dget R.FAULT_ACTIVE s.dev % 16 = 0)) :=
  ⟨⟨0x4502, (on [(R.FAULT_ACTIVE, 25), (R.JUNCTION_CONTROL, 1000)] fun d => { d with flt := { d.flt with dev := some 0x4502 }, pwr := { d.pwr with junctions := [(3, 1000)] } }), by unfold Asks; decide +kernel, by decide +kernel⟩,
   ⟨(up []), by unfold Asks; decide +kernel, by decide +kernel⟩,
   ⟨0x4502, (up [(R.PSRAM_RETIRED, 2)] fun d => { d with flt := { d.flt with dev := some 0x4502 } }), by unfold Asks; decide +kernel, by decide +kernel⟩,
   ⟨2, (up [] npp), by decide +kernel, by unfold Asks; decide +kernel⟩,
   ⟨(up [(R.FAULT_ACTIVE, 2), (R.FAULT_N_CLASSES, 31)] fun d => { d with flt := { d.flt with quietFrom := some 90000 } }), by decide +kernel⟩,
   ⟨(up []), by decide +kernel⟩⟩

theorem test_meets_clearing_faults_2 :
    (∃ (at0 : List Nat) (s : State), 3 ≤ s.dev.sys.step ∧ dget R.RECOVERY_STATUS s.dev ≠ 3 ∧ powerState s.dev ≠ 3 ∧ at0 = (s.dev.now :: s.dev.flt.mpAt.filter (fun t => decide (s.dev.now - t < 10 * acPerS))).take 3) ∧
    (∃ (s : State), (s.dev.sys.step < 3 ∨ dget R.RECOVERY_STATUS s.dev = 3 ∨ powerState s.dev = 3)) :=
  ⟨⟨[100000], (up [] npp), by decide +kernel⟩,
   ⟨(st []), by decide +kernel⟩⟩

theorem test_meets_power_requests_1 :
    (∃ (c v : Nat) (s : State), Asks c s.dev ∧ c ≠ 1 ∧ v < 4 ∧ dget R.POWER_TRANSITION s.dev = 0 ∧ v < powerState s.dev) ∧
    (∃ (c v : Nat) (s : State), Asks c s.dev ∧ c ≠ 1 ∧ v < 4 ∧ dget R.POWER_TRANSITION s.dev = 0 ∧ v = powerState s.dev) ∧
    (∃ (c v : Nat) (s : State), Asks c s.dev ∧ c ≠ 1 ∧ v < 4 ∧ dget R.POWER_TRANSITION s.dev = 0 ∧ powerState s.dev < v) ∧
    (∃ (c v : Nat) (s : State), Asks c s.dev ∧ c ≠ 1 ∧ v < 4 ∧ dget R.POWER_TRANSITION s.dev ≠ 0) ∧
    (∃ (c v : Nat) (s : State), Asks c s.dev ∧ v < 256 ∧ 3 < v) ∧
    (∃ (c v : Nat) (s : State), Asks c s.dev ∧ v < 256 ∧ c = 1 ∧ v < 4) :=
  ⟨⟨0, 0, (up [(R.POWER_STATE, 1)]), by unfold Asks; decide +kernel, by decide +kernel⟩,
   ⟨0, 1, (up [(R.POWER_STATE, 1)]), by unfold Asks; decide +kernel, by decide +kernel⟩,
   ⟨0, 1, (up []), by unfold Asks; decide +kernel, by decide +kernel⟩,
   ⟨0, 2, (up [(R.POWER_TRANSITION, 2)]), by unfold Asks; decide +kernel, by decide +kernel⟩,
   ⟨0, 4, (up []), by unfold Asks; decide +kernel, by decide +kernel⟩,
   ⟨1, 2, (up [] (jobAt 1 [])), by unfold Asks; decide +kernel, by decide +kernel⟩⟩

theorem test_meets_power_requests_2 :
    (∃ (x : Nat) (s : State), x < 2 ^ 128 ∧ x = s.dev.fuses.serial ∧ (powerState s.dev = 3 ∨ dget R.BOOT_STATE s.dev = 2)) ∧
    (∃ (x : Nat) (s : State), x < 2 ^ 128 ∧ (x ≠ s.dev.fuses.serial ∨ (powerState s.dev ≠ 3 ∧ dget R.BOOT_STATE s.dev ≠ 2))) ∧
    (∃ (l : Nat), l < 67) ∧
    (∃ (p : Nat) (s : State), p < 2 ∧ (linkState s.dev p = 0 ∨ linkState s.dev p = 1)) ∧
    (∃ (p : Nat) (s : State), p < 2 ∧ 1 < linkState s.dev p) ∧
    (∃ (p q : Nat) (s : State), p < 2 ∧ q < 4096 ∧ Arrives p q s.dev) :=
  ⟨⟨5, (up [(R.POWER_STATE, 3), (R.BOOT_STATE, 0)] serial5), by decide +kernel⟩,
   ⟨6, (up [] serial5), by decide +kernel⟩,
   ⟨5, by decide +kernel⟩,
   ⟨1, (up [(R.POWER_STATE, 2), (R.WAKE_ENABLE, 31)] (linkAt 1 1 Link.rest)), by decide +kernel⟩,
   ⟨1, (up [(R.POWER_STATE, 2), (R.WAKE_ENABLE, 31)] (linkAt 1 2 Link.rest)), by decide +kernel⟩,
   ⟨1, 7, (up [(R.POWER_STATE, 2), (R.WAKE_ENABLE, 31)] (linkAt 1 2 Link.rest)), by decide +kernel, by decide +kernel, by unfold Arrives; decide +kernel⟩⟩

theorem test_meets_power_requests_3 :
    (∃ (p q : Nat) (s : State), p < 2 ∧ q < 4096 ∧ linkState s.dev p ≠ 2) :=
  ⟨1, 7, (up [(R.POWER_STATE, 2), (R.WAKE_ENABLE, 31)] (linkAt 1 3 Link.rest)), by decide +kernel⟩

theorem test_meets_power_transitions_1 :
    (∃ (b : Nat) (s : State), dget R.POWER_TRANSITION s.dev = 1 ∧ refuser s.dev.pwr.target s.dev = some b ∧ dget R.POWER_PENDING s.dev = 0xFF) ∧
    (∃ (s : State), dget R.POWER_TRANSITION s.dev = 1 ∧ refuser s.dev.pwr.target s.dev = none ∧ s.dev.pwr.target = 1) ∧
    (∃ (s : State), dget R.POWER_TRANSITION s.dev = 1 ∧ refuser s.dev.pwr.target s.dev = none ∧ 2 ≤ s.dev.pwr.target ∧ ((s.dev.pwr.target = 3 → (ringOf s.dev 3).enabled = false ∨ (ringOf s.dev 3).queue = [])) ∧ powerState s.dev ≤ 1) ∧
    (∃ (s : State), dget R.POWER_TRANSITION s.dev = 1 ∧ refuser s.dev.pwr.target s.dev = none ∧ s.dev.pwr.target = 3 ∧ ((ringOf s.dev 3).enabled = false ∨ (ringOf s.dev 3).queue = []) ∧ powerState s.dev = 2) ∧
    (∃ (s : State), dget R.POWER_TRANSITION s.dev = 1 ∧ refuser s.dev.pwr.target s.dev = none ∧ s.dev.pwr.target = 3 ∧ (ringOf s.dev 3).enabled = true ∧ (ringOf s.dev 3).queue ≠ []) ∧
    (∃ (b : Nat) (s : State), b ∈ [15, 14, 13, 11, 10, 8, 16, 12, 20] ∧ dget R.POWER_TRANSITION s.dev = 1 ∧ dget R.POWER_PENDING s.dev = 0xFF) :=
  ⟨⟨14, (up [(R.POWER_TRANSITION, 1), (R.LOAD_STATE, 2), (R.POWER_PENDING, 255)] (pwrAt fun x => { x with target := 1 })), by decide +kernel⟩,
   ⟨(up [(R.POWER_TRANSITION, 1), (R.POWER_PENDING, 255)] (pwrAt fun x => { x with target := 1 })), by decide +kernel⟩,
   ⟨(up [(R.POWER_TRANSITION, 1), (R.POWER_PENDING, 255)] (pwrAt fun x => { x with target := 2 })), by decide +kernel⟩,
   ⟨(up [(R.POWER_STATE, 2), (R.POWER_TRANSITION, 1), (R.POWER_PENDING, 255), (R.RING_LINK_STATE_W, 2)] (pwrAt fun x => { x with target := 3, aspm := true })), by decide +kernel⟩,
   ⟨(up [(R.POWER_STATE, 2), (R.POWER_TRANSITION, 1), (R.POWER_PENDING, 255)] fun d => setRing 3 { ringOf d 3 with enabled := true, queue := [rec1] } (pwrAt (fun x => { x with target := 3, aspm := true }) d)), by decide +kernel⟩,
   ⟨10, (up [(R.POWER_TRANSITION, 1), (R.POWER_PENDING, 255)] (pwrAt fun x => { x with target := 2, since := 99999 })), by decide +kernel⟩⟩

theorem test_meets_power_transitions_2 :
    (∃ (b : Nat) (s : State), b ∈ [15, 14, 13, 11, 10, 8, 16, 12, 20] ∧ dget R.POWER_TRANSITION s.dev ≠ 1) ∧
    (∃ (s : State), dget R.POWER_TRANSITION s.dev = 2 ∧ dget R.POWER_PENDING s.dev = 0xFF) ∧
    (∃ (s : State), dget R.POWER_TRANSITION s.dev = 2 ∧ dget R.POWER_PENDING s.dev < 4 ∧ dget R.POWER_PENDING s.dev < s.dev.pwr.target) ∧
    (∃ (s : State), dget R.POWER_TRANSITION s.dev = 2 ∧ dget R.POWER_PENDING s.dev < 4 ∧ s.dev.pwr.target < dget R.POWER_PENDING s.dev) ∧
    (∃ (s : State), dget R.POWER_TRANSITION s.dev = 2 ∧ dget R.POWER_PENDING s.dev = s.dev.pwr.target) ∧
    (∃ (s : State), dget R.POWER_TRANSITION s.dev = 3 ∧ dget R.POWER_PENDING s.dev = 0xFF ∧ powerState s.dev = 1 ∧ dget R.RING_WAKE_PROPAGATE s.dev = 0) :=
  ⟨⟨10, (up []), by decide +kernel⟩,
   ⟨(up [(R.POWER_TRANSITION, 2), (R.POWER_PENDING, 255)] (pwrAt fun x => { x with target := 2 })), by decide +kernel⟩,
   ⟨(up [(R.POWER_TRANSITION, 2), (R.POWER_PENDING, 1)] (pwrAt fun x => { x with target := 2, pendSource := 3 })), by decide +kernel⟩,
   ⟨(up [(R.POWER_TRANSITION, 2), (R.POWER_PENDING, 3)] (pwrAt fun x => { x with target := 2, pendSource := 3 })), by decide +kernel⟩,
   ⟨(up [(R.POWER_TRANSITION, 2), (R.POWER_PENDING, 2)] (pwrAt fun x => { x with target := 2, pendSource := 3 })), by decide +kernel⟩,
   ⟨(up [(R.POWER_STATE, 1), (R.POWER_TRANSITION, 3), (R.POWER_PENDING, 255), (R.RING_WAKE_PROPAGATE, 0)] (pwrAt fun x => { x with target := 0 })), by decide +kernel⟩⟩

theorem test_meets_power_transitions_3 :
    (∃ (s : State), dget R.POWER_TRANSITION s.dev = 3 ∧ dget R.POWER_PENDING s.dev = 0xFF ∧ s.dev.pwr.target = 0 ∧ s.dev.pwr.source ≠ 0 ∧ dget R.RING_WAKE_PROPAGATE s.dev = 1) ∧
    (∃ (s : State), dget R.POWER_TRANSITION s.dev = 3 ∧ dget R.POWER_PENDING s.dev = 0xFF) ∧
    (∃ (s : State), dget R.POWER_TRANSITION s.dev ≠ 2 ∧ dget R.POWER_TRANSITION s.dev ≠ 3) ∧
    (∃ (s : State), dget R.POWER_TRANSITION s.dev = 3 ∧ dget R.POWER_PENDING s.dev = 0xFF ∧ 2 ≤ powerState s.dev ∧ s.dev.pwr.target ≤ 1) :=
  ⟨⟨(up [(R.POWER_STATE, 1), (R.POWER_TRANSITION, 3), (R.POWER_PENDING, 255), (R.RING_WAKE_PROPAGATE, 1)] fun d => linkAt 0 2 Link.rest (linkAt 1 2 Link.rest (pwrAt (fun x => { x with target := 0, source := 3 }) d))), by decide +kernel⟩,
   ⟨(up [(R.POWER_STATE, 3), (R.POWER_TRANSITION, 3), (R.POWER_PENDING, 255)] (pwrAt fun x => { x with target := 0 })), by decide +kernel⟩,
   ⟨(up []), by decide +kernel⟩,
   ⟨(up [(R.POWER_STATE, 3), (R.POWER_TRANSITION, 3), (R.POWER_PENDING, 255)] (pwrAt fun x => { x with target := 0 })), by decide +kernel⟩⟩

theorem test_meets_canopy_1 :
    (∃ (p i : Nat), p < 65536 ∧ i < 65536) ∧
    (∃ (js : List Int) (inl : Int) (out : Int) (f : Nat) (s : State), js.length = 100 ∧ ((∀ j ∈ js, -32768 ≤ j ∧ j < 32768)) ∧ -32768 ≤ inl ∧ inl < 32768 ∧ -32768 ≤ out ∧ out < 32768 ∧ f < 65536 ∧ ((∀ j ∈ js, j < sgn 16 (dget R.JUNCTION_TRIP s.dev)))) ∧
    (∃ (js : List Int) (inl : Int) (out : Int) (f k : Nat) (s : State), js.length = 100 ∧ ((∀ j ∈ js, -32768 ≤ j ∧ j < 32768)) ∧ -32768 ≤ inl ∧ inl < 32768 ∧ -32768 ≤ out ∧ out < 32768 ∧ f < 65536 ∧ k < 100 ∧ sgn 16 (dget R.JUNCTION_TRIP s.dev) ≤ js.getD k 0 ∧ tget 0 s.dev.pwr.junctions k < sgn 16 (dget R.JUNCTION_TRIP s.dev)) ∧
    (∃ (s : State), causes s.dev ≠ 0 ∧ stage s.dev ≤ 2 ∧ ((stage s.dev = 2 → dget R.FALLBACK_ENABLE s.dev ≠ 0)) ∧ ((s.dev.pwr.noFallback.isSome = true → dget R.FALLBACK_ENABLE s.dev ≠ 0))) ∧
    (∃ (s : State), causes s.dev ≠ 0 ∧ stage s.dev = 2 ∧ dget R.FALLBACK_ENABLE s.dev = 0 ∧ s.dev.pwr.noFallback = none) ∧
    (∃ (s : State), (causes s.dev = 0 ∨ stage s.dev = 3 ∨ (s.dev.pwr.noFallback.isSome = true ∧ dget R.FALLBACK_ENABLE s.dev = 0))) :=
  ⟨⟨50, 60, by decide +kernel⟩,
   ⟨(List.replicate 99 40 ++ [45]), 20, 30, 500, (up [(R.JUNCTION_TRIP, 1000), (R.JUNCTION_CONTROL, 800), (R.INLET_LIMIT, 300), (R.FLOW_MIN, 100), (R.CANOPY_CAUSE, 1)]), by decide +kernel⟩,
   ⟨(List.replicate 98 (-40) ++ [1000, 45]), 320, 30, 50, 98, (up [(R.JUNCTION_TRIP, 1000), (R.JUNCTION_CONTROL, 800), (R.INLET_LIMIT, 300), (R.FLOW_MIN, 100), (R.CANOPY_CAUSE, 1)]), by decide +kernel⟩,
   ⟨(up [(R.CANOPY_CAUSE, 1), (R.CANOPY_STAGE, 0)]), by decide +kernel⟩,
   ⟨(up [(R.CANOPY_CAUSE, 1), (R.CANOPY_STAGE, 2)] (pwrAt fun x => { x with raised := some 99990 })), by decide +kernel⟩,
   ⟨(up []), by decide +kernel⟩⟩

theorem test_meets_canopy_2 :
    (∃ (t : Nat) (s : State), s.dev.pwr.clear = some t ∧ causes s.dev = 0 ∧ stage s.dev ≠ 0) ∧
    (∃ (s : State), (s.dev.pwr.clear = none ∨ causes s.dev ≠ 0 ∨ stage s.dev = 0)) ∧
    (∃ (t : Nat) (s : State), s.dev.pwr.noFallback = some t ∧ causes s.dev ≠ 0 ∧ stage s.dev = 2 ∧ dget R.FALLBACK_ENABLE s.dev = 0) ∧
    (∃ (s : State), (s.dev.pwr.noFallback = none ∨ causes s.dev = 0 ∨ stage s.dev ≠ 2 ∨ dget R.FALLBACK_ENABLE s.dev ≠ 0)) :=
  ⟨⟨99000, (up [(R.CANOPY_STAGE, 1)] (pwrAt fun x => { x with clear := some 99000 })), by decide +kernel⟩,
   ⟨(up []), by decide +kernel⟩,
   ⟨99000, (up [(R.CANOPY_CAUSE, 1), (R.CANOPY_STAGE, 2)] (pwrAt fun x => { x with noFallback := some 99000 })), by decide +kernel⟩,
   ⟨(up []), by decide +kernel⟩⟩

theorem test_meets_owner_keys_and_quotes_1 :
    (∃ (v k : Nat) (s : State), HostReaches s.dev ∧ v < 2 ^ 512 ∧ k = beNum (bytesOf v 64) ∧ armed s.dev = false ∧ s.dev.pins.testEn = false ∧ keyOf s.dev 0 = none) ∧
    (∃ (v k : Nat) (s : State), HostReaches s.dev ∧ v < 2 ^ 512 ∧ k = beNum (bytesOf v 64) ∧ armed s.dev = false ∧ s.dev.pins.testEn = false ∧ (keyOf s.dev 0).isSome = true ∧ keyOf s.dev 1 = none) ∧
    (∃ (v : Nat) (s : State), HostReaches s.dev ∧ v < 2 ^ 512 ∧ (armed s.dev = true ∨ s.dev.pins.testEn = true ∨ ((keyOf s.dev 0).isSome = true ∧ (keyOf s.dev 1).isSome = true))) ∧
    (∃ (x : Nat) (s : State), HostReaches s.dev ∧ x < 2 ∧ (provisioned s.dev = false ∨ (∃ y, y < 2 ∧ y ≠ x ∧ (keyOf s.dev y).isSome = true ∧ bit s.dev.fuses.revoked y = false))) ∧
    (∃ (x : Nat) (s : State), HostReaches s.dev ∧ x < 2 ∧ provisioned s.dev = true ∧ ((∀ y, y < 2 → y ≠ x → keyOf s.dev y = none ∨ bit s.dev.fuses.revoked y = true))) ∧
    (∃ (v : Nat) (s : State), HostReaches s.dev ∧ v < 256 ∧ s.dev.fuses.svn ≤ v ∧ v ≤ dget R.FW_SVN s.dev ∧ v ≤ 64) :=
  ⟨⟨99, (beNum (bytesOf 99 64)), (up []), by unfold HostReaches; decide +kernel, by decide +kernel, rfl, by decide +kernel⟩,
   ⟨99, (beNum (bytesOf 99 64)), (up [] fun d => { d with fuses := { d.fuses with ownerKeys := [(0, some 5)] } }), by unfold HostReaches; decide +kernel, by decide +kernel, rfl, by decide +kernel⟩,
   ⟨99, (on []), by unfold HostReaches; decide +kernel, by decide +kernel⟩,
   ⟨0, (up []), by unfold HostReaches; decide +kernel, by decide +kernel⟩,
   ⟨0, (up [] fun d => { d with fuses := { d.fuses with ownerKeys := [(0, some 5)] } }), by unfold HostReaches; decide +kernel, by decide +kernel⟩,
   ⟨5, (up [(R.FW_SVN, 5)] fun d => { d with fuses := { d.fuses with svn := 3 } }), by unfold HostReaches; decide +kernel, by decide +kernel⟩⟩

theorem test_meets_owner_keys_and_quotes_2 :
    (∃ (v : Nat) (s : State), HostReaches s.dev ∧ v < 256 ∧ (v < s.dev.fuses.svn ∨ dget R.FW_SVN s.dev < v ∨ 64 < v)) ∧
    (∃ (v : Nat) (s : State), HostReaches s.dev ∧ v < 256 ∧ 2 ≤ v) ∧
    (∃ (c v : Nat) (s : State), c ≠ 0 ∧ Asks c s.dev ∧ v < 256) ∧
    (∃ (c : Nat) (s : State), Asks c s.dev ∧ powerState s.dev ≠ 3 ∧ dget R.QUOTE_STATE s.dev ≠ 1) ∧
    (∃ (c : Nat) (s : State), Asks c s.dev ∧ powerState s.dev ≠ 3 ∧ dget R.QUOTE_STATE s.dev = 1) ∧
    (∃ (s : State), dget R.QUOTE_STATE s.dev = 1) :=
  ⟨⟨6, (up [(R.FW_SVN, 5)] fun d => { d with fuses := { d.fuses with svn := 3 } }), by unfold HostReaches; decide +kernel, by decide +kernel⟩,
   ⟨2, (up []), by unfold HostReaches; decide +kernel, by decide +kernel⟩,
   ⟨2, 1, (up [] npp), by decide +kernel, by unfold Asks; decide +kernel, by decide +kernel⟩,
   ⟨2, (up [] npp), by unfold Asks; decide +kernel, by decide +kernel⟩,
   ⟨0, (up [(R.QUOTE_STATE, 1)]), by unfold Asks; decide +kernel, by decide +kernel⟩,
   ⟨(up [(R.QUOTE_STATE, 1)] (secAt fun x => { x with quote := List.range 100 })), by decide +kernel⟩⟩

theorem test_meets_owner_keys_and_quotes_3 :
    (∃ (s : State), dget R.QUOTE_STATE s.dev ≠ 1) ∧
    (∃ (dg : List Nat) (s : State), dg.length = 32 ∧ ((∀ b ∈ dg, b < 256)) ∧ dget R.BOOT_STATE s.dev = 2) ∧
    (∃ (dg : List Nat) (s : State), dg.length = 32 ∧ ((∀ b ∈ dg, b < 256)) ∧ dget R.BOOT_STATE s.dev ≠ 2) :=
  ⟨⟨(up []), by decide +kernel⟩,
   ⟨(List.range 32), (up []), by decide +kernel⟩,
   ⟨(List.range 32), (up [(R.BOOT_STATE, 3)]), by decide +kernel⟩⟩

theorem test_meets_boot_and_recovery_1 :
    (∃ (s : State), dget R.BOOT_STATE s.dev = 0 ∧ 3 ≤ s.dev.sys.step) ∧
    (∃ (s : State), (dget R.BOOT_STATE s.dev ≠ 0 ∨ s.dev.sys.step < 3)) ∧
    (∃ (err : Bool) (r : Nat) (s : State), dget R.BOOT_STATE s.dev = 1 ∧ r = imageReason s.dev err s.dev.sec.flash) ∧
    (∃ (s : State), dget R.BOOT_STATE s.dev ≠ 1) ∧
    (∃ (s : State), Asks 0 s.dev) ∧
    (∃ (c : Nat) (s : State), c ≠ 0 ∧ Asks c s.dev) :=
  ⟨⟨(st [] fun d => { d with sys := { d.sys with step := 3 } }), by decide +kernel⟩,
   ⟨(up []), by decide +kernel⟩,
   ⟨false, (imageReason (up [(R.BOOT_STATE, 1), (R.START_STATE, 1)] fun d => romG (secAt (fun x => { x with flash := img1 }) d)).dev false (up [(R.BOOT_STATE, 1), (R.START_STATE, 1)] fun d => romG (secAt (fun x => { x with flash := img1 }) d)).dev.sec.flash), ((up [(R.BOOT_STATE, 1), (R.START_STATE, 1)] fun d => romG (secAt (fun x => { x with flash := img1 }) d))), by decide +kernel, rfl⟩,
   ⟨(up []), by decide +kernel⟩,
   ⟨(up [] fun d => npp (jobAt 1 [] d)), by unfold Asks; decide +kernel⟩,
   ⟨2, (up [] npp), by decide +kernel, by unfold Asks; decide +kernel⟩⟩

theorem test_meets_boot_and_recovery_2 :
    (∃ (s : State), HostReaches s.dev ∧ dget R.BOOT_STATE s.dev ≠ 2) ∧
    (∃ (c : Nat) (img : List Nat) (s : State), AsksRom c s.dev ∧ ((∀ b ∈ img, b < 256)) ∧ takesImage s.dev = true) ∧
    (∃ (c : Nat) (img : List Nat) (s : State), AsksRom c s.dev ∧ ((∀ b ∈ img, b < 256)) ∧ takesImage s.dev = false) ∧
    (∃ (c : Nat) (ch : List Nat) (s : State), AsksRom c s.dev ∧ ch.length = 1024 ∧ ((∀ b ∈ ch, b < 256))) ∧
    (∃ (ok : Bool) (r : Nat) (s : State), dget R.RECOVERY_STATUS s.dev = 2 ∧ r = imageReason s.dev (!ok) s.dev.sec.image) ∧
    (∃ (s : State), dget R.RECOVERY_STATUS s.dev = 3) :=
  ⟨⟨(up [(R.BOOT_STATE, 3)]), by unfold HostReaches; decide +kernel, by decide +kernel⟩,
   ⟨0, [1, 2, 3], (up [(R.BOOT_STATE, 3), (R.RECOVERY_STATUS, 1), (R.RECOVERY_BYTES, 1500)] (secAt fun x => { x with chunks := [(0, List.replicate 1024 7), (1, List.replicate 1024 8)] })), by unfold AsksRom HostReaches; decide +kernel, by decide +kernel⟩,
   ⟨0, [1, 2, 3], (up [(R.BOOT_STATE, 2), (R.RECOVERY_STATUS, 1), (R.RECOVERY_BYTES, 1500)]), by unfold AsksRom HostReaches; decide +kernel, by decide +kernel⟩,
   ⟨0, (List.replicate 1024 9), (up [(R.BOOT_STATE, 3), (R.RECOVERY_OFFSET, 2048)]), by unfold AsksRom HostReaches; decide +kernel, by decide +kernel⟩,
   ⟨true, (imageReason (up [(R.BOOT_STATE, 3), (R.RECOVERY_STATUS, 2)] fun d => romG (secAt (fun x => { x with image := img1 }) d)).dev false (up [(R.BOOT_STATE, 3), (R.RECOVERY_STATUS, 2)] fun d => romG (secAt (fun x => { x with image := img1 }) d)).dev.sec.image), ((up [(R.BOOT_STATE, 3), (R.RECOVERY_STATUS, 2)] fun d => romG (secAt (fun x => { x with image := img1 }) d))), by decide +kernel, rfl⟩,
   ⟨(up [(R.BOOT_STATE, 3), (R.RECOVERY_STATUS, 3)] fun d => romG (secAt (fun x => { x with image := img1 }) d)), by decide +kernel⟩⟩

theorem test_meets_boot_and_recovery_3 :
    (∃ (s : State), dget R.RECOVERY_STATUS s.dev ≠ 2 ∧ dget R.RECOVERY_STATUS s.dev ≠ 3) :=
  ⟨(up []), by decide +kernel⟩

theorem test_meets_resets_and_rails :
    (∃ (s : State), s.dev.pins.porN = false) ∧
    (∃ (s : State), s.dev.pins.porN = true) ∧
    (∃ (s : State), s.dev.pins.porN = true) ∧
    (∃ (vs : List Nat) (cs : List Nat) (s : State), vs.length = 9 ∧ cs.length = 9 ∧ ((∀ x ∈ vs, x < 65536)) ∧ ((∀ x ∈ cs, x < 65536)) ∧ s.dev.pins.porN = true) ∧
    (∃ (vs : List Nat) (cs : List Nat) (s : State), vs.length = 9 ∧ cs.length = 9 ∧ ((∀ x ∈ vs, x < 65536)) ∧ ((∀ x ∈ cs, x < 65536)) ∧ s.dev.pins.porN = false) :=
  ⟨⟨(st []), by decide +kernel⟩,
   ⟨(up []), by decide +kernel⟩,
   ⟨(on [] fun d => secAt (fun x => { x with flash := img1 }) { d with ports := [(3, { Port.rest with presentN := false, rate := 16 })], pins := { d.pins with safe1 := true, testEn := true } }), by decide +kernel⟩,
   ⟨(List.range 9), (List.range 9), (up [(R.RAIL_VOLTAGE_MIN 3, 2), (R.RAIL_VOLTAGE_MIN 1, 2)]), by decide +kernel⟩,
   ⟨(List.range 9), (List.range 9), (st []), by decide +kernel⟩⟩

theorem test_meets_start_up_steps_1 :
    (∃ (s : State), s.dev.sys.step = 1) ∧
    (∃ (s : State), s.dev.sys.step = 2) ∧
    (∃ (s : State), s.dev.sys.step = 3 ∧ coolantFits s.dev = true) ∧
    (∃ (s : State), s.dev.sys.step = 3 ∧ coolantFits s.dev = false ∧ s.dev.sys.holdAt = none) ∧
    (∃ (s : State), s.dev.sys.step = 3 ∧ coolantFits s.dev = false ∧ s.dev.sys.holdAt.isSome = true) ∧
    (∃ (s : State), s.dev.sys.step = 4) :=
  ⟨⟨(st [] (stepAt 1)), by decide +kernel⟩,
   ⟨(st [(R.MIRROR_LINK_STATE, 5)] (stepAt 2)), by decide +kernel⟩,
   ⟨(st [(R.FLOW, 9000), (R.INLET_TEMP, 10)] (stepAt 3)), by decide +kernel⟩,
   ⟨(st [(R.FLOW, 9000), (R.INLET_TEMP, 20000)] (stepAt 3)), by decide +kernel⟩,
   ⟨(st [(R.FLOW, 9000), (R.INLET_TEMP, 20000)] fun d => stepAt 3 { d with sys := { d.sys with holdAt := some 5 } }), by decide +kernel⟩,
   ⟨(st [(R.START_STATE, 2), (R.BOOT_STATE, 2)] (stepAt 4)), by decide +kernel⟩⟩

theorem test_meets_start_up_steps_2 :
    (∃ (s : State), (s.dev.sys.step = 0 ∨ s.dev.sys.step = 5)) ∧
    (∃ (t : Nat) (s : State), s.dev.sys.holdAt = some t ∧ s.dev.sys.step = 3) ∧
    (∃ (s : State), (s.dev.sys.holdAt = none ∨ s.dev.sys.step ≠ 3)) ∧
    (∃ (c : Nat) (s : State), Asks c s.dev ∧ dget R.START_STATE s.dev = 3 ∧ preparing s.dev = false ∧ (dget R.STORE_STATE s.dev = 0 ∨ dget R.STORE_STATE s.dev = 3)) ∧
    (∃ (c : Nat) (s : State), Asks c s.dev ∧ (dget R.START_STATE s.dev ≠ 3 ∨ preparing s.dev = true ∨ dget R.STORE_STATE s.dev = 1 ∨ dget R.STORE_STATE s.dev = 2)) ∧
    (∃ (s : State), dget R.STORE_STATE s.dev = 1 ∧ dget R.PSRAM_RETIRED s.dev = 0) :=
  ⟨⟨(st []), by decide +kernel⟩,
   ⟨5, (st [] fun d => { d with sys := { d.sys with step := 3, holdAt := some 5 } }), by decide +kernel⟩,
   ⟨(st []), by decide +kernel⟩,
   ⟨2, (up [(R.STORE_STATE, 3), (R.REVIEW_REGION_PAGES, 16)] npp), by unfold Asks; decide +kernel, by decide +kernel⟩,
   ⟨2, (up [(R.STORE_STATE, 2)] npp), by unfold Asks; decide +kernel, by decide +kernel⟩,
   ⟨(up [(R.STORE_STATE, 1), (R.CAPTURES_HELD, 7)]), by decide +kernel⟩⟩

theorem test_meets_start_up_steps_3 :
    (∃ (bad : Nat) (s : State), 0 < bad ∧ bad < 2 ^ 32 ∧ dget R.STORE_STATE s.dev = 1) ∧
    (∃ (bad : Nat) (s : State), bad < 2 ^ 32 ∧ dget R.STORE_STATE s.dev ≠ 1) :=
  ⟨⟨5, (up [(R.STORE_STATE, 1), (R.PSRAM_RETIRED, 2)]), by decide +kernel⟩,
   ⟨5, (up [(R.STORE_STATE, 2)]), by decide +kernel⟩⟩

theorem test_meets_arm_and_stop_1 :
    (∃ (c k pos : Nat) (e : Dev) (s : State), Asks c s.dev ∧ c ≠ 1 ∧ mayArm s.dev = true ∧ (refPpm s.dev).natAbs ≤ 100 ∧ k = dget R.ARM_CONTEXT s.dev ∧ k < 4 ∧ e = linksAtArm s.dev ∧ pos = dget R.RING_POSITION e ∧ atBarrier e = false) ∧
    (∃ (c k pos : Nat) (e : Dev) (s : State), Asks c s.dev ∧ c ≠ 1 ∧ mayArm s.dev = true ∧ (refPpm s.dev).natAbs ≤ 100 ∧ k = dget R.ARM_CONTEXT s.dev ∧ k < 4 ∧ e = linksAtArm s.dev ∧ pos = dget R.RING_POSITION e ∧ atBarrier e = true) ∧
    (∃ (s : State), (linkOf s.dev 0).late = false ∧ (linkOf s.dev 1).late = false ∧ ringJoined s.dev = true ∧ s.dev.lnk.stable < 3) ∧
    (∃ (s : State), (linkOf s.dev 0).late = false ∧ (linkOf s.dev 1).late = false ∧ ringJoined s.dev = false) ∧
    (∃ (c : Nat) (s : State), Asks c s.dev ∧ c ≠ 1 ∧ mayArm s.dev = false) ∧
    (∃ (c : Nat) (s : State), Asks c s.dev ∧ c ≠ 1 ∧ mayArm s.dev = true ∧ 100 < (refPpm s.dev).natAbs) :=
  ⟨⟨0, 1, (dget R.RING_POSITION (linksAtArm (up readyArm (ringOn 0)).dev)), (linksAtArm (up readyArm (ringOn 0)).dev), ((up readyArm (ringOn 0))), by unfold Asks; decide +kernel, by decide +kernel, by decide +kernel, by decide +kernel, by decide +kernel, by decide +kernel, rfl, rfl, by decide +kernel⟩,
   ⟨0, 1, (dget R.RING_POSITION (linksAtArm (up (readyArm ++ [(R.BARRIER_MODE, 1), (R.RING_SIZE, 3), (R.RING_POSITION, 1), (R.CLOCK_REF_PORT, 0)]) fun d => modPort 0 (fun x => { x with sysPer := 1920 }) (linkAt 0 2 Link.rest (ringOn 0 { d with lnk := { d.lnk with size := 3 } }))).dev)), (linksAtArm (up (readyArm ++ [(R.BARRIER_MODE, 1), (R.RING_SIZE, 3), (R.RING_POSITION, 1), (R.CLOCK_REF_PORT, 0)]) fun d => modPort 0 (fun x => { x with sysPer := 1920 }) (linkAt 0 2 Link.rest (ringOn 0 { d with lnk := { d.lnk with size := 3 } }))).dev), ((up (readyArm ++ [(R.BARRIER_MODE, 1), (R.RING_SIZE, 3), (R.RING_POSITION, 1), (R.CLOCK_REF_PORT, 0)]) fun d => modPort 0 (fun x => { x with sysPer := 1920 }) (linkAt 0 2 Link.rest (ringOn 0 { d with lnk := { d.lnk with size := 3 } })))), by unfold Asks; decide +kernel, by decide +kernel, by decide +kernel, by decide +kernel, by decide +kernel, by decide +kernel, rfl, rfl, by decide +kernel⟩,
   ⟨(up readyArm (linkAt 0 2 Link.rest)), by decide +kernel⟩,
   ⟨(up [(R.DEVICE_RING_STATE, 2), (R.RING_SIZE, 3), (R.RING_POSITION, 1)]), by decide +kernel⟩,
   ⟨0, (up []), by unfold Asks; decide +kernel, by decide +kernel⟩,
   ⟨0, (up readyArm fun d => ringOn 0 { d with pll := { d.pll with ppm := [(dget R.CLOCK_REF_PORT d, 101)] } }), by unfold Asks; decide +kernel, by decide +kernel⟩⟩

theorem test_meets_arm_and_stop_2 :
    (∃ (s : State), Asks 1 s.dev) ∧
    (∃ (c : Nat) (s : State), Asks c s.dev ∧ c ≠ 1 ∧ arrayState s.dev = 1 ∧ dget R.CURRENT_CONTEXT s.dev < 4) ∧
    (∃ (c : Nat) (s : State), Asks c s.dev ∧ c ≠ 1 ∧ running s.dev = true) ∧
    (∃ (c : Nat) (s : State), Asks c s.dev ∧ c ≠ 1 ∧ (arrayState s.dev = 0 ∨ ending s.dev = true)) ∧
    (∃ (s : State) (r : Nat), (linkOf s.dev 0).late = false ∧ (linkOf s.dev 1).late = false ∧ ringJoined s.dev = true ∧ 3 ≤ s.dev.lnk.stable ∧ arrange s.dev.lnk.found s.dev.lnk.closed = .error r) ∧
    (∃ (s : State) (l : List (Nat × Nat)) (ps : List Nat), (linkOf s.dev 0).late = false ∧ (linkOf s.dev 1).late = false ∧ ringJoined s.dev = true ∧ 3 ≤ s.dev.lnk.stable ∧ arrange s.dev.lnk.found s.dev.lnk.closed = .ok (l, ps)) :=
  ⟨⟨(up [] (jobAt 1 [])), by unfold Asks; decide +kernel⟩,
   ⟨2, (up [(R.ARRAY_STATE, 1), (R.CURRENT_CONTEXT, 1), (R.SLOT_STATE 1, 3), (R.BARRIER_STATE, 1)] npp), by unfold Asks; decide +kernel, by decide +kernel⟩,
   ⟨2, (on [] npp), by unfold Asks; decide +kernel, by decide +kernel⟩,
   ⟨2, (up [] npp), by unfold Asks; decide +kernel, by decide +kernel⟩,
   ⟨(up [] (fun d => linkAt 0 2 Link.rest { d with lnk := { d.lnk with found := [(5, 1), (6, 1)], stable := 3 } })), 2, by decide +kernel, by decide +kernel, by decide +kernel, by decide +kernel, rfl⟩,
   ⟨(up [] (fun d => linkAt 0 2 Link.rest { d with lnk := { d.lnk with found := [(5, 1), (6, 2)], stable := 3, closed := true } })), [(5, 1), (6, 2)], [1, 2], by decide +kernel, by decide +kernel, by decide +kernel, by decide +kernel, rfl⟩⟩

theorem test_meets_test_pin_1 :
    (∃ (s : State), s.dev.pins.testEn = true) ∧
    (∃ (s : State), s.dev.pins.testEn = false ∧ s.dev.sys.step < 3) ∧
    (∃ (s : State), s.dev.pins.testEn = false ∧ 3 ≤ s.dev.sys.step ∧ powerState s.dev = 0 ∧ dget R.POWER_TRANSITION s.dev < 2) ∧
    (∃ (s : State), s.dev.pins.testEn = false ∧ s.dev.sys.step = 5 ∧ powerState s.dev ≠ 0 ∧ dget R.POWER_TRANSITION s.dev = 0 ∧ dget R.POWER_PENDING s.dev = 0xFF) ∧
    (∃ (s : State), s.dev.pins.testEn = false) ∧
    (∃ (s : State), s.dev.pins.testEn = true ∧ s.dev.sys.saved = none) :=
  ⟨⟨(up [] testHigh), by decide +kernel⟩,
   ⟨(st []), by decide +kernel⟩,
   ⟨(up [(R.STORE_LOW_WATER, 77)] (grpAt 1 2)), by decide +kernel⟩,
   ⟨(up [(R.STORE_LOW_WATER, 77), (R.POWER_STATE, 2), (R.POWER_PENDING, 255)]), by decide +kernel⟩,
   ⟨(up []), by decide +kernel⟩,
   ⟨(up [(R.VLINE_STATE, 5)] testHigh), by decide +kernel⟩⟩

theorem test_meets_test_pin_2 :
    (∃ (vals : Tab Nat) (gs : Tab Grp) (s : State), s.dev.pins.testEn = true ∧ s.dev.sys.saved = some (vals, gs)) ∧
    (∃ (v x : Nat) (s : State), s.dev.pins.testEn = true ∧ s.dev.sys.saved = some (tset R.STORE_LOW_WATER.dflt [] R.STORE_LOW_WATER.key v, []) ∧ s.dev.dict = tset R.STORE_LOW_WATER.dflt [] R.STORE_LOW_WATER.key x) ∧
    (∃ (s : State), s.dev.pins.testEn = false ∧ 3 ≤ s.dev.sys.step ∧ (dget R.POWER_TRANSITION s.dev = 2 ∨ dget R.POWER_TRANSITION s.dev = 3)) :=
  ⟨⟨(tset R.STORE_LOW_WATER.dflt [] R.STORE_LOW_WATER.key 44), [], (st [] fun d => testHigh { d with dict := tset R.STORE_LOW_WATER.dflt [] R.STORE_LOW_WATER.key 55, sys := { d.sys with saved := some (tset R.STORE_LOW_WATER.dflt [] R.STORE_LOW_WATER.key 44, []) } }), by decide +kernel⟩,
   ⟨44, 55, (st [] fun d => testHigh { d with dict := tset R.STORE_LOW_WATER.dflt [] R.STORE_LOW_WATER.key 55, sys := { d.sys with saved := some (tset R.STORE_LOW_WATER.dflt [] R.STORE_LOW_WATER.key 44, []) } }), by decide +kernel⟩,
   ⟨(up [(R.POWER_STATE, 3), (R.POWER_TRANSITION, 3), (R.POWER_PENDING, 255)] (pwrAt fun x => { x with target := 1 })), by decide +kernel⟩⟩

theorem test_meets_sample_ticks :
    (∃ (xs : List (Nat × Nat)) (ms : List (Nat × Nat)) (n o : Nat) (cs : List Nat) (s : State), ((∀ x ∈ xs, x.1 < 1024 ∧ x.2 < 65536)) ∧ ((∀ m ∈ ms, m.1 < 64 ∧ 4 ≤ m.2 ∧ m.2 ≤ 480)) ∧ running s.dev = true ∧ s.dev.grid.nextB = n + 1 ∧ nextTick s.dev n = some (o, cs)) ∧
    (∃ (n o c : Nat) (s : State), running s.dev = true ∧ s.dev.grid.nextB = n + 1 ∧ nextTick s.dev n = some (o, [c]) ∧ delivered s.dev c n = false ∧ tickRate s.dev c n ≤ 24 ∧ decim s.dev c n = 1) ∧
    (∃ (xs : List (Nat × Nat)) (ms : List (Nat × Nat)) (s : State), ((∀ x ∈ xs, x.1 < 1024 ∧ x.2 < 65536)) ∧ ((∀ m ∈ ms, m.1 < 64 ∧ 4 ≤ m.2 ∧ m.2 ≤ 480)) ∧ (running s.dev = false ∨ s.dev.grid.nextB = 0 ∨ nextTick s.dev (s.dev.grid.nextB - 1) = none)) :=
  ⟨⟨[(0, 77)], [(0, 30)], 2, 0, [0], (on [(R.LANE_MARGIN 0, 60)] (chans1 1)), by decide +kernel⟩,
   ⟨2, 0, 0, (on [] fun d => { d with ldr := { d.ldr with ctxs := [(0, { Loaded.rest with present := true, rates := [(0, (16, 0))] })] } }), by decide +kernel⟩,
   ⟨[(0, 77)], [(0, 30)], (up []), by decide +kernel⟩⟩

theorem test_meets_reset_store :
    (∃ (d : Dev), AtReset d) :=
  ⟨Dev.reset, .inl rfl⟩

theorem test_meets_reset_review :
    (∃ (d : Dev), AtReset d) :=
  ⟨Dev.reset, .inl rfl⟩

end Sys2Proof.Tests
end

section
/-! SUPPORT. The checks of a dictionary write by a client, one lemma per outcome, and what a refusal leaves. -/

namespace Sys2Proof.Machine

/-! ### What a request leaves on the block before its write is checked -/

/-- The mark of a request is confined to the sessions. -/
theorem asked_sess (c : Nat) (d : Dev) : ∃ x, asked c d = modCtl (fun y => { y with sess := x }) d := by
  unfold asked; split
  · exact ⟨d.ctl.sess, rfl⟩
  · exact ⟨_, rfl⟩

theorem breaksRate_asked (c : Nat) (d : Dev) (key v : Nat) : breaksRate (asked c d) key v = breaksRate d key v := by
  obtain ⟨x, hx⟩ := asked_sess c d; rw [hx]; rfl

theorem breaksLoaded_asked (c : Nat) (d : Dev) (key v : Nat) : breaksLoaded (asked c d) key v = breaksLoaded d key v := by
  obtain ⟨x, hx⟩ := asked_sess c d; rw [hx]; rfl

theorem underSegment_asked (c : Nat) (d : Dev) (key v : Nat) : underSegment (asked c d) key v = underSegment d key v := by
  obtain ⟨x, hx⟩ := asked_sess c d; rw [hx]; rfl

theorem follows_asked (c : Nat) (d : Dev) : follows (asked c d) = follows d := by simp [follows]

theorem forwards_asked (c : Nat) (d : Dev) : forwards (asked c d) = forwards d := by simp [forwards]

theorem unsent_asked (c : Nat) (d : Dev) : unsent (asked c d) = unsent d := by
  obtain ⟨x, hx⟩ := asked_sess c d; rw [hx]; rfl

/-! ### The checks of a write -/

theorem dictWrite_eq (c idx sub len v : Nat) (d : Dev) :
    dictWrite c idx sub len v d = request c (entryWrite c idx sub (carried c len v) none) d := rfl

/-- A write whose operands are in order completes with its effect. -/
theorem completes_dictWrite {c idx sub len v : Nat} {s : State} {P : Dev → Prop} (hw : WriteIn c idx sub len v) (hc : c < 10)
    (hP : P (dictWrite c idx sub len v s.dev)) : Completes (exec (.dictWrite c idx sub len v) s) s P := by
  obtain ⟨hi, hs, hl, hv, hz⟩ := hw
  have hz' : c ≠ 0 ∨ len ∈ [1, 2, 4, 8] := by
    by_cases h : c = 0
    · exact .inr (hz h)
    · exact .inl h
  refine ⟨_, ?_, hP⟩
  show execDictWrite c idx sub len v s = _
  exact run_ok (by simpa [hc, hi, hs, hl, hv] using hz')

theorem entryWrite_noIndex {c idx sub : Nat} {conv : Conv} {img : Option (List Nat)} {d : Dev} (h : idxExists idx = false) :
    entryWrite c idx sub conv img d = (d, 0xA001, idx * 256 + sub) := by simp [entryWrite, h]

theorem entryWrite_fixed {c idx sub : Nat} {conv : Conv} {img : Option (List Nat)} {d : Dev} (h : idxExists idx = true)
    (hs : sub = 0 ∨ (stagingAt idx sub).isSome = true) : entryWrite c idx sub conv img d = (d, 0xA003, idx * 256 + sub) := by
  simp [entryWrite, h, hs]

theorem entryWrite_noEntry {c idx sub : Nat} {conv : Conv} {img : Option (List Nat)} {d : Dev} (h : idxExists idx = true)
    (hs : sub ≠ 0) (hg : stagingAt idx sub = none) (he : findEntry idx sub = none) :
    entryWrite c idx sub conv img d = (d, 0xA002, idx * 256 + sub) := by simp [entryWrite, h, hs, hg, he]

theorem entryWrite_readOnly {c idx sub : Nat} {conv : Conv} {img : Option (List Nat)} {d : Dev} {e : Entry} (h : EntryAt idx sub e)
    (ha : e.access = .const ∨ e.access = .ro) : entryWrite c idx sub conv img d = (d, 0xA003, idx * 256 + sub) := by
  obtain ⟨hi, hs, hg, he⟩ := h
  simp [entryWrite, hi, hs, hg, he, ha]

theorem entryWrite_unfit {c idx sub code : Nat} {conv : Conv} {img : Option (List Nat)} {d : Dev} {e : Entry} (h : EntryAt idx sub e)
    (hc : e.access ≠ .const) (hr : e.access ≠ .ro) (hv : conv e = .error code) :
    entryWrite c idx sub conv img d = (d, code, idx * 256 + sub) := by
  obtain ⟨hi, hs, hg, he⟩ := h
  simp [entryWrite, hi, hs, hg, he, hc, hr, hv]

/-- The checks that follow once the entry is found, may be written and has its value. -/
theorem entryWrite_entry {c idx sub w : Nat} {conv : Conv} {img : Option (List Nat)} {d : Dev} {e : Entry} (h : EntryAt idx sub e)
    (hc : e.access ≠ .const) (hr : e.access ≠ .ro) (hv : conv e = .ok w) (hm : mayWrite c (idx * 256 + sub) d = true) :
    entryWrite c idx sub conv img d =
      if e.hostOnly = true ∧ c ≠ 0 then (d, 0xA011, idx * 256 + sub)
      else if chkValue d e.chk w ≠ 0 then (d, chkValue d e.chk w, idx * 256 + sub)
      else if ghostLane (idx * 256 + sub) = true then (d, 0, idx * 256 + sub)
      else if ownerRuns d e.owner (idx * 256 + sub) = true then (d, 0xA007, idx * 256 + sub)
      else putEntry c (idx * 256 + sub) w e.access img d := by
  obtain ⟨hi, hs, hg, he⟩ := h
  simp [entryWrite, hi, hs, hg, he, hc, hr, hv, hm]

/-! ### Refusals -/

/-- An abort code of a check of the value has 16 bits. -/
theorem chkValue_lt (d : Dev) (k : Chk) (v : Nat) : chkValue d k v < 2 ^ 16 := by
  have h : ∀ b : Bool, (if b = true then 0 else 0xA005) < 2 ^ 16 := by decide
  cases k
  case any => exact Nat.two_pow_pos 16
  case align n => simp only [chkValue]; split <;> decide
  all_goals exact h _

theorem carried_error_ne_zero {c len v code : Nat} {e : Entry} (h : carried c len v e = .error code) : code ≠ 0 := by
  rintro rfl
  unfold carried barConv exact at h
  split at h <;> dsimp only at h <;> split_ifs at h <;> cases h

/-- The host's refusal: counted, with the code in its abort register. -/
theorem turnedAway_refuseHost {code key : Nat} (hlt : code < 2 ^ 16) (d : Dev) : TurnedAway 0 code d (refuseHost code key d) := by
  refine ⟨seb_dict rfl, only_modCtl _ _, fun _ => ⟨rfl, ?_⟩, fun h => absurd rfl h⟩
  show (key / 256 % 65536 * 2 ^ 48 + key % 256 * 2 ^ 40 + code) % 2 ^ 16 = code
  omega

/-- Another client's refusal: its last code is kept for it. -/
theorem turnedAway_answered {c code key : Nat} {a d : Dev} (hc : c ≠ 0) (h0 : code ≠ 0) (hs : SameEntriesBut [] a d)
    (ho : ChangesOnly [.ctl] a d) : TurnedAway c code a (answered c (d, code, key)) := by
  have h : answered c (d, code, key) = modCtl (fun x => { x with aborts := tset 0 x.aborts c code }) d := by simp [answered, h0]
  rw [h]
  exact ⟨hs.trans (seb_dict rfl), ho.trans (only_modCtl _ _), fun hz => absurd hz hc, fun _ => tget_tset_same _ _ _ _⟩

/-- A client that may ask, and whose request its checks refuse, is turned away. -/
theorem request_refused {c code key : Nat} {d : Dev} {f : Dev → Answer} (h : Asks c d) (h0 : code ≠ 0) (hlt : code < 2 ^ 16)
    (hf : f (asked c d) = (asked c d, code, key)) : TurnedAway c code d (request c f d) := by
  obtain ⟨-, hb, ⟨rfl, hl, hp⟩ | ⟨rfl, hj⟩ | ⟨h2, hp, ho, hw⟩⟩ := h
  · simp only [asked_zero] at hf
    have hr : request 0 f d = refuseHost code key d := by simp [request, barAccess, hl, hp, hf, h0]
    rw [hr]; exact turnedAway_refuseHost hlt d
  · have hr : request 1 f d = answered 1 (d, code, key) := by
      have h1 : asked 1 d = d := rfl
      rw [h1] at hf
      simp [request, hj, hf]
    rw [hr]; exact turnedAway_answered (by decide) h0 (seb_refl _ _) (ChangesOnly.refl _ _)
  · have hc : ¬ c = 0 := by omega
    have hc1 : ¬ c = 1 := by omega
    have hc2 : ¬ c < 2 := by omega
    have hr : request c f d = answered c (asked c d, code, key) := by
      rw [← hf]
      simp [request, hc, hc1, nppServes, hb, hp, ho, nppMayWrite, hw, asked, hc2]
    rw [hr]; exact turnedAway_answered hc h0 (fun r _ => dget_asked r c d) (only_asked c d)

/-- A write that its checks refuse with a code turns its client away. -/
theorem dictWrite_refused {c idx sub len v code : Nat} {s : State} (hw : WriteIn c idx sub len v) (ha : Asks c s.dev) (h0 : code ≠ 0)
    (hlt : code < 2 ^ 16)
    (hf : entryWrite c idx sub (carried c len v) none (asked c s.dev) = (asked c s.dev, code, idx * 256 + sub)) :
    Completes (exec (.dictWrite c idx sub len v) s) s (TurnedAway c code s.dev) :=
  completes_dictWrite hw ha.1 (by rw [dictWrite_eq]; exact request_refused ha h0 hlt hf)

/-- A write that passes its checks has the effect of its entry. -/
theorem dictWrite_admitted {c idx sub len v : Nat} {d : Dev} {s : State} {P : Dev → Prop} (hw : WriteIn c idx sub len v)
    (ha : Asks c s.dev) (hf : entryWrite c idx sub (carried c len v) none (asked c s.dev) = (d, 0, idx * 256 + sub)) (hP : P d) :
    Completes (exec (.dictWrite c idx sub len v) s) s P :=
  completes_dictWrite hw ha.1 (by rw [dictWrite_eq, request_asks ha (by rw [hf]), hf]; exact hP)

end Sys2Proof.Machine
end

section
/-! SUPPORT. What an admitted dictionary write does: plain entries, RWL entries, RATE_SHARE. -/

namespace Sys2Proof.Machine

/-! ### What an admitted value does -/

/-- From a plain entry nothing else follows. -/
theorem setTo_plain {key : Nat} (h : plainKey key) (v : Nat) (d : Dev) : setTo key v d = dset (regOf key) v d := by
  obtain ⟨hlist, -, hlane, hport, hshare⟩ := h
  have hprbs : ¬ ((R.PRBS_MODE 0).key ≤ key ∧ key < (R.PRBS_MODE 64).key) := by
    rintro ⟨lo, hi⟩
    simp only [R.PRBS_MODE] at lo hi
    exact (hlane (key - 0x501001) (by omega)).1 (by simp only [R.PRBS_MODE]; omega)
  have hen : ¬ (key % 256 = 1 ∧ 0x2010 ≤ key / 256 ∧ key / 256 < 0x2020) := by
    rintro ⟨hm, lo, hi⟩
    exact hport (key / 256 - 0x2010) (by omega) (by omega)
  have hsh : ¬ (key % 256 = 0x0B ∧ 0x2C20 ≤ key / 256 ∧ key / 256 < 0x2C30) := by
    rintro ⟨hm, lo, hi⟩
    exact hshare (key / 256 - 0x2C20) (by omega) (by simp only [R.RATE_SHARE]; omega)
  simp only [List.mem_cons, List.not_mem_nil, or_false, not_or] at hlist
  simp only [setTo, hprbs, hen, hsh, hlist, or_self, if_false]

theorem putEntry_rw_plain {key : Nat} (h : plainKey key) (c v : Nat) (img : Option (List Nat)) (d : Dev) :
    putEntry c key v .rw img d = (dset (regOf key) v d, 0, key) := by
  obtain ⟨hlist, -, hlane, -⟩ := id h
  have hfall : key ≠ R.FALLBACK_ENABLE.key := by rintro rfl; exact hlist (by decide)
  have hhold : ¬ ((R.ADAPT_HOLD 0).key ≤ key ∧ key < (R.ADAPT_HOLD 64).key) := by
    rintro ⟨lo, hi⟩
    simp only [R.ADAPT_HOLD] at lo hi
    exact (hlane (key - 0x501301) (by omega)).2.1 (by simp only [R.ADAPT_HOLD]; omega)
  have hinj : ¬ ((R.INJECT_RATE 0).key ≤ key ∧ key < (R.INJECT_RATE 64).key) := by
    rintro ⟨lo, hi⟩
    simp only [R.INJECT_RATE] at lo hi
    exact (hlane (key - 0x501201) (by omega)).2.2 (by simp only [R.INJECT_RATE]; omega)
  simp only [putEntry, hhold, hinj, hfall, if_false, setTo_plain h]

theorem putEntry_rws_plain {c key v : Nat} {img : Option (List Nat)} {d : Dev} (h : plainKey key) (hb : breaksLoaded d key v = false)
    (hu : underSegment d key v = false) : putEntry c key v .rws img d = (dset (regOf key) v d, 0, key) := by
  simp [putEntry, hb, hu, setTo_plain h]

/-- The value v waits as the RWL value of an entry (R18, R371). -/
def rwlWaits (key v : Nat) (d : Dev) : Dev := modCtl (fun c => { c with rwlNew := tset none c.rwlNew key (some v) }) d

theorem only_rwlWaits (key v : Nat) (d : Dev) : ChangesOnly [.ctl] d (rwlWaits key v d) := only_modCtl _ _

/-- An RWL write of a device that forwards nothing: the value waits for its growth ring, and what a primary cannot send loses
the synchronisation. -/
theorem stageRwl_unforwarded {d : Dev} (h : forwards d = false) (key v : Nat) :
    stageRwl key v d =
      if unsent d && mirrors key then syncLost (rwlWaits key v d) else rwlWaits key v d := by
  have hu : unsent (rwlWaits key v d) = unsent d := rfl
  rw [← hu]
  simp [stageRwl, h, rwlWaits]

/-- No entry of access RWL lies among the lane tests. -/
theorem ghostLane_of_rwl {idx sub : Nat} {e : Entry} (hs : sub < 256) (he : findEntry idx sub = some e) (ha : e.access = .rwl) :
    ghostLane (idx * 256 + sub) = false := by
  have hrows : ∀ x ∈ entryTable, x.access = .rwl → x.idx + x.idxN ≤ 0x5010 ∨ 0x5014 ≤ x.idx := by decide +kernel
  have hin := List.find?_some he
  simp only [decide_eq_true_eq] at hin
  have := hrows e (List.mem_of_find?_eq_some he) ha
  simp only [ghostLane, decide_eq_false_iff_not]
  omega

theorem ghostLane_of_breaksLoaded {d : Dev} {key v : Nat} (h : breaksLoaded d key v = true) : ghostLane key = false := by
  simp only [breaksLoaded, Bool.or_eq_true, Bool.and_eq_true, decide_eq_true_eq] at h
  obtain ⟨rfl, -⟩ | ⟨rfl, -⟩ := h <;> decide

/-- The row of RATE_SHARE, and its default (Table 12.10). -/
theorem findEntry_rateShare : ∀ n < 16, findEntry (0x2C20 + n) 0x0B = some ⟨0x2C20, 16, 0x0B, 1, .u16, .rw, .range 1 256, .none, false⟩ := by
  decide

theorem regOf_rateShare : ∀ n < 16, regOf ((0x2C20 + n) * 256 + 0x0B) = R.RATE_SHARE n := by decide

end Sys2Proof.Machine
end
section
namespace Sys2Proof.Machine

/-! ### Engine credits -/

/-- An engine whose credit is counted up to now, at the share in force. -/
def settledEng (d : Dev) (n : Nat) : Eng := { engOf d n with credit := creditAt d n d.now, credAt := d.now, share := shareOf d n }

theorem engOf_settleCredit_same (n : Nat) (d : Dev) : engOf (settleCredit n d) n = settledEng d n := engOf_setEng_same _ _ _

theorem settledEng_settleCredit_ne {n k : Nat} (h : n ≠ k) (d : Dev) : settledEng (settleCredit n d) k = settledEng d k := by
  have he : engOf (settleCredit n d) k = engOf d k := engOf_setEng_ne _ _ h
  have hc : creditAt (settleCredit n d) k d.now = creditAt d k d.now := by unfold creditAt; rw [he]
  show ({ engOf (settleCredit n d) k with credit := creditAt (settleCredit n d) k d.now, credAt := d.now, share := shareOf d k } : Eng) = _
  rw [he, hc]; rfl

theorem only_settleCredit (n : Nat) (d : Dev) : ChangesOnly [.engs] d (settleCredit n d) :=
  fun p hp => by cases p <;> first | exact absurd (by decide) hp | rfl

theorem only_settleCredits (d : Dev) : ChangesOnly [.engs] d (settleCredits d) :=
  ChangesOnly.foldl (fun d n => only_settleCredit n d) _ _

@[simp] theorem dget_settleCredits (r : Reg) (d : Dev) : dget r (settleCredits d) = dget r d := by
  have h : (settleCredits d).dict = d.dict := only_settleCredits d .dict (by decide)
  simp [dget, h]

/-- What the settling of a list of channels, none twice, leaves of channel k. -/
theorem engOf_settled (k : Nat) (l : List Nat) (hl : l.Nodup) (d : Dev) :
    engOf (l.foldl (fun d n => settleCredit n d) d) k = if k ∈ l then settledEng d k else engOf d k := by
  induction l generalizing d with
  | nil => rfl
  | cons n l ih =>
    obtain ⟨hn, hl⟩ := List.nodup_cons.1 hl
    rw [List.foldl_cons, ih hl]
    by_cases h : n = k
    · subst h
      rw [if_neg hn, if_pos List.mem_cons_self, engOf_settleCredit_same]
    · have he : engOf (settleCredit n d) k = engOf d k := engOf_setEng_ne _ _ h
      simp only [settledEng_settleCredit_ne h, he, List.mem_cons, Ne.symm h, false_or]

theorem engOf_settleCredits {n : Nat} (hn : n < 16) (d : Dev) : engOf (settleCredits d) n = settledEng d n := by
  unfold settleCredits
  rw [engOf_settled n _ List.nodup_range, if_pos (by simpa using hn)]

theorem shareOf_settleCredits (n : Nat) (d : Dev) : shareOf (settleCredits d) n = shareOf d n := by
  unfold shareOf shedsStreams; simp only [dget_settleCredits]

/-- A RATE_SHARE counts from now on (R319). -/
theorem putEntry_rateShare {n : Nat} (hn : n < 16) (c v : Nat) (img : Option (List Nat)) (d : Dev) :
    putEntry c ((0x2C20 + n) * 256 + 0x0B) v .rw img d =
      (settleCredits (dset (R.RATE_SHARE n) v d), 0, (0x2C20 + n) * 256 + 0x0B) := by
  interval_cases n <;> rfl

end Sys2Proof.Machine
end

section
/-! SUPPORT. DICT_WRITE by the access code of its entry, and what settles O31. -/

namespace Sys2Proof.Machine

/-! ### The loss of a pair's synchronisation (R425) -/

@[simp] theorem syncLost_ctl (d : Dev) : (syncLost d).ctl = d.ctl := by simp [syncLost]

theorem dget_syncLost_state (d : Dev) : dget R.MIRROR_SYNC_STATE (syncLost d) = 3 := by
  unfold syncLost
  rw [dget_report (by decide) _ _ _ _ (by decide), dget_dset_same]

theorem lastFault_syncLost (d : Dev) : LastFault 0x0445 (syncLost d) := by
  intro hu
  unfold syncLost at hu ⊢
  exact lastCode_report (by decide) _ _ _ (by simpa using hu)

theorem seb_syncLost (d : Dev) : SameEntriesBut (R.MIRROR_SYNC_STATE.key :: reportKeys) d (syncLost d) :=
  (seb_dset List.mem_cons_self _ _).trans ((seb_report (by decide) _ _ _).mono (List.subset_cons_self _ _))

/-! ### DICT_WRITE (R366 to R373, R380, R425) -/

section Write

variable {c idx sub len v w : Nat} {e : Entry} {s : State}

/-- The checks of a client's write, as the block stands before it. -/
theorem entryWrite_asked (ha : Asks c s.dev) (he : EntryAt idx sub e) (hc : e.access ≠ .const) (hr : e.access ≠ .ro)
    (hv : carried c len v e = .ok w) :
    entryWrite c idx sub (carried c len v) none (asked c s.dev) =
      if e.hostOnly = true ∧ c ≠ 0 then (asked c s.dev, 0xA011, idx * 256 + sub)
      else if chkValue s.dev e.chk w ≠ 0 then (asked c s.dev, chkValue s.dev e.chk w, idx * 256 + sub)
      else if ghostLane (idx * 256 + sub) = true then (asked c s.dev, 0, idx * 256 + sub)
      else if ownerRuns s.dev e.owner (idx * 256 + sub) = true then (asked c s.dev, 0xA007, idx * 256 + sub)
      else putEntry c (idx * 256 + sub) w e.access none (asked c s.dev) := by
  rw [entryWrite_entry he hc hr hv (mayWrite_asks ha _), chkValue_asked, ownerRuns_asked]

/-- A write whose checks pass comes to its entry's access code. -/
theorem entryWrite_put (ha : Asks c s.dev) (he : EntryAt idx sub e) (hc : e.access ≠ .const) (hr : e.access ≠ .ro)
    (hv : carried c len v e = .ok w) (hh : e.hostOnly = true → c = 0) (hk : chkValue s.dev e.chk w = 0)
    (hl : ghostLane (idx * 256 + sub) = false) (ho : ownerRuns s.dev e.owner (idx * 256 + sub) = false) :
    entryWrite c idx sub (carried c len v) none (asked c s.dev) = putEntry c (idx * 256 + sub) w e.access none (asked c s.dev) := by
  have hn : ¬ (e.hostOnly = true ∧ c ≠ 0) := fun h => h.2 (hh h.1)
  rw [entryWrite_asked ha he hc hr hv]
  simp [hn, hk, hl, ho]

theorem dictWrite_plain (hw : WriteIn c idx sub len v) (ha : Asks c s.dev) (he : EntryAt idx sub e) (hv : carried c len v e = .ok w)
    (hh : e.hostOnly = true → c = 0) (hk : chkValue s.dev e.chk w = 0) (ho : ownerRuns s.dev e.owner (idx * 256 + sub) = false)
    (hacc : e.access = .rw ∨ (e.access = .rws ∧ breaksLoaded s.dev (idx * 256 + sub) w = false ∧
      underSegment s.dev (idx * 256 + sub) w = false)) (hp : plainKey (idx * 256 + sub)) :
    Completes (exec (.dictWrite c idx sub len v) s) s fun d =>
      dget (regOf (idx * 256 + sub)) d = w ∧ SameEntriesBut [idx * 256 + sub] s.dev d ∧ ChangesOnly [.dict] (asked c s.dev) d := by
  have hput : putEntry c (idx * 256 + sub) w e.access none (asked c s.dev) =
      (dset (regOf (idx * 256 + sub)) w (asked c s.dev), 0, idx * 256 + sub) := by
    rcases hacc with h | ⟨h, hb, hu⟩ <;> rw [h]
    · exact putEntry_rw_plain hp _ _ _ _
    · exact putEntry_rws_plain hp ((breaksLoaded_asked _ _ _ _).trans hb) ((underSegment_asked _ _ _ _).trans hu)
  have hac : e.access ≠ .const ∧ e.access ≠ .ro := by rcases hacc with h | ⟨h, -⟩ <;> simp [h]
  have hf := (entryWrite_put ha he hac.1 hac.2 hv hh hk hp.2.1 ho).trans hput
  refine dictWrite_admitted hw ha hf ⟨dget_dset_same _ _ _, fun r hr => ?_, only_dset _ _ _⟩
  rw [seb_dset (ks := [idx * 256 + sub]) (r := regOf (idx * 256 + sub)) List.mem_cons_self _ _ r hr, dget_asked]

/-- A write of an RWL entry comes to its staging, unless it is the primary's or changes a rate in use. -/
theorem entryWrite_rwl (hw : WriteIn c idx sub len v) (ha : Asks c s.dev) (he : EntryAt idx sub e) (hv : carried c len v e = .ok w)
    (hh : e.hostOnly = true → c = 0) (hk : chkValue s.dev e.chk w = 0) (ho : ownerRuns s.dev e.owner (idx * 256 + sub) = false)
    (hacc : e.access = .rwl) :
    entryWrite c idx sub (carried c len v) none (asked c s.dev) =
      if follows s.dev = true ∧ mirrors (idx * 256 + sub) = true then (asked c s.dev, 0xA011, idx * 256 + sub)
      else if breaksRate s.dev (idx * 256 + sub) w = true then (asked c s.dev, 0xA00E, idx * 256 + sub)
      else (stageRwl (idx * 256 + sub) w (asked c s.dev), 0, idx * 256 + sub) := by
  have hl := ghostLane_of_rwl hw.2.1 he.2.2.2 hacc
  rw [entryWrite_put ha he (by simp [hacc]) (by simp [hacc]) hv hh hk hl ho, hacc]
  simp only [putEntry, follows_asked, breaksRate_asked]

/-- Where nothing is forwarded, the value waits for its growth ring; what a primary cannot send loses the synchronisation (R425). -/
theorem dictWrite_rwl (hw : WriteIn c idx sub len v) (ha : Asks c s.dev) (he : EntryAt idx sub e) (hv : carried c len v e = .ok w)
    (hh : e.hostOnly = true → c = 0) (hk : chkValue s.dev e.chk w = 0) (ho : ownerRuns s.dev e.owner (idx * 256 + sub) = false)
    (hacc : e.access = .rwl) (hb : breaksRate s.dev (idx * 256 + sub) w = false) (hf : forwards s.dev = false)
    (hn : follows s.dev = false) {P : Dev → Prop}
    (hP : P (if unsent s.dev && mirrors (idx * 256 + sub) then syncLost (rwlWaits (idx * 256 + sub) w (asked c s.dev))
      else rwlWaits (idx * 256 + sub) w (asked c s.dev))) :
    Completes (exec (.dictWrite c idx sub len v) s) s P := by
  rw [← unsent_asked c s.dev, ← stageRwl_unforwarded ((forwards_asked c s.dev).trans hf)] at hP
  exact dictWrite_admitted hw ha ((entryWrite_rwl hw ha he hv hh hk ho hacc).trans (by simp [hn, hb])) hP

theorem dictWrite_rateShare {n : Nat} (hw : WriteIn c (0x2C20 + n) 0x0B len v) (ha : Asks c s.dev) (hn : n < 16)
    (he : EntryAt (0x2C20 + n) 0x0B e) (hv : carried c len v e = .ok w) (h1 : 1 ≤ w) (h2 : w ≤ 256) :
    Completes (exec (.dictWrite c (0x2C20 + n) 0x0B len v) s) s fun d =>
      dget (R.RATE_SHARE n) d = w ∧ engOf d n = { engOf s.dev n with
        credit := creditAt s.dev n s.dev.now, credAt := s.dev.now, share := shareOf d n } ∧
      SameEntriesBut [(R.RATE_SHARE n).key] s.dev d ∧ ChangesOnly [.dict, .engs] (asked c s.dev) d := by
  obtain rfl : e = ⟨0x2C20, 16, 0x0B, 1, .u16, .rw, .range 1 256, .none, false⟩ :=
    Option.some.inj (he.2.2.2.symm.trans (findEntry_rateShare n hn))
  have hl : ghostLane ((0x2C20 + n) * 256 + 0x0B) = false := by simp only [ghostLane, decide_eq_false_iff_not]; omega
  have hf := (entryWrite_put ha he (by decide) (by decide) hv (by simp) (by simp [chkValue, h1, h2]) hl rfl).trans
    (putEntry_rateShare hn _ _ _ _)
  have heng : ∀ k v, settledEng (dset (R.RATE_SHARE k) v (asked c s.dev)) n =
      { engOf s.dev n with
        credit := creditAt s.dev n s.dev.now, credAt := s.dev.now
        share := shareOf (dset (R.RATE_SHARE k) v (asked c s.dev)) n } := by
    obtain ⟨x, hx⟩ := asked_sess c s.dev
    intro k v; rw [hx]; rfl
  refine dictWrite_admitted hw ha hf ⟨?_, ?_, fun r hr => ?_, ?_⟩
  · rw [dget_settleCredits, dget_dset_same]
  · rw [engOf_settleCredits hn, heng, shareOf_settleCredits]
  · rw [dget_settleCredits, seb_dset (ks := [(R.RATE_SHARE n).key]) (r := R.RATE_SHARE n) List.mem_cons_self _ _ r hr, dget_asked]
  · exact (only_dset _ _ _).then (only_settleCredits _) (by simp) (by simp)

end Write

/-- Settles O31: each refusal is the first check that fails (`entryWrite_asked`), each effect that of the entry's access code. -/
theorem dictionaryWrites : Obligations.DictionaryWrites := by
  refine ⟨?plain, ?rwl, ?absent, ?readOnly, ?checks, ?rateShare, ?noPath, ?session⟩
  case plain =>
    intro c idx sub len v w e s hw ha he hv hh hk ho hacc hp
    exact dictWrite_plain hw ha he hv hh hk ho hacc hp
  case rwl =>
    intro c idx sub len v w e s hw ha he hv hh hk ho hacc hb hf
    have hnew : (asked c s.dev).ctl.rwlNew = s.dev.ctl.rwlNew ∧ (asked c s.dev).ctl.rwlLatched = s.dev.ctl.rwlLatched ∧
        (asked c s.dev).ctl.groups = s.dev.ctl.groups := by
      obtain ⟨x, hx⟩ := asked_sess c s.dev; rw [hx]; exact ⟨rfl, rfl, rfl⟩
    obtain ⟨hrn, hrl, hg⟩ := hnew
    have hseb : ∀ ks, SameEntriesBut ks s.dev (rwlWaits (idx * 256 + sub) w (asked c s.dev)) := fun ks r _ => dget_asked r c s.dev
    refine ⟨fun hn hu hm => ?_, fun hn hu => ?_, fun hn hm => ?_⟩
    · refine dictWrite_rwl hw ha he hv hh hk ho hacc hb hf hn ?_
      rw [hu, hm]
      exact ⟨by rw [← hrn]; exact congrArg Ctl.rwlNew (syncLost_ctl _), dget_syncLost_state _, lastFault_syncLost _,
        (hseb _).trans (seb_syncLost _)⟩
    · refine dictWrite_rwl hw ha he hv hh hk ho hacc hb hf hn ?_
      have hum : (unsent s.dev && mirrors (idx * 256 + sub)) = false := by rcases hu with h | h <;> simp [h]
      rw [hum, if_neg Bool.false_ne_true]
      exact ⟨by rw [← hrn]; rfl, hrl, hg, hseb _, (only_asked _ _).trans (only_rwlWaits _ _ _)⟩
    · exact dictWrite_refused hw ha (by decide) (by decide) ((entryWrite_rwl hw ha he hv hh hk ho hacc).trans (if_pos ⟨hn, hm⟩))
  case absent =>
    intro c idx sub len v s hw ha
    exact ⟨fun hi => dictWrite_refused hw ha (by decide) (by decide) (entryWrite_noIndex hi),
      fun hi hs => dictWrite_refused hw ha (by decide) (by decide) (entryWrite_fixed hi hs),
      fun hi hs hg he => dictWrite_refused hw ha (by decide) (by decide) (entryWrite_noEntry hi hs hg he)⟩
  case readOnly =>
    intro c idx sub len v e s hw ha he
    exact ⟨fun hacc => dictWrite_refused hw ha (by decide) (by decide) (entryWrite_readOnly he hacc),
      fun code hc hr hlt hv => dictWrite_refused hw ha (carried_error_ne_zero hv) hlt (entryWrite_unfit he hc hr hv)⟩
  case checks =>
    intro c idx sub len v w e s hw ha he hv hc hr
    have hchk := entryWrite_asked ha he hc hr hv
    have hput := entryWrite_put ha he hc hr hv
    have hhost : (e.hostOnly = true → c = 0) → ¬ (e.hostOnly = true ∧ c ≠ 0) := fun hh h => h.2 (hh h.1)
    refine ⟨fun hh hc0 => ?_, fun hh hk => ?_, fun hh hk hl ho => ?_, fun hh hk ho hacc hb => ?_, fun hh hk ho hacc hl hb hu => ?_,
      fun hh hk ho hacc hn hb => ?_, fun hh hk hl => ?_⟩
    · exact dictWrite_refused hw ha (by decide) (by decide) (hchk.trans (if_pos ⟨hh, hc0⟩))
    · exact dictWrite_refused hw ha hk (chkValue_lt _ _ _) (hchk.trans (by simp [hhost hh, hk]))
    · exact dictWrite_refused hw ha (by decide) (by decide) (hchk.trans (by simp [hhost hh, hk, hl, ho]))
    · refine dictWrite_refused hw ha (by decide) (by decide) ((hput hh hk (ghostLane_of_breaksLoaded hb) ho).trans ?_)
      simp [hacc, putEntry, breaksLoaded_asked, hb]
    · refine dictWrite_refused hw ha (by decide) (by decide) ((hput hh hk hl ho).trans ?_)
      simp [hacc, putEntry, breaksLoaded_asked, underSegment_asked, hb, hu]
    · exact dictWrite_refused hw ha (by decide) (by decide)
        ((entryWrite_rwl hw ha he hv hh hk ho hacc).trans (by simp [hn, hb]))
    · exact dictWrite_admitted hw ha (hchk.trans (by simp [hhost hh, hk, hl])) rfl
  case rateShare =>
    intro c n len v w e s hw ha hn he hv h1 h2
    obtain ⟨d, hd, hval, heng, hseb, hco⟩ := dictWrite_rateShare hw ha hn he hv h1 h2
    exact ⟨d, hd, hval, by rw [heng], by rw [heng], by rw [heng], hseb, hco⟩
  case noPath =>
    intro c idx sub len v s hw hc hno
    have hid : dictWrite c idx sub len v s.dev = s.dev := by
      rcases hno with ⟨rfl, hl⟩ | ⟨rfl, hj⟩
      · simp [dictWrite, request, barAccess, hl]
      · simp [dictWrite, request, hj]
    obtain ⟨d, hd, rfl⟩ := completes_dictWrite (P := fun d => d = s.dev) hw hc hid
    exact hd
  case session =>
    intro c idx sub len v s hw h2 hc hserve
    have hc0 : c ≠ 0 := by omega
    have hc1 : c ≠ 1 := by omega
    refine ⟨fun ho => completes_dictWrite hw hc ?_, fun ho hwe => completes_dictWrite hw hc ?_⟩
    · have hr : dictWrite c idx sub len v s.dev = answered c (s.dev, 0xA012, 0) := by
        simp [dictWrite, request, hc0, hc1, hserve, ho]
      rw [hr]; exact turnedAway_answered hc0 (by decide) (seb_refl _ _) (ChangesOnly.refl _ _)
    · have hr : dictWrite c idx sub len v s.dev = answered c (s.dev, 0xA011, 0) := by
        simp [dictWrite, request, hc0, hc1, hserve, ho, nppMayWrite, hwe]
      rw [hr]; exact turnedAway_answered hc0 (by decide) (seb_refl _ _) (ChangesOnly.refl _ _)

end Sys2Proof.Machine
end

section
/-! SUPPORT. Bits of a word, masks and tables that a loop over the lines builds, and what the end of a stop leaves alone. -/

namespace Sys2Proof.Machine

/-! ### Bits -/

theorem bit_eq_testBit (w i : Nat) : bit w i = w.testBit i := Nat.testBit_eq_decide_div_mod_eq.symm

/-- Adding a clear bit sets that bit alone. -/
theorem bit_add_two_pow {w i : Nat} (h : bit w i = false) (j : Nat) : bit (w + 2 ^ i) j = if j = i then true else bit w j := by
  simp only [bit_eq_testBit] at h ⊢
  obtain hj | rfl | hj := Nat.lt_trichotomy j i
  · rw [if_neg (by omega), Nat.add_comm, Nat.testBit_two_pow_add_gt hj]
  · rw [if_pos rfl, Nat.add_comm, Nat.testBit_two_pow_add_eq, h]; rfl
  · obtain ⟨t, rfl⟩ : ∃ t, j = t + (i + 1) := ⟨j - (i + 1), by omega⟩
    have heven : w / 2 ^ i % 2 = 0 := by
      rw [Nat.testBit_eq_decide_div_mod_eq, decide_eq_false_iff_not] at h; omega
    have hdiv : (w + 2 ^ i) / 2 ^ (i + 1) = w / 2 ^ (i + 1) := by
      have h1 : (w + 2 ^ i) / 2 ^ i = w / 2 ^ i + 1 := Nat.add_div_right _ (Nat.two_pow_pos i)
      rw [Nat.pow_succ, ← Nat.div_div_eq_div_mul, ← Nat.div_div_eq_div_mul, h1]; omega
    rw [if_neg (by omega), Nat.testBit_add, Nat.testBit_add, hdiv]

/-- Taking away a set bit clears that bit alone. -/
theorem bit_sub_two_pow {w i : Nat} (h : bit w i = true) (j : Nat) : bit (w - 2 ^ i) j = if j = i then false else bit w j := by
  have hdiv : (w - 2 ^ i) / 2 ^ i = w / 2 ^ i - 1 := by simpa using Nat.sub_mul_div w (2 ^ i) 1
  simp only [bit, decide_eq_true_eq] at h
  have hle : 2 ^ i ≤ w := by
    by_contra hlt
    rw [Nat.div_eq_of_lt (by omega)] at h; omega
  have hclear : bit (w - 2 ^ i) i = false := by
    simp only [bit, hdiv, decide_eq_false_iff_not]; omega
  have hadd := bit_add_two_pow hclear j
  rw [Nat.sub_add_cancel hle] at hadd
  by_cases hj : j = i
  · rw [if_pos hj, hj, hclear]
  · rw [if_neg hj, hadd, if_neg hj]

theorem bit_setBit (w i j : Nat) (b : Bool) : bit (setBit w i b) j = if j = i then b else bit w j := by
  unfold setBit
  by_cases hb : b = bit w i
  · rw [if_pos hb]; split_ifs with hj
    · rw [hj, hb]
    · rfl
  · rw [if_neg hb]
    cases b with
    | true => exact bit_add_two_pow (by simpa using hb) j
    | false => exact bit_sub_two_pow (by simpa using hb) j

/-- A loop over the numbers below n that adds 2^k where g holds builds the word of those bits. -/
theorem mask_lt_and_bit (g : Nat → Bool) (n : Nat) :
    (List.range n).foldl (fun w k => if g k = true then w + 2 ^ k else w) 0 < 2 ^ n ∧
    ∀ j, bit ((List.range n).foldl (fun w k => if g k = true then w + 2 ^ k else w) 0) j = (decide (j < n) && g j) := by
  induction n with
  | zero => simp [bit]
  | succ n ih =>
    obtain ⟨hlt, hbit⟩ := ih
    simp only [List.range_succ, List.foldl_append, List.foldl_cons, List.foldl_nil]
    have hn : bit ((List.range n).foldl (fun w k => if g k = true then w + 2 ^ k else w) 0) n = false := by simp [hbit]
    refine ⟨by split_ifs <;> omega, fun j => ?_⟩
    by_cases hg : g n = true
    · rw [if_pos hg, bit_add_two_pow hn, hbit]
      by_cases hj : j = n
      · subst hj; simp [hg]
      · have : (j < n + 1) = (j < n) := propext ⟨fun _ => by omega, fun _ => by omega⟩
        simp [hj, this]
    · rw [if_neg hg, hbit]
      by_cases hj : j = n
      · subst hj; simp [hg]
      · have : (j < n + 1) = (j < n) := propext ⟨fun _ => by omega, fun _ => by omega⟩
        simp [this]

theorem tget_foldl_tset (g : Nat → Option Nat) (n k : Nat) :
    tget none ((List.range n).foldl (fun t j => tset none t j (g j)) []) k = if k < n then g k else none := by
  induction n with
  | zero => rfl
  | succ n ih =>
    simp only [List.range_succ, List.foldl_append, List.foldl_cons, List.foldl_nil, tget_tset, ih]
    by_cases hk : n = k
    · subst hk; simp
    · have : (k < n + 1) = (k < n) := propext ⟨fun _ => by omega, fun _ => by omega⟩
      simp [hk, this]

theorem zipIdx_map_range {α : Type} (f : Nat → α) (n : Nat) : ((List.range n).map f).zipIdx = (List.range n).map (fun k => (f k, k)) := by
  apply List.ext_getElem <;> simp

/-! ### What the end of a stop leaves alone (R193, R497) -/

/-- The entries that the end of a stop may write: the summary entries of Table 1.4, and entries from ARRAY_STATE on in the tables. -/
def stopWrites (k : Nat) : Prop :=
  k ∈ [R.FE_PRESENT.key, R.CLOCK_REF_PORT.key, R.CLOCK_STATE.key, R.HOST_LINK.key, R.RING_SIZE.key, R.MIRROR_LINK.key, R.RING_LINKS.key,
    R.TIME_SOURCE.key] ∨ R.ARRAY_STATE.key ≤ k

/-- The parts that it may write. -/
def stopParts : List Part := [.dict, .enc, .sec, .cores, .host, .flt]

/-- Block b differs from a by nothing but what the end of a stop may write. -/
def StopKeeps (a b : Dev) : Prop := (∀ r : Reg, ¬ stopWrites r.key → dget r b = dget r a) ∧ ChangesOnly stopParts a b

theorem StopKeeps.refl (a : Dev) : StopKeeps a a := ⟨fun _ _ => rfl, ChangesOnly.refl _ _⟩

theorem StopKeeps.trans {a b c : Dev} (h : StopKeeps a b) (g : StopKeeps b c) : StopKeeps a c :=
  ⟨fun r hr => (g.1 r hr).trans (h.1 r hr), h.2.trans g.2⟩

theorem StopKeeps.ite {p : Prop} [Decidable p] {a b c : Dev} (h : StopKeeps a b) (g : StopKeeps a c) : StopKeeps a (if p then b else c) := by
  split <;> assumption

theorem StopKeeps.foldl {α : Type} {f : Dev → α → Dev} (h : ∀ d x, StopKeeps d (f d x)) (l : List α) (d : Dev) :
    StopKeeps d (l.foldl f d) := by
  induction l generalizing d with
  | nil => exact StopKeeps.refl _
  | cons x l ih => exact (h d x).trans (ih _)

/-- A step that leaves the dictionary alone. -/
theorem StopKeeps.of_only {ps : List Part} {a b : Dev} (h : ChangesOnly ps a b) (hd : Part.dict ∉ ps) (hs : ps ⊆ stopParts) : StopKeeps a b :=
  ⟨fun r _ => seb_dict (ks := []) (h .dict hd) r (by simp), h.mono hs⟩

theorem stopKeeps_dset {r : Reg} (h : stopWrites r.key) (v : Nat) (d : Dev) : StopKeeps d (dset r v d) :=
  ⟨fun _ hq => dget_dset_ne v d (fun e => hq (e ▸ h)), (only_dset r v d).mono (by simp [stopParts])⟩

theorem stopKeeps_bump {r : Reg} (h : stopWrites r.key) (d : Dev) : StopKeeps d (bump r d) :=
  ⟨fun _ hq => dget_bump_ne d (fun e => hq (e ▸ h)), (only_bump r d).mono (by simp [stopParts])⟩

/-! Steps that write one part of the block. -/

theorem only_host (x : HostPort) (d : Dev) : ChangesOnly [.host] d { d with host := x } :=
  fun p hp => by cases p <;> first | exact absurd (by decide) hp | rfl
theorem only_enc (x : Enc) (d : Dev) : ChangesOnly [.enc] d { d with enc := x } :=
  fun p hp => by cases p <;> first | exact absurd (by decide) hp | rfl
theorem only_sec (x : Sec) (d : Dev) : ChangesOnly [.sec] d { d with sec := x } :=
  fun p hp => by cases p <;> first | exact absurd (by decide) hp | rfl
theorem only_flt (x : Flt) (d : Dev) : ChangesOnly [.flt] d { d with flt := x } :=
  fun p hp => by cases p <;> first | exact absurd (by decide) hp | rfl
theorem only_trig (x : Trig) (d : Dev) : ChangesOnly [.trig] d { d with trig := x } :=
  fun p hp => by cases p <;> first | exact absurd (by decide) hp | rfl
theorem only_modCore (k : Nat) (g : Core → Core) (d : Dev) : ChangesOnly [.cores] d (modCore k g d) :=
  fun p hp => by cases p <;> first | exact absurd (by decide) hp | rfl
theorem only_setRing (r : Nat) (x : Ring) (d : Dev) : ChangesOnly [.host] d (setRing r x d) := only_host _ _

theorem stopKeeps_enc (x : Enc) (d : Dev) : StopKeeps d { d with enc := x } := StopKeeps.of_only (only_enc x d) (by decide) (by decide)

theorem stopKeeps_msi (v : Nat) (d : Dev) : StopKeeps d (msi v d) := StopKeeps.of_only (only_msi v d) (by decide) (by decide)

/-! The pending gap is written and closed (R360). -/

theorem only_flushGap (d : Dev) : ChangesOnly [.host] d (flushGap d) := by
  unfold flushGap; dsimp only
  exact ChangesOnly.ite (only_setRing _ _ _) (ChangesOnly.refl _ _)

theorem only_closeGap (n : Nat) (d : Dev) : ChangesOnly [.host] d (closeGap n d) := by
  unfold closeGap; dsimp only
  exact ChangesOnly.ite (ChangesOnly.refl _ _) (ChangesOnly.ite (only_setRing _ _ _) (only_setRing _ _ _))

theorem only_gapAtEnd (d : Dev) : ChangesOnly [.host] d (gapAtEnd d) := by
  unfold gapAtEnd; split
  · exact ChangesOnly.refl _ _
  · exact ChangesOnly.ite (ChangesOnly.ite ((only_closeGap _ _).trans (only_flushGap _)) (ChangesOnly.refl _ _))
      (ChangesOnly.ite (only_flushGap _) (ChangesOnly.refl _ _))

theorem gapAtEnd_of_none {d : Dev} (h : d.grid.endF = none) : gapAtEnd d = d := by simp [gapAtEnd, h]

theorem stopKeeps_gapAtEnd (d : Dev) : StopKeeps d (gapAtEnd d) := StopKeeps.of_only (only_gapAtEnd d) (by decide) (by decide)

/-! The summary entries follow their ranges again (R28). -/

theorem stopKeeps_showPresent (d : Dev) : StopKeeps d (showPresent d) :=
  ⟨fun r hr => seb_showPresent d r (fun h => hr (.inl (by simp only [presenceKeys, List.mem_cons, List.not_mem_nil] at h ⊢; tauto))),
    (only_showPresent d).mono (by simp [stopParts])⟩

theorem stopKeeps_showAll (d : Dev) : StopKeeps d (showAll d) := by
  unfold showAll showSource showLinks showHost
  refine (stopKeeps_showPresent d).trans ?_
  have hw : ∀ r ∈ [R.HOST_LINK, R.RING_SIZE, R.MIRROR_LINK, R.RING_LINKS, R.TIME_SOURCE], ∀ v e, StopKeeps e (dset r v e) := by
    intro r hr v e
    exact stopKeeps_dset (.inl (by
      simp only [List.mem_cons, List.not_mem_nil, or_false] at hr
      rcases hr with rfl | rfl | rfl | rfl | rfl <;> decide)) v e
  have hhost := hw R.HOST_LINK (by simp)
  have hsize := hw R.RING_SIZE (by simp)
  have hmirror := hw R.MIRROR_LINK (by simp)
  have hlinks := hw R.RING_LINKS (by simp)
  have hsource := hw R.TIME_SOURCE (by simp)
  have h1 : ∀ e, StopKeeps e (if armed e then e else dset R.HOST_LINK (hostLinkNow e) e) := fun e => (StopKeeps.refl _).ite (hhost _ _)
  have h2 : ∀ e, StopKeeps e (if armed e then e else
      dset R.RING_SIZE (ringSize e) (dset R.MIRROR_LINK (mirrorNow e) (dset R.RING_LINKS (linksNow e) e))) :=
    fun e => (StopKeeps.refl _).ite ((hlinks _ _).trans ((hmirror _ _).trans (hsize _ _)))
  have h3 : ∀ e, StopKeeps e (if armed e then e else dset R.TIME_SOURCE e.time.source e) := fun e => (StopKeeps.refl _).ite (hsource _ _)
  exact (h1 _).trans ((h2 _).trans (h3 _))

/-! A committed update takes effect with the end of the stop (R193). -/

theorem stopKeeps_extend (i ev : Nat) (dg : List Nat) (d : Dev) : StopKeeps d (extend i ev dg d) := by
  unfold extend; dsimp only
  have hmr : stopWrites (R.MR i).key := .inr (by simp only [R.ARRAY_STATE, R.MR]; omega)
  exact (stopKeeps_dset hmr _ _).trans (((StopKeeps.of_only (only_sec _ _) (by decide) (by decide)).ite (stopKeeps_bump (.inr (by decide)) _)).trans
    (stopKeeps_bump (.inr (by decide)) _))

theorem stopKeeps_clearMons (k : Nat) (d : Dev) : StopKeeps d (clearMons k d) := by
  unfold clearMons showMons; dsimp only
  have hshare : ∀ m, stopWrites (R.CLIP_SHARE m).key := fun m => .inr (by simp only [R.ARRAY_STATE, R.CLIP_SHARE]; omega)
  exact (StopKeeps.foldl (fun d m => stopKeeps_dset (hshare m) 0 d) _ _).trans ((stopKeeps_enc _ _).trans
    ((stopKeeps_dset (.inr (by decide)) _ _).trans (stopKeeps_dset (.inr (by decide)) _ _)))

theorem stopKeeps_encState (v : Nat) (d : Dev) : StopKeeps d (encState v d) :=
  (StopKeeps.refl _).ite ((stopKeeps_dset (.inr (by decide)) _ _).trans (stopKeeps_msi _ _))

theorem stopKeeps_encEffect (g : Nat) (d : Dev) : StopKeeps d (encEffect g d) := by
  unfold encEffect countsFrom' dropCounts; dsimp only
  have hlive : ∀ k, stopWrites (R.LIVE_WEIGHT_DIGEST k).key := fun k => .inr (by simp only [R.ARRAY_STATE, R.LIVE_WEIGHT_DIGEST]; omega)
  exact (stopKeeps_dset (.inr (by decide)) _ _).trans ((StopKeeps.foldl (fun d k => (stopKeeps_dset (hlive k) _ _).trans
    ((stopKeeps_extend _ _ _ _).trans ((stopKeeps_enc _ _).trans (stopKeeps_clearMons _ _)))) _ _).trans (stopKeeps_encState _ _))

theorem stopKeeps_encApply (g : Nat) (d : Dev) : StopKeeps d (encApply g d) := by
  unfold encApply; dsimp only
  exact (stopKeeps_encEffect _ _).trans ((StopKeeps.foldl (fun d k =>
    StopKeeps.of_only (only_modCore k _ d) (by decide) (by decide)) _ _).trans (stopKeeps_enc _ _))

theorem stopKeeps_endStop (d : Dev) : StopKeeps d (endStop d) := by
  unfold endStop; split
  · exact StopKeeps.refl _
  · exact (StopKeeps.refl _).ite ((stopKeeps_gapAtEnd _).trans ((StopKeeps.refl _).ite
      ((stopKeeps_dset (.inr (by decide)) _ _).trans ((stopKeeps_showAll _).trans (StopKeeps.of_only (only_flt _ _) (by decide) (by decide))))))

theorem stopKeeps_stopEnds (d : Dev) : StopKeeps d (stopEnds d) := by
  unfold stopEnds encAtStop; dsimp only
  exact (StopKeeps.refl _).ite ((stopKeeps_endStop _).trans ((StopKeeps.refl _).ite ((stopKeeps_encApply _ _).ite (StopKeeps.refl _))))

theorem stopEnds_of_none {d : Dev} (h : d.grid.endF = none) : stopEnds d = d := by simp [stopEnds, ending, h]

end Sys2Proof.Machine
end

section
/-! SUPPORT. The issue of a frame's verdict word and the lines' edges (R276 to R281, R358, R497), and what settles O15. -/

namespace Sys2Proof.Machine

/-! ### The verdict word -/

theorem classOf_lt (f : Frame) : classOf f < 2 ^ 32 := (mask_lt_and_bit (fun k => bit f.cls (lineOf f k).2.1) 32).1

/-- FRAME of the verdict word (Table 11.2). -/
theorem bits_verdictWord (d : Dev) (n : Nat) : bits (verdictWord d n) 55 32 = n % 2 ^ 24 := by
  have hc := classOf_lt (frameOf d n)
  have hf : ∀ (x : Bool) (k : Nat), ∃ y, (if x = true then 2 ^ (56 + k) else 0) = 2 ^ 56 * y := by
    intro x k; cases x
    · exact ⟨0, rfl⟩
    · exact ⟨2 ^ k, by rw [if_pos rfl, pow_add]⟩
  obtain ⟨y4, h4⟩ := hf (frameOf d n).calStale 4
  obtain ⟨y3, h3⟩ := hf (frameOf d n).alone 3
  obtain ⟨y2, h2⟩ := hf (frameOf d n).late 2
  obtain ⟨y1, h1⟩ := hf (frameOf d n).resumed 1
  obtain ⟨y0, h0⟩ := hf (frameOf d n).invalid 0
  have hw : verdictWord d n = 2 ^ 56 * (y4 + y3 + y2 + y1 + y0) + n % 2 ^ 24 * 2 ^ 32 + classOf (frameOf d n) := by
    show (if (frameOf d n).calStale = true then 2 ^ (56 + 4) else 0) + (if (frameOf d n).alone = true then 2 ^ (56 + 3) else 0) +
      (if (frameOf d n).late = true then 2 ^ (56 + 2) else 0) + (if (frameOf d n).resumed = true then 2 ^ (56 + 1) else 0) +
      (if (frameOf d n).invalid = true then 2 ^ (56 + 0) else 0) + n % 2 ^ 24 * 2 ^ 32 + classOf (frameOf d n) = _
    rw [h4, h3, h2, h1, h0]; ring
  rw [hw, bits]
  have hn : n % 2 ^ 24 < 2 ^ 24 := Nat.mod_lt _ (by decide)
  generalize n % 2 ^ 24 = m at *
  generalize classOf (frameOf d n) = c at *
  omega

theorem freeClass_dev (w : Nat) (d : Dev) : (freeClass w d).2 = { d with freeCtr := d.freeCtr + (if d.undef then 1 else 0) } := by
  by_cases h : d.undef = true
  · simp only [freeClass, if_pos h]; rfl
  · simp only [freeClass, if_neg h]; rfl

theorem freeClass_defined {d : Dev} (h : d.undef = false) (w : Nat) : (freeClass w d).1 = w := by simp [freeClass, h]

/-- An undefined use leaves FRAME of the word as it is (R15). -/
theorem bits_freeClass (w : Nat) (d : Dev) : bits (freeClass w d).1 55 32 = bits w 55 32 := by
  unfold freeClass
  split
  · have hb : bits w 55 32 < 2 ^ 24 := Nat.mod_lt _ (by decide)
    generalize bits w 55 32 = b at *
    dsimp only
    generalize (draw d).1 = v
    simp only [bits]
    omega
  · rfl

/-! ### The lines at an edge -/

theorem lineEdges_eq (n word : Nat) (safe : Bool) (d : Dev) :
    lineEdges n word safe d = dset R.VLINE_STATE
      ((List.range 32).foldl (fun w k => if (lineEdge d n k word safe).1 = true then w + 2 ^ k else w) 0)
      { d with trig := { d.trig with
        latched := (List.range 32).foldl (fun w k => if (lineEdge d n k word safe).2.1 = true then w + 2 ^ k else w) 0
        pulseEnd := (List.range 32).foldl (fun t k => tset none t k (lineEdge d n k word safe).2.2.1) []
        unlatch := (List.range 32).foldl (fun t k => tset none t k (lineEdge d n k word safe).2.2.2) [] } } := by
  simp only [lineEdges, zipIdx_map_range, List.foldl_map]

/-- Each line takes its level, its latch, the end of its pulse and its unlatch. -/
theorem lineEdges_line {k : Nat} (hk : k < 32) (n word : Nat) (safe : Bool) (d : Dev) :
    bit (dget R.VLINE_STATE (lineEdges n word safe d)) k = (lineEdge d n k word safe).1 ∧
    bit (lineEdges n word safe d).trig.latched k = (lineEdge d n k word safe).2.1 ∧
    tget none (lineEdges n word safe d).trig.pulseEnd k = (lineEdge d n k word safe).2.2.1 ∧
    tget none (lineEdges n word safe d).trig.unlatch k = (lineEdge d n k word safe).2.2.2 := by
  rw [lineEdges_eq, dget_dset_same]
  refine ⟨?_, ?_, ?_, ?_⟩
  · exact ((mask_lt_and_bit (fun k => (lineEdge d n k word safe).1) 32).2 k).trans (by simp [hk])
  · exact ((mask_lt_and_bit (fun k => (lineEdge d n k word safe).2.1) 32).2 k).trans (by simp [hk])
  · exact (tget_foldl_tset (fun k => (lineEdge d n k word safe).2.2.1) 32 k).trans (if_pos hk)
  · exact (tget_foldl_tset (fun k => (lineEdge d n k word safe).2.2.2) 32 k).trans (if_pos hk)

theorem only_lineEdges (n word : Nat) (safe : Bool) (d : Dev) : ChangesOnly [.dict, .trig] d (lineEdges n word safe d) :=
  fun p hp => by cases p <;> first | exact absurd (by decide) hp | rfl

theorem seb_lineEdges (n word : Nat) (safe : Bool) (d : Dev) : SameEntriesBut [R.VLINE_STATE.key] d (lineEdges n word safe d) := by
  rw [lineEdges_eq]
  exact (seb_dict rfl).trans (seb_dset List.mem_cons_self _ _)

/-- An edge rests on the frame's line settings, the lines as they were, the grid, and entries that the issue of a word leaves alone. -/
theorem lineEdge_congr {a b : Dev} {n : Nat} (hvl : (frameOf b n).vl = (frameOf a n).vl) (ht : b.trig = a.trig)
    (hg : b.grid.b0 = a.grid.b0) (hs : SameEntriesBut [R.FRAME_NUMBER.key, R.INVALID_FRAMES.key] a b) (k word : Nat) (safe : Bool) :
    lineEdge b n k word safe = lineEdge a n k word safe := by
  have hlev : ∀ j, safeLevel b j = safeLevel a j := fun j => by unfold safeLevel; rw [hs R.SAFE_LEVEL_STRAPS (by decide)]
  have he : eAt b n = eAt a n := by unfold eAt bAt fLen; rw [hg, hs R.FRAME_LENGTH (by decide)]
  have hl : lineOf (frameOf b n) k = lineOf (frameOf a n) k := by unfold lineOf; rw [hvl]
  simp only [lineEdge, hl, ht, he, hlev, hs R.VLINE_STATE (by decide), hs R.VERDICT_LATENCY (by decide)]

/-! ### The issue of frame n -/

/-- The block at the issue time of frame n, with FRAME_NUMBER at n (R358). -/
def atIssue (n : Nat) (d : Dev) : Dev :=
  let e := advTo (eAt d n + dget R.VERDICT_LATENCY d) d
  dset R.FRAME_NUMBER n { e with grid := { e.grid with nextIssue := n + 1 } }

/-- Frame n, which was f, has its word w, and is counted if it is INVALID. -/
def withWord (n w : Nat) (f : Frame) (d : Dev) : Dev :=
  setFrame n { f with word := w } (if f.invalid then bump R.INVALID_FRAMES d else d)

/-- The lines are held at their safe level in frame n: by a secondary that does not drive them, or after a device fault (R280, R422). -/
def linesHeld (n : Nat) (f : Frame) (d : Dev) : Bool :=
  (decide (dget R.MIRROR_ROLE d = 2 ∧ dget R.MIRROR_LINE_POLICY d = 1) &&
    !(if n < d.grid.nextAlone then f.active else decide (dget R.MIRROR_ACTIVE d = 1))) || decide (n < d.flt.safeBelow)

/-- Word, lines and record of frame n, which was f. -/
def issueWord (n w : Nat) (f : Frame) (d : Dev) : Dev :=
  stopEnds (gapAtEnd (pushRec 0 (verdictRec (withWord n w f d) n w)
    (lineEdges n w (linesHeld n f (withWord n w f d)) (withWord n w f d))))

/-- The frame of a pause as a gap of the verdict ring (R247). -/
def pausedRec (n : Nat) (d : Dev) : Rec :=
  { kind := 5, epoch := (ringOf d 0).epoch, frame := some n, link := none, audit := false, words := [n, n, 2] ++ bWords d n }

/-- VERDICT_ISSUE case by case: the frame of a stop, a frame whose time has not come, a lost one, a paused one, and one with a word. -/
theorem verdictIssue_eq {n : Nat} {d : Dev} (hn : n = d.grid.nextIssue) :
    verdictIssue d =
      if d.grid.endF = some n then issueEnd n d
      else if ringPassed d n = false ∨ d.grid.nextDead ≤ n ∨ (dget R.MIRROR_ROLE d ≠ 0 ∧ d.grid.nextAlone ≤ n) then d
      else if (frameOf (atIssue n d) n).lost then stopEnds (gapAtEnd (linesSafe (atIssue n d)))
      else if (frameOf (atIssue n d) n).paused && !armed (atIssue n d) then
        issueEnd ((atIssue n d).grid.endF.getD n) { atIssue n d with grid := { (atIssue n d).grid with nextIssue := n } }
      else if (frameOf (atIssue n d) n).paused then
        stopEnds (gapAtEnd (loseRec 0 2 (pausedRec n (atIssue n d)) (linesSafe (atIssue n d))))
      else
        issueWord n (freeClass (verdictWord (atIssue n d) n) (atIssue n d)).1 (frameOf (atIssue n d) n)
          (freeClass (verdictWord (atIssue n d) n) (atIssue n d)).2 := by
  subst hn; rfl

theorem freeClass_congr {a b : Dev} (hu : b.undef = a.undef) (hc : b.freeCtr = a.freeCtr) (w : Nat) :
    (freeClass w b).1 = (freeClass w a).1 := by
  unfold freeClass draw; rw [hu, hc]; split <;> rfl

theorem frameOf_atIssue (n m : Nat) (d : Dev) : frameOf (atIssue n d) m = frameOf d m := rfl

theorem only_atIssue (n : Nat) (d : Dev) : ChangesOnly [.now, .time, .grid, .dict] d (atIssue n d) :=
  fun p hp => by cases p <;> first | exact absurd (by decide) hp | rfl

theorem seb_atIssue (n : Nat) (d : Dev) : SameEntriesBut [R.FRAME_NUMBER.key] d (atIssue n d) :=
  fun _ hr => dget_dset_ne _ _ (fun e => hr (e ▸ List.mem_cons_self))

theorem dget_atIssue_number (n : Nat) (d : Dev) : dget R.FRAME_NUMBER (atIssue n d) = n := dget_dset_same _ _ _

/-- The draw of a word's free values moves the counter alone. -/
def drawn (d : Dev) : Dev := { d with freeCtr := d.freeCtr + (if d.undef then 1 else 0) }

/-- The block once frame n, on the grid, has its word w. -/
def issuedFrame (n w : Nat) (d : Dev) : Dev := withWord n w (frameOf d n) (drawn (atIssue n d))

theorem only_withWord (n w : Nat) (f : Frame) (d : Dev) : ChangesOnly [.dict, .frames] d (withWord n w f d) :=
  (ChangesOnly.ite ((only_bump _ _).mono (by simp)) (ChangesOnly.refl _ _)).trans
    (fun p hp => by cases p <;> first | exact absurd (by decide) hp | rfl)

theorem seb_withWord (n w : Nat) (f : Frame) (d : Dev) : SameEntriesBut [R.INVALID_FRAMES.key] d (withWord n w f d) :=
  (seb_ite (seb_bump List.mem_cons_self _) (seb_refl _ _)).trans (seb_dict rfl)

theorem rose_withWord (n w : Nat) (f : Frame) (d : Dev) : Rose R.INVALID_FRAMES (if f.invalid then 1 else 0) d (withWord n w f d) := by
  show dget R.INVALID_FRAMES (if f.invalid then bump R.INVALID_FRAMES d else d) = _
  cases f.invalid
  · rfl
  · exact dget_bump_same _ _

theorem frameOf_withWord_ne {n m : Nat} (h : n ≠ m) (w : Nat) (f : Frame) (d : Dev) : frameOf (withWord n w f d) m = frameOf d m := by
  unfold withWord
  rw [frameOf_setFrame_ne _ _ h]
  split
  · exact frameOf_bump _ _ _
  · rfl

theorem only_issuedFrame (n w : Nat) (d : Dev) :
    ChangesOnly [.now, .time, .grid, .dict, .frames, .freeCtr] d (issuedFrame n w d) := by
  have hdraw : ChangesOnly [.freeCtr] (atIssue n d) (drawn (atIssue n d)) :=
    fun p hp => by cases p <;> first | exact absurd (by decide) hp | rfl
  exact ((only_atIssue n d).then hdraw (rs := [.now, .time, .grid, .dict, .frames, .freeCtr]) (by decide) (by decide)).trans
    ((only_withWord _ _ _ _).mono (by decide))

theorem seb_issuedFrame (n w : Nat) (d : Dev) :
    SameEntriesBut [R.FRAME_NUMBER.key, R.INVALID_FRAMES.key] d (issuedFrame n w d) :=
  ((seb_atIssue n d).mono (by simp)).trans ((seb_withWord n w (frameOf d n) (drawn (atIssue n d))).mono (by simp))

theorem grid_issuedFrame (n w : Nat) (d : Dev) : (issuedFrame n w d).grid = { d.grid with nextIssue := n + 1 } :=
  only_withWord n w (frameOf d n) (drawn (atIssue n d)) .grid (by decide)

theorem frameOf_issuedFrame (n w : Nat) (d : Dev) : frameOf (issuedFrame n w d) n = { frameOf d n with word := w } :=
  frameOf_setFrame_same _ _ _

/-- The hold of the lines rests on entries and counts that the issue of a word leaves alone. -/
theorem linesHeld_congr {a b : Dev} (hs : SameEntriesBut [R.FRAME_NUMBER.key, R.INVALID_FRAMES.key] a b)
    (hg : b.grid.nextAlone = a.grid.nextAlone) (hf : b.flt = a.flt) (n : Nat) (f : Frame) : linesHeld n f b = linesHeld n f a := by
  simp only [linesHeld, hs R.MIRROR_ROLE (by decide), hs R.MIRROR_LINE_POLICY (by decide), hs R.MIRROR_ACTIVE (by decide), hg, hf]

theorem linesHeld_eq (n : Nat) (d : Dev) :
    linesHeld n (frameOf d n) d = (decide (dget R.MIRROR_ROLE d = 2 ∧ dget R.MIRROR_LINE_POLICY d = 1 ∧ drivesLines n d = false) ||
      decide (n < d.flt.safeBelow)) := by
  unfold linesHeld
  rw [show (if n < d.grid.nextAlone then (frameOf d n).active else decide (dget R.MIRROR_ACTIVE d = 1)) = drivesLines n d from rfl]
  cases drivesLines n d <;> simp

/-- Frame n has been issued with word w: the time and the grid move on, FRAME_NUMBER names the frame, the lines take their levels, an
INVALID frame is counted (R41, R278, R358). -/
structure WordIssued (n w : Nat) (safe : Bool) (a d : Dev) : Prop where
  now : d.now = max (eAt a n + dget R.VERDICT_LATENCY a) a.now
  grid : d.grid = { a.grid with nextIssue := n + 1 }
  number : dget R.FRAME_NUMBER d = n
  word : frameOf d n = { frameOf a n with word := w }
  others : ∀ m, m ≠ n → frameOf d m = frameOf a m
  lines : ∀ k, k < 32 → bit (dget R.VLINE_STATE d) k = (lineEdge a n k w safe).1 ∧ bit d.trig.latched k = (lineEdge a n k w safe).2.1 ∧
    tget none d.trig.pulseEnd k = (lineEdge a n k w safe).2.2.1 ∧ tget none d.trig.unlatch k = (lineEdge a n k w safe).2.2.2
  counted : Rose R.INVALID_FRAMES (if (frameOf a n).invalid then 1 else 0) a d
  draws : d.freeCtr = a.freeCtr + (if a.undef then 1 else 0)

theorem wordIssued_lineEdges (n w : Nat) (safe : Bool) (a : Dev) : WordIssued n w safe a (lineEdges n w safe (issuedFrame n w a)) where
  now := (only_lineEdges n w safe _ .now (by decide)).trans (only_withWord n w (frameOf a n) (drawn (atIssue n a)) .now (by decide))
  grid := (only_lineEdges n w safe _ .grid (by decide)).trans (grid_issuedFrame n w a)
  number := by
    rw [seb_lineEdges n w safe _ R.FRAME_NUMBER (by decide), issuedFrame, seb_withWord _ _ _ _ R.FRAME_NUMBER (by decide)]
    exact dget_atIssue_number n a
  word := frameOf_issuedFrame n w a
  others m hm := frameOf_withWord_ne (Ne.symm hm) w (frameOf a n) (drawn (atIssue n a))
  lines k hk := by
    have hvl : (frameOf (issuedFrame n w a) n).vl = (frameOf a n).vl := by rw [frameOf_issuedFrame]
    have hg : (issuedFrame n w a).grid.b0 = a.grid.b0 := by rw [grid_issuedFrame]
    rw [← lineEdge_congr hvl (only_issuedFrame n w a .trig (by decide)) hg (seb_issuedFrame n w a) k w safe]
    exact lineEdges_line hk n w safe _
  counted := by
    have hrose := rose_withWord n w (frameOf a n) (drawn (atIssue n a))
    have hbase : dget R.INVALID_FRAMES (drawn (atIssue n a)) = dget R.INVALID_FRAMES a := seb_atIssue n a R.INVALID_FRAMES (by decide)
    unfold Rose at hrose ⊢
    rw [seb_lineEdges n w safe _ R.INVALID_FRAMES (by decide), issuedFrame, hrose, hbase]
  draws := (only_lineEdges n w safe _ .freeCtr (by decide)).trans
    (only_withWord n w (frameOf a n) (drawn (atIssue n a)) .freeCtr (by decide))

theorem only_issuedLines (n w : Nat) (safe : Bool) (d : Dev) :
    ChangesOnly [.freeCtr, .now, .time, .grid, .dict, .frames, .trig] d (lineEdges n w safe (issuedFrame n w d)) :=
  (only_issuedFrame n w d).then (only_lineEdges n w safe _) (by decide) (by decide)

theorem seb_issuedLines (n w : Nat) (safe : Bool) (d : Dev) :
    SameEntriesBut [R.FRAME_NUMBER.key, R.VLINE_STATE.key, R.INVALID_FRAMES.key] d (lineEdges n w safe (issuedFrame n w d)) :=
  ((seb_issuedFrame n w d).mono (by simp)).trans ((seb_lineEdges n w safe _).mono (by simp))

theorem WordIssued.of_stopKeeps {n w : Nat} {safe : Bool} {a b d : Dev} (h : WordIssued n w safe a b) (g : StopKeeps b d) :
    WordIssued n w safe a d := by
  obtain ⟨hget, hco⟩ := g
  have hfr : ∀ m, frameOf d m = frameOf b m := fun m => congrArg (fun t => tget Frame.rest t m) (hco .frames (by decide))
  have htr : d.trig = b.trig := hco .trig (by decide)
  have hnum : ∀ r ∈ [R.FRAME_NUMBER, R.VLINE_STATE, R.INVALID_FRAMES], dget r d = dget r b := by
    intro r hr
    apply hget
    simp only [List.mem_cons, List.not_mem_nil, or_false] at hr
    rcases hr with rfl | rfl | rfl <;> unfold stopWrites <;> decide
  exact {
    now := (hco .now (by decide)).trans h.now
    grid := (hco .grid (by decide)).trans h.grid
    number := (hnum _ (by simp)).trans h.number
    word := (hfr n).trans h.word
    others := fun m hm => (hfr m).trans (h.others m hm)
    lines := fun k hk => by rw [hnum _ (by simp), htr]; exact h.lines k hk
    counted := (hnum _ (by simp)).trans h.counted
    draws := (hco .freeCtr (by decide)).trans h.draws }

/-! ### The record of a verdict (R358) -/

/-- A ring that takes records puts one behind its queue. -/
theorem pushRec_takes {r : Nat} {e : Rec} {d : Dev} (h : RingTakes r d) :
    ∃ ep t, pushRec r e d = setRing r { ringOf d r with queue := (ringOf d r).queue ++ [{ e with epoch := ep, bTime := t }] } d := by
  obtain ⟨hen, hloss, hroom⟩ := h
  refine ⟨(ringOf d r).epoch, if r = 0 then bWords d (e.frame.getD 0) else [], ?_⟩
  simp [pushRec, hen, hloss, lossPending, Loss.rest, hroom]

section Issue

variable {n w : Nat} {safe : Bool} {d : Dev}

/-- The time of frame n has come: its ring and its ring wait have passed, and the peer's check of a mirrored pair. -/
theorem issue_due (hr : ringPassed d n = true) (hd : n < d.grid.nextDead) (hm : dget R.MIRROR_ROLE d ≠ 0 → n < d.grid.nextAlone) :
    ¬ (ringPassed d n = false ∨ d.grid.nextDead ≤ n ∨ (dget R.MIRROR_ROLE d ≠ 0 ∧ d.grid.nextAlone ≤ n)) := by
  rintro (h | h | ⟨h1, h2⟩)
  · simp [hr] at h
  · omega
  · have := hm h1; omega

/-- A frame on the grid whose ring wait is over is issued with its word, its lines and its record. -/
theorem verdictIssue_frame (hn : n = d.grid.nextIssue) (he : d.grid.endF ≠ some n) (hf : FrameOn n d) (hd : n < d.grid.nextDead)
    (hm : dget R.MIRROR_ROLE d ≠ 0 → n < d.grid.nextAlone) (hw : w = (freeClass (verdictWord d n) d).1)
    (hs : safe = (decide (dget R.MIRROR_ROLE d = 2 ∧ dget R.MIRROR_LINE_POLICY d = 1 ∧ drivesLines n d = false) ||
      decide (n < d.flt.safeBelow))) :
    verdictIssue d =
      stopEnds (gapAtEnd (pushRec 0 (verdictRec (issuedFrame n w d) n w) (lineEdges n w safe (issuedFrame n w d)))) := by
  obtain ⟨hr, hl, hp⟩ := hf
  have hword : (freeClass (verdictWord (atIssue n d) n) (atIssue n d)).1 = w := by
    rw [hw]; exact freeClass_congr (a := d) (b := atIssue n d) rfl rfl _
  have hdraw : (freeClass (verdictWord (atIssue n d) n) (atIssue n d)).2 = drawn (atIssue n d) := freeClass_dev _ _
  have hheld : linesHeld n (frameOf d n) (issuedFrame n w d) = safe := by
    rw [linesHeld_congr (seb_issuedFrame n w d) (by rw [grid_issuedFrame])
      (only_issuedFrame n w d .flt (by decide)), linesHeld_eq, hs]
  rw [verdictIssue_eq hn, if_neg he, if_neg (issue_due hr hd hm), frameOf_atIssue, hl, hp, hword, hdraw]
  show issueWord n w (frameOf d n) (drawn (atIssue n d)) = _
  rw [← hheld]; rfl

theorem wordIssued_verdictIssue (hn : n = d.grid.nextIssue) (he : d.grid.endF ≠ some n) (hf : FrameOn n d) (hd : n < d.grid.nextDead)
    (hm : dget R.MIRROR_ROLE d ≠ 0 → n < d.grid.nextAlone) (hw : w = (freeClass (verdictWord d n) d).1)
    (hs : safe = (decide (dget R.MIRROR_ROLE d = 2 ∧ dget R.MIRROR_LINE_POLICY d = 1 ∧ drivesLines n d = false) ||
      decide (n < d.flt.safeBelow))) : WordIssued n w safe d (verdictIssue d) := by
  rw [verdictIssue_frame hn he hf hd hm hw hs]
  exact (wordIssued_lineEdges n w safe d).of_stopKeeps ((StopKeeps.of_only (only_pushRec _ _ _) (by decide) (by decide)).trans
    ((stopKeeps_gapAtEnd _).trans (stopKeeps_stopEnds _)))

/-- With no stop on the way, and a verdict ring that takes records, the record joins its queue, and nothing else follows. -/
theorem verdictIssue_recorded (hn : n = d.grid.nextIssue) (he : d.grid.endF = none) (hf : FrameOn n d) (hd : n < d.grid.nextDead)
    (hm : dget R.MIRROR_ROLE d ≠ 0 → n < d.grid.nextAlone) (hw : w = (freeClass (verdictWord d n) d).1)
    (hs : safe = (decide (dget R.MIRROR_ROLE d = 2 ∧ dget R.MIRROR_LINE_POLICY d = 1 ∧ drivesLines n d = false) ||
      decide (n < d.flt.safeBelow))) (ht : RingTakes 0 d) :
    ∃ ep t, verdictIssue d = setRing 0 { ringOf d 0 with
      queue := (ringOf d 0).queue ++ [{ verdictRec (issuedFrame n w d) n w with epoch := ep, bTime := t }] }
      (lineEdges n w safe (issuedFrame n w d)) := by
  have hring : ringOf (lineEdges n w safe (issuedFrame n w d)) 0 = ringOf d 0 :=
    congrArg (fun x : HostPort => tget Ring.rest x.rings 0) (only_issuedLines n w safe d .host (by decide))
  obtain ⟨ep, t, hq⟩ := pushRec_takes (e := verdictRec (issuedFrame n w d) n w) (d := lineEdges n w safe (issuedFrame n w d))
    (r := 0) (by unfold RingTakes; rw [hring]; exact ht)
  rw [hring] at hq
  have hend : (pushRec 0 (verdictRec (issuedFrame n w d) n w) (lineEdges n w safe (issuedFrame n w d))).grid.endF = none := by
    rw [pushRec_grid, (wordIssued_lineEdges n w safe d).grid]; exact he
  exact ⟨ep, t, by rw [verdictIssue_frame hn (by simp [he]) hf hd hm hw hs, gapAtEnd_of_none hend, stopEnds_of_none hend, hq]⟩

end Issue

/-- The counter of free values leaves a frame if it has not moved. -/
theorem ChangesOnly.of_freeCtr {ps : List Part} {a b : Dev} (h : ChangesOnly (.freeCtr :: ps) a b) (hf : b.freeCtr = a.freeCtr) :
    ChangesOnly ps a b := by
  intro p hp
  by_cases he : p = .freeCtr
  · subst he; exact hf
  · exact h p (by simp [he, hp])

/-! ### Lines without a word (R278 to R280, R497) -/

theorem only_linesSafe (d : Dev) : ChangesOnly [.dict, .trig] d (linesSafe d) :=
  fun p hp => by cases p <;> first | exact absurd (by decide) hp | rfl

theorem seb_linesSafe (d : Dev) : SameEntriesBut [R.VLINE_STATE.key] d (linesSafe d) :=
  fun _ hr => dget_dset_ne _ _ (fun e => hr (e ▸ List.mem_cons_self))

theorem dget_linesSafe (d : Dev) : dget R.VLINE_STATE (linesSafe d) = safeLines d := dget_dset_same _ _ _

theorem safeLines_congr {a b : Dev} (h : dget R.SAFE_LEVEL_STRAPS b = dget R.SAFE_LEVEL_STRAPS a) : safeLines b = safeLines a := by
  have hl : safeLevel b = safeLevel a := by funext k; unfold safeLevel; rw [h]
  unfold safeLines; rw [hl]

/-- The row of VLINE_UNLATCH (Table 11.9). -/
theorem rowIs_vlineUnlatch : rowIs R.VLINE_UNLATCH ⟨0x2894, 1, 0x01, 1, .u32, .wo, .any, .none, false⟩ = true := by decide +kernel

theorem rowWrite_vlineUnlatch {c mask : Nat} {d : Dev} (ha : Asks c d) (hm : mask < 2 ^ 32) :
    rowWrite c R.VLINE_UNLATCH mask d = vlineUnlatch mask (asked c d) :=
  wo_write ⟨0x2894, 1, 0x01, 1, .u32, .wo, .any, .none, false⟩ ha rowIs_vlineUnlatch rfl hm (.inl rfl) rfl rfl rfl

theorem completes_verdictIssue {s : State} {P : Dev → Prop} (h : P (verdictIssue s.dev)) : Completes (exec .verdictIssue s) s P :=
  ⟨_, rfl, h⟩

/-- Settles O15: `verdictIssue_eq` gives the cases of the issue, `wordIssued_verdictIssue` what a word brings with it. -/
theorem verdictIssueAndLines : Obligations.VerdictIssueAndLines := by
  refine ⟨?recorded, ?issued, ?stopped, ?lost, ?early, ?pulseEnd, ?noPulse, ?unlatch⟩
  case recorded =>
    intro n w safe s hn he hf hd hm hu htake hw hs
    have hend : s.dev.grid.endF ≠ some n := by simp [he]
    have hfree : w = (freeClass (verdictWord s.dev n) s.dev).1 := by rw [freeClass_defined hu]; exact hw
    have hword := wordIssued_verdictIssue hn hend hf hd hm hfree hs
    obtain ⟨ep, t, hq⟩ := verdictIssue_recorded hn he hf hd hm hfree hs htake
    have hring : ∀ r, ringOf (lineEdges n w safe (issuedFrame n w s.dev)) r = ringOf s.dev r :=
      fun r => congrArg (fun x : HostPort => tget Ring.rest x.rings r) (only_issuedLines n w safe s.dev .host (by decide))
    refine completes_verdictIssue ⟨hword.now, hword.grid, hword.number, hword.word, hword.others, hword.lines, hword.counted,
      ⟨{ verdictRec (issuedFrame n w s.dev) n w with epoch := ep, bTime := t }, rfl, rfl, ?_, ?_⟩, fun r hr => ?_, ?_, ?_⟩
    · show [n, w, (frameOf (issuedFrame n w s.dev) n).ctx] = _
      rw [frameOf_issuedFrame]
    · rw [hq, ringOf_setRing_same]
    · rw [hq, ringOf_setRing_ne _ _ (Ne.symm hr), hring]
    · rw [hq]; exact (seb_issuedLines n w safe s.dev).trans (seb_dict rfl)
    · refine ChangesOnly.of_freeCtr ?_ (by rw [hword.draws, hu]; rfl)
      rw [hq]
      exact (only_issuedLines n w safe s.dev).then (only_setRing _ _ _) (by decide) (by decide)
  case issued =>
    intro n safe s hn he hf hd hm hs
    have hword := wordIssued_verdictIssue hn he hf hd hm rfl hs
    refine completes_verdictIssue ⟨hword.now, by rw [hword.grid], hword.number, ?_, fun hu => ?_, hword.draws, fun k hk => ?_, hword.counted⟩
    · rw [hword.word, bits_freeClass, bits_verdictWord]
    · rw [hword.word, freeClass_defined hu]
    · rw [hword.word]; exact (hword.lines k hk).1
  case stopped =>
    intro n s hn he
    have heq : verdictIssue s.dev = issueEnd n s.dev := by rw [verdictIssue_eq hn, if_pos he]
    refine completes_verdictIssue ?_
    rw [heq]
    have hgap := only_gapAtEnd (linesSafe (advTo (eAt s.dev n + dget R.VERDICT_LATENCY s.dev)
      { s.dev with grid := { s.dev.grid with nextIssue := n + 1 } }))
    have hseb := seb_dict (ks := []) (hgap .dict (by decide))
    exact ⟨hgap .now (by decide), hgap .grid (by decide), (hseb R.VLINE_STATE (by simp)).trans (dget_linesSafe _),
      (seb_linesSafe _).trans (hseb.mono (by simp))⟩
  case lost =>
    intro n s hn he hr hl hd hm
    have hend : (linesSafe (atIssue n s.dev)).grid.endF = none := he
    have heq : verdictIssue s.dev = linesSafe (atIssue n s.dev) := by
      rw [verdictIssue_eq hn, if_neg (by simp [he]), if_neg (issue_due hr hd fun h => absurd hm h), frameOf_atIssue,
        if_pos hl, gapAtEnd_of_none hend, stopEnds_of_none hend]
    refine completes_verdictIssue ?_
    rw [heq]
    refine ⟨(seb_linesSafe _ R.FRAME_NUMBER (by decide)).trans (dget_atIssue_number _ _), ?_, rfl, rfl,
      ((seb_atIssue n s.dev).mono (by simp)).trans ((seb_linesSafe _).mono (by simp)),
      (only_atIssue n s.dev).then (only_linesSafe _) (by decide) (by decide)⟩
    rw [dget_linesSafe, safeLines_congr (seb_atIssue n s.dev R.SAFE_LEVEL_STRAPS (by decide))]
  case early =>
    intro s he hr
    have heq : verdictIssue s.dev = s.dev := by rw [verdictIssue_eq rfl, if_neg (by simp [he]), if_pos (.inl hr)]
    show Host.Outcome.next { s with dev := verdictIssue s.dev } = _
    rw [heq]
  case pulseEnd =>
    intro k t s hk ht
    have heq : vlinePulseEnd k s.dev = dset R.VLINE_STATE (setBit (dget R.VLINE_STATE s.dev) k (!bit (dget R.VLINE_STATE s.dev) k))
        { advTo t s.dev with trig := { s.dev.trig with pulseEnd := tset none s.dev.trig.pulseEnd k none } } := by
      simp only [vlinePulseEnd, ht, dget_advTo, advTo_trig]
    refine ⟨_, run_ok (by simpa using hk), ?_⟩
    rw [heq]
    refine ⟨rfl, fun j => ?_, fun j => ?_, fun r hr => dget_dset_ne _ _ (fun e => hr (e ▸ List.mem_cons_self)), ?_⟩
    · rw [dget_dset_same, bit_setBit]
    · show tget none (tset none s.dev.trig.pulseEnd k none) j = _
      rw [tget_tset]; simp only [eq_comm]
    · exact (only_advTo t s.dev).then ((only_trig _ _).then (only_dset _ _ _) (rs := [.trig, .dict]) (by decide) (by decide))
        (by decide) (by decide)
  case noPulse =>
    intro k s hk ht
    have heq : vlinePulseEnd k s.dev = s.dev := by simp only [vlinePulseEnd, ht]
    show execVlinePulseEnd k s = _
    rw [execVlinePulseEnd, run_ok (by simpa using hk), heq]
  case unlatch =>
    intro c mask s ha hm
    refine ⟨_, run_ok (by simpa using ⟨ha.1, hm⟩), ?_⟩
    rw [rowWrite_vlineUnlatch ha hm]
    have htrig : (asked c s.dev).trig = s.dev.trig := only_asked c s.dev .trig (by decide)
    refine ⟨?_, fun r _ => dget_asked r c s.dev, only_trig _ _⟩
    show { (asked c s.dev).trig with unlatchNew := (asked c s.dev).trig.unlatchNew ||| mask } = _
    rw [htrig]

end Sys2Proof.Machine
end

section
/-! SUPPORT. What a STOP of an arming does with a dropped switch (R497, Table 9.6) while an update waits for its effect (R187, R193): the
report stands where the clip monitors are those of R183, and it does not where one has a number beyond them, which refutes O51. -/

namespace Sys2Proof.Machine

/-! ### The write of ARM_COMMAND -/

theorem rowIs_armCommand : rowIs R.ARM_COMMAND ⟨0x3000, 1, 0x06, 1, .u8, .wo, .range 1 2, .none, false⟩ = true := by decide +kernel

theorem command_stop {c : Nat} (hc : c ≠ 1) (d : Dev) : command c R.ARM_COMMAND.key 2 none d = (stopCmd d, 0, R.ARM_COMMAND.key) := by
  show (if c = 1 then (d, 0xA011, R.ARM_COMMAND.key) else (stopCmd d, 0, R.ARM_COMMAND.key)) = _
  rw [if_neg hc]

theorem rowWrite_stop {c : Nat} {d : Dev} (ha : Asks c d) (hc : c ≠ 1) : rowWrite c R.ARM_COMMAND 2 d = stopCmd (asked c d) := by
  have hcmd := command_stop hc (asked c d)
  rw [wo_write ⟨0x3000, 1, 0x06, 1, .u8, .wo, .range 1 2, .none, false⟩ ha rowIs_armCommand rfl (by decide) (.inl rfl) rfl rfl (by rw [hcmd]),
    hcmd]

/-! ### The entries that the effect of an update may write (R187, R190, R258) -/

/-- Every clip monitor that holds anything is one of the 4,096 of R183. -/
def MonsInRange (d : Dev) : Prop := ∀ x ∈ d.enc.mons, x.1 < 4096

/-- The entries of the whole block that an update's effect may write: the encoder's, a measurement's and the monitors' summary. -/
def updateKeysOfBlock : List Nat :=
  [R.ENC_COMMIT_FRAME.key, R.ENC_STATE.key, (R.MR 3).key, R.LOG_DROPPED.key, R.LOG_COUNT.key, R.STALE_MONITORS.key, R.FIRST_STALE_MONITOR.key]

/-- The entries that an update's effect may write, with those of each slot and each monitor. -/
def updateKeys : List Nat :=
  updateKeysOfBlock ++ (List.range 4).map (fun k => (R.LIVE_WEIGHT_DIGEST k).key) ++ (List.range 4096).map (fun m => (R.CLIP_SHARE m).key)

theorem mem_updateKeys_of_block {n : Nat} (h : n ∈ updateKeysOfBlock) : n ∈ updateKeys :=
  List.mem_append_left _ (List.mem_append_left _ h)

theorem clipShare_mem_updateKeys {m : Nat} (h : m < 4096) : (R.CLIP_SHARE m).key ∈ updateKeys :=
  List.mem_append_right _ (List.mem_map.2 ⟨m, List.mem_range.2 h, rfl⟩)

theorem liveDigest_mem_updateKeys {k : Nat} (h : k < 4) : (R.LIVE_WEIGHT_DIGEST k).key ∈ updateKeys :=
  List.mem_append_left _ (List.mem_append_right _ (List.mem_map.2 ⟨k, List.mem_range.2 h, rfl⟩))

theorem lastFault_notMem_updateKeys : R.LAST_FAULT_CODE.key ∉ updateKeys := by
  simp only [updateKeys, List.mem_append, List.mem_map, List.mem_range, not_or, not_exists, not_and]
  refine ⟨⟨by decide, fun k hk => ?_⟩, fun m hm => ?_⟩
  · simp only [R.LIVE_WEIGHT_DIGEST, R.LAST_FAULT_CODE]; omega
  · simp only [R.CLIP_SHARE, R.LAST_FAULT_CODE]; omega

/-- Block b differs from a in no entry but those of an update, as long as a's monitors are in range, and b's are then. -/
def UpdateKeeps (a b : Dev) : Prop := MonsInRange a → SameEntriesBut updateKeys a b ∧ MonsInRange b

theorem UpdateKeeps.refl (a : Dev) : UpdateKeeps a a := fun h => ⟨seb_refl _ _, h⟩

theorem UpdateKeeps.trans {a b c : Dev} (h : UpdateKeeps a b) (g : UpdateKeeps b c) : UpdateKeeps a c := fun hm =>
  have ⟨hs, hb⟩ := h hm
  have ⟨gs, hc⟩ := g hb
  ⟨hs.trans gs, hc⟩

theorem UpdateKeeps.ite {p : Prop} [Decidable p] {a b c : Dev} (h : UpdateKeeps a b) (g : UpdateKeeps a c) :
    UpdateKeeps a (if p then b else c) := by split <;> assumption

theorem UpdateKeeps.foldl {α : Type} {f : Dev → α → Dev} {l : List α} (h : ∀ d, ∀ x ∈ l, UpdateKeeps d (f d x)) (d : Dev) :
    UpdateKeeps d (l.foldl f d) := by
  induction l generalizing d with
  | nil => exact UpdateKeeps.refl _
  | cons x l ih => exact (h d x List.mem_cons_self).trans (ih (fun d y hy => h d y (List.mem_cons_of_mem _ hy)) _)

theorem updateKeeps_dset {r : Reg} (h : r.key ∈ updateKeys) (v : Nat) (d : Dev) : UpdateKeeps d (dset r v d) :=
  fun hm => ⟨seb_dset h v d, hm⟩

theorem updateKeeps_dset_block {r : Reg} (h : r.key ∈ updateKeysOfBlock) (v : Nat) (d : Dev) : UpdateKeeps d (dset r v d) :=
  updateKeeps_dset (mem_updateKeys_of_block h) v d

/-- A step that leaves the dictionary and the monitors alone. -/
theorem UpdateKeeps.of_same {a b : Dev} (hd : b.dict = a.dict) (he : b.enc.mons = a.enc.mons) : UpdateKeeps a b :=
  fun hm => ⟨seb_dict hd, fun x hx => hm x (he ▸ hx)⟩

theorem updateKeeps_modCore (k : Nat) (f : Core → Core) (d : Dev) : UpdateKeeps d (modCore k f d) := UpdateKeeps.of_same rfl rfl

theorem updateKeeps_enc {x : Enc} {d : Dev} (h : x.mons = d.enc.mons) : UpdateKeeps d { d with enc := x } := UpdateKeeps.of_same rfl h

theorem updateKeeps_sec (x : Sec) (d : Dev) : UpdateKeeps d { d with sec := x } := UpdateKeeps.of_same rfl rfl

theorem updateKeeps_bump_block {r : Reg} (h : r.key ∈ updateKeysOfBlock) (d : Dev) : UpdateKeeps d (bump r d) :=
  fun hm => ⟨seb_bump (mem_updateKeys_of_block h) d, by unfold MonsInRange; rwa [bump_enc]⟩

theorem updateKeeps_extend (ev : Nat) (dg : List Nat) (d : Dev) : UpdateKeeps d (extend 3 ev dg d) := by
  unfold extend; dsimp only
  exact (updateKeeps_dset_block (by decide) _ _).trans
    (((updateKeeps_sec _ _).ite (updateKeeps_bump_block (by decide) _)).trans (updateKeeps_bump_block (by decide) _))

theorem mem_of_mem_terase {α : Type} {i : Nat} {x : Nat × α} {t : Tab α} (h : x ∈ terase t i) : x ∈ t := by
  induction t with
  | nil => exact h
  | cons e t ih =>
    unfold terase at h
    split at h
    · exact List.mem_cons_of_mem _ (ih h)
    · exact (List.mem_cons.1 h).elim (fun e => e ▸ List.mem_cons_self) (fun h => List.mem_cons_of_mem _ (ih h))

/-- Clearing monitors lists none anew. -/
theorem mem_of_mem_clearedMons {x : Nat × Mon} (l : List Nat) {t : Tab Mon}
    (h : x ∈ l.foldl (fun t m => tset Mon.rest t m Mon.rest) t) : x ∈ t := by
  induction l generalizing t with
  | nil => exact h
  | cons m l ih => exact mem_of_mem_terase (i := m) (by simpa [tset] using ih h)

theorem updateKeeps_clearMons (k : Nat) (d : Dev) : UpdateKeeps d (clearMons k d) := by
  intro hm
  unfold clearMons showMons; dsimp only
  have hmine : ∀ e, ∀ m ∈ (d.enc.mons.map Prod.fst).filter (fun m => decide (slotOfMon d m = some k)),
      UpdateKeeps e (dset (R.CLIP_SHARE m) 0 e) := by
    intro e m hmem
    obtain ⟨x, hx, rfl⟩ := List.mem_map.1 (List.mem_filter.1 hmem).1
    exact updateKeeps_dset (clipShare_mem_updateKeys (hm x hx)) _ _
  obtain ⟨hshare, hm'⟩ := UpdateKeeps.foldl hmine d hm
  refine ⟨hshare.trans ((seb_dict rfl).trans ?_), fun x hx => hm' x (mem_of_mem_clearedMons _ hx)⟩
  exact (seb_dset (mem_updateKeys_of_block (by decide)) _ _).trans (seb_dset (mem_updateKeys_of_block (by decide)) _ _)

theorem updateKeeps_encState (v : Nat) (d : Dev) : UpdateKeeps d (encState v d) :=
  (UpdateKeeps.refl _).ite ((updateKeeps_dset_block (by decide) _ _).trans
    (UpdateKeeps.of_same (msi_dict _ _) (congrArg Enc.mons (msi_enc _ _))))

theorem updateKeeps_encEffect (g : Nat) (d : Dev) : UpdateKeeps d (encEffect g d) := by
  unfold encEffect; dsimp only
  refine (updateKeeps_dset_block (by decide) _ _).trans ((UpdateKeeps.foldl (fun e k hk => ?_) _).trans (updateKeeps_encState _ _))
  have hk4 : k < 4 := List.mem_range.1 (List.mem_filter.1 hk).1
  exact (updateKeeps_dset (liveDigest_mem_updateKeys hk4) _ _).trans ((updateKeeps_extend _ _ _).trans
    ((updateKeeps_enc (by rfl)).trans (updateKeeps_clearMons _ _)))

theorem updateKeeps_encApply (g : Nat) (d : Dev) : UpdateKeeps d (encApply g d) := by
  unfold encApply; dsimp only
  exact (updateKeeps_encEffect _ _).trans ((UpdateKeeps.foldl (fun e k _ => updateKeeps_modCore k _ e) _).trans (updateKeeps_enc (by rfl)))

theorem updateKeeps_encAtStop (d : Dev) : UpdateKeeps d (encAtStop d) := (updateKeeps_encApply _ _).ite (UpdateKeeps.refl _)

/-! ### The end of an arming (R497, Table 9.6) -/

/-- A report stands where nothing writes LAST_FAULT_CODE after it. -/
theorem LastFault.of_same {code : Nat} {a b : Dev} (h : LastFault code a) (hc : dget R.LAST_FAULT_CODE b = dget R.LAST_FAULT_CODE a)
    (hu : Part.undef.same a b) : LastFault code b :=
  fun hb => hc.trans (h ((congrArg Prod.fst hu).symm.trans hb))

theorem LastFault.dset {code : Nat} {r : Reg} {a : Dev} (h : LastFault code a) (hr : r.key ≠ R.LAST_FAULT_CODE.key) (v : Nat) :
    LastFault code (dset r v a) := h.of_same (dget_dset_ne v a hr) rfl

theorem dropSwitch_eq {d : Dev} {g k : Nat} (h : pendingSwitch d = some (g, k)) (n : Nat) :
    dropSwitch n d = report 0x0202 n k (dset R.PENDING_SWITCH 0 d) := by simp [dropSwitch, h]

/-- A dropped switch has its event. -/
theorem lastFault_dropSwitch {d : Dev} (h : (pendingSwitch d).isSome = true) (n : Nat) : LastFault 0x0202 (dropSwitch n d) := by
  obtain ⟨⟨g, k⟩, hp⟩ := Option.isSome_iff_exists.1 h
  rw [dropSwitch_eq hp]
  exact fun hu => lastCode_report (by decide) _ _ _ (by simpa using hu)

theorem only_dropSwitch (n : Nat) (d : Dev) : ChangesOnly [.dict, .host, .flt] d (dropSwitch n d) := by
  unfold dropSwitch; split
  · exact ((only_dset _ _ _).mono (by decide)).trans (only_report (by decide) _ _ _)
  · exact ChangesOnly.refl _ _

theorem only_dropWait (d : Dev) : ChangesOnly [.lnk] d (dropWait d) :=
  fun p hp => by cases p <;> first | exact absurd (by decide) hp | rfl

theorem pendingSwitch_congr {a b : Dev} (h : dget R.PENDING_SWITCH b = dget R.PENDING_SWITCH a) : pendingSwitch b = pendingSwitch a := by
  unfold pendingSwitch; rw [h]

theorem only_pauseAtStop (d : Dev) : ChangesOnly [.dict] d (pauseAtStop d) :=
  (only_dset _ _ _).ite ((only_dset _ _ _).ite (ChangesOnly.refl _ _))

theorem seb_pauseAtStop (d : Dev) : SameEntriesBut [R.PAUSE_STATE.key] d (pauseAtStop d) :=
  seb_ite (seb_dset List.mem_cons_self _ _) (seb_ite (seb_dset List.mem_cons_self _ _) (seb_refl _ _))

/-- The summary entries that follow links, host and time source while the array is not armed (R28). -/
def summaryKeys : List Nat := [R.HOST_LINK.key, R.RING_SIZE.key, R.MIRROR_LINK.key, R.RING_LINKS.key, R.TIME_SOURCE.key]

theorem seb_showAll (d : Dev) : SameEntriesBut (presenceKeys ++ summaryKeys) d (showAll d) := by
  have hw : ∀ r ∈ [R.HOST_LINK, R.RING_SIZE, R.MIRROR_LINK, R.RING_LINKS, R.TIME_SOURCE], ∀ v e,
      SameEntriesBut (presenceKeys ++ summaryKeys) e (dset r v e) :=
    fun r hr => seb_dset (List.mem_append_right _ (List.mem_map_of_mem (f := Reg.key) hr))
  unfold showAll showSource showLinks showHost
  refine ((seb_showPresent d).mono (List.subset_append_left _ _)).trans ((seb_ite (seb_refl _ _) (hw _ (by simp) _ _)).trans
    ((seb_ite (seb_refl _ _) ?_).trans (seb_ite (seb_refl _ _) (hw _ (by simp) _ _))))
  exact (hw _ (by simp) _ _).trans ((hw _ (by simp) _ _).trans (hw _ (by simp) _ _))

/-- The block of an arming that ends, before a committed update takes effect. -/
def armDropped (d : Dev) : Dev :=
  dset R.ARRAY_STATE 0 (dset (R.SLOT_STATE (dget R.CURRENT_CONTEXT d)) 2 (pauseAtStop (dropSwitch 0 (dropWait d))))

theorem armEnds_eq (d : Dev) : armEnds d = showAll (encAtStop (armDropped d)) := rfl

theorem only_armDropped (d : Dev) : ChangesOnly [.lnk, .dict, .host, .flt] d (armDropped d) :=
  ((only_dropWait d).mono (by decide)).trans (((only_dropSwitch 0 _).mono (by decide)).trans (((only_pauseAtStop _).mono (by decide)).trans
    (((only_dset _ _ _).mono (by decide)).trans ((only_dset _ _ _).mono (by decide)))))

theorem lastFault_armDropped {d : Dev} (hk : dget R.CURRENT_CONTEXT d < 4) (hp : (pendingSwitch d).isSome = true) :
    LastFault 0x0202 (armDropped d) := by
  have hwait : pendingSwitch (dropWait d) = pendingSwitch d := pendingSwitch_congr rfl
  have hdrop : LastFault 0x0202 (dropSwitch 0 (dropWait d)) := lastFault_dropSwitch (hwait ▸ hp) 0
  have hpause : LastFault 0x0202 (pauseAtStop (dropSwitch 0 (dropWait d))) :=
    hdrop.of_same (seb_pauseAtStop _ _ (by decide)) (only_pauseAtStop _ .undef (by decide))
  have hslot : (R.SLOT_STATE (dget R.CURRENT_CONTEXT d)).key ≠ R.LAST_FAULT_CODE.key := by
    simp only [R.SLOT_STATE, R.LAST_FAULT_CODE]; omega
  exact (hpause.dset hslot 2).dset (by decide) 0

/-- With its monitors in range, the block that a STOP of an arming leaves shows the switch that was dropped. -/
theorem lastFault_armEnds {d : Dev} (hk : dget R.CURRENT_CONTEXT d < 4) (hm : MonsInRange d) (hp : (pendingSwitch d).isSome = true) :
    LastFault 0x0202 (armEnds d) := by
  have henc : (armDropped d).enc = d.enc := only_armDropped d .enc (by decide)
  have hrange : MonsInRange (armDropped d) := fun x hx => hm x (henc ▸ hx)
  have hupdate : LastFault 0x0202 (encAtStop (armDropped d)) :=
    (lastFault_armDropped hk hp).of_same ((updateKeeps_encAtStop _ hrange).1 _ lastFault_notMem_updateKeys)
      (((stopKeeps_encApply 0 _).ite (StopKeeps.refl _)).2 .undef (by decide))
  rw [armEnds_eq]
  exact hupdate.of_same (seb_showAll _ _ (by decide)) ((stopKeeps_showAll _).2 .undef (by decide))

/-! ### STOP -/

theorem exec_stop {c : Nat} {s : State} (ha : Asks c s.dev) (hc : c ≠ 1) :
    exec (.stop c) s = .next { s with dev := stopCmd (asked c s.dev) } := by
  rw [← rowWrite_stop ha hc]
  exact run_ok (by simpa using ha.1)

/-- What is claimed of a completed STOP is claimed of `stopCmd`. -/
theorem stopCmd_of_completes {c : Nat} {s : State} {P : Dev → Prop} (ha : Asks c s.dev) (hc : c ≠ 1)
    (h : Completes (exec (.stop c) s) s P) : P (stopCmd (asked c s.dev)) := by
  obtain ⟨d, hd, hP⟩ := h
  rw [exec_stop ha hc] at hd
  obtain rfl : stopCmd (asked c s.dev) = d := congrArg State.dev (Host.Outcome.next.inj hd)
  exact hP

/-- What O51 says of a dropped switch holds while the block's clip monitors are those that the part has. -/
theorem stop_reports_droppedSwitch {c : Nat} {s : State} (ha : Asks c s.dev) (hc : c ≠ 1) (h1 : arrayState s.dev = 1)
    (hk : dget R.CURRENT_CONTEXT s.dev < 4) (hm : MonsInRange s.dev) (hp : (pendingSwitch s.dev).isSome = true) :
    Completes (exec (.stop c) s) s (LastFault 0x0202) := by
  refine ⟨_, exec_stop ha hc, ?_⟩
  have hget : ∀ r : Reg, r.key ≠ R.BARRIER_STATE.key → dget r (dset R.BARRIER_STATE 0 (asked c s.dev)) = dget r s.dev :=
    fun r hr => (dget_dset_ne _ _ hr.symm).trans (dget_asked r c s.dev)
  have hstop : stopCmd (asked c s.dev) = armEnds (dset R.BARRIER_STATE 0 (asked c s.dev)) :=
    if_pos ((dget_asked R.ARRAY_STATE c s.dev).trans h1)
  rw [hstop]
  have hpend : pendingSwitch (dset R.BARRIER_STATE 0 (asked c s.dev)) = pendingSwitch s.dev :=
    pendingSwitch_congr (hget R.PENDING_SWITCH (by decide))
  have henc : (asked c s.dev).enc = s.dev.enc := only_asked c s.dev .enc (by decide)
  exact lastFault_armEnds ((hget R.CURRENT_CONTEXT (by decide)).symm ▸ hk) (fun x hx => hm x (henc ▸ hx)) (hpend.symm ▸ hp)

/-! ### The refutation of O51 -/

/-- An arming with a switch pending and an update of slot 0 committed, whose one clip monitor is number 516097: no state that the part
reaches, but one of the state type, over which O51 speaks. -/
def armingWithStrayMonitor : State := { State.reset with dev := { Dev.reset with
  dict := [(R.BOOT_STATE, 2), (R.ARRAY_STATE, 1), (R.PENDING_SWITCH, 128), (R.ENC_STATE, 3), (R.MONITOR_BASE 0, 516097)].foldl
    (fun t x => tset x.1.dflt t x.1.key x.2) []
  host := { Dev.reset.host with linkUp := true }
  ldr := { Dev.reset.ldr with ctxs := [(0, { Loaded.rest with present := true, monCount := 1 })] }
  enc := { Dev.reset.enc with
    staged := [{ core := 0, kind := 3, ctx := 0, row := 0, tword := 0, oq := 0, words := [], record := [], tag := 0 }]
    mons := [(516097, { Mon.rest with stale := true })] } } }

/-- CLIP_SHARE of that monitor would have the number of LAST_FAULT_CODE. -/
theorem clipShare_strayMonitor_key : (R.CLIP_SHARE 516097).key = R.LAST_FAULT_CODE.key := by simp [R.CLIP_SHARE, R.LAST_FAULT_CODE]

theorem asks_armingWithStrayMonitor : Asks 0 armingWithStrayMonitor.dev :=
  ⟨by decide, by decide +kernel, .inl ⟨rfl, rfl, by decide +kernel⟩⟩

/-- The effect of the update clears the monitor's CLIP_SHARE, and with it the code of the dropped switch. -/
theorem stopCmd_strayMonitor_lastFault :
    (stopCmd armingWithStrayMonitor.dev).undef = false ∧ dget R.LAST_FAULT_CODE (stopCmd armingWithStrayMonitor.dev) = 0 := by
  decide +kernel

/-- Refutes O51: its clause on the STOP of an arming claims event 0x0202 for a dropped switch in every state, and where a committed update
clears a monitor beyond the 4,096 of R183, which no hypothesis keeps out, the write of its CLIP_SHARE falls on LAST_FAULT_CODE
(`stop_reports_droppedSwitch` gives the clause for monitors in range). -/
theorem not_armAndStop : ¬ Obligations.ArmAndStop := by
  unfold Obligations.ArmAndStop
  rintro ⟨-, -, -, -, -, hstop⟩
  have harming := (hstop 0 armingWithStrayMonitor asks_armingWithStrayMonitor (by decide)).1 (by decide +kernel) (by decide +kernel)
  obtain ⟨-, -, -, -, -, hlast, -⟩ := stopCmd_of_completes asks_armingWithStrayMonitor (by decide) harming
  rw [asked_zero] at hlast
  obtain ⟨hundef, hcode⟩ := stopCmd_strayMonitor_lastFault
  have hclaimed : dget R.LAST_FAULT_CODE (stopCmd armingWithStrayMonitor.dev) = 0x0202 := hlast (by decide +kernel) hundef
  exact absurd (hcode.symm.trans hclaimed) (by decide)

end Sys2Proof.Machine
end

section
/-! SUPPORT. Channels that become absent, the beginning of a retrain (R67, R68), and what refutes O2. -/

namespace Sys2Proof.Machine

/-! ### Channels that become absent (R65, R92, R283) -/

theorem tget_eq_default {α : Type} (d : α) {t : Tab α} {i : Nat} (h : ∀ e ∈ t, e.1 ≠ i) : tget d t i = d := by
  induction t with
  | nil => rfl
  | cons e t ih =>
    rw [tget_cons, if_neg (h e List.mem_cons_self), ih fun x hx => h x (List.mem_cons_of_mem _ hx)]

theorem flagBit_rest (w x : Nat) : flagBit Chan.rest w x = false := by
  simp [flagBit, Chan.rest, flagAt, flagAt.go]

/-- From the ac in which it became absent on, the flag of a channel reads 0. -/
theorem flagBit_chanGone {t x : Nat} (h : t ≤ x) (w : Nat) (c : Chan) : flagBit (chanGone t c) w x = false := by
  have hcut : (chanGone t c).cut = t := rfl
  have hold : (c.flags.filter (fun f => decide (f.1 < t))).filter (fun f => decide (t ≤ f.1)) = [] := by
    rw [List.filter_filter, List.filter_eq_nil_iff]
    intro f _
    simp only [Bool.and_eq_true, decide_eq_true_eq]
    omega
  have hflags : (chanGone t c).flags.filter (fun f => decide (t ≤ f.1)) = [(t, false)] := by
    show ((t, false) :: c.flags.filter (fun f => decide (f.1 < t))).filter (fun f => decide (t ≤ f.1)) = _
    rw [List.filter_cons_of_pos (by simp), hold]
  rw [flagBit, hcut, if_pos h, hflags]
  rfl

/-- One after the other, the channels of a list go. -/
def goAbsent (l : List (Nat × Chan)) (d : Dev) : Dev := l.foldl (fun d e => modChan e.1 (chanGone d.now) d) d

theorem absent_eq (p : Nat) (d : Dev) :
    absent p d = goAbsent (d.chans.filter (fun e => decide (e.1 / 64 = p))) (modPort p (fun x => { x with presentFrom := none }) d) := rfl

theorem only_goAbsent (l : List (Nat × Chan)) (d : Dev) : ChangesOnly [.chans] d (goAbsent l d) :=
  ChangesOnly.foldl (fun d _ => only_modChan _ _ d) l d

theorem chanOf_goAbsent_ne {c : Nat} {l : List (Nat × Chan)} (h : ∀ e ∈ l, e.1 ≠ c) (d : Dev) : chanOf (goAbsent l d) c = chanOf d c := by
  induction l generalizing d with
  | nil => rfl
  | cons e l ih =>
    show chanOf (goAbsent l (modChan e.1 (chanGone d.now) d)) c = _
    rw [ih fun x hx => h x (List.mem_cons_of_mem _ hx), chanOf_modChan_ne _ _ (h e List.mem_cons_self)]

theorem chanOf_goAbsent_mem {c : Nat} {l : List (Nat × Chan)} (h : ∃ e ∈ l, e.1 = c) (d : Dev) :
    ∃ x, chanOf (goAbsent l d) c = chanGone d.now x := by
  induction l generalizing d with
  | nil => obtain ⟨_, hm, _⟩ := h; cases hm
  | cons e l ih =>
    show ∃ x, chanOf (goAbsent l (modChan e.1 (chanGone d.now) d)) c = chanGone d.now x
    by_cases hl : ∃ e ∈ l, e.1 = c
    · exact ih hl _
    · obtain ⟨f, hf, rfl⟩ := h
      have hfe : f = e := (List.mem_cons.1 hf).resolve_right fun hm => hl ⟨f, hm, rfl⟩
      subst hfe
      exact ⟨chanOf d f.1, by rw [chanOf_goAbsent_ne (fun x hx hxe => hl ⟨x, hx, hxe⟩), chanOf_modChan_same]⟩

theorem channelsGone_absent (p : Nat) (d : Dev) : ChannelsGone p d (absent p d) := by
  rw [absent_eq]
  refine ⟨fun c w x hc hx => ?_, fun c hc => ?_⟩
  · by_cases hl : ∃ e ∈ d.chans.filter (fun e => decide (e.1 / 64 = p)), e.1 = c
    · obtain ⟨y, hy⟩ := chanOf_goAbsent_mem hl (modPort p (fun x => { x with presentFrom := none }) d)
      rw [hy]
      exact flagBit_chanGone hx w y
    · have hrest : chanOf d c = Chan.rest := tget_eq_default _ fun e he hec =>
        hl ⟨e, List.mem_filter.2 ⟨he, by rw [hec]; simpa using hc⟩, hec⟩
      rw [chanOf_goAbsent_ne (fun e he hec => hl ⟨e, he, hec⟩), chanOf_modPort, hrest]
      exact flagBit_rest w x
  · refine chanOf_goAbsent_ne (fun e he hec => hc ?_) _
    rw [← hec]
    simpa using (List.mem_filter.1 he).2

theorem portOf_absent (p q : Nat) (d : Dev) :
    portOf (absent p d) q = portOf (modPort p (fun x => { x with presentFrom := none }) d) q := by
  rw [absent_eq]; unfold portOf; rw [only_goAbsent _ _ .ports (by decide)]

theorem channelsGone_of_chans {p : Nat} {a b c : Dev} (h : ChannelsGone p a b) (hc : c.chans = b.chans) : ChannelsGone p a c := by
  have hk : ∀ k, chanOf c k = chanOf b k := fun k => by unfold chanOf; rw [hc]
  exact ⟨fun k w x hp hx => by rw [hk]; exact h.1 k w x hp hx, fun k hp => by rw [hk]; exact h.2 k hp⟩

/-! ### A retrain begins (R67, R68, Table 3.6) -/

/-- The port leaves service for an attempt on one of its lanes. -/
def retraining (lane cause : Nat) (d : Dev) : Dev :=
  modPort (lane / 4) (fun x => { x with retrainAt := some d.now, retrainLane := lane, retrainCause := cause
                                        fesyncN := decide (x.profile = 0x0C) })
    (absent (lane / 4) (invalidNow (lane / 4) d))

/-- The attempt is counted in its lane. -/
def retrainCounted (lane cause : Nat) (d : Dev) : Dev :=
  bump (R.LANE_RETRAINS lane) (modLane lane (fun l => { l with cleanFrom := none, errs := [] }) (retraining lane cause d))

/-- The lanes of the port train anew, and FE_STATE says so. -/
def retrainShown (lane cause : Nat) (d : Dev) : Dev :=
  setFe (lane / 4) 7 (setLanes (lane / 4) (fun i _ => laneOr (retrainCounted lane cause d) (lane / 4) i
    (if laneUsed (retrainCounted lane cause d) (lane / 4) i then 3 else 0)) (retrainCounted lane cause d))

theorem only_outOfService (p : Nat) (d : Dev) : ChangesOnly [.frames, .ports, .chans] d (absent p (invalidNow p d)) :=
  (only_invalidNow p d).then (only_absent p _) (by decide) (by decide)

theorem seb_outOfService (ks : List Nat) (p : Nat) (d : Dev) : SameEntriesBut ks d (absent p (invalidNow p d)) :=
  seb_dict (only_outOfService p d .dict (by decide))

theorem retrain_eq {lane : Nat} {d : Dev} (cause : Nat) (h : dget (R.LANE_RETRAINS lane) d < 3) :
    retrain lane cause d = report 0x1141 lane cause (retrainShown lane cause d) := by
  have h3 : ¬ 3 ≤ dget (R.LANE_RETRAINS lane) (absent (lane / 4) (invalidNow (lane / 4) d)) := by
    rw [seb_outOfService [] (lane / 4) d (R.LANE_RETRAINS lane) (by simp)]; omega
  have hnow : (absent (lane / 4) (invalidNow (lane / 4) d)).now = d.now := only_outOfService _ d .now (by decide)
  simp only [retrain, if_neg h3, hnow]
  rfl

theorem only_retraining (lane cause : Nat) (d : Dev) : ChangesOnly [.frames, .ports, .chans] d (retraining lane cause d) :=
  (only_outOfService _ d).then (only_modPort _ _ _) (by decide) (by decide)

theorem only_retrainCounted (lane cause : Nat) (d : Dev) :
    ChangesOnly [.frames, .ports, .chans, .lanes, .dict] d (retrainCounted lane cause d) :=
  (only_retraining lane cause d).then ((only_modLane _ _ _).then (only_bump _ _) (rs := [.lanes, .dict]) (by decide) (by decide))
    (by decide) (by decide)

theorem seb_retrainCounted (lane cause : Nat) (d : Dev) :
    SameEntriesBut [(R.LANE_RETRAINS lane).key] d (retrainCounted lane cause d) :=
  (seb_dict (only_retraining lane cause d .dict (by decide))).trans (seb_bump (by simp) _)

theorem only_retrainShown (lane cause : Nat) (d : Dev) :
    ChangesOnly [.frames, .ports, .chans, .lanes, .dict] d (retrainShown lane cause d) :=
  (only_retrainCounted lane cause d).then ((only_setLanes _ _ _).trans (only_setFe _ _ _)) (by decide) (by decide)

theorem seb_retrainShown (lane cause : Nat) (d : Dev) :
    SameEntriesBut ((R.FE_STATE (lane / 4)).key :: laneStateKeys (lane / 4) ++ presenceKeys) (retrainCounted lane cause d)
      (retrainShown lane cause d) :=
  ((seb_setLanes _ _ _).mono (by simp)).trans ((seb_setFe _ _ _).mono (by simp))


theorem portOf_retraining (lane cause q : Nat) (d : Dev) :
    portOf (retraining lane cause d) q = if q = lane / 4 then { portOf d (lane / 4) with
      presentFrom := none, retrainAt := some d.now, retrainLane := lane, retrainCause := cause
      fesyncN := decide ((portOf d (lane / 4)).profile = 0x0C) } else portOf d q := by
  unfold retraining
  split
  case isTrue h => subst h; rw [portOf_modPort_same, portOf_absent, portOf_modPort_same, portOf_invalidNow]
  case isFalse h => rw [portOf_modPort_ne _ _ (Ne.symm h), portOf_absent, portOf_modPort_ne _ _ (Ne.symm h), portOf_invalidNow]

theorem portOf_retrainCounted (lane cause q : Nat) (d : Dev) : portOf (retrainCounted lane cause d) q = portOf (retraining lane cause d) q := by
  simp [retrainCounted, bump]

theorem laneOf_retrainCounted (lane cause l : Nat) (d : Dev) :
    laneOf (retrainCounted lane cause d) l = if l = lane then { laneOf d lane with cleanFrom := none, errs := [] } else laneOf d l := by
  have hlanes : ∀ k, laneOf (retraining lane cause d) k = laneOf d k := fun k => by
    unfold laneOf; rw [only_retraining lane cause d .lanes (by decide)]
  unfold retrainCounted bump
  rw [laneOf_bumpBy]
  split
  case isTrue h => subst h; rw [laneOf_modLane_same, hlanes]
  case isFalse h => rw [laneOf_modLane_ne _ _ (Ne.symm h), hlanes]

theorem laneState_key_notMem_presence {l : Nat} (h : l < 64) : (R.LANE_STATE l).key ∉ presenceKeys := by
  simp only [presenceKeys, R.LANE_STATE, R.FE_PRESENT, R.CLOCK_REF_PORT, R.CLOCK_STATE, List.mem_cons, List.not_mem_nil, or_false]
  omega

theorem notMem_reportKeys_of_lt {k : Nat} (h : k < 0x480000) : k ∉ reportKeys := by
  simp only [reportKeys, R.FAULTS_T, R.FAULTS_P, R.LAST_FAULT_CODE, R.LAST_FAULT_FRAME, R.EVENTS_SUPPRESSED, R.FAULT_ACTIVE,
    List.mem_cons, List.not_mem_nil, or_false]
  omega

/-- LANE_STATE of the port's lanes while the retrain runs: 3 where the lane is in use and carries no test pattern. -/
theorem laneState_retrainShown {lane i : Nat} (hl : lane < 64) (hi : i < 4) (cause : Nat) {d : Dev}
    (hp : dget (R.PRBS_MODE (4 * (lane / 4) + i)) d = 0) :
    dget (R.LANE_STATE (4 * (lane / 4) + i)) (retrainShown lane cause d) = if laneUsed d (lane / 4) i then 3 else 0 := by
  have hprbs : dget (R.PRBS_MODE (4 * (lane / 4) + i)) (retrainCounted lane cause d) = 0 := by
    rw [seb_retrainCounted lane cause d _ (by simp only [R.PRBS_MODE, R.LANE_RETRAINS, List.mem_singleton]; omega), hp]
  have hmap : dget (R.LANE_MAP (lane / 4)) (retrainCounted lane cause d) = dget (R.LANE_MAP (lane / 4)) d :=
    seb_retrainCounted lane cause d _ (by simp only [R.LANE_MAP, R.LANE_RETRAINS, List.mem_singleton]; omega)
  have hused : laneUsed (retrainCounted lane cause d) (lane / 4) i = laneUsed d (lane / 4) i := by
    unfold laneUsed linkLane
    rw [hmap, portOf_retrainCounted, portOf_retraining, if_pos rfl]
  have hshow : dget (R.LANE_STATE (4 * (lane / 4) + i)) (retrainShown lane cause d) = _ :=
    (seb_setFe _ _ _ _ (by
      rw [List.mem_cons, not_or]
      exact ⟨by simp only [R.LANE_STATE, R.FE_STATE]; omega, laneState_key_notMem_presence (by omega)⟩)).trans (dget_setLanes _ _ _ hi)
  rw [hshow, laneOr, if_pos hprbs, hused]

theorem retrains_retrainShown {lane : Nat} (hl : lane < 64) (cause : Nat) (d : Dev) :
    dget (R.LANE_RETRAINS lane) (retrainShown lane cause d) = satAdd32 (dget (R.LANE_RETRAINS lane) d) 1 := by
  have hkeys : (R.LANE_RETRAINS lane).key ∉ (R.FE_STATE (lane / 4)).key :: laneStateKeys (lane / 4) ++ presenceKeys := by
    simp only [laneStateKeys, presenceKeys, R.LANE_RETRAINS, R.FE_STATE, R.LANE_STATE, R.FE_PRESENT, R.CLOCK_REF_PORT, R.CLOCK_STATE,
      List.mem_append, List.mem_cons, List.mem_map, List.mem_range, List.not_mem_nil, or_false]
    rintro ((h | ⟨i, hi, h⟩) | h) <;> omega
  rw [seb_retrainShown lane cause d _ hkeys]
  have hbefore : dget (R.LANE_RETRAINS lane) (modLane lane (fun l => { l with cleanFrom := none, errs := [] }) (retraining lane cause d)) =
      dget (R.LANE_RETRAINS lane) d := seb_dict (ks := []) (only_retraining lane cause d .dict (by decide)) _ (by simp)
  exact (dget_bump_same _ _).trans (by rw [hbefore])

/-- A retrain of a lane that the part has begins as Table 3.6 says. -/
theorem retrainBegun_retrain {lane : Nat} (hl : lane < 64) (cause : Nat) {d : Dev} (h : dget (R.LANE_RETRAINS lane) d < 3) :
    RetrainBegun lane cause d (retrain lane cause d) := by
  rw [retrain_eq cause h]
  have hparts : ChangesOnly [.dict, .host, .flt] (retrainShown lane cause d) (report 0x1141 lane cause (retrainShown lane cause d)) :=
    only_report (by decide) _ _ _
  have hget : ∀ r : Reg, r.key < 0x480000 → dget r (report 0x1141 lane cause (retrainShown lane cause d)) = dget r (retrainShown lane cause d) :=
    fun r hr => dget_report (by decide) _ _ _ r (notMem_reportKeys_of_lt hr)
  have hport : ∀ q, portOf (report 0x1141 lane cause (retrainShown lane cause d)) q = portOf (retraining lane cause d) q := fun q => by
    rw [portOf_report _ _ _ _ (by decide), retrainShown, portOf_setFe, portOf_setLanes, portOf_retrainCounted]
  have hlane : ∀ l, laneOf (report 0x1141 lane cause (retrainShown lane cause d)) l = laneOf (retrainCounted lane cause d) l := fun l => by
    rw [laneOf_report _ _ _ _ (by decide), retrainShown, laneOf_setFe, laneOf_setLanes]
  have hnow : (report 0x1141 lane cause (retrainShown lane cause d)).now = d.now :=
    (hparts .now (by decide)).trans (only_retrainShown lane cause d .now (by decide))
  have hchans : (report 0x1141 lane cause (retrainShown lane cause d)).chans = (absent (lane / 4) (invalidNow (lane / 4) d)).chans :=
    (hparts .chans (by decide)).trans (((only_setLanes _ _ _).trans (only_setFe _ _ _) .chans (by decide)).trans
      (((only_modLane _ _ _).then (only_bump _ _) (rs := [.lanes, .dict]) (by decide) (by decide)) .chans (by decide)))
  refine ⟨?retrains, ?fe, ?port, ?ports, ?thisLane, ?otherLanes, ?states, ?code, ?gone⟩
  case retrains => rw [hget _ (by simp only [R.LANE_RETRAINS]; omega), retrains_retrainShown hl]
  case fe => rw [hget _ (by simp only [R.FE_STATE]; omega)]; exact dget_setFe _ _ _
  case port => rw [hport, portOf_retraining, if_pos rfl, hnow]
  case ports => intro q hq; rw [hport, portOf_retraining, if_neg hq]
  case thisLane => rw [hlane]; exact (laneOf_retrainCounted _ _ _ _).trans (if_pos rfl)
  case otherLanes => intro l hne; rw [hlane, laneOf_retrainCounted, if_neg hne]
  case states => intro i hi hp; rw [hget _ (by simp only [R.LANE_STATE]; omega), laneState_retrainShown hl hi cause hp]
  case code => exact fun hu => lastCode_report (by decide) _ _ _ ((report_undef _ _ _ (by decide)).symm.trans hu)
  case gone =>
    have hgone : ChannelsGone (lane / 4) (invalidNow (lane / 4) d) (absent (lane / 4) (invalidNow (lane / 4) d)) := channelsGone_absent _ _
    have hback : ∀ c, chanOf (invalidNow (lane / 4) d) c = chanOf d c := fun c => by
      unfold chanOf; rw [only_invalidNow _ d .chans (by decide)]
    refine channelsGone_of_chans ⟨fun c w x hc hx => hgone.1 c w x hc ?_, fun c hc => (hgone.2 c hc).trans (hback c)⟩ hchans
    rw [hnow] at hx
    rw [invalidNow_now]
    exact hx

theorem only_retrain {lane : Nat} (cause : Nat) {d : Dev} (h : dget (R.LANE_RETRAINS lane) d < 3) :
    ChangesOnly [.dict, .ports, .lanes, .chans, .frames, .host, .flt] d (retrain lane cause d) := by
  rw [retrain_eq cause h]
  exact (only_retrainShown lane cause d).then (only_report (by decide) _ _ _) (by decide) (by decide)

theorem seb_retrain {lane : Nat} (cause : Nat) {d : Dev} (h : dget (R.LANE_RETRAINS lane) d < 3) :
    SameEntriesBut (retrainKeys lane) d (retrain lane cause d) := by
  rw [retrain_eq cause h]
  refine ((seb_retrainCounted lane cause d).mono ?_).trans (((seb_retrainShown lane cause d).mono ?_).trans
    ((seb_report (by decide) _ _ _).mono ?_))
  · simp [retrainKeys]
  · intro k hk; simp only [retrainKeys, List.mem_append, List.mem_cons] at hk ⊢; tauto
  · intro k hk; simp only [retrainKeys, List.mem_append, List.mem_cons]; tauto

theorem retrainBegun_of_advTo {lane cause t : Nat} {a d : Dev} (h : RetrainBegun lane cause (advTo t a) d) : RetrainBegun lane cause a d := by
  have hused : ∀ i, laneUsed (advTo t a) (lane / 4) i = laneUsed a (lane / 4) i := fun i => by
    unfold laneUsed linkLane; rw [dget_advTo, portOf_advTo]
  have hchan : ∀ c, chanOf { advTo t a with now := d.now } c = chanOf { a with now := d.now } c := fun _ => rfl
  obtain ⟨hretrains, hfe, hport, hports, hlane, hlanes, hstates, hcode, hgone, hother⟩ := h
  simp only [dget_advTo, portOf_advTo, laneOf_advTo, hused, hchan] at hretrains hport hports hlane hlanes hstates hother
  exact ⟨hretrains, hfe, hport, hports, hlane, hlanes, hstates, hcode, hgone, hother⟩

/-- What O2 says of an attempt that times out holds where the lane is one that the part has. -/
theorem retrainTimeout_begins_retrain {p t lane cause : Nat} {s : State} (hp : p < 16) (hl : lane < 64)
    (ht : (portOf s.dev p).retrainAt = some t) (hlane : (portOf s.dev p).retrainLane = lane) (hcause : (portOf s.dev p).retrainCause = cause)
    (h : dget (R.LANE_RETRAINS lane) s.dev < 3) :
    Completes (exec (.retrainTimeout p) s) s fun d =>
      RetrainBegun lane cause s.dev d ∧ d.now = max (t + 10 * acPerMs + sysrefPeriod s.dev p) s.dev.now ∧
      SameEntriesBut (retrainKeys lane) s.dev d ∧ ChangesOnly [.now, .time, .dict, .ports, .lanes, .chans, .frames, .host, .flt] s.dev d := by
  refine ⟨_, run_ok (by simpa using hp), ?_⟩
  have heq : retrainTimeout p s.dev = retrain lane cause (advTo (t + 10 * acPerMs + sysrefPeriod s.dev p) s.dev) := by
    simp only [retrainTimeout, ht, hlane, hcause]
  rw [heq]
  have hadv : dget (R.LANE_RETRAINS lane) (advTo (t + 10 * acPerMs + sysrefPeriod s.dev p) s.dev) < 3 := by
    rw [dget_advTo]; exact h
  have hnow := only_retrain cause hadv .now (by decide)
  have hsame : SameEntriesBut (retrainKeys lane) s.dev (advTo (t + 10 * acPerMs + sysrefPeriod s.dev p) s.dev) := seb_dict (advTo_dict _ _)
  exact ⟨retrainBegun_of_advTo (retrainBegun_retrain hl cause hadv), hnow.trans (advTo_now _ _), hsame.trans (seb_retrain cause hadv),
    (only_advTo _ _).then (only_retrain cause hadv) (by decide) (by decide)⟩

/-! ### The refutation of O2 -/

/-- A port whose attempt at a retrain is for lane 2620417: no state that the part reaches, but one of the state type, over which O2
speaks. -/
def retrainingStrayLane : State := { State.reset with dev := { Dev.reset with
  ports := [(0, { Port.rest with retrainAt := some 0, retrainLane := 2620417, retrainCause := 2 })] } }

/-- LANE_RETRAINS of that lane would have the number of LAST_FAULT_CODE. -/
theorem laneRetrains_strayLane : R.LANE_RETRAINS 2620417 = R.LAST_FAULT_CODE := by
  simp [R.LANE_RETRAINS, R.LAST_FAULT_CODE]

/-- The report of the retrain leaves its code where the count of attempts is read. -/
theorem retrainTimeout_strayLane : dget (R.LANE_RETRAINS 2620417) (retrainTimeout 0 retrainingStrayLane.dev) = 0x1141 := by
  rw [laneRetrains_strayLane]
  decide +kernel

/-- Refutes O2: its clause on RETRAIN_TIMEOUT claims in every state that the attempt is counted in LANE_RETRAINS of the port's retrain
lane, and where that lane is beyond the 64 of Table 3.6, which no hypothesis keeps out, the report of the retrain overwrites the
count (`retrainTimeout_begins_retrain` gives the clause for lanes in range). -/
theorem not_laneErrorsRetrain : ¬ Obligations.LaneErrorsRetrain := by
  unfold Obligations.LaneErrorsRetrain
  rintro ⟨-, -, -, -, htimeout, -⟩
  obtain ⟨d, hd, ⟨hcount, -⟩, -⟩ := htimeout 0 0 2620417 2 retrainingStrayLane (by decide) rfl rfl rfl (by decide +kernel)
  have hdev : d = retrainTimeout 0 retrainingStrayLane.dev := by
    have hnext : Host.Outcome.next (φ := Fault) (ρ := Refusal) { retrainingStrayLane with dev := retrainTimeout 0 retrainingStrayLane.dev } =
        .next { retrainingStrayLane with dev := d } := hd
    injection hnext with hstate
    exact (congrArg State.dev hstate).symm
  have hbefore : dget (R.LANE_RETRAINS 2620417) retrainingStrayLane.dev = 0 := by decide +kernel
  rw [hdev, retrainTimeout_strayLane, hbefore] at hcount
  exact absurd hcount (by decide)

end Sys2Proof.Machine
end

section
/-! SUPPORT. SYSREF edges, the relock, edge inputs and parity errors of channels (chapters 2 to 4), and what settles O5. -/

namespace Sys2Proof.Machine

/-! ### A SYSREF edge while the grid runs (R38, R58, R62) -/

/-- The edge as its port takes it. -/
def edgeTaken (p t : Nat) (m : Int) (d : Dev) : Dev :=
  sysrefMargin p m (alignPort p t (offGrid p t (sysrefSeen p t (advTo t d))))

theorem only_sysrefSeen (p t : Nat) (d : Dev) : ChangesOnly [.ports] d (sysrefSeen p t d) := only_modPort _ _ _

theorem only_alignPort (p t : Nat) (d : Dev) : ChangesOnly [.ports] d (alignPort p t d) := by
  unfold alignPort
  exact ChangesOnly.ite (only_modPort _ _ _) (ChangesOnly.refl _ _)

theorem offGrid_of_grid {p t : Nat} {d : Dev} (h : (t - d.grid.edge) % 24 = 0) : offGrid p t d = d := by simp [offGrid, h]

theorem only_offGrid (p t : Nat) (d : Dev) : ChangesOnly [.dict, .host, .flt] d (offGrid p t d) := by
  unfold offGrid
  exact ChangesOnly.ite (ChangesOnly.refl _ _) ((only_bump _ _).then (only_reportLim (by decide) _ _ _ _ _) (by decide) (by decide))

theorem seb_offGrid (p t : Nat) (d : Dev) : SameEntriesBut (R.SYSREF_MISPLACED.key :: reportKeys) d (offGrid p t d) := by
  unfold offGrid
  exact seb_ite (seb_refl _ _) ((seb_bump (by simp) _).trans ((seb_reportLim (by decide) _ _ _ _ _).mono (by simp)))

theorem only_sysrefMargin (p : Nat) (m : Int) (d : Dev) : ChangesOnly [.ports, .dict] d (sysrefMargin p m d) :=
  (only_setPort _ _ _).then (only_dset _ _ _) (by decide) (by decide)

theorem seb_sysrefMargin (p : Nat) (m : Int) (d : Dev) : SameEntriesBut [(R.SYSREF_PHASE_MARGIN p).key] d (sysrefMargin p m d) :=
  SameEntriesBut.trans (seb_dict rfl) (seb_dset (by simp) _ _)

/-- What comes before the margin is taken leaves the port's state, the arming and the clock reference as they were. -/
theorem seb_alignedEdge (p t : Nat) (d : Dev) :
    SameEntriesBut (R.SYSREF_MISPLACED.key :: reportKeys) d (alignPort p t (offGrid p t (sysrefSeen p t (advTo t d)))) :=
  SameEntriesBut.trans (seb_dict (advTo_dict t d)) ((seb_dict (only_sysrefSeen p t _ .dict (by decide))).trans
    ((seb_offGrid p t _).trans (seb_dict (only_alignPort p t _ .dict (by decide)))))

theorem only_alignedEdge (p t : Nat) (d : Dev) :
    ChangesOnly [.now, .time, .dict, .ports, .host, .flt] d (alignPort p t (offGrid p t (sysrefSeen p t (advTo t d)))) :=
  (only_advTo t d).then ((only_sysrefSeen p t _).then ((only_offGrid p t _).then (only_alignPort p t _)
    (rs := [.dict, .host, .flt, .ports]) (by decide) (by decide)) (rs := [.dict, .host, .flt, .ports]) (by decide) (by decide))
    (by decide) (by decide)

theorem seb_edgeTaken (p t : Nat) (m : Int) (d : Dev) :
    SameEntriesBut (R.SYSREF_MISPLACED.key :: (R.SYSREF_PHASE_MARGIN p).key :: reportKeys) d (edgeTaken p t m d) :=
  ((seb_alignedEdge p t d).mono (by simp)).trans ((seb_sysrefMargin p m _).mono (by simp))

theorem only_edgeTaken (p t : Nat) (m : Int) (d : Dev) :
    ChangesOnly [.now, .time, .dict, .ports, .host, .flt] d (edgeTaken p t m d) :=
  (only_alignedEdge p t d).then (only_sysrefMargin p m _) (by decide) (by decide)

theorem arrayState_of_running {d : Dev} (h : running d = true) : arrayState d = 2 := by
  simp only [running, Bool.and_eq_true, decide_eq_true_eq] at h
  exact h.1

/-- With the grid running an edge is taken, and that of the reference port is kept as the last one. -/
theorem sysrefEdge_running {p t : Nat} (m : Int) {d : Dev} (h : running d = true) :
    sysrefEdge p t m d = if p = dget R.CLOCK_REF_PORT d then
      { edgeTaken p t m d with pll := { d.pll with lastEdge := some t } } else edgeTaken p t m d := by
  have hseen : SameEntriesBut [] d (sysrefSeen p t (advTo t d)) := seb_dict rfl
  have hstate : ¬ arrayState (sysrefSeen p t (advTo t d)) = 1 := by
    have hsame : arrayState (sysrefSeen p t (advTo t d)) = arrayState d := hseen R.ARRAY_STATE (by simp)
    rw [hsame, arrayState_of_running h]; decide
  have hrun : running (sysrefSeen p t (advTo t d)) = true := (running_congr (hseen _ (by simp)) rfl).trans h
  have hrun' : running (alignPort p t (offGrid p t (sysrefSeen p t (advTo t d)))) = true :=
    (running_congr (seb_alignedEdge p t d _ (by decide)) (only_alignedEdge p t d .grid (by decide))).trans h
  have href : dget R.CLOCK_REF_PORT (sysrefSeen p t (advTo t d)) = dget R.CLOCK_REF_PORT d := hseen _ (by simp)
  have hpll : (edgeTaken p t m d).pll = d.pll := only_edgeTaken p t m d .pll (by decide)
  simp only [sysrefEdge, if_neg hstate, hrun, hrun', if_true, href, decide_eq_true_eq, ← hpll]
  rfl

/-- What an edge leaves of the dictionary, and which parts it may write. -/
theorem seb_sysrefEdge {p t : Nat} {m : Int} {d : Dev} {ks : List Nat} (h : running d = true)
    (hs : SameEntriesBut ks d (edgeTaken p t m d)) : SameEntriesBut ks d (sysrefEdge p t m d) := by
  rw [sysrefEdge_running m h]
  exact seb_ite (hs.trans (seb_dict rfl)) hs

theorem only_pll (x : Pll) (d : Dev) : ChangesOnly [.pll] d { d with pll := x } :=
  fun p hp => by cases p <;> first | exact absurd (by decide) hp | rfl

theorem only_sysrefEdge {p t : Nat} {m : Int} {d : Dev} {ps : List Part} (h : running d = true) (hs : ChangesOnly ps d (edgeTaken p t m d)) :
    ChangesOnly (.pll :: ps) d (sysrefEdge p t m d) := by
  rw [sysrefEdge_running m h]
  exact ChangesOnly.ite (hs.then (only_pll _ _) (by simp) (by simp)) (hs.mono (by simp))

theorem portOf_sysrefEdge {p t : Nat} {m : Int} {d : Dev} (h : running d = true) (q : Nat) :
    portOf (sysrefEdge p t m d) q = portOf (edgeTaken p t m d) q := by
  rw [sysrefEdge_running m h]; split <;> rfl

/-- The port of an edge that lies on the grid and aligns it, with no margin taken yet since the arming. -/
theorem portOf_edgeTaken_aligning {p t : Nat} {m : Int} {d : Dev} (hfe : dget (R.FE_STATE p) d = 5)
    (hfrom : (portOf d p).presentFrom = none) (hphase : (portOf d p).phase = none) (hgrid : (t - d.grid.edge) % 24 = 0) :
    portOf (edgeTaken p t m d) p = { portOf (sysrefSeen p t d) p with
      presentFrom := some ((t - d.grid.b0 + fLen d - 1) / fLen d), phase := some m } ∧
    dget (R.SYSREF_PHASE_MARGIN p) (edgeTaken p t m d) = unsgn 8 m := by
  have hoff : offGrid p t (sysrefSeen p t (advTo t d)) = sysrefSeen p t (advTo t d) := offGrid_of_grid hgrid
  have hport : portOf (sysrefSeen p t (advTo t d)) p = portOf (sysrefSeen p t d) p := by
    unfold sysrefSeen; rw [portOf_modPort_same, portOf_modPort_same, portOf_advTo]
  have hfrom' : (portOf (sysrefSeen p t d) p).presentFrom = none := by unfold sysrefSeen; rw [portOf_modPort_same]; exact hfrom
  have hphase' : (portOf (sysrefSeen p t d) p).phase = none := by unfold sysrefSeen; rw [portOf_modPort_same]; exact hphase
  have hfe' : dget (R.FE_STATE p) (sysrefSeen p t (advTo t d)) = 5 := hfe
  have halign : alignPort p t (sysrefSeen p t (advTo t d)) =
      modPort p (fun x => { x with presentFrom := some ((t - d.grid.b0 + fLen d - 1) / fLen d) }) (sysrefSeen p t (advTo t d)) :=
    if_pos ⟨hfe', by rw [hport, hfrom']⟩
  unfold edgeTaken
  rw [hoff, halign]
  refine ⟨?_, ?_⟩
  · unfold sysrefMargin
    simp only [portOf_dset, portOf_setPort_same, portOf_modPort_same, hport, hphase']
  · unfold sysrefMargin
    simp only [portOf_modPort_same, hport, hphase']
    exact dget_dset_same _ _ _

theorem portOf_edgeTaken_ne {p q t : Nat} {m : Int} {d : Dev} (h : q ≠ p) : portOf (edgeTaken p t m d) q = portOf d q := by
  have hseen : portOf (sysrefSeen p t (advTo t d)) q = portOf d q := by
    unfold sysrefSeen; rw [portOf_modPort_ne _ _ (Ne.symm h), portOf_advTo]
  have hoff : portOf (offGrid p t (sysrefSeen p t (advTo t d))) q = portOf d q := by
    rw [← hseen]; unfold portOf; rw [only_offGrid p t _ .ports (by decide)]
  have halign : portOf (alignPort p t (offGrid p t (sysrefSeen p t (advTo t d)))) q = portOf d q := by
    rw [← hoff]; unfold alignPort; split
    · exact portOf_modPort_ne _ _ (Ne.symm h)
    · rfl
  rw [← halign]
  exact portOf_setPort_ne _ _ (Ne.symm h)

/-- An edge off the grid is counted and reported (R38). -/
theorem edgeTaken_offGrid {p t : Nat} {m : Int} {d : Dev} (hp : p < 16) (hgrid : (t - d.grid.edge) % 24 ≠ 0) :
    dget R.SYSREF_MISPLACED (edgeTaken p t m d) = satAdd32 (dget R.SYSREF_MISPLACED d) 1 ∧ LastFault 0x0181 (edgeTaken p t m d) := by
  have hoff : offGrid p t (sysrefSeen p t (advTo t d)) =
      reportLim acPerS p 0x0181 p ((t - d.grid.edge) % 24) (bump R.SYSREF_MISPLACED (sysrefSeen p t (advTo t d))) := if_neg hgrid
  have hback : ∀ r : Reg, r.key ≠ (R.SYSREF_PHASE_MARGIN p).key →
      dget r (edgeTaken p t m d) = dget r (offGrid p t (sysrefSeen p t (advTo t d))) := fun r hr =>
    (seb_sysrefMargin p m _ r (by simpa using hr)).trans
      (seb_dict (ks := []) (only_alignPort p t _ .dict (by decide)) r (by simp))
  refine ⟨?_, fun hu => ?_⟩
  · rw [hback _ (by simp only [R.SYSREF_MISPLACED, R.SYSREF_PHASE_MARGIN]; omega), hoff, dget_reportLim (by decide) _ _ _ _ _ _ (by decide),
      dget_bump_same]
    rfl
  · have hundef : (offGrid p t (sysrefSeen p t (advTo t d))).undef = false := by
      have hsame : ((edgeTaken p t m d).undef, (edgeTaken p t m d).undefNew) =
          ((offGrid p t (sysrefSeen p t (advTo t d))).undef, (offGrid p t (sysrefSeen p t (advTo t d))).undefNew) :=
        ((only_alignPort p t _).then (only_sysrefMargin p m _) (rs := [.ports, .dict]) (by decide) (by decide)) .undef (by decide)
      exact (congrArg Prod.fst hsame).symm.trans hu
    rw [hback _ (by simp only [R.LAST_FAULT_CODE, R.SYSREF_PHASE_MARGIN]; omega), hoff]
    rw [hoff, reportLim_undef _ _ _ _ _ (by decide)] at hundef
    exact lastCode_reportLim (by decide) _ _ _ _ _ hundef

/-! ### Edge inputs (R98, R99, R249) -/

/-- The edge is one that EDGE_CONFIG selects. -/
theorem edge_selected {k : Nat} {rising : Bool} {d : Dev} (h : dget (R.EDGE_CONFIG k) d = (if rising then 1 else 2) ∨ dget (R.EDGE_CONFIG k) d = 3) :
    (if rising then decide (dget (R.EDGE_CONFIG k) d = 1 ∨ dget (R.EDGE_CONFIG k) d = 3)
      else decide (dget (R.EDGE_CONFIG k) d = 2 ∨ dget (R.EDGE_CONFIG k) d = 3)) = true := by
  cases rising <;> simpa using h

/-- The frame in which an instant in 1/256 ac lies, and its condition: the ac at which it counts, its frame, its offset from B, and whether
the TDC was calibrated. -/
def edgeFrame (t : Nat) (d : Dev) : Nat := (t - d.grid.b0 * 256) / (fLen d * 256)
def edgeRise (k t : Nat) (d : Dev) : Rise :=
  ⟨t / 256 + 64 + dget (R.EDGE_DELAY k) d, edgeFrame t d,
    (t : Int) - ((d.grid.b0 * 256 + edgeFrame t d * (fLen d * 256) : Nat) : Int), decide (dget R.TDC_CAL_STATE d = 1), false⟩

/-- An edge input takes a new value once the time of its edge has come. -/
def putEdge (k t : Nat) (e : EdgeIn) (d : Dev) : Dev := { advTo (t / 256) d with edges := tset EdgeIn.rest d.edges k e }

theorem only_putEdge (k t : Nat) (e : EdgeIn) (d : Dev) : ChangesOnly [.now, .time, .edges] d (putEdge k t e d) :=
  (only_advTo (t / 256) d).then (fun p hp => by cases p <;> first | exact absurd (by decide) hp | rfl : ChangesOnly [.edges] _ (putEdge k t e d))
    (by decide) (by decide)

theorem tget_putEdge_same (k t : Nat) (e : EdgeIn) (d : Dev) : tget EdgeIn.rest (putEdge k t e d).edges k = e := tget_tset_same _ _ _ _

theorem tget_putEdge_ne {j k : Nat} (h : j ≠ k) (t : Nat) (e : EdgeIn) (d : Dev) :
    tget EdgeIn.rest (putEdge k t e d).edges j = tget EdgeIn.rest d.edges j := tget_tset_ne _ _ _ _ (Ne.symm h)

section Edge

variable {k t : Nat} {rising : Bool} {d : Dev}
variable (hrun : running d = true) (hedge : d.grid.edge ≤ t / 256)
variable (hcfg : dget (R.EDGE_CONFIG k) d = (if rising then 1 else 2) ∨ dget (R.EDGE_CONFIG k) d = 3)
include hrun hedge hcfg

theorem edgeInput_apart (hfar : ∀ u, (tget EdgeIn.rest d.edges k).lastAt = some u → 1024 ≤ t - u) :
    edgeInput k rising t d = if (frameOf d (edgeFrame t d)).paused then
      putEdge k t { tget EdgeIn.rest d.edges k with lastAt := some t, close := false } d
    else putEdge k t { tget EdgeIn.rest d.edges k with
      lastAt := some t, close := false
      bits := ((edgeRise k t d).seen :: (tget EdgeIn.rest d.edges k).bits).take 4096
      rises := (edgeRise k t d :: (tget EdgeIn.rest d.edges k).rises).take 4096
      origin := if edgeAt (tget EdgeIn.rest d.edges k).bits (dget (R.EDGE_WINDOW k) d) ((edgeRise k t d).seen - 1)
        then (tget EdgeIn.rest d.edges k).origin else some (edgeRise k t d) } d := by
  have hlate : ¬ t / 256 < d.grid.edge := by omega
  rcases hlast : (tget EdgeIn.rest d.edges k).lastAt with _ | u
  · simp only [edgeInput, edge_selected hcfg, hrun, hlate, hlast, Bool.not_true, Bool.or_false, decide_false, Bool.false_and,
      Bool.false_eq_true, if_false]
    rfl
  · have hnear : ¬ t - u < 1024 := Nat.not_lt.2 (hfar u hlast)
    simp only [edgeInput, edge_selected hcfg, hrun, hlate, hlast, hnear, Bool.not_true, Bool.or_false, decide_false, Bool.false_and,
      Bool.false_eq_true, if_false]
    rfl

theorem edgeInput_merged {u : Nat} (hlast : (tget EdgeIn.rest d.edges k).lastAt = some u) (hnear : t - u < 1024)
    (hclose : (tget EdgeIn.rest d.edges k).close = true) : edgeInput k rising t d = bump (R.EDGE_MERGED k) d := by
  have hlate : ¬ t / 256 < d.grid.edge := by omega
  simp only [edgeInput, edge_selected hcfg, hrun, hlate, hlast, hnear, hclose, Bool.not_true, Bool.or_false, decide_false,
    decide_true, Bool.and_self, Bool.false_eq_true, if_false, if_true]

end Edge

/-! ### Parity errors of a channel (R434) -/

/-- The channel with the error added to those of the last second. -/
def parityChan (c : Nat) (d : Dev) : Chan :=
  { chanOf d c with
    parityAt := d.now :: (chanOf d c).parityAt.filter (fun t => decide (d.now - t < acPerS))
    clearDue := true
    retired := decide (3 ≤ ((chanOf d c).parityAt.filter (fun t => decide (d.now - t < acPerS))).length + 1) }

/-- The frame in progress is INVALID if its context uses the channel. -/
def parityFrame (c : Nat) (d : Dev) : Dev :=
  match frameNow d with
  | some n => if delivered d c n && usesChan d (ctxOf d n) c then invalidate n d else d
  | none => d

theorem only_parityFrame (c : Nat) (d : Dev) : ChangesOnly [.frames] d (parityFrame c d) := by
  unfold parityFrame
  split
  · exact ChangesOnly.ite (only_invalidate _ _) (ChangesOnly.refl _ _)
  · exact ChangesOnly.refl _ _

/-- The channel is written, and, where this error retires it, absent. -/
def parityTaken (c : Nat) (d : Dev) : Dev :=
  setChan c (if (parityChan c d).retired then chanGone d.now (parityChan c d) else parityChan c d) (parityFrame c d)

theorem only_setChan (c : Nat) (x : Chan) (d : Dev) : ChangesOnly [.chans] d (setChan c x d) :=
  fun p hp => by cases p <;> first | exact absurd (by decide) hp | rfl

theorem condParityError_eq {c kind : Nat} {d : Dev} (h : (chanOf d c).retired = false) :
    condParityError c kind d =
      if (parityChan c d).retired then report 0x21C2 c 0 (report 0x11C1 c kind (parityTaken c d))
      else report 0x11C1 c kind (parityTaken c d) := by
  have hnow : ∀ n, (invalidate n d).now = d.now := fun n => invalidate_now n d
  rcases hf : frameNow d with _ | n
  · simp only [condParityError, parityTaken, parityFrame, hf, h, Bool.false_eq_true, if_false]
    rfl
  · simp only [condParityError, parityTaken, parityFrame, hf, h, Bool.false_eq_true, if_false]
    split
    · simp only [hnow]
      rfl
    · rfl

theorem only_parityTaken (c : Nat) (d : Dev) : ChangesOnly [.frames, .chans] d (parityTaken c d) :=
  (only_parityFrame c d).then (only_setChan _ _ _) (by decide) (by decide)

theorem reportedTwice (c kind : Nat) (b : Bool) (d : Dev) :
    ChangesOnly [.dict, .host, .flt] d (if b then report 0x21C2 c 0 (report 0x11C1 c kind d) else report 0x11C1 c kind d) ∧
    SameEntriesBut reportKeys d (if b then report 0x21C2 c 0 (report 0x11C1 c kind d) else report 0x11C1 c kind d) := by
  have honly := only_report (c := 0x11C1) (by decide) c kind d
  have hseb := seb_report (c := 0x11C1) (by decide) c kind d
  exact ⟨ChangesOnly.ite (honly.trans (only_report (by decide) _ _ _)) honly, seb_ite (hseb.trans (seb_report (by decide) _ _ _)) hseb⟩

theorem flags_chanGone (t : Nat) (c : Chan) : (chanGone t c).flags.head? = some (t, false) ∧ (chanGone t c).cmps = 0 := ⟨rfl, rfl⟩

theorem chanOf_parityTaken (c : Nat) (d : Dev) :
    (chanOf (parityTaken c d) c).clearDue = true ∧ (chanOf (parityTaken c d) c).retired = (parityChan c d).retired ∧
    ((parityChan c d).retired = true →
      (chanOf (parityTaken c d) c).flags.head? = some (d.now, false) ∧ (chanOf (parityTaken c d) c).cmps = 0) ∧
    ∀ k, k ≠ c → chanOf (parityTaken c d) k = chanOf d k := by
  have hother : ∀ k, k ≠ c → chanOf (parityTaken c d) k = chanOf d k := fun k hk => by
    unfold parityTaken
    rw [chanOf_setChan_ne _ _ (Ne.symm hk)]
    unfold chanOf; rw [only_parityFrame c d .chans (by decide)]
  have hself : chanOf (parityTaken c d) c = if (parityChan c d).retired then chanGone d.now (parityChan c d) else parityChan c d :=
    chanOf_setChan_same _ _ _
  rw [hself]
  split
  case isTrue h => exact ⟨rfl, rfl, fun _ => flags_chanGone _ _, hother⟩
  case isFalse h => exact ⟨rfl, rfl, fun h' => absurd h' h, hother⟩

theorem completes_sysrefEdge {p t : Nat} {m : Int} {s : State} {P : Dev → Prop} (hp : p < 16) (hlo : -128 ≤ m) (hhi : m < 128)
    (h : P (sysrefEdge p t m s.dev)) : Completes (exec (.sysrefEdge p t m) s) s P :=
  ⟨_, run_ok (by simp [hp, hlo, hhi]), h⟩

theorem completes_edgeInput {k t : Nat} {rising : Bool} {s : State} {P : Dev → Prop} (hk : k < 32) (h : P (edgeInput k rising t s.dev)) :
    Completes (exec (.edgeInput k rising t) s) s P :=
  ⟨_, run_ok (by simpa using hk), h⟩

theorem exec_tdcCalTable {die : Nat} (h : die < 2) (s : State) : exec (.tdcCalTable die) s =
    .next { s with dev := { s.dev with pll := { s.dev.pll with calDue := setBit s.dev.pll.calDue die true } } } :=
  run_ok (ok := decide (die < 2)) (f := fun d => { d with pll := { d.pll with calDue := setBit d.pll.calDue die true } }) (by simpa using h)

/-- Settles O5: `sysrefEdge_running`, `edgeInput_apart`, `edgeInput_merged` and `condParityError_eq` say what each command comes to. -/
theorem clocksAndEdges : Obligations.ClocksAndEdges := by
  refine ⟨?aligned, ?misplaced, ?relocked, ?noReference, ?tdcTable, ?timed, ?pausedEdge, ?merged, ?unselected, ?retired, ?parity⟩
  case aligned =>
    intro p t m s hp hlo hhi hrun hfe hfrom hphase hgrid
    obtain ⟨hport, hmargin⟩ := portOf_edgeTaken_aligning (m := m) hfe hfrom hphase hgrid
    have hoff : offGrid p t (sysrefSeen p t (advTo t s.dev)) = sysrefSeen p t (advTo t s.dev) := offGrid_of_grid hgrid
    have honly : ChangesOnly [.now, .time, .dict, .ports] s.dev (edgeTaken p t m s.dev) := by
      unfold edgeTaken
      rw [hoff]
      exact (only_advTo t _).then ((only_sysrefSeen p t _).then ((only_alignPort p t _).then (only_sysrefMargin p m _)
        (rs := [.ports, .dict]) (by decide) (by decide)) (rs := [.ports, .dict]) (by decide) (by decide)) (by decide) (by decide)
    have hseb : SameEntriesBut [(R.SYSREF_PHASE_MARGIN p).key] s.dev (edgeTaken p t m s.dev) := by
      unfold edgeTaken
      rw [hoff]
      have hkept : SameEntriesBut [(R.SYSREF_PHASE_MARGIN p).key] s.dev (alignPort p t (sysrefSeen p t (advTo t s.dev))) :=
        (seb_dict (a := s.dev) (b := sysrefSeen p t (advTo t s.dev)) rfl).trans (seb_dict (only_alignPort p t _ .dict (by decide)))
      exact hkept.trans (seb_sysrefMargin p m _)
    have hp' : portOf (sysrefEdge p t m s.dev) p = _ := (portOf_sysrefEdge hrun p).trans hport
    have hseen : portOf (sysrefSeen p t s.dev) p = _ := portOf_modPort_same p _ s.dev
    refine completes_sysrefEdge hp hlo hhi ⟨by rw [hp'], by rw [hp'], ?_, ?_, fun href => ?_, fun q hq => ?_, ?_, fun u hu hlt hper => ?_,
      seb_sysrefEdge hrun hseb, (only_sysrefEdge hrun honly).mono (by decide)⟩
    · rw [← hmargin, sysrefEdge_running m hrun]; split <;> rfl
    · have hnow : (edgeTaken p t m s.dev).now = max t s.dev.now := by unfold edgeTaken; rw [hoff]; unfold alignPort; split <;> rfl
      rw [← hnow, sysrefEdge_running m hrun]; split <;> rfl
    · rw [sysrefEdge_running m hrun, if_pos href]
    · rw [portOf_sysrefEdge hrun, portOf_edgeTaken_ne hq]
    · rw [hp', hseen]
    · rw [sysrefPeriod, hp', hseen]
      simp only [hu, hper, if_neg (Nat.not_le.2 hlt), if_true]
  case misplaced =>
    intro p t m s hp hlo hhi hrun hgrid
    obtain ⟨hcount, hcode⟩ := edgeTaken_offGrid (m := m) hp hgrid
    refine completes_sysrefEdge hp hlo hhi ⟨?_, ?_, seb_sysrefEdge hrun (seb_edgeTaken p t m _),
      (only_sysrefEdge hrun (only_edgeTaken p t m _)).mono (by decide)⟩
    · rw [← hcount, sysrefEdge_running m hrun]; split <;> rfl
    · rw [sysrefEdge_running m hrun]; split <;> exact hcode
  case relocked =>
    intro s href
    refine ⟨clockRelockDone s.dev, rfl, ?_⟩
    rw [clockRelockDone, if_neg href]
    exact ⟨dget_dset_same _ _ _, rfl, SameEntriesBut.trans (seb_dict rfl) (seb_dset (by simp) _ _),
      (only_pll _ _).then (only_dset _ _ _) (by decide) (by decide)⟩
  case noReference =>
    intro s href
    have heq : clockRelockDone s.dev = s.dev := if_pos href
    show Host.Outcome.next { s with dev := clockRelockDone s.dev } = _
    rw [heq]
  case tdcTable =>
    intro die s hdie
    exact ⟨_, exec_tdcCalTable hdie s, rfl, only_pll _ _⟩
  case timed =>
    intro k t rising s hk hrun hedge hcfg hfar hrunFrame
    refine completes_edgeInput hk ?_
    rw [edgeInput_apart hrun hedge hcfg hfar, if_neg (by rw [edgeFrame, hrunFrame]; decide)]
    refine ⟨?_, ?_, ?_, ?_, ?_, ?_, ?_, rfl, fun j hj => tget_putEdge_ne hj _ _ _, only_putEdge _ _ _ _⟩ <;>
      rw [tget_putEdge_same] <;> rfl
  case pausedEdge =>
    intro k t rising s hk hrun hedge hcfg hfar hpaused
    refine completes_edgeInput hk ?_
    rw [edgeInput_apart hrun hedge hcfg hfar, if_pos (by rw [edgeFrame, hpaused])]
    exact ⟨tget_putEdge_same _ _ _ _, fun j hj => tget_putEdge_ne hj _ _ _, only_putEdge _ _ _ _⟩
  case merged =>
    intro k t u rising s hk hrun hedge hcfg hlast hnear hclose
    refine completes_edgeInput hk ?_
    rw [edgeInput_merged hrun hedge hcfg hlast hnear hclose]
    exact ⟨dget_bump_same _ _, seb_bump (by simp) _, only_bump _ _⟩
  case unselected =>
    intro k t rising s hk hcfg
    have heq : edgeInput k rising t s.dev = s.dev := by cases rising <;> simp [edgeInput, hcfg]
    show execEdgeInput k rising t s = _
    rw [execEdgeInput, run_ok (by simpa using hk), heq]
  case retired =>
    intro c kind s hc hkind hret
    have heq : condParityError c kind s.dev = s.dev := if_pos hret
    show execCondParityError c kind s = _
    rw [execCondParityError, run_ok (by simp [hc, hkind]), heq]
  case parity =>
    intro c kind s hc hkind hret
    refine ⟨condParityError c kind s.dev, run_ok (by simp [hc, hkind]), ?_⟩
    rw [condParityError_eq hret]
    obtain ⟨honly, hseb⟩ := reportedTwice c kind (parityChan c s.dev).retired (parityTaken c s.dev)
    generalize hd : (if (parityChan c s.dev).retired then report 0x21C2 c 0 (report 0x11C1 c kind (parityTaken c s.dev))
      else report 0x11C1 c kind (parityTaken c s.dev)) = d at honly hseb
    have hchan : ∀ k, chanOf d k = chanOf (parityTaken c s.dev) k := fun k => by unfold chanOf; rw [honly .chans (by decide)]
    obtain ⟨hclear, hretired, hgone, hother⟩ := chanOf_parityTaken c s.dev
    refine ⟨by rw [hchan, hclear], by rw [hchan, hretired]; rfl, fun h => ?_, fun k hk => by rw [hchan, hother k hk],
      (seb_dict (only_parityTaken c s.dev .dict (by decide))).trans hseb, (only_parityTaken c s.dev).then honly (by decide) (by decide)⟩
    rw [hchan] at h ⊢
    exact hgone (hretired ▸ h)

end Sys2Proof.Machine
end

section
/-! SUPPORT. Sample ticks: what each channel's tick writes, and what settles O53. -/

namespace Sys2Proof.Machine

/-! ### What one channel's tick writes -/

/-- From block a to block b only channel c and its two counters may have changed, and c is retired as before. -/
def ChanWrite (c : Nat) (a b : Dev) : Prop :=
  ChangesOnly [.dict, .chans] a b ∧ SameEntriesBut [(R.COND_SAT c).key, (R.FLAG_COUNT c).key] a b ∧
  (∀ k, k ≠ c → chanOf b k = chanOf a k) ∧ (chanOf b c).retired = (chanOf a c).retired

theorem ChanWrite.refl (c : Nat) (a : Dev) : ChanWrite c a a := ⟨ChangesOnly.refl _ _, seb_refl _ _, fun _ _ => rfl, rfl⟩

theorem ChanWrite.trans {c : Nat} {a b d : Dev} (h : ChanWrite c a b) (g : ChanWrite c b d) : ChanWrite c a d := by
  obtain ⟨honly, hseb, hother, hret⟩ := h
  obtain ⟨honly', hseb', hother', hret'⟩ := g
  exact ⟨honly.trans honly', hseb.trans hseb', fun k hk => (hother' k hk).trans (hother k hk), hret'.trans hret⟩

theorem ChanWrite.ite {c : Nat} {p : Prop} [Decidable p] {a b d : Dev} (h : ChanWrite c a b) (g : ChanWrite c a d) :
    ChanWrite c a (if p then b else d) := by split <;> assumption

theorem chanWrite_setChan {c : Nat} {x : Chan} {d : Dev} (h : x.retired = (chanOf d c).retired) : ChanWrite c d (setChan c x d) :=
  ⟨(only_setChan c x d).mono (by decide), seb_dict rfl, fun _ hk => chanOf_setChan_ne _ _ (Ne.symm hk), by rw [chanOf_setChan_same, h]⟩

theorem chanWrite_bumpBy {c : Nat} {r : Reg} (h : r.key ∈ [(R.COND_SAT c).key, (R.FLAG_COUNT c).key]) (n : Nat) (d : Dev) :
    ChanWrite c d (bumpBy r n d) :=
  ⟨(only_bumpBy r n d).mono (by decide), seb_bumpBy h n d, fun k _ => chanOf_bumpBy k r n d, by rw [chanOf_bumpBy]⟩

/-- A channel's samples of the frame: raw ones and conditioned ones, each with their count. -/
def samplesOf (c : Chan) : Nat × List Nat × Nat × List Int := (c.rawIdx, c.raw, c.outIdx, c.outs)

theorem retired_flagPut {t : Nat} {v b : Bool} {c : Chan} (h : c.retired = b) : (flagPut t v c).retired = b := by
  unfold flagPut
  dsimp only
  split <;> split <;> exact h

theorem samplesOf_flagPut {t : Nat} {v : Bool} {c : Chan} {x : Nat × List Nat × Nat × List Int} (h : samplesOf c = x) :
    samplesOf (flagPut t v c) = x := by
  unfold flagPut
  dsimp only
  split <;> split <;> exact h

/-- The first look writes the channel's comparators and flag, and counts a rise; its samples stay. -/
theorem firstLook_cases (c n k rel dc rate : Nat) (x : Int) (d : Dev) :
    ∃ y, y.retired = (chanOf d c).retired ∧ samplesOf y = samplesOf (chanOf d c) ∧
      (firstLook c n k rel dc rate x d = bump (R.FLAG_COUNT c) (setChan c y d) ∨ firstLook c n k rel dc rate x d = setChan c y d) := by
  unfold firstLook
  dsimp only
  refine ⟨_, ?_, ?_, ite_eq_or_eq _ _ _⟩
  · exact retired_flagPut rfl
  · exact samplesOf_flagPut rfl

theorem chanWrite_firstLook (c n k rel dc rate : Nat) (x : Int) (d : Dev) : ChanWrite c d (firstLook c n k rel dc rate x d) := by
  obtain ⟨y, hret, -, heq | heq⟩ := firstLook_cases c n k rel dc rate x d
  · rw [heq]; exact (chanWrite_setChan hret).trans (chanWrite_bumpBy (by simp) 1 _)
  · rw [heq]; exact chanWrite_setChan hret

theorem samplesOf_firstLook (c n k rel dc rate : Nat) (x : Int) (d : Dev) :
    samplesOf (chanOf (firstLook c n k rel dc rate x d) c) = samplesOf (chanOf d c) := by
  obtain ⟨y, -, hsamples, heq | heq⟩ := firstLook_cases c n k rel dc rate x d
  · rw [heq, bump, chanOf_bumpBy, chanOf_setChan_same, hsamples]
  · rw [heq, chanOf_setChan_same, hsamples]

theorem chanWrite_condValue (c n : Nat) (u : Int) (d : Dev) : ChanWrite c d (condValue c n u d) := by
  have hput : ∀ (p : Prop) [Decidable p] (x y : Chan), x.retired = (chanOf d c).retired → y.retired = (chanOf d c).retired →
      (if p then x else y).retired = (chanOf d c).retired := fun p _ x y hx hy => by split <;> assumption
  unfold condValue
  dsimp only
  refine ChanWrite.ite ((chanWrite_setChan ?_).trans (chanWrite_bumpBy (by simp) _ _))
    (((chanWrite_setChan ?_).trans (chanWrite_bumpBy (by simp) _ _)).trans (chanWrite_firstLook ..))
  · exact hput _ _ _ rfl rfl
  · refine hput _ _ _ ?_ ?_
    · exact hput _ _ _ rfl rfl
    · exact hput _ _ _ rfl rfl

theorem chanWrite_absentSample (c n : Nat) (d : Dev) : ChanWrite c d (absentSample c n d) := chanWrite_setChan rfl

theorem chanWrite_pausedSample (c w : Nat) (d : Dev) : ChanWrite c d (pausedSample c w d) := chanWrite_setChan rfl

/-- One tick of a channel: conditioned, taken for the fingerprint alone, or 0. -/
def tickOne (c n w : Nat) (d : Dev) : Dev :=
  if delivered d c n = false then absentSample c n d
  else if (frameOf d n).paused then pausedSample c w d
  else condSample c n w d

/-- A container offered to a channel is a tick of offset o if the channel has one there. -/
def tickGo (c n o : Nat) (d : Dev) (w : Nat) : Dev :=
  if tickRate d c n ≠ 0 ∧ (chanOf d c).rawIdx < perFrame d (tickRate d c n) ∧ (chanOf d c).rawIdx * 24 / tickRate d c n = o then
    tickOne c n w d
  else d

theorem tickChan_eq (c n o : Nat) (ws : List Nat) (d : Dev) :
    tickChan c n o ws d = tickGo c n o (tickGo c n o d (ws.getD 0 0)) (ws.getD 1 0) := rfl

theorem chanWrite_tickOne (c n w : Nat) (d : Dev) : ChanWrite c d (tickOne c n w d) :=
  ChanWrite.ite (chanWrite_absentSample c n d) (ChanWrite.ite (chanWrite_pausedSample c w d) (chanWrite_condValue c n _ d))

theorem chanWrite_tickGo (c n o w : Nat) (d : Dev) : ChanWrite c d (tickGo c n o d w) :=
  ChanWrite.ite (chanWrite_tickOne c n w d) (ChanWrite.refl c d)

theorem chanWrite_tickChan (c n o : Nat) (ws : List Nat) (d : Dev) : ChanWrite c d (tickChan c n o ws d) :=
  (chanWrite_tickGo c n o _ d).trans (chanWrite_tickGo c n o _ _)

/-! ### What a sample tick leaves for its channels to read -/

theorem mem_sampleKeys_chan {c : Nat} (h : c < 1024) : (R.COND_SAT c).key ∈ sampleKeys ∧ (R.FLAG_COUNT c).key ∈ sampleKeys := by
  unfold sampleKeys
  simp only [List.mem_append, List.mem_flatMap, List.mem_range]
  exact ⟨.inl ⟨c, h, by simp⟩, .inl ⟨c, h, by simp⟩⟩

theorem mem_sampleKeys_margin {l : Nat} (h : l < 64) : (R.LANE_MARGIN l).key ∈ sampleKeys := by
  unfold sampleKeys
  simp only [List.mem_append, List.mem_map, List.mem_range]
  exact .inr ⟨l, h, rfl⟩

theorem notMem_sampleKeys {k : Nat} (h : k < 0x200101 ∨ (0x200141 ≤ k ∧ k < 0x244001) ∨ 0x245000 ≤ k) : k ∉ sampleKeys := by
  unfold sampleKeys
  simp only [R.COND_SAT, R.FLAG_COUNT, R.LANE_MARGIN, List.mem_append, List.mem_flatMap, List.mem_map, List.mem_range, List.mem_cons,
    List.not_mem_nil, or_false]
  rintro (⟨c, hc, hk | hk⟩ | ⟨l, hl, hk⟩) <;> omega

/-- The block in the course of a sample tick, as against the block before it: what the ticks of the channels read is the same. -/
def TickEnv (a d : Dev) : Prop :=
  ChangesOnly [.now, .time, .dict, .chans] a d ∧ SameEntriesBut sampleKeys a d ∧ ∀ c, (chanOf d c).retired = (chanOf a c).retired

theorem TickEnv.refl (a : Dev) : TickEnv a a := ⟨ChangesOnly.refl _ _, seb_refl _ _, fun _ => rfl⟩

theorem TickEnv.write {a b d : Dev} {c : Nat} (h : TickEnv a b) (hc : c < 1024) (g : ChanWrite c b d) : TickEnv a d := by
  obtain ⟨honly, hseb, hret⟩ := h
  obtain ⟨honly', hseb', hother, hret'⟩ := g
  refine ⟨honly.then honly' (by simp) (by simp), hseb.trans (hseb'.mono ?_), fun k => ?_⟩
  · simp only [List.cons_subset, List.nil_subset, and_true]
    exact mem_sampleKeys_chan hc
  · by_cases hk : k = c
    · subst hk; exact hret'.trans (hret k)
    · rw [hother k hk]; exact hret k

section Env

variable {a d : Dev} (h : TickEnv a d)
include h

theorem TickEnv.get {r : Reg} (hr : r.key ∉ sampleKeys) : dget r d = dget r a := h.2.1 r hr

theorem TickEnv.port (p : Nat) : portOf d p = portOf a p := by unfold portOf; rw [h.1 .ports (by decide)]

theorem TickEnv.frame (n : Nat) : frameOf d n = frameOf a n := by unfold frameOf; rw [h.1 .frames (by decide)]

theorem TickEnv.delivered (c n : Nat) : delivered d c n = Machine.delivered a c n := by
  unfold Machine.delivered deliversIn
  rw [h.port, h.2.2 c]

theorem TickEnv.loaded (n : Nat) : loadedOf d (ctxOf d n) = loadedOf a (ctxOf a n) := by
  have hctx : ctxOf d n = ctxOf a n := by unfold ctxOf; rw [h.frame, h.get (notMem_sampleKeys (by decide))]
  unfold loadedOf
  rw [hctx, h.1 .ldr (by decide)]

theorem TickEnv.tickRate (c n : Nat) : tickRate d c n = Machine.tickRate a c n := by
  unfold Machine.tickRate
  rw [h.delivered, h.port, h.loaded]

theorem TickEnv.decim_absent {c n : Nat} (hd : Machine.delivered a c n = false) : decim d c n = decim a c n := by
  unfold decim
  rw [h.delivered, hd, h.loaded]
  rfl

theorem TickEnv.perFrame (r : Nat) : perFrame d r = Machine.perFrame a r := by
  unfold Machine.perFrame fLen; rw [h.get (notMem_sampleKeys (by decide))]

theorem TickEnv.condGet (n : Nat) {r : Reg} (hr : r.key ∉ sampleKeys) : condGet d n r = Machine.condGet a n r := by
  unfold Machine.condGet
  rw [h.get hr, h.get (r := R.RESTART_STATE) (notMem_sampleKeys (by decide)), h.1 .grid (by decide), h.1 .flt (by decide),
    h.1 .ctl (by decide)]

theorem TickEnv.bypassed {c n : Nat} (hc : c < 1024) (hp : Machine.condGet a n (R.CH_PROFILE c) < 64) (hb : ChainBypassed c n a) :
    ChainBypassed c n d := by
  have hprof : Machine.condGet d n (R.CH_PROFILE c) = Machine.condGet a n (R.CH_PROFILE c) :=
    h.condGet n (notMem_sampleKeys (by simp only [R.CH_PROFILE]; omega))
  unfold ChainBypassed
  rw [hprof, h.condGet n (notMem_sampleKeys (by simp only [R.FILTER_ENABLE]; omega)),
    h.condGet n (notMem_sampleKeys (by simp only [R.BLR_MODE]; omega))]
  exact hb

end Env

/-! ### The samples that a tick takes -/

theorem bits_of_mod_eight {e : Nat} (h : e % 8 = 0) : bit e 0 = false ∧ bit e 1 = false ∧ bit e 2 = false := by
  simp only [bit, decide_eq_false_iff_not]
  omega

/-- With its chain bypassed a delivered channel's output is its input (R83). -/
theorem samplesOf_condValue_bypassed {c n : Nat} {d : Dev} (u : Int) (hd : delivered d c n = true) (hb : ChainBypassed c n d) :
    samplesOf (chanOf (condValue c n u d) c) =
      ((chanOf d c).rawIdx + 1, unsgn 16 u :: (chanOf d c).raw, (chanOf d c).outIdx + 1, u :: (chanOf d c).outs) := by
  obtain ⟨hen, hblr⟩ := hb
  obtain ⟨h0, h1, h2⟩ := bits_of_mod_eight hen
  have hdecim : decim d c n = 1 := by
    unfold decim
    simp only [hd, h2, if_true, Bool.false_eq_true, if_false]
  have hmod : ¬ (chanOf d c).rawIdx % 1 ≠ 0 := by omega
  unfold condValue
  simp only [h0, h1, h2, hblr, hdecim, Bool.false_eq_true, if_false, if_neg hmod, restore, if_true]
  rw [samplesOf_firstLook, chanOf_bumpBy, chanOf_setChan_same]
  split <;> rfl

theorem samplesOf_pausedSample (c w : Nat) (d : Dev) : samplesOf (chanOf (pausedSample c w d) c) =
    ((chanOf d c).rawIdx + 1, unsgn 16 (unpack (portOf d (c / 64)) w) :: (chanOf d c).raw, (chanOf d c).outIdx, (chanOf d c).outs) := by
  rw [pausedSample, chanOf_modChan_same]; rfl

theorem samplesOf_absentSample {c n : Nat} {d : Dev} (h : decim d c n = 1) : samplesOf (chanOf (absentSample c n d) c) =
    ((chanOf d c).rawIdx + 1, (chanOf d c).raw, (chanOf d c).outIdx + 1, 0 :: (chanOf d c).outs) := by
  have hmod : (chanOf d c).rawIdx % 1 = 0 := Nat.mod_one _
  simp only [absentSample, h, hmod, decide_true, if_true, chanOf_setChan_same]
  rfl

/-- A channel of at most 24 samples in 24 ac has one tick in an ac. -/
theorem tick_apart {k r : Nat} (hr : r ≠ 0) (h : r ≤ 24) : (k + 1) * 24 / r ≠ k * 24 / r := by
  have hlt : k * 24 / r + 1 ≤ (k + 1) * 24 / r := by
    rw [Nat.le_div_iff_mul_le (Nat.pos_of_ne_zero hr), Nat.add_mul, one_mul]
    have := Nat.div_mul_le_self (k * 24) r
    omega
  omega

/-- Where its next tick is not at offset o, a channel takes nothing. -/
theorem tickChan_idle {c n o : Nat} {d : Dev} (ws : List Nat) (h : (chanOf d c).rawIdx * 24 / tickRate d c n ≠ o) :
    tickChan c n o ws d = d := by
  have hgo : ∀ w, tickGo c n o d w = d := fun w => if_neg (fun hdue => h hdue.2.2)
  rw [tickChan_eq, hgo, hgo]

/-- What the channels read stays as it was, and channel c has a tick at offset o that it has not taken yet. -/
structure TickWaits (c n o : Nat) (a : Dev) : Prop where
  chan : c < 1024
  rate : tickRate a c n ≠ 0
  slow : tickRate a c n ≤ 24
  left : (chanOf a c).rawIdx < perFrame a (tickRate a c n)
  time : (chanOf a c).rawIdx * 24 / tickRate a c n = o

section Waits

variable {a d : Dev} {c n o : Nat} (hw : TickWaits c n o a) (h : TickEnv a d)
include hw h

/-- Once a channel has taken its tick, no more of this ac comes. -/
theorem tickChan_taken (ws : List Nat) (hk : (chanOf d c).rawIdx = (chanOf a c).rawIdx + 1) : tickChan c n o ws d = d := by
  refine tickChan_idle ws ?_
  rw [h.tickRate, hk, ← hw.time]
  exact tick_apart hw.rate hw.slow

theorem tickChan_takes (ws : List Nat) (hd : chanOf d c = chanOf a c)
    (hk : (chanOf (tickOne c n (ws.getD 0 0) d) c).rawIdx = (chanOf a c).rawIdx + 1) :
    tickChan c n o ws d = tickOne c n (ws.getD 0 0) d := by
  have hfirst : tickGo c n o d (ws.getD 0 0) = tickOne c n (ws.getD 0 0) d :=
    if_pos (by rw [h.tickRate, h.perFrame, hd]; exact ⟨hw.rate, hw.left, hw.time⟩)
  have henv : TickEnv a (tickOne c n (ws.getD 0 0) d) := h.write hw.chan (chanWrite_tickOne c n _ d)
  rw [tickChan_eq, hfirst]
  refine if_neg fun hdue => ?_
  rw [henv.tickRate, hk] at hdue
  exact tick_apart hw.rate hw.slow (hdue.2.2.trans hw.time.symm)

end Waits

/-! ### All channels of a tick -/

/-- The ticks of a list of channels, each with its containers. -/
def ticksTaken (n o : Nat) (xs : List (Nat × Nat)) (cs : List Nat) (d : Dev) : Dev :=
  cs.foldl (fun d c => tickChan c n o ((xs.filter (fun s => decide (s.1 = c))).map Prod.snd) d) d

theorem ticksTaken_cons (n o : Nat) (xs : List (Nat × Nat)) (c : Nat) (cs : List Nat) (d : Dev) :
    ticksTaken n o xs (c :: cs) d = ticksTaken n o xs cs (tickChan c n o ((xs.filter (fun s => decide (s.1 = c))).map Prod.snd) d) := rfl

theorem TickEnv.ticks {n o : Nat} {xs : List (Nat × Nat)} {cs : List Nat} (hcs : ∀ c ∈ cs, c < 1024) {a d : Dev} (h : TickEnv a d) :
    TickEnv a (ticksTaken n o xs cs d) := by
  induction cs generalizing d with
  | nil => exact h
  | cons c cs ih =>
    rw [ticksTaken_cons]
    exact ih (fun k hk => hcs k (List.mem_cons_of_mem _ hk)) (h.write (hcs c List.mem_cons_self) (chanWrite_tickChan ..))

theorem chanOf_ticksTaken_notMem {n o c : Nat} {xs : List (Nat × Nat)} {cs : List Nat} (h : c ∉ cs) (d : Dev) :
    chanOf (ticksTaken n o xs cs d) c = chanOf d c := by
  induction cs generalizing d with
  | nil => rfl
  | cons k cs ih =>
    rw [List.mem_cons, not_or] at h
    obtain ⟨hne, hrest⟩ := h
    obtain ⟨-, -, hother, -⟩ := chanWrite_tickChan k n o ((xs.filter (fun s => decide (s.1 = k))).map Prod.snd) d
    rw [ticksTaken_cons, ih hrest, hother c hne]

/-- The counters that the ticks of channels write. -/
def tickKeys : List Nat := (List.range 1024).flatMap (fun c => [(R.COND_SAT c).key, (R.FLAG_COUNT c).key])

theorem seb_ticksTaken {n o : Nat} {xs : List (Nat × Nat)} {cs : List Nat} (h : ∀ c ∈ cs, c < 1024) (d : Dev) :
    SameEntriesBut tickKeys d (ticksTaken n o xs cs d) := by
  induction cs generalizing d with
  | nil => exact seb_refl _ _
  | cons c cs ih =>
    obtain ⟨-, hseb, -, -⟩ := chanWrite_tickChan c n o ((xs.filter (fun s => decide (s.1 = c))).map Prod.snd) d
    rw [ticksTaken_cons]
    refine (hseb.mono ?_).trans (ih (fun k hk => h k (List.mem_cons_of_mem _ hk)) _)
    intro k hk
    exact List.mem_flatMap.2 ⟨c, List.mem_range.2 (h c List.mem_cons_self), hk⟩

/-- A channel among those of the tick, which takes samples x from where it stood, has them when all have taken theirs. -/
theorem samplesOf_ticksTaken {n o c : Nat} {xs : List (Nat × Nat)} {cs : List Nat} {a : Dev} {x : Nat × List Nat × Nat × List Int}
    (hw : TickWaits c n o a) (hx : x.1 = (chanOf a c).rawIdx + 1)
    (hone : ∀ e, TickEnv a e → chanOf e c = chanOf a c →
      samplesOf (chanOf (tickOne c n (((xs.filter (fun s => decide (s.1 = c))).map Prod.snd).getD 0 0) e) c) = x)
    (hcs : ∀ k ∈ cs, k < 1024) {d : Dev} (h : TickEnv a d)
    (hd : samplesOf (chanOf d c) = x ∨ (chanOf d c = chanOf a c ∧ c ∈ cs)) :
    samplesOf (chanOf (ticksTaken n o xs cs d) c) = x := by
  have hraw : ∀ {e : Dev}, samplesOf (chanOf e c) = x → (chanOf e c).rawIdx = (chanOf a c).rawIdx + 1 := fun he => by
    rw [← hx, ← he]; rfl
  induction cs generalizing d with
  | nil => exact hd.resolve_right fun hm => absurd hm.2 List.not_mem_nil
  | cons k cs ih =>
    rw [ticksTaken_cons]
    have henv : TickEnv a (tickChan k n o ((xs.filter (fun s => decide (s.1 = k))).map Prod.snd) d) :=
      h.write (hcs k List.mem_cons_self) (chanWrite_tickChan ..)
    refine ih (fun j hj => hcs j (List.mem_cons_of_mem _ hj)) henv ?_
    by_cases hk : c = k
    · subst hk
      refine .inl ?_
      obtain hdone | ⟨hwait, -⟩ := hd
      · rw [tickChan_taken hw h _ (hraw hdone)]; exact hdone
      · have htaken := hone d h hwait
        rw [tickChan_takes hw h _ hwait (hraw htaken)]; exact htaken
    · obtain ⟨-, -, hother, -⟩ := chanWrite_tickChan k n o ((xs.filter (fun s => decide (s.1 = k))).map Prod.snd) d
      rw [hother c hk]
      exact hd.imp_right fun hm => ⟨hm.1, (List.mem_cons.1 hm.2).resolve_left hk⟩

/-! ### Release margins (R39) -/

/-- One margin: the least of them is kept. -/
def marginTaken (d : Dev) (m : Nat × Nat) : Dev :=
  if (m.2 : Int) < sgn 16 (dget (R.LANE_MARGIN m.1) d) then dset (R.LANE_MARGIN m.1) m.2 d else d

theorem tickEnv_margins {ms : List (Nat × Nat)} (hms : ∀ m ∈ ms, m.1 < 64) {a d : Dev} (h : TickEnv a d) :
    TickEnv a (ms.foldl marginTaken d) := by
  induction ms generalizing d with
  | nil => exact h
  | cons m ms ih =>
    refine ih (fun k hk => hms k (List.mem_cons_of_mem _ hk)) ?_
    obtain ⟨honly, hseb, hret⟩ := h
    unfold marginTaken
    split
    · exact ⟨honly.then (only_dset _ _ _) (by simp) (by simp),
        hseb.trans (seb_dset (mem_sampleKeys_margin (hms m List.mem_cons_self)) _ _), hret⟩
    · exact ⟨honly, hseb, hret⟩

theorem only_marginTaken (d : Dev) (m : Nat × Nat) : ChangesOnly [.dict] d (marginTaken d m) :=
  ChangesOnly.ite (only_dset _ _ _) (ChangesOnly.refl _ _)

theorem only_margins (ms : List (Nat × Nat)) (d : Dev) : ChangesOnly [.dict] d (ms.foldl marginTaken d) :=
  ChangesOnly.foldl only_marginTaken ms d

theorem dget_marginTaken (d : Dev) (l m : Nat) : dget (R.LANE_MARGIN l) (marginTaken d (l, m)) =
    if (m : Int) < sgn 16 (dget (R.LANE_MARGIN l) d) then m else dget (R.LANE_MARGIN l) d := by
  unfold marginTaken
  split
  · exact dget_dset_same _ _ _
  · rfl

/-! ### The input slots (R208 to R210) -/

theorem only_slotEnter (x : SlotTok) (d : Dev) : ChangesOnly [.cores] d (slotEnter x d) := by
  unfold slotEnter
  dsimp only
  split
  · exact ChangesOnly.refl _ _
  · exact only_modCore _ _ _

theorem only_slotFeed (ctx : Nat) (d : Dev) (x : SlotTok) : ChangesOnly [.cores, .undef, .freeCtr] d (slotFeed ctx d x) := by
  unfold slotFeed
  split
  · have hdraw : ChangesOnly [.undef, .freeCtr] d (setUndef (draw d).2) :=
      fun p hp => by cases p <;> first | exact absurd (by decide) hp | rfl
    exact hdraw.then (only_slotEnter _ _) (by decide) (by decide)
  · exact (only_slotEnter _ _).mono (by decide)

/-- The samples of each channel count as offered to the slots. -/
def fedAll (cs : List Nat) (d : Dev) : Dev := cs.foldl (fun d c => modChan c (fun ch => { ch with fed := ch.outIdx }) d) d

theorem only_fedAll (cs : List Nat) (d : Dev) : ChangesOnly [.chans] d (fedAll cs d) := ChangesOnly.foldl (fun _ _ => only_modChan _ _ _) _ _

theorem chanOf_fedAll_notMem {cs : List Nat} {c : Nat} (h : c ∉ cs) (d : Dev) : chanOf (fedAll cs d) c = chanOf d c := by
  induction cs generalizing d with
  | nil => rfl
  | cons k cs ih =>
    rw [List.mem_cons, not_or] at h
    exact (ih h.2 _).trans (chanOf_modChan_ne _ _ (Ne.symm h.1))

theorem samplesOf_fedAll (cs : List Nat) (c : Nat) (d : Dev) : samplesOf (chanOf (fedAll cs d) c) = samplesOf (chanOf d c) := by
  induction cs generalizing d with
  | nil => rfl
  | cons k cs ih =>
    refine (ih _).trans ?_
    by_cases hk : k = c
    · subst hk; rw [chanOf_modChan_same]; rfl
    · rw [chanOf_modChan_ne _ _ hk]

/-- Feeding the slots writes cores, and in the channels only what has been offered. -/
theorem feedSlots_cases (n : Nat) (cs : List Nat) (d : Dev) :
    feedSlots n cs d = d ∨ ChangesOnly [.cores, .undef, .freeCtr] (fedAll cs d) (feedSlots n cs d) := by
  unfold feedSlots
  split
  · exact .inl rfl
  · exact .inr (ChangesOnly.foldl (fun _ _ => only_slotFeed _ _ _) _ _)

theorem only_feedSlots (n : Nat) (cs : List Nat) (d : Dev) : ChangesOnly [.chans, .cores, .undef, .freeCtr] d (feedSlots n cs d) := by
  obtain heq | hfed := feedSlots_cases n cs d
  · rw [heq]; exact ChangesOnly.refl _ _
  · exact (only_fedAll cs d).then hfed (by decide) (by decide)

theorem chanOf_feedSlots_notMem {cs : List Nat} {c : Nat} (h : c ∉ cs) (n : Nat) (d : Dev) : chanOf (feedSlots n cs d) c = chanOf d c := by
  obtain heq | hfed := feedSlots_cases n cs d
  · rw [heq]
  · rw [← chanOf_fedAll_notMem h d]; unfold chanOf; rw [hfed .chans (by decide)]

theorem samplesOf_feedSlots (n : Nat) (cs : List Nat) (c : Nat) (d : Dev) :
    samplesOf (chanOf (feedSlots n cs d) c) = samplesOf (chanOf d c) := by
  obtain heq | hfed := feedSlots_cases n cs d
  · rw [heq]
  · rw [← samplesOf_fedAll cs c d]; unfold chanOf; rw [hfed .chans (by decide)]

/-! ### SAMPLE_TICK -/

theorem mem_tickChans {d : Dev} {n c : Nat} (h : c ∈ tickChans d n) : c < 1024 ∧ tickRate d c n ≠ 0 := by
  unfold tickChans at h
  simp only [List.mem_filter, List.mem_flatMap, List.mem_range, decide_eq_true_eq] at h
  obtain ⟨⟨p, hp, hc⟩, hr⟩ := h
  refine ⟨?_, hr⟩
  split at hc
  · obtain ⟨i, hi, rfl⟩ := List.mem_map.1 hc
    have := List.mem_range.1 hi
    omega
  · have := of_decide_eq_true (List.mem_filter.1 hc).2
    omega

/-- The channels of the next tick: each has it there, and has a sample left. -/
theorem tickWaits_of_nextTick {d : Dev} {n o c : Nat} {cs : List Nat} (h : nextTick d n = some (o, cs)) (hc : c ∈ cs) :
    c < 1024 ∧ (tickRate d c n ≤ 24 → TickWaits c n o d) := by
  unfold nextTick at h
  dsimp only at h
  split at h
  · exact absurd h (by simp)
  · rw [Option.some.injEq, Prod.mk.injEq] at h
    obtain ⟨rfl, rfl⟩ := h
    obtain ⟨⟨c', t⟩, he, rfl⟩ := List.mem_map.1 hc
    obtain ⟨hdue, ht⟩ := List.mem_filter.1 he
    obtain ⟨k, hk, hsome⟩ := List.mem_filterMap.1 hdue
    split at hsome
    case isFalse => cases hsome
    case isTrue hleft =>
      rw [Option.some.injEq, Prod.mk.injEq] at hsome
      obtain ⟨rfl, rfl⟩ := hsome
      obtain ⟨hchan, hrate⟩ := mem_tickChans hk
      exact ⟨hchan, fun hslow => ⟨hchan, hrate, hslow, hleft, of_decide_eq_true ht⟩⟩

/-- The time of the tick has come, and its margins are taken. -/
def tickReleased (n o : Nat) (ms : List (Nat × Nat)) (d : Dev) : Dev := ms.foldl marginTaken (advTo (bAt d n + o) d)

theorem sampleTick_eq {xs ms : List (Nat × Nat)} {n o : Nat} {cs : List Nat} {d : Dev} (hrun : running d = true) (hn : d.grid.nextB = n + 1)
    (h : nextTick d n = some (o, cs)) : sampleTick xs ms d = feedSlots n cs (ticksTaken n o xs cs (tickReleased n o ms d)) := by
  simp only [sampleTick, hrun, hn, Nat.add_sub_cancel, h, Bool.true_eq_false, Nat.add_one_ne_zero, or_self, if_false]
  rfl

theorem tickEnv_released {ms : List (Nat × Nat)} (hms : ∀ m ∈ ms, m.1 < 64) (n o : Nat) (d : Dev) : TickEnv d (tickReleased n o ms d) :=
  tickEnv_margins hms ⟨(only_advTo _ d).mono (by decide), seb_dict (advTo_dict _ d), fun c => by rw [chanOf_advTo]⟩

theorem chanOf_tickReleased (n o : Nat) (ms : List (Nat × Nat)) (d : Dev) (c : Nat) : chanOf (tickReleased n o ms d) c = chanOf d c := by
  have hchans : (tickReleased n o ms d).chans = (advTo (bAt d n + o) d).chans := only_margins ms _ .chans (by decide)
  unfold chanOf; rw [hchans, advTo_chans]

/-- The samples of a channel of the tick when it is over, from what its own tick comes to. -/
theorem samplesOf_sampleTick {xs ms : List (Nat × Nat)} {n o c : Nat} {cs : List Nat} {d : Dev} {x : Nat × List Nat × Nat × List Int}
    (hms : ∀ m ∈ ms, m.1 < 64) (hrun : running d = true) (hn : d.grid.nextB = n + 1) (h : nextTick d n = some (o, cs)) (hc : c ∈ cs)
    (hslow : tickRate d c n ≤ 24) (hx : x.1 = (chanOf d c).rawIdx + 1)
    (hone : ∀ e, TickEnv d e → chanOf e c = chanOf d c →
      samplesOf (chanOf (tickOne c n (((xs.filter (fun s => decide (s.1 = c))).map Prod.snd).getD 0 0) e) c) = x) :
    samplesOf (chanOf (sampleTick xs ms d) c) = x := by
  rw [sampleTick_eq hrun hn h, samplesOf_feedSlots]
  exact samplesOf_ticksTaken ((tickWaits_of_nextTick h hc).2 hslow) hx hone (fun k hk => (tickWaits_of_nextTick h hk).1)
    (tickEnv_released hms n o d) (.inr ⟨chanOf_tickReleased n o ms d c, hc⟩)

theorem completes_sampleTick {xs ms : List (Nat × Nat)} {s : State} {P : Dev → Prop} (hxs : ∀ x ∈ xs, x.1 < 1024 ∧ x.2 < 65536)
    (hms : ∀ m ∈ ms, m.1 < 64 ∧ 4 ≤ m.2 ∧ m.2 ≤ 480) (h : P (sampleTick xs ms s.dev)) : Completes (exec (.sampleTick xs ms) s) s P :=
  ⟨_, run_ok (by simpa using ⟨fun a b hab => hxs (a, b) hab, fun a b hab => hms (a, b) hab⟩), h⟩

/-- Settles O53: `sampleTick_eq` says what the command comes to, `samplesOf_sampleTick` what a channel of the tick has taken when it is
over. -/
theorem sampleTicks : Obligations.SampleTicks := by
  refine ⟨?released, ?absent, ?nothing⟩
  case released =>
    intro xs ms n o cs s hxs hms hrun hn hnext
    have hmargins : ∀ m ∈ ms, m.1 < 64 := fun m hm => (hms m hm).1
    have hchans : ∀ c ∈ cs, c < 1024 := fun c hc => (tickWaits_of_nextTick hnext hc).1
    have henv : TickEnv s.dev (ticksTaken n o xs cs (tickReleased n o ms s.dev)) := (tickEnv_released hmargins n o s.dev).ticks hchans
    obtain ⟨honly, hseb, -⟩ := henv
    have hfed := only_feedSlots n cs (ticksTaken n o xs cs (tickReleased n o ms s.dev))
    have hget : ∀ r : Reg, dget r (feedSlots n cs (ticksTaken n o xs cs (tickReleased n o ms s.dev))) =
        dget r (ticksTaken n o xs cs (tickReleased n o ms s.dev)) := fun r => seb_dict (ks := []) (hfed .dict (by decide)) r (by simp)
    refine completes_sampleTick hxs hms ⟨?now, ?conditioned, ?paused, ?others, ?margin, ?entries, ?parts⟩
    case conditioned =>
      intro c hc hd hp hslow hb hprof
      have hsamples := samplesOf_sampleTick (xs := xs) hmargins hrun hn hnext hc hslow rfl (x := ((chanOf s.dev c).rawIdx + 1,
        unsgn 16 (unpack (portOf s.dev (c / 64)) (((xs.filter (fun x => decide (x.1 = c))).map Prod.snd).getD 0 0)) :: (chanOf s.dev c).raw,
        (chanOf s.dev c).outIdx + 1,
        unpack (portOf s.dev (c / 64)) (((xs.filter (fun x => decide (x.1 = c))).map Prod.snd).getD 0 0) :: (chanOf s.dev c).outs))
        fun e he hce => by
          have hde : delivered e c n = true := (he.delivered c n).trans hd
          have hpe : (frameOf e n).paused = false := (congrArg Frame.paused (he.frame n)).trans hp
          simp only [tickOne, hde, hpe, Bool.true_eq_false, Bool.false_eq_true, if_false, condSample]
          rw [samplesOf_condValue_bypassed _ hde (he.bypassed (hchans c hc) hprof hb), he.port, hce]
      simp only [samplesOf, Prod.mk.injEq] at hsamples
      obtain ⟨hidx, hraw, hout, houts⟩ := hsamples
      exact ⟨hidx, hraw, houts, hout⟩
    case paused =>
      intro c hc hd hp hslow
      have hsamples := samplesOf_sampleTick (xs := xs) hmargins hrun hn hnext hc hslow rfl (x := ((chanOf s.dev c).rawIdx + 1,
        unsgn 16 (unpack (portOf s.dev (c / 64)) (((xs.filter (fun x => decide (x.1 = c))).map Prod.snd).getD 0 0)) :: (chanOf s.dev c).raw,
        (chanOf s.dev c).outIdx, (chanOf s.dev c).outs))
        fun e he hce => by
          have hde : delivered e c n = true := (he.delivered c n).trans hd
          have hpe : (frameOf e n).paused = true := (congrArg Frame.paused (he.frame n)).trans hp
          simp only [tickOne, hde, hpe, Bool.true_eq_false, if_false, if_true]
          rw [samplesOf_pausedSample, he.port, hce]
      simp only [samplesOf, Prod.mk.injEq] at hsamples
      obtain ⟨hidx, hraw, -, houts⟩ := hsamples
      exact ⟨hidx, houts, hraw⟩
    all_goals rw [sampleTick_eq hrun hn hnext]
    case now =>
      have hticks : (ticksTaken n o xs cs (tickReleased n o ms s.dev)).now = (tickReleased n o ms s.dev).now :=
        (ChangesOnly.foldl (ps := [.dict, .chans]) (fun d c => (chanWrite_tickChan c n o _ d).1) cs _) .now (by decide)
      exact (hfed .now (by decide)).trans (hticks.trans (only_margins ms _ .now (by decide)))
    case others =>
      intro c hc
      rw [chanOf_feedSlots_notMem hc, chanOf_ticksTaken_notMem hc, chanOf_tickReleased]
    case margin =>
      rintro l m rfl
      have hl : l < 64 := hmargins (l, m) List.mem_cons_self
      have hkey : (R.LANE_MARGIN l).key ∉ tickKeys := by
        simp only [tickKeys, R.COND_SAT, R.FLAG_COUNT, R.LANE_MARGIN, List.mem_flatMap, List.mem_range, List.mem_cons, List.not_mem_nil,
          or_false]
        rintro ⟨c, hc, hk | hk⟩ <;> omega
      rw [hget, seb_ticksTaken hchans _ _ hkey]
      exact (dget_marginTaken _ l m).trans (by rw [dget_advTo])
    case entries => exact hseb.trans (seb_dict (hfed .dict (by decide)))
    case parts => exact honly.then hfed (by decide) (by decide)
  case absent =>
    intro n o c s hrun hn hnext hd hslow hdec
    have hone : ∀ e, TickEnv s.dev e → ∀ w, tickOne c n w e = absentSample c n e := fun e he w =>
      if_pos ((he.delivered c n).trans hd)
    have htaken : ∀ e, TickEnv s.dev e → chanOf e c = chanOf s.dev c → ∀ w, samplesOf (chanOf (tickOne c n w e) c) =
        ((chanOf s.dev c).rawIdx + 1, (chanOf s.dev c).raw, (chanOf s.dev c).outIdx + 1, 0 :: (chanOf s.dev c).outs) := fun e he hce w => by
      rw [hone e he, samplesOf_absentSample ((he.decim_absent hd).trans hdec), hce]
    have hsamples := samplesOf_sampleTick (xs := []) (ms := []) (by simp) hrun hn hnext List.mem_cons_self hslow rfl
      fun e he hce => htaken e he hce _
    simp only [samplesOf, Prod.mk.injEq] at hsamples
    obtain ⟨hidx, hraw, -, houts⟩ := hsamples
    have hentries : SameEntriesBut [] s.dev (sampleTick [] [] s.dev) := by
      have henv : TickEnv s.dev (tickReleased n o [] s.dev) := tickEnv_released (by simp) n o s.dev
      have hchan : chanOf (tickReleased n o [] s.dev) c = chanOf s.dev c := chanOf_tickReleased n o [] s.dev c
      have htick : ∀ ws, tickChan c n o ws (tickReleased n o [] s.dev) = absentSample c n (tickReleased n o [] s.dev) := fun ws =>
        (tickChan_takes ((tickWaits_of_nextTick hnext List.mem_cons_self).2 hslow) henv ws hchan
          (congrArg Prod.fst (htaken _ henv hchan _))).trans (hone _ henv _)
      rw [sampleTick_eq hrun hn hnext, ticksTaken_cons, htick]
      exact seb_dict (only_feedSlots n [c] _ .dict (by decide))
    exact completes_sampleTick (by simp) (by simp) ⟨hidx, houts, hraw, hentries⟩
  case nothing =>
    intro xs ms s hxs hms hoff
    have heq : sampleTick xs ms s.dev = s.dev := by
      unfold sampleTick
      split
      · rfl
      · rename_i hon
        obtain ⟨hrun, hb⟩ := not_or.1 hon
        have hnone : nextTick s.dev (s.dev.grid.nextB - 1) = none := (hoff.resolve_left hrun).resolve_left hb
        simp only [hnone]
    obtain ⟨d, hd, rfl⟩ := completes_sampleTick (P := fun d => d = s.dev) hxs hms heq
    exact hd

end Sys2Proof.Machine
end

section
/-! SUPPORT. The cut-off of a frame (R37, R371): the settings, groups and forwarded settings that it latches. -/

namespace Sys2Proof.Machine

/-! ### The cut-off of a frame (R37, R371) -/

theorem putVals_cons (p : Nat × Nat) (vs : List (Nat × Nat)) (t : Tab (Option Nat)) :
    putVals (p :: vs) t = putVals vs (tset none t p.1 (some p.2)) := rfl

/-- A key that is not put keeps its value. -/
theorem tget_putVals_notMem {k : Nat} {vs : List (Nat × Nat)} (t : Tab (Option Nat)) (h : k ∉ vs.map Prod.fst) :
    tget none (putVals vs t) k = tget none t k := by
  induction vs generalizing t with
  | nil => rfl
  | cons p vs ih =>
    obtain ⟨hp, hvs⟩ := not_or.mp (fun hk => h (List.mem_cons.mpr hk))
    rw [putVals_cons, ih _ hvs, tget_tset_ne _ _ _ _ (Ne.symm hp)]

/-- A put that gives every occurrence of a key the one value leaves it that value. -/
theorem tget_putVals_of_mem {k v : Nat} {vs : List (Nat × Nat)} (t : Tab (Option Nat)) (h : (k, v) ∈ vs) (hv : ∀ w, (k, w) ∈ vs → w = v) :
    tget none (putVals vs t) k = some v := by
  induction vs generalizing t with
  | nil => exact absurd h List.not_mem_nil
  | cons p vs ih =>
    rw [putVals_cons]
    by_cases hk : (k, v) ∈ vs
    · exact ih _ hk fun w hw => hv w (List.mem_cons_of_mem _ hw)
    · obtain rfl : (k, v) = p := (List.mem_cons.mp h).resolve_right hk
      have hnone : k ∉ vs.map Prod.fst := by
        intro hm
        obtain ⟨⟨j, w⟩, hw, rfl⟩ := List.mem_map.mp hm
        exact hk (hv w (List.mem_cons_of_mem _ hw) ▸ hw)
      rw [tget_putVals_notMem _ hnone, tget_tset_same]

/-- What has a value keeps one. -/
theorem isSome_putVals {k : Nat} (vs : List (Nat × Nat)) {t : Tab (Option Nat)} (h : (tget none t k).isSome = true) :
    (tget none (putVals vs t) k).isSome = true := by
  induction vs generalizing t with
  | nil => exact h
  | cons p vs ih =>
    rw [putVals_cons]
    refine ih ?_
    rw [tget_tset]
    split
    · rfl
    · exact h

/-- What is put has a value. -/
theorem isSome_putVals_of_mem {k : Nat} {vs : List (Nat × Nat)} (t : Tab (Option Nat)) (h : k ∈ vs.map Prod.fst) :
    (tget none (putVals vs t) k).isSome = true := by
  induction vs generalizing t with
  | nil => exact absurd h List.not_mem_nil
  | cons p vs ih =>
    rw [putVals_cons]
    obtain rfl | hk := List.mem_cons.mp h
    · exact isSome_putVals _ (by rw [tget_tset_same]; rfl)
    · exact ih _ hk

/-- A key with a value is listed. -/
theorem mem_of_tget_some {k v : Nat} {t : Tab (Option Nat)} (h : tget none t k = some v) : ∃ x, (k, x) ∈ t := by
  induction t with
  | nil => exact absurd h (by simp)
  | cons e t ih =>
    obtain ⟨j, x⟩ := e
    by_cases hj : j = k
    · exact ⟨x, by rw [hj]; exact List.mem_cons_self⟩
    · rw [tget_cons, if_neg hj] at h
      obtain ⟨y, hy⟩ := ih h
      exact ⟨y, List.mem_cons_of_mem _ hy⟩

/-- The values a table holds, each under its key. -/
def heldVals (t : Tab (Option Nat)) : List (Nat × Nat) := t.filterMap (fun e => (tget none t e.1).map (fun v => (e.1, v)))

theorem mem_heldVals {k v : Nat} {t : Tab (Option Nat)} : (k, v) ∈ heldVals t ↔ tget none t k = some v := by
  constructor
  · intro h
    obtain ⟨e, -, he⟩ := List.mem_filterMap.mp h
    obtain ⟨w, hw, heq⟩ := Option.map_eq_some_iff.mp he
    obtain ⟨rfl, rfl⟩ := Prod.mk.injEq .. ▸ heq
    exact hw
  · intro h
    obtain ⟨x, hx⟩ := mem_of_tget_some h
    exact List.mem_filterMap.mpr ⟨(k, x), hx, by rw [h]; rfl⟩

theorem tget_putVals_heldVals (t u : Tab (Option Nat)) (k : Nat) :
    tget none (putVals (heldVals t) u) k = if (tget none t k).isSome then tget none t k else tget none u k := by
  cases h : tget none t k with
  | some v =>
    rw [Option.isSome_some, if_pos rfl]
    exact tget_putVals_of_mem u (mem_heldVals.mpr h) fun w hw => by
      have := mem_heldVals.mp hw
      rw [h] at this
      exact (Option.some.inj this).symm
  | none =>
    rw [Option.isSome_none, if_neg Bool.false_ne_true]
    refine tget_putVals_notMem _ fun hm => ?_
    obtain ⟨⟨j, w⟩, hw, rfl⟩ := List.mem_map.mp hm
    exact absurd ((mem_heldVals.mp hw).symm.trans h) (by simp)

/-- The groups that the cut-off of frame g takes. -/
def dueGroups (g : Nat) (d : Dev) : List (Nat × Grp) := d.ctl.groups.filter (fun e => decide (e.2.st = 2 ∧ e.2.due ≤ g) && !e.2.latched)

/-- The settings forwarded for frame g or an earlier one. -/
def dueFwds (g : Nat) (d : Dev) : List Fwd := d.lnk.dictIn.filter (fun f => decide (f.frame ≤ g))

/-- The values in force from the cut-off of frame g. -/
def latchedAt (g : Nat) (d : Dev) : Tab (Option Nat) :=
  putVals ((dueFwds g d).flatMap fwdVals) (putVals ((dueGroups g d).flatMap (fun e => groupVals e.1 e.2))
    (putVals (heldVals d.ctl.rwlNew) d.ctl.rwlLatched))

/-- Group e after the cut-off of frame g. -/
def latchGrp (g : Nat) (e : Nat × Grp) : Nat × Grp := if e.2.st = 2 ∧ e.2.due ≤ g then (e.1, { e.2 with latched := true }) else e

/-- The cut-off once the time has come to it. -/
def cutTaken (g : Nat) (d : Dev) : Dev :=
  { d with
    ctl := { d.ctl with rwlLatched := latchedAt g d, rwlNew := d.lnk.hold, groups := d.ctl.groups.map (latchGrp g) }
    lnk := { d.lnk with hold := [], dictIn := d.lnk.dictIn.filter (fun f => decide (g < f.frame)) }
    grid := { d.grid with nextC := g + 1 } }

theorem dictCutoff_eq {d : Dev} (h : running d = true) : dictCutoff d = cutTaken d.grid.nextC (advTo (cutAt d d.grid.nextC) d) := by
  unfold dictCutoff
  rw [if_neg (by simp [h])]
  dsimp only
  generalize advTo (cutAt d d.grid.nextC) d = x
  rfl

theorem tget_latchedAt_of_notMem {g k : Nat} {d : Dev} (hdue : ∀ e ∈ dueGroups g d, k ∉ (groupVals e.1 e.2).map Prod.fst)
    (hfwd : ∀ f ∈ dueFwds g d, k ∉ (fwdVals f).map Prod.fst) :
    tget none (latchedAt g d) k =
      if (tget none d.ctl.rwlNew k).isSome then tget none d.ctl.rwlNew k else tget none d.ctl.rwlLatched k := by
  have hf : k ∉ ((dueFwds g d).flatMap fwdVals).map Prod.fst := by
    rw [List.map_flatMap]
    intro hk
    obtain ⟨f, hf, hk⟩ := List.mem_flatMap.mp hk
    exact hfwd f hf hk
  have hg : k ∉ ((dueGroups g d).flatMap (fun e => groupVals e.1 e.2)).map Prod.fst := by
    rw [List.map_flatMap]
    intro hk
    obtain ⟨e, he, hk⟩ := List.mem_flatMap.mp hk
    exact hdue e he hk
  rw [latchedAt, tget_putVals_notMem _ hf, tget_putVals_notMem _ hg, tget_putVals_heldVals]

theorem isSome_latchedAt_of_group {g k : Nat} {d : Dev} {e : Nat × Grp} (he : e ∈ dueGroups g d) (hk : k ∈ (groupVals e.1 e.2).map Prod.fst) :
    (tget none (latchedAt g d) k).isSome = true := by
  refine isSome_putVals _ (isSome_putVals_of_mem _ ?_)
  rw [List.map_flatMap]
  exact List.mem_flatMap.mpr ⟨e, he, hk⟩

theorem isSome_latchedAt_of_fwd {g k : Nat} {d : Dev} {f : Fwd} (hf : f ∈ dueFwds g d) (hk : k ∈ (fwdVals f).map Prod.fst) :
    (tget none (latchedAt g d) k).isSome = true := by
  refine isSome_putVals_of_mem _ ?_
  rw [List.map_flatMap]
  exact List.mem_flatMap.mpr ⟨f, hf, hk⟩

theorem only_cutTaken (g : Nat) (d : Dev) : ChangesOnly [.ctl, .lnk, .grid] d (cutTaken g d) :=
  fun p hp => by cases p <;> first | rfl | exact absurd (by decide) hp

theorem only_dictCutoff {d : Dev} (h : running d = true) : ChangesOnly [.now, .time, .ctl, .lnk, .grid] d (dictCutoff d) := by
  rw [dictCutoff_eq h]
  exact (only_advTo _ _).then (only_cutTaken _ _) (by decide) (by decide)

/-- What the cut-off of the next frame does while the array runs. -/
theorem completes_dictCutoff (s : State) (h : running s.dev = true) :
    Completes (exec .dictCutoff s) s fun d =>
      let g := s.dev.grid.nextC
      let due := s.dev.ctl.groups.filter (fun e => decide (e.2.st = 2 ∧ e.2.due ≤ g) && !e.2.latched)
      let fwd := s.dev.lnk.dictIn.filter (fun f => decide (f.frame ≤ g))
      d.grid = { s.dev.grid with nextC := g + 1 } ∧ d.now = max (cutAt s.dev g) s.dev.now ∧ d.ctl.rwlNew = s.dev.lnk.hold ∧
      d.lnk = { s.dev.lnk with hold := [], dictIn := s.dev.lnk.dictIn.filter (fun f => decide (g < f.frame)) } ∧
      (∀ k, (∀ e ∈ due, k ∉ (groupVals e.1 e.2).map Prod.fst) → (∀ f ∈ fwd, k ∉ (fwdVals f).map Prod.fst) →
        tget none d.ctl.rwlLatched k =
          if (tget none s.dev.ctl.rwlNew k).isSome then tget none s.dev.ctl.rwlNew k else tget none s.dev.ctl.rwlLatched k) ∧
      (∀ e ∈ due, ∀ k ∈ (groupVals e.1 e.2).map Prod.fst, (tget none d.ctl.rwlLatched k).isSome = true) ∧
      (∀ f ∈ fwd, ∀ k ∈ (fwdVals f).map Prod.fst, (tget none d.ctl.rwlLatched k).isSome = true) ∧
      (∀ e ∈ s.dev.ctl.groups, (if e.2.st = 2 ∧ e.2.due ≤ g then (e.1, { e.2 with latched := true }) else e) ∈ d.ctl.groups) ∧
      d.ctl.groups.length = s.dev.ctl.groups.length ∧
      SameEntriesBut [] s.dev d ∧ ChangesOnly [.now, .time, .ctl, .lnk, .grid] s.dev d := by
  have hctl : (advTo (cutAt s.dev s.dev.grid.nextC) s.dev).ctl = s.dev.ctl := advTo_ctl _ _
  have hlnk : (advTo (cutAt s.dev s.dev.grid.nextC) s.dev).lnk = s.dev.lnk := advTo_lnk _ _
  have hgrid : (advTo (cutAt s.dev s.dev.grid.nextC) s.dev).grid = s.dev.grid := advTo_grid _ _
  have honly := only_dictCutoff h
  have hrun : exec .dictCutoff s = .next { s with dev := cutTaken s.dev.grid.nextC (advTo (cutAt s.dev s.dev.grid.nextC) s.dev) } := by
    rw [← dictCutoff_eq h]
    exact run_ok rfl
  rw [dictCutoff_eq h] at honly
  refine ⟨_, hrun, ?_⟩
  have hnow := advTo_now (cutAt s.dev s.dev.grid.nextC) s.dev
  have hdict : (advTo (cutAt s.dev s.dev.grid.nextC) s.dev).dict = s.dev.dict := advTo_dict _ _
  revert honly hctl hlnk hgrid hnow hdict
  generalize advTo (cutAt s.dev s.dev.grid.nextC) s.dev = x
  intro hctl hlnk hgrid honly hnow hdict
  have hdue : dueGroups s.dev.grid.nextC x = dueGroups s.dev.grid.nextC s.dev := by rw [dueGroups, hctl]; rfl
  have hfwd : dueFwds s.dev.grid.nextC x = dueFwds s.dev.grid.nextC s.dev := by rw [dueFwds, hlnk]; rfl
  refine ⟨by rw [← hgrid]; rfl, hnow, by rw [← hlnk]; rfl, by rw [← hlnk]; rfl, fun k hd hf => ?_, fun e he k hk => ?_, fun f hf k hk => ?_,
    fun e he => ?_, ?_, seb_dict hdict, honly⟩
  · rw [← hctl]
    exact tget_latchedAt_of_notMem (by rwa [hdue]) (by rwa [hfwd])
  · exact isSome_latchedAt_of_group (by rwa [hdue]) hk
  · exact isSome_latchedAt_of_fwd (by rwa [hfwd]) hk
  · rw [← hctl] at he
    exact List.mem_map_of_mem he
  · rw [← hctl]
    exact List.length_map _

end Sys2Proof.Machine
end

section
/-! SUPPORT. The frame boundary (R37, R265): the fingerprint of the frame before and the pause at the boundary. -/

namespace Sys2Proof.Machine

/-! ### The frame boundary (R37, R265) -/

theorem dget_of_only {ps : List Part} {a b : Dev} (h : ChangesOnly ps a b) (hp : Part.dict ∉ ps) (r : Reg) : dget r b = dget r a := by
  unfold dget; rw [h .dict hp]

theorem frameOf_of_only {ps : List Part} {a b : Dev} (h : ChangesOnly ps a b) (hp : Part.frames ∉ ps) (n : Nat) : frameOf b n = frameOf a n := by
  unfold frameOf; rw [h .frames hp]

theorem only_frames (x : Tab Frame) (d : Dev) : ChangesOnly [.frames] d { d with frames := x } :=
  fun p hp => by cases p <;> first | exact absurd (by decide) hp | rfl
theorem only_modFrame (n : Nat) (g : Frame → Frame) (d : Dev) : ChangesOnly [.frames] d (modFrame n g d) := only_frames _ d
theorem only_grid (x : Grid) (d : Dev) : ChangesOnly [.grid] d { d with grid := x } :=
  fun p hp => by cases p <;> first | exact absurd (by decide) hp | rfl
theorem only_lnk (x : Links) (d : Dev) : ChangesOnly [.lnk] d { d with lnk := x } :=
  fun p hp => by cases p <;> first | exact absurd (by decide) hp | rfl
theorem only_ctx (x : Ctx) (d : Dev) : ChangesOnly [.ctx] d { d with ctx := x } :=
  fun p hp => by cases p <;> first | exact absurd (by decide) hp | rfl
theorem only_modCtx (g : Ctx → Ctx) (d : Dev) : ChangesOnly [.ctx] d (modCtx g d) := only_ctx _ d

theorem only_sendFlit (p ty : Nat) (ws : List Nat) (d : Dev) : ChangesOnly [.lnk] d (sendFlit p ty ws d) := by
  unfold sendFlit
  exact ChangesOnly.ite (only_lnk _ d) (ChangesOnly.refl _ _)

theorem only_sendStatus (n : Nat) (d : Dev) : ChangesOnly [.lnk] d (sendStatus n d) := by
  unfold sendStatus
  exact ChangesOnly.ite (only_sendFlit _ _ _ _) (ChangesOnly.refl _ _)

theorem only_clearSaved (c : Nat) (f : Chan → Chan) (d : Dev) : ChangesOnly [.ctx] d (clearSaved c f d) := by
  unfold clearSaved
  split
  · exact ChangesOnly.refl _ _
  · exact only_ctx _ d

theorem only_channelsAtBoundary (n : Nat) (d : Dev) : ChangesOnly [.chans, .ctx] d (channelsAtBoundary n d) := by
  refine ChangesOnly.foldl (fun e c => ?_) _ _
  refine ChangesOnly.then ?_ (only_setChan _ _ _) (ps := [.ctx]) (by decide) (by decide)
  exact ChangesOnly.ite (only_clearSaved _ _ _) (ChangesOnly.refl _ _)

/-- As a pause ends the frame is marked, and the front end is given back what was saved or cleared. -/
theorem only_resumeFront (r : Nat) (d : Dev) :
    ChangesOnly [.chans, .edges, .trig] (modFrame r (fun f => { f with resumed := true }) d) (resumeFront r d) := by
  have hedges (e : Tab EdgeIn) (t : Trig) (b : Dev) : ChangesOnly [.chans, .edges, .trig] b { b with edges := e, trig := t } :=
    fun p hp => by cases p <;> first | exact absurd (by decide) hp | rfl
  have hclear (c : Tab Chan) (e : Tab EdgeIn) (t : Trig) (b : Dev) :
      ChangesOnly [.chans, .edges, .trig] b { b with chans := c, edges := e, trig := t } :=
    fun p hp => by cases p <;> first | exact absurd (by decide) hp | rfl
  unfold resumeFront
  dsimp only
  generalize modFrame r (fun f => { f with resumed := true }) d = x
  refine ChangesOnly.trans ?_ ((only_trig _ _).mono (by decide))
  refine ChangesOnly.ite ?_ (hclear _ _ _ x)
  split
  · exact ChangesOnly.refl _ _
  · refine ChangesOnly.trans ?_ (hedges _ _ _)
    refine ChangesOnly.foldl (fun b c => ?_) _ _
    exact ChangesOnly.ite ((only_modChan _ _ _).mono (by decide)) (ChangesOnly.refl _ _)

theorem only_markPaused (n : Nat) (d : Dev) :
    ChangesOnly [.ctx] (modFrame n (fun f => { f with paused := true }) d) (markPaused n d) := by
  unfold markPaused
  exact only_modCtx _ _

/-- From block a to block b, only frame n may have been marked for a pause, and the context and the front end may have changed. -/
def PauseMarks (n : Nat) (a b : Dev) : Prop :=
  ChangesOnly [.frames, .ctx, .chans, .edges, .trig] a b ∧ (∀ k, k ≠ n → frameOf b k = frameOf a k) ∧
  (frameOf b n).lost = (frameOf a n).lost ∧ (frameOf b n).ringB = (frameOf a n).ringB

theorem pauseMarks_of_modFrame {n : Nat} {g : Frame → Frame} {a b : Dev} (hlost : (g (frameOf a n)).lost = (frameOf a n).lost)
    (hring : (g (frameOf a n)).ringB = (frameOf a n).ringB) (h : ChangesOnly [.ctx, .chans, .edges, .trig] (modFrame n g a) b) :
    PauseMarks n a b := by
  refine ⟨(only_modFrame n g a).then h (by decide) (by decide), fun k hk => ?_, ?_, ?_⟩ <;>
    rw [frameOf_of_only h (by decide)]
  · exact frameOf_modFrame_ne _ _ (Ne.symm hk)
  · rw [frameOf_modFrame_same, hlost]
  · rw [frameOf_modFrame_same, hring]

theorem pauseMarks_pauseAtBoundary (n : Nat) (d : Dev) : PauseMarks n d (pauseAtBoundary n d) := by
  unfold pauseAtBoundary
  split
  · exact pauseMarks_of_modFrame rfl rfl ((only_markPaused n d).mono (by decide))
  split
  · exact pauseMarks_of_modFrame rfl rfl ((only_resumeFront n d).mono (by decide))
  · exact ⟨ChangesOnly.refl _ _, fun _ _ => rfl, rfl, rfl⟩

theorem paused_pauseAtBoundary {n : Nat} {d : Dev} (h : pausing d n = true) : (frameOf (pauseAtBoundary n d) n).paused = true := by
  unfold pauseAtBoundary
  rw [if_pos h, frameOf_of_only (only_markPaused n d) (by decide), frameOf_modFrame_same]

/-! ### The fingerprint that waits, and the end of a frame (R264, R265) -/

/-- The frame whose fingerprint waited, and its fingerprint, are what the two entries show from now on. -/
theorem showFp_cases (d : Dev) :
    (d.grid.fpNext = none ∧ showFp d = d) ∨
      ∃ m t, d.grid.fpNext = some (m, t) ∧ dget R.LAST_FP_FRAME (showFp d) = m ∧
        dget R.LAST_FINGERPRINT (showFp d) = (frameOf d m).fpDigest.getD 0 := by
  unfold showFp
  rcases h : d.grid.fpNext with _ | ⟨m, t⟩
  · exact .inl ⟨rfl, rfl⟩
  · exact .inr ⟨m, t, rfl, dget_dset_same _ _ _, by rw [dget_dset_ne _ _ (by decide), dget_dset_same]⟩

theorem only_showFp (d : Dev) : ChangesOnly [.dict, .grid] d (showFp d) := by
  unfold showFp
  split
  · exact ChangesOnly.refl _ _
  · exact (only_grid _ d).then ((only_dset _ _ _).trans (only_dset _ _ _)) (by decide) (by decide)

theorem seb_showFp (d : Dev) : SameEntriesBut [R.LAST_FP_FRAME.key, R.LAST_FINGERPRINT.key] d (showFp d) := by
  unfold showFp
  split
  · exact seb_refl _ _
  · exact (seb_dict rfl).trans ((seb_dset (by decide) _ _).trans (seb_dset (by decide) _ _))

theorem grid_showFp (d : Dev) : (showFp d).grid = { d.grid with fpNext := none } := by
  unfold showFp
  split
  · next h => rw [← h]
  · rfl

/-- Frame m with its fingerprint. -/
def withFp (m : Nat) (d : Dev) : Dev :=
  modFrame m (fun f => { f with fpDigest := some (fingerprint d (frameOf d m).fpMask) }) (showFp d)

/-- The fingerprint of frame m is closed, and waits until it is shown. -/
def fpClosed (m : Nat) (d : Dev) : Dev := { withFp m d with grid := { (withFp m d).grid with fpNext := some (m, eAt (withFp m d) m + 64) } }

theorem only_withFp (m : Nat) (d : Dev) : ChangesOnly [.dict, .grid, .frames] d (withFp m d) :=
  (only_showFp d).then (only_modFrame m _ _) (by decide) (by decide)

theorem only_fpClosed (m : Nat) (d : Dev) : ChangesOnly [.dict, .grid, .frames] d (fpClosed m d) :=
  (only_withFp m d).trans ((only_grid _ _).mono (by decide))

theorem only_frameEnd (m : Nat) (d : Dev) : ChangesOnly [.dict, .grid, .frames, .lnk] d (frameEnd m d) :=
  (only_fpClosed m d).then (only_sendStatus m _) (by decide) (by decide)

theorem dget_frameEnd (m : Nat) (d : Dev) (r : Reg) : dget r (frameEnd m d) = dget r (showFp d) :=
  dget_of_only (only_sendStatus m _) (by decide) r

theorem eAt_withFp (m : Nat) (d : Dev) : eAt (withFp m d) m = eAt d m := by
  have hlen : dget R.FRAME_LENGTH (withFp m d) = dget R.FRAME_LENGTH d := seb_showFp d _ (by decide)
  have hgrid : (withFp m d).grid.b0 = d.grid.b0 := by
    show (showFp d).grid.b0 = _
    rw [grid_showFp]
  unfold eAt bAt fLen
  rw [hlen, hgrid]

theorem grid_frameEnd (m : Nat) (d : Dev) : (frameEnd m d).grid = { d.grid with fpNext := some (m, eAt d m + 64) } := by
  have hgrid : (frameEnd m d).grid = (fpClosed m d).grid := only_sendStatus m _ .grid (by decide)
  have hwith : (withFp m d).grid = { d.grid with fpNext := none } := grid_showFp d
  rw [hgrid, fpClosed, eAt_withFp, hwith]

theorem frameOf_showFp (m : Nat) (d : Dev) : frameOf (showFp d) m = frameOf d m := frameOf_of_only (only_showFp d) (by decide) m

theorem frameOf_frameEnd (m k : Nat) (d : Dev) : frameOf (frameEnd m d) k = frameOf (withFp m d) k :=
  frameOf_of_only (only_sendStatus m _) (by decide) k

theorem frameOf_frameEnd_same (m : Nat) (d : Dev) :
    frameOf (frameEnd m d) m = { frameOf d m with fpDigest := some (fingerprint d (frameOf d m).fpMask) } := by
  rw [frameOf_frameEnd, withFp, frameOf_modFrame_same, frameOf_showFp]

theorem frameOf_frameEnd_ne {m k : Nat} (d : Dev) (h : k ≠ m) : frameOf (frameEnd m d) k = frameOf d k := by
  rw [frameOf_frameEnd, withFp, frameOf_modFrame_ne _ _ (Ne.symm h), frameOf_showFp]

theorem fingerprint_advTo (t mask : Nat) (d : Dev) : fingerprint (advTo t d) mask = fingerprint d mask := by
  have hs : fpSamples (advTo t d) = fpSamples d := by
    funext c
    unfold fpSamples perFrame fLen
    rw [portOf_advTo, chanOf_advTo, dget_advTo]
  unfold fingerprint
  simp only [hs, portOf_advTo, dget_advTo]

/-! ### The boundary -/

/-- The end of the frame before frame n, where there is one. -/
def endBefore (n : Nat) (d : Dev) : Dev := if n = 0 then d else frameEnd (n - 1) d

/-- Frame n is begun in the grid and in its own record. -/
def frameBegun (n : Nat) (d : Dev) : Dev :=
  modFrame n (fun f => { f with lost := d.flt.losing, ringB := (d.ctx.ringBase + n - d.ctx.skipped) * fLen d })
    { d with grid := { d.grid with nextB := n + 1 } }

theorem frameBoundary_eq {d : Dev} (h : running d = true) (hn : d.grid.nextT = d.grid.nextB) :
    frameBoundary d = channelsAtBoundary d.grid.nextB (pauseAtBoundary d.grid.nextB
      (frameBegun d.grid.nextB (endBefore d.grid.nextB (advTo (bAt d d.grid.nextB) d)))) := by
  unfold frameBoundary
  rw [if_neg (by simp [h, hn])]
  dsimp only
  generalize advTo (bAt d d.grid.nextB) d = x
  rfl

theorem only_endBefore (n : Nat) (d : Dev) : ChangesOnly [.dict, .grid, .frames, .lnk] d (endBefore n d) :=
  ChangesOnly.ite (ChangesOnly.refl _ _) (only_frameEnd _ _)

theorem seb_frameEnd (m : Nat) (d : Dev) : SameEntriesBut [R.LAST_FP_FRAME.key, R.LAST_FINGERPRINT.key] d (frameEnd m d) :=
  fun r hr => (dget_frameEnd m d r).trans (seb_showFp d r hr)

theorem seb_endBefore (n : Nat) (d : Dev) : SameEntriesBut [R.LAST_FP_FRAME.key, R.LAST_FINGERPRINT.key] d (endBefore n d) :=
  seb_ite (seb_refl _ _) (seb_frameEnd _ _)

theorem grid_endBefore (n : Nat) (d : Dev) :
    (endBefore n d).grid = { d.grid with fpNext := if n = 0 then d.grid.fpNext else some (n - 1, eAt d (n - 1) + 64) } := by
  unfold endBefore
  split
  · rfl
  · exact grid_frameEnd _ _

theorem frameOf_endBefore {n k : Nat} (d : Dev) (h : k + 1 ≠ n) : frameOf (endBefore n d) k = frameOf d k := by
  unfold endBefore
  split
  · rfl
  · exact frameOf_frameEnd_ne d (by omega)

theorem fpDigest_endBefore {n : Nat} (d : Dev) (h : n ≠ 0) :
    (frameOf (endBefore n d) (n - 1)).fpDigest = some (fingerprint d (frameOf d (n - 1)).fpMask) := by
  rw [endBefore, if_neg h, frameOf_frameEnd_same]

theorem shown_endBefore {n m t : Nat} {d : Dev} (hn : n ≠ 0) (h : d.grid.fpNext = some (m, t)) :
    dget R.LAST_FP_FRAME (endBefore n d) = m ∧ dget R.LAST_FINGERPRINT (endBefore n d) = (frameOf d m).fpDigest.getD 0 := by
  rw [endBefore, if_neg hn, dget_frameEnd, dget_frameEnd]
  obtain ⟨hnone, -⟩ | ⟨m', t', heq, hframe, hdigest⟩ := showFp_cases d
  · exact absurd (hnone.symm.trans h) (by simp)
  · obtain ⟨rfl, -⟩ := Prod.mk.injEq .. ▸ Option.some.inj (heq.symm.trans h)
    exact ⟨hframe, hdigest⟩

/-- Whether frame n pauses depends on four entries, the resume that waits and the fault that waits. -/
theorem pausing_congr {a b : Dev} (n : Nat) (h : SameEntriesBut [R.LAST_FP_FRAME.key, R.LAST_FINGERPRINT.key] a b)
    (hctx : b.ctx = a.ctx) (hflt : b.flt = a.flt) : pausing b n = pausing a n := by
  unfold pausing pauseState
  rw [h R.PAUSE_STATE (by decide), h R.PAUSE_FRAME (by decide), h R.RESTART_STATE (by decide), hctx, hflt]

theorem grid_boundary {n : Nat} {a b : Dev} (h : PauseMarks n (frameBegun n a) b) : (channelsAtBoundary n b).grid = { a.grid with nextB := n + 1 } :=
  (only_channelsAtBoundary n b .grid (by decide)).trans (h.1 .grid (by decide))

/-- What the next frame boundary does while the array runs and the growth ring of the frame before has passed. -/
theorem completes_frameBoundary (s : State) (hrun : running s.dev = true) (hn : s.dev.grid.nextT = s.dev.grid.nextB) :
    Completes (exec .frameBoundary s) s fun d =>
      let n := s.dev.grid.nextB
      d.grid = { s.dev.grid with nextB := n + 1, fpNext := if n = 0 then s.dev.grid.fpNext else some (n - 1, eAt s.dev (n - 1) + 64) } ∧
      d.now = max (bAt s.dev n) s.dev.now ∧
      (frameOf d n).lost = s.dev.flt.losing ∧ (frameOf d n).ringB = (s.dev.ctx.ringBase + n - s.dev.ctx.skipped) * fLen s.dev ∧
      (pausing s.dev n = true → (frameOf d n).paused = true) ∧
      (n ≠ 0 → (frameOf d (n - 1)).fpDigest = some (fingerprint s.dev (frameOf s.dev (n - 1)).fpMask)) ∧
      (∀ m t, n ≠ 0 → s.dev.grid.fpNext = some (m, t) → dget R.LAST_FP_FRAME d = m ∧ dget R.LAST_FINGERPRINT d = (frameOf s.dev m).fpDigest.getD 0) ∧
      (∀ k, k ≠ n → k + 1 ≠ n → frameOf d k = frameOf s.dev k) ∧
      SameEntriesBut [R.LAST_FP_FRAME.key, R.LAST_FINGERPRINT.key] s.dev d ∧
      ChangesOnly [.now, .time, .dict, .grid, .frames, .chans, .lnk, .ctx, .edges, .trig] s.dev d := by
  refine ⟨frameBoundary s.dev, run_ok rfl, ?_⟩
  rw [frameBoundary_eq hrun hn]
  generalize s.dev = a
  generalize hnn : a.grid.nextB = n
  dsimp only
  generalize hx : advTo (bAt a n) a = x
  have hadv : ChangesOnly [.now, .time] a x := hx ▸ only_advTo _ _
  have hprint (mask : Nat) : fingerprint x mask = fingerprint a mask := hx ▸ fingerprint_advTo _ _ _
  have hnow : x.now = max (bAt a n) a.now := hx ▸ advTo_now _ _
  have hend := only_endBefore n x
  have hseb : SameEntriesBut [R.LAST_FP_FRAME.key, R.LAST_FINGERPRINT.key] a (endBefore n x) :=
    (seb_dict (hadv .dict (by decide))).trans (seb_endBefore n x)
  have hbegun : ChangesOnly [.grid, .frames] (endBefore n x) (frameBegun n (endBefore n x)) :=
    (only_grid _ _).then (only_modFrame n _ _) (by decide) (by decide)
  have hmarks := pauseMarks_pauseAtBoundary n (frameBegun n (endBefore n x))
  have hchans := only_channelsAtBoundary n (pauseAtBoundary n (frameBegun n (endBefore n x)))
  obtain ⟨hmonly, hother, hlost, hringB⟩ := hmarks
  have hframe (k : Nat) := frameOf_of_only hchans (by decide) k
  have hset : frameOf (frameBegun n (endBefore n x)) n = _ := frameOf_modFrame_same _ _ _
  have hbefore {k : Nat} (hk : k ≠ n) : frameOf (frameBegun n (endBefore n x)) k = frameOf (endBefore n x) k :=
    frameOf_modFrame_ne _ _ (Ne.symm hk)
  have hall (r : Reg) : dget r (channelsAtBoundary n (pauseAtBoundary n (frameBegun n (endBefore n x)))) = dget r (endBefore n x) :=
    (dget_of_only hchans (by decide) r).trans ((dget_of_only hmonly (by decide) r).trans (dget_of_only hbegun (by decide) r))
  have hctx : (endBefore n x).ctx = a.ctx := (hend .ctx (by decide)).trans (hadv .ctx (by decide))
  have hflt : (endBefore n x).flt = a.flt := (hend .flt (by decide)).trans (hadv .flt (by decide))
  have hxframe (k : Nat) := frameOf_of_only hadv (by decide) k
  have hxgrid : x.grid = a.grid := hadv .grid (by decide)
  refine ⟨?_, ?_, ?_, ?_, fun hp => ?_, fun h0 => ?_, fun m t h0 hfp => ?_, fun k hk hk1 => ?_, ?_, ?_⟩
  · rw [grid_boundary (pauseMarks_pauseAtBoundary n _), grid_endBefore, hxgrid]
    unfold eAt bAt fLen
    rw [hxgrid, dget_of_only hadv (by decide)]
  · rw [← hnow]
    exact (hchans .now (by decide)).trans ((hmonly .now (by decide)).trans ((hbegun .now (by decide)).trans (hend .now (by decide))))
  · rw [hframe, hlost, hset]
    exact congrArg Flt.losing hflt
  · rw [hframe, hringB, hset]
    show ((endBefore n x).ctx.ringBase + n - (endBefore n x).ctx.skipped) * dget R.FRAME_LENGTH (endBefore n x) = _
    rw [hctx, hseb R.FRAME_LENGTH (by decide), fLen]
  · rw [hframe]
    refine paused_pauseAtBoundary ?_
    rw [← hp]
    exact pausing_congr n (fun r hr => (dget_of_only hbegun (by decide) r).trans (hseb r hr)) ((hbegun .ctx (by decide)).trans hctx)
      ((hbegun .flt (by decide)).trans hflt)
  · have hk : n - 1 ≠ n := by omega
    rw [hframe, hother _ hk, hbefore hk, fpDigest_endBefore x h0, hprint, hxframe]
  · rw [hall, hall, ← hxframe]
    exact shown_endBefore h0 (by rw [hxgrid, hfp])
  · rw [hframe, hother _ hk, hbefore hk, frameOf_endBefore x hk1, hxframe]
  · exact fun r hr => (hall r).trans (hseb r hr)
  · exact (hadv.then hend (rs := [.now, .time, .dict, .grid, .frames, .lnk]) (by decide) (by decide)).then
      (hbegun.then (hmonly.then hchans (rs := [.frames, .ctx, .chans, .edges, .trig]) (by decide) (by decide))
        (rs := [.grid, .frames, .ctx, .chans, .edges, .trig]) (by decide) (by decide)) (by decide) (by decide)

end Sys2Proof.Machine
end

section
/-! SUPPORT. Reading the fingerprint and its frame (R265). -/

namespace Sys2Proof.Machine

/-! ### Reading the fingerprint (R265) -/

/-- The entry of the fingerprint, and that of its frame. -/
theorem findEntry_fp :
    (findEntry 0x3060 3).map (fun e => (e.access, tyBytes e.ty)) = some (.ro, 16) ∧
      (findEntry 0x3060 4).map (fun e => (e.access, tyBytes e.ty)) = some (.ro, 8) := by decide +kernel

theorem idxExists_fp : idxExists 0x3060 = true := by decide +kernel

theorem regOf_fp : regOf 0x306003 = R.LAST_FINGERPRINT ∧ regOf 0x306004 = R.LAST_FP_FRAME := by decide +kernel

theorem computed_lastFingerprint (c : Nat) (d : Dev) : computed c 0x306003 d = (shownFp d).map Prod.snd := by
  unfold computed
  repeat rw [if_neg (by decide)]
  exact if_pos (by decide)
theorem computed_lastFpFrame (c : Nat) (d : Dev) : computed c 0x306004 d = (shownFp d).map Prod.fst := by
  unfold computed
  repeat rw [if_neg (by decide)]
  exact if_pos (by decide)

theorem readEntry_of_find {c idx sub n : Nat} {d : Dev} (hidx : idxExists idx = true) (hsub : sub ≠ 0) (hst : stagingAt idx sub = none)
    (hfind : (findEntry idx sub).map (fun e => (e.access, tyBytes e.ty)) = some (.ro, n)) :
    readEntry c idx sub d = .ok ((computed c (idx * 256 + sub) d).getD (dget (regOf (idx * 256 + sub)) d), n) := by
  obtain ⟨e, he, heq⟩ := Option.map_eq_some_iff.mp hfind
  obtain ⟨hacc, hty⟩ := Prod.mk.injEq .. ▸ heq
  unfold readEntry
  rw [if_neg (by rw [hidx]; decide), if_neg hsub, hst]
  simp only [he, hacc, hty]
  rfl

/-- The two entries show the fingerprint that waits from its time on. -/
theorem readEntry_fingerprint (c n y t : Nat) (d : Dev) (hnext : d.grid.fpNext = some (n, t)) (hy : (frameOf d n).fpDigest = some y) :
    readEntry c 0x3060 3 d = .ok (if t ≤ d.now then y else dget R.LAST_FINGERPRINT d, 16) ∧
    readEntry c 0x3060 4 d = .ok (if t ≤ d.now then n else dget R.LAST_FP_FRAME d, 8) := by
  have hshown : shownFp d = if t ≤ d.now then some (n, y) else none := by
    unfold shownFp
    rw [hnext]
    dsimp only
    rw [hy]
    rfl
  obtain ⟨h3, h4⟩ := findEntry_fp
  obtain ⟨hr3, hr4⟩ := regOf_fp
  rw [readEntry_of_find idxExists_fp (by decide) (by decide) h3, readEntry_of_find idxExists_fp (by decide) (by decide) h4,
    computed_lastFingerprint, computed_lastFpFrame, hshown, hr3, hr4]
  by_cases ht : t ≤ d.now
  · rw [if_pos ht, if_pos ht, if_pos ht]
    exact ⟨rfl, rfl⟩
  · rw [if_neg ht, if_neg ht, if_neg ht]
    exact ⟨rfl, rfl⟩

end Sys2Proof.Machine
end

section
/-! SUPPORT. The passage of a core by the growth ring's marker (R116, R155). -/

namespace Sys2Proof.Machine

/-! ### The growth ring's passage of a core (R116, R155) -/

/-- From block a to block b, core key keeps its context and its last growth ring, and so do all other cores all they hold; the time, the
grid and the context of every frame stay. -/
def CoreKeeps (key : Nat) (a b : Dev) : Prop :=
  ((coreOf b key).ctx, (coreOf b key).lastRing) = ((coreOf a key).ctx, (coreOf a key).lastRing) ∧
  (∀ k, k ≠ key → coreOf b k = coreOf a k) ∧ b.now = a.now ∧ b.grid = a.grid ∧ ∀ n, (frameOf b n).ctx = (frameOf a n).ctx

theorem CoreKeeps.refl (key : Nat) (a : Dev) : CoreKeeps key a a := ⟨rfl, fun _ _ => rfl, rfl, rfl, fun _ => rfl⟩

theorem CoreKeeps.trans {key : Nat} {a b c : Dev} (h : CoreKeeps key a b) (g : CoreKeeps key b c) : CoreKeeps key a c := by
  obtain ⟨hcore, hother, hnow, hgrid, hctx⟩ := h
  obtain ⟨gcore, gother, gnow, ggrid, gctx⟩ := g
  exact ⟨gcore.trans hcore, fun k hk => (gother k hk).trans (hother k hk), gnow.trans hnow, ggrid.trans hgrid,
    fun n => (gctx n).trans (hctx n)⟩

theorem CoreKeeps.foldl {key : Nat} {α : Type} {f : Dev → α → Dev} (h : ∀ d x, CoreKeeps key d (f d x)) (l : List α) (d : Dev) :
    CoreKeeps key d (l.foldl f d) := by
  induction l generalizing d with
  | nil => exact CoreKeeps.refl _ _
  | cons x l ih => exact (h d x).trans (ih _)

theorem CoreKeeps.of_only {key : Nat} {ps : List Part} {a b : Dev} (h : ChangesOnly ps a b) (hn : Part.now ∉ ps) (hg : Part.grid ∉ ps)
    (hc : Part.cores ∉ ps) (hf : Part.frames ∉ ps) : CoreKeeps key a b := by
  have hcores : ∀ k, coreOf b k = coreOf a k := fun k => by unfold coreOf; rw [h .cores hc]
  exact ⟨by rw [hcores], fun k _ => hcores k, h .now hn, h .grid hg, fun n => by rw [frameOf_of_only h hf]⟩

theorem coreKeeps_setCore {key : Nat} {x : Core} {d : Dev} (h : (x.ctx, x.lastRing) = ((coreOf d key).ctx, (coreOf d key).lastRing)) :
    CoreKeeps key d (setCore key x d) :=
  ⟨by rw [coreOf_setCore_same, h], fun _ hk => coreOf_setCore_ne _ _ (Ne.symm hk), rfl, rfl, fun _ => rfl⟩

theorem coreKeeps_invalidate (key n : Nat) (d : Dev) : CoreKeeps key d (invalidate n d) := by
  unfold invalidate
  split
  · exact CoreKeeps.refl _ _
  · refine ⟨rfl, fun _ _ => rfl, rfl, rfl, fun m => ?_⟩
    by_cases hm : n = m
    · rw [hm, frameOf_modFrame_same]
    · rw [frameOf_modFrame_ne _ _ hm]

theorem coreKeeps_schedFrame (key row n : Nat) (d : Dev) : CoreKeeps key d (schedFrame row n d) := by
  unfold schedFrame
  refine CoreKeeps.trans ?_ (coreKeeps_invalidate _ _ _)
  refine CoreKeeps.trans ?_ (CoreKeeps.of_only (only_report (by decide) _ _ _) (by decide) (by decide) (by decide) (by decide))
  refine CoreKeeps.trans ?_ (CoreKeeps.of_only (only_dset _ _ _) (by decide) (by decide) (by decide) (by decide))
  dsimp only
  split
  · exact CoreKeeps.refl _ _
  · refine CoreKeeps.trans ?_ (CoreKeeps.of_only (only_bump _ _) (by decide) (by decide) (by decide) (by decide))
    exact ⟨rfl, fun _ _ => rfl, rfl, rfl, fun _ => rfl⟩

theorem coreKeeps_schedFault (key row n : Nat) (r : Reg) (d : Dev) : CoreKeeps key d (schedFault row n r d) :=
  (CoreKeeps.of_only (only_bump r d) (by decide) (by decide) (by decide) (by decide)).trans (coreKeeps_schedFrame _ _ _ _)

theorem coreKeeps_bumpBy (key : Nat) (r : Reg) (n : Nat) (d : Dev) : CoreKeeps key d (bumpBy r n d) :=
  CoreKeeps.of_only (only_bumpBy r n d) (by decide) (by decide) (by decide) (by decide)

theorem coreKeeps_landSlot (key t i : Nat) (d : Dev) : CoreKeeps key d (landSlot key t i d) := by
  rcases h : (queueOf (coreOf d key) i).find? (fun x => decide (16 ≤ x.pr ∧ x.due ≤ t)) with _ | x
  · simp only [landSlot, h]
    exact CoreKeeps.refl _ _
  · simp only [landSlot, h]
    split
    · refine CoreKeeps.trans (coreKeeps_setCore ?_) (coreKeeps_schedFault _ _ _ _ _)
      rfl
    · refine coreKeeps_setCore ?_
      rfl

theorem coreKeeps_landSlots (key t : Nat) (d : Dev) : CoreKeeps key d (landSlots key t d) :=
  CoreKeeps.foldl (fun _ i => CoreKeeps.foldl (fun _ _ => coreKeeps_landSlot key t i _) _ _) _ _

theorem coreKeeps_staleDiscard (key g : Nat) (d : Dev) : CoreKeeps key d (staleDiscard key g d) := by
  unfold staleDiscard
  refine CoreKeeps.trans ?_ (CoreKeeps.foldl (fun _ _ => coreKeeps_schedFrame _ _ _ _) _ _)
  refine CoreKeeps.trans (coreKeeps_setCore ?_) (coreKeeps_bumpBy _ _ _ _)
  rfl

theorem coreKeeps_resyncCore (key g : Nat) (d : Dev) : CoreKeeps key d (resyncCore key g d) := by
  unfold resyncCore
  dsimp only
  split
  · exact CoreKeeps.refl _ _
  · refine CoreKeeps.trans (coreKeeps_setCore ?_) (CoreKeeps.foldl (fun _ k => coreKeeps_invalidate key _ _) _ _)
    rfl

/-- An overlay that is copied writes memories of the core, and neither its context nor its growth ring. -/
theorem keeps_copyOverlays (c : Core) : ((copyOverlays c).ctx, (copyOverlays c).lastRing) = (c.ctx, c.lastRing) := by
  unfold copyOverlays
  dsimp only
  generalize List.range 4 = l
  induction l generalizing c with
  | nil => rfl
  | cons k l ih =>
    rw [List.foldl_cons, ih]
    split
    · rfl
    split
    · rfl
    split
    · rfl
    split <;> rfl

/-- The overlays of the core that are due at the growth ring of frame g are copied. -/
def overlaysIn (key g : Nat) (d : Dev) : Dev :=
  match (coreOf d key).ovlFrom with
  | some f => if max f ((coreOf d key).ovlHeld.getD 0) + 2 ≤ g then
      modCore key copyOverlays { d with enc := { d.enc with toCopy := d.enc.toCopy.erase key } }
    else d
  | none => d

theorem coreKeeps_overlaysIn (key g : Nat) (d : Dev) : CoreKeeps key d (overlaysIn key g d) := by
  unfold overlaysIn
  split
  · split
    · exact CoreKeeps.trans (CoreKeeps.of_only (only_enc _ d) (by decide) (by decide) (by decide) (by decide))
        (coreKeeps_setCore (keeps_copyOverlays _))
    · exact CoreKeeps.refl _ _
  · exact CoreKeeps.refl _ _

/-- The marker of frame g at the core: the core is settled and takes the context it is to run. -/
def markerTaken (key g : Nat) (d : Dev) : Dev :=
  modCore key (fun c =>
    settle d.now { wdSettle d.now c with ctx := if d.grid.endF.isSome then c.ctx else (frameOf d g).ctx, lastRing := some g }) d

theorem growthRingAtCore_eq {key g x y : Nat} {d : Dev} (hacts : actsAs d key = some (x, y)) (hg : d.grid.endF.getD (curFrame d) = g)
    (hnext : d.grid.nextT ≠ 0) (hon : coresOn d = true) (hlast : (coreOf d key).lastRing ≠ some g) :
    growthRingAtCore key d = overlaysIn key g (resyncCore key g (staleDiscard key g (markerTaken key g
      (landSlots key (t0At d g + markerDelay d x y) (advTo (t0At d g + markerDelay d x y) d))))) := by
  subst hg
  unfold growthRingAtCore
  rw [hacts]
  dsimp -zeta only
  extract_lets g t z m u v
  have hif : ¬ (d.grid.nextT = 0 ∨ (coreOf d key).lastRing = some g ∨ coresOn d = false) := by
    rintro (h | h | h)
    · exact hnext h
    · exact hlast h
    · exact absurd (hon.symm.trans h) (by decide)
  rw [if_neg hif]
  have hm : m = markerTaken key g z := rfl
  have hu : u = staleDiscard key g m := rfl
  have hv : v = resyncCore key g u := rfl
  clear_value v u m
  rw [← hm, ← hu, ← hv]
  unfold overlaysIn
  rfl

theorem coreKeeps_afterMarker (key g : Nat) (d : Dev) : CoreKeeps key d (overlaysIn key g (resyncCore key g (staleDiscard key g d))) :=
  (coreKeeps_staleDiscard key g d).trans ((coreKeeps_resyncCore key g _).trans (coreKeeps_overlaysIn key g _))

theorem lastRing_markerTaken (key g : Nat) (d : Dev) : (coreOf (markerTaken key g d) key).lastRing = some g := by
  rw [markerTaken, coreOf_modCore_same]
  rfl

theorem ctx_markerTaken (key g : Nat) (d : Dev) :
    (coreOf (markerTaken key g d) key).ctx = if d.grid.endF.isSome then (coreOf d key).ctx else (frameOf d g).ctx := by
  rw [markerTaken, coreOf_modCore_same]
  rfl

theorem coreOf_markerTaken_ne {key k : Nat} (g : Nat) (d : Dev) (h : k ≠ key) : coreOf (markerTaken key g d) k = coreOf d k :=
  coreOf_modCore_ne _ _ (Ne.symm h)

/-- What the marker's passage of a core does. -/
theorem completes_growthRingAtCore (core x y : Nat) (s : State) (hcore : core < 51200) (hcol : core % 256 < 128)
    (hacts : actsAs s.dev core = some (x, y)) (hnext : s.dev.grid.nextT ≠ 0) (hon : coresOn s.dev = true)
    (hlast : (coreOf s.dev core).lastRing ≠ some (s.dev.grid.endF.getD (curFrame s.dev))) :
    Completes (exec (.growthRingAtCore core) s) s fun d =>
      let g := s.dev.grid.endF.getD (curFrame s.dev)
      (coreOf d core).lastRing = some g ∧
      (coreOf d core).ctx = (if s.dev.grid.endF.isSome then (coreOf s.dev core).ctx else (frameOf s.dev g).ctx) ∧
      d.now = max (t0At s.dev g + markerDelay s.dev x y) s.dev.now ∧ (∀ k, k ≠ core → coreOf d k = coreOf s.dev k) := by
  have hkey : (coreKey core && decide (core < 65536)) = true := by
    have hrow : core / 256 < 200 := by omega
    have hlt : core < 65536 := by omega
    simp [coreKey, hrow, hcol, hlt]
  refine ⟨growthRingAtCore core s.dev, run_ok hkey, ?_⟩
  rw [growthRingAtCore_eq hacts rfl hnext hon hlast]
  generalize s.dev = a
  dsimp only
  generalize a.grid.endF.getD (curFrame a) = g
  generalize t0At a g + markerDelay a x y = t
  obtain ⟨hz, hzother, hznow, hzgrid, hzctx⟩ := coreKeeps_landSlots core t (advTo t a)
  generalize landSlots core t (advTo t a) = z at *
  obtain ⟨hd, hdother, hdnow, -, -⟩ := coreKeeps_afterMarker core g (markerTaken core g z)
  obtain ⟨hdctx, hdring⟩ := Prod.mk.injEq .. ▸ hd
  obtain ⟨hzcore, -⟩ := Prod.mk.injEq .. ▸ hz
  refine ⟨?_, ?_, ?_, fun k hk => ?_⟩
  · rw [hdring, lastRing_markerTaken]
  · rw [hdctx, ctx_markerTaken, hzcore, hzctx, hzgrid, coreOf_advTo, frameOf_advTo, advTo_grid]
  · rw [hdnow, ← advTo_now, ← hznow]
    rfl
  · rw [hdother k hk, coreOf_markerTaken_ne g z hk, hzother k hk, coreOf_advTo]

end Sys2Proof.Machine
end

section
/-! SUPPORT. What the operations of a growth ring leave alone: the time, the grid and the unlatches that wait. -/

namespace Sys2Proof.Machine

/-! ### What a growth ring's operations leave alone -/

/-- The time, the grid and the unlatches that wait are the same in block b as in block a. -/
def RingKeeps (a b : Dev) : Prop := b.now = a.now ∧ b.grid = a.grid ∧ b.trig.unlatchNew = a.trig.unlatchNew

theorem RingKeeps.refl (a : Dev) : RingKeeps a a := ⟨rfl, rfl, rfl⟩

theorem RingKeeps.trans {a b c : Dev} (h : RingKeeps a b) (g : RingKeeps b c) : RingKeeps a c := by
  obtain ⟨hnow, hgrid, hnew⟩ := h
  obtain ⟨gnow, ggrid, gnew⟩ := g
  exact ⟨gnow.trans hnow, ggrid.trans hgrid, gnew.trans hnew⟩

theorem RingKeeps.ite {p : Prop} [Decidable p] {a b c : Dev} (h : RingKeeps a b) (g : RingKeeps a c) : RingKeeps a (if p then b else c) := by
  split <;> assumption

theorem RingKeeps.foldl {α : Type} {f : Dev → α → Dev} (h : ∀ d x, RingKeeps d (f d x)) (l : List α) (d : Dev) :
    RingKeeps d (l.foldl f d) := by
  induction l generalizing d with
  | nil => exact RingKeeps.refl _
  | cons x l ih => exact (h d x).trans (ih _)

/-- The parts of the block that hold neither the time nor the grid nor an unlatch. -/
def ringParts : List Part :=
  [.dict, .fuses, .pins, .ctl, .pll, .ports, .lanes, .chans, .edges, .cores, .fab, .enc, .ldr, .frames, .flt, .host, .time, .store, .engs,
   .clus, .ctx, .lnk, .pwr, .sec, .sys, .undef, .freeCtr]

theorem RingKeeps.of_only {ps : List Part} {a b : Dev} (h : ChangesOnly ps a b) (hs : ps ⊆ ringParts) : RingKeeps a b :=
  have hout {p : Part} (hp : p ∉ ringParts) : p ∉ ps := fun hm => hp (hs hm)
  ⟨h .now (hout (by decide)), h .grid (hout (by decide)), congrArg Trig.unlatchNew (h .trig (hout (by decide)))⟩

theorem ringKeeps_dset (r : Reg) (v : Nat) (d : Dev) : RingKeeps d (dset r v d) := ⟨rfl, rfl, rfl⟩
theorem ringKeeps_bump (r : Reg) (d : Dev) : RingKeeps d (bump r d) := RingKeeps.of_only (only_bump r d) (by decide)
theorem ringKeeps_msi (v : Nat) (d : Dev) : RingKeeps d (msi v d) := RingKeeps.of_only (only_msi v d) (by decide)
theorem ringKeeps_pushRec (r : Nat) (x : Rec) (d : Dev) : RingKeeps d (pushRec r x d) := RingKeeps.of_only (only_pushRec r x d) (by decide)
theorem ringKeeps_report {c : Nat} (h : c < 0x3000) (a0 a1 : Nat) (d : Dev) : RingKeeps d (report c a0 a1 d) :=
  RingKeeps.of_only (only_report h a0 a1 d) (by decide)

theorem ringKeeps_ldr (x : Ldr) (d : Dev) : RingKeeps d { d with ldr := x } := ⟨rfl, rfl, rfl⟩
theorem ringKeeps_modFlt (g : Flt → Flt) (d : Dev) : RingKeeps d (modFlt g d) := ⟨rfl, rfl, rfl⟩
theorem ringKeeps_modFrame (n : Nat) (g : Frame → Frame) (d : Dev) : RingKeeps d (modFrame n g d) := ⟨rfl, rfl, rfl⟩
theorem ringKeeps_modCore (k : Nat) (g : Core → Core) (d : Dev) : RingKeeps d (modCore k g d) := ⟨rfl, rfl, rfl⟩
theorem ringKeeps_modRing (r : Nat) (g : Ring → Ring) (d : Dev) : RingKeeps d (modRing r g d) := ⟨rfl, rfl, rfl⟩

/-! #### Reports and the class D reaction (R430, R434) -/

theorem ringKeeps_collect (code a0 a1 : Nat) (w : Bool) (d : Dev) : RingKeeps d (collect code a0 a1 w d) := by
  have h : collect code a0 a1 w d = _ := dhf_collect code a0 a1 w d
  rw [h]
  exact ⟨rfl, rfl, rfl⟩

theorem ringKeeps_raiseEpochs (d : Dev) : RingKeeps d (raiseEpochs d) := RingKeeps.foldl (fun _ _ => ringKeeps_modRing _ _ _) _ _

theorem ringKeeps_modFramesFrom (n : Nat) (g : Frame → Frame) (d : Dev) : RingKeeps d (modFramesFrom n g d) :=
  RingKeeps.foldl (fun _ _ => RingKeeps.ite (ringKeeps_modFrame _ _ _) (RingKeeps.refl _)) _ _

theorem ringKeeps_loseFrames (d : Dev) : RingKeeps d (loseFrames d) := by
  unfold loseFrames
  dsimp only
  split
  · exact ringKeeps_modFramesFrom _ _ _
  · exact (ringKeeps_modFramesFrom _ _ _).trans ⟨rfl, rfl, rfl⟩

theorem ringKeeps_stopArray (d : Dev) : RingKeeps d (stopArray d) := ⟨rfl, rfl, rfl⟩

theorem ringKeeps_linesSafe (d : Dev) : RingKeeps d (linesSafe d) := ⟨rfl, rfl, rfl⟩

theorem ringKeeps_deviceFault (code : Nat) (d : Dev) : RingKeeps d (deviceFault code d) := by
  unfold deviceFault
  dsimp only
  refine RingKeeps.trans ?_ (ringKeeps_dset _ _ _)
  refine RingKeeps.trans ?_ (ringKeeps_linesSafe _)
  refine RingKeeps.trans ?_ (RingKeeps.of_only (only_flt _ _) (by decide))
  refine RingKeeps.trans ?_ (ringKeeps_stopArray _)
  have hraised : RingKeeps d (if restartState d ≠ 0 ∧ d.flt.dev = none then raiseEpochs d else d) :=
    RingKeeps.ite (ringKeeps_raiseEpochs d) (RingKeeps.refl d)
  exact hraised.trans (RingKeeps.ite (ringKeeps_loseFrames _) (RingKeeps.refl _))

theorem reportW_deviceFault (a0 a1 : Nat) (d : Dev) :
    report 0x4542 a0 a1 d = driveFaultN (deviceFault 0x4542 (collect 0x4542 a0 a1 false d)) := rfl

/-- A fourth restart within 60 s is a fault of class D (R441). -/
theorem ringKeeps_reportFourth (a0 a1 : Nat) (d : Dev) : RingKeeps d (report 0x4542 a0 a1 d) := by
  rw [reportW_deviceFault]
  exact (ringKeeps_collect _ _ _ _ _).trans ((ringKeeps_deviceFault _ _).trans (RingKeeps.of_only (only_driveFaultN _) (by decide)))

/-! #### What a restart abandons (R436) -/

theorem ringKeeps_encState (v : Nat) (d : Dev) : RingKeeps d (encState v d) :=
  RingKeeps.ite (RingKeeps.refl _) ((ringKeeps_dset _ _ _).trans (ringKeeps_msi _ _))

theorem ringKeeps_dropStaged (d : Dev) : RingKeeps d (dropStaged d) :=
  (RingKeeps.foldl (fun _ _ => ringKeeps_modCore _ _ _) _ d).trans ⟨rfl, rfl, rfl⟩

theorem ringKeeps_encAtRestart (d : Dev) : RingKeeps d (encAtRestart d) :=
  RingKeeps.ite ((ringKeeps_dropStaged d).trans (ringKeeps_encState _ _)) (RingKeeps.refl _)

theorem ringKeeps_dropHolds (c : Nat) (d : Dev) : RingKeeps d (dropHolds c d) :=
  RingKeeps.foldl (fun e _ => RingKeeps.trans (b := freeGroup _ e) ⟨rfl, rfl, rfl⟩ (ringKeeps_bump _ _)) _ _

theorem ringKeeps_showMons (d : Dev) : RingKeeps d (showMons d) := ⟨rfl, rfl, rfl⟩

theorem ringKeeps_clearMons (slot : Nat) (d : Dev) : RingKeeps d (clearMons slot d) :=
  (RingKeeps.foldl (fun _ _ => ringKeeps_dset _ _ _) _ d).trans (RingKeeps.trans ⟨rfl, rfl, rfl⟩ (ringKeeps_showMons _))

theorem ringKeeps_endJob (j : Job) (status : Nat) (ran : Bool) (d : Dev) : RingKeeps d (endJob j status ran d) := by
  unfold endJob
  dsimp only
  generalize hrec : pushRec 4 _ d = e
  have hpushed : RingKeeps d e := hrec ▸ ringKeeps_pushRec 4 _ d
  refine hpushed.trans ?_
  exact RingKeeps.ite (ringKeeps_bump _ _) (RingKeeps.ite (ringKeeps_bump _ _) (RingKeeps.ite (ringKeeps_bump _ _) (RingKeeps.refl _)))

theorem ringKeeps_leaveClus (c st : Nat) (d : Dev) : RingKeeps d (leaveClus c st d) := by
  unfold leaveClus
  refine RingKeeps.trans (b := setClus c { clusOf d c with job := none } d) ⟨rfl, rfl, rfl⟩ ?_
  exact RingKeeps.trans (RingKeeps.ite (RingKeeps.refl _) (ringKeeps_dset _ _ _)) ⟨rfl, rfl, rfl⟩

theorem ringKeeps_finishJob (c status : Nat) (d : Dev) : RingKeeps d (finishJob c status d) := by
  unfold finishJob
  split
  · exact RingKeeps.refl _
  · exact (ringKeeps_leaveClus _ _ d).trans (ringKeeps_endJob _ _ _ _)

theorem ringKeeps_endNetJobs (slot : Nat) (d : Dev) : RingKeeps d (endNetJobs slot d) := by
  refine RingKeeps.foldl (fun e c => ?_) _ _
  dsimp only
  refine RingKeeps.trans (b := match (clusOf e c).job with
    | some j => if decide (j.net / 4 = slot) then finishJob c 6 e else e
    | none => e) ?_ (RingKeeps.trans ?_ (RingKeeps.foldl (fun _ _ => ringKeeps_endJob _ _ _ _) _ _))
  · split
    · exact RingKeeps.ite (ringKeeps_finishJob _ _ _) (RingKeeps.refl _)
    · exact RingKeeps.refl _
  · exact ⟨rfl, rfl, rfl⟩

theorem ringKeeps_showNets (d : Dev) : RingKeeps d (showNets d) :=
  (RingKeeps.foldl (fun _ _ => (ringKeeps_dset _ _ _).trans (ringKeeps_dset _ _ _)) _ d).trans (ringKeeps_dset _ _ _)

theorem ringKeeps_unloadNets (slot : Nat) (d : Dev) : RingKeeps d (unloadNets slot d) :=
  (ringKeeps_endNetJobs slot d).trans ((ringKeeps_ldr _ _).trans (ringKeeps_showNets _))

theorem ringKeeps_showLoader (d : Dev) : RingKeeps d (showLoader d) := ⟨rfl, rfl, rfl⟩

theorem ringKeeps_emptySlot (slot : Nat) (d : Dev) : RingKeeps d (emptySlot slot d) := by
  have hcleared : RingKeeps d (clearSlot slot d) := ⟨rfl, rfl, rfl⟩
  have hforgot (e : Dev) : RingKeeps e (forgetMons slot e) := ⟨rfl, rfl, rfl⟩
  have hshown (e : Dev) (v w : Nat) (r q : Reg) : RingKeeps e (dset r v (dset q w e)) := ⟨rfl, rfl, rfl⟩
  have hgone := ((hcleared.trans (ringKeeps_clearMons slot _)).trans (hforgot _)).trans (ringKeeps_unloadNets slot _)
  unfold emptySlot
  dsimp only
  refine RingKeeps.trans ?_ (ringKeeps_showLoader _)
  refine RingKeeps.trans (RingKeeps.trans (RingKeeps.trans ?_ (hshown _ _ _ _ _)) (hshown _ _ _ _ _)) (hshown _ _ _ _ _)
  exact hgone.trans (ringKeeps_ldr _ _)

theorem ringKeeps_loadState (v : Nat) (d : Dev) : RingKeeps d (loadState v d) :=
  (ringKeeps_dset _ _ d).trans (RingKeeps.ite (ringKeeps_msi _ _) (RingKeeps.refl _))

theorem ringKeeps_failLoad (e : LoadErr) (d : Dev) : RingKeeps d (failLoad e d) := by
  unfold failLoad
  split
  · exact RingKeeps.refl _
  · dsimp only
    refine RingKeeps.trans ?_ (ringKeeps_loadState _ _)
    refine RingKeeps.trans (b := dset R.LOAD_ERROR_DETAIL e.2 (dset R.LOAD_ERROR e.1 (dropHolds 1 { d with ldr := { d.ldr with job := none } }))) ?_ ?_
    · exact (ringKeeps_ldr _ d).trans ((ringKeeps_dropHolds _ _).trans ((ringKeeps_dset _ _ _).trans (ringKeeps_dset _ _ _)))
    · exact RingKeeps.ite (RingKeeps.refl _)
        ((RingKeeps.ite (ringKeeps_dset _ _ _) (ringKeeps_emptySlot _ _)).trans (ringKeeps_report (by decide) _ _ _))

theorem ringKeeps_abandonLoad (d : Dev) : RingKeeps d (abandonLoad d) := RingKeeps.ite (ringKeeps_failLoad _ d) (RingKeeps.refl _)

theorem ringKeeps_pauseAtRestart (d : Dev) : RingKeeps d (pauseAtRestart d) := RingKeeps.ite (ringKeeps_dset _ _ _) (RingKeeps.refl _)

theorem ringKeeps_restartBegin (d : Dev) : RingKeeps d (restartBegin d) := by
  unfold restartBegin
  dsimp only
  refine RingKeeps.ite (RingKeeps.refl _) ?_
  have hlost : RingKeeps d (bump R.JOB_RESTARTS (loseFrames d)) := (ringKeeps_loseFrames d).trans (ringKeeps_bump _ _)
  generalize bump R.JOB_RESTARTS (loseFrames d) = x at hlost ⊢
  refine hlost.trans ?_
  have hpause (e : Dev) : RingKeeps e (pauseAtRestart (abandonLoad (encAtRestart e))) :=
    (ringKeeps_encAtRestart e).trans ((ringKeeps_abandonLoad _).trans (ringKeeps_pauseAtRestart _))
  have hbegun : RingKeeps x { x with undefNew := false } := ⟨rfl, rfl, rfl⟩
  have hshown (e : Dev) : RingKeeps e (stopArray (dset R.RESTART_STATE 1 (dset R.LAST_RESTART_FIRST e.flt.firstLost e))) :=
    (ringKeeps_dset _ _ e).trans ((ringKeeps_dset _ _ _).trans (ringKeeps_stopArray _))
  have hdone (g : Flt → Flt) := ((hbegun.trans (ringKeeps_modFlt g _)).trans (hshown _)).trans (hpause _)
  exact RingKeeps.ite ((hdone _).trans (ringKeeps_reportFourth _ _ _)) (hdone _)

/-! #### The rejoin and the end of a restart (R438, R439) -/

theorem ringKeeps_flushGap (d : Dev) : RingKeeps d (flushGap d) := RingKeeps.of_only (only_flushGap d) (by decide)
theorem ringKeeps_closeGap (n : Nat) (d : Dev) : RingKeeps d (closeGap n d) := RingKeeps.of_only (only_closeGap n d) (by decide)

theorem ringKeeps_freeQueued (d : Dev) : RingKeeps d (freeQueued d) := by
  unfold freeQueued
  exact RingKeeps.ite ⟨rfl, rfl, rfl⟩ (RingKeeps.refl _)

theorem ringKeeps_restartOver (first last : Nat) (d : Dev) : RingKeeps d (restartOver first last d) := by
  have hundef (b : Bool) (e : Dev) : RingKeeps e { e with undef := b } := ⟨rfl, rfl, rfl⟩
  have hover (g : Flt → Flt) : RingKeeps d (showLoader (modFlt g (dset R.RESTART_STATE 0 d))) :=
    (ringKeeps_dset _ _ d).trans ((ringKeeps_modFlt _ _).trans (ringKeeps_showLoader _))
  unfold restartOver
  refine RingKeeps.trans ?_ (ringKeeps_report (by decide) _ _ _)
  generalize hx : showLoader _ = x
  have hshown : RingKeeps d x := hx ▸ hover _
  exact hshown.trans ((ringKeeps_freeQueued x).trans (hundef _ _))

theorem ringKeeps_rejoinAtRing (n : Nat) (d : Dev) : RingKeeps d (rejoinAtRing n d) := by
  have hclear (t : Nat) (e : Dev) : RingKeeps e (clearStretch t e) := ⟨rfl, rfl, rfl⟩
  have hraised (g : Frame → Frame) : RingKeeps d (raiseEpochs (flushGap (closeGap n (modFrame n g d)))) :=
    (ringKeeps_modFrame n g d).trans ((ringKeeps_closeGap _ _).trans ((ringKeeps_flushGap _).trans (ringKeeps_raiseEpochs _)))
  unfold rejoinAtRing
  dsimp only
  refine RingKeeps.ite (RingKeeps.refl _) ?_
  refine RingKeeps.trans ?_ (ringKeeps_restartOver _ _ _)
  refine RingKeeps.trans ?_ ((ringKeeps_dset _ _ _).trans (ringKeeps_dset _ _ _))
  generalize hx : clearStretch _ _ = x
  have hcleared : RingKeeps d x := by rw [← hx]; exact (hraised _).trans (hclear _ _)
  refine hcleared.trans ?_
  exact ⟨rfl, rfl, rfl⟩

/-! #### Pauses at a growth ring (R425) -/

theorem ringKeeps_markPaused (n : Nat) (d : Dev) : RingKeeps d (markPaused n d) := ⟨rfl, rfl, rfl⟩
theorem ringKeeps_unmarkPaused (n : Nat) (d : Dev) : RingKeeps d (unmarkPaused n d) := ⟨rfl, rfl, rfl⟩

theorem ringKeeps_resumeFront (n : Nat) (d : Dev) : RingKeeps d (resumeFront n d) := by
  have heval (b : Option Nat) (e : Dev) : RingKeeps e { e with trig := { e.trig with lastEval := b } } := ⟨rfl, rfl, rfl⟩
  have hback (x : Tab EdgeIn) (y : Tab Pat) (t : Nat) (e : Dev) :
      RingKeeps e { e with edges := x, trig := { e.trig with pats := y, start := t } } := ⟨rfl, rfl, rfl⟩
  have hclear (c : Tab Chan) (x : Tab EdgeIn) (t : Nat) (e : Dev) :
      RingKeeps e { e with chans := c, edges := x, trig := { e.trig with pats := [], start := t } } := ⟨rfl, rfl, rfl⟩
  have hmarked (g : Frame → Frame) := ringKeeps_modFrame n g d
  unfold resumeFront
  dsimp only
  generalize hx : modFrame n _ d = x
  have hxd : RingKeeps d x := by rw [← hx]; exact hmarked _
  refine hxd.trans (RingKeeps.trans ?_ (heval _ _))
  refine RingKeeps.ite ?_ (hclear _ _ _ x)
  split
  · exact RingKeeps.refl _
  · refine RingKeeps.trans ?_ (hback _ _ _ _)
    exact RingKeeps.foldl (fun _ _ => RingKeeps.ite (RingKeeps.of_only (only_modChan _ _ _) (by decide)) (RingKeeps.refl _)) _ _

theorem ringKeeps_restoreMons (d : Dev) : RingKeeps d (restoreMons d) := by
  have henc (x : Enc) (e : Dev) : RingKeeps e { e with enc := x } := ⟨rfl, rfl, rfl⟩
  unfold restoreMons
  split
  · exact RingKeeps.refl _
  · refine RingKeeps.trans ?_ (ringKeeps_showMons _)
    exact (henc _ d).trans (RingKeeps.foldl (fun _ _ => (henc _ _).trans (ringKeeps_dset _ _ _)) _ _)

theorem ringKeeps_overCores (slot : Nat) (f : List Nat → CoreRec → Core → Core) (d : Dev) : RingKeeps d (overCores slot f d) := by
  refine RingKeeps.foldl (fun e o => RingKeeps.foldl (fun e r => ?_) _ _) _ _
  split
  · exact ringKeeps_modCore _ _ _
  · exact RingKeeps.refl _

theorem ringKeeps_resumeRegs (n : Nat) (d : Dev) : RingKeeps d (resumeRegs n d) := by
  unfold resumeRegs
  split
  · exact RingKeeps.refl _
  · exact RingKeeps.ite (ringKeeps_overCores _ _ _) (ringKeeps_overCores _ _ _)

theorem ringKeeps_resumeEffect (n : Nat) (d : Dev) : RingKeeps d (resumeEffect n d) := by
  have hfront : RingKeeps d (if (frameOf d n).resumed then d else resumeFront n d) :=
    RingKeeps.ite (RingKeeps.refl _) (ringKeeps_resumeFront n d)
  have hmons (e : Dev) : RingKeeps e (if e.ctx.restore then restoreMons e else e) :=
    RingKeeps.ite (ringKeeps_restoreMons e) (RingKeeps.refl _)
  have hregs (e : Dev) : RingKeeps e (dset R.RESUME_FRAME n (dset R.PAUSE_STATE 0 (resumeRegs n e))) :=
    (ringKeeps_resumeRegs n e).trans ((ringKeeps_dset _ _ _).trans (ringKeeps_dset _ _ _))
  have hall := (hfront.trans (hmons _)).trans (hregs _)
  unfold resumeEffect
  exact RingKeeps.ite hall (hall.trans (ringKeeps_report (by decide) _ _ _))

theorem ringKeeps_pauseEffect (n : Nat) (d : Dev) : RingKeeps d (pauseEffect n d) := ⟨rfl, rfl, rfl⟩

theorem ringKeeps_pauseAtRing (n : Nat) (d : Dev) : RingKeeps d (pauseAtRing n d) := by
  have hmarked : RingKeeps d (if pausing d n && !(frameOf d n).paused then markPaused n d
      else if (frameOf d n).paused && !pausing d n then unmarkPaused n d else d) :=
    RingKeeps.ite (ringKeeps_markPaused n d) (RingKeeps.ite (ringKeeps_unmarkPaused n d) (RingKeeps.refl d))
  have hkept (g : Frame → Frame) (e : Dev) : RingKeeps e (if pausing d n then modFrame n g e else e) :=
    RingKeeps.ite (ringKeeps_modFrame _ _ _) (RingKeeps.refl _)
  have heffect (e : Dev) : RingKeeps e (if pausing d n ∧ pauseState e = 1 then pauseEffect n e
      else if pausing d n = false ∧ pauseState e = 5 then resumeEffect n e else e) :=
    RingKeeps.ite (ringKeeps_pauseEffect n e) (RingKeeps.ite (ringKeeps_resumeEffect n e) (RingKeeps.refl e))
  exact (hmarked.trans (hkept _ _)).trans (heffect _)

theorem ringKeeps_checkDieLinks (bad : List Nat) (d : Dev) : RingKeeps d (checkDieLinks bad d) := ⟨rfl, rfl, rfl⟩

end Sys2Proof.Machine
end

section
/-! SUPPORT. What the operations of a growth ring write: parts, entries, phases, unlatches and frames. -/

namespace Sys2Proof.Machine

/-! ### Loops over entries -/

theorem seb_foldl {α : Type} {ks : List Nat} {f : Dev → α → Dev} {l : List α} (h : ∀ d, ∀ x ∈ l, SameEntriesBut ks d (f d x)) (d : Dev) :
    SameEntriesBut ks d (l.foldl f d) := by
  induction l generalizing d with
  | nil => exact seb_refl _ _
  | cons x l ih => exact (h d x List.mem_cons_self).trans (ih (fun e y hy => h e y (List.mem_cons_of_mem _ hy)) _)

/-! ### The parts that the operations of a growth ring write -/

theorem only_resyncAtRing (n : Nat) (d : Dev) : ChangesOnly [.dict, .lnk] d (resyncAtRing n d) := by
  unfold resyncAtRing
  split
  · exact ChangesOnly.ite ((only_lnk _ d).then (only_dset _ _ _) (by decide) (by decide)) (ChangesOnly.refl _ _)
  · exact ChangesOnly.refl _ _

theorem only_dictAtRing (g : Nat) (d : Dev) : ChangesOnly [.dict, .ctl] d (dictAtRing g d) := by
  unfold dictAtRing
  refine ChangesOnly.then ?_ (only_modCtl _ _) (ps := [.dict]) (by decide) (by decide)
  exact (ChangesOnly.foldl (fun _ _ => only_dset _ _ _) _ d).trans (ChangesOnly.foldl (fun _ _ => only_dset _ _ _) _ _)

theorem rwlLatched_dictAtRing (g : Nat) (d : Dev) : (dictAtRing g d).ctl.rwlLatched = [] := rfl

theorem only_makeCurrent (n slot : Nat) (d : Dev) : ChangesOnly [.dict, .ctx] d (makeCurrent n slot d) := by
  have hset (r : Reg) (v : Nat) (g : Ctx → Ctx) (e : Dev) : ChangesOnly [.dict, .ctx] e (dset r v (modCtx g e)) :=
    (only_modCtx g e).then (only_dset _ _ _) (by decide) (by decide)
  have hput (r : Reg) (v : Nat) (g : Ctx → Ctx) (e : Dev) : ChangesOnly [.dict, .ctx] e (modCtx g (dset r v e)) :=
    (only_dset r v e).then (only_modCtx g _) (by decide) (by decide)
  unfold makeCurrent
  refine ChangesOnly.trans ?_ (((only_dset _ _ _).trans (only_dset _ _ _)).mono (by decide))
  exact ChangesOnly.trans (ChangesOnly.ite (hset _ _ _ d) (ChangesOnly.refl _ d)) (hput _ _ _ _)

theorem only_switchTo (n slot : Nat) (d : Dev) : ChangesOnly [.dict, .ctx, .host, .flt] d (switchTo n slot d) := by
  have hreport {c : Nat} (h : c < 0x3000) (a0 a1 : Nat) (e : Dev) : ChangesOnly [.dict, .ctx, .host, .flt] e (report c a0 a1 e) :=
    (only_report h a0 a1 e).mono (by decide)
  unfold switchTo
  refine ChangesOnly.ite (hreport (by decide) _ _ d) (ChangesOnly.ite (ChangesOnly.refl _ d) ?_)
  refine ChangesOnly.trans ?_ (hreport (by decide) _ _ _)
  exact (only_makeCurrent n slot d).then ((only_bump _ _).trans (only_dset _ _ _)) (by decide) (by decide)

theorem only_switchAtRing (n : Nat) (d : Dev) : ChangesOnly [.dict, .ctx, .host, .flt] d (switchAtRing n d) := by
  have hctx (g : Ctx → Ctx) (e : Dev) : ChangesOnly [.dict, .ctx, .host, .flt] e (modCtx g e) := (only_modCtx g e).mono (by decide)
  have hset (r : Reg) (v : Nat) (e : Dev) : ChangesOnly [.dict, .ctx, .host, .flt] e (dset r v e) := (only_dset r v e).mono (by decide)
  unfold switchAtRing
  refine ChangesOnly.ite ?_ (ChangesOnly.ite ?_ (ChangesOnly.ite (ChangesOnly.refl _ _) ?_))
  · exact (hctx _ d).trans ((hset _ _ _).trans (only_switchTo _ _ _))
  · dsimp only
    split
    · exact (hctx _ d).trans ((hset _ _ _).trans ((hset _ _ _).trans (only_switchTo _ _ _)))
    · exact (hctx _ d).trans ((hset _ _ _).trans (only_switchTo _ _ _))
  · split
    · exact ChangesOnly.ite ((hset _ _ d).trans (only_switchTo _ _ _)) (ChangesOnly.refl _ _)
    · exact ChangesOnly.refl _ _

theorem only_encDone (d : Dev) : ChangesOnly stopParts d (encDone d) :=
  ((only_bumpBy _ _ d).mono (by decide)).trans (((only_enc _ _).mono (by decide)).trans (stopKeeps_encState 0 _).2)

theorem only_encAtRing (n : Nat) (d : Dev) : ChangesOnly stopParts d (encAtRing n d) :=
  ChangesOnly.ite (ChangesOnly.refl _ _)
    (ChangesOnly.ite ((stopKeeps_encEffect n d).2.trans (only_encDone _)) (stopKeeps_encApply n d).2)

theorem only_saveHeader (n : Nat) (d : Dev) : ChangesOnly [.ctx] d (saveHeader n d) := by
  unfold saveHeader
  split
  · exact ChangesOnly.ite (only_modCtx _ _) (ChangesOnly.refl _ _)
  · exact ChangesOnly.refl _ _

theorem only_portsAtRing (n : Nat) (d : Dev) : ChangesOnly [.dict] d (portsAtRing n d) :=
  (ChangesOnly.foldl (fun _ _ => ChangesOnly.ite (only_dset _ _ _) (ChangesOnly.refl _ _)) _ d).trans (only_dset _ _ _)

theorem only_takeSamples (n : Nat) (d : Dev) : ChangesOnly [.dict, .chans] d (takeSamples n d) := by
  refine ChangesOnly.foldl (fun e c => ChangesOnly.ite (ChangesOnly.refl _ _) ?_) _ _
  exact ((only_modChan c _ e).mono (by decide)).trans (ChangesOnly.foldl (fun _ _ => (chanWrite_condValue _ _ _ _).1) _ _)

theorem seb_takeSamples (n : Nat) (d : Dev) : SameEntriesBut sampleKeys d (takeSamples n d) := by
  refine seb_foldl (fun e c hc => seb_ite (seb_refl _ _) ?_) d
  have hmem := mem_sampleKeys_chan (List.mem_range.mp hc)
  have hcond (v : Int) (x : Dev) : SameEntriesBut sampleKeys x (condValue c n v x) := by
    obtain ⟨-, hseb, -, -⟩ := chanWrite_condValue c n v x
    exact hseb.mono (by simp [hmem])
  exact (seb_dict rfl).trans (seb_foldl (fun _ _ _ => hcond _ _) _)

/-! #### The phases of the ports (R58) -/

/-- The phases that a growth ring measures are shown. -/
def phasesShown (phi : List Int) (k : Nat) (d : Dev) : Dev :=
  (List.range k).foldl (fun d p => dset (R.TDC_PHASE p) (unsgn 16 (phi.getD p 0)) d) d

theorem dget_phasesShown {phi : List Int} {k p : Nat} (d : Dev) (h : p < k) :
    dget (R.TDC_PHASE p) (phasesShown phi k d) = unsgn 16 (phi.getD p 0) := by
  induction k with
  | zero => omega
  | succ k ih =>
    simp only [phasesShown, List.range_succ, List.foldl_append, List.foldl_cons, List.foldl_nil]
    by_cases hp : p = k
    · rw [hp, dget_dset_same]
    · rw [dget_dset_ne _ _ (by simp only [R.TDC_PHASE]; omega)]
      exact ih (by omega)

/-- What the phases are for: the rises that wait are put at their times, and a calibration that is due is shown. -/
theorem tdcAtRing_shows (phi : List Int) (d : Dev) :
    ChangesOnly [.dict, .chans, .pll] (phasesShown phi 16 d) (tdcAtRing phi d) ∧
    SameEntriesBut [R.TDC_CAL_STATE.key, R.TDC_CAL_UPDATES.key] (phasesShown phi 16 d) (tdcAtRing phi d) := by
  have hchans (x : Tab Chan) (e : Dev) : ChangesOnly [.dict, .chans, .pll] e { e with chans := x } :=
    fun p hp => by cases p <;> first | exact absurd (by decide) hp | rfl
  have hpll (c : Tab Chan) (y : Pll) (e : Dev) : ChangesOnly [.dict, .chans, .pll] e { e with chans := c, pll := y } :=
    fun p hp => by cases p <;> first | exact absurd (by decide) hp | rfl
  have hshown : (List.range 16).foldl (fun d p => dset (R.TDC_PHASE p) (unsgn 16 (phi.getD p 0)) d) d = phasesShown phi 16 d := rfl
  unfold tdcAtRing
  dsimp only
  rw [hshown]
  generalize phasesShown phi 16 d = x
  split
  · exact ⟨hchans _ x, seb_dict rfl⟩
  · constructor
    · refine ChangesOnly.trans ?_ ((only_dset _ _ _).mono (by decide))
      refine ChangesOnly.trans ?_ ((only_bumpBy _ _ _).mono (by decide))
      exact hpll _ _ x
    · refine SameEntriesBut.trans ?_ (seb_dset (List.mem_cons_self) _ _)
      refine SameEntriesBut.trans ?_ (seb_bumpBy (List.mem_cons_of_mem _ List.mem_cons_self) _ _)
      exact seb_dict rfl

theorem only_tdcAtRing (phi : List Int) (d : Dev) : ChangesOnly [.dict, .chans, .pll] d (tdcAtRing phi d) :=
  ((ChangesOnly.foldl (fun _ _ => only_dset _ _ _) _ d).mono (by decide)).trans (tdcAtRing_shows phi d).1

theorem dget_tdcAtRing {p : Nat} (phi : List Int) (d : Dev) (h : p < 16) : dget (R.TDC_PHASE p) (tdcAtRing phi d) = unsgn 16 (phi.getD p 0) := by
  rw [(tdcAtRing_shows phi d).2 _ (by simp only [R.TDC_PHASE, R.TDC_CAL_STATE, R.TDC_CAL_UPDATES, List.mem_cons, List.not_mem_nil, or_false]; omega)]
  exact dget_phasesShown d h

/-! #### Settings, streams and tokens of the frame -/

theorem only_frameSettings (n : Nat) (d : Dev) : ChangesOnly [.frames] d (frameSettings n d) := by
  unfold frameSettings
  exact only_modFrame _ _ _

theorem frameOf_frameSettings (n : Nat) (d : Dev) :
    (frameOf (frameSettings n d) n).seen = true ∧ (frameOf (frameSettings n d) n).ctx = dget R.CURRENT_CONTEXT d ∧
    (frameOf (frameSettings n d) n).audit = dget R.AUDIT_ENABLE d ∧ (frameOf (frameSettings n d) n).lost = (frameOf d n).lost := by
  unfold frameSettings
  rw [frameOf_modFrame_same]
  exact ⟨rfl, rfl, rfl, rfl⟩

/-- The counters of segments lost. -/
def lostKeys : List Nat := (List.range 16).map (fun n => (R.LOST_SEGMENTS n).key)

theorem notMem_lostKeys {k : Nat} (h : k < 0x2C2010 ∨ 0x2C3010 ≤ k) : k ∉ lostKeys := by
  unfold lostKeys
  simp only [List.mem_map, List.mem_range, R.LOST_SEGMENTS]
  omega

/-- From block a to block b only the engines and the counters of segments lost may have changed. -/
def StreamWrite (a b : Dev) : Prop := ChangesOnly [.dict, .engs] a b ∧ SameEntriesBut lostKeys a b

theorem StreamWrite.refl (a : Dev) : StreamWrite a a := ⟨ChangesOnly.refl _ _, seb_refl _ _⟩

theorem StreamWrite.trans {a b c : Dev} (h : StreamWrite a b) (g : StreamWrite b c) : StreamWrite a c :=
  ⟨h.1.trans g.1, h.2.trans g.2⟩

theorem StreamWrite.ite {p : Prop} [Decidable p] {a b c : Dev} (h : StreamWrite a b) (g : StreamWrite a c) : StreamWrite a (if p then b else c) := by
  split <;> assumption

theorem streamWrite_setEng (n : Nat) (x : Eng) (d : Dev) : StreamWrite d (setEng n x d) :=
  ⟨fun p hp => by cases p <;> first | exact absurd (by decide) hp | rfl, seb_dict rfl⟩

theorem streamWrite_dropSegments {n : Nat} (h : n < 16) (k : Nat) (d : Dev) : StreamWrite d (dropSegments n k d) := by
  have hkey : (R.LOST_SEGMENTS n).key ∈ lostKeys := List.mem_map.mpr ⟨n, List.mem_range.mpr h, rfl⟩
  exact (streamWrite_setEng n _ d).trans ⟨(only_bumpBy _ _ _).mono (by decide), seb_bumpBy hkey _ _⟩

theorem StreamWrite.foldl {α : Type} {f : Dev → α → Dev} {l : List α} (h : ∀ d, ∀ x ∈ l, StreamWrite d (f d x)) (d : Dev) :
    StreamWrite d (l.foldl f d) := by
  induction l generalizing d with
  | nil => exact StreamWrite.refl _
  | cons x l ih => exact (h d x List.mem_cons_self).trans (ih (fun e y hy => h e y (List.mem_cons_of_mem _ hy)) _)

theorem streamWrite_streamsAtRing (f : Nat) (d : Dev) : StreamWrite d (streamsAtRing f d) := by
  refine StreamWrite.foldl (fun e n hn => StreamWrite.ite ?_ (StreamWrite.refl _)) d
  refine StreamWrite.ite ?_ (streamWrite_setEng _ _ _)
  exact (streamWrite_setEng _ _ _).trans (streamWrite_dropSegments (List.mem_range.mp hn) _ _)

/-! #### Unlatches, summaries and the frames that are forgotten -/

theorem unlatchNew_unlatchAtRing (n : Nat) (d : Dev) : (unlatchAtRing n d).trig.unlatchNew = 0 := rfl

/-- An unlatch that waits takes effect from the frame of the growth ring on. -/
theorem unlatch_unlatchAtRing {n k : Nat} {d : Dev} (hk : k < 32) (h : bit d.trig.unlatchNew k = true) :
    tget none (unlatchAtRing n d).trig.unlatch k = some n := by
  have hfold (t : Tab (Option Nat)) (m : Nat) (hm : k < m) :
      tget none ((List.range m).foldl (fun t k => if bit d.trig.unlatchNew k then tset none t k (some n) else t) t) k = some n := by
    induction m with
    | zero => omega
    | succ m ih =>
      simp only [List.range_succ, List.foldl_append, List.foldl_cons, List.foldl_nil]
      by_cases heq : m = k
      · rw [heq, if_pos h, tget_tset_same]
      · have hkept := ih (by omega)
        split
        · rw [tget_tset_ne _ _ _ _ heq, hkept]
        · exact hkept
  exact hfold _ 32 hk

theorem only_unlatchAtRing (n : Nat) (d : Dev) : ChangesOnly [.trig] d (unlatchAtRing n d) := only_trig _ d

theorem only_summaryAtRing (d : Dev) : ChangesOnly [.dict] d (summaryAtRing d) := by
  unfold summaryAtRing
  refine ChangesOnly.trans ?_ (only_dset _ _ _)
  refine ChangesOnly.trans ?_ (only_dset _ _ _)
  refine ChangesOnly.trans ?_ (only_dset _ _ _)
  exact (only_dset _ _ _).trans (only_dset _ _ _)

theorem seb_summaryAtRing (d : Dev) : SameEntriesBut summaryKeys d (summaryAtRing d) := by
  unfold summaryAtRing
  refine SameEntriesBut.trans ?_ (seb_dset (by decide) _ _)
  refine SameEntriesBut.trans ?_ (seb_dset (by decide) _ _)
  refine SameEntriesBut.trans ?_ (seb_dset (by decide) _ _)
  exact (seb_dset (by decide) _ _).trans (seb_dset (by decide) _ _)

theorem only_skipFrames (k : Nat) (d : Dev) : ChangesOnly [.enc] d (skipFrames k d) := by
  induction k generalizing d with
  | zero => exact ChangesOnly.refl _ _
  | succ k ih =>
    unfold skipFrames
    split
    · next h =>
      obtain ⟨-, hrun⟩ := Bool.and_eq_true_iff.mp h
      have hnot : ¬ isRun { d with enc := { d.enc with nextMerge := d.enc.nextMerge + 1 } } d.enc.nextMerge = true := by
        show ¬ isRun d d.enc.nextMerge = true
        simpa using hrun
      refine ChangesOnly.trans ?_ (ih _)
      unfold mergeNext
      dsimp only
      rw [if_neg hnot]
      exact only_enc _ d
    · exact ChangesOnly.refl _ _

/-- A frame that a list of frames keeps is the one it was. -/
theorem tget_filter {α : Type} (x : α) (t : Tab α) {k : Nat} {f : Nat → Bool} (h : f k = true) :
    tget x (t.filter (fun e => f e.1)) k = tget x t k := by
  induction t with
  | nil => rfl
  | cons e t ih =>
    by_cases he : f e.1 = true
    · rw [List.filter_cons_of_pos (p := fun e : Nat × α => f e.1) he, tget_cons, tget_cons, ih]
    · have hne : e.1 ≠ k := fun hk => he (hk ▸ h)
      rw [List.filter_cons_of_neg (p := fun e : Nat × α => f e.1) he, tget_cons, if_neg hne, ih]

theorem only_forgetFrames (n : Nat) (d : Dev) : ChangesOnly [.enc, .frames] d (forgetFrames n d) :=
  (only_skipFrames 64 d).then (only_frames _ _) (by decide) (by decide)

theorem frameOf_forgetFrames (n : Nat) (d : Dev) : frameOf (forgetFrames n d) n = frameOf d n := by
  unfold forgetFrames
  rw [← frameOf_of_only (only_skipFrames 64 d) (by decide) n]
  exact tget_filter Frame.rest (f := fun k => decide (_ ≤ k)) _ (decide_eq_true (by omega))

theorem only_syncAtRing (n : Nat) (d : Dev) : ChangesOnly [.lnk] d (syncAtRing n d) :=
  ChangesOnly.ite (ChangesOnly.foldl (fun _ _ => only_sendFlit _ _ _ _) _ _) (ChangesOnly.refl _ _)

end Sys2Proof.Machine
end

section
/-! SUPPORT. The stamp of a growth ring and its effects where no stop waits (R37, R391). -/

namespace Sys2Proof.Machine

/-! ### The time and the stamp of a growth ring (R37, R391) -/

/-- The cut-off that a growth ring has overtaken. -/
def cutBefore (d : Dev) : Dev := if d.grid.nextC ≤ d.grid.nextT then dictCutoff d else d

/-- What a growth ring takes before its effects: the cut-off that it has overtaken, the time and the stamp. -/
def ringStamped (d : Dev) : Dev := latchStamp d.grid.nextT (advTo (t0At (cutBefore d) d.grid.nextT) (cutBefore d))

theorem growthRing_eq {phi : List Int} {bad : List Nat} {d : Dev} (hrun : running d = true) (hn : d.grid.nextT < d.grid.nextB) :
    growthRing phi bad d = if (ringStamped d).grid.stopReq then stopAtRing d.grid.nextT (checkDieLinks bad (ringStamped d))
      else ringEffects d.grid.nextT phi bad (ringStamped d) := by
  unfold growthRing
  rw [if_neg (by rw [hrun]; simp; omega)]
  rfl

/-- The operands of a growth ring are in order. -/
theorem growthRing_operands {phi : List Int} {bad : List Nat} (hphi : ∀ x ∈ phi, -32768 ≤ x ∧ x < 32768) (hbad : ∀ l ∈ bad, l < 256) :
    (phi.all (fun x => decide (-32768 ≤ x ∧ x < 32768)) && bad.all (fun l => decide (l < 256))) = true :=
  Bool.and_eq_true_iff.mpr ⟨List.all_eq_true.mpr fun x hx => decide_eq_true (hphi x hx),
    List.all_eq_true.mpr fun l hl => decide_eq_true (hbad l hl)⟩

theorem only_latchStamp (n : Nat) (d : Dev) : ChangesOnly [.dict, .time] d (latchStamp n d) := by
  have htime (x : Time) (r : Reg) (v : Nat) (e : Dev) : ChangesOnly [.dict, .time] e (dset r v { e with time := x }) :=
    fun p hp => by cases p <;> first | exact absurd (by decide) hp | rfl
  exact htime _ _ _ d

theorem cutAt_le_t0At {g n : Nat} (d : Dev) (h : g ≤ n) : cutAt d g ≤ t0At d n := by
  have hmul := Nat.mul_le_mul_right (fLen d) h
  unfold cutAt t0At bAt
  omega

theorem grid_cutTaken (g : Nat) (d : Dev) : (cutTaken g d).grid = { d.grid with nextC := g + 1 } := rfl

theorem grid_dictCutoff {d : Dev} (h : running d = true) : (dictCutoff d).grid = { d.grid with nextC := d.grid.nextC + 1 } := by
  rw [dictCutoff_eq h, grid_cutTaken, advTo_grid]

theorem now_dictCutoff {d : Dev} (h : running d = true) : (dictCutoff d).now = max (cutAt d d.grid.nextC) d.now := by
  rw [dictCutoff_eq h, ← advTo_now]
  rfl

theorem cutBefore_keeps {d : Dev} (h : running d = true) :
    max (t0At d d.grid.nextT) (cutBefore d).now = max (t0At d d.grid.nextT) d.now ∧
      (∃ c, (cutBefore d).grid = { d.grid with nextC := c }) ∧ (cutBefore d).trig = d.trig ∧ (cutBefore d).dict = d.dict := by
  have honly := only_dictCutoff h
  unfold cutBefore
  split
  · next hc =>
    have hle := cutAt_le_t0At d hc
    exact ⟨by rw [now_dictCutoff h]; omega, ⟨_, grid_dictCutoff h⟩, honly .trig (by decide), honly .dict (by decide)⟩
  · exact ⟨rfl, ⟨_, rfl⟩, rfl, rfl⟩

/-- A growth ring's stamp is taken at its T_0; the grid keeps all but the cut-off, and the unlatches that wait stay. -/
theorem ringStamped_keeps {d : Dev} (h : running d = true) :
    (ringStamped d).now = max (t0At d d.grid.nextT) d.now ∧ (∃ c, (ringStamped d).grid = { d.grid with nextC := c }) ∧
      (ringStamped d).trig = d.trig := by
  obtain ⟨hnow, ⟨c, hgrid⟩, htrig, hdict⟩ := cutBefore_keeps h
  have honly := only_latchStamp d.grid.nextT (advTo (t0At (cutBefore d) d.grid.nextT) (cutBefore d))
  have ht : t0At (cutBefore d) d.grid.nextT = t0At d d.grid.nextT := by
    unfold t0At bAt fLen dget
    rw [hgrid, hdict]
  unfold ringStamped
  refine ⟨?_, ⟨c, ?_⟩, ?_⟩
  · rw [honly .now (by decide), advTo_now, ht, hnow]
  · rw [honly .grid (by decide), advTo_grid, hgrid]
  · rw [honly .trig (by decide), advTo_trig, htrig]

/-! ### The effects of a growth ring that takes no stop -/

/-- The die links, a restart, a rejoin and a pause at the growth ring of frame n. -/
def ringBegun (n : Nat) (bad : List Nat) (d : Dev) : Dev :=
  pauseAtRing n (rejoinAtRing n (restartBegin (checkDieLinks bad { d with grid := { d.grid with nextT := n + 1 } })))

/-- The dictionary's settings for frame n come into force, where the frame is not lost. -/
def dictTaken (n : Nat) (d : Dev) : Dev := if (frameOf d n).lost then d else resyncAtRing n (dictAtRing n d)

/-- The switch of context, the changes of the encoder and the header of what a pause saves. -/
def contextTaken (n : Nat) (d : Dev) : Dev :=
  let d := if (frameOf d n).lost || (frameOf d n).paused then d else switchAtRing n d
  saveHeader n (if (frameOf d n).lost then d else encAtRing n d)

/-- The ports with their phases, and the samples of a frame that was paused at its boundary and is not any more. -/
def frontTaken (n : Nat) (phi : List Int) (was : Bool) (d : Dev) : Dev :=
  let d := tdcAtRing phi (portsAtRing n d)
  if was && !(frameOf d n).paused then takeSamples n d else d

/-- The frame's settings, its streams and its slots. -/
def frameTaken (n : Nat) (d : Dev) : Dev :=
  streamsAtRing n (feedSlots n (tickChans (frameSettings n d) n) (frameSettings n d))

/-- The unlatches, the summary, the frames that are forgotten and the sync to the neighbours. -/
def ringClosed (n : Nat) (d : Dev) : Dev := syncAtRing n (forgetFrames n (summaryAtRing (unlatchAtRing n d)))

theorem ringEffects_eq (n : Nat) (phi : List Int) (bad : List Nat) (d : Dev) :
    ringEffects n phi bad d = ringClosed n (frameTaken n (frontTaken n phi (frameOf d n).paused
      (contextTaken n (dictTaken n (ringBegun n bad d))))) := rfl

theorem ringKeeps_ringBegun (n : Nat) (bad : List Nat) (d : Dev) :
    RingKeeps { d with grid := { d.grid with nextT := n + 1 } } (ringBegun n bad d) :=
  (ringKeeps_checkDieLinks bad _).trans ((ringKeeps_restartBegin _).trans ((ringKeeps_rejoinAtRing n _).trans (ringKeeps_pauseAtRing n _)))

theorem only_dictTaken (n : Nat) (d : Dev) : ChangesOnly [.dict, .ctl, .lnk] d (dictTaken n d) :=
  ChangesOnly.ite (ChangesOnly.refl _ _) ((only_dictAtRing n d).then (only_resyncAtRing n _) (by decide) (by decide))

theorem rwlLatched_dictTaken {n : Nat} {d : Dev} (h : (frameOf d n).lost = false) : (dictTaken n d).ctl.rwlLatched = [] := by
  unfold dictTaken
  rw [if_neg (by simp [h]), only_resyncAtRing n (dictAtRing n d) .ctl (by decide), rwlLatched_dictAtRing]

/-- The parts that the effects of a growth ring write between the dictionary's settings and those of the frame. -/
def takenParts : List Part := [.dict, .ctx, .host, .flt, .enc, .sec, .cores, .chans, .pll]

theorem only_contextTaken (n : Nat) (d : Dev) : ChangesOnly takenParts d (contextTaken n d) := by
  have hswitch : ChangesOnly takenParts d (if (frameOf d n).lost || (frameOf d n).paused then d else switchAtRing n d) :=
    ChangesOnly.ite (ChangesOnly.refl _ _) ((only_switchAtRing n d).mono (by decide))
  have henc (b : Bool) (e : Dev) : ChangesOnly takenParts e (saveHeader n (if b then e else encAtRing n e)) :=
    (ChangesOnly.ite (ChangesOnly.refl _ _) ((only_encAtRing n e).mono (by decide))).trans ((only_saveHeader n _).mono (by decide))
  exact hswitch.trans (henc _ _)

theorem only_frontTaken (n : Nat) (phi : List Int) (was : Bool) (d : Dev) : ChangesOnly takenParts d (frontTaken n phi was d) := by
  have htdc : ChangesOnly takenParts d (tdcAtRing phi (portsAtRing n d)) :=
    (only_portsAtRing n d).then (only_tdcAtRing phi _) (by decide) (by decide)
  exact ChangesOnly.ite (htdc.trans ((only_takeSamples n _).mono (by decide))) htdc

theorem dget_frontTaken {p : Nat} (n : Nat) (phi : List Int) (was : Bool) (d : Dev) (h : p < 16) :
    dget (R.TDC_PHASE p) (frontTaken n phi was d) = unsgn 16 (phi.getD p 0) := by
  have hkey : (R.TDC_PHASE p).key ∉ sampleKeys := notMem_sampleKeys (by simp only [R.TDC_PHASE]; omega)
  unfold frontTaken
  dsimp only
  split
  · rw [seb_takeSamples n _ _ hkey, dget_tdcAtRing phi _ h]
  · exact dget_tdcAtRing phi _ h

/-- From the frame's settings on, a growth ring writes neither the time nor the grid nor the control block. -/
def closingParts : List Part := [.dict, .chans, .cores, .undef, .freeCtr, .engs]

theorem only_frameTaken (n : Nat) (d : Dev) : ChangesOnly closingParts (frameSettings n d) (frameTaken n d) :=
  (only_feedSlots n _ _).then (streamWrite_streamsAtRing n _).1 (by decide) (by decide)

/-- The entries that a growth ring writes after it has taken the frame's settings. -/
def closingKeys : List Nat := lostKeys ++ summaryKeys

theorem notMem_closingKeys {k : Nat} (h : k ∉ summaryKeys) (hlost : k < 0x2C2010 ∨ 0x2C3010 ≤ k) : k ∉ closingKeys := by
  unfold closingKeys
  rw [List.mem_append]
  exact not_or.mpr ⟨notMem_lostKeys hlost, h⟩

theorem dget_frameTaken {r : Reg} (n : Nat) (d : Dev) (h : r.key ∉ closingKeys) : dget r (frameTaken n d) = dget r d := by
  have hlost : r.key ∉ lostKeys := fun hm => h (List.mem_append_left _ hm)
  unfold frameTaken
  rw [(streamWrite_streamsAtRing n _).2 r hlost, dget_of_only (only_feedSlots n _ _) (by decide),
    dget_of_only (only_frameSettings n d) (by decide)]

theorem only_ringClosed (n : Nat) (d : Dev) : ChangesOnly [.trig, .dict, .enc, .frames, .lnk] d (ringClosed n d) :=
  ((only_unlatchAtRing n d).then (only_summaryAtRing _) (rs := [.trig, .dict, .enc, .frames, .lnk]) (by decide) (by decide)).trans
    ((only_forgetFrames n _).then (only_syncAtRing n _) (by decide) (by decide))

theorem afterSummary (n : Nat) (d : Dev) :
    ChangesOnly [.enc, .frames, .lnk] (summaryAtRing (unlatchAtRing n d)) (ringClosed n d) :=
  (only_forgetFrames n _).then (only_syncAtRing n _) (by decide) (by decide)

theorem dget_ringClosed {r : Reg} (n : Nat) (d : Dev) (h : r.key ∉ closingKeys) : dget r (ringClosed n d) = dget r d := by
  have hsum : r.key ∉ summaryKeys := fun hm => h (List.mem_append_right _ hm)
  rw [dget_of_only (afterSummary n d) (by decide), seb_summaryAtRing _ r hsum, dget_of_only (only_unlatchAtRing n d) (by decide)]

theorem trig_ringClosed (n : Nat) (d : Dev) : (ringClosed n d).trig = (unlatchAtRing n d).trig :=
  (afterSummary n d .trig (by decide)).trans (only_summaryAtRing _ .trig (by decide))

theorem frameOf_ringClosed (n : Nat) (d : Dev) : frameOf (ringClosed n d) n = frameOf d n := by
  rw [ringClosed, frameOf_of_only (only_syncAtRing n _) (by decide), frameOf_forgetFrames, frameOf_of_only (only_summaryAtRing _) (by decide),
    frameOf_of_only (only_unlatchAtRing n d) (by decide)]

/-- All that comes between the pause and the frame's settings. -/
def ringSettled (n : Nat) (phi : List Int) (was : Bool) (d : Dev) : Dev := frontTaken n phi was (contextTaken n (dictTaken n d))

theorem only_afterDict (n : Nat) (phi : List Int) (was : Bool) (d : Dev) : ChangesOnly takenParts (dictTaken n d) (ringSettled n phi was d) :=
  (only_contextTaken n _).trans (only_frontTaken n phi was _)

theorem ringKeeps_ringSettled (n : Nat) (phi : List Int) (was : Bool) (d : Dev) : RingKeeps d (ringSettled n phi was d) :=
  (RingKeeps.of_only (only_dictTaken n d) (by decide)).trans (RingKeeps.of_only (only_afterDict n phi was d) (by decide))

theorem frameOf_ringSettled (n k : Nat) (phi : List Int) (was : Bool) (d : Dev) : frameOf (ringSettled n phi was d) k = frameOf d k := by
  rw [frameOf_of_only (only_afterDict n phi was d) (by decide), frameOf_of_only (only_dictTaken n d) (by decide)]

theorem rwlLatched_ringSettled {n : Nat} {d : Dev} (phi : List Int) (was : Bool) (h : (frameOf d n).lost = false) :
    (ringSettled n phi was d).ctl.rwlLatched = [] := by
  rw [only_afterDict n phi was d .ctl (by decide), rwlLatched_dictTaken h]

/-- The frame's settings and what follows them. -/
def ringFinished (n : Nat) (d : Dev) : Dev := ringClosed n (frameTaken n d)

theorem dget_ringFinished {r : Reg} (n : Nat) (d : Dev) (h : r.key ∉ closingKeys) : dget r (ringFinished n d) = dget r d := by
  rw [ringFinished, dget_ringClosed n _ h, dget_frameTaken n d h]

theorem frameOf_ringFinished (n : Nat) (d : Dev) : frameOf (ringFinished n d) n = frameOf (frameSettings n d) n := by
  rw [ringFinished, frameOf_ringClosed, frameOf_of_only (only_frameTaken n d) (by decide)]

theorem only_ringFinished (n : Nat) (d : Dev) :
    ChangesOnly [.frames, .dict, .chans, .cores, .undef, .freeCtr, .engs, .trig, .enc, .lnk] d (ringFinished n d) :=
  ((only_frameSettings n d).then (only_frameTaken n d) (rs := [.frames, .dict, .chans, .cores, .undef, .freeCtr, .engs]) (by decide)
    (by decide)).then (only_ringClosed n _) (by decide) (by decide)

theorem trig_frameTaken (n : Nat) (d : Dev) : (frameTaken n d).trig = d.trig :=
  (only_frameTaken n d .trig (by decide)).trans (only_frameSettings n d .trig (by decide))

theorem unlatchNew_ringFinished (n : Nat) (d : Dev) : (ringFinished n d).trig.unlatchNew = 0 := by
  rw [ringFinished, trig_ringClosed, unlatchNew_unlatchAtRing]

theorem unlatch_ringFinished {n k : Nat} {d : Dev} (hk : k < 32) (h : bit d.trig.unlatchNew k = true) :
    tget none (ringFinished n d).trig.unlatch k = some n := by
  rw [ringFinished, trig_ringClosed]
  exact unlatch_unlatchAtRing hk (by rw [trig_frameTaken]; exact h)

theorem ringEffects_stages (n : Nat) (phi : List Int) (bad : List Nat) (d : Dev) :
    ringEffects n phi bad d = ringFinished n (ringSettled n phi (frameOf d n).paused (ringBegun n bad d)) := ringEffects_eq n phi bad d

theorem notMem_closingKeys_settings :
    R.CURRENT_CONTEXT.key ∉ closingKeys ∧ R.AUDIT_ENABLE.key ∉ closingKeys ∧ ∀ p, p < 16 → (R.TDC_PHASE p).key ∉ closingKeys := by
  refine ⟨notMem_closingKeys (by decide) (by decide), notMem_closingKeys (by decide) (by decide), fun p hp => notMem_closingKeys ?_ ?_⟩
  · simp only [summaryKeys, R.TDC_PHASE, R.HOST_LINK, R.RING_SIZE, R.MIRROR_LINK, R.RING_LINKS, R.TIME_SOURCE, List.mem_cons,
      List.not_mem_nil, or_false]
    omega
  · simp only [R.TDC_PHASE]
    omega

/-- What the growth ring of a frame does while no stop waits. -/
theorem completes_growthRing (phi : List Int) (bad : List Nat) (s : State) (hphi : ∀ x ∈ phi, -32768 ≤ x ∧ x < 32768) (hbad : ∀ l ∈ bad, l < 256)
    (hrun : running s.dev = true) (hn : s.dev.grid.nextT < s.dev.grid.nextB) (hstop : s.dev.grid.stopReq = false) :
    Completes (exec (.growthRing phi bad) s) s fun d =>
      let n := s.dev.grid.nextT
      d.grid.nextT = n + 1 ∧ d.now = max (t0At s.dev n) s.dev.now ∧
      (∀ p, p < 16 → dget (R.TDC_PHASE p) d = unsgn 16 (phi.getD p 0)) ∧
      (frameOf d n).seen = true ∧ (frameOf d n).ctx = dget R.CURRENT_CONTEXT d ∧ (frameOf d n).audit = dget R.AUDIT_ENABLE d ∧
      ((frameOf d n).lost = false → d.ctl.rwlLatched = []) ∧
      d.trig.unlatchNew = 0 ∧ (∀ k, k < 32 → bit s.dev.trig.unlatchNew k = true → tget none d.trig.unlatch k = some n) := by
  refine ⟨growthRing phi bad s.dev, run_ok (growthRing_operands hphi hbad), ?_⟩
  obtain ⟨hnow, ⟨c, hgrid⟩, htrig⟩ := ringStamped_keeps hrun
  have hgo : ¬ (ringStamped s.dev).grid.stopReq = true := by rw [hgrid]; simp [hstop]
  rw [growthRing_eq hrun hn, if_neg hgo, ringEffects_stages]
  dsimp only
  generalize s.dev.grid.nextT = n at *
  obtain ⟨hbnow, hbgrid, hbnew⟩ := ringKeeps_ringBegun n bad (ringStamped s.dev)
  generalize (frameOf (ringStamped s.dev) n).paused = was
  generalize ringBegun n bad (ringStamped s.dev) = b at *
  obtain ⟨hsnow, hsgrid, hsnew⟩ := ringKeeps_ringSettled n phi was b
  have honly := only_ringFinished n (ringSettled n phi was b)
  obtain ⟨hcur, haudit, hphase⟩ := notMem_closingKeys_settings
  obtain ⟨hseen, hfctx, hfaudit, hflost⟩ := frameOf_frameSettings n (ringSettled n phi was b)
  rw [← frameOf_ringFinished] at hseen hfctx hfaudit hflost
  refine ⟨?_, ?_, fun p hp => ?_, hseen, ?_, ?_, fun hl => ?_, unlatchNew_ringFinished _ _, fun k hk hb => unlatch_ringFinished hk ?_⟩
  · rw [honly .grid (by decide), hsgrid, hbgrid]
  · rw [honly .now (by decide), hsnow, hbnow, ← hnow]
  · rw [dget_ringFinished n _ (hphase p hp)]
    exact dget_frontTaken n phi was _ hp
  · rw [dget_ringFinished n _ hcur, hfctx]
  · rw [dget_ringFinished n _ haudit, hfaudit]
  · rw [hflost, frameOf_ringSettled] at hl
    rw [honly .ctl (by decide), rwlLatched_ringSettled phi was hl]
  · rw [hsnew, hbnew, htrig]
    exact hb

end Sys2Proof.Machine
end

section
/-! SUPPORT. The growth ring at which a stop is taken (R497), and what settles O4. -/

namespace Sys2Proof.Machine

/-! ### The growth ring at which a stop is taken (R497) -/

theorem ringKeeps_stopEnds (d : Dev) : RingKeeps d (stopEnds d) := RingKeeps.of_only (stopKeeps_stopEnds d).2 (by decide)

theorem ringKeeps_dropSwitch (n : Nat) (d : Dev) : RingKeeps d (dropSwitch n d) := RingKeeps.of_only (only_dropSwitch n d) (by decide)

theorem ringKeeps_leaveCurrent (n : Nat) (d : Dev) : RingKeeps d (leaveCurrent n d) := by
  unfold leaveCurrent
  exact RingKeeps.ite ⟨rfl, rfl, rfl⟩ (RingKeeps.refl _)

theorem ringKeeps_portsAtStop (d : Dev) : RingKeeps d (portsAtStop d) := by
  refine RingKeeps.foldl (fun e p => ?_) _ _
  have habsent : RingKeeps e (absent p e) := RingKeeps.of_only (only_absent p e) (by decide)
  exact habsent.trans (RingKeeps.ite (ringKeeps_dset _ _ _) (RingKeeps.refl _))

theorem ringKeeps_restartEnd (d : Dev) : RingKeeps d (restartEnd d) := by
  unfold restartEnd
  dsimp only
  refine RingKeeps.trans ?_ (ringKeeps_stopEnds _)
  refine RingKeeps.trans ?_ (ringKeeps_modFlt _ _)
  refine RingKeeps.trans ?_ (ringKeeps_restartOver _ _ _)
  refine RingKeeps.trans ?_ (ringKeeps_raiseEpochs _)
  split
  · exact (ringKeeps_closeGap _ _).trans (ringKeeps_flushGap _)
  · exact RingKeeps.refl _

/-- A restart, a pause, a switch and the dictionary's settings at the growth ring of frame n, at which a stop is taken. -/
def stopPrepared (n : Nat) (d : Dev) : Dev :=
  let d := restartBegin d
  let d := if dget R.RESTART_STATE d ≠ 0 ∧ d.flt.dev = none then modFlt (fun f => { f with noRejoin := true }) d else d
  let d := switchAtStop n (pauseAtStop d)
  if (frameOf d n).lost then d else dictAtRing n d

/-- The frames that commits, groups, resynchronisations and forwarded settings waited for will not come. -/
def waitsDropped (d : Dev) : Dev :=
  let d := modCtl (fun c => { c with
    commitFrame := (c.groups.filter (fun e => decide (e.2.st = 2))).foldl
      (fun t e => if tget 0 t e.2.holder = e.2.due then tset 0 t e.2.holder 0 else t) c.commitFrame
    groups := c.groups.map (fun (e : Nat × Grp) => if e.2.st = 2 then (e.1, { e.2 with due := 0 }) else e) }) d
  let d := if d.lnk.resyncAt.isSome then dset R.MIRROR_SYNC_STATE 1 d else d
  { d with lnk := { d.lnk with resyncAt := none, dictIn := d.lnk.dictIn.map (fun (f : Fwd) => { f with frame := 0 }) } }

/-- The ports and the summary, and the grid's end. -/
def gridEnded (n : Nat) (d : Dev) : Dev :=
  let d := summaryAtRing (dset R.FE_PRESENT (presentMask d) d)
  { portsAtStop d with grid := { d.grid with endF := some n, stopReq := false } }

/-- The end of a restart that waits for the grid's end, and of the stop. -/
def stopClosed (d : Dev) : Dev := stopEnds (gapAtEnd (if dget R.RESTART_STATE d = 5 ∧ d.flt.dev = none then restartEnd d else d))

theorem stopAtRing_eq (n : Nat) (d : Dev) : stopAtRing n d = stopClosed (gridEnded n (waitsDropped (stopPrepared n d))) := by
  unfold stopAtRing
  extract_lets begun rejoins left settled dropped synced links waits shown ports grid ended
  have hprepared : settled = stopPrepared n d := rfl
  have hdropped : waits = waitsDropped settled := rfl
  have hended : ended = gridEnded n waits := rfl
  clear_value ended waits settled
  rw [← hprepared, ← hdropped, ← hended]
  rfl

theorem ringKeeps_stopPrepared (n : Nat) (d : Dev) : RingKeeps d (stopPrepared n d) := by
  have hrejoin (e : Dev) (g : Flt → Flt) : RingKeeps e (if dget R.RESTART_STATE e ≠ 0 ∧ e.flt.dev = none then modFlt g e else e) :=
    RingKeeps.ite (ringKeeps_modFlt g e) (RingKeeps.refl e)
  have hswitch (e : Dev) : RingKeeps e (switchAtStop n (pauseAtStop e)) :=
    (RingKeeps.of_only (only_pauseAtStop e) (by decide)).trans ((ringKeeps_dropSwitch n _).trans (ringKeeps_leaveCurrent n _))
  have hdict (e : Dev) : RingKeeps e (if (frameOf e n).lost then e else dictAtRing n e) :=
    RingKeeps.ite (RingKeeps.refl e) (RingKeeps.of_only (only_dictAtRing n e) (by decide))
  exact (((ringKeeps_restartBegin d).trans (hrejoin _ _)).trans (hswitch _)).trans (hdict _)

theorem ringKeeps_waitsDropped (d : Dev) : RingKeeps d (waitsDropped d) := by
  have hctl (g : Ctl → Ctl) : RingKeeps d (modCtl g d) := RingKeeps.of_only (only_modCtl g d) (by decide)
  have hsync (e : Dev) : RingKeeps e (if e.lnk.resyncAt.isSome then dset R.MIRROR_SYNC_STATE 1 e else e) :=
    RingKeeps.ite (ringKeeps_dset _ _ e) (RingKeeps.refl e)
  have hlnk (x : Links) (e : Dev) : RingKeeps e { e with lnk := x } := RingKeeps.of_only (only_lnk x e) (by decide)
  exact ((hctl _).trans (hsync _)).trans (hlnk _ _)

theorem ringKeeps_summaryAtRing (d : Dev) : RingKeeps d (summaryAtRing d) := RingKeeps.of_only (only_summaryAtRing d) (by decide)

theorem now_portsAtStop (d : Dev) : (portsAtStop d).now = d.now := (ringKeeps_portsAtStop d).1

theorem gridEnded_ends (n : Nat) (d : Dev) :
    (gridEnded n d).now = d.now ∧ (gridEnded n d).grid = { d.grid with endF := some n, stopReq := false } := by
  have hsum : RingKeeps d (summaryAtRing (dset R.FE_PRESENT (presentMask d) d)) :=
    (ringKeeps_dset _ _ d).trans (ringKeeps_summaryAtRing _)
  unfold gridEnded
  generalize summaryAtRing (dset R.FE_PRESENT (presentMask d) d) = x at hsum ⊢
  obtain ⟨hnow, hgrid, -⟩ := hsum
  dsimp only
  rw [hgrid, now_portsAtStop, hnow]
  exact ⟨rfl, rfl⟩

theorem ringKeeps_stopClosed (d : Dev) : RingKeeps d (stopClosed d) := by
  have hend : RingKeeps d (if dget R.RESTART_STATE d = 5 ∧ d.flt.dev = none then restartEnd d else d) :=
    RingKeeps.ite (ringKeeps_restartEnd d) (RingKeeps.refl d)
  exact (hend.trans (RingKeeps.of_only (only_gapAtEnd _) (by decide))).trans (ringKeeps_stopEnds _)

/-- A growth ring at which a stop is taken ends the grid. -/
theorem stopAtRing_ends (n : Nat) (d : Dev) :
    (stopAtRing n d).now = d.now ∧ (stopAtRing n d).grid = { d.grid with endF := some n, stopReq := false } := by
  obtain ⟨hnow, hgrid, -⟩ := (ringKeeps_stopPrepared n d).trans (ringKeeps_waitsDropped _)
  obtain ⟨henow, hegrid⟩ := gridEnded_ends n (waitsDropped (stopPrepared n d))
  obtain ⟨hcnow, hcgrid, -⟩ := ringKeeps_stopClosed (gridEnded n (waitsDropped (stopPrepared n d)))
  rw [stopAtRing_eq]
  exact ⟨by rw [hcnow, henow, hnow], by rw [hcgrid, hegrid, hgrid]⟩

/-- What the growth ring of a frame does while a stop waits. -/
theorem completes_growthRing_stop (phi : List Int) (bad : List Nat) (s : State) (hphi : ∀ x ∈ phi, -32768 ≤ x ∧ x < 32768)
    (hbad : ∀ l ∈ bad, l < 256) (hrun : running s.dev = true) (hn : s.dev.grid.nextT < s.dev.grid.nextB) (hstop : s.dev.grid.stopReq = true) :
    Completes (exec (.growthRing phi bad) s) s fun d =>
      d.grid.endF = some s.dev.grid.nextT ∧ d.grid.stopReq = false ∧ d.grid.nextT = s.dev.grid.nextT ∧
      d.now = max (t0At s.dev s.dev.grid.nextT) s.dev.now := by
  refine ⟨growthRing phi bad s.dev, run_ok (growthRing_operands hphi hbad), ?_⟩
  obtain ⟨hnow, ⟨c, hgrid⟩, -⟩ := ringStamped_keeps hrun
  have hgo : (ringStamped s.dev).grid.stopReq = true := by rw [hgrid]; exact hstop
  obtain ⟨henow, hegrid⟩ := stopAtRing_ends s.dev.grid.nextT (checkDieLinks bad (ringStamped s.dev))
  obtain ⟨hdnow, hdgrid, -⟩ := ringKeeps_checkDieLinks bad (ringStamped s.dev)
  rw [growthRing_eq hrun hn, if_pos hgo, hegrid, hdgrid, hgrid, henow, hdnow, hnow]
  exact ⟨rfl, rfl, rfl, rfl⟩

/-! ### What settles O4 -/

/-- Settles O4: a conjunct for each event of the frame grid. The cut-off, the boundary and a core's passage by what each writes; the
growth ring through its stages, of which each keeps the time, the grid and the unlatches that wait until they are taken up. -/
theorem frameGridEvents : Obligations.FrameGridEvents :=
  ⟨completes_dictCutoff, completes_frameBoundary, readEntry_fingerprint, completes_growthRing, completes_growthRing_stop,
    completes_growthRingAtCore⟩

end Sys2Proof.Machine
end

section
/-! SUPPORT. What the shared steps of discovery do: a port that leaves service, discovery that begins, a refusal, the loss of the
reference port. -/

namespace Sys2Proof.Machine

/-! ### Frames and entries of a port -/

theorem portOf_of_only {ps : List Part} {a b : Dev} (h : ChangesOnly ps a b) (hp : Part.ports ∉ ps) (q : Nat) : portOf b q = portOf a q := by
  unfold portOf; rw [h .ports hp]

theorem laneOf_of_only {ps : List Part} {a b : Dev} (h : ChangesOnly ps a b) (hp : Part.lanes ∉ ps) (l : Nat) : laneOf b l = laneOf a l := by
  unfold laneOf; rw [h .lanes hp]

theorem armed_congr {a b : Dev} (h : dget R.ARRAY_STATE b = dget R.ARRAY_STATE a) : armed b = armed a := by
  unfold armed arrayState; rw [h]

/-- The entries that show the state of a port. -/
def portStateKeys (p : Nat) : List Nat := (R.FE_STATE p).key :: laneStateKeys p ++ presenceKeys

/-- An entry of a port other than FE_STATE is none of those that show a port's state. -/
theorem notMem_portStateKeys {p k : Nat} (hp : p < 16) (hlo : 0x200241 ≤ k) (hhi : k < 0x300004) (hfe : k ≠ (R.FE_STATE p).key) :
    k ∉ portStateKeys p := by
  simp only [portStateKeys, laneStateKeys, presenceKeys, R.LANE_STATE, R.FE_PRESENT, R.CLOCK_REF_PORT, R.CLOCK_STATE, List.mem_append,
    List.mem_cons, List.mem_map, List.mem_range, List.not_mem_nil, or_false]
  rintro ((h | ⟨i, hi, h⟩) | h)
  · exact hfe h
  · omega
  · omega

theorem arrayState_notMem_portStateKeys {p : Nat} (hp : p < 16) : R.ARRAY_STATE.key ∉ portStateKeys p := by
  simp only [portStateKeys, laneStateKeys, presenceKeys, R.LANE_STATE, R.FE_PRESENT, R.CLOCK_REF_PORT, R.CLOCK_STATE, R.ARRAY_STATE,
    R.FE_STATE, List.mem_append, List.mem_cons, List.mem_map, List.mem_range, List.not_mem_nil, or_false]
  rintro ((h | ⟨i, hi, h⟩) | h) <;> omega

/-- The entries between the lanes' and the engines' are none of those that the loss of the reference port writes. -/
theorem notMem_refLostKeys {k : Nat} (hlo : 0x200004 ≤ k) (hhi : k < 0x300004) : k ∉ presenceKeys ++ reportKeys := by
  rw [List.mem_append, not_or]
  refine ⟨?_, notMem_reportKeys_of_lt (by omega)⟩
  simp only [presenceKeys, R.FE_PRESENT, R.CLOCK_REF_PORT, R.CLOCK_STATE, List.mem_cons, List.not_mem_nil, or_false]
  omega

/-- LANE_STATE is not among what follows FE_STATE. -/
theorem laneState_setFe {p l : Nat} (hl : l < 64) (st : Nat) (d : Dev) : dget (R.LANE_STATE l) (setFe p st d) = dget (R.LANE_STATE l) d := by
  refine seb_setFe p st d _ ?_
  rw [List.mem_cons, not_or]
  exact ⟨by simp only [R.LANE_STATE, R.FE_STATE]; omega, laneState_key_notMem_presence hl⟩

/-- The lanes and the state of a port are shown together. -/
theorem seb_shown (p st : Nat) (f : Nat → Nat → Nat) (d : Dev) : SameEntriesBut (portStateKeys p) d (setFe p st (setLanes p f d)) :=
  ((seb_setLanes p f d).mono (by simp [portStateKeys])).trans ((seb_setFe p st _).mono (by simp [portStateKeys]))

theorem only_shown (p st : Nat) (f : Nat → Nat → Nat) (d : Dev) : ChangesOnly [.dict] d (setFe p st (setLanes p f d)) :=
  (only_setLanes p f d).trans (only_setFe p st _)

/-! ### A port leaves service (R65, R66, R70) -/

theorem only_retrainOver (p : Nat) (d : Dev) : ChangesOnly [.flt] d (retrainOver p d) := by
  unfold retrainOver reactionOver
  exact ChangesOnly.ite (ChangesOnly.ite (only_flt _ d) (ChangesOnly.refl _ _)) (ChangesOnly.refl _ _)

/-- The port's channels go: a retrain in progress is over, and the frame in progress is judged (R66, R70). -/
def portLeaves (p : Nat) (d : Dev) : Dev := absent p (invalidNow p (retrainOver p d))

theorem only_portLeaves (p : Nat) (d : Dev) : ChangesOnly [.flt, .frames, .ports, .chans] d (portLeaves p d) :=
  (only_retrainOver p d).then (only_outOfService p _) (by decide) (by decide)

theorem portOf_portLeaves_same (p : Nat) (d : Dev) : portOf (portLeaves p d) p = { portOf d p with presentFrom := none } := by
  unfold portLeaves
  rw [portOf_absent, portOf_modPort_same, portOf_invalidNow, portOf_of_only (only_retrainOver p d) (by decide)]

theorem portOf_portLeaves_ne {p q : Nat} (h : q ≠ p) (d : Dev) : portOf (portLeaves p d) q = portOf d q := by
  unfold portLeaves
  rw [portOf_absent, portOf_modPort_ne _ _ (Ne.symm h), portOf_invalidNow, portOf_of_only (only_retrainOver p d) (by decide)]

/-- The channels that go are those of the block before it, in its own ac. -/
theorem channelsGone_of_start {p : Nat} {a b d : Dev} (h : ChannelsGone p b d) (hnow : b.now = a.now) (hchans : b.chans = a.chans) :
    ChannelsGone p a d := by
  have hsame : ∀ c, chanOf b c = chanOf a c := fun c => by unfold chanOf; rw [hchans]
  exact ⟨fun c w x hc hx => h.1 c w x hc (by rw [hnow]; exact hx), fun c hc => (h.2 c hc).trans (hsame c)⟩

theorem channelsGone_portLeaves (p : Nat) (d : Dev) : ChannelsGone p d (portLeaves p d) := by
  have hbefore := (only_retrainOver p d).then (only_invalidNow p _) (rs := [.flt, .frames]) (by decide) (by decide)
  exact channelsGone_of_start (channelsGone_absent p _) (hbefore .now (by decide)) (hbefore .chans (by decide))

/-! ### Discovery begins (step 1 of Table 3.3) -/

theorem fe_beginDiscovery (p : Nat) (d : Dev) : dget (R.FE_STATE p) (beginDiscovery p d) = 1 := dget_setFe _ _ _

/-- An entry of discovery's results is not among what follows FE_STATE. -/
theorem refuseReason_setFe {p : Nat} (hp : p < 16) (st : Nat) (d : Dev) :
    dget (R.FE_REFUSE_REASON p) (setFe p st d) = dget (R.FE_REFUSE_REASON p) d := by
  refine ((seb_setFe p st d).mono (ls := portStateKeys p) (by simp [portStateKeys])) _ (notMem_portStateKeys hp ?_ ?_ ?_) <;>
    simp only [R.FE_REFUSE_REASON, R.FE_STATE] <;> omega

theorem reason_beginDiscovery {p : Nat} (hp : p < 16) (d : Dev) : dget (R.FE_REFUSE_REASON p) (beginDiscovery p d) = 0 :=
  (refuseReason_setFe hp _ _).trans (dget_dset_same _ _ _)

theorem portOf_beginDiscovery_same (p : Nat) (d : Dev) :
    portOf (beginDiscovery p d) p = { portOf d p with
      fellAt := some d.now, held := false, kept := 0, presentFrom := none, retrainAt := none, fesyncN := true, sysAt := none, sysPer := 0 } := by
  simp [beginDiscovery]

theorem portOf_beginDiscovery_ne {p q : Nat} (h : q ≠ p) (d : Dev) : portOf (beginDiscovery p d) q = portOf d q := by
  simp [beginDiscovery, portOf_modPort_ne _ _ (Ne.symm h)]

/-- The lanes, the reason and the state of a port are shown together. -/
theorem seb_shownReason (p st reason : Nat) (f : Nat → Nat → Nat) (d : Dev) :
    SameEntriesBut ((R.FE_STATE p).key :: (R.FE_REFUSE_REASON p).key :: laneStateKeys p ++ presenceKeys) d
      (setFe p st (dset (R.FE_REFUSE_REASON p) reason (setLanes p f d))) :=
  ((seb_setLanes p f d).mono (fun _ hk => by simp [hk])).trans ((seb_dset (by simp) _ _).trans
    ((seb_setFe p st _).mono (fun _ hk => by simp only [List.mem_cons, List.mem_append] at hk ⊢; tauto)))

theorem only_shownReason (p st reason : Nat) (f : Nat → Nat → Nat) (d : Dev) :
    ChangesOnly [.dict] d (setFe p st (dset (R.FE_REFUSE_REASON p) reason (setLanes p f d))) :=
  (only_setLanes p f d).trans ((only_dset _ _ _).trans (only_setFe p st _))

theorem seb_beginDiscovery (p : Nat) (d : Dev) :
    SameEntriesBut ((R.FE_STATE p).key :: (R.FE_REFUSE_REASON p).key :: laneStateKeys p ++ presenceKeys) d (beginDiscovery p d) := by
  unfold beginDiscovery
  exact (seb_dict rfl).trans (seb_shownReason p 1 0 _ (modPort p _ d))

theorem only_beginDiscovery (p : Nat) (d : Dev) : ChangesOnly [.dict, .ports] d (beginDiscovery p d) := by
  unfold beginDiscovery
  exact (only_modPort p _ d).then (only_shownReason p 1 0 _ _) (by decide) (by decide)

/-! ### A refusal (R61) and the loss of the reference port (R35) -/

theorem dget_refLost {p : Nat} {r : Reg} (h : r.key ∉ presenceKeys ++ reportKeys) (d : Dev) : dget r (refLost p d) = dget r d :=
  seb_refLost p d r h

theorem fe_refLost {p : Nat} (hp : p < 16) (q : Nat) (d : Dev) : dget (R.FE_STATE p) (refLost q d) = dget (R.FE_STATE p) d :=
  dget_refLost (notMem_refLostKeys (by simp only [R.FE_STATE]; omega) (by simp only [R.FE_STATE]; omega)) d

theorem refuseReason_refLost {p : Nat} (hp : p < 16) (q : Nat) (d : Dev) :
    dget (R.FE_REFUSE_REASON p) (refLost q d) = dget (R.FE_REFUSE_REASON p) d :=
  dget_refLost (notMem_refLostKeys (by simp only [R.FE_REFUSE_REASON]; omega) (by simp only [R.FE_REFUSE_REASON]; omega)) d

theorem lastFault_report {c : Nat} (h : c < 0x3000) (a0 a1 : Nat) (d : Dev) : LastFault c (report c a0 a1 d) := fun hu =>
  lastCode_report h a0 a1 d ((report_undef a0 a1 d h).symm.trans hu)

/-- The loss of the reference port is reported behind what was reported before it. -/
theorem lastFault_refLost {code : Nat} {d : Dev} (p : Nat) (h : LastFault code d) :
    LastFault (if armed d = true ∧ dget R.CLOCK_REF_PORT d = p then 0x1182 else code) (refLost p d) := by
  unfold refLost
  split
  · exact lastFault_report (by decide) _ _ _
  · exact h

/-- The port as a refusal leaves it. -/
def refusedPort (x : Port) : Port := { x with fellAt := none, retrainAt := none, presentFrom := none, fesyncN := true }

/-- REFUSED and its reason are shown. -/
def refusalShown (p reason : Nat) (d : Dev) : Dev :=
  setFe p 2 (dset (R.FE_REFUSE_REASON p) reason (setLanes p (fun i _ => laneOr (modPort p refusedPort d) p i 0) (modPort p refusedPort d)))

theorem refuse_eq (p reason : Nat) (d : Dev) : refuse p reason d = refLost p (report 0x0185 p reason (refusalShown p reason d)) := rfl

theorem only_refusalShown (p reason : Nat) (d : Dev) : ChangesOnly [.dict, .ports] d (refusalShown p reason d) :=
  (only_modPort p _ d).then (only_shownReason p 2 reason _ _) (by decide) (by decide)

theorem seb_refusalShown (p reason : Nat) (d : Dev) :
    SameEntriesBut ((R.FE_STATE p).key :: (R.FE_REFUSE_REASON p).key :: laneStateKeys p ++ presenceKeys) d (refusalShown p reason d) :=
  (seb_dict rfl).trans (seb_shownReason p 2 reason _ (modPort p refusedPort d))

theorem only_refuse (p reason : Nat) (d : Dev) : ChangesOnly [.dict, .ports, .host, .flt] d (refuse p reason d) :=
  (only_refusalShown p reason d).then ((only_report (by decide) _ _ _).trans (only_refLost p _)) (by decide) (by decide)

theorem seb_refuse (p reason : Nat) (d : Dev) :
    SameEntriesBut ((R.FE_STATE p).key :: (R.FE_REFUSE_REASON p).key :: laneStateKeys p ++ presenceKeys ++ reportKeys) d (refuse p reason d) :=
  ((seb_refusalShown p reason d).mono (fun _ hk => List.mem_append_left _ hk)).trans
    (((seb_report (by decide) _ _ _).mono (List.subset_append_right _ _)).trans
      ((seb_refLost p _).mono (fun _ hk => by simp only [List.mem_cons, List.mem_append] at hk ⊢; tauto)))

theorem fe_refuse {p : Nat} (hp : p < 16) (reason : Nat) (d : Dev) : dget (R.FE_STATE p) (refuse p reason d) = 2 := by
  rw [refuse_eq, fe_refLost hp, dget_report (by decide) _ _ _ _ (notMem_reportKeys_of_lt (by simp only [R.FE_STATE]; omega))]
  exact dget_setFe _ _ _

theorem reason_refuse {p : Nat} (hp : p < 16) (reason : Nat) (d : Dev) : dget (R.FE_REFUSE_REASON p) (refuse p reason d) = reason := by
  rw [refuse_eq, refuseReason_refLost hp,
    dget_report (by decide) _ _ _ _ (notMem_reportKeys_of_lt (by simp only [R.FE_REFUSE_REASON]; omega))]
  exact (refuseReason_setFe hp _ _).trans (dget_dset_same _ _ _)

theorem portOf_refuse (p q reason : Nat) (d : Dev) : portOf (refuse p reason d) q = portOf (modPort p refusedPort d) q := by
  rw [refuse_eq, portOf_refLost, portOf_report _ _ _ _ (by decide)]
  simp [refusalShown]

theorem setFe_armed {d : Dev} (h : armed d = true) (p st : Nat) : setFe p st d = dset (R.FE_STATE p) st d := by
  have harmed : armed (dset (R.FE_STATE p) st d) = true := by
    rw [armed_congr (dget_dset_ne _ _ (by simp only [R.FE_STATE, R.ARRAY_STATE]; omega)), h]
  simp [setFe, showPresent, harmed]

theorem notMem_laneStateKeys {p k : Nat} (hp : p < 16) (h : k < 0x200201 ∨ 0x200241 ≤ k) : k ∉ laneStateKeys p := by
  simp only [laneStateKeys, R.LANE_STATE, List.mem_map, List.mem_range]
  rintro ⟨i, hi, hk⟩
  omega

/-- While the array is armed, a refusal leaves the clock reference where it was (R28, R33). -/
theorem clockRef_refusalShown {p : Nat} (hp : p < 16) (reason : Nat) {d : Dev} (h : armed d = true) :
    dget R.CLOCK_REF_PORT (refusalShown p reason d) = dget R.CLOCK_REF_PORT d := by
  have hlanes : ∀ f (e : Dev) (r : Reg), r.key < 0x200201 ∨ 0x300000 ≤ r.key →
      dget r (dset (R.FE_REFUSE_REASON p) reason (setLanes p f e)) = dget r e := fun f e r hr => by
    rw [dget_dset_ne _ _ (by simp only [R.FE_REFUSE_REASON]; omega), seb_setLanes p f e r (notMem_laneStateKeys hp (by omega))]
  have hport : armed (modPort p refusedPort d) = true := h
  unfold refusalShown
  rw [setFe_armed ((armed_congr (hlanes _ _ R.ARRAY_STATE (by decide))).trans hport),
    dget_dset_ne _ _ (by simp only [R.FE_STATE, R.CLOCK_REF_PORT]; omega), hlanes _ _ _ (by decide)]
  rfl

theorem armed_refusalShown {p : Nat} (hp : p < 16) (reason : Nat) (d : Dev) : armed (refusalShown p reason d) = armed d := by
  refine armed_congr (seb_refusalShown p reason d _ ?_)
  have hkeys := arrayState_notMem_portStateKeys hp
  simp only [portStateKeys, List.cons_append, List.mem_cons, not_or] at hkeys ⊢
  exact ⟨hkeys.1, by simp only [R.ARRAY_STATE, R.FE_REFUSE_REASON]; omega, hkeys.2⟩

theorem lastFault_refuse {p : Nat} (hp : p < 16) (reason : Nat) (d : Dev) :
    LastFault (if armed d = true ∧ dget R.CLOCK_REF_PORT d = p then 0x1182 else 0x0185) (refuse p reason d) := by
  have hget : ∀ r : Reg, r.key < 0x480000 → dget r (report 0x0185 p reason (refusalShown p reason d)) = dget r (refusalShown p reason d) :=
    fun r hr => dget_report (by decide) _ _ _ r (notMem_reportKeys_of_lt hr)
  have harmed : armed (report 0x0185 p reason (refusalShown p reason d)) = armed d :=
    (armed_congr (hget _ (by decide))).trans (armed_refusalShown hp reason d)
  have hlost := lastFault_refLost p (lastFault_report (c := 0x0185) (by decide) p reason (refusalShown p reason d))
  rw [harmed, hget _ (by decide)] at hlost
  rw [refuse_eq]
  by_cases h : armed d = true
  · rwa [clockRef_refusalShown hp reason h] at hlost
  · simpa only [h, Bool.false_eq_true, false_and, if_false] using hlost

end Sys2Proof.Machine
end

section
/-! SUPPORT. The commands of discovery, one equation and one completion lemma each, and what settles O1. -/

namespace Sys2Proof.Machine

/-! ### PRESENT_N falls and rises (R61, R70) -/

/-- PRESENT_N of the port is low. -/
def presentLow (p : Nat) (d : Dev) : Dev := setPort p { portOf d p with presentN := false } d

theorem presentNFall_eq {p : Nat} {d : Dev} (hn : (portOf d p).presentN = true) (hheld : (portOf d p).held = false)
    (hw : portWatched d p = true) : presentNFall p d = beginDiscovery p (presentLow p d) := by
  have hw' : ¬ portWatched (presentLow p d) p = false := by rw [show portWatched (presentLow p d) p = true from hw]; decide
  unfold presentNFall
  rw [if_neg (by rw [hn]; decide)]
  refine (if_neg hw').trans (if_neg ?_)
  simp [hheld]

/-- In RUN, with no transition in progress, a wake source does nothing (R458). -/
theorem wake_in_run {d : Dev} (src : Nat) (hs : dget R.POWER_STATE d = 0) (ht : dget R.POWER_TRANSITION d = 0) : wake src d = d := by
  simp [wake, powerState, hs, ht]

theorem completes_presentNFall (p : Nat) (s : State) (hp : p < 16) (hn : (portOf s.dev p).presentN = true)
    (hheld : (portOf s.dev p).held = false) (hw : portWatched s.dev p = true) (hs : dget R.POWER_STATE s.dev = 0)
    (ht : dget R.POWER_TRANSITION s.dev = 0) :
    Completes (exec (.presentNFall p) s) s fun d =>
      dget (R.FE_STATE p) d = 1 ∧ dget (R.FE_REFUSE_REASON p) d = 0 ∧
      portOf d p = { portOf s.dev p with
        presentN := false, fellAt := some s.dev.now, held := false, kept := 0, presentFrom := none, retrainAt := none, fesyncN := true
        sysAt := none, sysPer := 0 } ∧
      (∀ q, q ≠ p → portOf d q = portOf s.dev q) ∧
      SameEntriesBut ((R.FE_STATE p).key :: (R.FE_REFUSE_REASON p).key :: laneStateKeys p ++ presenceKeys) s.dev d ∧
      ChangesOnly [.dict, .ports] s.dev d := by
  have hseb := (seb_dict rfl).trans (seb_beginDiscovery p (presentLow p s.dev)) (a := s.dev)
  have hpower : ∀ r : Reg, 0x440000 ≤ r.key → dget r (presentNFall p s.dev) = dget r s.dev := fun r hr => by
    rw [presentNFall_eq hn hheld hw]
    refine hseb r ?_
    simp only [laneStateKeys, presenceKeys, R.FE_STATE, R.FE_REFUSE_REASON, R.LANE_STATE, R.FE_PRESENT, R.CLOCK_REF_PORT, R.CLOCK_STATE,
      List.mem_append, List.mem_cons, List.mem_map, List.mem_range, List.not_mem_nil, or_false]
    rintro ((h | h | ⟨i, hi, h⟩) | h) <;> omega
  refine ⟨presentNFall p s.dev, ?_, ?_⟩
  · refine Eq.trans (run_ok (by simpa using hp) : execPresentNFall p s = _) ?_
    simp only [wake_in_run 1 ((hpower _ (by decide)).trans hs) ((hpower _ (by decide)).trans ht), ite_self]
  rw [presentNFall_eq hn hheld hw]
  refine ⟨fe_beginDiscovery _ _, reason_beginDiscovery hp _, ?_, fun q hq => ?_, hseb, ?_⟩
  · rw [portOf_beginDiscovery_same, presentLow, portOf_setPort_same]; rfl
  · rw [portOf_beginDiscovery_ne hq, presentLow, portOf_setPort_ne _ _ (Ne.symm hq)]
  · exact (only_setPort p _ _).then (only_beginDiscovery p _) (by decide) (by decide)

/-- The port as a rise of PRESENT_N leaves it, `held` saying that it was REFUSED. -/
def emptied (held : Bool) (x : Port) : Port := { x with held := held, fellAt := none, retrainAt := none, fesyncN := true }

/-- PRESENT_N of the port is high. -/
def presentHigh (p : Nat) (d : Dev) : Dev := setPort p { portOf d p with presentN := true, roseAt := some d.now } d

/-- The port has left service behind PRESENT_N high. -/
def portRisen (p : Nat) (d : Dev) : Dev := modPort p (emptied (decide (dget (R.FE_STATE p) d = 2))) (portLeaves p (presentHigh p d))

theorem presentNRise_eq {p : Nat} {d : Dev} (hn : (portOf d p).presentN = false) (hw : portWatched d p = true) :
    presentNRise p d = refLost p (setFe p 0 (setLanes p (fun i _ => laneOr (portRisen p d) p i 0) (portRisen p d))) := by
  have hw' : portWatched (presentHigh p d) p = true := hw
  unfold presentHigh at hw'
  simp only [presentNRise, hn, hw', Bool.false_eq_true, Bool.true_eq_false, if_false]
  rfl

theorem only_portRisen (p : Nat) (d : Dev) : ChangesOnly [.flt, .frames, .ports, .chans] d (portRisen p d) :=
  (only_setPort p _ d).then ((only_portLeaves p _).then (only_modPort p _ _) (rs := [.flt, .frames, .ports, .chans]) (by decide) (by decide))
    (by decide) (by decide)

theorem completes_presentNRise (p : Nat) (s : State) (hp : p < 16) (hn : (portOf s.dev p).presentN = false) (hw : portWatched s.dev p = true) :
    Completes (exec (.presentNRise p) s) s fun d =>
      dget (R.FE_STATE p) d = 0 ∧
      portOf d p = { portOf s.dev p with
        presentN := true, roseAt := some s.dev.now, held := decide (dget (R.FE_STATE p) s.dev = 2), presentFrom := none
        fellAt := none, retrainAt := none, fesyncN := true } ∧
      (∀ q, q ≠ p → portOf d q = portOf s.dev q) ∧ ChannelsGone p s.dev d ∧
      SameEntriesBut ((R.FE_STATE p).key :: laneStateKeys p ++ presenceKeys ++ reportKeys) s.dev d ∧
      ChangesOnly [.dict, .ports, .chans, .frames, .host, .flt] s.dev d := by
  refine ⟨presentNRise p s.dev, run_ok (by simpa using hp), ?_⟩
  rw [presentNRise_eq hn hw]
  have hshown := (only_shown p 0 (fun i _ => laneOr (portRisen p s.dev) p i 0) (portRisen p s.dev)).then (only_refLost p _)
    (rs := [.dict, .host, .flt]) (by decide) (by decide)
  refine ⟨(fe_refLost hp _ _).trans (dget_setFe _ _ _), ?_, fun q hq => ?_, ?_, ?_, ?_⟩
  · rw [portOf_of_only hshown (by decide), portRisen, portOf_modPort_same, portOf_portLeaves_same, presentHigh, portOf_setPort_same]; rfl
  · rw [portOf_of_only hshown (by decide), portRisen, portOf_modPort_ne _ _ (Ne.symm hq), portOf_portLeaves_ne hq,
      presentHigh, portOf_setPort_ne _ _ (Ne.symm hq)]
  · exact channelsGone_of_chans (channelsGone_of_start (channelsGone_portLeaves p (presentHigh p s.dev)) rfl rfl) (hshown .chans (by decide))
  · refine (seb_dict (only_portRisen p s.dev .dict (by decide))).trans (((seb_shown p 0 _ _).mono ?_).trans ((seb_refLost p _).mono ?_))
    · exact List.subset_append_left _ _
    · intro k hk; simp only [List.mem_cons, List.mem_append] at hk ⊢; tauto
  · exact (only_portRisen p s.dev).then hshown (by decide) (by decide)

/-! ### DISCOVERY_DEBOUNCE_DONE with a good descriptor (steps 1 to 7 of Table 3.3) -/

/-- What a descriptor declares, taken by its port (R64, Table 3.4). -/
def declared (desc : List Nat) (x : Port) : Port :=
  { x with
    fellAt := none, lanes := bits (descWord desc 2) 51 48, chans := bits (descWord desc 2) 47 40, rate := bits (descWord desc 3) 31 0 / 50000
    fOct := bits (descWord desc 2) 39 32, sPer := bits (descWord desc 2) 31 24
    blocks := if decide (bits (descWord desc 2) 63 56 = 0x0C) then bits (descWord desc 3) 47 32 else bits (descWord desc 3) 63 48
    wide := decide (bits (descWord desc 4) 31 24 = 1), offBin := decide (bits (descWord desc 4) 23 16 = 1)
    bitsN := bits (descWord desc 2) 23 16, profile := bits (descWord desc 2) 63 56
    fesyncN := decide (bits (descWord desc 2) 63 56 = 0x0C) }

/-- The descriptor has been read by ac t (steps 1 to 3). -/
def descRead (p t : Nat) (desc : List Nat) (d : Dev) : Dev := dset (R.FE_DESCRIPTOR p) (ofBytes desc) (advTo t d)

theorem seb_descRead (p t : Nat) (desc : List Nat) (d : Dev) : SameEntriesBut [(R.FE_DESCRIPTOR p).key] d (descRead p t desc d) :=
  (seb_dict (advTo_dict t d)).trans (seb_dset List.mem_cons_self _ _)

theorem only_descRead (p t : Nat) (desc : List Nat) (d : Dev) : ChangesOnly [.now, .time, .dict] d (descRead p t desc d) :=
  (only_advTo t d).then (only_dset _ _ _) (by decide) (by decide)

theorem portOf_descRead (p t q : Nat) (desc : List Nat) (d : Dev) : portOf (descRead p t desc d) q = portOf d q :=
  portOf_of_only (only_descRead p t desc d) (by decide) q

/-- Steps 6 and 7 read nothing that the reading of the descriptor writes. -/
theorem descWanted_descRead (p t : Nat) (desc : List Nat) (d : Dev) : descWanted (descRead p t desc d) p desc = descWanted d p desc := by
  have h := seb_descRead p t desc d
  unfold descWanted
  rw [h (R.PORT_MODE p) (by simp [R.PORT_MODE, R.FE_DESCRIPTOR]), h (R.PORT_PROFILE p) (by simp [R.PORT_PROFILE, R.FE_DESCRIPTOR]),
    h (R.PORT_SAMPLE_RATE p) (by simp [R.PORT_SAMPLE_RATE, R.FE_DESCRIPTOR]), h (R.PORT_CHANNELS p) (by simp [R.PORT_CHANNELS, R.FE_DESCRIPTOR])]

theorem profDecim_descRead {p : Nat} (hp : p < 16) (t c : Nat) (desc : List Nat) (d : Dev) :
    profDecim (descRead p t desc d) c = profDecim d c := by
  have h : ∀ r : Reg, 0x240000 ≤ r.key → dget r (descRead p t desc d) = dget r d := fun r hr =>
    seb_descRead p t desc d r (by simp only [R.FE_DESCRIPTOR, List.mem_singleton]; omega)
  have hfilter : ∀ k, dget (R.FILTER_ENABLE k) (descRead p t desc d) = dget (R.FILTER_ENABLE k) d := fun k =>
    h _ (by simp only [R.FILTER_ENABLE]; omega)
  have hdecim : ∀ k, dget (R.FIR_DECIMATION k) (descRead p t desc d) = dget (R.FIR_DECIMATION k) d := fun k =>
    h _ (by simp only [R.FIR_DECIMATION]; omega)
  simp only [profDecim, h (R.CH_PROFILE c) (by simp only [R.CH_PROFILE]; omega), hfilter, hdecim]

theorem descCompiled_descRead {p : Nat} (hp : p < 16) (t : Nat) (desc : List Nat) (d : Dev) :
    descCompiled (descRead p t desc d) p desc = descCompiled d p desc := by
  have hldr : (descRead p t desc d).ldr = d.ldr := only_descRead p t desc d .ldr (by decide)
  unfold descCompiled
  simp only [hldr, profDecim_descRead hp]

/-- The port trains by what its descriptor declares. -/
def declaredTraining (p t : Nat) (desc : List Nat) (d : Dev) : Dev := modPort p (declared desc) (descRead p t desc d)

theorem seb_declaredTraining (p t : Nat) (desc : List Nat) (d : Dev) :
    SameEntriesBut [(R.FE_DESCRIPTOR p).key] d (declaredTraining p t desc d) := seb_descRead p t desc d

theorem only_declaredTraining (p t : Nat) (desc : List Nat) (d : Dev) :
    ChangesOnly [.now, .time, .dict, .ports] d (declaredTraining p t desc d) :=
  (only_descRead p t desc d).then (only_modPort p _ _) (by decide) (by decide)

theorem discoveryDebounceDone_good {p t : Nat} {desc : List Nat} {d : Dev} (hp : p < 16) (hlen : desc.length = 256)
    (hfell : (portOf d p).fellAt = some t) (hgood : descGood desc = true) (hsup : descSupported desc = true)
    (hwant : descWanted d p desc = true) (hcomp : descCompiled d p desc = true) :
    ∃ f, discoveryDebounceDone p desc d = setFe p 3 (setLanes p f (declaredTraining p (t + 10 * acPerMs) desc d)) := by
  have hne : desc ≠ [] := by rintro rfl; simp at hlen
  have hwant' := (descWanted_descRead p (t + 10 * acPerMs) desc d).trans hwant
  have hcomp' := (descCompiled_descRead hp (t + 10 * acPerMs) desc d).trans hcomp
  unfold descRead at hwant' hcomp'
  refine ⟨fun i _ => laneOr (declaredTraining p (t + 10 * acPerMs) desc d) p i
    (if laneUsed (declaredTraining p (t + 10 * acPerMs) desc d) p i then 1 else 0), ?_⟩
  simp only [discoveryDebounceDone, hfell, hne, hgood, hsup, hwant', hcomp', Bool.true_eq_false, if_false]
  rfl

theorem completes_discoveryDebounceDone (p t : Nat) (desc : List Nat) (s : State) (hp : p < 16) (hlen : desc.length = 256)
    (hbytes : ∀ b ∈ desc, b < 256) (hfell : (portOf s.dev p).fellAt = some t) (hgood : descGood desc = true)
    (hsup : descSupported desc = true) (hwant : descWanted s.dev p desc = true) (hcomp : descCompiled s.dev p desc = true) :
    Completes (exec (.discoveryDebounceDone p desc) s) s fun d =>
      dget (R.FE_STATE p) d = 3 ∧ dget (R.FE_DESCRIPTOR p) d = ofBytes desc ∧ d.now = max (t + 10 * acPerMs) s.dev.now ∧
      (portOf d p).fellAt = none ∧ (portOf d p).rate = bits (descWord desc 3) 31 0 / 50000 ∧
      (portOf d p).lanes = bits (descWord desc 2) 51 48 ∧ (portOf d p).chans = bits (descWord desc 2) 47 40 ∧
      (portOf d p).profile = bits (descWord desc 2) 63 56 ∧
      (∀ q, q ≠ p → portOf d q = portOf s.dev q) ∧
      SameEntriesBut ((R.FE_STATE p).key :: (R.FE_DESCRIPTOR p).key :: laneStateKeys p ++ presenceKeys) s.dev d ∧
      ChangesOnly [.now, .time, .dict, .ports] s.dev d := by
  refine ⟨discoveryDebounceDone p desc s.dev, run_ok (by simpa [hp, hlen] using hbytes), ?_⟩
  obtain ⟨f, heq⟩ := discoveryDebounceDone_good hp hlen hfell hgood hsup hwant hcomp
  rw [heq]
  have hport : portOf (setFe p 3 (setLanes p f (declaredTraining p (t + 10 * acPerMs) desc s.dev))) p = declared desc (portOf s.dev p) := by
    rw [portOf_setFe, portOf_setLanes, declaredTraining, portOf_modPort_same, portOf_descRead]
  have hnow : (declaredTraining p (t + 10 * acPerMs) desc s.dev).now = max (t + 10 * acPerMs) s.dev.now := advTo_now _ _
  rw [hport]
  refine ⟨dget_setFe _ _ _, ?_, ?_, rfl, rfl, rfl, rfl, rfl, fun q hq => ?_, ?_, ?_⟩
  · have hkey : (R.FE_DESCRIPTOR p).key ∉ portStateKeys p := notMem_portStateKeys hp (by simp only [R.FE_DESCRIPTOR]; omega)
      (by simp only [R.FE_DESCRIPTOR]; omega) (by simp only [R.FE_DESCRIPTOR, R.FE_STATE]; omega)
    rw [seb_shown p 3 f _ _ hkey, declaredTraining, dget_modPort, descRead, dget_dset_same]
  · rw [setFe_now, setLanes_now, hnow]
  · rw [portOf_setFe, portOf_setLanes, declaredTraining, portOf_modPort_ne _ _ (Ne.symm hq), portOf_descRead]
  · refine ((seb_declaredTraining p (t + 10 * acPerMs) desc s.dev).mono ?_).trans ((seb_shown p 3 f _).mono ?_)
    · simp
    · intro k hk; simp only [portStateKeys, List.mem_cons, List.mem_append] at hk ⊢; tauto
  · exact (only_declaredTraining p _ desc _).then (only_shown p 3 f _) (by decide) (by decide)

/-! ### DISCOVERY_TIMEOUT (steps 2, 3, 8 and 9) -/

theorem completes_lockTimeout (p : Nat) (s : State) (hp : p < 16) (hst : dget (R.FE_STATE p) s.dev = 3) :
    Completes (exec (.discoveryTimeout p) s) s fun d =>
      dget (R.FE_STATE p) d = 2 ∧ dget (R.FE_REFUSE_REASON p) d = 9 ∧ (portOf d p).presentFrom = none ∧
      LastFault (if armed s.dev = true ∧ dget R.CLOCK_REF_PORT s.dev = p then 0x1182 else 0x0185) d ∧
      (∀ q, q ≠ p → portOf d q = portOf s.dev q) ∧
      SameEntriesBut ((R.FE_STATE p).key :: (R.FE_REFUSE_REASON p).key :: laneStateKeys p ++ presenceKeys ++ reportKeys) s.dev d ∧
      ChangesOnly [.dict, .ports, .host, .flt] s.dev d := by
  have heq : discoveryTimeout p s.dev = refuse p 9 s.dev := by simp [discoveryTimeout, hst]
  refine ⟨discoveryTimeout p s.dev, run_ok (by simpa using hp), ?_⟩
  rw [heq]
  refine ⟨fe_refuse hp _ _, reason_refuse hp _ _, ?_, lastFault_refuse hp _ _, fun q hq => ?_, seb_refuse _ _ _, only_refuse _ _ _⟩
  · rw [portOf_refuse, portOf_modPort_same]; rfl
  · rw [portOf_refuse, portOf_modPort_ne _ _ (Ne.symm hq)]

theorem completes_answerTimeout (p t : Nat) (s : State) (hp : p < 16) (hst : dget (R.FE_STATE p) s.dev = 1)
    (hfell : (portOf s.dev p).fellAt = some t) :
    Completes (exec (.discoveryTimeout p) s) s fun d =>
      dget (R.FE_STATE p) d = 2 ∧ dget (R.FE_REFUSE_REASON p) d = 7 ∧ d.now = max (t + 11 * acPerMs) s.dev.now ∧
      ChangesOnly [.now, .time, .dict, .ports, .host, .flt] s.dev d := by
  have heq : discoveryTimeout p s.dev = refuse p 7 (advTo (t + 11 * acPerMs) s.dev) := by simp [discoveryTimeout, hst, hfell]
  refine ⟨discoveryTimeout p s.dev, run_ok (by simpa using hp), ?_⟩
  rw [heq]
  exact ⟨fe_refuse hp _ _, reason_refuse hp _ _, (only_refuse p 7 _ .now (by decide)).trans (advTo_now _ _),
    (only_advTo _ _).then (only_refuse p 7 _) (by decide) (by decide)⟩

/-! ### LANE_LOCK_DONE (steps 8 and 9, R62, R67) -/

theorem only_cleanBegins (lane : Nat) (d : Dev) : ChangesOnly [.lanes] d (cleanBegins lane d) :=
  ChangesOnly.ite (only_modLane _ _ _) (ChangesOnly.refl _ _)

/-- The 60 s of the lanes of a port begin anew (R68). -/
def lanesCleanBegin (p : Nat) (is : List Nat) (d : Dev) : Dev := is.foldl (fun d i => cleanBegins (4 * p + i) d) d

theorem only_lanesCleanBegin (p : Nat) (is : List Nat) (d : Dev) : ChangesOnly [.lanes] d (lanesCleanBegin p is d) :=
  ChangesOnly.foldl (fun _ _ => only_cleanBegins _ _) _ _

theorem laneOf_cleanBegins (lane l : Nat) (d : Dev) :
    laneOf (cleanBegins lane d) l = if l = lane ∧ dget (R.LANE_RETRAINS l) d ≠ 0 ∧ dget (R.LANE_STATE l) d = 2
      then { laneOf d l with cleanFrom := some d.now } else laneOf d l := by
  unfold cleanBegins
  by_cases hl : l = lane
  · subst hl
    simp only [true_and]
    split
    · rw [laneOf_modLane_same]
    · rfl
  · simp only [hl, false_and, if_false]
    split
    · rw [laneOf_modLane_ne _ _ (Ne.symm hl)]
    · rfl

theorem laneOf_lanesCleanBegin (p l : Nat) (is : List Nat) (d : Dev) :
    laneOf (lanesCleanBegin p is d) l =
      if (∃ i ∈ is, l = 4 * p + i) ∧ dget (R.LANE_RETRAINS l) d ≠ 0 ∧ dget (R.LANE_STATE l) d = 2
      then { laneOf d l with cleanFrom := some d.now } else laneOf d l := by
  induction is generalizing d with
  | nil => simp [lanesCleanBegin]
  | cons i is ih =>
    have hfirst := only_cleanBegins (4 * p + i) d
    have hnow : (cleanBegins (4 * p + i) d).now = d.now := hfirst .now (by decide)
    show laneOf (lanesCleanBegin p is (cleanBegins (4 * p + i) d)) l = _
    rw [ih, dget_of_only hfirst (by decide), dget_of_only hfirst (by decide), hnow, laneOf_cleanBegins]
    by_cases h : dget (R.LANE_RETRAINS l) d ≠ 0 ∧ dget (R.LANE_STATE l) d = 2
    · by_cases hi : l = 4 * p + i <;> by_cases his : ∃ j ∈ is, l = 4 * p + j <;> simp_all
    · simp [h]

/-- The recovered clock of the port is known (R33, R34). -/
def clockRecovered (p : Nat) (ppm : Int) (d : Dev) : Dev :=
  { d with pll := { d.pll with
    ppm := tset 0 d.pll.ppm p ppm
    off := if dget R.CLOCK_REF_PORT d = p ∧ dget R.CLOCK_STATE d = 1 then ppm else d.pll.off } }

/-- The lanes of the port are up, and an attempt at a retrain is over. -/
def lanesLocked (p : Nat) (ppm : Int) (d : Dev) : Dev :=
  modPort p (fun x => { x with retrainAt := none, fesyncN := true }) (retrainOver p (lanesCleanBegin p (List.range 4)
    (setLanes p (fun i _ => if laneUsed d p i then 2 else 0) (clockRecovered p ppm d))))

theorem laneLockDone_eq {p : Nat} {d : Dev} (ppm : Int) (hst : dget (R.FE_STATE p) d = 3 ∨ dget (R.FE_STATE p) d = 7)
    (ht : portTested d p = false) :
    laneLockDone p true ppm d = setFe p (if running (lanesLocked p ppm d) then 5 else 4) (lanesLocked p ppm d) := by
  have h : ¬ ((dget (R.FE_STATE p) d ≠ 3 ∧ dget (R.FE_STATE p) d ≠ 7) ∨ portTested d p = true) := by
    rw [ht]; rintro (⟨h3, h7⟩ | h)
    · exact hst.elim h3 h7
    · cases h
  simp only [laneLockDone, if_neg h, Bool.not_true, Bool.false_and, Bool.false_eq_true, if_false]
  rfl

/-- Behind the lanes' states, the lock writes no entry. -/
theorem only_afterLanes (p : Nat) (d : Dev) :
    ChangesOnly [.lanes, .flt, .ports] d (modPort p (fun x => { x with retrainAt := none, fesyncN := true })
      (retrainOver p (lanesCleanBegin p (List.range 4) d))) :=
  (only_lanesCleanBegin p _ d).then ((only_retrainOver p _).then (only_modPort p _ _) (rs := [.flt, .ports]) (by decide) (by decide))
    (by decide) (by decide)

theorem only_lanesLocked (p : Nat) (ppm : Int) (d : Dev) : ChangesOnly [.pll, .dict, .lanes, .flt, .ports] d (lanesLocked p ppm d) :=
  ((only_pll _ d).then (only_setLanes p _ _) (rs := [.pll, .dict]) (by decide) (by decide)).then (only_afterLanes p _) (by decide) (by decide)

theorem seb_lanesLocked (p : Nat) (ppm : Int) (d : Dev) : SameEntriesBut (laneStateKeys p) d (lanesLocked p ppm d) :=
  (seb_dict rfl).trans ((seb_setLanes p (fun i _ => if laneUsed d p i then 2 else 0) (clockRecovered p ppm d)).trans
    (seb_dict (only_afterLanes p _ .dict (by decide))))

theorem laneState_lanesLocked {i : Nat} (p : Nat) (ppm : Int) (d : Dev) (hi : i < 4) :
    dget (R.LANE_STATE (4 * p + i)) (lanesLocked p ppm d) = if laneUsed d p i then 2 else 0 :=
  (dget_of_only (only_afterLanes p _) (by decide) _).trans (dget_setLanes _ _ _ hi)

theorem portOf_lanesLocked (p q : Nat) (ppm : Int) (d : Dev) :
    portOf (lanesLocked p ppm d) q = if q = p then { portOf d p with retrainAt := none, fesyncN := true } else portOf d q := by
  have hbefore : ∀ k, portOf (retrainOver p (lanesCleanBegin p (List.range 4)
      (setLanes p (fun i _ => if laneUsed d p i then 2 else 0) (clockRecovered p ppm d)))) k = portOf d k := fun k => by
    rw [portOf_of_only (only_retrainOver p _) (by decide), portOf_of_only (only_lanesCleanBegin p _ _) (by decide), portOf_setLanes]; rfl
  unfold lanesLocked
  split
  case isTrue h => subst h; rw [portOf_modPort_same, hbefore]
  case isFalse h => rw [portOf_modPort_ne _ _ (Ne.symm h), hbefore]

theorem laneOf_lanesLocked {p : Nat} (hp : p < 16) (l : Nat) (ppm : Int) (d : Dev) :
    laneOf (lanesLocked p ppm d) l = if l / 4 = p ∧ laneUsed d p (l % 4) = true ∧ dget (R.LANE_RETRAINS l) d ≠ 0
      then { laneOf d l with cleanFrom := some d.now } else laneOf d l := by
  have hlanes : laneOf (lanesLocked p ppm d) l = laneOf (lanesCleanBegin p (List.range 4)
      (setLanes p (fun i _ => if laneUsed d p i then 2 else 0) (clockRecovered p ppm d))) l := by
    unfold lanesLocked
    rw [laneOf_of_only (only_modPort p _ _) (by decide), laneOf_of_only (only_retrainOver p _) (by decide)]
  rw [hlanes, laneOf_lanesCleanBegin, setLanes_now, laneOf_setLanes]
  by_cases hl : l / 4 = p
  · have hin : ∃ i ∈ List.range 4, l = 4 * p + i := ⟨l % 4, List.mem_range.2 (by omega), by omega⟩
    have hretr : dget (R.LANE_RETRAINS l) (setLanes p (fun i _ => if laneUsed d p i then 2 else 0) (clockRecovered p ppm d)) =
        dget (R.LANE_RETRAINS l) d := seb_setLanes p _ _ _ (notMem_laneStateKeys hp (by simp only [R.LANE_RETRAINS]; omega))
    have hstate : dget (R.LANE_STATE l) (setLanes p (fun i _ => if laneUsed d p i then 2 else 0) (clockRecovered p ppm d)) =
        if laneUsed d p (l % 4) then 2 else 0 := by
      have h4 : l = 4 * p + l % 4 := by omega
      rw [h4]
      simpa using dget_setLanes p _ _ (by omega)
    have hup : (if laneUsed d p (l % 4) = true then 2 else 0) = 2 ↔ laneUsed d p (l % 4) = true := by split <;> simp_all
    refine if_congr ?_ rfl rfl
    rw [hretr, hstate, hup]
    exact ⟨fun ⟨_, hr, hu⟩ => ⟨hl, hu, hr⟩, fun ⟨_, hu, hr⟩ => ⟨hin, hr, hu⟩⟩
  · have hout : ¬ ∃ i ∈ List.range 4, l = 4 * p + i := by rintro ⟨i, hi, h⟩; rw [List.mem_range] at hi; omega
    rw [if_neg (fun h => hout h.1), if_neg (fun h => hl h.1)]; rfl

theorem running_lanesLocked {p : Nat} (hp : p < 16) (ppm : Int) (d : Dev) : running (lanesLocked p ppm d) = running d :=
  running_congr (seb_lanesLocked p ppm d _ (notMem_laneStateKeys hp (by decide))) (only_lanesLocked p ppm d .grid (by decide))

theorem completes_laneLockDone (p : Nat) (ppm : Int) (s : State) (hp : p < 16)
    (hst : dget (R.FE_STATE p) s.dev = 3 ∨ dget (R.FE_STATE p) s.dev = 7) (ht : portTested s.dev p = false) :
    Completes (exec (.laneLockDone p true ppm) s) s fun d =>
      dget (R.FE_STATE p) d = (if running s.dev then 5 else 4) ∧ tget 0 d.pll.ppm p = ppm ∧
      portOf d p = { portOf s.dev p with retrainAt := none, fesyncN := true } ∧ (∀ q, q ≠ p → portOf d q = portOf s.dev q) ∧
      (∀ i, i < 4 → dget (R.LANE_STATE (4 * p + i)) d = if laneUsed s.dev p i then 2 else 0) ∧
      (∀ i, i < 4 → (laneOf d (4 * p + i)).cleanFrom =
        if laneUsed s.dev p i = true ∧ dget (R.LANE_RETRAINS (4 * p + i)) s.dev ≠ 0 then some s.dev.now
        else (laneOf s.dev (4 * p + i)).cleanFrom) ∧
      (∀ l, l / 4 ≠ p → laneOf d l = laneOf s.dev l) ∧
      SameEntriesBut ((R.FE_STATE p).key :: laneStateKeys p ++ presenceKeys) s.dev d ∧ ChangesOnly [.dict, .ports, .lanes, .pll, .flt] s.dev d := by
  refine ⟨laneLockDone p true ppm s.dev, run_ok (by simpa using hp), ?_⟩
  rw [laneLockDone_eq ppm hst ht, running_lanesLocked hp]
  refine ⟨dget_setFe _ _ _, ?_, ?_, fun q hq => ?_, fun i hi => ?_, fun i hi => ?_, fun l hl => ?_, ?_, ?_⟩
  · have hpll : (lanesLocked p ppm s.dev).pll = (clockRecovered p ppm s.dev).pll :=
      ((only_setLanes p _ _).then (only_afterLanes p _) (rs := [.dict, .lanes, .flt, .ports]) (by decide) (by decide)) .pll (by decide)
    rw [only_setFe p _ _ .pll (by decide), hpll]
    exact tget_tset_same _ _ _ _
  · rw [portOf_setFe, portOf_lanesLocked, if_pos rfl]
  · rw [portOf_setFe, portOf_lanesLocked, if_neg hq]
  · rw [laneState_setFe (by omega), laneState_lanesLocked p ppm s.dev hi]
  · have h4 : (4 * p + i) / 4 = p ∧ (4 * p + i) % 4 = i := by omega
    rw [laneOf_setFe, laneOf_lanesLocked hp, h4.1, h4.2]
    simp only [true_and]
    split <;> rfl
  · rw [laneOf_setFe, laneOf_lanesLocked hp, if_neg (fun h => hl h.1)]
  · refine ((seb_lanesLocked p ppm s.dev).mono ?_).trans ((seb_setFe p _ _).mono ?_) <;>
      (intro k hk; simp only [List.mem_cons, List.mem_append] at hk ⊢; tauto)
  · exact (only_lanesLocked p ppm s.dev).then (only_setFe p _ _) (by decide) (by decide)

/-! ### PORT_REINSTATE (R69) -/

theorem rowIs_portReinstate : ∀ p < 16, rowIs (R.PORT_REINSTATE p) ⟨0x2010, 16, 0x0C, 1, .u8, .wo, .range 1 1, .none, true⟩ = true := by
  decide +kernel

theorem command_portReinstate {p : Nat} (hp : p < 16) (c : Nat) (d : Dev) :
    command c (R.PORT_REINSTATE p).key 1 none d = ((portReinstate p d).1, (portReinstate p d).2, (R.PORT_REINSTATE p).key) := by
  have hidx : (R.PORT_REINSTATE p).key / 256 = 0x2010 + p := by simp only [R.PORT_REINSTATE]; omega
  have hin : 0x2010 ≤ (R.PORT_REINSTATE p).key / 256 ∧ (R.PORT_REINSTATE p).key / 256 < 0x2020 := by omega
  unfold command
  refine (if_pos hin).trans ?_
  rw [hidx, Nat.add_sub_cancel_left]

/-- On a watched port that is enabled and has PRESENT_N low, discovery starts afresh. -/
theorem portReinstate_eq {p : Nat} {d : Dev} (hen : dget (R.PORT_ENABLE p) d = 1) (hn : (portOf d p).presentN = false)
    (hw : portWatched d p = true) : portReinstate p d = (refLost p (beginDiscovery p (portLeaves p d)), 0) := by
  simp [portReinstate, hen, hn, hw, portLeaves]

theorem completes_portReinstate (p : Nat) (s : State) (hp : p < 16) (ha : Asks 0 s.dev) (hen : dget (R.PORT_ENABLE p) s.dev = 1)
    (hn : (portOf s.dev p).presentN = false) (hw : portWatched s.dev p = true) :
    Completes (exec (.portReinstate 0 p) s) s fun d =>
      dget (R.FE_STATE p) d = 1 ∧ dget (R.FE_REFUSE_REASON p) d = 0 ∧
      portOf d p = { portOf s.dev p with
        fellAt := some s.dev.now, held := false, kept := 0, presentFrom := none, retrainAt := none, fesyncN := true, sysAt := none
        sysPer := 0 } ∧
      (∀ q, q ≠ p → portOf d q = portOf s.dev q) ∧ ChannelsGone p s.dev d ∧
      SameEntriesBut ((R.FE_STATE p).key :: (R.FE_REFUSE_REASON p).key :: laneStateKeys p ++ presenceKeys ++ reportKeys) s.dev d ∧
      ChangesOnly [.dict, .ports, .chans, .frames, .host, .flt] s.dev d := by
  have heq : rowWrite 0 (R.PORT_REINSTATE p) 1 s.dev = refLost p (beginDiscovery p (portLeaves p s.dev)) := by
    have hcmd := command_portReinstate hp 0 s.dev
    rw [portReinstate_eq hen hn hw] at hcmd
    rw [wo_write _ ha (rowIs_portReinstate p hp) rfl (by decide) (.inr rfl) rfl rfl (by rw [asked_zero, hcmd]), asked_zero, hcmd]
  refine ⟨rowWrite 0 (R.PORT_REINSTATE p) 1 s.dev, run_ok (by simpa using hp), ?_⟩
  rw [heq]
  have hleft := only_portLeaves p s.dev
  have hbegun := only_beginDiscovery p (portLeaves p s.dev)
  have hlost := only_refLost p (beginDiscovery p (portLeaves p s.dev))
  refine ⟨(fe_refLost hp _ _).trans (fe_beginDiscovery _ _), (refuseReason_refLost hp _ _).trans (reason_beginDiscovery hp _), ?_,
    fun q hq => ?_, ?_, ?_, ?_⟩
  · rw [portOf_refLost, portOf_beginDiscovery_same, portOf_portLeaves_same, hleft .now (by decide)]
  · rw [portOf_refLost, portOf_beginDiscovery_ne hq, portOf_portLeaves_ne hq]
  · exact channelsGone_of_chans (channelsGone_portLeaves p s.dev)
      ((hlost .chans (by decide)).trans (hbegun .chans (by decide)))
  · refine (seb_dict (hleft .dict (by decide))).trans (((seb_beginDiscovery p _).mono ?_).trans ((seb_refLost p _).mono ?_)) <;>
      (intro k hk; simp only [List.mem_cons, List.mem_append] at hk ⊢; tauto)
  · exact hleft.then (hbegun.then hlost (rs := [.dict, .ports, .host, .flt]) (by decide) (by decide)) (by decide) (by decide)

/-- Settles O1: a conjunct for each command of discovery. A step that fails comes to `refuse`, one that starts afresh to `beginDiscovery`, and
a port that leaves service to `portLeaves`; what each writes is said once. -/
theorem frontEndDiscovery : Obligations.FrontEndDiscovery :=
  ⟨completes_presentNFall, completes_discoveryDebounceDone, completes_lockTimeout, completes_answerTimeout, completes_laneLockDone,
    completes_presentNRise, completes_portReinstate⟩

end Sys2Proof.Machine
end

section
/-! SUPPORT. Lane monitors, adaptation and the lane tests, one completion lemma per command, and what settles O3. -/

namespace Sys2Proof.Machine

/-! ### In-band interrupts (R63) -/

theorem completes_ibi (p b : Nat) (s : State) (hp : p < 16) (hb : b < 256) :
    Completes (exec (.ibi p b) s) s fun d =>
      dget (R.IBI_COUNT p) d = satAdd32 (dget (R.IBI_COUNT p) s.dev) 1 ∧ LastFault 0x0184 d ∧
      SameEntriesBut ((R.IBI_COUNT p).key :: reportKeys) s.dev d ∧ ChangesOnly [.dict, .host, .flt] s.dev d := by
  refine ⟨report 0x0184 p b (bump (R.IBI_COUNT p) s.dev), (run_ok (by simp [hp, hb]) : execIbi p b s = _), ?_,
    lastFault_report (by decide) _ _ _, ?_, ?_⟩
  · rw [dget_report (by decide) _ _ _ _ (notMem_reportKeys_of_lt (by simp only [R.IBI_COUNT]; omega)), dget_bump_same]
  · exact (seb_bump List.mem_cons_self _).trans ((seb_report (by decide) _ _ _).mono (List.subset_cons_self _ _))
  · exact (only_bump _ _).then (only_report (by decide) _ _ _) (by decide) (by decide)

/-! ### The eye monitor (R60) -/

/-- Both readings of a lane's eye are written. -/
def eyeRead (lane h w : Nat) (d : Dev) : Dev := dset (R.LANE_EYE_WIDTH lane) w (dset (R.LANE_EYE_HEIGHT lane) h d)

theorem seb_eyeRead (lane h w : Nat) (d : Dev) :
    SameEntriesBut [(R.LANE_EYE_HEIGHT lane).key, (R.LANE_EYE_WIDTH lane).key] d (eyeRead lane h w d) :=
  (seb_dset (by simp) _ _).trans (seb_dset (by simp) _ _)

theorem only_eyeRead (lane h w : Nat) (d : Dev) : ChangesOnly [.dict] d (eyeRead lane h w d) := (only_dset _ _ _).trans (only_dset _ _ _)

/-- An entry that is no reading of the eye of a lane. -/
theorem dget_eyeRead {lane : Nat} (hl : lane < 64) {r : Reg} (hr : r.key < 0x200501 ∨ 0x200641 ≤ r.key) (h w : Nat) (d : Dev) :
    dget r (eyeRead lane h w d) = dget r d :=
  seb_eyeRead lane h w d r (by simp only [R.LANE_EYE_HEIGHT, R.LANE_EYE_WIDTH, List.mem_cons, List.not_mem_nil, or_false]; omega)

theorem laneUp_eyeRead {lane : Nat} (hl : lane < 64) (h w : Nat) (d : Dev) : laneUp (eyeRead lane h w d) lane = laneUp d lane := by
  have hpwr : (eyeRead lane h w d).pwr = d.pwr := rfl
  unfold laneUp portsPowered
  rw [hpwr, dget_eyeRead hl (r := R.POWER_STATE) (by decide), dget_eyeRead hl (r := R.POWER_TRANSITION) (by decide),
    dget_eyeRead hl (r := R.LANE_STATE lane) (by simp only [R.LANE_STATE]; omega)]

theorem eyes_eyeRead (lane h w : Nat) (d : Dev) :
    dget (R.LANE_EYE_HEIGHT lane) (eyeRead lane h w d) = h ∧ dget (R.LANE_EYE_WIDTH lane) (eyeRead lane h w d) = w := by
  refine ⟨?_, dget_dset_same _ _ _⟩
  unfold eyeRead
  rw [dget_dset_ne _ _ (by simp only [R.LANE_EYE_HEIGHT, R.LANE_EYE_WIDTH]; omega), dget_dset_same]

/-- A reading below its warning level, on a lane that is up. -/
def eyeLow (lane h w : Nat) (d : Dev) : Prop :=
  laneUp d lane = true ∧ (h < dget R.MARGIN_WARN_HEIGHT d ∨ w < dget R.MARGIN_WARN_WIDTH d)

/-- The margin event is counted and reported. -/
def marginWarned (lane h w : Nat) (d : Dev) : Dev :=
  reportLim acPerS lane 0x0143 lane (h * 2 ^ 32 + w) (bump (R.LANE_MARGIN_EVENTS lane) d)

/-- The monitor's test, made once the readings are written, is of the block before them. -/
theorem eyeLow_eyeRead {lane : Nat} (hl : lane < 64) (h w : Nat) (d : Dev) :
    (laneUp (eyeRead lane h w d) lane && decide (h < dget R.MARGIN_WARN_HEIGHT (eyeRead lane h w d) ∨
      w < dget R.MARGIN_WARN_WIDTH (eyeRead lane h w d))) = true ↔ eyeLow lane h w d := by
  rw [laneUp_eyeRead hl, dget_eyeRead hl (by decide), dget_eyeRead hl (by decide), Bool.and_eq_true, decide_eq_true_eq]
  rfl

theorem marginUpdate_low {lane h w : Nat} {d : Dev} (hl : lane < 64) (hlow : eyeLow lane h w d) :
    marginUpdate lane h w d = marginWarned lane h w (eyeRead lane h w d) := if_pos ((eyeLow_eyeRead hl h w d).2 hlow)

theorem marginUpdate_fine {lane h w : Nat} {d : Dev} (hl : lane < 64) (hlow : ¬ eyeLow lane h w d) :
    marginUpdate lane h w d = eyeRead lane h w d := if_neg (mt (eyeLow_eyeRead hl h w d).1 hlow)

theorem seb_marginWarned (lane h w : Nat) (d : Dev) :
    SameEntriesBut ((R.LANE_MARGIN_EVENTS lane).key :: reportKeys) d (marginWarned lane h w d) :=
  (seb_bump List.mem_cons_self _).trans ((seb_reportLim (by decide) _ _ _ _ _).mono (List.subset_cons_self _ _))

theorem only_marginWarned (lane h w : Nat) (d : Dev) : ChangesOnly [.dict, .host, .flt] d (marginWarned lane h w d) :=
  (only_bump _ _).then (only_reportLim (by decide) _ _ _ _ _) (by decide) (by decide)

theorem marginEvents_marginWarned {lane : Nat} (hl : lane < 64) (h w : Nat) (d : Dev) :
    dget (R.LANE_MARGIN_EVENTS lane) (marginWarned lane h w d) = satAdd32 (dget (R.LANE_MARGIN_EVENTS lane) d) 1 := by
  unfold marginWarned
  rw [dget_reportLim (by decide) _ _ _ _ _ _ (notMem_reportKeys_of_lt (by simp only [R.LANE_MARGIN_EVENTS]; omega)), dget_bump_same]

theorem completes_marginUpdate (lane h w : Nat) (s : State) (hl : lane < 64) (hh : h < 65536) (hw : w < 256) :
    Completes (exec (.marginUpdate lane h w) s) s fun d =>
      dget (R.LANE_EYE_HEIGHT lane) d = h ∧ dget (R.LANE_EYE_WIDTH lane) d = w ∧
      (laneUp s.dev lane = true → h < dget R.MARGIN_WARN_HEIGHT s.dev ∨ w < dget R.MARGIN_WARN_WIDTH s.dev →
        dget (R.LANE_MARGIN_EVENTS lane) d = satAdd32 (dget (R.LANE_MARGIN_EVENTS lane) s.dev) 1) ∧
      (dget R.MARGIN_WARN_HEIGHT s.dev ≤ h → dget R.MARGIN_WARN_WIDTH s.dev ≤ w →
        SameEntriesBut [(R.LANE_EYE_HEIGHT lane).key, (R.LANE_EYE_WIDTH lane).key] s.dev d ∧ ChangesOnly [.dict] s.dev d) ∧
      SameEntriesBut ((R.LANE_EYE_HEIGHT lane).key :: (R.LANE_EYE_WIDTH lane).key :: (R.LANE_MARGIN_EVENTS lane).key :: reportKeys) s.dev d ∧
      ChangesOnly [.dict, .host, .flt] s.dev d := by
  refine ⟨marginUpdate lane h w s.dev, run_ok (by simp [hl, hh, hw]), ?_⟩
  obtain ⟨hheight, hwidth⟩ := eyes_eyeRead lane h w s.dev
  have hread := seb_eyeRead lane h w s.dev
  have honly := only_eyeRead lane h w s.dev
  by_cases hlow : eyeLow lane h w s.dev
  · rw [marginUpdate_low hl hlow]
    have hwarned := seb_marginWarned lane h w (eyeRead lane h w s.dev)
    have hkey : ∀ r : Reg, r.key < 0x200701 → r.key ∉ (R.LANE_MARGIN_EVENTS lane).key :: reportKeys := fun r hr => by
      rw [List.mem_cons, not_or]
      exact ⟨by simp only [R.LANE_MARGIN_EVENTS]; omega, notMem_reportKeys_of_lt (by omega)⟩
    refine ⟨(hwarned _ (hkey _ ?_)).trans hheight, (hwarned _ (hkey _ ?_)).trans hwidth, fun _ _ => ?_, fun h1 h2 => ?_, ?_, ?_⟩
    · simp only [R.LANE_EYE_HEIGHT]; omega
    · simp only [R.LANE_EYE_WIDTH]; omega
    · rw [marginEvents_marginWarned hl, dget_eyeRead hl (by simp only [R.LANE_MARGIN_EVENTS]; omega)]
    · exact absurd hlow.2 (by omega)
    · exact (hread.mono (by simp)).trans (hwarned.mono (fun _ hk => by simp only [List.mem_cons] at hk ⊢; tauto))
    · exact honly.then (only_marginWarned lane h w _) (by decide) (by decide)
  · rw [marginUpdate_fine hl hlow]
    exact ⟨hheight, hwidth, fun h1 h2 => absurd ⟨h1, h2⟩ hlow, fun _ _ => ⟨hread, honly⟩, hread.mono (by simp), honly.mono (by decide)⟩

/-! ### Adaptation (R59) -/

theorem completes_adaptUpdate (lane : Nat) (delta : Int) (s : State) (hl : lane < 64) (hlo : -64 ≤ delta) (hhi : delta ≤ 64)
    (hup : laneUp s.dev lane = true) (hhold : dget (R.ADAPT_HOLD lane) s.dev = 0)
    (hsoon : ∀ t, (laneOf s.dev lane).adaptAt = some t → t + 10 * acPerUs ≤ s.dev.now) :
    Completes (exec (.adaptUpdate lane delta) s) s fun d =>
      (laneOf d lane).adapt = (laneOf s.dev lane).adapt + delta ∧ (laneOf d lane).adaptAt = some s.dev.now ∧
      (∀ l, l ≠ lane → laneOf d l = laneOf s.dev l) ∧ ChangesOnly [.lanes] s.dev d := by
  have heq : adaptUpdate lane delta s.dev =
      modLane lane (fun l => { l with adaptAt := some s.dev.now, adapt := l.adapt + delta }) s.dev := by
    unfold adaptUpdate
    refine if_neg ?_
    rw [hup, hhold]
    cases hat : (laneOf s.dev lane).adaptAt with
    | none => simp
    | some t =>
      have := hsoon t hat
      simp only [Bool.not_true, Bool.false_or, Bool.or_eq_true, decide_eq_true_eq]
      omega
  refine ⟨adaptUpdate lane delta s.dev, run_ok (by simp [hl, hlo, hhi]), ?_⟩
  rw [heq]
  exact ⟨by rw [laneOf_modLane_same], by rw [laneOf_modLane_same], fun l hne => laneOf_modLane_ne _ _ (Ne.symm hne), only_modLane _ _ _⟩

theorem adaptUpdate_held (lane : Nat) (delta : Int) (s : State) (hl : lane < 64) (hlo : -64 ≤ delta) (hhi : delta ≤ 64)
    (hhold : dget (R.ADAPT_HOLD lane) s.dev = 1) : exec (.adaptUpdate lane delta) s = .next s := by
  have heq : adaptUpdate lane delta s.dev = s.dev := by
    unfold adaptUpdate
    exact if_pos (by simp [hhold])
  refine (run_ok (by simp [hl, hlo, hhi]) : execAdaptUpdate lane delta s = _).trans ?_
  rw [heq]

/-! ### The test entries of a lane (Table 3.8) -/

/-- The one row of an index is found under each of its subindices. -/
theorem findEntry_of_index {idx sub : Nat} {e : Entry} (hrow : entryTable.filter (fun x => decide (x.idx ≤ idx ∧ idx < x.idx + x.idxN)) = [e])
    (hsub : e.sub ≤ sub ∧ sub < e.sub + e.subN) : idxExists idx = true ∧ findEntry idx sub = some e := by
  obtain ⟨hmem, hidx⟩ := List.mem_filter.1 (hrow ▸ List.mem_singleton_self e : e ∈ entryTable.filter _)
  refine ⟨Bool.or_eq_true_iff.2 (.inr (List.any_eq_true.2 ⟨e, hmem, hidx⟩)), ?_⟩
  have hfind : findEntry idx sub = (entryTable.filter (fun x => decide (x.idx ≤ idx ∧ idx < x.idx + x.idxN))).find?
      (fun x => decide (x.sub ≤ sub ∧ sub < x.sub + x.subN)) := by
    simp only [findEntry, List.find?_filter, decide_eq_true_eq, and_assoc]
  rw [hfind, hrow]
  simp [hsub]

/-- The rows of the lane tests, for the lanes that exist. -/
theorem rowIs_laneTest {idx lane : Nat} {r : Reg} {e : Entry} (hl : lane < 64) (hidx : 0x5010 ≤ idx ∧ idx ≤ 0x5013)
    (hkey : r.key = idx * 256 + (1 + lane)) (hrow : entryTable.filter (fun x => decide (x.idx ≤ idx ∧ idx < x.idx + x.idxN)) = [e])
    (hsub : e.sub = 1 ∧ e.subN = 128) : rowIs r e = true := by
  obtain ⟨hexists, hfind⟩ := findEntry_of_index (sub := 1 + lane) hrow (by omega)
  have hi : r.key / 256 = idx := by omega
  have hs : r.key % 256 = 1 + lane := by omega
  have hstaging : stagingAt idx (1 + lane) = none := by
    unfold stagingAt
    rw [if_neg (by omega), if_neg (by omega), if_neg (by omega), if_neg (by omega)]
  have hghost : ghostLane r.key = false := decide_eq_false (by omega)
  have hne : 1 + lane ≠ 0 := by omega
  simp only [rowIs, hi, hs, hexists, hfind, hstaging, hghost, hne, ne_eq, not_false_eq_true, decide_true, Option.isNone_none, Bool.not_false,
    Bool.and_self]

theorem rowIs_adaptHold {lane : Nat} (hl : lane < 64) :
    rowIs (R.ADAPT_HOLD lane) ⟨0x5013, 1, 0x01, 128, .u8, .rw, .range 0 1, .none, false⟩ = true :=
  rowIs_laneTest hl (idx := 0x5013) (by decide) (by simp only [R.ADAPT_HOLD]; omega) (by decide +kernel) ⟨rfl, rfl⟩

theorem rowIs_injectRate {lane : Nat} (hl : lane < 64) :
    rowIs (R.INJECT_RATE lane) ⟨0x5012, 1, 0x01, 128, .u8, .rw, .inject, .none, false⟩ = true :=
  rowIs_laneTest hl (idx := 0x5012) (by decide) (by simp only [R.INJECT_RATE]; omega) (by decide +kernel) ⟨rfl, rfl⟩

theorem rowIs_prbsMode {lane : Nat} (hl : lane < 64) :
    rowIs (R.PRBS_MODE lane) ⟨0x5010, 1, 0x01, 128, .u8, .rws, .prbs, .lanePort, false⟩ = true :=
  rowIs_laneTest hl (idx := 0x5010) (by decide) (by simp only [R.PRBS_MODE]; omega) (by decide +kernel) ⟨rfl, rfl⟩

theorem putEntry_adaptHold {lane : Nat} (hl : lane < 64) (c v : Nat) (d : Dev) :
    putEntry c (R.ADAPT_HOLD lane).key v .rw none d = ((adaptHold lane v d).1, (adaptHold lane v d).2, (R.ADAPT_HOLD lane).key) := by
  have hin : (R.ADAPT_HOLD 0).key ≤ (R.ADAPT_HOLD lane).key ∧ (R.ADAPT_HOLD lane).key < (R.ADAPT_HOLD 64).key := by
    simp only [R.ADAPT_HOLD]; omega
  have hlane : (R.ADAPT_HOLD lane).key - (R.ADAPT_HOLD 0).key = lane := by simp only [R.ADAPT_HOLD]; omega
  refine (if_pos hin).trans ?_
  rw [hlane]

theorem putEntry_injectRate {lane : Nat} (hl : lane < 64) (c v : Nat) (d : Dev) :
    putEntry c (R.INJECT_RATE lane).key v .rw none d = ((injectRate lane v d).1, (injectRate lane v d).2, (R.INJECT_RATE lane).key) := by
  have hout : ¬ ((R.ADAPT_HOLD 0).key ≤ (R.INJECT_RATE lane).key ∧ (R.INJECT_RATE lane).key < (R.ADAPT_HOLD 64).key) := by
    simp only [R.ADAPT_HOLD, R.INJECT_RATE]; omega
  have hin : (R.INJECT_RATE 0).key ≤ (R.INJECT_RATE lane).key ∧ (R.INJECT_RATE lane).key < (R.INJECT_RATE 64).key := by
    simp only [R.INJECT_RATE]; omega
  have hlane : (R.INJECT_RATE lane).key - (R.INJECT_RATE 0).key = lane := by simp only [R.INJECT_RATE]; omega
  refine (if_neg hout).trans ((if_pos hin).trans ?_)
  rw [hlane]

/-- The entry has taken its value, and nothing else has followed yet. -/
def patternWritten (lane v : Nat) (d : Dev) : Dev := dset (regOf (R.PRBS_MODE lane).key) v d

theorem seb_patternWritten (lane v : Nat) (d : Dev) : SameEntriesBut [(R.PRBS_MODE lane).key] d (patternWritten lane v d) :=
  seb_dset (ks := [(R.PRBS_MODE lane).key]) (r := regOf (R.PRBS_MODE lane).key) List.mem_cons_self _ _

theorem only_patternWritten (lane v : Nat) (d : Dev) : ChangesOnly [.dict] d (patternWritten lane v d) := only_dset _ _ _

theorem putEntry_prbsMode {lane : Nat} (hl : lane < 64) (c v : Nat) (d : Dev) :
    putEntry c (R.PRBS_MODE lane).key v .rws none d = (prbsSet lane v (patternWritten lane v d), 0, (R.PRBS_MODE lane).key) := by
  have hkey : (R.PRBS_MODE lane).key = 0x501001 + lane := rfl
  have hloaded : breaksLoaded d (R.PRBS_MODE lane).key v = false := by
    have hf : (R.PRBS_MODE lane).key ≠ R.FRAME_LENGTH.key := by rw [hkey]; simp only [R.FRAME_LENGTH]; omega
    have hv : (R.PRBS_MODE lane).key ≠ R.VERDICT_LATENCY.key := by rw [hkey]; simp only [R.VERDICT_LATENCY]; omega
    simp [breaksLoaded, hf, hv]
  have hsegment : underSegment d (R.PRBS_MODE lane).key v = false := by
    simp only [underSegment, decide_eq_false_iff_not, hkey]
    omega
  have hpps : ¬ ((R.PRBS_MODE lane).key = R.PPS_OUT_MODE.key ∨ (R.PRBS_MODE lane).key = R.PPS_OUT_WIDTH.key) := by
    rw [hkey]; simp only [R.PPS_OUT_MODE, R.PPS_OUT_WIDTH]; omega
  have hin : (R.PRBS_MODE 0).key ≤ (R.PRBS_MODE lane).key ∧ (R.PRBS_MODE lane).key < (R.PRBS_MODE 64).key := by
    simp only [R.PRBS_MODE]; omega
  have hlane : (R.PRBS_MODE lane).key - (R.PRBS_MODE 0).key = lane := by simp only [R.PRBS_MODE]; omega
  have hset : setTo (R.PRBS_MODE lane).key v d = prbsSet lane v (patternWritten lane v d) := by
    unfold setTo
    refine (if_pos hin).trans ?_
    rw [if_neg hpps, hlane]
    rfl
  simp only [putEntry, hloaded, hsegment, hset, Bool.false_eq_true, if_false]

/-! ### Writes of one entry by its row -/

theorem seb_asked (ks : List Nat) (c : Nat) (d : Dev) : SameEntriesBut ks d (asked c d) := fun r _ => dget_asked r c d

/-- A write that passes its checks comes to the access code of its row. -/
theorem entryWrite_row {c v : Nat} {r : Reg} {d : Dev} (e : Entry) (h : Asks c d) (hr : rowIs r e = true)
    (ha : e.access ≠ .const ∧ e.access ≠ .ro) (hv : v < 2 ^ (8 * tyBytes e.ty)) (hh : e.hostOnly = false) (hc : chkValue d e.chk v = 0)
    (ho : ownerRuns d e.owner r.key = false) :
    entryWrite c (r.key / 256) (r.key % 256) (natural v) none (asked c d) = putEntry c r.key v e.access none (asked c d) := by
  simp only [rowIs, Bool.and_eq_true, decide_eq_true_eq, Option.isNone_iff_eq_none, Bool.not_eq_true'] at hr
  obtain ⟨⟨⟨⟨hidx, hsub⟩, hstaging⟩, hfind⟩, hghost⟩ := hr
  have hkey : r.key / 256 * 256 + r.key % 256 = r.key := by omega
  have hput := entryWrite_ok (c := c) (v := v) (conv := natural v) (img := none) (d := asked c d) hidx hsub hstaging hfind ha (by simp [natural, hv])
    (.inl hh) (mayWrite_asks h _) (by rw [chkValue_asked]; exact hc) (by rw [ownerRuns_asked, hkey]; exact ho) (by rw [hkey]; exact hghost)
  rwa [hkey] at hput

theorem rowWrite_admitted {c v : Nat} {r : Reg} {d x : Dev} (h : Asks c d)
    (hf : entryWrite c (r.key / 256) (r.key % 256) (natural v) none (asked c d) = (x, 0, r.key)) : rowWrite c r v d = x := by
  unfold rowWrite
  rw [request_asks h (by rw [hf]), hf]

/-! ### ADAPT_HOLD (R59) -/

theorem entryWrite_adaptHold {c lane v : Nat} {d : Dev} (ha : Asks c d) (hl : lane < 64) (hv : v < 2) :
    entryWrite c ((R.ADAPT_HOLD lane).key / 256) ((R.ADAPT_HOLD lane).key % 256) (natural v) none (asked c d) =
      if d.pins.testEn then (dset (R.ADAPT_HOLD lane) v (asked c d), 0, (R.ADAPT_HOLD lane).key)
      else (asked c d, 0xA00F, (R.ADAPT_HOLD lane).key) := by
  have hchk : chkValue d (.range 0 1) v = 0 := by simp [chkValue, Nat.le_of_lt_succ hv]
  have hpins : (asked c d).pins = d.pins := only_asked c d .pins (by decide)
  rw [entryWrite_row _ ha (rowIs_adaptHold hl) (by decide) (by simp only [tyBytes]; omega) rfl hchk rfl, putEntry_adaptHold hl, adaptHold,
    hpins]
  split <;> rfl

theorem completes_adaptHold (c lane v : Nat) (s : State) (ha : Asks c s.dev) (hl : lane < 64) (hv : v < 2) (ht : s.dev.pins.testEn = true) :
    Completes (exec (.adaptHold c lane v) s) s fun d =>
      dget (R.ADAPT_HOLD lane) d = v ∧ SameEntriesBut [(R.ADAPT_HOLD lane).key] s.dev d ∧ ChangesOnly [.dict] (asked c s.dev) d := by
  have heq := rowWrite_admitted ha ((entryWrite_adaptHold ha hl hv).trans (if_pos ht))
  refine ⟨rowWrite c (R.ADAPT_HOLD lane) v s.dev, run_ok (decide_eq_true ⟨ha.1, by omega, by omega⟩), ?_⟩
  rw [heq]
  exact ⟨dget_dset_same _ _ _, (seb_asked _ c s.dev).trans (seb_dset List.mem_cons_self _ _), only_dset _ _ _⟩

theorem completes_adaptHold_refused (lane v : Nat) (s : State) (ha : Asks 0 s.dev) (hl : lane < 64) (hv : v < 2)
    (ht : s.dev.pins.testEn = false) :
    Completes (exec (.adaptHold 0 lane v) s) s fun d =>
      d.ctl.abortCount = satAdd32 s.dev.ctl.abortCount 1 ∧ d.ctl.lastAbort % 2 ^ 16 = 0xA00F ∧ SameEntriesBut [] s.dev d ∧
      ChangesOnly [.ctl] s.dev d := by
  have htest : ¬ s.dev.pins.testEn = true := by rw [ht]; decide
  obtain ⟨hsame, honly, hhost, -⟩ := request_refused ha (by decide) (by decide) ((entryWrite_adaptHold ha hl hv).trans (if_neg htest))
  obtain ⟨hcount, hcode⟩ := hhost rfl
  exact ⟨rowWrite 0 (R.ADAPT_HOLD lane) v s.dev, run_ok (decide_eq_true ⟨ha.1, by omega, by omega⟩), hcount, hcode, hsame, honly⟩

/-! ### INJECT_RATE (R73, R74) -/

theorem entryWrite_injectRate {c lane v : Nat} {d : Dev} (ha : Asks c d) (hl : lane < 64) (hv : v ≤ 1 ∨ (10 ≤ v ∧ v ≤ 40))
    (ht : d.pins.testEn = true) :
    entryWrite c ((R.INJECT_RATE lane).key / 256) ((R.INJECT_RATE lane).key % 256) (natural v) none (asked c d) =
      (if v = 1 then dset (R.INJECT_RATE lane) 0 (laneCodeError lane (unitNow (asked c d) lane) (asked c d))
        else dset (R.INJECT_RATE lane) v (asked c d), 0, (R.INJECT_RATE lane).key) := by
  have hchk : chkValue d .inject v = 0 := by simp [chkValue, hv]
  have hpins : (asked c d).pins.testEn = true := by rw [only_asked c d .pins (by decide)]; exact ht
  have hrange : ¬ ((2 ≤ v ∧ v ≤ 9) ∨ 40 < v) := by omega
  rw [entryWrite_row _ ha (rowIs_injectRate hl) (by decide) (by simp only [tyBytes]; omega) rfl hchk rfl, putEntry_injectRate hl,
    injectRate, if_neg hrange, if_neg (by simp [hpins])]
  split <;> rfl

theorem completes_injectRate (c lane v : Nat) (s : State) (ha : Asks c s.dev) (hl : lane < 64) (hv : v = 0 ∨ (10 ≤ v ∧ v ≤ 40))
    (ht : s.dev.pins.testEn = true) :
    Completes (exec (.injectRate c lane v) s) s fun d =>
      dget (R.INJECT_RATE lane) d = v ∧ SameEntriesBut [(R.INJECT_RATE lane).key] s.dev d ∧ ChangesOnly [.dict] (asked c s.dev) d := by
  have heq := rowWrite_admitted ha (entryWrite_injectRate (v := v) ha hl (by omega) ht)
  rw [if_neg (by omega)] at heq
  refine ⟨rowWrite c (R.INJECT_RATE lane) v s.dev, run_ok (decide_eq_true ⟨ha.1, by omega, by omega⟩), ?_⟩
  rw [heq]
  exact ⟨dget_dset_same _ _ _, (seb_asked _ c s.dev).trans (seb_dset List.mem_cons_self _ _), only_dset _ _ _⟩

/-- On a lane in test, a code error is one of the checker's. -/
theorem laneCodeError_tested {lane : Nat} {d : Dev} (u : Nat) (h : dget (R.LANE_STATE lane) d = 5) :
    laneCodeError lane u d = bump (R.PRBS_ERRORS lane) d := if_pos h

theorem completes_injectOne (c lane : Nat) (s : State) (ha : Asks c s.dev) (hl : lane < 64) (ht : s.dev.pins.testEn = true)
    (hst : dget (R.LANE_STATE lane) s.dev = 5) :
    Completes (exec (.injectRate c lane 1) s) s fun d =>
      dget (R.INJECT_RATE lane) d = 0 ∧ dget (R.PRBS_ERRORS lane) d = satAdd32 (dget (R.PRBS_ERRORS lane) s.dev) 1 ∧
      SameEntriesBut [(R.INJECT_RATE lane).key, (R.PRBS_ERRORS lane).key] s.dev d ∧ ChangesOnly [.dict] (asked c s.dev) d := by
  have heq := rowWrite_admitted ha (entryWrite_injectRate ha hl (.inl (Nat.le_refl 1)) ht)
  rw [if_pos rfl, laneCodeError_tested _ ((dget_asked _ c s.dev).trans hst)] at heq
  refine ⟨rowWrite c (R.INJECT_RATE lane) 1 s.dev, run_ok (decide_eq_true ⟨ha.1, by omega, by omega⟩), ?_⟩
  rw [heq]
  refine ⟨dget_dset_same _ _ _, ?_, ?_, (only_bump _ _).trans (only_dset _ _ _)⟩
  · rw [dget_dset_ne _ _ (by simp only [R.INJECT_RATE, R.PRBS_ERRORS]; omega), dget_bump_same, dget_asked]
  · exact (seb_asked _ c s.dev).trans ((seb_bump (by simp) _).trans (seb_dset (by simp) _ _))

/-! ### PRBS_MODE (R72) -/

/-- A pattern is chosen, and the checker's count begins anew. -/
def patternSet (lane v : Nat) (d : Dev) : Dev := dset (R.PRBS_ERRORS lane) 0 (dset (R.PRBS_MODE lane) v d)

theorem seb_patternSet (lane v : Nat) (d : Dev) : SameEntriesBut [(R.PRBS_MODE lane).key, (R.PRBS_ERRORS lane).key] d (patternSet lane v d) :=
  (seb_dset (by simp) _ _).trans (seb_dset (by simp) _ _)

theorem only_patternSet (lane v : Nat) (d : Dev) : ChangesOnly [.dict] d (patternSet lane v d) := (only_dset _ _ _).trans (only_dset _ _ _)

theorem dget_patternSet (lane v : Nat) (d : Dev) :
    dget (R.PRBS_MODE lane) (patternSet lane v d) = v ∧ dget (R.PRBS_ERRORS lane) (patternSet lane v d) = 0 := by
  refine ⟨?_, dget_dset_same _ _ _⟩
  unfold patternSet
  rw [dget_dset_ne _ _ (by simp only [R.PRBS_MODE, R.PRBS_ERRORS]; omega), dget_dset_same]

/-- The lane is in test, and its port's channels are absent. -/
def testBegun (lane v : Nat) (d : Dev) : Dev :=
  dset (R.LANE_STATE lane) 5 (absent (lane / 4) (invalidNow (lane / 4) (patternSet lane v d)))

/-- The link of the port trains anew. -/
def linkRestarted (p : Nat) (d : Dev) : Dev :=
  setFe p 3 (setLanes p (fun i s => if s = 2 ∨ s = 3 then 1 else laneOr d p i s)
    (modPort p (fun x => { x with retrainAt := none, fesyncN := decide (x.profile = 0x0C) }) d))

theorem prbsSet_test {v : Nat} (hv : v ≠ 0) (lane : Nat) (d : Dev) :
    prbsSet lane v d = testBegun lane v d ∨ prbsSet lane v d = linkRestarted (lane / 4) (testBegun lane v d) := by
  simp only [prbsSet, hv, false_and, if_false]
  split
  · exact .inr rfl
  · exact .inl rfl

theorem prbsSet_off {lane : Nat} {d : Dev} (hst : dget (R.LANE_STATE lane) d ≠ 5) : prbsSet lane 0 d = patternSet lane 0 d := if_pos ⟨rfl, hst⟩

/-- What a test pattern on a lane has made of the block. -/
def InTest (lane v : Nat) (a d : Dev) : Prop :=
  dget (R.PRBS_MODE lane) d = v ∧ dget (R.PRBS_ERRORS lane) d = 0 ∧ dget (R.LANE_STATE lane) d = 5 ∧
  (portOf d (lane / 4)).presentFrom = none ∧ (∀ q, q ≠ lane / 4 → portOf d q = portOf a q) ∧
  SameEntriesBut ((R.PRBS_MODE lane).key :: (R.PRBS_ERRORS lane).key :: (R.FE_STATE (lane / 4)).key :: laneStateKeys (lane / 4) ++ presenceKeys)
    a d ∧
  ChannelsGone (lane / 4) a d ∧ ChangesOnly [.dict, .ports, .chans, .frames] a d

theorem laneState_mem_laneStateKeys (lane : Nat) : (R.LANE_STATE lane).key ∈ laneStateKeys (lane / 4) :=
  List.mem_map.2 ⟨lane % 4, List.mem_range.2 (by omega), by simp only [R.LANE_STATE]; omega⟩

theorem inTest_testBegun (lane v : Nat) (d : Dev) : InTest lane v d (testBegun lane v d) := by
  have hgone := only_outOfService (lane / 4) (patternSet lane v d)
  have hstate := only_dset (R.LANE_STATE lane) 5 (absent (lane / 4) (invalidNow (lane / 4) (patternSet lane v d)))
  have hget : ∀ r : Reg, r.key ≠ (R.LANE_STATE lane).key → dget r (testBegun lane v d) = dget r (patternSet lane v d) := fun r hr => by
    rw [testBegun, dget_dset_ne _ _ (Ne.symm hr), dget_of_only hgone (by decide)]
  have hport : ∀ q, portOf (testBegun lane v d) q = portOf (modPort (lane / 4) (fun x => { x with presentFrom := none }) d) q := fun q => by
    rw [testBegun, portOf_dset, portOf_absent]
    by_cases hq : q = lane / 4
    · subst hq
      rw [portOf_modPort_same, portOf_modPort_same, portOf_invalidNow, portOf_of_only (only_patternSet lane v d) (by decide)]
    · rw [portOf_modPort_ne _ _ (Ne.symm hq), portOf_modPort_ne _ _ (Ne.symm hq), portOf_invalidNow,
        portOf_of_only (only_patternSet lane v d) (by decide)]
  obtain ⟨hmode, herrors⟩ := dget_patternSet lane v d
  refine ⟨(hget _ ?_).trans hmode, (hget _ ?_).trans herrors, dget_dset_same _ _ _, ?_, fun q hq => ?_, ?_, ?_, ?_⟩
  · simp only [R.PRBS_MODE, R.LANE_STATE]; omega
  · simp only [R.PRBS_ERRORS, R.LANE_STATE]; omega
  · rw [hport, portOf_modPort_same]
  · rw [hport, portOf_modPort_ne _ _ (Ne.symm hq)]
  · refine ((seb_patternSet lane v d).mono (by simp)).trans ((seb_dict (hgone .dict (by decide))).trans (seb_dset ?_ _ _))
    simp [laneState_mem_laneStateKeys lane]
  · have hbefore := (only_patternSet lane v d).then (only_invalidNow (lane / 4) _) (rs := [.dict, .frames]) (by decide) (by decide)
    exact channelsGone_of_chans (channelsGone_of_start (channelsGone_absent (lane / 4) _) (hbefore .now (by decide)) (hbefore .chans (by decide)))
      (hstate .chans (by decide))
  · exact (only_patternSet lane v d).then (hgone.then hstate (rs := [.dict, .ports, .chans, .frames]) (by decide) (by decide))
      (by decide) (by decide)

/-- A lane in test stays so while its port's link trains anew. -/
theorem laneState_linkRestarted {lane : Nat} (hl : lane < 64) {d : Dev} (h : dget (R.LANE_STATE lane) d = 5) :
    dget (R.LANE_STATE lane) (linkRestarted (lane / 4) d) = 5 := by
  have hlane : 4 * (lane / 4) + lane % 4 = lane := by omega
  unfold linkRestarted
  rw [laneState_setFe hl]
  have hset := dget_setLanes (lane / 4) (fun i s => if s = 2 ∨ s = 3 then 1 else laneOr d (lane / 4) i s)
    (modPort (lane / 4) (fun x => { x with retrainAt := none, fesyncN := decide (x.profile = 0x0C) }) d) (i := lane % 4) (by omega)
  rw [hlane, dget_modPort, h] at hset
  rw [hset]
  simp [laneOr]

theorem inTest_linkRestarted {lane v : Nat} (hl : lane < 64) {a d : Dev} (h : InTest lane v a d) :
    InTest lane v a (linkRestarted (lane / 4) d) := by
  obtain ⟨hmode, herrors, hstate, hfrom, hports, hseb, hgone, honly⟩ := h
  have hkeys : SameEntriesBut (portStateKeys (lane / 4)) d (linkRestarted (lane / 4) d) :=
    (seb_dict rfl).trans (seb_shown (lane / 4) 3 _ (modPort _ _ d))
  have hparts : ChangesOnly [.dict, .ports] d (linkRestarted (lane / 4) d) :=
    (only_modPort _ _ d).then (only_shown (lane / 4) 3 _ _) (by decide) (by decide)
  have htest : ∀ r : Reg, 0x500000 ≤ r.key → r.key ∉ portStateKeys (lane / 4) := fun r hr => by
    simp only [portStateKeys, laneStateKeys, presenceKeys, R.FE_STATE, R.LANE_STATE, R.FE_PRESENT, R.CLOCK_REF_PORT, R.CLOCK_STATE,
      List.mem_append, List.mem_cons, List.mem_map, List.mem_range, List.not_mem_nil, or_false]
    rintro ((h | ⟨i, hi, h⟩) | h) <;> omega
  have hport : ∀ q, portOf (linkRestarted (lane / 4) d) q =
      portOf (modPort (lane / 4) (fun x => { x with retrainAt := none, fesyncN := decide (x.profile = 0x0C) }) d) q := fun q => by
    rw [linkRestarted, portOf_setFe, portOf_setLanes]
  refine ⟨(hkeys _ (htest _ ?_)).trans hmode, (hkeys _ (htest _ ?_)).trans herrors, laneState_linkRestarted hl hstate, ?_, fun q hq => ?_,
    hseb.trans (hkeys.mono ?_), channelsGone_of_chans hgone (hparts .chans (by decide)), honly.trans (hparts.mono (by decide))⟩
  · simp only [R.PRBS_MODE]; omega
  · simp only [R.PRBS_ERRORS]; omega
  · rw [hport, portOf_modPort_same]; exact hfrom
  · rw [hport, portOf_modPort_ne _ _ (Ne.symm hq)]; exact hports q hq
  · intro k hk; simp only [portStateKeys, List.mem_cons, List.mem_append] at hk ⊢; tauto

theorem inTest_prbsSet {lane v : Nat} (hl : lane < 64) (hv : v ≠ 0) (d : Dev) : InTest lane v d (prbsSet lane v d) := by
  rcases prbsSet_test hv lane d with h | h <;> rw [h]
  · exact inTest_testBegun lane v d
  · exact inTest_linkRestarted hl (inTest_testBegun lane v d)

theorem rowWrite_prbsMode {c lane v : Nat} {d : Dev} (ha : Asks c d) (hl : lane < 64) (hv : v < 6)
    (ho : ownerRuns d .lanePort (R.PRBS_MODE lane).key = false) :
    rowWrite c (R.PRBS_MODE lane) v d = prbsSet lane v (patternWritten lane v (asked c d)) := by
  have hchk : chkValue d .prbs v = 0 := by interval_cases v <;> rfl
  exact rowWrite_admitted ha ((entryWrite_row _ ha (rowIs_prbsMode hl) (by decide) (by simp only [tyBytes]; omega) rfl hchk ho).trans
    (putEntry_prbsMode hl c v _))

theorem completes_prbsMode (c lane v : Nat) (s : State) (ha : Asks c s.dev) (hl : lane < 64) (h1 : 1 ≤ v) (h6 : v < 6)
    (ho : ownerRuns s.dev .lanePort (R.PRBS_MODE lane).key = false) :
    Completes (exec (.prbsMode c lane v) s) s fun d =>
      dget (R.PRBS_MODE lane) d = v ∧ dget (R.PRBS_ERRORS lane) d = 0 ∧ dget (R.LANE_STATE lane) d = 5 ∧
      (portOf d (lane / 4)).presentFrom = none ∧ (∀ q, q ≠ lane / 4 → portOf d q = portOf s.dev q) ∧
      SameEntriesBut ((R.PRBS_MODE lane).key :: (R.PRBS_ERRORS lane).key :: (R.FE_STATE (lane / 4)).key :: laneStateKeys (lane / 4) ++ presenceKeys)
        s.dev d ∧
      ChannelsGone (lane / 4) s.dev d ∧ ChangesOnly [.dict, .ports, .chans, .frames] (asked c s.dev) d := by
  refine ⟨rowWrite c (R.PRBS_MODE lane) v s.dev, run_ok (decide_eq_true ⟨ha.1, by omega, by omega⟩), ?_⟩
  rw [rowWrite_prbsMode ha hl h6 ho]
  have hchosen := only_patternWritten lane v (asked c s.dev)
  have hbefore := (only_asked c s.dev).then hchosen (rs := [.ctl, .dict]) (by decide) (by decide)
  obtain ⟨hmode, herrors, hstate, hfrom, hports, hseb, hgone, honly⟩ :=
    inTest_prbsSet hl (v := v) (by omega) (patternWritten lane v (asked c s.dev))
  refine ⟨hmode, herrors, hstate, hfrom, fun q hq => ?_, ?_, ?_, ?_⟩
  · rw [hports q hq, portOf_of_only hbefore (by decide)]
  · exact (seb_asked _ c s.dev).trans (((seb_patternWritten lane v _).mono (by simp)).trans hseb)
  · exact channelsGone_of_start hgone (hbefore .now (by decide)) (hbefore .chans (by decide))
  · exact (hchosen.mono (by decide)).trans honly

theorem completes_prbsOff (c lane : Nat) (s : State) (ha : Asks c s.dev) (hl : lane < 64) (hst : dget (R.LANE_STATE lane) s.dev ≠ 5)
    (ho : ownerRuns s.dev .lanePort (R.PRBS_MODE lane).key = false) :
    Completes (exec (.prbsMode c lane 0) s) s fun d =>
      dget (R.PRBS_MODE lane) d = 0 ∧ dget (R.PRBS_ERRORS lane) d = 0 ∧
      SameEntriesBut [(R.PRBS_MODE lane).key, (R.PRBS_ERRORS lane).key] s.dev d ∧ ChangesOnly [.dict] (asked c s.dev) d := by
  have hoff : dget (R.LANE_STATE lane) (patternWritten lane 0 (asked c s.dev)) ≠ 5 := by
    rw [seb_patternWritten lane 0 _ _ (by simp only [R.PRBS_MODE, R.LANE_STATE, List.mem_singleton]; omega), dget_asked]; exact hst
  refine ⟨rowWrite c (R.PRBS_MODE lane) 0 s.dev, run_ok (decide_eq_true ⟨ha.1, by omega, by omega⟩), ?_⟩
  rw [rowWrite_prbsMode ha hl (by omega) ho, prbsSet_off hoff]
  obtain ⟨hmode, herrors⟩ := dget_patternSet lane 0 (patternWritten lane 0 (asked c s.dev))
  exact ⟨hmode, herrors, (seb_asked _ c s.dev).trans (((seb_patternWritten lane 0 _).mono (by simp)).trans (seb_patternSet lane 0 _)),
    (only_patternWritten lane 0 _).trans (only_patternSet lane 0 _)⟩

/-- Settles O3: a conjunct for each command. The monitors by what each writes; the test entries through their rows (`entryWrite_row`) and the
effect of their value, that of PRBS_MODE through what a lane in test shows (`InTest`), which the link's new training keeps. -/
theorem laneMonitorsAndTests : Obligations.LaneMonitorsAndTests :=
  ⟨completes_ibi, completes_marginUpdate, completes_adaptUpdate, adaptUpdate_held, completes_adaptHold, completes_adaptHold_refused,
    completes_prbsMode, completes_injectRate, completes_injectOne, completes_prbsOff⟩

end Sys2Proof.Machine
end

section
/-! SUPPORT. What an operation of a core may write in it, what the firing rule's choice says, and the core and block after the issue
(R111 to R114, R137). -/

namespace Sys2Proof.Machine

/-! ### What an operation writes in its core -/

theorem CorePart.same_refl (p : CorePart) (a : Core) : p.same a a := by cases p <;> simp [CorePart.same]

theorem CorePart.same_trans {p : CorePart} {a b c : Core} (h : p.same a b) (g : p.same b c) : p.same a c := by
  cases p <;> simp_all [CorePart.same]

/-- From core a to core b only the listed parts may change; the slots, the instances, the ac of the last issue and the watchdog stay. -/
structure CoreWrites (ps : List CorePart) (a b : Core) : Prop where
  slots : b.slots = a.slots
  insts : b.insts = a.insts
  lastIssue : b.lastIssue = a.lastIssue
  wdCount : b.wdCount = a.wdCount
  wdAt : b.wdAt = a.wdAt
  same : ∀ p, p ∉ ps → p.same a b

theorem CoreWrites.refl (ps : List CorePart) (a : Core) : CoreWrites ps a a := ⟨rfl, rfl, rfl, rfl, rfl, fun p _ => CorePart.same_refl p a⟩

theorem CoreWrites.trans {ps : List CorePart} {a b c : Core} (h : CoreWrites ps a b) (g : CoreWrites ps b c) : CoreWrites ps a c :=
  ⟨g.slots.trans h.slots, g.insts.trans h.insts, g.lastIssue.trans h.lastIssue, g.wdCount.trans h.wdCount, g.wdAt.trans h.wdAt,
    fun p hp => CorePart.same_trans (h.same p hp) (g.same p hp)⟩

theorem CoreWrites.mono {ps qs : List CorePart} {a b : Core} (h : CoreWrites ps a b) (hs : ps ⊆ qs) : CoreWrites qs a b :=
  ⟨h.slots, h.insts, h.lastIssue, h.wdCount, h.wdAt, fun p hp => h.same p (fun x => hp (hs x))⟩

theorem CoreWrites.ite {ps : List CorePart} {p : Prop} [Decidable p] {a b c : Core} (h : CoreWrites ps a b) (g : CoreWrites ps a c) :
    CoreWrites ps a (if p then b else c) := by split <;> assumption

theorem CoreWrites.foldl {α : Type} {ps : List CorePart} {f : Core → α → Core} (h : ∀ c x, CoreWrites ps c (f c x)) (l : List α) (c : Core) :
    CoreWrites ps c (l.foldl f c) := by
  induction l generalizing c with
  | nil => exact CoreWrites.refl _ _
  | cons x l ih => exact (h c x).trans (ih _)

theorem writes_putAr (land i : Nat) (v : Int) (p : Bool) (c : Core) : CoreWrites [.ar] c (putAr land i v p c) :=
  ⟨rfl, rfl, rfl, rfl, rfl, fun q hq => by cases q <;> simp_all [CorePart.same, putAr]⟩

theorem writes_putAcc (land i : Nat) (v : Int) (p : Bool) (c : Core) : CoreWrites [.acc] c (putAcc land i v p c) :=
  ⟨rfl, rfl, rfl, rfl, rfl, fun q hq => by cases q <;> simp_all [CorePart.same, putAcc]⟩

theorem writes_putPred (land i : Nat) (v : Int) (p : Bool) (c : Core) : CoreWrites [.pred] c (putPred land i v p c) := by
  unfold putPred
  split
  · exact CoreWrites.refl _ _
  · exact ⟨rfl, rfl, rfl, rfl, rfl, fun q hq => by cases q <;> simp_all [CorePart.same]⟩

theorem writes_putState (x : IssueArgs) (i : Nat) (v : Int) (p : Bool) (c : Core) : CoreWrites [.sreg] c (putState x i v p c) :=
  ⟨rfl, rfl, rfl, rfl, rfl, fun q hq => by cases q <;> simp_all [CorePart.same, putState]⟩

/-! ### The core after the issue (R112, R114, R137) -/

/-- The core as its firing rule leaves it to the operation of candidate k, which issues in ac t. -/
def issued (t : Nat) (k : Cand) (c : Core) : Core := issueCore t k (settle t (wdSettle t c))

/-- The core as the operation of a candidate finds its block accumulators and zero points (R114). -/
def lockCore (k : Cand) (c : Core) : Core := if needsLock k.word then macCore k c else c

theorem lockCore_same {p : CorePart} (k : Cand) (c : Core) (hm : p ≠ .mac) (hz : p ≠ .zero) : p.same c (lockCore k c) := by
  unfold lockCore macCore
  repeat' split
  all_goals cases p <;> first | contradiction | simp [CorePart.same, clearMac]

theorem issueCore_eq (t : Nat) (k : Cand) (c : Core) : ∃ is un lt, issueCore t k c = { lockCore k c with
    slots := (consume (lockCore k c) k).slots, insts := is, unit := un, lastIssue := some t, lastTag := lt, wdCount := 0, wdAt := t + 1 } := by
  have hlock : (if (needsLock k.word && !(match k.inst with | some i => i.lock | none => false)) = true then clearMac c else c) = lockCore k c := by
    unfold lockCore macCore
    cases needsLock k.word
    · rfl
    · rcases k.inst with _ | i
      · rfl
      · cases h : i.lock <;> simp [h]
  generalize hm : lockCore k c = m at hlock
  refine ⟨_, _, _, Eq.trans (b := endHolds m { consume m k with
    insts := match k.inst with
      | some i => m.insts.map (fun j => if j = i then stepInst t k else j)
      | none => m.insts ++ [stepInst t k]
    unit := if unitOf k.word = 0 then m.unit else tset 0 m.unit (unitOf k.word) (t + occOf k.word)
    lastIssue := some t
    lastTag := if k.inst = none then k.tag else m.lastTag
    wdCount := 0
    wdAt := t + 1 }) ?_ rfl⟩
  rw [← hlock]
  rfl

theorem settled_eq (t : Nat) (c : Core) : ∃ is n w, settle t (wdSettle t c) = { c with insts := is, wdCount := n, wdAt := w } :=
  ⟨_, _, _, rfl⟩

theorem lockCore_settled {p : CorePart} (t : Nat) (k : Cand) (c : Core) : p.same (lockCore k c) (lockCore k (settle t (wdSettle t c))) := by
  obtain ⟨_, _, _, h⟩ := settled_eq t c
  rw [h]
  unfold lockCore macCore
  repeat' split
  all_goals cases p <;> simp [CorePart.same, clearMac]

theorem lockCore_slots (k : Cand) (c : Core) : (lockCore k c).slots = c.slots := by
  unfold lockCore macCore
  repeat' split
  all_goals rfl

theorem issued_slots (t : Nat) (k : Cand) (c : Core) : (issued t k c).slots = (consume c k).slots := by
  obtain ⟨_, _, _, h⟩ := issueCore_eq t k (settle t (wdSettle t c))
  rw [issued, h]
  simp only [consume, lockCore_slots]
  rfl
theorem issued_lastIssue (t : Nat) (k : Cand) (c : Core) : (issued t k c).lastIssue = some t := by
  obtain ⟨_, _, _, h⟩ := issueCore_eq t k (settle t (wdSettle t c)); rw [issued, h]
theorem issued_wdCount (t : Nat) (k : Cand) (c : Core) : (issued t k c).wdCount = 0 := by
  obtain ⟨_, _, _, h⟩ := issueCore_eq t k (settle t (wdSettle t c)); rw [issued, h]
theorem issued_wdAt (t : Nat) (k : Cand) (c : Core) : (issued t k c).wdAt = t + 1 := by
  obtain ⟨_, _, _, h⟩ := issueCore_eq t k (settle t (wdSettle t c)); rw [issued, h]

theorem issued_lock {p : CorePart} (t : Nat) (k : Cand) (c : Core) : p.same (lockCore k c) (issued t k c) := by
  refine CorePart.same_trans (lockCore_settled t k c) ?_
  obtain ⟨_, _, _, h⟩ := issueCore_eq t k (settle t (wdSettle t c))
  rw [issued, h]
  cases p <;> simp [CorePart.same]

theorem issued_same {p : CorePart} (t : Nat) (k : Cand) (c : Core) (hm : p ≠ .mac) (hz : p ≠ .zero) : p.same c (issued t k c) :=
  CorePart.same_trans (lockCore_same k c hm hz) (issued_lock t k c)

/-- An operation that takes no MAC lock finds its core as it was. -/
theorem issued_same_unlocked {p : CorePart} {k : Cand} (t : Nat) (c : Core) (h : needsLock k.word = false) : p.same c (issued t k c) := by
  have := issued_lock (p := p) t k c
  rwa [lockCore, if_neg (by simp [h])] at this

theorem issued_mac {p : CorePart} {k : Cand} (t : Nat) (c : Core) (h : needsLock k.word = true) : p.same (macCore k c) (issued t k c) := by
  have := issued_lock (p := p) t k c
  rwa [lockCore, if_pos h] at this

@[simp] theorem issued_ar (t : Nat) (k : Cand) (c : Core) : (issued t k c).ar = c.ar := issued_same (p := .ar) t k c (by simp) (by simp)
@[simp] theorem issued_acc (t : Nat) (k : Cand) (c : Core) : (issued t k c).acc = c.acc := issued_same (p := .acc) t k c (by simp) (by simp)
@[simp] theorem issued_pred (t : Nat) (k : Cand) (c : Core) : (issued t k c).pred = c.pred := issued_same (p := .pred) t k c (by simp) (by simp)
@[simp] theorem issued_sreg (t : Nat) (k : Cand) (c : Core) : (issued t k c).sreg = c.sreg := issued_same (p := .sreg) t k c (by simp) (by simp)
@[simp] theorem arOf_issued (t : Nat) (k : Cand) (c : Core) (i : Nat) : arOf (issued t k c) i = arOf c i := by simp [arOf]
@[simp] theorem accOf_issued (t : Nat) (k : Cand) (c : Core) (i : Nat) : accOf (issued t k c) i = accOf c i := by simp [accOf]
@[simp] theorem predOf_issued (t : Nat) (k : Cand) (c : Core) (i : Nat) : predOf (issued t k c) i = predOf c i := by simp [predOf]

/-- A guard reads its predicate from before the issue. -/
@[simp] theorem guardOf_issued (t : Nat) (k : Cand) (c : Core) (w : Nat) : guardOf (issued t k c) w = guardOf c w := by simp [guardOf]

/-! What two cores with the same memories read from them. -/

theorem ovlFor_of_mems {a b : Core} (h : CorePart.same .mems a b) (kind ctx f : Nat) : ovlFor b kind ctx f = ovlFor a kind ctx f := by
  obtain ⟨-, -, -, -, -, -, -, -, ho, hf, hh, -⟩ := h
  simp only [ovlFor, ho, hf, hh]

theorem tblWord_of_mems {a b : Core} (h : CorePart.same .mems a b) (ctx f i : Nat) : tblWord b ctx f i = tblWord a ctx f i := by
  have ho := ovlFor_of_mems h
  obtain ⟨-, -, -, -, ht, -⟩ := h
  simp only [tblWord, tblOvl, ho, ht]

theorem wtWord_of_mems {a b : Core} (h : CorePart.same .mems a b) (ctx f row i : Nat) : wtWord b ctx f row i = wtWord a ctx f row i := by
  have ho := ovlFor_of_mems h
  obtain ⟨-, hw, -⟩ := h
  simp only [wtWord, wtOvl, ho, hw]

theorem rowTagOf_of_mems {a b : Core} (h : CorePart.same .mems a b) (ctx f row : Nat) : rowTagOf b ctx f row = rowTagOf a ctx f row := by
  have ho := ovlFor_of_mems h
  obtain ⟨-, -, hr, -⟩ := h
  simp only [rowTagOf, ho, hr]

theorem sideTagOf_of_mems {a b : Core} (h : CorePart.same .mems a b) (ctx f i : Nat) : sideTagOf b ctx f i = sideTagOf a ctx f i := by
  have ho := ovlFor_of_mems h
  obtain ⟨-, -, -, -, -, hs, -⟩ := h
  simp only [sideTagOf, ho, hs]

theorem issued_mems (t : Nat) (k : Cand) (c : Core) : CorePart.same .mems c (issued t k c) := issued_same t k c (by simp) (by simp)

@[simp] theorem tblWord_issued (t : Nat) (k : Cand) (c : Core) (ctx f i : Nat) : tblWord (issued t k c) ctx f i = tblWord c ctx f i :=
  tblWord_of_mems (issued_mems t k c) ctx f i
@[simp] theorem wtWord_issued (t : Nat) (k : Cand) (c : Core) (ctx f row i : Nat) : wtWord (issued t k c) ctx f row i = wtWord c ctx f row i :=
  wtWord_of_mems (issued_mems t k c) ctx f row i
@[simp] theorem rowTagOf_issued (t : Nat) (k : Cand) (c : Core) (ctx f row : Nat) : rowTagOf (issued t k c) ctx f row = rowTagOf c ctx f row :=
  rowTagOf_of_mems (issued_mems t k c) ctx f row
@[simp] theorem sideTagOf_issued (t : Nat) (k : Cand) (c : Core) (ctx f i : Nat) : sideTagOf (issued t k c) ctx f i = sideTagOf c ctx f i :=
  sideTagOf_of_mems (issued_mems t k c) ctx f i

/-! ### The candidate that the firing rule chooses (R113) -/

theorem pick_mem {c : Core} {t0 t : Nat} {k : Cand} (h : pick c t0 = some (t, k)) : k ∈ candsOf c := by
  have hfold : ∀ (l : List Cand) (b : Option (Nat × Cand)) (t : Nat) (k : Cand),
      l.foldl (fun best k => match readyAt c t0 k with
        | none => best
        | some t => match best with
          | none => some (t, k)
          | some (tb, b) => if t < tb ∨ (t = tb ∧ before b k = false) then some (t, k) else some (tb, b)) b = some (t, k) →
      k ∈ l ∨ b = some (t, k) := by
    intro l
    induction l with
    | nil => exact fun b t k h => .inr h
    | cons a l ih =>
      intro b t k h
      rcases ih _ t k h with hl | hb
      · exact .inl (List.mem_cons_of_mem _ hl)
      · rcases ha : readyAt c t0 a with _ | ta
        · dsimp only at hb; rw [ha] at hb; exact .inr hb
        · dsimp only at hb
          rw [ha] at hb
          rcases b with _ | ⟨tb, kb⟩
          · cases hb; exact .inl List.mem_cons_self
          · dsimp only at hb
            split at hb
            · cases hb; exact .inl List.mem_cons_self
            · exact .inr hb
  rcases hfold _ none t k h with hm | hn
  · exact hm
  · cases hn

/-- A candidate continues one of the core's instances that have not ended. -/
theorem inst_of_cand {c : Core} {k : Cand} {i : Inst} (h : k ∈ candsOf c) (hi : k.inst = some i) : i ∈ c.insts ∧ ∀ t, ended c t i = false := by
  unfold candsOf at h
  rcases List.mem_append.mp h with hrun | hstart
  · obtain ⟨j, hj, rfl⟩ := List.mem_map.mp hrun
    cases hi
    obtain ⟨hmem, hc⟩ := List.mem_filter.mp hj
    obtain ⟨he, hpc⟩ := of_decide_eq_true hc
    have hlt : decide (256 ≤ i.pc) = false := by simp [hpc]
    exact ⟨hmem, fun t => by simp [ended, he, hlt]⟩
  · obtain ⟨s, -, hs⟩ := List.mem_filterMap.mp hstart
    split at hs
    · cases hs; cases hi
    · cases hs

theorem mem_endHolds {old c : Core} {j : Inst} (h : j ∈ c.insts) (hw : j.wait = 2 → c.slots = old.slots) : j ∈ (endHolds old c).insts := by
  have hj : (match slotFor old j.tag j.waitSrc with
      | some s => if j.wait = 2 ∧ slotFor c j.tag j.waitSrc ≠ some s then { j with wait := 1, freeAt := max j.freeAt (s.admitted + 1) } else j
      | none => j) = j := by
    split
    · next s hs =>
      refine if_neg (fun ⟨h2, hne⟩ => hne ?_)
      rw [← hs, slotFor, slotFor, hw h2]
    · rfl
  exact List.mem_map.mpr ⟨j, h, hj⟩

/-- Instances wait for a token only after a WAIT, which consumes none (R137). -/
theorem consume_slots_of_wait {c : Core} {k : Cand} {t : Nat} (h : (stepInst t k).wait = 2) : (consume c k).slots = c.slots := by
  have hop : opOf k.word = 0x10 := by
    by_contra hne
    have : (stepInst t k).wait = 0 := by simp [stepInst, hne]
    omega
  simp [consume, tokOps, hop]

theorem stepInst_mem {t t0 : Nat} {k : Cand} {c : Core} (h : pick c t0 = some (t, k)) : stepInst t k ∈ (issued t k c).insts := by
  have hk := pick_mem h
  have hsettled : ∀ i, k.inst = some i → i ∈ (settle t (wdSettle t c)).insts := fun i hi =>
    List.mem_filter.mpr ⟨(inst_of_cand hk hi).1, by
      have he : ended (wdSettle t c) t i = false := (inst_of_cand hk hi).2 t
      simp [he]⟩
  unfold issued issueCore
  generalize settle t (wdSettle t c) = m at hsettled
  dsimp only
  have hlocked : ∀ b : Bool, (if b = true then clearMac m else m).insts = m.insts := fun b => by cases b <;> rfl
  refine mem_endHolds ?_ (fun hw => consume_slots_of_wait hw)
  rcases hi : k.inst with _ | i
  · exact List.mem_append_right _ List.mem_cons_self
  · refine List.mem_map.mpr ⟨i, ?_, if_pos rfl⟩
    exact (hlocked _).symm ▸ hsettled i hi

/-! ### A command of Table 5.5 -/

/-- The instruction that issues is of the row that the command names. -/
theorem sel_of_issues {sel : Nat → Bool} {key t : Nat} {k : Cand} {d : Dev} (h : Issues sel key t k d) : sel k.word = true := by
  obtain ⟨-, -, -, -, hsel⟩ := h
  exact hsel

theorem opCmd_issues {sel : Nat → Bool} {key t : Nat} {k : Cand} {s : State} (h : Issues sel key t k s.dev) (f : IssueArgs → Core → Fx)
    (up : List Upset) : opCmd sel f key up s = .next { s with dev := issueOn sel f key up s.dev } := by
  obtain ⟨hkey, hon, -⟩ := h
  simp [opCmd, hkey, hon]

/-- What the firing rule's choice makes of the block (R103, R113, R114). -/
theorem issueOn_up {sel : Nat → Bool} {key t : Nat} {k : Cand} {d : Dev} (h : Issues sel key t k d) (f : IssueArgs → Core → Fx) (up : List Upset) :
    issueOn sel f key up d = (upsetHits (coreOf d key) k up).foldl (takeUpset key)
      (applyFx key t (argsOf key t k d).frame k.tag
        (f { argsOf key t k d with bad := (upsetHits (coreOf d key) k up).any (fun u => u.double) } (issued t k (coreOf d key))) (advTo t d)) := by
  obtain ⟨-, -, hruns, hpick, hsel⟩ := h
  unfold issueOn
  dsimp only
  split
  · next hnone => exact absurd (hpick.symm.trans hnone) (by simp)
  · next t' k' hsome =>
    have heq := hpick.symm.trans hsome
    cases heq
    rw [if_neg (by simp [hsel, hruns])]
    rfl

theorem upsetHits_nil (c : Core) (k : Cand) : upsetHits c k [] = [] := by simp [upsetHits]

theorem issueOn_issues {sel : Nat → Bool} {key t : Nat} {k : Cand} {d : Dev} (h : Issues sel key t k d) (f : IssueArgs → Core → Fx) :
    issueOn sel f key [] d =
      applyFx key t (argsOf key t k d).frame k.tag (f (argsOf key t k d) (issued t k (coreOf d key))) (advTo t d) := by
  rw [issueOn_up h f [], upsetHits_nil]
  rfl

end Sys2Proof.Machine
end

section
/-! SUPPORT. Runs of registers, what an operation hands to the block, and the completion of an operation that writes only its core (R113,
R119). -/

namespace Sys2Proof.Machine

/-! ### Register writes -/

theorem arOf_putAr (land i : Nat) (v : Int) (p : Bool) (c : Core) (j : Nat) :
    arOf (putAr land i v p c) j = if i = j then ⟨v, p⟩ else arOf c j := tget_tset _ _ _ _ _
theorem accOf_putAcc (land i : Nat) (v : Int) (p : Bool) (c : Core) (j : Nat) :
    accOf (putAcc land i v p c) j = if i = j then ⟨v, p⟩ else accOf c j := tget_tset _ _ _ _ _
@[simp] theorem arOf_putAcc (land i : Nat) (v : Int) (p : Bool) (c : Core) (j : Nat) : arOf (putAcc land i v p c) j = arOf c j := rfl
@[simp] theorem accOf_putAr (land i : Nat) (v : Int) (p : Bool) (c : Core) (j : Nat) : accOf (putAr land i v p c) j = accOf c j := rfl

/-- p0 keeps reading 1 (Table 5.1). -/
theorem predOf_putPred (land i : Nat) (v : Int) (p : Bool) (c : Core) (j : Nat) :
    predOf (putPred land i v p c) j = if i = j ∧ i ≠ 0 then ⟨v, p⟩ else predOf c j := by
  unfold putPred
  by_cases hi : i = 0
  · simp [hi]
  · by_cases hj : j = 0
    · simp [hi, hj, predOf]
    · simp [hi, hj, predOf, tget_tset]

/-- A run of activation registers, from `dst` on. -/
def putRun (land dst n : Nat) (v : Nat → PReg) (c : Core) : Core :=
  (List.range n).foldl (fun core j => putAr land (dst + j) (v j).v (v j).poison core) c

theorem writes_putRun (land dst n : Nat) (v : Nat → PReg) (c : Core) : CoreWrites [.ar] c (putRun land dst n v c) :=
  CoreWrites.foldl (fun _ _ => writes_putAr _ _ _ _ _) _ _

theorem arOf_putRun (land dst n : Nat) (v : Nat → PReg) (c : Core) (i : Nat) :
    arOf (putRun land dst n v c) i = if dst ≤ i ∧ i < dst + n then v (i - dst) else arOf c i := by
  induction n with
  | zero => rw [if_neg (by omega)]; rfl
  | succ n ih =>
    have hlast : arOf (putRun land dst (n + 1) v c) i = if dst + n = i then v n else arOf (putRun land dst n v c) i := by
      rw [putRun, List.range_succ, List.foldl_append]
      exact arOf_putAr _ _ _ _ _ _
    rw [hlast, ih]
    by_cases hi : dst + n = i
    · have hn : i - dst = n := by omega
      rw [if_pos hi, if_pos (by omega), hn]
    · by_cases hr : dst ≤ i ∧ i < dst + n
      · rw [if_neg hi, if_pos hr, if_pos (by omega)]
      · rw [if_neg hi, if_neg hr, if_neg (by omega)]

/-- Accumulators that a mask names, below number n, are cleared. -/
theorem accOf_clearMask (land n : Nat) (b : Nat → Bool) (c : Core) (i : Nat) :
    accOf ((List.range n).foldl (fun core j => if b j = true then putAcc land j 0 false core else core) c) i =
      if i < n ∧ b i = true then ⟨0, false⟩ else accOf c i := by
  induction n with
  | zero => rw [if_neg (by omega)]; rfl
  | succ n ih =>
    rw [List.range_succ, List.foldl_append]
    have hlast (core : Core) : accOf (if b n = true then putAcc land n 0 false core else core) i =
        if n = i ∧ b n = true then ⟨0, false⟩ else accOf core i := by
      by_cases hb : b n = true
      · simp [hb, accOf_putAcc]
      · simp [hb]
    refine (hlast _).trans ?_
    rw [ih]
    by_cases hi : n = i
    · subst hi; simp
    · have : i < n + 1 ↔ i < n := by omega
      simp [hi, this]

/-! ### What an operation hands to the block -/

/-- The block once it has the core, the counts and the free values of an operation. -/
def tookFx (key : Nat) (fx : Fx) (d : Dev) : Dev :=
  let d := setCore key fx.core d
  let d := bumpBy R.RESCALE_SAT fx.resSat (bumpBy R.ACC_SAT fx.accSat d)
  let d := { d with enc := { d.enc with counts := d.enc.counts ++ fx.clips } }
  { (if fx.undef then setUndef d else d) with freeCtr := d.freeCtr + fx.drawn }

theorem applyFx_plain {fx : Fx} (hs : fx.skew = none) (he : fx.emit = none) (hr : fx.ringW = none) (key t frame tag : Nat) (d : Dev) :
    applyFx key t frame tag fx d = tookFx key fx d := by
  unfold applyFx
  rw [hs, he, hr]
  rfl

theorem tookFx_of (key : Nat) (c : Core) (d : Dev) : tookFx key (Fx.of c) d = setCore key c d := by
  simp only [tookFx, Fx.of, bumpBy, List.append_nil, if_true, Nat.add_zero]
  rfl

theorem tookFx_core (key : Nat) (fx : Fx) (d : Dev) : coreOf (tookFx key fx d) key = fx.core := by
  have : coreOf (tookFx key fx d) key = coreOf (bumpBy R.RESCALE_SAT fx.resSat (bumpBy R.ACC_SAT fx.accSat (setCore key fx.core d))) key := by
    unfold tookFx; dsimp only; split <;> rfl
  rw [this, coreOf_bumpBy, coreOf_bumpBy, coreOf_setCore_same]

theorem tookFx_other {key j : Nat} (h : j ≠ key) (fx : Fx) (d : Dev) : coreOf (tookFx key fx d) j = coreOf d j := by
  have : coreOf (tookFx key fx d) j = coreOf (bumpBy R.RESCALE_SAT fx.resSat (bumpBy R.ACC_SAT fx.accSat (setCore key fx.core d))) j := by
    unfold tookFx; dsimp only; split <;> rfl
  rw [this, coreOf_bumpBy, coreOf_bumpBy, coreOf_setCore_ne _ _ (Ne.symm h)]

theorem dget_tookFx (r : Reg) (key : Nat) (fx : Fx) (d : Dev) :
    dget r (tookFx key fx d) = dget r (bumpBy R.RESCALE_SAT fx.resSat (bumpBy R.ACC_SAT fx.accSat (setCore key fx.core d))) := by
  unfold tookFx; dsimp only; split <;> rfl

theorem tookFx_undef (key : Nat) (fx : Fx) (d : Dev) : (tookFx key fx d).undef = (d.undef || fx.undef) := by
  unfold tookFx; dsimp only
  cases fx.undef <;> simp

theorem tookFx_freeCtr (key : Nat) (fx : Fx) (d : Dev) : (tookFx key fx d).freeCtr = d.freeCtr + fx.drawn := by
  unfold tookFx; dsimp only
  simp

theorem tookFx_enc (key : Nat) (fx : Fx) (d : Dev) : (tookFx key fx d).enc = { d.enc with counts := d.enc.counts ++ fx.clips } := by
  unfold tookFx; dsimp only
  split <;> simp

/-- A saturating counter after a rise. -/
theorem rose_bumpBy (r : Reg) (n : Nat) (d : Dev) : Rose r n d (bumpBy r n d) := by
  unfold Rose bumpBy
  by_cases hn : n = 0
  · simp [hn]
  · simp [hn, dget_dset_same]

theorem accSat_tookFx (key : Nat) (fx : Fx) (d : Dev) : Rose R.ACC_SAT fx.accSat d (tookFx key fx d) := by
  have h := rose_bumpBy R.ACC_SAT fx.accSat (setCore key fx.core d)
  unfold Rose at *
  rw [dget_tookFx, dget_bumpBy_ne _ _ (by decide), h]
  rfl

theorem resSat_tookFx (key : Nat) (fx : Fx) (d : Dev) : Rose R.RESCALE_SAT fx.resSat d (tookFx key fx d) := by
  have h := rose_bumpBy R.RESCALE_SAT fx.resSat (bumpBy R.ACC_SAT fx.accSat (setCore key fx.core d))
  unfold Rose at *
  rw [dget_tookFx, h, dget_bumpBy_ne _ _ (by decide)]
  rfl

theorem seb_tookFx {ks : List Nat} {fx : Fx} (ha : fx.accSat = 0 ∨ R.ACC_SAT.key ∈ ks) (hr : fx.resSat = 0 ∨ R.RESCALE_SAT.key ∈ ks)
    (key : Nat) (d : Dev) : SameEntriesBut ks d (tookFx key fx d) := by
  have hbump {r : Reg} {n : Nat} (h : n = 0 ∨ r.key ∈ ks) (d : Dev) : SameEntriesBut ks d (bumpBy r n d) := by
    rcases h with rfl | h
    · exact seb_refl _ _
    · exact seb_bumpBy h n d
  have h := (hbump ha (setCore key fx.core d)).trans (hbump hr _)
  intro r hr
  rw [dget_tookFx]
  exact h r hr

theorem only_setCore (k : Nat) (x : Core) (d : Dev) : ChangesOnly [.cores] d (setCore k x d) := only_modCore k (fun _ => x) d

theorem only_undef (b : Bool) (n : Nat) (d : Dev) : ChangesOnly [.undef, .freeCtr] d { (if b then setUndef d else d) with freeCtr := n } :=
  fun p hp => by cases b <;> cases p <;> first | exact absurd (by decide) hp | rfl

theorem only_tookFx (key : Nat) (fx : Fx) (d : Dev) : ChangesOnly [.cores, .dict, .enc, .undef, .freeCtr] d (tookFx key fx d) := by
  unfold tookFx
  dsimp only
  refine ChangesOnly.then ?_ (only_undef _ _ _) (List.Subset.refl _) (by decide)
  refine ChangesOnly.then ?_ (only_enc _ _) (List.Subset.refl _) (by decide)
  refine ChangesOnly.then ?_ (only_bumpBy _ _ _) (List.Subset.refl _) (by decide)
  refine ChangesOnly.then ?_ (only_bumpBy _ _ _) (List.Subset.refl _) (by decide)
  exact (only_setCore _ _ _).mono (by decide)

/-- The part of a frame that has not moved leaves it. -/
theorem ChangesOnly.drop {ps : List Part} {q : Part} {a b : Dev} (h : ChangesOnly (q :: ps) a b) (hq : q.same a b) : ChangesOnly ps a b := by
  intro p hp
  by_cases he : p = q
  · exact he ▸ hq
  · exact h p (by simp [he, hp])

/-! ### An operation has issued -/

theorem opDone_of_writes {ps : List CorePart} {qs : List Part} {ks : List Nat} {key t : Nat} {k : Cand} {a d : Dev}
    (hcore : CoreWrites ps (issued t k (coreOf a key)) (coreOf d key)) (hlock : needsLock k.word = true → .mac ∈ ps ∧ .zero ∈ ps)
    (hnow : d.now = max t a.now) (hother : ∀ j, j ≠ key → coreOf d j = coreOf a j) (hseb : SameEntriesBut ks a d)
    (honly : ChangesOnly ([.now, .time, .cores] ++ qs) a d) : OpDone ps qs ks key t k a d := by
  refine ⟨hnow, hcore.lastIssue.trans (issued_lastIssue _ _ _), hcore.slots.trans (issued_slots _ _ _), fun p hp => ?_, hother, hseb, honly⟩
  refine CorePart.same_trans ?_ (hcore.same p hp)
  rcases hl : needsLock k.word with _ | _
  · exact issued_same_unlocked t _ hl
  · obtain ⟨hm, hz⟩ := hlock hl
    exact issued_same t k _ (fun e => hp (e ▸ hm)) (fun e => hp (e ▸ hz))

theorem opDone_setCore {ps : List CorePart} {key t : Nat} {k : Cand} {d : Dev} {c : Core} (h : CoreWrites ps (issued t k (coreOf d key)) c)
    (hlock : needsLock k.word = true → .mac ∈ ps ∧ .zero ∈ ps) : OpDone ps [] [] key t k d (setCore key c (advTo t d)) :=
  opDone_of_writes (by rwa [coreOf_setCore_same]) hlock rfl (fun j hj => by rw [coreOf_setCore_ne _ _ (Ne.symm hj), coreOf_advTo])
    (seb_dict (by simp)) ((only_advTo t d).then (only_setCore _ _ _) (by decide) (by decide))

theorem opDone_tookFx {ps : List CorePart} {qs : List Part} {ks : List Nat} {key t : Nat} {k : Cand} {d : Dev} {fx : Fx}
    (h : CoreWrites ps (issued t k (coreOf d key)) fx.core) (hlock : needsLock k.word = true → .mac ∈ ps ∧ .zero ∈ ps)
    (ha : fx.accSat = 0 ∨ R.ACC_SAT.key ∈ ks) (hr : fx.resSat = 0 ∨ R.RESCALE_SAT.key ∈ ks)
    (honly : ChangesOnly ([.now, .time, .cores] ++ qs) d (tookFx key fx (advTo t d))) : OpDone ps qs ks key t k d (tookFx key fx (advTo t d)) :=
  opDone_of_writes (by rwa [tookFx_core]) hlock (only_tookFx key fx (advTo t d) .now (by decide))
    (fun j hj => by rw [tookFx_other hj, coreOf_advTo]) ((seb_dict (by simp)).trans (seb_tookFx ha hr key _)) honly

/-- Issue and hand-over of an operation move the time, the core, its counters and its free values. -/
theorem only_issueFx (key t : Nat) (fx : Fx) (d : Dev) :
    ChangesOnly [.enc, .undef, .freeCtr, .now, .time, .cores, .dict] d (tookFx key fx (advTo t d)) :=
  (only_advTo t d).then (only_tookFx key fx _) (by decide) (by decide)

theorem completes_op {sel : Nat → Bool} {key t : Nat} {k : Cand} {s : State} (h : Issues sel key t k s.dev) {f : IssueArgs → Core → Fx}
    {P : Dev → Prop} (hP : P (applyFx key t (argsOf key t k s.dev).frame k.tag (f (argsOf key t k s.dev) (issued t k (coreOf s.dev key)))
      (advTo t s.dev))) : Completes (opCmd sel f key [] s) s P :=
  ⟨_, by rw [opCmd_issues h, issueOn_issues h], hP⟩

/-- An operation that hands nothing to the block. -/
theorem completes_quiet {sel : Nat → Bool} {key t : Nat} {k : Cand} {s : State} (h : Issues sel key t k s.dev) {f : IssueArgs → Core → Fx}
    {c : Core} {P : Dev → Prop} (hf : f (argsOf key t k s.dev) (issued t k (coreOf s.dev key)) = Fx.of c)
    (hP : P (setCore key c (advTo t s.dev))) : Completes (opCmd sel f key [] s) s P :=
  completes_op h (by rw [hf, applyFx_plain rfl rfl rfl, tookFx_of]; exact hP)

/-- Under a true guard the operation runs (R119). -/
theorem guarded_runs {sel : Nat → Bool} {key t : Nat} {k : Cand} {d : Dev} (h : Runs sel key t k d) (f : IssueArgs → Core → Fx) :
    guarded f (argsOf key t k d) (issued t k (coreOf d key)) = f (argsOf key t k d) (issued t k (coreOf d key)) := by
  have hg : guardOf (issued t k (coreOf d key)) (argsOf key t k d).w = .run := (guardOf_issued _ _ _ _).trans h.2
  rw [guarded, hg]

/-! ### The row of a word -/

theorem opOf_isOp {n w : Nat} (h : isOp n w = true) : opOf w = n := of_decide_eq_true h
theorem opOf_isMode {n m w : Nat} (h : isMode n m w = true) : opOf w = n := opOf_isOp (Bool.and_eq_true_iff.mp h).1
theorem opOf_isState {b : Bool} {w : Nat} (h : isState b w = true) : opOf w = 7 := opOf_isOp (Bool.and_eq_true_iff.mp h).1

theorem needsLock_iff (w : Nat) : needsLock w = true ↔ 1 ≤ opOf w ∧ opOf w ≤ 4 := by
  unfold needsLock unitOf
  split <;> simp_all
  omega

theorem unlocked_of_op {w n : Nat} (h : opOf w = n) (hn : n = 0 ∨ 5 ≤ n) : needsLock w = false := by
  rw [Bool.eq_false_iff, ne_eq, needsLock_iff]
  omega

theorem completes_arRun {sel : Nat → Bool} {key t n : Nat} {k : Cand} {s : State} (h : Issues sel key t k s.dev) {f : IssueArgs → Core → Fx}
    {land dst : Nat} {v w : Nat → PReg} (hl : needsLock k.word = false)
    (hf : f (argsOf key t k s.dev) (issued t k (coreOf s.dev key)) = Fx.of (putRun land dst n v (issued t k (coreOf s.dev key))))
    (hv : ∀ j, j < n → v j = w j) :
    Completes (opCmd sel f key [] s) s fun d => ArRun key dst n w s.dev d ∧ OpDone [.ar] [] [] key t k s.dev d := by
  refine completes_quiet h hf ⟨⟨fun j hj => ?_, fun i hi => ?_⟩, opDone_setCore (writes_putRun _ _ _ _ _) (by simp [hl])⟩
  · rw [coreOf_setCore_same, arOf_putRun, if_pos (by omega), Nat.add_sub_cancel_left, hv j hj]
  · rw [coreOf_setCore_same, arOf_putRun, if_neg (by omega), arOf_issued]

end Sys2Proof.Machine
end

section
/-! SUPPORT. Moves, waits, comparisons and selections (R119, R123, R136 to R138, Table 5.16), and what settles O7. -/

namespace Sys2Proof.Machine

/-! ### The first maximum of a run (R136) -/

theorem foldl_max_spec (l : List Int) (a : Int) : a ≤ l.foldl max a ∧ (∀ x ∈ l, x ≤ l.foldl max a) ∧ (l.foldl max a = a ∨ l.foldl max a ∈ l) := by
  induction l generalizing a with
  | nil => exact ⟨le_refl _, by simp, .inl rfl⟩
  | cons b l ih =>
    obtain ⟨hle, hall, hmem⟩ := ih (max a b)
    refine ⟨le_trans (le_max_left a b) hle, fun x hx => ?_, ?_⟩
    · rcases List.mem_cons.mp hx with rfl | hx
      · exact le_trans (le_max_right a x) hle
      · exact hall x hx
    · rcases hmem with h | h
      · rcases max_choice a b with hab | hab
        · exact .inl (h.trans hab)
        · exact .inr (List.mem_cons.mpr (.inl (h.trans hab)))
      · exact .inr (List.mem_cons_of_mem _ h)

/-- MAXP finds the maximum of n + 1 values and the least offset at which it stands. -/
theorem maxRun_spec (v : Nat → Int) (n : Nat) : ∃ o, maxRun ((List.range (n + 1)).map v) = (v o, o) ∧ o ≤ n ∧ (∀ j, j ≤ n → v j ≤ v o) ∧
    ∀ j, j < o → v j < v o := by
  have hhead : ((List.range (n + 1)).map v).headD 0 = v 0 := by simp [List.range_succ_eq_map]
  obtain ⟨-, hall, hmem⟩ := foldl_max_spec ((List.range (n + 1)).map v) (v 0)
  unfold maxRun
  rw [hhead]
  generalize ((List.range (n + 1)).map v).foldl max (v 0) = m at hall hmem ⊢
  have hm : ∃ x ∈ (List.range (n + 1)).map v, (x == m) = true := by
    rcases hmem with h | h
    · exact ⟨v 0, List.mem_map.mpr ⟨0, by simp, rfl⟩, by simp [h]⟩
    · exact ⟨m, h, by simp⟩
  have hlt := List.findIdx_lt_length_of_exists hm
  have hat := List.findIdx_getElem (w := hlt)
  have hbefore : ∀ j, j < ((List.range (n + 1)).map v).findIdx (· == m) → v j ≠ m := fun j hj => by
    simpa using List.not_of_lt_findIdx hj
  simp only [List.getElem_map, List.getElem_range, beq_iff_eq] at hat
  dsimp only
  rw [List.length_map, List.length_range] at hlt
  generalize ((List.range (n + 1)).map v).findIdx (· == m) = o at hlt hat hbefore ⊢
  have hle : ∀ j, j ≤ n → v j ≤ v o := fun j hj => hat ▸ hall _ (List.mem_map.mpr ⟨j, List.mem_range.mpr (by omega), rfl⟩)
  exact ⟨o, congrArg (·, o) hat.symm, by omega, hle, fun j hj => lt_of_le_of_ne (hle j (by omega)) (hat ▸ hbefore j hj)⟩

/-! ### The operations -/

section Ops

variable {key t : Nat} {k : Cand} {s : State}

/-- NOP and WAIT write nothing (R137, R138). -/
theorem completes_fxNone {sel : Nat → Bool} (h : Issues sel key t k s.dev) (hl : needsLock k.word = false) :
    Completes (opCmd sel fxNone key [] s) s (OpDone [] [] [] key t k s.dev) :=
  completes_quiet h rfl (opDone_setCore (CoreWrites.refl _ _) (by simp [hl]))

theorem completes_movRegisterRun (h : Runs (isMode 0x0E 0) key t k s.dev) :
    Completes (exec (.movRegisterRun key []) s) s fun d =>
      ArRun key (bits k.word 49 45) (bits k.word 39 38 + 1) (fun j => ⟨(arOf (coreOf s.dev key) (bits k.word 44 40 + j)).v,
        arRunPoison (coreOf s.dev key) (bits k.word 44 40) (bits k.word 39 38 + 1)⟩) s.dev d ∧ OpDone [.ar] [] [] key t k s.dev d := by
  have hop := opOf_isMode (sel_of_issues h.1)
  refine completes_arRun h.1 (unlocked_of_op hop (by omega)) (land := (argsOf key t k s.dev).land)
    (v := fun j => ⟨_, arRunPoison (issued t k (coreOf s.dev key)) _ _ || false⟩) (guarded_runs h _) fun j _ => ?_
  simp [arRunPoison, argsOf]

theorem completes_movImmediate (h : Runs (isMode 0x0E 1) key t k s.dev) :
    Completes (exec (.movImmediate key []) s) s fun d =>
      ArRun key (bits k.word 49 45) (bits k.word 39 38 + 1) (fun _ => ⟨sgn 16 (bits k.word 37 22), false⟩) s.dev d ∧
      OpDone [.ar] [] [] key t k s.dev d := by
  have hop := opOf_isMode (sel_of_issues h.1)
  exact completes_arRun h.1 (unlocked_of_op hop (by omega)) (land := (argsOf key t k s.dev).land)
    (v := fun _ => ⟨sgn 16 (bits k.word 37 22), false⟩) (guarded_runs h _) fun _ _ => rfl

theorem completes_movClearAccumulators (h : Runs (isMode 0x0E 2) key t k s.dev) :
    Completes (exec (.movClearAccumulators key []) s) s fun d =>
      (∀ i, accOf (coreOf d key) i = if i < 18 ∧ bit k.word (i + 4) = true then ⟨0, false⟩ else accOf (coreOf s.dev key) i) ∧
      OpDone [.acc] [] [] key t k s.dev d := by
  have hop := opOf_isMode (sel_of_issues h.1)
  refine completes_quiet h.1 (guarded_runs h _) ⟨fun i => ?_, opDone_setCore ?_ (by simp [unlocked_of_op hop])⟩
  · rw [coreOf_setCore_same]
    refine (accOf_clearMask _ 18 (fun j => bit k.word (j + 4)) _ i).trans ?_
    rw [accOf_issued]
  · exact CoreWrites.foldl (fun _ _ => CoreWrites.ite (writes_putAcc _ _ _ _ _) (CoreWrites.refl _ _)) _ _

theorem completes_ldw (h : Runs (isOp 0x0F) key t k s.dev) :
    Completes (exec (.ldw key []) s) s fun d =>
      ArRun key (bits k.word 42 38) 4
        (fun j => ⟨v4 (tblWord (coreOf s.dev key) (tagCtx k.tag) (tagFrame k.tag) (bits k.word 51 43)) j, false⟩) s.dev d ∧
      OpDone [.ar] [] [] key t k s.dev d := by
  have hop := opOf_isOp (sel_of_issues h.1)
  refine completes_arRun h.1 (unlocked_of_op hop (by omega)) (land := (argsOf key t k s.dev).land)
    (v := fun j => ⟨v4 (tblWord (issued t k (coreOf s.dev key)) (tagCtx k.tag) (tagFrame k.tag) (bits k.word 51 43)) j, false⟩)
    (guarded_runs h _) fun j _ => ?_
  simp

/-- SEL is under no guard: its predicate selects (R119). -/
theorem completes_sel (h : Issues (isOp 0x0C) key t k s.dev) :
    Completes (exec (.sel key []) s) s fun d =>
      ArRun key (bits k.word 41 37) (bits k.word 36 35 + 1)
        (fun j =>
          let p := predOf (coreOf s.dev key) (prOf k.word)
          let a := arOf (coreOf s.dev key) ((if (p.v = 1) = (pnBit k.word = false) then bits k.word 51 47 else bits k.word 46 42) + j)
          ⟨a.v, a.poison || p.poison⟩) s.dev d ∧
      OpDone [.ar] [] [] key t k s.dev d := by
  have hop := opOf_isOp (sel_of_issues h)
  refine completes_arRun h (unlocked_of_op hop (by omega)) (land := (argsOf key t k s.dev).land)
    (v := fun j => ⟨(arOf _ _).v, _ || _ || false⟩) rfl fun j _ => ?_
  cases hn : pnBit k.word <;> by_cases hp : (predOf (coreOf s.dev key) (prOf k.word)).v = 1 <;> simp [argsOf, hn, hp]

theorem completes_cmp {a b o : PReg} (h : Runs (isOp 0x0B) key t k s.dev) (ha : a = arOf (coreOf s.dev key) (bits k.word 51 47))
    (hb : b = (if bit k.word 41 then ⟨sgn 16 (bits k.word 32 17), false⟩ else arOf (coreOf s.dev key) (bits k.word 46 42)))
    (ho : o = predOf (coreOf s.dev key) (bits k.word 40 38)) (hcomb : bits k.word 34 33 < 3) :
    Completes (exec (.cmp key []) s) s fun d =>
      predOf (coreOf d key) (bits k.word 40 38) =
        (if bits k.word 40 38 = 0 then ⟨1, false⟩
         else
          ⟨if (bits k.word 34 33 = 0 ∧ cmpCond (bits k.word 37 35) a.v b.v = true) ∨
              (bits k.word 34 33 = 1 ∧ cmpCond (bits k.word 37 35) a.v b.v = true ∧ o.v = 1) ∨
              (bits k.word 34 33 = 2 ∧ (cmpCond (bits k.word 37 35) a.v b.v = true ∨ o.v = 1)) then 1 else 0,
            a.poison || b.poison || (decide (bits k.word 34 33 ≠ 0) && o.poison)⟩) ∧
      (∀ i, i ≠ bits k.word 40 38 → predOf (coreOf d key) i = predOf (coreOf s.dev key) i) ∧
      OpDone [.pred] [] [] key t k s.dev d := by
  have hop := opOf_isOp (sel_of_issues h.1)
  refine completes_quiet h.1 (guarded_runs h _) ⟨?_, fun i hi => ?_, opDone_setCore (writes_putPred _ _ _ _ _) (by simp [unlocked_of_op hop])⟩
  · rw [coreOf_setCore_same, predOf_putPred]
    by_cases hz : bits k.word 40 38 = 0
    · rw [if_neg (fun hw => hw.2 hz), if_pos hz, hz]; rfl
    · rw [if_pos ⟨rfl, hz⟩, if_neg hz]
      simp only [argsOf, arOf_issued, predOf_issued, ← ha, ← hb, ← ho]
      have hcases : bits k.word 34 33 = 0 ∨ bits k.word 34 33 = 1 ∨ bits k.word 34 33 = 2 := by omega
      rcases hcases with hc | hc | hc <;> simp [hc]
  · rw [coreOf_setCore_same, predOf_putPred, if_neg (fun e => hi e.1.symm), predOf_issued]

theorem completes_maxp {v : Nat → Int} (h : Runs (isOp 0x0D) key t k s.dev)
    (hv : v = (fun j => (arOf (coreOf s.dev key) (bits k.word 51 47 + j)).v)) :
    Completes (exec (.maxp key []) s) s fun d =>
      ∃ o, o ≤ bits k.word 46 42 ∧ (∀ j, j ≤ bits k.word 46 42 → v j ≤ v o) ∧ (∀ j, j < o → v j < v o) ∧
        ArRun key (bits k.word 41 37) (if bit k.word 36 then 2 else 1)
          (fun j => ⟨if j = 0 then v o else o,
            (codes (bits k.word 51 47) (bits k.word 46 42 + 1)).any (fun i => (arOf (coreOf s.dev key) i).poison)⟩) s.dev d ∧
        OpDone [.ar] [] [] key t k s.dev d := by
  have hop := opOf_isOp (sel_of_issues h.1)
  obtain ⟨o, hmax, hle, hall, hfirst⟩ := maxRun_spec v (bits k.word 46 42)
  let p := (codes (bits k.word 51 47) (bits k.word 46 42 + 1)).any (fun i => (arOf (coreOf s.dev key) i).poison)
  have hrun : fxMaxp (argsOf key t k s.dev) (issued t k (coreOf s.dev key)) = Fx.of (putRun (argsOf key t k s.dev).land (bits k.word 41 37)
      (if bit k.word 36 then 2 else 1) (fun j => ⟨if j = 0 then v o else o, p⟩) (issued t k (coreOf s.dev key))) := by
    have hvals : (codes (bits k.word 51 47) (bits k.word 46 42 + 1)).map (fun i => (arOf (coreOf s.dev key) i).v) =
        (List.range (bits k.word 46 42 + 1)).map v := by rw [hv, codes, List.map_map]; rfl
    unfold fxMaxp
    simp only [arOf_issued]
    change (match maxRun ((codes (bits k.word 51 47) (bits k.word 46 42 + 1)).map (fun i => (arOf (coreOf s.dev key) i).v)) with
      | (m, o) => Fx.of (if bit k.word 36 = true then
        putAr (argsOf key t k s.dev).land (bits k.word 41 37 + 1) o (p || false)
          (putAr (argsOf key t k s.dev).land (bits k.word 41 37) m (p || false) (issued t k (coreOf s.dev key)))
        else putAr (argsOf key t k s.dev).land (bits k.word 41 37) m (p || false) (issued t k (coreOf s.dev key)))) = _
    rw [hvals, hmax, Bool.or_false]
    cases bit k.word 36 <;> rfl
  obtain ⟨d, hd, har, hdone⟩ := completes_arRun h.1 (unlocked_of_op hop (by omega)) ((guarded_runs h _).trans hrun) (fun _ _ => rfl)
  exact ⟨d, hd, o, hle, hall, hfirst, har, hdone⟩

end Ops

/-- Settles O7: each operation writes one run of registers, one predicate or the accumulators of a mask, and hands nothing to the block. -/
theorem movesAndWaits : Obligations.MovesAndWaits := by
  have hnone {sel : Nat → Bool} {n : Nat} (hn : n = 0 ∨ 5 ≤ n) {key t : Nat} {k : Cand} {s : State} (h : Issues sel key t k s.dev)
      (hop : opOf k.word = n) : Completes (opCmd sel fxNone key [] s) s (OpDone [] [] [] key t k s.dev) :=
    completes_fxNone h (unlocked_of_op hop hn)
  refine ⟨fun key t k s => ⟨fun h => ?_, fun h => ?_, fun h => ?_, fun h => ?_⟩, fun _ _ _ _ => completes_movRegisterRun,
    fun _ _ _ _ => completes_movImmediate, fun _ _ _ _ => completes_movClearAccumulators, fun _ _ _ _ => completes_ldw,
    fun _ _ _ _ => completes_sel, fun _ _ _ _ _ _ _ => completes_cmp, fun _ _ _ _ _ => completes_maxp⟩
  · exact hnone (.inl rfl) h (opOf_isOp (sel_of_issues h))
  · exact hnone (by decide) h (opOf_isMode (sel_of_issues h))
  · exact hnone (by decide) h (opOf_isMode (sel_of_issues h))
  · exact hnone (by decide) h (opOf_isMode (sel_of_issues h))

end Sys2Proof.Machine
end

section
/-! SUPPORT. The verdict collector beside a late merge (R184, R274), and what refutes O14. -/

namespace Sys2Proof.Machine

/-! ### What a merge leaves (R184, R185) -/

/-- From block a to block b the frames, the grid and every entry below those of the clip monitors stay. -/
structure MergeKeeps (a b : Dev) : Prop where
  frames : b.frames = a.frames
  grid : b.grid = a.grid
  entries : ∀ r : Reg, r.key < 0x380000 → dget r b = dget r a

theorem MergeKeeps.refl (a : Dev) : MergeKeeps a a := ⟨rfl, rfl, fun _ _ => rfl⟩

theorem MergeKeeps.trans {a b c : Dev} (h : MergeKeeps a b) (g : MergeKeeps b c) : MergeKeeps a c :=
  ⟨g.frames.trans h.frames, g.grid.trans h.grid, fun r hr => (g.entries r hr).trans (h.entries r hr)⟩

theorem mergeKeeps_dset {r : Reg} (h : 0x380000 ≤ r.key) (v : Nat) (d : Dev) : MergeKeeps d (dset r v d) :=
  ⟨rfl, rfl, fun q hq => dget_dset_ne v d (by omega)⟩

theorem mergeKeeps_bumpBy {r : Reg} (h : 0x380000 ≤ r.key) (n : Nat) (d : Dev) : MergeKeeps d (bumpBy r n d) :=
  ⟨only_bumpBy r n d .frames (by decide), only_bumpBy r n d .grid (by decide), fun q hq => dget_bumpBy_ne n d (by omega)⟩

theorem mergeKeeps_enc (x : Enc) (d : Dev) : MergeKeeps d { d with enc := x } := ⟨rfl, rfl, fun _ _ => rfl⟩

theorem mergeKeeps_reportLim {c : Nat} (h : c < 0x3000) (t u a0 a1 : Nat) (d : Dev) : MergeKeeps d (reportLim t u c a0 a1 d) :=
  ⟨only_reportLim h t u a0 a1 d .frames (by decide), only_reportLim h t u a0 a1 d .grid (by decide),
    fun r hr => dget_reportLim h t u a0 a1 d r (notMem_reportKeys_of_lt (by omega))⟩

theorem mergeKeeps_countMon (n m outs clips : Nat) (d : Dev) : MergeKeeps d (countMon n m outs clips d) := by
  have hcount : 0x380000 ≤ (R.CLIP_COUNT m).key := by simp only [R.CLIP_COUNT]; omega
  have hshare : 0x380000 ≤ (R.CLIP_SHARE m).key := by simp only [R.CLIP_SHARE]; omega
  unfold countMon
  dsimp only
  refine (mergeKeeps_bumpBy hcount clips d).trans ?_
  generalize bumpBy (R.CLIP_COUNT m) clips d = d
  split
  · exact mergeKeeps_enc _ _
  · split
    · exact ((mergeKeeps_enc _ _).trans (mergeKeeps_dset hshare _ _)).trans (mergeKeeps_reportLim (by decide) _ _ _ _ _)
    · exact (mergeKeeps_enc _ _).trans (mergeKeeps_dset hshare _ _)

theorem mergeKeeps_showMons (d : Dev) : MergeKeeps d (showMons d) :=
  (mergeKeeps_dset (r := R.STALE_MONITORS) (by decide) _ d).trans (mergeKeeps_dset (r := R.FIRST_STALE_MONITOR) (by decide) _ _)

theorem mergeKeeps_foldl {α : Type} {f : Dev → α → Dev} (h : ∀ d x, MergeKeeps d (f d x)) (l : List α) (d : Dev) : MergeKeeps d (l.foldl f d) := by
  induction l generalizing d with
  | nil => exact MergeKeeps.refl _
  | cons x l ih => exact (h d x).trans (ih _)

theorem mergeKeeps_refreshSave (d : Dev) : MergeKeeps d (refreshSave d) := by
  unfold refreshSave
  split
  · exact MergeKeeps.refl _
  · exact ⟨rfl, rfl, fun _ _ => rfl⟩

theorem mergeKeeps_mergeFrame (n : Nat) (d : Dev) : MergeKeeps d (mergeFrame n d) := by
  unfold mergeFrame
  dsimp only
  refine MergeKeeps.trans ?_ (mergeKeeps_refreshSave _)
  refine MergeKeeps.trans ?_ (mergeKeeps_enc _ _)
  refine MergeKeeps.trans ?_ (mergeKeeps_showMons _)
  exact MergeKeeps.trans (mergeKeeps_enc _ d) (mergeKeeps_foldl (fun _ _ => mergeKeeps_countMon _ _ _ _ _) _ _)

theorem mergeKeeps_mergeNext (d : Dev) : MergeKeeps d (mergeNext d) := by
  unfold mergeNext
  dsimp only
  split
  · exact (mergeKeeps_enc { d.enc with nextMerge := d.enc.nextMerge + 1 } d).trans (mergeKeeps_mergeFrame _ _)
  · exact mergeKeeps_enc _ _

theorem mergeKeeps_mergeTo (n fuel : Nat) (d : Dev) : MergeKeeps d (mergeTo n fuel d) := by
  induction fuel generalizing d with
  | zero => exact MergeKeeps.refl _
  | succ fuel ih =>
    unfold mergeTo
    split
    · exact (mergeKeeps_mergeNext d).trans (ih _)
    · exact MergeKeeps.refl _

/-- What O14 says of the comparison at a close with merges outstanding holds while the frame's context is one of the four slots. -/
theorem verdictClose_compares {n : Nat} {d : Dev} (hn : n = d.grid.nextClose) (hp : ringPassed d n = true) (hlost : (frameOf d n).lost = false)
    (hpaused : (frameOf d n).paused = false) (hctx : (frameOf d n).ctx < 4) :
    (frameOf (verdictClose d) n).invalid = ((frameOf d n).invalid || (frameOf d n).bad ||
      decide ((frameOf d n).tokens ≠ dget (R.VERDICT_EXPECTED (frameOf d n).ctx) d)) := by
  subst hn
  have hkey : (R.VERDICT_EXPECTED (frameOf d d.grid.nextClose).ctx).key < 0x380000 := by simp only [R.VERDICT_EXPECTED]; omega
  have hmerge := mergeKeeps_mergeTo (d.grid.nextClose - 2) (d.grid.nextClose + 1) (advTo (closeAt d d.grid.nextClose) d)
  unfold verdictClose
  dsimp only
  rw [if_neg (by simp [hp])]
  generalize mergeTo (d.grid.nextClose - 2) (d.grid.nextClose + 1) (advTo (closeAt d d.grid.nextClose) d) = e at hmerge
  have hframe : frameOf e d.grid.nextClose = frameOf d d.grid.nextClose := congrArg (fun l => tget Frame.rest l d.grid.nextClose) hmerge.frames
  have hexpected : dget (R.VERDICT_EXPECTED (frameOf d d.grid.nextClose).ctx) { e with grid := { e.grid with nextClose := d.grid.nextClose + 1 } } =
      dget (R.VERDICT_EXPECTED (frameOf d d.grid.nextClose).ctx) d := hmerge.entries _ hkey
  rw [hframe, hexpected, if_neg (by simp [hlost, hpaused]), frameOf_setFrame_same]

/-! ### The refutation of O14 -/

/-- Frame 3 stands before its close, with the 5 tokens that are expected of its context; the merge of frame 0 waits. The context of the
frame is number 1048326, whose VERDICT_EXPECTED would have the number 0x380007, that of STALE_MONITORS: no state that the part reaches, but
one of the state type, over which O14 speaks. -/
def closingStrayContext : State := { State.reset with dev := { Dev.reset with
  grid := { Dev.reset.grid with nextClose := 3, nextT := 4, endF := some 4 }
  frames := [(3, { Frame.rest with ctx := 0xFFF06, tokens := 5 })]
  dict := [(0x380007, 5)] } }

/-- The late merge clears STALE_MONITORS, and the tokens of the frame fall short of nothing. -/
theorem verdictClose_strayContext : (frameOf (verdictClose closingStrayContext.dev) 3).invalid = true := by decide +kernel

/-- Refutes O14: its clause on a close with merges outstanding claims in every state that the tokens are compared with VERDICT_EXPECTED as
it stood before, and where the frame's context is beyond the four slots of Table 11.9, which no hypothesis keeps out, the merge writes
STALE_MONITORS where that count is read (`verdictClose_compares` gives the comparison for those slots). -/
theorem not_verdictCollector : ¬ Obligations.VerdictCollector := by
  unfold Obligations.VerdictCollector
  rintro ⟨-, -, -, -, hclose, -⟩
  obtain ⟨d, hd, -, -, -, -, hruns⟩ := hclose 3 closingStrayContext rfl (by decide +kernel)
  obtain ⟨-, hinvalid, -⟩ := hruns (by decide +kernel) (by decide +kernel)
  have hdev : d = verdictClose closingStrayContext.dev := by
    have hnext : Host.Outcome.next (φ := Fault) (ρ := Refusal) { closingStrayContext with dev := verdictClose closingStrayContext.dev } =
        .next { closingStrayContext with dev := d } := hd
    injection hnext with hstate
    exact (congrArg State.dev hstate).symm
  have hinTime : ((frameOf closingStrayContext.dev 3).invalid || (frameOf closingStrayContext.dev 3).bad ||
      decide ((frameOf closingStrayContext.dev 3).tokens ≠
        dget (R.VERDICT_EXPECTED (frameOf closingStrayContext.dev 3).ctx) closingStrayContext.dev)) = false := by decide +kernel
  rw [hdev, verdictClose_strayContext, hinTime] at hinvalid
  exact absurd hinvalid (by decide)

end Sys2Proof.Machine
end

section
/-! SUPPORT. The fault collector for every class, what a class J or P fault of a core brings while a job runs, and the watchdog and scrubber
(R103, R117, R430, R433, R435), and what settles O13. -/

namespace Sys2Proof.Machine

/-! ### The collector (R430) -/

/-- What the collector does behind LAST_FAULT_CODE and LAST_FAULT_FRAME: the record, or its suppression, and the class bits. -/
def noted (code a0 a1 : Nat) (rep : Bool) (d : Dev) : Dev :=
  let d := if rep then bump R.EVENTS_SUPPRESSED d
    else
      let w := nowWords d
      let d := pushRec 3 (eventRec code a0 a1 d) d
      let d := { d with flt := { d.flt with
        lastAt := tset none d.flt.lastAt code (some d.now)
        log := (((logged d code).1, (logged d code).2, w.headD 0, w.getD 1 0) :: d.flt.log).take 64 } }
      if code / 0x1000 = 0 then d else msi 5 d
  if code / 0x1000 = 0 then d
  else
    let d := dset R.FAULT_ACTIVE (setBit (dget R.FAULT_ACTIVE d) (code / 0x1000) true) d
    if bit (dget R.FAULT_N_CLASSES d) (code / 0x1000) then { d with flt := { d.flt with quietFrom := some d.now } } else d

/-- The count of a fault in its class. -/
def classed (code : Nat) (d : Dev) : Dev := if code / 0x1000 = 0 then d else bump (classCounter (code / 0x1000)) d

theorem collect_eq (code a0 a1 : Nat) (w : Bool) (d : Dev) : ∃ rep, collect code a0 a1 w d = noted code a0 a1 rep
    (dset R.LAST_FAULT_FRAME (logged (classed code d) code).2 (dset R.LAST_FAULT_CODE (logged (classed code d) code).1 (classed code d))) :=
  ⟨_, rfl⟩

theorem dget_noted {r : Reg} (hs : R.EVENTS_SUPPRESSED.key ≠ r.key) (ha : R.FAULT_ACTIVE.key ≠ r.key) (code a0 a1 : Nat) (rep : Bool) (d : Dev) :
    dget r (noted code a0 a1 rep d) = dget r d := by
  have hlog (d : Dev) (x : Flt) : dget r { d with flt := x } = dget r d := rfl
  unfold noted
  dsimp only
  repeat' split
  all_goals simp only [hlog, dget_dset_ne _ _ ha, dget_bump_ne _ hs, dget_msi, dget_pushRec]

theorem noted_dev (code a0 a1 : Nat) (rep : Bool) (d : Dev) : (noted code a0 a1 rep d).flt.dev = d.flt.dev := by
  unfold noted
  dsimp only
  repeat' split
  all_goals simp only [dset_flt, bump_flt, msi_flt, pushRec_flt]

theorem classed_undef (code : Nat) (d : Dev) : (classed code d).undef = d.undef := by unfold classed; split <;> simp
theorem classed_flt (code : Nat) (d : Dev) : (classed code d).flt = d.flt := by unfold classed; split <;> simp

theorem collect_dev (code a0 a1 : Nat) (w : Bool) (d : Dev) : (collect code a0 a1 w d).flt.dev = d.flt.dev := by
  obtain ⟨rep, h⟩ := collect_eq code a0 a1 w d
  rw [h, noted_dev, dset_flt, dset_flt, classed_flt]

/-- Beside the log's own entries the collector writes the counter of the class alone. -/
theorem dget_collect {r : Reg} (h : r.key ∉ [R.LAST_FAULT_CODE.key, R.LAST_FAULT_FRAME.key, R.EVENTS_SUPPRESSED.key, R.FAULT_ACTIVE.key])
    (code a0 a1 : Nat) (w : Bool) (d : Dev) : dget r (collect code a0 a1 w d) = dget r (classed code d) := by
  obtain ⟨rep, hrep⟩ := collect_eq code a0 a1 w d
  simp only [List.mem_cons, List.not_mem_nil, or_false, not_or] at h
  obtain ⟨hc, hf, hs, ha⟩ := h
  rw [hrep, dget_noted (Ne.symm hs) (Ne.symm ha), dget_dset_ne _ _ (Ne.symm hf), dget_dset_ne _ _ (Ne.symm hc)]

theorem lastFault_collect (code a0 a1 : Nat) (w : Bool) (d : Dev) (hu : d.undef = false) : dget R.LAST_FAULT_CODE (collect code a0 a1 w d) = code := by
  obtain ⟨rep, h⟩ := collect_eq code a0 a1 w d
  have hcode : (logged (classed code d) code).1 = code := by rw [logged, classed_undef, hu]; rfl
  rw [h, dget_noted (by decide) (by decide), dget_dset_ne _ _ (by decide), dget_dset_same, hcode]

theorem only_collect (code a0 a1 : Nat) (w : Bool) (d : Dev) : ChangesOnly [.dict, .host, .flt] d (collect code a0 a1 w d) := by
  have h := dhf_collect code a0 a1 w d
  intro p hp
  rw [h]
  cases p <;> first | exact absurd (by decide) hp | rfl

/-! ### Restarts and retirements while a job runs (R433, R435) -/

theorem wantRestart_jobRuns {d : Dev} (h : JobRuns d) : wantRestart d = { d with flt := { d.flt with pending := true } } := by
  obtain ⟨hdev, hrestart⟩ := h
  simp [wantRestart, hdev, hrestart]

theorem jobRuns_of {a b : Dev} (h : JobRuns a) (hd : b.flt.dev = a.flt.dev) (hr : dget R.RESTART_STATE b = dget R.RESTART_STATE a) : JobRuns b :=
  ⟨hd.trans h.1, hr.trans h.2⟩

theorem report_dev {code : Nat} (h : code < 0x3000) (a0 a1 : Nat) (d : Dev) : (report code a0 a1 d).flt.dev = d.flt.dev := by
  rw [report, report_small h]
  exact collect_dev code a0 a1 false d

theorem jobRuns_report {code : Nat} (h : code < 0x3000) (a0 a1 : Nat) {d : Dev} (hj : JobRuns d) : JobRuns (report code a0 a1 d) :=
  jobRuns_of hj (report_dev h a0 a1 d) (dget_report h _ _ _ _ (by decide))

/-- Whether a core is used depends on the fuses and the loader alone. -/
theorem coreUsed_congr {a b : Dev} (hf : b.fuses = a.fuses) (hl : b.ldr = a.ldr) (key : Nat) : coreUsed b key = coreUsed a key := by
  have hparts (d : Dev) : coreUsed d key = coreUsed { Dev.reset with fuses := d.fuses, ldr := d.ldr } key := rfl
  rw [hparts b, hparts a, hf, hl]

/-- Core key is retired or will be with the next restart, which waits when the core is used. -/
def Retired (key : Nat) (a d : Dev) : Prop := (key ∈ retiredSet a ∨ key ∈ d.ldr.pend) ∧ (coreUsed a key = true → d.flt.pending = true)

theorem retireCoreP_eq {d : Dev} (h : JobRuns d) (key : Nat) : ∃ l f, retireCoreP key d = { d with ldr := l, flt := f } ∧ f.dev = none ∧
    l.map = d.ldr.map ∧ l.ctxs = d.ldr.ctxs ∧ (key ∈ retiredSet d ∨ key ∈ l.pend) ∧ (coreUsed d key = true → f.pending = true) := by
  have hpend : ∃ l, (if (retiredSet d).contains key ∨ d.ldr.pend.contains key then d
      else { d with ldr := { d.ldr with pend := d.ldr.pend ++ [key] } }) = { d with ldr := l } ∧ l.map = d.ldr.map ∧ l.ctxs = d.ldr.ctxs ∧
      (key ∈ retiredSet d ∨ key ∈ l.pend) := by
    split
    · next hin =>
      refine ⟨d.ldr, rfl, rfl, rfl, ?_⟩
      simpa using hin
    · exact ⟨_, rfl, rfl, rfl, .inr (by simp)⟩
  obtain ⟨l, hl, hmap, hctx, hmem⟩ := hpend
  unfold retireCoreP
  dsimp only
  rw [hl]
  cases hused : coreUsed d key
  · exact ⟨l, d.flt, rfl, h.1, hmap, hctx, hmem, by simp⟩
  · have hruns : JobRuns { d with ldr := l } := h
    refine ⟨l, { d.flt with pending := true }, ?_, h.1, hmap, hctx, hmem, fun _ => rfl⟩
    rw [if_pos rfl, wantRestart_jobRuns hruns]

theorem retired_retireCoreP {d : Dev} (h : JobRuns d) (key : Nat) : Retired key d (retireCoreP key d) := by
  obtain ⟨l, f, he, -, -, -, hmem, hpending⟩ := retireCoreP_eq h key
  exact he ▸ ⟨hmem, hpending⟩

theorem only_retireCoreP {d : Dev} (h : JobRuns d) (key : Nat) : ChangesOnly [.ldr, .flt] d (retireCoreP key d) := by
  obtain ⟨l, f, he, -⟩ := retireCoreP_eq h key
  rw [he]
  exact fun p hp => by cases p <;> first | exact absurd (by decide) hp | rfl

theorem retireCoreP_dict {d : Dev} (h : JobRuns d) (key : Nat) : (retireCoreP key d).dict = d.dict := by
  obtain ⟨l, f, he, -⟩ := retireCoreP_eq h key
  rw [he]

/-- A class P fault of a core, reported and followed by its retirement. -/
theorem retired_report {code : Nat} (h : code < 0x3000) (a0 a1 key : Nat) {d : Dev} (hj : JobRuns d) :
    Retired key d (retireCoreP key (report code a0 a1 d)) := by
  obtain ⟨hmem, hpending⟩ := retired_retireCoreP (jobRuns_report h a0 a1 hj) key
  have honly := only_report h a0 a1 d
  have hf : (report code a0 a1 d).fuses = d.fuses := honly .fuses (by decide)
  have hl : (report code a0 a1 d).ldr = d.ldr := honly .ldr (by decide)
  refine ⟨?_, coreUsed_congr hf hl key ▸ hpending⟩
  rwa [retiredSet, hf, hl] at hmem

theorem lastFault_retireCoreP {code : Nat} {d : Dev} (hj : JobRuns d) (key : Nat) (h : LastFault code d) : LastFault code (retireCoreP key d) := by
  obtain ⟨l, f, he, -⟩ := retireCoreP_eq hj key
  rw [he]
  exact h

/-! ### An uncorrectable error (R103) -/

theorem eccError_eq {key : Nat} (h : key < 65536) (mem word : Nat) (scrub : Bool) (d : Dev) : ∃ a1, eccError key mem word scrub d =
    retireCoreP key (report 0x2041 key a1 (bump R.ECC_UNCORRECTED d)) := by
  unfold eccError
  rw [if_neg (by omega)]
  exact ⟨_, rfl⟩

theorem jobRuns_bump {r : Reg} (h : r.key ≠ R.RESTART_STATE.key) {d : Dev} (hj : JobRuns d) : JobRuns (bump r d) :=
  jobRuns_of hj (by simp) (dget_bump_ne d h)

section Ecc

variable {key mem word : Nat} {scrub : Bool} {d : Dev}

theorem eccError_counts (h : key < 65536) (hj : JobRuns d) :
    dget R.ECC_UNCORRECTED (eccError key mem word scrub d) = satAdd32 (dget R.ECC_UNCORRECTED d) 1 := by
  obtain ⟨a1, he⟩ := eccError_eq h mem word scrub d
  have hr := jobRuns_report (code := 0x2041) (by decide) key a1 (jobRuns_bump (r := R.ECC_UNCORRECTED) (by decide) hj)
  rw [he, dget, retireCoreP_dict hr key, ← dget, dget_report (by decide) _ _ _ _ (by decide), dget_bump_same]

theorem lastFault_eccError (h : key < 65536) (hj : JobRuns d) : LastFault 0x2041 (eccError key mem word scrub d) := by
  obtain ⟨a1, he⟩ := eccError_eq h mem word scrub d
  rw [he]
  exact lastFault_retireCoreP (jobRuns_report (by decide) _ _ (jobRuns_bump (by decide) hj)) _ (lastFault_report (by decide) _ _ _)

theorem retired_eccError (h : key < 65536) (hj : JobRuns d) : Retired key d (eccError key mem word scrub d) := by
  obtain ⟨a1, he⟩ := eccError_eq h mem word scrub d
  rw [he]
  obtain ⟨hmem, hpending⟩ := retired_report (code := 0x2041) (by decide) key a1 key (jobRuns_bump (r := R.ECC_UNCORRECTED) (by decide) hj)
  refine ⟨?_, fun hu => hpending ((coreUsed_congr (by simp) (by simp) key).trans hu)⟩
  simpa [retiredSet] using hmem

theorem seb_eccError (h : key < 65536) (hj : JobRuns d) :
    SameEntriesBut (R.ECC_UNCORRECTED.key :: reportKeys) d (eccError key mem word scrub d) := by
  obtain ⟨a1, he⟩ := eccError_eq h mem word scrub d
  have hr := jobRuns_report (code := 0x2041) (by decide) key a1 (jobRuns_bump (r := R.ECC_UNCORRECTED) (by decide) hj)
  rw [he]
  exact (seb_bump List.mem_cons_self d).trans
    (((seb_report (by decide) _ _ _).mono (List.subset_cons_self _ _)).trans (seb_dict (retireCoreP_dict hr key)))

theorem only_eccError (h : key < 65536) (hj : JobRuns d) : ChangesOnly [.dict, .host, .flt, .ldr] d (eccError key mem word scrub d) := by
  obtain ⟨a1, he⟩ := eccError_eq h mem word scrub d
  have hr := jobRuns_report (code := 0x2041) (by decide) key a1 (jobRuns_bump (r := R.ECC_UNCORRECTED) (by decide) hj)
  rw [he]
  exact ((only_bump R.ECC_UNCORRECTED d).then (only_report (by decide) _ _ _) (by decide) (List.Subset.refl _)).then (only_retireCoreP hr key)
    (by decide) (by decide)

end Ecc

end Sys2Proof.Machine
end

section
/-! SUPPORT. The firing watchdog and the scrubber (R103, R117, R433, R435), and what settles O13. -/

namespace Sys2Proof.Machine

/-! ### A class J fault (R430, R435) -/

section ClassJ

variable {code : Nat} {d : Dev}

theorem report_classJ (hc : code / 0x1000 = 3) (a0 a1 : Nat) (hj : JobRuns d) : ∃ f, report code a0 a1 d = { collect code a0 a1 false d with flt := f } ∧
    f.pending = true := by
  have hruns : JobRuns (collect code a0 a1 false d) := by
    refine jobRuns_of hj (collect_dev _ _ _ _ _) ((dget_collect (by decide) _ _ _ _ _).trans ?_)
    rw [classed, hc]
    exact dget_bump_ne _ (by decide)
  have hwant : report code a0 a1 d = driveFaultN { collect code a0 a1 false d with
      flt := { (collect code a0 a1 false d).flt with pending := true } } := by
    rw [report, reportW, hc]
    dsimp only
    rw [if_neg (by decide), if_pos rfl, wantRestart_jobRuns hruns]
  exact ⟨_, hwant, rfl⟩

theorem lastFault_classJ (hc : code / 0x1000 = 3) (a0 a1 : Nat) (hj : JobRuns d) : LastFault code (report code a0 a1 d) := by
  obtain ⟨f, he, -⟩ := report_classJ hc a0 a1 hj
  rw [he]
  intro hu
  have hund : (collect code a0 a1 false d).undef = d.undef := congrArg Prod.fst (only_collect code a0 a1 false d .undef (by decide))
  exact lastFault_collect code a0 a1 false d (hund.symm.trans hu)

theorem faultsJ_classJ (hc : code / 0x1000 = 3) (a0 a1 : Nat) (hj : JobRuns d) :
    dget R.FAULTS_J (report code a0 a1 d) = satAdd32 (dget R.FAULTS_J d) 1 := by
  obtain ⟨f, he, -⟩ := report_classJ hc a0 a1 hj
  rw [he]
  refine (dget_collect (by decide) code a0 a1 false d).trans ?_
  rw [classed, hc]
  exact dget_bump_same _ _

theorem seb_classJ (hc : code / 0x1000 = 3) (a0 a1 : Nat) (hj : JobRuns d) : SameEntriesBut faultKeys d (report code a0 a1 d) := by
  obtain ⟨f, he, -⟩ := report_classJ hc a0 a1 hj
  rw [he]
  intro r hr
  simp only [faultKeys, reportKeys, List.mem_cons, List.not_mem_nil, or_false, not_or] at hr
  obtain ⟨hj, -, -, -, hcode, hframe, hsup, hact⟩ := hr
  refine (dget_collect (r := r) (by simp [*]) code a0 a1 false d).trans ?_
  rw [classed, hc]
  exact dget_bump_ne _ (Ne.symm hj)

theorem only_classJ (hc : code / 0x1000 = 3) (a0 a1 : Nat) (hj : JobRuns d) : ChangesOnly [.dict, .host, .flt] d (report code a0 a1 d) := by
  obtain ⟨f, he, -⟩ := report_classJ hc a0 a1 hj
  rw [he]
  exact (only_collect code a0 a1 false d).then (only_flt f _) (List.Subset.refl _) (by decide)

end ClassJ

/-! ### The firing watchdog (R117) -/

theorem expiryAt_some {key e t : Nat} {c : Core} {d : Dev} (hc : c = coreOf d key) (he : countsFrom c = some e)
    (hpick : ∀ x ∈ pick c (issueFrom key d), t ≤ x.1)
    (ht : t = max (max c.wdAt (overBy c)) e + (dget R.FIRE_WATCHDOG d - (c.wdCount + (overBy c - c.wdAt)))) : expiryAt key d = some t := by
  subst hc
  unfold expiryAt
  dsimp only
  rw [he]
  dsimp only
  rw [← ht]
  split
  · next u k hsome => exact if_neg (Nat.not_lt.mpr (hpick (u, k) hsome))
  · rfl

/-- The block once the expiry in ac t is counted, before its report. -/
def expired (key t : Nat) (d : Dev) : Dev :=
  bump R.FIRE_WATCHDOG_EVENTS (setCore key { coreOf d key with wdCount := 0, wdAt := t + 1 } (advTo t d))

theorem fireWatchdogExpiry_some {key t : Nat} {d : Dev} (hk : key < 65536) (hr : coreRuns d key = true) (ht : expiryAt key d = some t) :
    fireWatchdogExpiry key d = report 0x3042 key (coreOf d key).lastTag (expired key t d) := by
  unfold fireWatchdogExpiry
  rw [if_neg (by omega), hr, if_pos rfl, ht]
  rfl

theorem dget_expired {r : Reg} (h : r.key ≠ R.FIRE_WATCHDOG_EVENTS.key) (key t : Nat) (d : Dev) : dget r (expired key t d) = dget r d :=
  dget_bump_ne _ (Ne.symm h)

theorem only_expired (key t : Nat) (d : Dev) : ChangesOnly [.now, .time, .dict, .cores] d (expired key t d) :=
  ((only_advTo t d).then (only_setCore _ _ _) (by decide) (by decide)).then (only_bump _ _) (List.Subset.refl _) (by decide)

theorem completes_expiry {key e t : Nat} {c : Core} {s : State} (hkey : coreKey key = true) (hk : key < 65536) (hc : c = coreOf s.dev key)
    (he : countsFrom c = some e) (hj : JobRuns s.dev) (hr : coreRuns s.dev key = true) (hpick : ∀ x ∈ pick c (issueFrom key s.dev), t ≤ x.1)
    (ht : t = max (max c.wdAt (overBy c)) e + (dget R.FIRE_WATCHDOG s.dev - (c.wdCount + (overBy c - c.wdAt)))) :
    Completes (exec (.fireWatchdogExpiry key) s) s fun d =>
      d.now = max t s.dev.now ∧ coreOf d key = { c with wdCount := 0, wdAt := t + 1 } ∧ (∀ j, j ≠ key → coreOf d j = coreOf s.dev j) ∧
      dget R.FIRE_WATCHDOG_EVENTS d = satAdd32 (dget R.FIRE_WATCHDOG_EVENTS s.dev) 1 ∧ LastFault 0x3042 d ∧
      dget R.FAULTS_J d = satAdd32 (dget R.FAULTS_J s.dev) 1 ∧ d.flt.pending = true ∧
      SameEntriesBut (R.FIRE_WATCHDOG_EVENTS.key :: faultKeys) s.dev d ∧ ChangesOnly [.now, .time, .dict, .cores, .host, .flt] s.dev d := by
  have hrun : exec (.fireWatchdogExpiry key) s = .next { s with dev := report 0x3042 key (coreOf s.dev key).lastTag (expired key t s.dev) } := by
    rw [← fireWatchdogExpiry_some hk hr (expiryAt_some hc he hpick ht)]
    exact run_ok hkey
  have hjx : JobRuns (expired key t s.dev) :=
    jobRuns_of hj (congrArg Flt.dev (only_expired key t s.dev .flt (by decide))) (dget_expired (by decide) _ _ _)
  have hcores : ∀ j, coreOf (report 0x3042 key (coreOf s.dev key).lastTag (expired key t s.dev)) j = coreOf (expired key t s.dev) j := fun j =>
    congrArg (fun l => tget Core.rest l j) (only_classJ rfl _ _ hjx .cores (by decide))
  have hset : ∀ j, coreOf (expired key t s.dev) j =
      coreOf (setCore key { coreOf s.dev key with wdCount := 0, wdAt := t + 1 } (advTo t s.dev)) j := fun j => coreOf_bump _ _ _
  refine ⟨_, hrun, ?_, ?_, fun j hj => ?_, ?_, lastFault_classJ rfl _ _ hjx, ?_, ?_, ?_, ?_⟩
  · exact (only_classJ rfl _ _ hjx .now (by decide)).trans (bump_now _ _)
  · rw [hcores, hset, coreOf_setCore_same, hc]
  · rw [hcores, hset, coreOf_setCore_ne _ _ (Ne.symm hj), coreOf_advTo]
  · rw [seb_classJ rfl _ _ hjx _ (by decide)]
    exact dget_bump_same _ _
  · rw [faultsJ_classJ rfl _ _ hjx, dget_expired (by decide)]
  · obtain ⟨f, hf, hpending⟩ := report_classJ (code := 0x3042) rfl key (coreOf s.dev key).lastTag hjx
    rw [hf]
    exact hpending
  · intro r hr
    obtain ⟨hwd, hfault⟩ := not_or.mp (mt List.mem_cons.mpr hr)
    rw [seb_classJ rfl _ _ hjx r hfault, dget_expired hwd]
  · exact (only_expired key t s.dev).then (only_classJ rfl _ _ hjx) (by decide) (by decide)

theorem fireWatchdogExpiry_none {key : Nat} {d : Dev} (h : (key < 65536 ∧ (coreRuns d key = false ∨ expiryAt key d = none)) ∨
    (65536 ≤ key ∧ (clusOf d ((key - 65536) / 256)).job = none)) : fireWatchdogExpiry key d = d := by
  unfold fireWatchdogExpiry
  rcases h with ⟨hk, hnone⟩ | ⟨hk, hjob⟩
  · have : (if coreRuns d key = true then expiryAt key d else none) = none := by
      rcases hnone with hr | hx
      · simp [hr]
      · simp [hx]
    rw [if_neg (by omega), this]
  · rw [if_pos hk, hjob]

/-! ### The scrubber (R103) -/

theorem satAdd32_add (v a b : Nat) : satAdd32 (satAdd32 v a) b = satAdd32 v (a + b) := by unfold satAdd32; omega

/-- Single-bit upsets alone are counted, whatever else they say. -/
theorem scrubberPass_single {ups : List Upset} (h : ∀ u ∈ ups, u.double = false) (key : Nat) (d : Dev) :
    scrubberPass key ups d = ups.foldl (fun d _ => bump R.ECC_CORRECTED d) d := by
  unfold scrubberPass
  induction ups generalizing d with
  | nil => rfl
  | cons u ups ih =>
    simp only [List.foldl_cons, h u List.mem_cons_self]
    exact ih (fun u hu => h u (List.mem_cons_of_mem _ hu)) _

/-- A run of single counts is one rise. -/
theorem rose_bumps {α : Type} (r : Reg) (l : List α) (d : Dev) : Rose r l.length d (l.foldl (fun d _ => bump r d) d) := by
  induction l generalizing d with
  | nil => rfl
  | cons x l ih =>
    have h := ih (bump r d)
    unfold Rose at *
    rw [List.foldl_cons, h, dget_bump_same, List.length_cons, if_neg (Nat.succ_ne_zero _)]
    split
    · next hl => rw [hl]
    · rw [satAdd32_add, Nat.add_comm]

theorem exec_scrubberPass {key : Nat} {ups : List Upset} {s : State} (hkey : coreKey key = true) (h : ∀ u ∈ ups, u.mem < 3 ∧ u.word < 4096) :
    exec (.scrubberPass key ups) s = .next { s with dev := scrubberPass key ups s.dev } := by
  refine run_ok ?_
  rw [hkey, Bool.true_and, List.all_eq_true]
  exact fun u hu => decide_eq_true (h u hu)

/-- Settles O13: the expiry is a class J fault of a job that runs, the scrubber counts its upsets, and an uncorrectable one is the core's
class P fault. -/
theorem watchdogAndScrubber : Obligations.WatchdogAndScrubber := by
  refine ⟨fun key e t c s => completes_expiry, fun key s hkey h => ?_, fun key ups s hkey h => ?_, fun key u s hkey hk hm hw hdouble hj => ?_⟩
  · refine (run_ok hkey).trans ?_
    rw [fireWatchdogExpiry_none h]
  · refine ⟨_, exec_scrubberPass hkey fun u hu => ⟨(h u hu).1, (h u hu).2.1⟩, ?_⟩
    rw [scrubberPass_single fun u hu => (h u hu).2.2]
    exact ⟨rose_bumps _ _ _, seb_foldl (fun d _ _ => seb_bump List.mem_cons_self d) _, ChangesOnly.foldl (fun d _ => only_bump _ d) _ _⟩
  · refine ⟨_, exec_scrubberPass hkey fun v hv => by rw [List.mem_singleton.mp hv]; exact ⟨hm, hw⟩, ?_⟩
    have hpass : scrubberPass key [u] s.dev = eccError key u.mem u.word true s.dev := by simp [scrubberPass, hdouble]
    rw [hpass]
    obtain ⟨hretired, hrestart⟩ := retired_eccError (mem := u.mem) (word := u.word) (scrub := true) hk hj
    exact ⟨eccError_counts hk hj, lastFault_eccError hk hj, hretired, hrestart, (seb_eccError hk hj).mono (by decide), only_eccError hk hj⟩

end Sys2Proof.Machine
end

section
/-! SUPPORT. RESCALE, ACTLUT and STATE (R130, R131, R139, R177 to R179, R183, R184), and what settles O9. -/

namespace Sys2Proof.Machine

@[simp] theorem argsOf_w (key t : Nat) (k : Cand) (d : Dev) : (argsOf key t k d).w = k.word := rfl
@[simp] theorem argsOf_tag (key t : Nat) (k : Cand) (d : Dev) : (argsOf key t k d).tag = k.tag := rfl
@[simp] theorem argsOf_bad (key t : Nat) (k : Cand) (d : Dev) : (argsOf key t k d).bad = false := rfl

theorem preg_eq {p : PReg} {v : Int} {b : Bool} (hv : p.v = v) (hp : p.poison = b) : p = ⟨v, b⟩ := by subst hv hp; rfl

/-! ### RESCALE -/

section Rescale

/-- Table entry and accumulator of result j of a RESCALE. -/
def rescaleEnt (x : IssueArgs) (c : Core) (j : Nat) : Nat := tblWord c (tagCtx x.tag) (tagFrame x.tag) (bits x.w 51 43 + j)
def rescaleSrc (x : IssueArgs) (c : Core) (j : Nat) : PReg := accOf c (bits x.w 42 38 + j)

/-- Result j is undefined: its shift is above 47 (R15). -/
def rescaleWild (x : IssueArgs) (c : Core) (j : Nat) : Bool := decide (47 < bits (rescaleEnt x c j) 31 26)

/-- Result j counts for the clip monitor of its context (R183). -/
def rescaleSeen (x : IssueArgs) (c : Core) (j : Nat) : Bool :=
  let m := tget 0 c.monitor (tagCtx x.tag)
  decide (bits m 63 55 ≤ bits x.w 51 43 + j ∧ bits x.w 51 43 + j < bits m 63 55 + bits m 54 50) && !(rescaleSrc x c j).poison

/-- Result j counts as a saturation. -/
def rescaleClips (x : IssueArgs) (c : Core) (j : Nat) : Bool :=
  (rescaleVal (rescaleSrc x c j).v (rescaleEnt x c j)).2 && !(rescaleSrc x c j).poison

/-- The clip count of result j, which saturated or not. -/
def rescaleCount (x : IssueArgs) (c : Core) (j : Nat) (s : Bool) : ClipCount :=
  let m := tget 0 c.monitor (tagCtx x.tag)
  ⟨bits m 49 38 + (bits x.w 51 43 + j - bits m 63 55), x.frame, 1, if s then 1 else 0⟩

/-- Value and saturation of result j where no error was read. -/
def rescaleOut (x : IssueArgs) (c : Core) (fx : Fx) (j : Nat) : Int × Bool :=
  if rescaleWild x c j then (sgn 16 (freeAt x fx), bit (freeAt x fx) 16) else rescaleVal (rescaleSrc x c j).v (rescaleEnt x c j)

/-- One element of a RESCALE where no error was read. -/
def rescaleStep (x : IssueArgs) (c : Core) (fx : Fx) (j : Nat) : Fx :=
  let y := rescaleOut x c fx j
  let core := putAr x.land (bits x.w 32 28 + j) y.1 (rescaleSrc x c j).poison fx.core
  { fx with
    core := if bit x.w 27 then putAcc x.land (bits x.w 42 38 + j) 0 false core else core
    resSat := fx.resSat + (if y.2 && !(rescaleSrc x c j).poison then 1 else 0)
    clips := if rescaleSeen x c j then fx.clips ++ [rescaleCount x c j y.2] else fx.clips
    drawn := if rescaleWild x c j then fx.drawn + 1 else fx.drawn
    undef := fx.undef || rescaleWild x c j }

variable {x : IssueArgs} {c : Core}

theorem fxRescale_eq (hb : x.bad = false) : fxRescale x c = (List.range (bits x.w 37 33 + 1)).foldl (rescaleStep x c) (Fx.of c) := by
  unfold fxRescale
  dsimp only
  congr 1
  funext fx j
  rw [hb, Bool.or_false]
  rfl

/-- The first n elements of a RESCALE are done. -/
structure Rescaled (x : IssueArgs) (c : Core) (n : Nat) (fx : Fx) : Prop where
  writes : CoreWrites [.ar, .acc] c fx.core
  plain : fx.skew = none ∧ fx.emit = none ∧ fx.ringW = none ∧ fx.accSat = 0
  rest : ∀ i, i < bits x.w 32 28 ∨ bits x.w 32 28 + n ≤ i → arOf fx.core i = arOf c i
  poison : ∀ j, j < n → (arOf fx.core (bits x.w 32 28 + j)).poison = (rescaleSrc x c j).poison
  value : ∀ j, j < n → rescaleWild x c j = false →
    (arOf fx.core (bits x.w 32 28 + j)).v = (rescaleVal (rescaleSrc x c j).v (rescaleEnt x c j)).1
  cleared : ∀ i, accOf fx.core i =
    if bit x.w 27 = true ∧ bits x.w 42 38 ≤ i ∧ i < bits x.w 42 38 + n then ⟨0, false⟩ else accOf c i
  drawn : fx.drawn = (List.range n).countP (rescaleWild x c)
  undef : fx.undef = (List.range n).any (rescaleWild x c)
  resSat : (∀ j, j < n → rescaleWild x c j = false) → fx.resSat = (List.range n).countP (rescaleClips x c)
  clips : (∀ j, j < n → rescaleWild x c j = false) → fx.clips = ((List.range n).filter (rescaleSeen x c)).map
    (fun j => rescaleCount x c j (rescaleVal (rescaleSrc x c j).v (rescaleEnt x c j)).2)

theorem rescaled_zero : Rescaled x c 0 (Fx.of c) where
  writes := CoreWrites.refl _ _
  plain := ⟨rfl, rfl, rfl, rfl⟩
  rest := fun _ _ => rfl
  poison := fun j hj => absurd hj (by omega)
  value := fun j hj => absurd hj (by omega)
  cleared := fun i => (if_neg (by omega)).symm
  drawn := rfl
  undef := rfl
  resSat := fun _ => rfl
  clips := fun _ => rfl

theorem arOf_rescaleStep (fx : Fx) (n i : Nat) : arOf (rescaleStep x c fx n).core i =
    if bits x.w 32 28 + n = i then ⟨(rescaleOut x c fx n).1, (rescaleSrc x c n).poison⟩ else arOf fx.core i := by
  unfold rescaleStep
  dsimp only
  split <;> simp only [arOf_putAcc, arOf_putAr]

theorem accOf_rescaleStep (fx : Fx) (n i : Nat) : accOf (rescaleStep x c fx n).core i =
    if bit x.w 27 = true ∧ bits x.w 42 38 + n = i then ⟨0, false⟩ else accOf fx.core i := by
  unfold rescaleStep
  dsimp only
  cases bit x.w 27 <;> simp [accOf_putAcc]

theorem rescaleOut_tame {fx : Fx} {n : Nat} (h : rescaleWild x c n = false) :
    rescaleOut x c fx n = rescaleVal (rescaleSrc x c n).v (rescaleEnt x c n) := by simp [rescaleOut, h]

theorem rescaled_succ {n : Nat} {fx : Fx} (h : Rescaled x c n fx) : Rescaled x c (n + 1) (rescaleStep x c fx n) where
  writes := h.writes.trans (by
    have har : CoreWrites [.ar, .acc] fx.core (putAr x.land (bits x.w 32 28 + n) (rescaleOut x c fx n).1 (rescaleSrc x c n).poison fx.core) :=
      (writes_putAr _ _ _ _ _).mono (by simp)
    exact CoreWrites.ite (har.trans ((writes_putAcc _ _ _ _ _).mono (by simp))) har)
  plain := h.plain
  rest := fun i hi => by
    rw [arOf_rescaleStep, if_neg (by omega)]
    exact h.rest i (by omega)
  poison := fun j hj => by
    rw [arOf_rescaleStep]
    split
    · next he => rw [show j = n by omega]
    · exact h.poison j (by omega)
  value := fun j hj hw => by
    rw [arOf_rescaleStep]
    split
    · next he =>
      obtain rfl : j = n := by omega
      rw [rescaleOut_tame hw]
    · exact h.value j (by omega) hw
  cleared := fun i => by
    rw [accOf_rescaleStep, h.cleared]
    by_cases hb : bit x.w 27 = true
    · simp only [hb, true_and]
      by_cases hi : bits x.w 42 38 + n = i
      · rw [if_pos hi, if_pos (by omega)]
      · by_cases hr : bits x.w 42 38 ≤ i ∧ i < bits x.w 42 38 + n
        · rw [if_neg hi, if_pos hr, if_pos (by omega)]
        · rw [if_neg hi, if_neg hr, if_neg (by omega)]
    · rw [if_neg (fun h => hb h.1), if_neg (fun h => hb h.1), if_neg (fun h => hb h.1)]
  drawn := by
    rw [List.range_succ, List.countP_append, List.countP_singleton, ← h.drawn]
    exact (apply_ite (fx.drawn + ·) (rescaleWild x c n = true) 1 0).symm
  undef := by
    rw [List.range_succ, List.any_append, ← h.undef]
    simp [rescaleStep]
  resSat := fun hw => by
    rw [List.range_succ, List.countP_append, List.countP_singleton, ← h.resSat fun j hj => hw j (by omega)]
    unfold rescaleStep
    rw [rescaleOut_tame (hw n (by omega))]
    rfl
  clips := fun hw => by
    rw [List.range_succ, List.filter_append, List.map_append, ← h.clips fun j hj => hw j (by omega)]
    unfold rescaleStep
    rw [rescaleOut_tame (hw n (by omega))]
    by_cases hs : rescaleSeen x c n = true
    · simp [hs]
    · simp [hs]

theorem rescaled_all (n : Nat) : Rescaled x c n ((List.range n).foldl (rescaleStep x c) (Fx.of c)) := by
  induction n with
  | zero => exact rescaled_zero
  | succ n ih =>
    rw [List.range_succ, List.foldl_append]
    exact rescaled_succ ih

/-! What the elements read does not change with the issue. -/

@[simp] theorem rescaleEnt_issued (t : Nat) (k : Cand) : rescaleEnt x (issued t k c) = rescaleEnt x c := funext fun _ => tblWord_issued _ _ _ _ _ _
@[simp] theorem rescaleSrc_issued (t : Nat) (k : Cand) : rescaleSrc x (issued t k c) = rescaleSrc x c := funext fun _ => accOf_issued _ _ _ _
@[simp] theorem rescaleWild_issued (t : Nat) (k : Cand) : rescaleWild x (issued t k c) = rescaleWild x c := by funext j; simp [rescaleWild]
@[simp] theorem rescaleClips_issued (t : Nat) (k : Cand) : rescaleClips x (issued t k c) = rescaleClips x c := by funext j; simp [rescaleClips]
@[simp] theorem monitor_issued (t : Nat) (k : Cand) : (issued t k c).monitor = c.monitor := by
  obtain ⟨-, -, -, -, -, -, -, hmon, -⟩ := issued_mems t k c
  exact hmon
@[simp] theorem rescaleSeen_issued (t : Nat) (k : Cand) : rescaleSeen x (issued t k c) = rescaleSeen x c := by funext j; simp [rescaleSeen]
@[simp] theorem rescaleCount_issued (t : Nat) (k : Cand) : rescaleCount x (issued t k c) = rescaleCount x c := by
  funext j s; simp [rescaleCount]

end Rescale

/-- The block keeps its defined state where an operation draws no free value. -/
theorem only_issueFx_tame {fx : Fx} (hu : fx.undef = false) (hd : fx.drawn = 0) (key t : Nat) (d : Dev) :
    ChangesOnly [.now, .time, .cores, .dict, .enc] d (tookFx key fx (advTo t d)) := by
  have hundef : (tookFx key fx (advTo t d)).undef = d.undef ∧ (tookFx key fx (advTo t d)).undefNew = d.undefNew := by
    unfold tookFx
    simp [hu]
  have hfree : (tookFx key fx (advTo t d)).freeCtr = d.freeCtr := by rw [tookFx_freeCtr, hd]; rfl
  have hall : ChangesOnly [.undef, .freeCtr, .now, .time, .cores, .dict, .enc] d (tookFx key fx (advTo t d)) :=
    (only_issueFx key t fx d).mono (by decide)
  exact (hall.drop (Prod.ext hundef.1 hundef.2)).drop hfree

section RescaleOp

variable {key t : Nat} {k : Cand} {s : State} {c : Core} {ent : Nat → Nat} {a : Nat → PReg}

/-- A RESCALE hands the block its core, its saturations, its clip counts and the free values it drew. -/
theorem completes_rescale (h : Runs (isOp 0x05) key t k s.dev) {P : Dev → Prop}
    (hP : ∀ fx, Rescaled (argsOf key t k s.dev) (issued t k (coreOf s.dev key)) (bits k.word 37 33 + 1) fx → P (tookFx key fx (advTo t s.dev))) :
    Completes (exec (.rescale key []) s) s P := by
  refine completes_op h.1 ?_
  have hfx := rescaled_all (x := argsOf key t k s.dev) (c := issued t k (coreOf s.dev key)) (bits k.word 37 33 + 1)
  obtain ⟨hskew, hemit, hring, -⟩ := hfx.plain
  have hrun : guarded fxRescale (argsOf key t k s.dev) (issued t k (coreOf s.dev key)) =
      (List.range (bits k.word 37 33 + 1)).foldl (rescaleStep (argsOf key t k s.dev) (issued t k (coreOf s.dev key)))
        (Fx.of (issued t k (coreOf s.dev key))) := (guarded_runs h fxRescale).trans (fxRescale_eq rfl)
  rw [hrun, applyFx_plain hskew hemit hring]
  exact hP _ hfx

theorem completes_rescale_tame (h : Runs (isOp 0x05) key t k s.dev) (hc : c = coreOf s.dev key)
    (hent : ent = (fun j => tblWord c (tagCtx k.tag) (tagFrame k.tag) (bits k.word 51 43 + j)))
    (ha : a = (fun j => accOf c (bits k.word 42 38 + j))) (htame : ∀ j, j ≤ bits k.word 37 33 → bits (ent j) 31 26 ≤ 47) :
    Completes (exec (.rescale key []) s) s fun d =>
      ArRun key (bits k.word 32 28) (bits k.word 37 33 + 1) (fun j =>
        ⟨sat 16 (rneDiv ((a j).v * (bits (ent j) 63 48 : Nat)) (2 ^ bits (ent j) 31 26) + sgn 16 (bits (ent j) 47 32)), (a j).poison⟩) s.dev d ∧
      (∀ i, accOf (coreOf d key) i =
        if bit k.word 27 = true ∧ bits k.word 42 38 ≤ i ∧ i ≤ bits k.word 42 38 + bits k.word 37 33 then ⟨0, false⟩ else accOf c i) ∧
      Rose R.RESCALE_SAT ((List.range (bits k.word 37 33 + 1)).countP (fun j => (rescaleVal (a j).v (ent j)).2 && !(a j).poison)) s.dev d ∧
      d.undef = s.dev.undef ∧ d.freeCtr = s.dev.freeCtr ∧ { d.enc with counts := s.dev.enc.counts } = s.dev.enc ∧
      d.enc.counts = s.dev.enc.counts ++ ((List.range (bits k.word 37 33 + 1)).filter (fun j =>
          decide (bits (tget 0 c.monitor (tagCtx k.tag)) 63 55 ≤ bits k.word 51 43 + j ∧
            bits k.word 51 43 + j < bits (tget 0 c.monitor (tagCtx k.tag)) 63 55 + bits (tget 0 c.monitor (tagCtx k.tag)) 54 50) && !(a j).poison)).map
        (fun j => ⟨bits (tget 0 c.monitor (tagCtx k.tag)) 49 38 + (bits k.word 51 43 + j - bits (tget 0 c.monitor (tagCtx k.tag)) 63 55),
          (argsOf key t k s.dev).frame, 1, if (rescaleVal (a j).v (ent j)).2 then 1 else 0⟩) ∧
      OpDone [.ar, .acc] [.dict, .enc] [R.RESCALE_SAT.key] key t k s.dev d := by
  subst hc hent ha
  refine completes_rescale h fun fx hfx => ?_
  have hlock : needsLock k.word = false := unlocked_of_op (opOf_isOp (sel_of_issues h.1)) (by omega)
  have hwild : ∀ j, j < bits k.word 37 33 + 1 → rescaleWild (argsOf key t k s.dev) (coreOf s.dev key) j = false := fun j hj =>
    decide_eq_false (Nat.not_lt.mpr (htame j (by omega)))
  obtain ⟨hwrites, ⟨-, -, -, hsat⟩, hrest, hpoison, hvalue, hcleared, hdrawn, hundef, hres, hclips⟩ := hfx
  simp only [rescaleWild_issued, rescaleSrc_issued, rescaleEnt_issued, rescaleClips_issued, rescaleSeen_issued, rescaleCount_issued,
    accOf_issued, arOf_issued] at hrest hpoison hvalue hcleared hdrawn hundef hres hclips
  have hd : fx.drawn = 0 := by
    rw [hdrawn, List.countP_eq_zero]
    exact fun j hj => by simp [hwild j (List.mem_range.mp hj)]
  have hu : fx.undef = false := by
    rw [hundef, List.any_eq_false]
    exact fun j hj => by simp [hwild j (List.mem_range.mp hj)]
  refine ⟨⟨fun j hj => ?_, fun i hi => ?_⟩, fun i => ?_, ?_, ?_, ?_, ?_, ?_, ?_⟩
  · rw [tookFx_core]
    exact preg_eq (hvalue j hj (hwild j hj)) (hpoison j hj)
  · rw [tookFx_core]
    exact hrest i hi
  · rw [tookFx_core, hcleared]
    exact if_congr (and_congr Iff.rfl (and_congr Iff.rfl Nat.lt_succ_iff)) rfl rfl
  · exact hres hwild ▸ resSat_tookFx key fx (advTo t s.dev)
  · rw [tookFx_undef, hu, Bool.or_false]; rfl
  · rw [tookFx_freeCtr, hd]; rfl
  · rw [tookFx_enc]; rfl
  · rw [tookFx_enc, hclips hwild]; rfl
  · exact opDone_tookFx hwrites (by simp [hlock]) (.inl hsat) (.inr List.mem_cons_self) (only_issueFx_tame hu hd key t s.dev)

theorem completes_rescale_wild {n : Nat} (h : Runs (isOp 0x05) key t k s.dev) (hc : c = coreOf s.dev key)
    (hent : ent = (fun j => tblWord c (tagCtx k.tag) (tagFrame k.tag) (bits k.word 51 43 + j)))
    (ha : a = (fun j => accOf c (bits k.word 42 38 + j)))
    (hn : n = (List.range (bits k.word 37 33 + 1)).countP (fun j => decide (47 < bits (ent j) 31 26))) (hpos : 0 < n) :
    Completes (exec (.rescale key []) s) s fun d =>
      d.undef = true ∧ d.freeCtr = s.dev.freeCtr + n ∧
      (∀ j, j ≤ bits k.word 37 33 → (arOf (coreOf d key) (bits k.word 32 28 + j)).poison = (a j).poison) ∧
      (∀ j, j ≤ bits k.word 37 33 → bits (ent j) 31 26 ≤ 47 → (arOf (coreOf d key) (bits k.word 32 28 + j)).v = (rescaleVal (a j).v (ent j)).1) ∧
      (∀ i, i < bits k.word 32 28 ∨ bits k.word 32 28 + bits k.word 37 33 < i → arOf (coreOf d key) i = arOf c i) ∧
      (∀ i, accOf (coreOf d key) i =
        if bit k.word 27 = true ∧ bits k.word 42 38 ≤ i ∧ i ≤ bits k.word 42 38 + bits k.word 37 33 then ⟨0, false⟩ else accOf c i) ∧
      OpDone [.ar, .acc] [.dict, .enc, .undef, .freeCtr] [R.RESCALE_SAT.key] key t k s.dev d := by
  subst hc hent ha
  refine completes_rescale h fun fx hfx => ?_
  have hlock : needsLock k.word = false := unlocked_of_op (opOf_isOp (sel_of_issues h.1)) (by omega)
  obtain ⟨hwrites, ⟨-, -, -, hsat⟩, hrest, hpoison, hvalue, hcleared, hdrawn, hundef, -, -⟩ := hfx
  simp only [rescaleWild_issued, rescaleSrc_issued, rescaleEnt_issued, accOf_issued, arOf_issued] at hrest hpoison hvalue hcleared hdrawn hundef
  have hcount : fx.drawn = n := hdrawn.trans hn.symm
  have hu : fx.undef = true := by
    rw [← hcount, hdrawn, List.countP_pos_iff] at hpos
    rw [hundef, List.any_eq_true]
    exact hpos
  refine ⟨?_, ?_, fun j hj => ?_, fun j hj hw => ?_, fun i hi => ?_, fun i => ?_, ?_⟩
  · rw [tookFx_undef, hu, Bool.or_true]
  · rw [tookFx_freeCtr, hcount]; rfl
  · rw [tookFx_core]; exact hpoison j (by omega)
  · rw [tookFx_core]; exact hvalue j (by omega) (decide_eq_false (Nat.not_lt.mpr hw))
  · rw [tookFx_core]; exact hrest i (by simp only [argsOf]; omega)
  · rw [tookFx_core, hcleared]
    exact if_congr (and_congr Iff.rfl (and_congr Iff.rfl Nat.lt_succ_iff)) rfl rfl
  · exact opDone_tookFx hwrites (by simp [hlock]) (.inl hsat) (.inr List.mem_cons_self) ((only_issueFx key t fx s.dev).mono (by decide))

end RescaleOp

/-! ### ACTLUT and STATE -/

section ActState

variable {key t : Nat} {k : Cand} {s : State} {c : Core}

theorem completes_actlut {tab : Nat → Int} (h : Runs (isOp 0x06) key t k s.dev) (hc : c = coreOf s.dev key)
    (htab : tab = (fun i => v4 (tblWord c (tagCtx k.tag) (tagFrame k.tag) (bits k.word 39 31 + i / 4)) (i % 4))) :
    Completes (exec (.actlut key []) s) s fun d =>
      ArRun key (bits k.word 46 42) (bits k.word 41 40 + 1) (fun j =>
        ⟨actLut tab (bits k.word 30 27) (bit k.word 26) (arOf c (bits k.word 51 47 + j)).v, arRunPoison c (bits k.word 51 47) (bits k.word 41 40 + 1)⟩) s.dev d ∧
      OpDone [.ar] [] [] key t k s.dev d := by
  subst hc htab
  refine completes_arRun h.1 (unlocked_of_op (opOf_isOp (sel_of_issues h.1)) (by omega)) (land := (argsOf key t k s.dev).land)
    (v := fun j => ⟨actLut
      (fun i => v4 (tblWord (issued t k (coreOf s.dev key)) (tagCtx k.tag) (tagFrame k.tag) (bits k.word 39 31 + i / 4)) (i % 4))
      (bits k.word 30 27) (bit k.word 26) (arOf (issued t k (coreOf s.dev key)) (bits k.word 51 47 + j)).v,
      arRunPoison (issued t k (coreOf s.dev key)) (bits k.word 51 47) (bits k.word 41 40 + 1) || false⟩)
    (guarded_runs h _) fun j _ => ?_
  simp [arRunPoison]

/-- A state register is written with its frame. -/
theorem sreg_putState (x : IssueArgs) (i : Nat) (v : Int) (p : Bool) (c : Core) (j : Nat) : tget SReg.rest (putState x i v p c).sreg j =
    if tagCtx x.tag * 16 + i = j then ⟨v, p, tagFrame x.tag, false⟩ else tget SReg.rest c.sreg j := tget_tset _ _ _ _ _

/-- A run of state registers of one context, from `a` on. -/
def putStates (x : IssueArgs) (a n : Nat) (v : Nat → PReg) (c : Core) : Core :=
  (List.range n).foldl (fun core i => putState x (a + i) (v i).v (v i).poison core) c

theorem writes_putStates (x : IssueArgs) (a n : Nat) (v : Nat → PReg) (c : Core) : CoreWrites [.sreg] c (putStates x a n v c) :=
  CoreWrites.foldl (fun _ _ => writes_putState _ _ _ _ _) _ _

theorem sreg_putStates (x : IssueArgs) (a n : Nat) (v : Nat → PReg) (c : Core) (j : Nat) :
    tget SReg.rest (putStates x a n v c).sreg j =
      if tagCtx x.tag * 16 + a ≤ j ∧ j < tagCtx x.tag * 16 + a + n then
        ⟨(v (j - (tagCtx x.tag * 16 + a))).v, (v (j - (tagCtx x.tag * 16 + a))).poison, tagFrame x.tag, false⟩
      else tget SReg.rest c.sreg j := by
  induction n with
  | zero => rw [if_neg (by omega)]; rfl
  | succ n ih =>
    have hlast : tget SReg.rest (putStates x a (n + 1) v c).sreg j =
        if tagCtx x.tag * 16 + (a + n) = j then ⟨(v n).v, (v n).poison, tagFrame x.tag, false⟩
        else tget SReg.rest (putStates x a n v c).sreg j := by
      rw [putStates, List.range_succ, List.foldl_append]
      exact sreg_putState _ _ _ _ _ _
    rw [hlast, ih]
    by_cases hi : tagCtx x.tag * 16 + (a + n) = j
    · have hn : j - (tagCtx x.tag * 16 + a) = n := by omega
      rw [if_pos hi, if_pos (by omega), hn]
    · by_cases hr : tagCtx x.tag * 16 + a ≤ j ∧ j < tagCtx x.tag * 16 + a + n
      · rw [if_neg hi, if_pos hr, if_pos (by omega)]
      · rw [if_neg hi, if_neg hr, if_neg (by omega)]

theorem completes_stateWrite {r0 : Nat} (h : Runs (isState true) key t k s.dev) (hc : c = coreOf s.dev key)
    (hr : r0 = tagCtx k.tag * 16 + bits k.word 50 47) :
    Completes (exec (.stateWrite key []) s) s fun d =>
      (∀ j, j ≤ bits k.word 46 45 → tget SReg.rest (coreOf d key).sreg (r0 + j) =
        ⟨(arOf c (bits k.word 44 40 + j)).v, (arOf c (bits k.word 44 40 + j)).poison, tagFrame k.tag, false⟩) ∧
      (∀ i, i < r0 ∨ r0 + bits k.word 46 45 < i → tget SReg.rest (coreOf d key).sreg i = tget SReg.rest c.sreg i) ∧
      OpDone [.sreg] [] [] key t k s.dev d := by
  subst hc hr
  have hlock : needsLock k.word = false := unlocked_of_op (opOf_isState (sel_of_issues h.1)) (by omega)
  have hrun : guarded fxStateWrite (argsOf key t k s.dev) (issued t k (coreOf s.dev key)) =
      Fx.of (putStates (argsOf key t k s.dev) (bits k.word 50 47) (bits k.word 46 45 + 1)
        (fun j => ⟨(arOf (issued t k (coreOf s.dev key)) (bits k.word 44 40 + j)).v,
          (arOf (issued t k (coreOf s.dev key)) (bits k.word 44 40 + j)).poison || false⟩) (issued t k (coreOf s.dev key))) := guarded_runs h _
  refine completes_quiet h.1 hrun ⟨fun j hj => ?_, fun i hi => ?_, opDone_setCore (writes_putStates _ _ _ _ _) (by simp [hlock])⟩
  · rw [coreOf_setCore_same, sreg_putStates, if_pos (by rw [argsOf_tag]; omega), argsOf_tag, Nat.add_sub_cancel_left]
    simp only [arOf_issued, Bool.or_false]
  · rw [coreOf_setCore_same, sreg_putStates, if_neg (by rw [argsOf_tag]; omega), issued_sreg]

/-- A STATE read of one register: value and poison are copied, and the initial mark goes. -/
def readState (x : IssueArgs) (c core : Core) (j : Nat) : Core :=
  let i := tagCtx x.tag * 16 + (bits x.w 50 47 + j)
  let s := tget SReg.rest c.sreg i
  let core := putAr x.land (bits x.w 44 40 + j) s.v (s.poison || x.bad) core
  if s.initial then { core with sreg := tset SReg.rest core.sreg i ⟨s.v, s.poison, (tagFrame x.tag + 255) % 256, false⟩ } else core

def readStates (x : IssueArgs) (c : Core) (n : Nat) : Core := (List.range n).foldl (readState x c) c

theorem readStates_succ (x : IssueArgs) (c : Core) (n : Nat) : readStates x c (n + 1) = readState x c (readStates x c n) n := by
  rw [readStates, List.range_succ, List.foldl_append]
  rfl

theorem writes_sreg (t : Tab SReg) (c : Core) : CoreWrites [.ar, .sreg] c { c with sreg := t } :=
  ⟨rfl, rfl, rfl, rfl, rfl, fun p hp => by cases p <;> simp_all [CorePart.same]⟩

theorem writes_readState (x : IssueArgs) (c core : Core) (j : Nat) : CoreWrites [.ar, .sreg] core (readState x c core j) := by
  have har : CoreWrites [.ar, .sreg] core (putAr x.land (bits x.w 44 40 + j) (sregOf c (tagCtx x.tag) (bits x.w 50 47 + j)).v
      ((sregOf c (tagCtx x.tag) (bits x.w 50 47 + j)).poison || x.bad) core) := (writes_putAr _ _ _ _ _).mono (by simp)
  exact CoreWrites.ite (har.trans (writes_sreg _ _)) har

theorem arOf_readState (x : IssueArgs) (c core : Core) (j i : Nat) : arOf (readState x c core j) i =
    if bits x.w 44 40 + j = i then ⟨(sregOf c (tagCtx x.tag) (bits x.w 50 47 + j)).v, (sregOf c (tagCtx x.tag) (bits x.w 50 47 + j)).poison || x.bad⟩
    else arOf core i := by
  have har : arOf (readState x c core j) i = arOf (putAr x.land (bits x.w 44 40 + j) (sregOf c (tagCtx x.tag) (bits x.w 50 47 + j)).v
      ((sregOf c (tagCtx x.tag) (bits x.w 50 47 + j)).poison || x.bad) core) i := by
    unfold readState
    dsimp only
    split <;> rfl
  rw [har, arOf_putAr]

theorem sreg_readState (x : IssueArgs) (c core : Core) (j i : Nat) : tget SReg.rest (readState x c core j).sreg i =
    if tagCtx x.tag * 16 + (bits x.w 50 47 + j) = i ∧ (tget SReg.rest c.sreg i).initial = true then
      ⟨(tget SReg.rest c.sreg i).v, (tget SReg.rest c.sreg i).poison, (tagFrame x.tag + 255) % 256, false⟩
    else tget SReg.rest core.sreg i := by
  by_cases hi : tagCtx x.tag * 16 + (bits x.w 50 47 + j) = i
  · subst hi
    by_cases hinit : (tget SReg.rest c.sreg (tagCtx x.tag * 16 + (bits x.w 50 47 + j))).initial = true
    · rw [if_pos ⟨rfl, hinit⟩, readState, if_pos hinit]
      exact tget_tset_same _ _ _ _
    · rw [if_neg (fun h => hinit h.2), readState, if_neg hinit]
      rfl
  · rw [if_neg (fun h => hi h.1), readState]
    split
    · exact tget_tset_ne _ _ _ _ hi
    · rfl

theorem writes_readStates (x : IssueArgs) (c : Core) (n : Nat) : CoreWrites [.ar, .sreg] c (readStates x c n) :=
  CoreWrites.foldl (fun core j => writes_readState x c core j) _ _

theorem arOf_readStates (x : IssueArgs) (c : Core) (n i : Nat) : arOf (readStates x c n) i =
    if bits x.w 44 40 ≤ i ∧ i < bits x.w 44 40 + n then
      ⟨(sregOf c (tagCtx x.tag) (bits x.w 50 47 + (i - bits x.w 44 40))).v,
        (sregOf c (tagCtx x.tag) (bits x.w 50 47 + (i - bits x.w 44 40))).poison || x.bad⟩
    else arOf c i := by
  induction n with
  | zero => rw [if_neg (by omega)]; rfl
  | succ n ih =>
    rw [readStates_succ, arOf_readState, ih]
    by_cases hi : bits x.w 44 40 + n = i
    · have hn : i - bits x.w 44 40 = n := by omega
      rw [if_pos hi, if_pos (by omega), hn]
    · by_cases hr : bits x.w 44 40 ≤ i ∧ i < bits x.w 44 40 + n
      · rw [if_neg hi, if_pos hr, if_pos (by omega)]
      · rw [if_neg hi, if_neg hr, if_neg (by omega)]

theorem sreg_readStates (x : IssueArgs) (c : Core) (n i : Nat) : tget SReg.rest (readStates x c n).sreg i =
    if tagCtx x.tag * 16 + bits x.w 50 47 ≤ i ∧ i < tagCtx x.tag * 16 + bits x.w 50 47 + n ∧ (tget SReg.rest c.sreg i).initial = true then
      ⟨(tget SReg.rest c.sreg i).v, (tget SReg.rest c.sreg i).poison, (tagFrame x.tag + 255) % 256, false⟩
    else tget SReg.rest c.sreg i := by
  induction n with
  | zero => rw [if_neg (by omega)]; rfl
  | succ n ih =>
    rw [readStates_succ, sreg_readState, ih]
    cases hinit : (tget SReg.rest c.sreg i).initial
    · simp
    · simp only [and_true]
      by_cases hi : tagCtx x.tag * 16 + (bits x.w 50 47 + n) = i
      · rw [if_pos hi, if_pos (by omega)]
      · by_cases hr : tagCtx x.tag * 16 + bits x.w 50 47 ≤ i ∧ i < tagCtx x.tag * 16 + bits x.w 50 47 + n
        · rw [if_neg hi, if_pos hr, if_pos (by omega)]
        · rw [if_neg hi, if_neg hr, if_neg (by omega)]

theorem completes_stateRead {r0 : Nat} (h : Runs (isState false) key t k s.dev) (hc : c = coreOf s.dev key)
    (hr : r0 = tagCtx k.tag * 16 + bits k.word 50 47) :
    Completes (exec (.stateRead key []) s) s fun d =>
      ArRun key (bits k.word 44 40) (bits k.word 46 45 + 1) (fun j => ⟨(tget SReg.rest c.sreg (r0 + j)).v, (tget SReg.rest c.sreg (r0 + j)).poison⟩) s.dev d ∧
      (∀ i, tget SReg.rest (coreOf d key).sreg i =
        if r0 ≤ i ∧ i ≤ r0 + bits k.word 46 45 ∧ (tget SReg.rest c.sreg i).initial = true then
          ⟨(tget SReg.rest c.sreg i).v, (tget SReg.rest c.sreg i).poison, (tagFrame k.tag + 255) % 256, false⟩
        else tget SReg.rest c.sreg i) ∧
      OpDone [.ar, .sreg] [] [] key t k s.dev d := by
  subst hc hr
  have hlock : needsLock k.word = false := unlocked_of_op (opOf_isState (sel_of_issues h.1)) (by omega)
  have hrun : guarded fxStateRead (argsOf key t k s.dev) (issued t k (coreOf s.dev key)) =
      Fx.of (readStates (argsOf key t k s.dev) (issued t k (coreOf s.dev key)) (bits k.word 46 45 + 1)) := guarded_runs h _
  refine completes_quiet h.1 hrun ⟨⟨fun j hj => ?_, fun i hi => ?_⟩, fun i => ?_, opDone_setCore (writes_readStates _ _ _) (by simp [hlock])⟩
  · rw [coreOf_setCore_same, arOf_readStates, if_pos (by rw [argsOf_w]; omega), argsOf_w, argsOf_tag, Nat.add_sub_cancel_left]
    simp only [sregOf, issued_sreg, argsOf_bad, Bool.or_false, Nat.add_assoc]
  · rw [coreOf_setCore_same, arOf_readStates, if_neg (by rw [argsOf_w]; omega), arOf_issued]
  · rw [coreOf_setCore_same, sreg_readStates, issued_sreg, argsOf_w, argsOf_tag]
    exact if_congr (and_congr Iff.rfl (and_congr Nat.lt_succ_iff Iff.rfl)) rfl rfl

end ActState

/-- Settles O9: RESCALE and STATE element by element of their runs, ACTLUT as one run of registers. -/
theorem conversionsAndState : Obligations.ConversionsAndState :=
  ⟨fun _ _ _ _ _ _ _ => completes_rescale_tame, fun _ _ _ _ _ _ _ _ => completes_rescale_wild, fun _ _ _ _ _ _ => completes_actlut,
    fun _ _ _ _ _ _ => completes_stateRead, fun _ _ _ _ _ _ => completes_stateWrite⟩

end Sys2Proof.Machine
end

section
/-! SUPPORT. Tokens of an operation: its operands, what SEND emits, and token admission (R110, R111, R132 to R135, R145, R159). -/

namespace Sys2Proof.Machine

/-! ### Operand tokens (R111) -/

/-- An operation finds in its arguments the token of each of its inputs. -/
theorem tokAt_argsOf {k : Cand} {i : Nat} (h : i ∈ (tokOps k.word).map Prod.fst) (key t : Nat) (d : Dev) :
    tokAt (argsOf key t k d) i = tokFor (coreOf d key) k i := by
  have hfind : ∀ l : List TokOp, i ∈ l.map Prod.fst →
      (l.filterMap (fun o => (slotFor (coreOf d key) k.tag o.1).map (fun s => (o.1, s.tok)))).find? (·.1 = i) =
        (slotFor (coreOf d key) k.tag i).map (fun s => (i, s.tok)) := by
    intro l
    induction l with
    | nil => exact fun h => absurd h List.not_mem_nil
    | cons o l ih =>
      intro hi
      rw [List.filterMap_cons]
      by_cases ho : o.1 = i
      · subst ho
        rcases hs : slotFor (coreOf d key) k.tag o.1 with _ | s
        · by_cases hl : o.1 ∈ l.map Prod.fst
          · simpa [hs] using ih hl
          · simp only [Option.map_none, List.find?_eq_none]
            intro p hp
            obtain ⟨q, hq, hqp⟩ := List.mem_filterMap.mp hp
            obtain ⟨u, -, rfl⟩ := Option.map_eq_some_iff.mp hqp
            have hne : q.1 ≠ o.1 := fun e => hl (List.mem_map.mpr ⟨q, hq, e⟩)
            simpa using hne
        · simp
      · have hl : i ∈ l.map Prod.fst := (List.mem_cons.mp hi).resolve_left (fun e => ho e.symm)
        rcases hs : slotFor (coreOf d key) k.tag o.1 with _ | s
        · simpa using ih hl
        · simpa [List.find?_cons, ho] using ih hl
  unfold tokAt tokFor
  have hg := hfind (tokOps k.word) h
  have htoks : (argsOf key t k d).toks.find? (·.1 = i) = (slotFor (coreOf d key) k.tag i).map (fun s => (i, s.tok)) := hg
  rw [htoks]
  cases slotFor (coreOf d key) k.tag i <;> rfl

/-! ### What a step of the block does to one core -/

/-- From block a to block b core `key` writes these parts alone, no other core changes, and no time passes. -/
structure CoreStep (ps : List CorePart) (key : Nat) (a b : Dev) : Prop where
  writes : CoreWrites ps (coreOf a key) (coreOf b key)
  other : ∀ j, j ≠ key → coreOf b j = coreOf a j
  now : b.now = a.now

theorem CoreStep.refl (ps : List CorePart) (key : Nat) (a : Dev) : CoreStep ps key a a := ⟨CoreWrites.refl _ _, fun _ _ => rfl, rfl⟩

theorem CoreStep.trans {ps : List CorePart} {key : Nat} {a b c : Dev} (h : CoreStep ps key a b) (g : CoreStep ps key b c) : CoreStep ps key a c :=
  ⟨h.writes.trans g.writes, fun j hj => (g.other j hj).trans (h.other j hj), g.now.trans h.now⟩

theorem CoreStep.foldl {α : Type} {ps : List CorePart} {key : Nat} {f : Dev → α → Dev} (h : ∀ d x, CoreStep ps key d (f d x)) (l : List α) (d : Dev) :
    CoreStep ps key d (l.foldl f d) := by
  induction l generalizing d with
  | nil => exact CoreStep.refl _ _ _
  | cons x l ih => exact (h d x).trans (ih _)

theorem coreStep_of_only {ps : List CorePart} {qs : List Part} {key : Nat} {a b : Dev} (h : ChangesOnly qs a b) (hc : Part.cores ∉ qs) (hn : Part.now ∉ qs) :
    CoreStep ps key a b := by
  have hcore : ∀ j, coreOf b j = coreOf a j := fun j => congrArg (fun l => tget Core.rest l j) (h .cores hc)
  exact ⟨hcore key ▸ CoreWrites.refl _ _, fun j _ => hcore j, h .now hn⟩

theorem coreStep_setCore {ps : List CorePart} {key : Nat} {c : Core} {d : Dev} (h : CoreWrites ps (coreOf d key) c) : CoreStep ps key d (setCore key c d) :=
  ⟨by rwa [coreOf_setCore_same], fun _ hj => coreOf_setCore_ne _ _ (Ne.symm hj), rfl⟩

/-! ### A schedule fault (R166) -/

theorem only_fab (x : Fabric) (d : Dev) : ChangesOnly [.fab] d { d with fab := x } :=
  fun p hp => by cases p <;> first | exact absurd (by decide) hp | rfl

theorem only_schedFrame (row n : Nat) (d : Dev) : ChangesOnly [.fab, .dict, .host, .flt, .frames] d (schedFrame row n d) := by
  unfold schedFrame
  dsimp only
  refine ChangesOnly.then ?_ (only_invalidate _ _) (List.Subset.refl _) (by decide)
  refine ChangesOnly.then ?_ (only_report (by decide) _ _ _) (List.Subset.refl _) (by decide)
  refine ChangesOnly.then ?_ (only_dset _ _ _) (List.Subset.refl _) (by decide)
  split
  · exact ChangesOnly.refl _ _
  · exact (only_fab _ d).then (only_bump _ _) (by decide) (by decide)

theorem seb_schedFrame (row n : Nat) (d : Dev) : SameEntriesBut schedKeys d (schedFrame row n d) := by
  have hreport : reportKeys ⊆ schedKeys := fun _ h => List.mem_cons_of_mem _ (List.mem_cons_of_mem _ h)
  unfold schedFrame
  dsimp only
  refine SameEntriesBut.trans ?_ (seb_invalidate _ _ _)
  refine SameEntriesBut.trans ?_ ((seb_report (by decide) _ _ _).mono hreport)
  refine SameEntriesBut.trans ?_ (seb_dset (List.mem_cons_of_mem _ List.mem_cons_self) _ _)
  split
  · exact seb_refl _ _
  · exact (seb_dict rfl).trans (seb_bump List.mem_cons_self _)

theorem only_schedFault (row n : Nat) (r : Reg) (d : Dev) : ChangesOnly [.fab, .dict, .host, .flt, .frames] d (schedFault row n r d) :=
  (only_bump r d).then (only_schedFrame _ _ _) (by decide) (List.Subset.refl _)

/-- The counter of a schedule fault rises by one. -/
theorem counter_schedFault {r : Reg} (h : r.key ∉ schedKeys) (row n : Nat) (d : Dev) : dget r (schedFault row n r d) = satAdd32 (dget r d) 1 :=
  (seb_schedFrame row n (bump r d) r h).trans (dget_bump_same _ _)

theorem coreStep_schedFault (ps : List CorePart) (key row n : Nat) (r : Reg) (d : Dev) : CoreStep ps key d (schedFault row n r d) :=
  coreStep_of_only (only_schedFault row n r d) (by decide) (by decide)

/-! ### SEND (R132, R145, R152, R159) -/

/-- The core once a token has entered output `out`, where there is room. -/
def emitCore (t : Nat) (tok : Tok) (out : Nat) (c : Core) : Core :=
  if out < 4 then { c with outs := tset [] c.outs out (outOf c out ++ [⟨t + 1 + padOf c (tagCtx tok.tag) out, tok, 4⟩]) }
  else if out = 4 then { c with egress := c.egress ++ [⟨t + 1 + padOf c (tagCtx tok.tag) 4, tok, 0⟩] }
  else { c with queues := tset [] c.queues out (queueOf c out ++ [⟨t + 2, tok, 16⟩]) }

theorem writes_emitCore (t : Nat) (tok : Tok) (out : Nat) (c : Core) : CoreWrites [.outs] c (emitCore t tok out c) := by
  have houts (c' : Core) (h : c' = { c with outs := c'.outs, egress := c'.egress, queues := c'.queues }) : CoreWrites [.outs] c c' := by
    rw [h]
    exact ⟨rfl, rfl, rfl, rfl, rfl, fun p hp => by cases p <;> simp_all [CorePart.same]⟩
  unfold emitCore
  split
  · exact houts _ rfl
  · split
    · exact houts _ rfl
    · exact houts _ rfl

theorem emitTo_room {key t out : Nat} {tok : Tok} {d : Dev} (h : out = 4 → (coreOf d key).egress.length < 2) :
    emitTo key t out tok d = setCore key (emitCore t tok out (coreOf d key)) d := by
  unfold emitTo emitCore
  dsimp only
  split
  · rfl
  · split
    · next he => rw [if_neg (Nat.not_le.mpr (h he))]
    · rfl

theorem emitTo_full {key t : Nat} {tok : Tok} {d : Dev} (h : 2 ≤ (coreOf d key).egress.length) :
    emitTo key t 4 tok d = schedFault 3 (fullFrame ((coreOf d key).lastRing.getD 0) (tagFrame tok.tag)) R.FB_EGRESS_DROPS d := if_pos h

theorem coreStep_emitTo (key t out : Nat) (tok : Tok) (d : Dev) : CoreStep [.outs] key d (emitTo key t out tok d) := by
  by_cases h : out = 4 → (coreOf d key).egress.length < 2
  · rw [emitTo_room h]
    exact coreStep_setCore (writes_emitCore _ _ _ _)
  · obtain ⟨rfl, hfull⟩ := Classical.not_imp.mp h
    rw [emitTo_full (Nat.not_lt.mp hfull)]
    exact coreStep_schedFault _ _ _ _ _ _

/-- DMASK 4 names the egress buffer alone (Table 5.11). -/
theorem emitAll_four (key t : Nat) (tok : Tok) (d : Dev) : emitAll key t 4 tok d = emitTo key t 4 tok d := rfl

theorem coreStep_emitAll (key t dmask : Nat) (tok : Tok) (d : Dev) : CoreStep [.outs] key d (emitAll key t dmask tok d) := by
  refine CoreStep.foldl (fun d out => ?_) _ _
  split
  · exact coreStep_emitTo _ _ _ _ _
  · exact CoreStep.refl _ _ _

/-- The core once a token has entered the outputs of a list that DMASK names, where there is room. -/
def emitCores (t dmask : Nat) (tok : Tok) (l : List Nat) (c : Core) : Core :=
  l.foldl (fun c out => if bit dmask (6 - out) then emitCore t tok out c else c) c

/-- The block has core x in the place of core `key`, and nothing else has changed. -/
def HasCore (key : Nat) (x : Core) (a b : Dev) : Prop := coreOf b key = x ∧ (∀ j, j ≠ key → coreOf b j = coreOf a j) ∧ ChangesOnly [.cores] a b

theorem emits_list {key t dmask : Nat} {tok : Tok} (l : List Nat) (hl : l.Nodup) {d : Dev}
    (h : 4 ∈ l → bit dmask 2 = true → (coreOf d key).egress.length < 2) :
    HasCore key (emitCores t dmask tok l (coreOf d key)) d (l.foldl (fun d out => if bit dmask (6 - out) then emitTo key t out tok d else d) d) := by
  induction l generalizing d with
  | nil => exact ⟨rfl, fun _ _ => rfl, ChangesOnly.refl _ _⟩
  | cons o l ih =>
    obtain ⟨ho, hl⟩ := List.nodup_cons.mp hl
    simp only [emitCores, List.foldl_cons]
    by_cases hb : bit dmask (6 - o) = true
    · rw [if_pos hb, if_pos hb, emitTo_room fun he => by subst he; exact h List.mem_cons_self hb]
      have hroom : 4 ∈ l → bit dmask 2 = true → (coreOf (setCore key (emitCore t tok o (coreOf d key)) d) key).egress.length < 2 := by
        intro h4 h2
        have hne : o ≠ 4 := fun e => ho (e ▸ h4)
        have hegress : (emitCore t tok o (coreOf d key)).egress = (coreOf d key).egress := by
          unfold emitCore
          rw [if_neg hne]
          split <;> rfl
        rw [coreOf_setCore_same, hegress]
        exact h (List.mem_cons_of_mem _ h4) h2
      obtain ⟨hcore, hother, honly⟩ := ih hl hroom
      refine ⟨by rw [hcore, coreOf_setCore_same]; rfl, fun j hj => ?_, (only_setCore _ _ _).trans honly⟩
      rw [hother j hj, coreOf_setCore_ne _ _ (Ne.symm hj)]
    · rw [if_neg hb, if_neg hb]
      exact ih hl fun h4 => h (List.mem_cons_of_mem _ h4)

/-! What each output holds. -/

section Emitted

variable (t : Nat) (tok : Tok) (out : Nat) (c : Core)

@[simp] theorem route_emitCore : (emitCore t tok out c).route = c.route := by
  unfold emitCore; split <;> [rfl; (split <;> rfl)]

theorem outOf_emitCore (o : Nat) : outOf (emitCore t tok out c) o =
    outOf c o ++ if out = o ∧ o < 4 then [⟨t + 1 + padOf c (tagCtx tok.tag) o, tok, 4⟩] else [] := by
  unfold emitCore
  by_cases ho : out < 4
  · rw [if_pos ho]
    refine (tget_tset _ _ _ _ _).trans ?_
    by_cases he : out = o
    · subst he; simp [ho]
    · simp [he, outOf]
  · rw [if_neg ho, if_neg (c := out = o ∧ o < 4) (by omega), List.append_nil]
    split <;> rfl

theorem egress_emitCore : (emitCore t tok out c).egress = c.egress ++ if out = 4 then [⟨t + 1 + padOf c (tagCtx tok.tag) 4, tok, 0⟩] else [] := by
  unfold emitCore
  by_cases ho : out < 4
  · rw [if_pos ho, if_neg (by omega), List.append_nil]
  · rw [if_neg ho]
    split
    · rfl
    · rw [List.append_nil]

theorem queueOf_emitCore (i : Nat) : queueOf (emitCore t tok out c) i = queueOf c i ++ if out = i ∧ 4 < i then [⟨t + 2, tok, 16⟩] else [] := by
  unfold emitCore
  by_cases ho : out < 4
  · rw [if_pos ho, if_neg (by omega), List.append_nil]; rfl
  · by_cases h4 : out = 4
    · rw [if_neg ho, if_pos h4, if_neg (by omega), List.append_nil]; rfl
    · rw [if_neg ho, if_neg h4]
      refine (tget_tset _ _ _ _ _).trans ?_
      by_cases he : out = i
      · subst he
        rw [if_pos rfl, if_pos ⟨rfl, by omega⟩]
      · rw [if_neg he, if_neg (fun h => he h.1), List.append_nil]; rfl

end Emitted

/-- An output that takes entry e when its number comes up has it at the end, when DMASK names it. -/
theorem emitCores_field {t dmask o : Nat} {tok : Tok} {g : Core → List Timed} {e : Timed} (l : List Nat) (hl : l.Nodup) (c : Core)
    (hstep : ∀ out ∈ l, ∀ c', c'.route = c.route → g (emitCore t tok out c') = g c' ++ if out = o then [e] else []) :
    g (emitCores t dmask tok l c) = g c ++ if o ∈ l ∧ bit dmask (6 - o) = true then [e] else [] := by
  induction l generalizing c with
  | nil => simp [emitCores]
  | cons a l ih =>
    obtain ⟨ha, hl⟩ := List.nodup_cons.mp hl
    have hrest := fun c' (hc : c'.route = c.route) =>
      ih hl c' fun out hout c'' hc' => hstep out (List.mem_cons_of_mem _ hout) c'' (hc'.trans hc)
    simp only [emitCores, List.foldl_cons]
    by_cases hb : bit dmask (6 - a) = true
    · rw [if_pos hb]
      refine (hrest _ (route_emitCore _ _ _ _)).trans ?_
      rw [hstep a List.mem_cons_self c rfl]
      by_cases hao : a = o
      · subst hao; simp [ha, hb]
      · simp [hao, Ne.symm hao]
    · rw [if_neg hb]
      refine (hrest c rfl).trans ?_
      by_cases hao : a = o
      · subst hao; simp [ha, hb]
      · simp [Ne.symm hao]

section Send

variable {t dmask : Nat} {tok : Tok} {c : Core}

theorem outOf_emitAll {o : Nat} (h : o < 4) : outOf (emitCores t dmask tok (List.range 7) c) o =
    outOf c o ++ if bit dmask (6 - o) = true then [⟨t + 1 + padOf c (tagCtx tok.tag) o, tok, 4⟩] else [] := by
  refine (emitCores_field (g := fun c => outOf c o) (o := o) (e := ⟨t + 1 + padOf c (tagCtx tok.tag) o, tok, 4⟩) _ List.nodup_range c
    fun out _ c' hc => ?_).trans ?_
  · simp only [outOf_emitCore, padOf, hc, h, and_true]
  · simp [show o < 7 by omega]

theorem egress_emitAll : (emitCores t dmask tok (List.range 7) c).egress =
    c.egress ++ if bit dmask 2 = true then [⟨t + 1 + padOf c (tagCtx tok.tag) 4, tok, 0⟩] else [] := by
  refine (emitCores_field (g := Core.egress) (o := 4) (e := ⟨t + 1 + padOf c (tagCtx tok.tag) 4, tok, 0⟩) _ List.nodup_range c
    fun out _ c' hc => ?_).trans ?_
  · simp only [egress_emitCore, padOf, hc]
  · simp

theorem queueOf_emitAll {i : Nat} (h : i = 5 ∨ i = 6) : queueOf (emitCores t dmask tok (List.range 7) c) i =
    queueOf c i ++ if bit dmask (6 - i) = true then [⟨t + 2, tok, 16⟩] else [] := by
  refine (emitCores_field (g := fun c => queueOf c i) (o := i) (e := ⟨t + 2, tok, 16⟩) _ List.nodup_range c fun out _ c' _ => ?_).trans ?_
  · simp only [queueOf_emitCore, show 4 < i by omega, and_true]
  · simp [show i < 7 by omega]

theorem queueOf_emitAll_other {i : Nat} (h5 : i ≠ 5) (h6 : i ≠ 6) : queueOf (emitCores t dmask tok (List.range 7) c) i = queueOf c i := by
  refine (emitCores_field (g := fun c => queueOf c i) (o := 7) (e := ⟨t + 2, tok, 16⟩) _ List.nodup_range c fun out hout c' _ => ?_).trans ?_
  · have hlt := List.mem_range.mp hout
    rw [queueOf_emitCore, if_neg (by omega), if_neg (by omega)]
  · simp

theorem writes_emitCores (l : List Nat) : CoreWrites [.outs] c (emitCores t dmask tok l c) :=
  CoreWrites.foldl (fun _ _ => CoreWrites.ite (writes_emitCore _ _ _ _) (CoreWrites.refl _ _)) _ _

/-- DMASK is the field of bits 51 to 45 (Table 5.11). -/
theorem bit_dmask (w : Nat) {o : Nat} (h : o < 7) : bit (bits w 51 45) (6 - o) = bit w (51 - o) := by
  have hfield : bits w 51 45 = w / 2 ^ 45 % 2 ^ 7 := rfl
  interval_cases o <;> simp only [hfield, bit, decide_eq_decide] <;> omega

theorem tagCtx_mkTag (f i tag : Nat) : tagCtx (mkTag f i (tagCtx tag)) = tagCtx tag := by
  simp only [tagCtx, mkTag, bits]
  omega

end Send

end Sys2Proof.Machine
end

section
/-! SUPPORT. SEND, RECV, REDUCE, RING and TOKEN_ADMIT (R110, R122, R132 to R135, R151, R159), and what settles O10. -/

namespace Sys2Proof.Machine

/-! ### SEND (R132) -/

theorem applyFx_emit {fx : Fx} {m : Nat} {tok : Tok} (hs : fx.skew = none) (he : fx.emit = some (m, tok)) (hr : fx.ringW = none)
    (key t frame tag : Nat) (d : Dev) : applyFx key t frame tag fx d = emitAll key t m tok (tookFx key fx d) := by
  unfold applyFx
  rw [hs, he, hr]
  rfl

section Send

variable {key t : Nat} {k : Cand} {s : State} {c : Core}

theorem tagCtx_sentTok (k : Cand) (c : Core) : tagCtx (sentTok k c).tag = tagCtx k.tag := tagCtx_mkTag _ _ _

theorem fxSend_issued (hop : opOf k.word = 8) (key t : Nat) (d : Dev) : fxSend (argsOf key t k d) (issued t k (coreOf d key)) =
    { Fx.of (issued t k (coreOf d key)) with emit := some (bits k.word 51 45, sentTok k (coreOf d key)) } := by
  have htok : bit k.word 29 = true → tokAt (argsOf key t k d) (bits k.word 28 26) = tokFor (coreOf d key) k (bits k.word 28 26) := fun hb =>
    tokAt_argsOf (by simp [tokOps, hop, hb]) key t d
  unfold fxSend sentTok
  dsimp only
  rw [argsOf_w, argsOf_tag, argsOf_bad, Bool.or_false]
  by_cases hb : bit k.word 29 = true
  · rw [htok hb, if_pos hb, if_pos hb, if_pos hb, if_pos hb]
  · simp [hb, codes, List.map_map, Function.comp_def, List.any_map]

/-- A SEND has handed its token to the block. -/
theorem completes_emit (h : Issues (isOp 0x08) key t k s.dev) {P : Dev → Prop}
    (hP : P (emitAll key t (bits k.word 51 45) (sentTok k (coreOf s.dev key)) (setCore key (issued t k (coreOf s.dev key)) (advTo t s.dev)))) :
    Completes (exec (.send key []) s) s P := by
  refine completes_op h ?_
  rw [fxSend_issued (opOf_isOp (sel_of_issues h)), applyFx_emit rfl rfl rfl]
  have htook : tookFx key { Fx.of (issued t k (coreOf s.dev key)) with
      emit := some (bits k.word 51 45, sentTok k (coreOf s.dev key)) } (advTo t s.dev) =
      setCore key (issued t k (coreOf s.dev key)) (advTo t s.dev) := tookFx_of key (issued t k (coreOf s.dev key)) (advTo t s.dev)
  rw [htook]
  exact hP

theorem issued_outs (t : Nat) (k : Cand) (c : Core) : CorePart.same .outs c (issued t k c) := issued_same t k c (by simp) (by simp)

theorem completes_send (h : Issues (isOp 0x08) key t k s.dev) (hc : c = coreOf s.dev key) (hroom : bit k.word 47 = true → c.egress.length < 2) :
    Completes (exec (.send key []) s) s fun d =>
      (∀ o, o < 4 → outOf (coreOf d key) o =
        outOf c o ++ (if bit k.word (51 - o) then [⟨t + 1 + padOf c (tagCtx k.tag) o, sentTok k c, 4⟩] else [])) ∧
      (coreOf d key).egress = c.egress ++ (if bit k.word 47 then [⟨t + 1 + padOf c (tagCtx k.tag) 4, sentTok k c, 0⟩] else []) ∧
      queueOf (coreOf d key) 5 = queueOf c 5 ++ (if bit k.word 46 then [⟨t + 2, sentTok k c, 16⟩] else []) ∧
      queueOf (coreOf d key) 6 = queueOf c 6 ++ (if bit k.word 45 then [⟨t + 2, sentTok k c, 16⟩] else []) ∧
      (∀ i, i ≠ 5 → i ≠ 6 → queueOf (coreOf d key) i = queueOf c i) ∧
      OpDone [.outs] [] [] key t k s.dev d := by
  subst hc
  have hop := opOf_isOp (sel_of_issues h)
  obtain ⟨houts, hegress, hqueues, -⟩ := issued_outs t k (coreOf s.dev key)
  obtain ⟨-, -, -, -, -, -, hroute, -⟩ := issued_mems t k (coreOf s.dev key)
  have hemit := emits_list (key := key) (t := t) (dmask := bits k.word 51 45) (tok := sentTok k (coreOf s.dev key)) (List.range 7) List.nodup_range
    (d := setCore key (issued t k (coreOf s.dev key)) (advTo t s.dev)) fun _ hb => by
      rw [coreOf_setCore_same, hegress]
      exact hroom ((bit_dmask k.word (o := 4) (by decide)).symm.trans hb)
  rw [coreOf_setCore_same] at hemit
  obtain ⟨hcore, hother, honly⟩ := hemit
  refine completes_emit h ?_
  refine ⟨fun o ho => ?_, ?_, ?_, ?_, fun i h5 h6 => ?_, opDone_of_writes ?_ ?_ (honly .now (by decide)) (fun j hj => ?_) (seb_dict ?_) ?_⟩
  · rw [emitAll, hcore, outOf_emitAll ho, bit_dmask _ (by omega), tagCtx_sentTok, padOf, hroute, outOf, houts]
    rfl
  · rw [emitAll, hcore, egress_emitAll, bit_dmask _ (o := 4) (by decide), tagCtx_sentTok, padOf, hroute, hegress]
    rfl
  · rw [emitAll, hcore, queueOf_emitAll (.inl rfl), bit_dmask _ (o := 5) (by decide), queueOf, hqueues]
    rfl
  · rw [emitAll, hcore, queueOf_emitAll (.inr rfl), bit_dmask _ (o := 6) (by decide), queueOf, hqueues]
    rfl
  · rw [emitAll, hcore, queueOf_emitAll_other h5 h6, queueOf, hqueues]
    rfl
  · rw [emitAll, hcore]
    exact writes_emitCores _
  · simp [unlocked_of_op hop]
  · rw [emitAll, hother j hj, coreOf_setCore_ne _ _ (Ne.symm hj), coreOf_advTo]
  · exact (honly .dict (by decide)).trans rfl
  · exact ((only_advTo t s.dev).then (only_setCore _ _ _) (by decide) (by decide)).then honly (List.Subset.refl _) (by decide)

theorem completes_send_full (h : Issues (isOp 0x08) key t k s.dev) (hmask : bits k.word 51 45 = 4) (hfull : 2 ≤ (coreOf s.dev key).egress.length) :
    Completes (exec (.send key []) s) s fun d =>
      dget R.FB_EGRESS_DROPS d = satAdd32 (dget R.FB_EGRESS_DROPS s.dev) 1 ∧ CorePart.same .outs (coreOf s.dev key) (coreOf d key) := by
  obtain ⟨-, hegress, -⟩ := issued_outs t k (coreOf s.dev key)
  refine completes_emit h ?_
  rw [hmask, emitAll_four, emitTo_full (by rwa [coreOf_setCore_same, hegress])]
  refine ⟨(counter_schedFault (by decide) 3 _ _).trans rfl, ?_⟩
  have hwrites : ∀ n, CoreWrites [] (issued t k (coreOf s.dev key))
      (coreOf (schedFault 3 n R.FB_EGRESS_DROPS (setCore key (issued t k (coreOf s.dev key)) (advTo t s.dev))) key) := fun n => by
    have hstep := (coreStep_schedFault [] key 3 n R.FB_EGRESS_DROPS (setCore key (issued t k (coreOf s.dev key)) (advTo t s.dev))).writes
    rwa [coreOf_setCore_same] at hstep
  exact CorePart.same_trans (issued_outs t k (coreOf s.dev key)) ((hwrites _).same .outs List.not_mem_nil)

end Send

/-! ### RECV and REDUCE (R133, R134) -/

section Receive

variable {key t : Nat} {k : Cand} {s : State} {c : Core}

theorem completes_recv (h : Runs (isOp 0x09) key t k s.dev) (hc : c = coreOf s.dev key) :
    Completes (exec (.recv key []) s) s fun d =>
      (bit k.word 42 = true →
        (∀ i, accOf (coreOf d key) i = if i = bits k.word 47 43 then
          ⟨w40 (tokFor c k (bits k.word 51 49)).payload, (tokFor c k (bits k.word 51 49)).poison || (accOf c i).poison⟩ else accOf c i) ∧
        OpDone [.acc] [] [] key t k s.dev d) ∧
      (bit k.word 42 = false →
        ArRun key (bits k.word 47 43) 4 (fun j => ⟨v4 (tokFor c k (bits k.word 51 49)).payload j, (tokFor c k (bits k.word 51 49)).poison⟩) s.dev d ∧
        OpDone [.ar] [] [] key t k s.dev d) := by
  subst hc
  have hop := opOf_isOp (sel_of_issues h.1)
  have htok : tokAt (argsOf key t k s.dev) (bits k.word 51 49) = tokFor (coreOf s.dev key) k (bits k.word 51 49) :=
    tokAt_argsOf (by simp [tokOps, hop]) key t s.dev
  cases hb : bit k.word 42
  · have hrun : guarded fxRecv (argsOf key t k s.dev) (issued t k (coreOf s.dev key)) =
        Fx.of (putRun (argsOf key t k s.dev).land (bits k.word 47 43) 4 (fun j => ⟨v4 (tokAt (argsOf key t k s.dev) (bits k.word 51 49)).payload j,
          (tokAt (argsOf key t k s.dev) (bits k.word 51 49)).poison || false⟩) (issued t k (coreOf s.dev key))) :=
      (guarded_runs h _).trans (if_neg (by simp [hb]))
    obtain ⟨d, hd, hdone⟩ := completes_arRun h.1 (unlocked_of_op hop (by omega)) hrun (fun j _ => rfl)
    simp only [htok, Bool.or_false] at hdone
    exact ⟨d, hd, fun hf => absurd hf (by simp), fun _ => hdone⟩
  · have hrun : guarded fxRecv (argsOf key t k s.dev) (issued t k (coreOf s.dev key)) =
        Fx.of (putAcc (argsOf key t k s.dev).land (bits k.word 47 43) (w40 (tokAt (argsOf key t k s.dev) (bits k.word 51 49)).payload)
          ((tokAt (argsOf key t k s.dev) (bits k.word 51 49)).poison || false || (accOf (issued t k (coreOf s.dev key)) (bits k.word 47 43)).poison)
          (issued t k (coreOf s.dev key))) :=
      (guarded_runs h _).trans (if_pos hb)
    refine completes_quiet h.1 hrun ⟨fun _ => ⟨fun i => ?_, opDone_setCore (writes_putAcc _ _ _ _ _) (by simp [unlocked_of_op hop])⟩,
      fun hf => absurd hf (by simp)⟩
    rw [coreOf_setCore_same, accOf_putAcc, htok]
    by_cases hi : i = bits k.word 47 43
    · subst hi; simp
    · simp [hi, Ne.symm hi]

/-- An operation that hands the block saturations of accumulators alone. -/
theorem completes_accSat {sel : Nat → Bool} (h : Issues sel key t k s.dev) {f : IssueArgs → Core → Fx} {core : Core} {n : Nat} {P : Dev → Prop}
    (hf : f (argsOf key t k s.dev) (issued t k (coreOf s.dev key)) = { Fx.of core with accSat := n })
    (hP : P (tookFx key { Fx.of core with accSat := n } (advTo t s.dev))) : Completes (opCmd sel f key [] s) s P :=
  completes_op h (by rw [hf, applyFx_plain rfl rfl rfl]; exact hP)

theorem only_accSat {fx : Fx} (hu : fx.undef = false) (hd : fx.drawn = 0) (hc : fx.clips = []) (key t : Nat) (d : Dev) :
    ChangesOnly [.now, .time, .cores, .dict] d (tookFx key fx (advTo t d)) := by
  have henc : (tookFx key fx (advTo t d)).enc = d.enc := by rw [tookFx_enc, hc, List.append_nil]; rfl
  exact ((only_issueFx_tame hu hd key t d).mono (qs := [.enc, .now, .time, .cores, .dict]) (by decide)).drop henc

theorem completes_reduce (h : Runs (isOp 0x0A) key t k s.dev) (hc : c = coreOf s.dev key) :
    Completes (exec (.reduce key []) s) s fun d =>
      (bits k.word 43 42 = 0 →
        (∀ i, accOf (coreOf d key) i = if i = bits k.word 40 36 then (reduceAdd40 k c).1 else accOf c i) ∧
        Rose R.ACC_SAT (reduceAdd40 k c).2 s.dev d ∧ OpDone [.acc] [.dict] [R.ACC_SAT.key] key t k s.dev d) ∧
      (bits k.word 43 42 ≠ 0 → ArRun key (bits k.word 40 36) 4 (reduceV4 k c) s.dev d ∧ OpDone [.ar] [] [] key t k s.dev d) := by
  subst hc
  have hop := opOf_isOp (sel_of_issues h.1)
  have hleft : tokAt (argsOf key t k s.dev) (bits k.word 51 49) = tokFor (coreOf s.dev key) k (bits k.word 51 49) :=
    tokAt_argsOf (by simp [tokOps, hop]) key t s.dev
  have hright : bits k.word 47 45 ≠ 7 → tokAt (argsOf key t k s.dev) (bits k.word 47 45) = tokFor (coreOf s.dev key) k (bits k.word 47 45) :=
    fun hr => tokAt_argsOf (by simp [tokOps, hop, hr]) key t s.dev
  by_cases hfn : bits k.word 43 42 = 0
  · have hrun : guarded fxReduce (argsOf key t k s.dev) (issued t k (coreOf s.dev key)) =
        { Fx.of (putAcc (argsOf key t k s.dev).land (bits k.word 40 36) (reduceAdd40 k (coreOf s.dev key)).1.v
          (reduceAdd40 k (coreOf s.dev key)).1.poison (issued t k (coreOf s.dev key))) with accSat := (reduceAdd40 k (coreOf s.dev key)).2 } := by
      refine (guarded_runs h _).trans ?_
      unfold fxReduce reduceAdd40
      dsimp only
      rw [argsOf_w, argsOf_bad, if_pos hfn, hleft]
      by_cases hr : bits k.word 47 45 = 7
      · simp [hr]
      · simp [hr, hright hr]
    refine completes_accSat h.1 hrun ⟨fun _ => ⟨fun i => ?_, accSat_tookFx key _ (advTo t s.dev), ?_⟩, fun hne => absurd hfn hne⟩
    · rw [tookFx_core]
      refine (accOf_putAcc _ _ _ _ _ _).trans ?_
      rw [accOf_issued]
      exact if_congr eq_comm rfl rfl
    · exact opDone_tookFx (writes_putAcc _ _ _ _ _) (by simp [unlocked_of_op hop]) (.inr List.mem_cons_self) (.inl rfl)
        (only_accSat rfl rfl rfl key t s.dev)
  · have hrun : guarded fxReduce (argsOf key t k s.dev) (issued t k (coreOf s.dev key)) =
        Fx.of (putRun (argsOf key t k s.dev).land (bits k.word 40 36) 4 (reduceV4 k (coreOf s.dev key)) (issued t k (coreOf s.dev key))) := by
      refine (guarded_runs h _).trans ?_
      unfold fxReduce reduceV4 putRun
      dsimp only
      rw [argsOf_w, argsOf_bad, if_neg hfn, hleft]
      by_cases hr : bits k.word 47 45 = 7
      · simp [hr, arRunPoison]
      · simp [hr, hright hr, arRunPoison]
    obtain ⟨d, hd, hdone⟩ := completes_arRun h.1 (unlocked_of_op hop (by omega)) hrun (fun j _ => rfl)
    exact ⟨d, hd, fun he => absurd he hfn, fun _ => hdone⟩

/-! ### RING (R135) -/

theorem completes_ring {rs : List PReg} (h : Issues (isOp 0x11) key t k s.dev)
    (hrs : rs = (List.range 4).map (fun j => arOf (coreOf s.dev key) (bits k.word 49 45 + j))) :
    Completes (exec (.ring key []) s) s fun d =>
      d.fab = { s.dev.fab with rwrites := s.dev.fab.rwrites ++ [⟨t + 8, k.tag, bits k.word 51 50, mkV4 (rs.map PReg.v), rs.any PReg.poison⟩] } ∧
      OpDone [] [.fab] [] key t k s.dev d := by
  have hop := opOf_isOp (sel_of_issues h)
  have hrun : fxRing (argsOf key t k s.dev) (issued t k (coreOf s.dev key)) =
      { Fx.of (issued t k (coreOf s.dev key)) with ringW := some (bits k.word 51 50, mkV4 (rs.map PReg.v), rs.any PReg.poison) } := by
    subst hrs
    simp [fxRing, codes, List.map_map, Function.comp_def, List.any_map]
  have happly : applyFx key t (argsOf key t k s.dev).frame k.tag
      { Fx.of (issued t k (coreOf s.dev key)) with ringW := some (bits k.word 51 50, mkV4 (rs.map PReg.v), rs.any PReg.poison) } (advTo t s.dev) =
      { setCore key (issued t k (coreOf s.dev key)) (advTo t s.dev) with fab := { s.dev.fab with
        rwrites := s.dev.fab.rwrites ++ [⟨t + 8, k.tag, bits k.word 51 50, mkV4 (rs.map PReg.v), rs.any PReg.poison⟩] } } := by
    rw [← tookFx_of]
    rfl
  refine completes_op h ?_
  rw [hrun, happly]
  refine ⟨rfl, opDone_of_writes ?_ (by simp [unlocked_of_op hop]) rfl (fun j hj => ?_) (seb_dict rfl) ?_⟩
  · exact (coreOf_setCore_same key (issued t k (coreOf s.dev key)) (advTo t s.dev)).symm ▸ CoreWrites.refl _ _
  · exact (coreOf_setCore_ne _ (advTo t s.dev) (Ne.symm hj)).trans (coreOf_advTo _ _ _)
  · exact ((only_advTo t s.dev).then (rs := [.now, .time, .cores]) (only_setCore _ _ _) (by decide) (by decide)).then (only_fab _ _) (by decide)
      (by decide)

end Receive

end Sys2Proof.Machine
end

section
/-! SUPPORT. Token admission (R110), and what settles O10. -/

namespace Sys2Proof.Machine

/-! ### What an admission leaves of a core -/

/-- What a token admission leaves of a core. -/
def admitParts : List CorePart := [.ar, .acc, .pred, .sreg, .mac, .zero, .skew]

/-- From block a to block b core `key` keeps its state and the ac of its last admission, so do all other cores, and no time passes. -/
structure AdmitStep (key : Nat) (a b : Dev) : Prop where
  parts : ∀ p ∈ admitParts, p.same (coreOf a key) (coreOf b key)
  lastAdmit : (coreOf b key).lastAdmit = (coreOf a key).lastAdmit
  other : ∀ j, j ≠ key → coreOf b j = coreOf a j
  now : b.now = a.now

theorem AdmitStep.refl (key : Nat) (a : Dev) : AdmitStep key a a := ⟨fun p _ => CorePart.same_refl p _, rfl, fun _ _ => rfl, rfl⟩

theorem AdmitStep.trans {key : Nat} {a b c : Dev} (h : AdmitStep key a b) (g : AdmitStep key b c) : AdmitStep key a c :=
  ⟨fun p hp => CorePart.same_trans (h.parts p hp) (g.parts p hp), g.lastAdmit.trans h.lastAdmit, fun j hj => (g.other j hj).trans (h.other j hj),
    g.now.trans h.now⟩

theorem admitStep_setCore {key : Nat} {c : Core} {d : Dev} (hp : ∀ p ∈ admitParts, p.same (coreOf d key) c)
    (hl : c.lastAdmit = (coreOf d key).lastAdmit) : AdmitStep key d (setCore key c d) :=
  ⟨by rwa [coreOf_setCore_same], by rwa [coreOf_setCore_same], fun _ hj => coreOf_setCore_ne _ _ (Ne.symm hj), rfl⟩

/-- A core whose queues, slots and round-robin place alone change keeps what an admission leaves. -/
theorem admitStep_queues {key : Nat} {c : Core} {d : Dev} (h : c = { coreOf d key with
    queues := c.queues, rr := c.rr, slots := c.slots, maxSlots := c.maxSlots, maxQueue := c.maxQueue }) : AdmitStep key d (setCore key c d) := by
  refine admitStep_setCore (fun p hp => ?_) (by rw [h])
  rw [h]
  cases p <;> first | exact absurd hp (by decide) | simp [CorePart.same]

theorem admitStep_schedFault (key row n : Nat) (r : Reg) (d : Dev) : AdmitStep key d (schedFault row n r d) := by
  obtain ⟨hwrites, hother, hnow⟩ := coreStep_schedFault [] key row n r d
  obtain ⟨-, -, -, -, -, -, -, -, -, -, -, -, -, -, hlast, -⟩ := hwrites.same .mems List.not_mem_nil
  exact ⟨fun p _ => hwrites.same p List.not_mem_nil, hlast, hother, hnow⟩

theorem admitStep_landSlot (key t i : Nat) (d : Dev) : AdmitStep key d (landSlot key t i d) := by
  unfold landSlot
  dsimp only
  split
  · exact AdmitStep.refl _ _
  · split
    · exact (admitStep_queues (by rfl)).trans (admitStep_schedFault _ _ _ _ _)
    · exact admitStep_queues (by rfl)

theorem AdmitStep.foldl {α : Type} {key : Nat} {f : Dev → α → Dev} (h : ∀ d x, AdmitStep key d (f d x)) (l : List α) (d : Dev) :
    AdmitStep key d (l.foldl f d) := by
  induction l generalizing d with
  | nil => exact AdmitStep.refl _ _
  | cons x l ih => exact (h d x).trans (ih _)

theorem admitStep_landSlots (key t : Nat) (d : Dev) : AdmitStep key d (landSlots key t d) :=
  AdmitStep.foldl (fun _ i => AdmitStep.foldl (fun _ _ => admitStep_landSlot key t i _) _ _) _ _

theorem admitStep_admitOne (key t : Nat) (d : Dev) : AdmitStep key d (admitOne key t d) := by
  unfold admitOne
  dsimp only
  split
  · exact AdmitStep.refl _ _
  · split
    · exact AdmitStep.refl _ _
    · split
      · exact (admitStep_queues (by rfl)).trans (admitStep_schedFault _ _ _ _ _)
      · exact admitStep_queues (by rfl)

/-! ### The admission (R110) -/

/-- The core as an admission in ac t finds it. -/
def admitting (t : Nat) (c : Core) : Core := { settle t (wdSettle t c) with lastAdmit := some t }

theorem tokenAdmit_some {key t : Nat} {d : Dev} (h : admitAt (coreOf d key) d.now = some t) : tokenAdmit key d =
    admitOne key t (admitOne key t (modCore key (admitting t) (landSlots key t (advTo t d)))) := by
  unfold tokenAdmit
  rw [h]
  rfl

theorem admitting_parts (t : Nat) (c : Core) : ∀ p ∈ admitParts, p.same c (admitting t c) := fun p hp => by
  cases p <;> first | exact absurd hp (by decide) | simp [CorePart.same, admitting, settle, wdSettle]

section Admit

variable {key t : Nat} {s : State}

theorem exec_tokenAdmit (hkey : coreKey key = true) (hon : coresOn s.dev = true) (hr : coreRuns s.dev key = true) :
    exec (.tokenAdmit key) s = .next { s with dev := tokenAdmit key s.dev } := by
  refine (run_ok hkey).trans ?_
  rw [hon, hr]
  rfl

theorem completes_tokenAdmit (hkey : coreKey key = true) (hon : coresOn s.dev = true) (hr : coreRuns s.dev key = true)
    (ht : admitAt (coreOf s.dev key) s.dev.now = some t) :
    Completes (exec (.tokenAdmit key) s) s fun d =>
      d.now = max t s.dev.now ∧ (coreOf d key).lastAdmit = some t ∧ (∀ p ∈ admitParts, p.same (coreOf s.dev key) (coreOf d key)) ∧
      (∀ j, j ≠ key → coreOf d j = coreOf s.dev j) := by
  refine ⟨_, exec_tokenAdmit hkey hon hr, ?_⟩
  rw [tokenAdmit_some ht]
  have hland := admitStep_landSlots key t (advTo t s.dev)
  generalize landSlots key t (advTo t s.dev) = d1 at hland
  have hmoves := (admitStep_admitOne key t (modCore key (admitting t) d1)).trans (admitStep_admitOne key t _)
  generalize admitOne key t (admitOne key t (modCore key (admitting t) d1)) = d at hmoves
  obtain ⟨lparts, -, lother, lnow⟩ := hland
  obtain ⟨mparts, mlast, mother, mnow⟩ := hmoves
  rw [coreOf_modCore_same] at mparts mlast
  refine ⟨mnow.trans lnow, mlast, fun p hp => ?_, fun j hj => ?_⟩
  · have h1 := lparts p hp
    rw [coreOf_advTo] at h1
    exact CorePart.same_trans h1 (CorePart.same_trans (admitting_parts t _ p hp) (mparts p hp))
  · rw [mother j hj, coreOf_modCore_ne _ _ (Ne.symm hj), lother j hj, coreOf_advTo]

theorem tokenAdmit_empty (hkey : coreKey key = true) (hq : (coreOf s.dev key).queues = []) : exec (.tokenAdmit key) s = .next s := by
  have hnone : tokenAdmit key s.dev = s.dev := by
    unfold tokenAdmit
    rw [admitAt, hq]
    rfl
  refine (run_ok hkey).trans ?_
  rw [hnone, ite_self]

end Admit

/-! ### A core with one token -/

/-- A queue's head can move in ac t. -/
def canAdmit (t : Nat) (c : Core) (i : Nat) : Bool :=
  match queueOf c i with
  | h :: _ => decide (h.due < t) && ((headFor c (tagCtx h.tok.tag) i).isNone || decide (c.slots.length < 8))
  | [] => false

/-- The inputs in the round-robin order of the next move. -/
def admitOrder (c : Core) : List Nat := (List.range 7).map (fun k => (c.rr + 1 + k) % 7)

theorem mem_admitOrder {c : Core} {i : Nat} (hi : i < 7) (hr : c.rr < 7) : i ∈ admitOrder c :=
  List.mem_map.mpr ⟨(i + 6 - c.rr) % 7, List.mem_range.mpr (Nat.mod_lt _ (by decide)), by omega⟩

theorem admitOne_none {key t : Nat} {d : Dev} (h : (admitOrder (coreOf d key)).find? (canAdmit t (coreOf d key)) = none) : admitOne key t d = d := by
  unfold admitOne
  dsimp only
  split
  · rfl
  · next i hi => exact absurd (hi.symm.trans h) (by simp)

/-- The core once token x has moved from the head of queue i, which leaves q, into a slot. -/
def movedHead (t i : Nat) (x : Timed) (q : List Timed) (c : Core) : Core :=
  { c with
    queues := tset [] c.queues i q
    rr := i
    slots := c.slots ++ [⟨x.tok, i, t⟩]
    maxSlots := max c.maxSlots (c.slots.length + 1) }

theorem admitOne_moves {key t i : Nat} {x : Timed} {q : List Timed} {d : Dev}
    (h : (admitOrder (coreOf d key)).find? (canAdmit t (coreOf d key)) = some i) (hq : queueOf (coreOf d key) i = x :: q)
    (hhead : (headFor (coreOf d key) (tagCtx x.tok.tag) i).isNone = false) : admitOne key t d =
      setCore key (movedHead t i x q (coreOf d key)) d := by
  unfold admitOne
  dsimp only
  split
  · next hnone => exact absurd (h.symm.trans hnone) (by simp)
  · next j hj =>
    obtain rfl : i = j := Option.some.inj (h.symm.trans hj)
    rw [hq]
    dsimp only
    refine (if_neg fun hnone => Bool.false_ne_true (hhead.symm.trans hnone)).trans ?_
    have htail : (queueOf (coreOf d key) i).tail = q := by rw [hq]; rfl
    have hlen : ((coreOf d key).slots ++ [(⟨x.tok, i, t⟩ : Slot)]).length = (coreOf d key).slots.length + 1 := by simp
    rw [movedHead, ← htail, ← hlen]
    rfl

/-- No head can move from empty queues. -/
theorem find_admit_none {t : Nat} {c : Core} (h : ∀ i, queueOf c i = []) : (admitOrder c).find? (canAdmit t c) = none :=
  List.find?_eq_none.mpr fun i _ => by simp [canAdmit, h i]

/-- The one token that can move is found, wherever the round robin stands. -/
theorem find_admit_some {t i : Nat} {c : Core} (hi : i < 7) (hr : c.rr < 7) (hcan : canAdmit t c i = true) (h : ∀ j, j ≠ i → queueOf c j = []) :
    (admitOrder c).find? (canAdmit t c) = some i := by
  rcases hf : (admitOrder c).find? (canAdmit t c) with _ | j
  · exact absurd hcan (List.find?_eq_none.mp hf i (mem_admitOrder hi hr))
  · by_cases hj : j = i
    · rw [hj]
    · have hmoves := List.find?_some hf
      simp [canAdmit, h j hj] at hmoves

theorem landSlots_arrived {key t : Nat} {d : Dev} (h : ∀ i, ∀ x ∈ queueOf (coreOf d key) i, x.pr < 16) : landSlots key t d = d := by
  have hnone : ∀ i, (queueOf (coreOf d key) i).filter (fun x => decide (16 ≤ x.pr ∧ x.due ≤ t)) = [] := fun i =>
    List.filter_eq_nil_iff.mpr fun x hx => by
      have := h i x hx
      simp; omega
  simp only [landSlots, List.foldl_cons, List.foldl_nil, hnone]

theorem completes_admitSingle {key i h : Nat} {x : Timed} {c : Core} {s : State} (hkey : coreKey key = true) (hon : coresOn s.dev = true)
    (hr : coreRuns s.dev key = true) (hc : c = coreOf s.dev key) (hq : c.queues = [(i, [x])]) (hi : i < 7) (hpr : x.pr < 16) (hrr : c.rr < 7)
    (hslots : c.slots.length < 8) (hhead : headFor c (tagCtx x.tok.tag) i = some h) :
    Completes (exec (.tokenAdmit key) s) s fun d =>
      ∃ t, t = max (x.due + 1) (max s.dev.now (match c.lastAdmit with | some a => a + 1 | none => 0)) ∧ d.now = t ∧
      (coreOf d key).slots = c.slots ++ [⟨x.tok, i, t⟩] ∧ queueOf (coreOf d key) i = [] ∧ (coreOf d key).rr = i ∧
      (coreOf d key).lastAdmit = some t ∧ (coreOf d key).maxSlots = max c.maxSlots (c.slots.length + 1) ∧
      (∀ p ∈ [CorePart.ar, .acc, .pred, .sreg, .mac, .zero, .skew], p.same c (coreOf d key)) ∧ (∀ j, j ≠ key → coreOf d j = coreOf s.dev j) ∧
      SameEntriesBut [] s.dev d ∧ ChangesOnly [.now, .time, .cores] s.dev d := by
  have hqueue : queueOf c i = [x] := by rw [queueOf, hq]; simp [tget]
  have hempty : ∀ j, j ≠ i → queueOf c j = [] := fun j hj => by rw [queueOf, hq]; simp [tget, Ne.symm hj]
  have hat : admitAt c s.dev.now = some (max (x.due + 1) (max s.dev.now (match c.lastAdmit with | some a => a + 1 | none => 0))) := by
    rw [admitAt, hq]
    rfl
  obtain ⟨t, ht⟩ : ∃ t, t = max (x.due + 1) (max s.dev.now (match c.lastAdmit with | some a => a + 1 | none => 0)) := ⟨_, rfl⟩
  rw [← ht] at hat
  have hnow : s.dev.now ≤ t := by omega
  have hdue : x.due < t := by omega
  have hland : landSlots key t (advTo t s.dev) = advTo t s.dev := landSlots_arrived fun j y hy => by
    rw [coreOf_advTo, ← hc] at hy
    by_cases hj : j = i
    · rw [hj, hqueue, List.mem_singleton] at hy
      rwa [hy]
    · rw [hempty j hj] at hy
      exact absurd hy List.not_mem_nil
  have hcan : canAdmit t (admitting t c) i = true := by
    have hq' : queueOf (admitting t c) i = [x] := hqueue
    have hs' : (admitting t c).slots.length < 8 := hslots
    simp [canAdmit, hq', hs', hdue]
  have hset : modCore key (admitting t) (advTo t s.dev) = setCore key (admitting t c) (advTo t s.dev) := by
    rw [hc, ← coreOf_advTo key t s.dev]
    rfl
  have hcore : coreOf (setCore key (admitting t c) (advTo t s.dev)) key = admitting t c := coreOf_setCore_same _ _ _
  have hfirst := admitOne_moves (key := key) (t := t) (d := setCore key (admitting t c) (advTo t s.dev))
    (by rw [hcore]; exact find_admit_some hi hrr hcan hempty) (by rw [hcore]; exact hqueue)
    (by rw [hcore]; exact (congrArg Option.isNone hhead).trans rfl)
  rw [hcore] at hfirst
  have hmoved : coreOf (setCore key (movedHead t i x [] (admitting t c)) (setCore key (admitting t c) (advTo t s.dev))) key =
      movedHead t i x [] (admitting t c) := coreOf_setCore_same _ _ _
  have hgone : ∀ j, queueOf (movedHead t i x [] (admitting t c)) j = [] := fun j => by
    refine (tget_tset [] c.queues i j []).trans ?_
    split
    · rfl
    · next hj => exact hempty j (Ne.symm hj)
  have hsecond := admitOne_none (key := key) (t := t)
    (d := setCore key (movedHead t i x [] (admitting t c)) (setCore key (admitting t c) (advTo t s.dev)))
    (by rw [hmoved]; exact find_admit_none hgone)
  refine ⟨_, exec_tokenAdmit hkey hon hr, t, ht, ?_⟩
  rw [tokenAdmit_some (hc ▸ hat), hland, hset, hfirst, hsecond]
  refine ⟨max_eq_left hnow, ?_, ?_, ?_, ?_, ?_, fun p hp => ?_, fun j hj => ?_, seb_dict rfl, ?_⟩
  · rw [hmoved]; rfl
  · rw [hmoved, hgone]
  · rw [hmoved]; rfl
  · rw [hmoved]; rfl
  · rw [hmoved]; rfl
  · rw [hmoved]
    refine CorePart.same_trans (admitting_parts t c p hp) ?_
    cases p <;> first | exact absurd hp (by decide) | simp [CorePart.same, movedHead]
  · rw [coreOf_setCore_ne _ _ (Ne.symm hj), coreOf_setCore_ne _ _ (Ne.symm hj), coreOf_advTo]
  · exact ((only_advTo t s.dev).then (only_setCore _ _ _) (by decide) (by decide)).then (only_setCore _ _ _) (List.Subset.refl _) (by decide)

/-- Settles O10: each token operation writes its outputs or its run, and an admission moves a queue's head into a slot. -/
theorem tokensInAndOut : Obligations.TokensInAndOut :=
  ⟨fun _ _ _ _ _ => completes_send, fun _ _ _ _ => completes_send_full, fun _ _ _ _ _ => completes_recv, fun _ _ _ _ _ => completes_reduce,
    fun _ _ _ _ _ => completes_ring, fun _ _ _ _ _ _ => completes_admitSingle, fun _ _ _ => completes_tokenAdmit, fun _ _ => tokenAdmit_empty⟩

end Sys2Proof.Machine
end

section
/-! SUPPORT. LUTMAC, OMAC and ZCORR (R114, R124 to R127, R170, R176). -/

namespace Sys2Proof.Machine

/-! ### Runs of values -/

theorem tget_tsetRun {α : Type} [DecidableEq α] (d : α) (l : List α) (t : Tab α) (a i : Nat) :
    tget d (tsetRun d t a l) i = if a ≤ i ∧ i < a + l.length then l.getD (i - a) d else tget d t i := by
  induction l generalizing t a with
  | nil => rw [if_neg (by simp)]; rfl
  | cons v l ih =>
    rw [tsetRun, ih, tget_tset]
    simp only [List.length_cons]
    by_cases hi : a = i
    · subst hi
      rw [if_neg (by omega), if_pos rfl, if_pos (by omega), Nat.sub_self]
      rfl
    · by_cases hr : a + 1 ≤ i ∧ i < a + 1 + l.length
      · have hs : i - a = (i - (a + 1)) + 1 := by omega
        rw [if_pos hr, if_pos (by omega), hs]
        rfl
      · rw [if_neg hr, if_neg hi, if_neg (by omega)]

theorem tget_tsetRun_range (d : Int) (f : Nat → Int) (t : Tab Int) {n i : Nat} (h : i < n) : tget d (tsetRun d t 0 ((List.range n).map f)) i = f i := by
  rw [tget_tsetRun, if_pos (by simp [h])]
  simp [h]

theorem foldl_add_sum {α : Type} (f : α → Int) (l : List α) (b : Int) : l.foldl (fun s a => s + f a) b = b + (l.map f).sum := by
  induction l generalizing b with
  | nil => simp
  | cons a l ih => rw [List.foldl_cons, ih, List.map_cons, List.sum_cons, add_assoc]

/-! ### The outlier lanes (R126, R176) -/

theorem macAct_of_ar {a b : Core} (h : b.ar = a.ar) (x : IssueArgs) (e : Nat) : macAct x b e = macAct x a e := by simp only [macAct, arOf, h]

theorem outlierPoison_of {a b : Core} (har : b.ar = a.ar) (hacc : b.acc = a.acc) (x : IssueArgs) : outlierPoison x b = outlierPoison x a := by
  simp only [outlierPoison, macAct_of_ar har, accOf, hacc]

theorem outlierAfter_of {a b : Core} (har : b.ar = a.ar) (hm : CorePart.same .mems a b) (x : IssueArgs) (p : Bool) {k : Nat}
    (hacc : accOf b (16 + k) = accOf a (16 + k)) (n : Nat) : outlierAfter x b p k n = outlierAfter x a p k n := by
  induction n with
  | zero => simp only [outlierAfter, hacc]
  | succ n ih => simp only [outlierAfter, ih, macAct_of_ar har, wtWord_of_mems hm]

/-- An outlier lane adds its products in the order of the elements. -/
theorem outlierLane_eq (x : IssueArgs) (p : Bool) (k : Nat) (fx : Fx) : outlierLane x p k fx =
    { fx with
      core := putAcc x.land (16 + k) (outlierAfter x fx.core p k (macCnt x.w)).1 p fx.core
      accSat := fx.accSat + (outlierAfter x fx.core p k (macCnt x.w)).2 } := by
  have hfold : ∀ n, (List.range n).foldl (fun (s : Int × Nat) (e : Nat) =>
      let (wd, lo) := outlierPos (macOq x.w) (macOff x.w + e) k
      let v := sgn 8 (bits (wtWord fx.core (tagCtx x.tag) (tagFrame x.tag) (macORow x.w) wd) (lo + 7) lo)
      let (r, n) := accAdd s.1 ((macAct x fx.core e).1 * v) p
      (r, s.2 + n)) ((accOf fx.core (16 + k)).v, 0) = outlierAfter x fx.core p k n := by
    intro n
    induction n with
    | zero => rfl
    | succ n ih =>
      rw [List.range_succ, List.foldl_append, ih]
      rfl
  rw [← hfold]
  rfl

/-- Accumulators and saturations of both outlier lanes on core c. -/
def outlierCore (x : IssueArgs) (p : Bool) (c : Core) : Core :=
  putAcc x.land 17 (outlierAfter x c p 1 (macCnt x.w)).1 p (putAcc x.land 16 (outlierAfter x c p 0 (macCnt x.w)).1 p c)

theorem outliers_eq (x : IssueArgs) (p : Bool) (fx : Fx) : outliers x p fx =
    { fx with
      core := outlierCore x p fx.core
      accSat := fx.accSat + ((outlierAfter x fx.core p 0 (macCnt x.w)).2 + (outlierAfter x fx.core p 1 (macCnt x.w)).2) } := by
  have hfirst := writes_putAcc x.land 16 (outlierAfter x fx.core p 0 (macCnt x.w)).1 p fx.core
  have hsecond := outlierAfter_of (hfirst.same .ar (by simp)) (hfirst.same .mems (by simp)) x p (k := 1)
    ((accOf_putAcc _ _ _ _ _ _).trans (if_neg (by decide))) (macCnt x.w)
  rw [outliers, outlierLane_eq, outlierLane_eq, hsecond, Nat.add_assoc]
  rfl

theorem writes_outlierCore (x : IssueArgs) (p : Bool) (c : Core) : CoreWrites [.acc] c (outlierCore x p c) :=
  (writes_putAcc _ _ _ _ _).trans (writes_putAcc _ _ _ _ _)

theorem accOf_outlierCore (x : IssueArgs) (p : Bool) (c : Core) (i : Nat) : accOf (outlierCore x p c) i =
    if i = 16 ∨ i = 17 then ⟨(outlierAfter x c p (i - 16) (macCnt x.w)).1, p⟩ else accOf c i := by
  rw [outlierCore, accOf_putAcc, accOf_putAcc]
  by_cases h17 : i = 17
  · subst h17; rfl
  · by_cases h16 : i = 16
    · subst h16; rfl
    · rw [if_neg (Ne.symm h17), if_neg (Ne.symm h16), if_neg (by omega)]

section Mac

variable {key t : Nat} {k : Cand} {s : State} {x : IssueArgs} {c m : Core}

/-- What a MAC operation finds of the core, beside block accumulators and zero points. -/
theorem outlierPoison_issued (x : IssueArgs) (t : Nat) (k : Cand) (c : Core) : outlierPoison x (issued t k c) = outlierPoison x c :=
  outlierPoison_of (issued_ar t k c) (issued_acc t k c) x

theorem outlierAfter_issued (x : IssueArgs) (t : Nat) (k : Cand) (c : Core) (p : Bool) (l n : Nat) :
    outlierAfter x (issued t k c) p l n = outlierAfter x c p l n :=
  outlierAfter_of (issued_ar t k c) (issued_mems t k c) x p (accOf_issued t k c _) n

/-! ### OMAC and ZCORR (R126, R127) -/

theorem locked_of_op {w n : Nat} (h : opOf w = n) (hn : 1 ≤ n ∧ n ≤ 4) : needsLock w = true := (needsLock_iff w).mpr (h ▸ hn)

theorem completes_omac (h : Runs (isOp 0x02) key t k s.dev) (hx : x = argsOf key t k s.dev) (hc : c = coreOf s.dev key) (hm : m = macCore k c) :
    Completes (exec (.omac key []) s) s fun d =>
      (∀ i, accOf (coreOf d key) i = if i = 16 ∨ i = 17 then
        ⟨(outlierAfter x c (outlierPoison x c) (i - 16) (macCnt k.word)).1, outlierPoison x c⟩ else accOf c i) ∧
      CorePart.same .mac m (coreOf d key) ∧ CorePart.same .zero m (coreOf d key) ∧
      Rose R.ACC_SAT ((outlierAfter x c (outlierPoison x c) 0 (macCnt k.word)).2 + (outlierAfter x c (outlierPoison x c) 1 (macCnt k.word)).2) s.dev d ∧
      OpDone [.acc, .mac, .zero] [.dict] [R.ACC_SAT.key] key t k s.dev d := by
  subst hc hm
  have hlock := locked_of_op (opOf_isOp (sel_of_issues h.1)) (by decide)
  have hrun : guarded fxOmac (argsOf key t k s.dev) (issued t k (coreOf s.dev key)) =
      { Fx.of (outlierCore x (outlierPoison x (coreOf s.dev key)) (issued t k (coreOf s.dev key))) with
        accSat := (outlierAfter x (coreOf s.dev key) (outlierPoison x (coreOf s.dev key)) 0 (macCnt k.word)).2 +
          (outlierAfter x (coreOf s.dev key) (outlierPoison x (coreOf s.dev key)) 1 (macCnt k.word)).2 } := by
    refine (guarded_runs h fxOmac).trans ?_
    rw [fxOmac, ← hx, outliers_eq, outlierPoison_issued, show x.bad = false by rw [hx]; rfl, Bool.false_or]
    simp only [Fx.of, outlierAfter_issued, Nat.zero_add]
    rw [show x.w = k.word by rw [hx]; rfl]
  refine completes_accSat h.1 hrun ⟨fun i => ?_, ?_, ?_, accSat_tookFx key _ (advTo t s.dev), ?_⟩
  · rw [tookFx_core]
    refine (accOf_outlierCore _ _ _ _).trans ?_
    rw [outlierAfter_issued, accOf_issued, show x.w = k.word by rw [hx]; rfl]
  · rw [tookFx_core]
    exact CorePart.same_trans (issued_mac t _ hlock) ((writes_outlierCore _ _ _).same .mac (by simp))
  · rw [tookFx_core]
    exact CorePart.same_trans (issued_mac t _ hlock) ((writes_outlierCore _ _ _).same .zero (by simp))
  · exact opDone_tookFx ((writes_outlierCore _ _ _).mono (by simp)) (by simp) (.inr List.mem_cons_self) (.inl rfl)
      (only_accSat rfl rfl rfl key t s.dev)

theorem completes_zcorr (h : Runs (isOp 0x03) key t k s.dev) (hc : c = coreOf s.dev key) (hm : m = macCore k c) :
    Completes (exec (.zcorr key []) s) s fun d =>
      (coreOf d key).zw = tblWord c (tagCtx k.tag) (tagFrame k.tag) (bits k.word 51 43) ∧
      (coreOf d key).za = sgn 16 (bits k.word 42 27) ∧ (coreOf d key).zPoison = false ∧ CorePart.same .mac m (coreOf d key) ∧
      OpDone [.mac, .zero] [] [] key t k s.dev d := by
  subst hc hm
  have hlock := locked_of_op (opOf_isOp (sel_of_issues h.1)) (by decide)
  have hwrites : ∀ (c : Core) (zw : Nat) (za : Int) (p : Bool) (l : Tab Nat),
      CoreWrites [.zero] c { c with zw := zw, za := za, zPoison := p, land := l } := fun c _ _ _ _ =>
    ⟨rfl, rfl, rfl, rfl, rfl, fun p hp => by cases p <;> simp_all [CorePart.same]⟩
  refine completes_quiet h.1 (guarded_runs h fxZcorr) ⟨?_, ?_, ?_, ?_, opDone_setCore ((hwrites _ _ _ _ _).mono (by simp)) (by simp)⟩
  · rw [coreOf_setCore_same]
    exact tblWord_issued _ _ _ _ _ _
  · rw [coreOf_setCore_same]
    rfl
  · rw [coreOf_setCore_same]
    rfl
  · rw [coreOf_setCore_same]
    exact CorePart.same_trans (issued_mac t _ hlock) ((hwrites _ _ _ _ _).same .mac (by simp))

/-! ### LUTMAC (R124, R125, R170) -/

/-- The new value of block accumulator j. -/
def lutmacLane (x : IssueArgs) (c : Core) (j : Nat) : Int :=
  ((List.range (macCnt x.w)).zip ((List.range (macCnt x.w)).map (macAct x c))).foldl (fun s p =>
    s + p.2.1 * (bits (wtWord c (tagCtx x.tag) (tagFrame x.tag) (macRow x.w) (macOff x.w + p.1)) (4 * j + 3) (4 * j) : Nat)) (tget 0 c.pAcc j)

theorem lutmacLane_eq (x : IssueArgs) (c : Core) (j : Nat) : lutmacLane x c j = tget 0 c.pAcc j + ((List.range (macCnt x.w)).map (fun e =>
    (macAct x c e).1 * (bits (wtWord c (tagCtx x.tag) (tagFrame x.tag) (macRow x.w) (macOff x.w + e)) (4 * j + 3) (4 * j) : Nat))).sum := by
  rw [lutmacLane, ← List.map_prod_left_eq_zip, List.foldl_map]
  exact foldl_add_sum _ _ _

/-- The core after a LUTMAC without its outlier lanes, whose block holds at most 32 elements. -/
def lutmacCore (x : IssueArgs) (c : Core) : Core := { c with
  pAcc := tsetRun 0 c.pAcc 0 ((List.range 16).map (lutmacLane x c))
  aSum := ((List.range (macCnt x.w)).map (macAct x c)).foldl (fun s a => s + a.1) c.aSum
  pPoison := x.bad || lutmacPoison x c
  latch := if c.outRows.contains (macRow x.w) then c.latch else c.latch ++ [rowTagOf c (tagCtx x.tag) (tagFrame x.tag) (macRow x.w)]
  blockLen := c.blockLen + macCnt x.w }

theorem lutmacCore_aSum (x : IssueArgs) (c : Core) :
    (lutmacCore x c).aSum = c.aSum + ((List.range (macCnt x.w)).map (fun e => (macAct x c e).1)).sum := by
  refine (foldl_add_sum _ _ _).trans ?_
  rw [List.map_map]
  rfl

/-- What a LUTMAC hands over without its outlier lanes. -/
def lutmacBase (x : IssueArgs) (c : Core) : Fx :=
  if 32 < (lutmacCore x c).blockLen then freeBlock x (Fx.of (lutmacCore x c)) else Fx.of (lutmacCore x c)

/-- Beyond 32 elements sums are free values, and the rest of the core is the same. -/
theorem lutmacBase_cases (x : IssueArgs) (c : Core) :
    (32 < c.blockLen + macCnt x.w ∧ ∃ p a, lutmacBase x c =
      { Fx.of { lutmacCore x c with pAcc := p, aSum := a } with drawn := 17, undef := true }) ∨
    (c.blockLen + macCnt x.w ≤ 32 ∧ lutmacBase x c = Fx.of (lutmacCore x c)) := by
  by_cases h : 32 < c.blockLen + macCnt x.w
  · exact .inl ⟨h, _, _, if_pos h⟩
  · exact .inr ⟨Nat.not_lt.mp h, if_neg h⟩

theorem writes_mac (c : Core) (p : Tab Int) (a : Int) (b : Bool) (l : List Nat) (n : Nat) :
    CoreWrites [.mac] c { c with pAcc := p, aSum := a, pPoison := b, latch := l, blockLen := n } :=
  ⟨rfl, rfl, rfl, rfl, rfl, fun q hq => by cases q <;> simp_all [CorePart.same]⟩

theorem lutmacBase_plain (x : IssueArgs) (c : Core) : (lutmacBase x c).skew = none ∧ (lutmacBase x c).emit = none ∧
    (lutmacBase x c).ringW = none ∧ (lutmacBase x c).clips = [] ∧ (lutmacBase x c).resSat = 0 := by
  rcases lutmacBase_cases x c with ⟨-, p, a, he⟩ | ⟨-, he⟩
  · rw [he]; exact ⟨rfl, rfl, rfl, rfl, rfl⟩
  · rw [he]; exact ⟨rfl, rfl, rfl, rfl, rfl⟩

theorem lutmacBase_free (x : IssueArgs) (c : Core) : (lutmacBase x c).undef = decide (32 < c.blockLen + macCnt x.w) ∧
    (lutmacBase x c).drawn = if c.blockLen + macCnt x.w ≤ 32 then 0 else 17 := by
  rcases lutmacBase_cases x c with ⟨hl, p, a, he⟩ | ⟨hl, he⟩
  · rw [he, if_neg (by omega)]
    exact ⟨(decide_eq_true hl).symm, rfl⟩
  · rw [he, if_pos hl]
    exact ⟨(decide_eq_false (Nat.not_lt.mpr hl)).symm, rfl⟩

theorem lutmacBase_core (x : IssueArgs) (c : Core) : (lutmacBase x c).core.pPoison = (lutmacCore x c).pPoison ∧
    (lutmacBase x c).core.latch = (lutmacCore x c).latch ∧ (lutmacBase x c).core.blockLen = (lutmacCore x c).blockLen := by
  rcases lutmacBase_cases x c with ⟨-, p, a, he⟩ | ⟨-, he⟩
  · rw [he]; exact ⟨rfl, rfl, rfl⟩
  · rw [he]; exact ⟨rfl, rfl, rfl⟩

theorem lutmacBase_sums {x : IssueArgs} {c : Core} (h : c.blockLen + macCnt x.w ≤ 32) : (lutmacBase x c).core = lutmacCore x c :=
  congrArg Fx.core (if_neg (Nat.not_lt.mpr h) : lutmacBase x c = Fx.of (lutmacCore x c))

theorem writes_lutmacBase (x : IssueArgs) (c : Core) : CoreWrites [.mac] c (lutmacBase x c).core := by
  rcases lutmacBase_cases x c with ⟨-, p, a, he⟩ | ⟨-, he⟩
  · rw [he]; exact writes_mac c p a _ _ _
  · rw [he]; exact writes_mac c _ _ _ _ _

/-- What a LUTMAC hands over. -/
theorem fxLutmac_eq (x : IssueArgs) (c : Core) (hb : x.bad = false) : fxLutmac x c = { lutmacBase x c with
    core := if macOl x.w then outlierCore x (lutmacPoison x c) (lutmacBase x c).core else (lutmacBase x c).core
    accSat := if macOl x.w then (outlierAfter x c (lutmacPoison x c) 0 (macCnt x.w)).2 + (outlierAfter x c (lutmacPoison x c) 1 (macCnt x.w)).2 else 0 } := by
  have hsat : (lutmacBase x c).accSat = 0 := by rcases lutmacBase_cases x c with ⟨-, p, a, he⟩ | ⟨-, he⟩ <;> rw [he] <;> rfl
  have hw := writes_lutmacBase x c
  have hacc (i : Nat) : accOf (lutmacBase x c).core i = accOf c i := congrArg (fun l => tget PReg.rest l i) (hw.same .acc (by simp))
  have hafter (l : Nat) : outlierAfter x (lutmacBase x c).core (lutmacPoison x c) l (macCnt x.w) =
      outlierAfter x c (lutmacPoison x c) l (macCnt x.w) := outlierAfter_of (hw.same .ar (by simp)) (hw.same .mems (by simp)) x _ (hacc _) _
  have hmodel : fxLutmac x c = if macOl x.w then outliers x (x.bad || lutmacPoison x c) (lutmacBase x c) else lutmacBase x c := rfl
  rw [hmodel, hb, Bool.false_or]
  cases macOl x.w
  · rw [if_neg (by simp), if_neg (by simp), if_neg (by simp), ← hsat]
  · rw [if_pos rfl, if_pos rfl, if_pos rfl, outliers_eq, hsat, Nat.zero_add, hafter, hafter]

/-- What a LUTMAC has done to its core, and what it hands over. -/
structure LutmacDone (x : IssueArgs) (c : Core) (fx : Fx) : Prop where
  writes : CoreWrites [.acc, .mac] c fx.core
  plain : fx.skew = none ∧ fx.emit = none ∧ fx.ringW = none ∧ fx.clips = [] ∧ fx.resSat = 0
  undef : fx.undef = decide (32 < c.blockLen + macCnt x.w)
  drawn : fx.drawn = if c.blockLen + macCnt x.w ≤ 32 then 0 else 17
  lanes : c.blockLen + macCnt x.w ≤ 32 → ∀ j, j < 16 → tget 0 fx.core.pAcc j = lutmacLane x c j
  sum : c.blockLen + macCnt x.w ≤ 32 → fx.core.aSum = c.aSum + ((List.range (macCnt x.w)).map (fun e => (macAct x c e).1)).sum
  poison : fx.core.pPoison = lutmacPoison x c
  latch : c.outRows.contains (macRow x.w) = false → fx.core.latch = c.latch ++ [rowTagOf c (tagCtx x.tag) (tagFrame x.tag) (macRow x.w)]
  block : fx.core.blockLen = c.blockLen + macCnt x.w
  acc : ∀ i, accOf fx.core i = if macOl x.w = true ∧ (i = 16 ∨ i = 17) then
    ⟨(outlierAfter x c (lutmacPoison x c) (i - 16) (macCnt x.w)).1, lutmacPoison x c⟩ else accOf c i
  accSat : fx.accSat =
    if macOl x.w then (outlierAfter x c (lutmacPoison x c) 0 (macCnt x.w)).2 + (outlierAfter x c (lutmacPoison x c) 1 (macCnt x.w)).2 else 0

theorem lutmacDone (x : IssueArgs) (c : Core) (hb : x.bad = false) : LutmacDone x c (fxLutmac x c) := by
  have hw := writes_lutmacBase x c
  have hacc (i : Nat) : accOf (lutmacBase x c).core i = accOf c i := congrArg (fun l => tget PReg.rest l i) (hw.same .acc (by simp))
  have hafter (l : Nat) : outlierAfter x (lutmacBase x c).core (lutmacPoison x c) l (macCnt x.w) =
      outlierAfter x c (lutmacPoison x c) l (macCnt x.w) := outlierAfter_of (hw.same .ar (by simp)) (hw.same .mems (by simp)) x _ (hacc _) _
  obtain ⟨hundef, hdrawn⟩ := lutmacBase_free x c
  obtain ⟨bpoison, blatch, bblock⟩ := lutmacBase_core x c
  have hstep : CoreWrites [.acc] (lutmacBase x c).core (fxLutmac x c).core := by
    rw [fxLutmac_eq x c hb]
    exact CoreWrites.ite (writes_outlierCore _ _ _) (CoreWrites.refl _ _)
  obtain ⟨hpacc, hasum, hpoison, hlatch, hblock⟩ := hstep.same .mac (by simp)
  refine ⟨(hw.mono (by simp)).trans (hstep.mono (by simp)), ?_, ?_, ?_, fun h j hj => ?_, fun h => ?_, ?_, fun hout => ?_, ?_, fun i => ?_, ?_⟩
  · rw [fxLutmac_eq x c hb]; exact lutmacBase_plain x c
  · rw [fxLutmac_eq x c hb]; exact hundef
  · rw [fxLutmac_eq x c hb]; exact hdrawn
  · rw [hpacc, lutmacBase_sums h]; exact tget_tsetRun_range _ _ _ hj
  · rw [hasum, lutmacBase_sums h]; exact lutmacCore_aSum x c
  · rw [hpoison, bpoison, lutmacCore, hb, Bool.false_or]
  · rw [hlatch, blatch, lutmacCore, hout]; rfl
  · rw [hblock, bblock]; rfl
  · rw [fxLutmac_eq x c hb]
    cases hol : macOl x.w
    · exact (hacc i).trans (if_neg (by simp)).symm
    · refine (accOf_outlierCore _ _ _ _).trans ?_
      rw [hacc, outlierAfter_of (hw.same .ar (by simp)) (hw.same .mems (by simp)) x _ (hacc _)]
      simp
  · rw [fxLutmac_eq x c hb]

/-- The poison of a LUTMAC is that of its MAC state and of what it reads. -/
theorem lutmacPoison_issued (t : Nat) {k : Cand} (c : Core) (h : needsLock k.word = true) (x : IssueArgs) :
    lutmacPoison x (issued t k c) = lutmacPoison x (macCore k c) := by
  obtain ⟨-, -, hp, -⟩ := issued_mac (p := .mac) t c h
  have har : (issued t k c).ar = (macCore k c).ar := issued_mac (p := .ar) t c h
  simp only [lutmacPoison, hp, macAct_of_ar har, outlierPoison_of har (issued_mac (p := .acc) t c h)]

theorem completes_lutmac (h : Runs (isOp 0x01) key t k s.dev) (hx : x = argsOf key t k s.dev) (hc : c = coreOf s.dev key) (hm : m = macCore k c) :
    Completes (exec (.lutmac key []) s) s fun d =>
      (m.blockLen + macCnt k.word ≤ 32 → ∀ j, j < 16 → tget 0 (coreOf d key).pAcc j = tget 0 m.pAcc j + ((List.range (macCnt k.word)).map (fun e => (macAct x c e).1 *
        (bits (wtWord c (tagCtx k.tag) (tagFrame k.tag) (macRow k.word) (macOff k.word + e)) (4 * j + 3) (4 * j) : Nat))).sum) ∧
      (m.blockLen + macCnt k.word ≤ 32 → (coreOf d key).aSum = m.aSum + ((List.range (macCnt k.word)).map (fun e => (macAct x c e).1)).sum) ∧
      d.freeCtr = s.dev.freeCtr + (if m.blockLen + macCnt k.word ≤ 32 then 0 else 17) ∧
      (coreOf d key).pPoison = lutmacPoison x m ∧
      (c.outRows.contains (macRow k.word) = false →
        (coreOf d key).latch = m.latch ++ [rowTagOf c (tagCtx k.tag) (tagFrame k.tag) (macRow k.word)]) ∧
      (coreOf d key).blockLen = m.blockLen + macCnt k.word ∧
      (∀ i, accOf (coreOf d key) i = if macOl k.word = true ∧ (i = 16 ∨ i = 17) then
        ⟨(outlierAfter x c (lutmacPoison x m) (i - 16) (macCnt k.word)).1, lutmacPoison x m⟩ else accOf c i) ∧
      CorePart.same .zero m (coreOf d key) ∧
      d.undef = (s.dev.undef || decide (32 < m.blockLen + macCnt k.word)) ∧
      Rose R.ACC_SAT (if macOl k.word then (outlierAfter x c (lutmacPoison x m) 0 (macCnt k.word)).2 + (outlierAfter x c (lutmacPoison x m) 1 (macCnt k.word)).2 else 0) s.dev d ∧
      OpDone [.acc, .mac, .zero] [.dict, .undef, .freeCtr] [R.ACC_SAT.key] key t k s.dev d := by
  subst hc hm
  have hlock := locked_of_op (opOf_isOp (sel_of_issues h.1)) (by decide)
  have hw : x.w = k.word := by rw [hx]; rfl
  have htag : x.tag = k.tag := by rw [hx]; rfl
  obtain ⟨hpacc, hasum, -, hlatch, hblock⟩ := issued_mac (p := .mac) t (coreOf s.dev key) hlock
  obtain ⟨-, -, -, hout, -⟩ := issued_mems t k (coreOf s.dev key)
  have hpoison := lutmacPoison_issued t (coreOf s.dev key) hlock x
  have hact : macAct x (issued t k (coreOf s.dev key)) = macAct x (coreOf s.dev key) := funext fun e => macAct_of_ar (issued_ar _ _ _) x e
  have hdone := lutmacDone (argsOf key t k s.dev) (issued t k (coreOf s.dev key)) rfl
  have hrun := guarded_runs h fxLutmac
  obtain ⟨fx, hfx⟩ : ∃ fx, fx = fxLutmac (argsOf key t k s.dev) (issued t k (coreOf s.dev key)) := ⟨_, rfl⟩
  rw [← hfx] at hdone hrun
  rw [← hx] at hdone
  obtain ⟨hwrites, ⟨hskew, hemit, hring, hclips, hres⟩, hundef, hdrawn, hlanes, hsum, hpp, hlat, hblk, hacc, hsat⟩ := hdone
  rw [hw, hblock] at hundef hdrawn hlanes hsum hblk
  rw [hpoison] at hpp
  simp only [hw, htag, hpoison, hlatch, hout, rowTagOf_issued, outlierAfter_issued, accOf_issued] at hlat hacc hsat
  refine completes_op h.1 ?_
  rw [hrun, applyFx_plain hskew hemit hring]
  refine ⟨fun hle j hj => ?_, fun hle => ?_, ?_, ?_, fun hrow => ?_, ?_, fun i => ?_, ?_, ?_, ?_, ?_⟩
  · rw [tookFx_core, hlanes hle j hj, lutmacLane_eq, hpacc, hact, hw, htag]
    simp only [wtWord_issued]
  · rw [tookFx_core, hsum hle, hasum, hact]
  · rw [tookFx_freeCtr, hdrawn]; rfl
  · rw [tookFx_core, hpp]
  · rw [tookFx_core, hlat hrow]
  · rw [tookFx_core, hblk]
  · rw [tookFx_core, hacc]
  · rw [tookFx_core]
    exact CorePart.same_trans (issued_mac t _ hlock) (hwrites.same .zero (by simp))
  · rw [tookFx_undef, hundef]; rfl
  · exact hsat ▸ accSat_tookFx key fx (advTo t s.dev)
  · have henc : (tookFx key fx (advTo t s.dev)).enc = s.dev.enc := by rw [tookFx_enc, hclips, List.append_nil]; rfl
    exact opDone_tookFx (hwrites.mono (by simp)) (by simp) (.inr List.mem_cons_self) (.inl hres)
      ((only_issueFx key t fx s.dev).drop henc |>.mono (by decide))

end Mac

end Sys2Proof.Machine
end

section
/-! SUPPORT. BCLOSE (R114, R128, R129, R170, R174, R180 to R182), and what settles O8. -/

namespace Sys2Proof.Machine

/-! ### The sixteen lanes (R128, R174) -/

/-- The rows latched since the last close differ from the block tag, for core c as the operation finds it. -/
def bcloseDiffers (x : IssueArgs) (c : Core) : Bool := tagsDiffer c.latch (sideTagOf c (tagCtx x.tag) (tagFrame x.tag) (bits x.w 51 43))

/-- What lane j adds to. -/
def bcloseOld (x : IssueArgs) (c : Core) (j : Nat) : PReg := if bit x.w 41 then PReg.rest else accOf c j

/-- What lane j adds. -/
def bcloseAdd (x : IssueArgs) (c : Core) (j : Nat) : Int :=
  let rd := fun i => tblWord c (tagCtx x.tag) (tagFrame x.tag) (bits x.w 51 43 + i)
  bits (rd (j / 8)) (8 * (j % 8) + 7) (8 * (j % 8)) *
    closeSum (tget 0 c.pAcc j) c.aSum c.za (if bit x.w 42 then bits (rd (2 + j / 4)) (16 * (j % 4) + 15) (16 * (j % 4)) else 0 : Nat)
      (bits c.zw (4 * j + 3) (4 * j) : Nat)

/-- A source of the close is poisoned, or its tags differ (Table 5.3). -/
def bclosePoison (x : IssueArgs) (c : Core) : Bool :=
  bcloseDiffers x c || c.pPoison || c.zPoison || (!bit x.w 41 && (List.range 16).any (fun j => (accOf c j).poison))

/-- One lane of a close where no error was read. -/
def bcloseStep (x : IssueArgs) (c : Core) (fx : Fx) (j : Nat) : Fx :=
  if 32 < c.blockLen then
    { fx with
      core := putAcc x.land j (sgn 40 (freeAt x fx)) (bclosePoison x c) fx.core
      accSat := fx.accSat + freeAt x fx / 2 ^ 40 % 2, drawn := fx.drawn + 1, undef := true }
  else
    { fx with
      core := putAcc x.land j (accAdd (bcloseOld x c j).v (bcloseAdd x c j) (bclosePoison x c)).1 (bclosePoison x c) fx.core
      accSat := fx.accSat + (accAdd (bcloseOld x c j).v (bcloseAdd x c j) (bclosePoison x c)).2 }

/-- The block accumulators are cleared behind a close. -/
def clearBlock (c : Core) : Core := { c with pAcc := [], aSum := 0, pPoison := false, latch := [], blockLen := 0 }

section Lanes

variable {x : IssueArgs} {c : Core}

/-- A close whose lanes are these. -/
def bcloseOf (x : IssueArgs) (c : Core) (step : Fx → Nat → Fx) : Fx :=
  let fx := (List.range 16).foldl step (Fx.of c)
  { fx with core := clearBlock fx.core, skew := if c.latch = [] then none else some (bcloseDiffers x c, bits x.w 51 43) }

theorem fxBclose_eq (hb : x.bad = false) : fxBclose x c = bcloseOf x c (bcloseStep x c) := by
  change bcloseOf x c _ = _
  congr 1
  funext fx j
  rw [hb, Bool.false_or]
  unfold bcloseStep
  dsimp only
  split <;> rfl

/-- The new value of lane j of a block of at most 32 elements, and whether it saturates. -/
def bcloseLane (x : IssueArgs) (c : Core) (j : Nat) : Int × Nat := accAdd (bcloseOld x c j).v (bcloseAdd x c j) (bclosePoison x c)

/-- The first n lanes of a close are done. -/
structure Closing (x : IssueArgs) (c : Core) (n : Nat) (fx : Fx) : Prop where
  writes : CoreWrites [.acc] c fx.core
  plain : fx.emit = none ∧ fx.ringW = none ∧ fx.clips = [] ∧ fx.resSat = 0
  poison : ∀ i, i < n → (accOf fx.core i).poison = bclosePoison x c
  rest : ∀ i, n ≤ i → accOf fx.core i = accOf c i
  value : c.blockLen ≤ 32 → ∀ i, i < n → (accOf fx.core i).v = (bcloseLane x c i).1
  tame : c.blockLen ≤ 32 → fx.undef = false ∧ fx.drawn = 0 ∧ fx.accSat = ((List.range n).map (fun j => (bcloseLane x c j).2)).sum
  wild : 32 < c.blockLen → (0 < n → fx.undef = true) ∧ fx.drawn = n

theorem closing_zero : Closing x c 0 (Fx.of c) where
  writes := CoreWrites.refl _ _
  plain := ⟨rfl, rfl, rfl, rfl⟩
  poison := fun _ h => absurd h (Nat.not_lt_zero _)
  rest := fun _ _ => rfl
  value := fun _ _ h => absurd h (Nat.not_lt_zero _)
  tame := fun _ => ⟨rfl, rfl, rfl⟩
  wild := fun _ => ⟨fun h => absurd h (Nat.not_lt_zero _), rfl⟩

/-- A lane writes its own accumulator. -/
theorem bcloseStep_core (fx : Fx) (n : Nat) : ∃ v, (bcloseStep x c fx n).core = putAcc x.land n v (bclosePoison x c) fx.core ∧
    (c.blockLen ≤ 32 → v = (bcloseLane x c n).1) := by
  unfold bcloseStep
  split
  · next h => exact ⟨_, rfl, fun hle => absurd h (Nat.not_lt.mpr hle)⟩
  · exact ⟨_, rfl, fun _ => rfl⟩

theorem closing_succ {n : Nat} {fx : Fx} (h : Closing x c n fx) : Closing x c (n + 1) (bcloseStep x c fx n) := by
  obtain ⟨v, hcore, hv⟩ := bcloseStep_core (x := x) (c := c) fx n
  refine ⟨?_, ?_, fun i hi => ?_, fun i hi => ?_, fun hle i hi => ?_, fun hle => ?_, fun hlt => ?_⟩
  · rw [hcore]
    exact h.writes.trans (writes_putAcc _ _ _ _ _)
  · unfold bcloseStep
    split
    · exact h.plain
    · exact h.plain
  · rw [hcore, accOf_putAcc]
    split
    · rfl
    · exact h.poison i (by omega)
  · rw [hcore, accOf_putAcc, if_neg (by omega)]
    exact h.rest i (by omega)
  · rw [hcore, accOf_putAcc]
    split
    · next he => rw [← he]; exact hv hle
    · exact h.value hle i (by omega)
  · obtain ⟨hundef, hdrawn, hsat⟩ := h.tame hle
    rw [bcloseStep, if_neg (Nat.not_lt.mpr hle), List.range_succ, List.map_append, List.sum_append, ← hsat]
    exact ⟨hundef, hdrawn, by simp [bcloseLane]⟩
  · rw [bcloseStep, if_pos hlt]
    exact ⟨fun _ => rfl, congrArg (· + 1) (h.wild hlt).2⟩

theorem closing_all (n : Nat) : Closing x c n ((List.range n).foldl (bcloseStep x c) (Fx.of c)) := by
  induction n with
  | zero => exact closing_zero
  | succ n ih =>
    rw [List.range_succ, List.foldl_append]
    exact closing_succ ih

/-- What a BCLOSE has done to its core, and what it hands over. -/
structure BcloseDone (x : IssueArgs) (c : Core) (fx : Fx) : Prop where
  writes : CoreWrites [.acc, .mac] c fx.core
  plain : fx.emit = none ∧ fx.ringW = none ∧ fx.clips = [] ∧ fx.resSat = 0
  skew : fx.skew = if c.latch = [] then none else some (bcloseDiffers x c, bits x.w 51 43)
  poison : ∀ i, i < 16 → (accOf fx.core i).poison = bclosePoison x c
  rest : ∀ i, 16 ≤ i → accOf fx.core i = accOf c i
  value : c.blockLen ≤ 32 → ∀ i, i < 16 → (accOf fx.core i).v = (bcloseLane x c i).1
  tame : c.blockLen ≤ 32 → fx.undef = false ∧ fx.drawn = 0 ∧ fx.accSat = ((List.range 16).map (fun j => (bcloseLane x c j).2)).sum
  wild : 32 < c.blockLen → fx.undef = true ∧ fx.drawn = 16
  cleared : fx.core.pAcc = [] ∧ fx.core.aSum = 0 ∧ fx.core.pPoison = false ∧ fx.core.latch = [] ∧ fx.core.blockLen = 0

theorem bcloseDone (hb : x.bad = false) : BcloseDone x c (fxBclose x c) := by
  have h := closing_all (x := x) (c := c) 16
  rw [fxBclose_eq hb, bcloseOf]
  generalize (List.range 16).foldl (bcloseStep x c) (Fx.of c) = fx at h
  exact {
    writes := (h.writes.mono (by simp)).trans ((writes_mac fx.core [] 0 false [] 0).mono (by simp))
    plain := h.plain
    skew := rfl
    poison := h.poison
    rest := h.rest
    value := h.value
    tame := h.tame
    wild := fun hlt => ⟨(h.wild hlt).1 (by decide), (h.wild hlt).2⟩
    cleared := ⟨rfl, rfl, rfl, rfl, rfl⟩ }

end Lanes

/-! ### The lanes as the core finds them at its issue -/

section Issue

variable {key t : Nat} {k : Cand} {d : Dev}

theorem bcloseDiffers_issued (h : needsLock k.word = true) :
    bcloseDiffers (argsOf key t k d) (issued t k (coreOf d key)) = closeDiffers k (coreOf d key) := by
  obtain ⟨-, -, -, hlatch, -⟩ := issued_mac (p := .mac) t (coreOf d key) h
  rw [bcloseDiffers, hlatch, sideTagOf_issued]
  rfl

theorem bcloseOld_issued (j : Nat) : bcloseOld (argsOf key t k d) (issued t k (coreOf d key)) j = (closeLane k (coreOf d key) j).2 := by
  rw [bcloseOld, accOf_issued]
  rfl

theorem bcloseAdd_issued (h : needsLock k.word = true) (j : Nat) :
    bcloseAdd (argsOf key t k d) (issued t k (coreOf d key)) j = (closeLane k (coreOf d key) j).1 := by
  obtain ⟨hp, ha, -⟩ := issued_mac (p := .mac) t (coreOf d key) h
  obtain ⟨hzw, hza, -⟩ := issued_mac (p := .zero) t (coreOf d key) h
  simp only [bcloseAdd, closeLane, tblWord_issued, hp, ha, hzw, hza, argsOf_w, argsOf_tag]
  push_cast
  rfl

theorem bclosePoison_issued (h : needsLock k.word = true) :
    bclosePoison (argsOf key t k d) (issued t k (coreOf d key)) = (closeDiffers k (coreOf d key) || closePoison k (coreOf d key)) := by
  obtain ⟨-, -, hp, -⟩ := issued_mac (p := .mac) t (coreOf d key) h
  obtain ⟨-, -, hz⟩ := issued_mac (p := .zero) t (coreOf d key) h
  have hold : (List.range 16).any (fun j => (closeLane k (coreOf d key) j).2.poison) =
      (!bit k.word 41 && (List.range 16).any (fun j => (accOf (coreOf d key) j).poison)) := by
    unfold closeLane
    cases bit k.word 41 <;> simp [PReg.rest]
  simp only [bclosePoison, bcloseDiffers_issued h, hp, hz, accOf_issued, argsOf_w, closePoison, hold, Bool.or_assoc]

end Issue

/-! ### The comparison of tags (R180 to R182) -/

theorem applyFx_skew {fx : Fx} {m : Bool} {r : Nat} (hs : fx.skew = some (m, r)) (he : fx.emit = none) (hr : fx.ringW = none)
    (key t frame tag : Nat) (d : Dev) : applyFx key t frame tag fx d = skewCheck key frame r m (tookFx key fx d) := by
  unfold applyFx
  rw [hs, he, hr]
  rfl

theorem writes_skew (c : Core) (b : Bool) (l : List Nat) (r : Nat) (f : Option Nat) :
    CoreWrites [.skew] c { c with resync := b, skewed := l, skewRec := r, skewFrom := f } :=
  ⟨rfl, rfl, rfl, rfl, rfl, fun p hp => by cases p <;> simp_all [CorePart.same]⟩

/-- Tags that agree change the frames noted in the core alone. -/
theorem skewCheck_agree (key frame rcd : Nat) (d : Dev) :
    CoreStep [.skew] key d (skewCheck key frame rcd false d) ∧ ChangesOnly [.cores] d (skewCheck key frame rcd false d) := by
  unfold skewCheck
  dsimp only
  rw [if_pos rfl]
  split
  · exact ⟨coreStep_setCore (writes_skew _ _ _ _ _), only_setCore _ _ _⟩
  · exact ⟨CoreStep.refl _ _ _, ChangesOnly.refl _ _⟩

/-- The core once a frame whose tags differ is noted in it. -/
def skewedCore (frame rcd : Nat) (c : Core) : Core := { c with
  resync := true
  skewed := skewWith frame c.skewed
  skewRec := rcd
  skewFrom := some (match c.skewFrom with | some f => min f frame | none => frame) }

/-- The block once differing tags are noted, counted and the frame is INVALID, before the report. -/
def skewNoted (key frame rcd : Nat) (d : Dev) : Dev :=
  invalidate frame (dset R.SCALE_SKEW_LAST_FRAME frame (dset R.SCALE_SKEW_LAST key (bump R.SCALE_SKEW_EVENTS
    (setCore key (skewedCore frame rcd (coreOf d key)) d))))

/-- Three frames in a row from f on have differed. -/
def skewRow (fs : List Nat) (f : Nat) : Bool := [f, f + 1, f + 2].all fs.contains

theorem skewCheck_differ (key frame rcd : Nat) (d : Dev) : skewCheck key frame rcd true d =
    if skewRow (skewWith frame (coreOf d key).skewed) (frame - 2) || skewRow (skewWith frame (coreOf d key).skewed) (frame - 1) ||
      skewRow (skewWith frame (coreOf d key).skewed) frame
    then retireCoreP key (report 0x2043 key frame (skewNoted key frame rcd d)) else report 0x1043 key frame (skewNoted key frame rcd d) := rfl

section Noted

variable {key frame rcd : Nat} {d : Dev}

theorem only_skewNoted : ChangesOnly [.cores, .dict, .frames] d (skewNoted key frame rcd d) := by
  unfold skewNoted
  refine ChangesOnly.then ?_ (only_invalidate _ _) (List.Subset.refl _) (by decide)
  refine ChangesOnly.then ?_ (only_dset _ _ _) (List.Subset.refl _) (by decide)
  refine ChangesOnly.then ?_ (only_dset _ _ _) (List.Subset.refl _) (by decide)
  exact (only_setCore _ _ _).then (only_bump _ _) (by decide) (by decide)

theorem coreOf_skewNoted (j : Nat) :
    coreOf (skewNoted key frame rcd d) j = coreOf (setCore key (skewedCore frame rcd (coreOf d key)) d) j := by
  have hcores {a b : Dev} {ps : List Part} (h : ChangesOnly ps a b) (hc : Part.cores ∉ ps) : coreOf b j = coreOf a j :=
    congrArg (fun l => tget Core.rest l j) (h .cores hc)
  rw [skewNoted, hcores (only_invalidate _ _) (by decide), hcores (only_dset _ _ _) (by decide), hcores (only_dset _ _ _) (by decide), coreOf_bump]

theorem invalid_skewNoted (h : d.grid.nextIssue ≤ frame) : (frameOf (skewNoted key frame rcd d) frame).invalid = true := by
  unfold skewNoted invalidate
  rw [if_neg (by simpa using h), frameOf_modFrame_same]

/-- The event is counted, with the core and the frame it was in (R180). -/
theorem events_skewNoted : dget R.SCALE_SKEW_EVENTS (skewNoted key frame rcd d) = satAdd32 (dget R.SCALE_SKEW_EVENTS d) 1 ∧
    dget R.SCALE_SKEW_LAST (skewNoted key frame rcd d) = key ∧ dget R.SCALE_SKEW_LAST_FRAME (skewNoted key frame rcd d) = frame := by
  have hinv : ∀ (r : Reg) (d : Dev), dget r (invalidate frame d) = dget r d := fun r d => seb_invalidate [] frame d r List.not_mem_nil
  unfold skewNoted
  refine ⟨?_, ?_, ?_⟩
  · rw [hinv, dget_dset_ne _ _ (by decide), dget_dset_ne _ _ (by decide), dget_bump_same]
    rfl
  · rw [hinv, dget_dset_ne _ _ (by decide), dget_dset_same]
  · rw [hinv, dget_dset_same]

theorem seb_skewNoted : SameEntriesBut [R.SCALE_SKEW_EVENTS.key, R.SCALE_SKEW_LAST.key, R.SCALE_SKEW_LAST_FRAME.key] d
    (skewNoted key frame rcd d) := by
  unfold skewNoted
  refine SameEntriesBut.trans ?_ (seb_invalidate _ _ _)
  refine SameEntriesBut.trans ?_ (seb_dset (by decide) _ _)
  refine SameEntriesBut.trans ?_ (seb_dset (by decide) _ _)
  exact (seb_dict rfl).trans (seb_bump (by decide) _)

theorem jobRuns_skewNoted (h : JobRuns d) : JobRuns (skewNoted key frame rcd d) :=
  jobRuns_of h (congrArg Flt.dev (only_skewNoted .flt (by decide))) (seb_skewNoted _ (by decide))

end Noted

/-! ### The close (R128, R129, R182) -/

section Close

variable {key t : Nat} {k : Cand} {s : State}

/-- What a BCLOSE hands over, and what the block makes of it. -/
theorem completes_bclose (h : Runs (isOp 0x04) key t k s.dev) {P : Dev → Prop}
    (hP : ∀ fx, BcloseDone (argsOf key t k s.dev) (issued t k (coreOf s.dev key)) fx →
      P (if fx.skew = none then tookFx key fx (advTo t s.dev)
        else skewCheck key (argsOf key t k s.dev).frame (bits k.word 51 43) (closeDiffers k (coreOf s.dev key)) (tookFx key fx (advTo t s.dev)))) :
    Completes (exec (.bclose key []) s) s P := by
  have hlock := locked_of_op (opOf_isOp (sel_of_issues h.1)) (by decide)
  have hfx := bcloseDone (x := argsOf key t k s.dev) (c := issued t k (coreOf s.dev key)) rfl
  refine completes_op h.1 ?_
  rw [guarded_runs h]
  have hgoal := hP _ hfx
  generalize fxBclose (argsOf key t k s.dev) (issued t k (coreOf s.dev key)) = fx at hfx hgoal
  obtain ⟨hemit, hring, -, -⟩ := hfx.plain
  have hskew := hfx.skew
  split at hskew
  · rw [applyFx_plain hskew hemit hring]
    rwa [if_pos hskew] at hgoal
  · rw [bcloseDiffers_issued hlock] at hskew
    rw [applyFx_skew hskew hemit hring]
    rwa [if_neg (by simp [hskew])] at hgoal

theorem completes_bclose_agree {c m : Core} {lane : Nat → Int × Nat} (h : Runs (isOp 0x04) key t k s.dev) (hc : c = coreOf s.dev key)
    (hm : m = macCore k c) (hagree : closeDiffers k c = false)
    (hlane : lane = (fun j => accAdd (closeLane k c j).2.v (closeLane k c j).1 (closePoison k c))) :
    Completes (exec (.bclose key []) s) s fun d =>
      (∀ i, i < 16 → (accOf (coreOf d key) i).poison = closePoison k c) ∧
      (∀ i, 16 ≤ i → accOf (coreOf d key) i = accOf c i) ∧
      (m.blockLen ≤ 32 → (∀ i, i < 16 → (accOf (coreOf d key) i).v = (lane i).1) ∧ d.undef = s.dev.undef ∧ d.freeCtr = s.dev.freeCtr ∧
        Rose R.ACC_SAT ((List.range 16).map (fun j => (lane j).2)).sum s.dev d) ∧
      (32 < m.blockLen → d.undef = true ∧ d.freeCtr = s.dev.freeCtr + 16) ∧
      (coreOf d key).pAcc = [] ∧ (coreOf d key).aSum = 0 ∧ (coreOf d key).pPoison = false ∧ (coreOf d key).latch = [] ∧
      (coreOf d key).blockLen = 0 ∧ CorePart.same .zero m (coreOf d key) ∧
      OpDone [.acc, .mac, .zero, .skew] [.dict, .undef, .freeCtr] [R.ACC_SAT.key] key t k s.dev d := by
  subst hc hm
  have hlock := locked_of_op (opOf_isOp (sel_of_issues h.1)) (by decide)
  have hpoison : bclosePoison (argsOf key t k s.dev) (issued t k (coreOf s.dev key)) = closePoison k (coreOf s.dev key) := by
    rw [bclosePoison_issued hlock, hagree, Bool.false_or]
  have hlanes : bcloseLane (argsOf key t k s.dev) (issued t k (coreOf s.dev key)) = lane := by
    funext j
    rw [hlane, bcloseLane, bcloseOld_issued, bcloseAdd_issued hlock, hpoison]
  obtain ⟨-, -, -, -, hblock⟩ := issued_mac (p := .mac) t (coreOf s.dev key) hlock
  refine completes_bclose h fun fx hfx => ?_
  rw [hagree]
  obtain ⟨d, hd⟩ : ∃ d, d = if fx.skew = none then tookFx key fx (advTo t s.dev)
    else skewCheck key (argsOf key t k s.dev).frame (bits k.word 51 43) false (tookFx key fx (advTo t s.dev)) := ⟨_, rfl⟩
  have hstep : CoreStep [.skew] key (tookFx key fx (advTo t s.dev)) d ∧ ChangesOnly [.cores] (tookFx key fx (advTo t s.dev)) d := by
    rw [hd]
    split
    · exact ⟨CoreStep.refl _ _ _, ChangesOnly.refl _ _⟩
    · exact skewCheck_agree _ _ _ _
  rw [← hd]
  obtain ⟨⟨hskew, hother, hnow⟩, honly⟩ := hstep
  rw [tookFx_core] at hskew
  obtain ⟨hwrites, ⟨-, -, hclips, hres⟩, -, hpoisons, hrest, hvalue, htame, hwild, hcleared⟩ := hfx
  rw [hblock] at hvalue htame hwild
  simp only [hpoison] at hpoisons
  simp only [hlanes] at hvalue htame
  have hacc (i : Nat) : accOf (coreOf d key) i = accOf fx.core i := congrArg (fun l => tget PReg.rest l i) (hskew.same .acc (by simp))
  obtain ⟨hp, ha, hpp, hl, hb⟩ := hskew.same .mac (by simp)
  obtain ⟨cp, ca, cpp, cl, cb⟩ := hcleared
  have hundef : d.undef = (s.dev.undef || fx.undef) := (congrArg Prod.fst (honly .undef (by decide))).trans (tookFx_undef _ _ _)
  have hfree : d.freeCtr = s.dev.freeCtr + fx.drawn := (honly .freeCtr (by decide)).trans (tookFx_freeCtr _ _ _)
  have hdict : SameEntriesBut [] (tookFx key fx (advTo t s.dev)) d := seb_dict (honly .dict (by decide))
  refine ⟨fun i hi => ?_, fun i hi => ?_, fun hle => ?_, fun hlt => ?_, hp.trans cp, ha.trans ca, hpp.trans cpp, hl.trans cl, hb.trans cb, ?_,
    opDone_of_writes ?_ (by simp) ?_ (fun j hj => ?_) ?_ ?_⟩
  · rw [hacc, hpoisons i hi]
  · rw [hacc, hrest i hi, accOf_issued]
  · obtain ⟨tundef, tdrawn, tsat⟩ := htame hle
    refine ⟨fun i hi => by rw [hacc, hvalue hle i hi], by rw [hundef, tundef, Bool.or_false], by rw [hfree, tdrawn]; rfl, ?_⟩
    have hrose := tsat ▸ accSat_tookFx key fx (advTo t s.dev)
    unfold Rose at *
    rw [hdict _ List.not_mem_nil, hrose]
    rfl
  · obtain ⟨wundef, wdrawn⟩ := hwild hlt
    exact ⟨by rw [hundef, wundef, Bool.or_true], by rw [hfree, wdrawn]⟩
  · exact CorePart.same_trans (issued_mac t _ hlock) (CorePart.same_trans (hwrites.same .zero (by simp)) (hskew.same .zero (by simp)))
  · exact (hwrites.mono (by simp)).trans (hskew.mono (by simp))
  · exact hnow.trans (only_tookFx key fx (advTo t s.dev) .now (by decide))
  · rw [hother j hj, tookFx_other hj, coreOf_advTo]
  · exact ((seb_dict rfl).trans (seb_tookFx (.inr List.mem_cons_self) (.inl hres) key (advTo t s.dev))).trans (hdict.mono (by simp))
  · have henc : (tookFx key fx (advTo t s.dev)).enc = s.dev.enc := by rw [tookFx_enc, hclips, List.append_nil]; rfl
    exact ((only_issueFx key t fx s.dev).drop henc).then honly (by decide) (by decide)

/-- Tags that differ follow a latched row. -/
theorem latched_of_differs {x : IssueArgs} {c : Core} (h : bcloseDiffers x c = true) : c.latch ≠ [] := fun he => by
  simp [bcloseDiffers, tagsDiffer, he] at h

/-- The close of a block whose tags differ. -/
theorem completes_bclose_differ (h : Runs (isOp 0x04) key t k s.dev) (hdiff : closeDiffers k (coreOf s.dev key) = true) {P : Dev → Prop}
    (hP : ∀ fx, BcloseDone (argsOf key t k s.dev) (issued t k (coreOf s.dev key)) fx →
      P (skewCheck key (argsOf key t k s.dev).frame (bits k.word 51 43) true (tookFx key fx (advTo t s.dev)))) :
    Completes (exec (.bclose key []) s) s P := by
  have hlock := locked_of_op (opOf_isOp (sel_of_issues h.1)) (by decide)
  refine completes_bclose h fun fx hfx => ?_
  have hsome : fx.skew ≠ none := by
    rw [hfx.skew, if_neg (latched_of_differs ((bcloseDiffers_issued hlock).trans hdiff))]
    simp
  rw [if_neg hsome, hdiff]
  exact hP fx hfx

theorem skewRow_iff (fs : List Nat) (f : Nat) : skewRow fs f = true ↔ f ∈ fs ∧ f + 1 ∈ fs ∧ f + 2 ∈ fs := by simp [skewRow]

theorem mem_skewWith_self (frame : Nat) (l : List Nat) : frame ∈ skewWith frame l := by
  unfold skewWith
  split
  · next h => simpa using h
  · simp

theorem mem_skewWith_of_take {frame f : Nat} {l : List Nat} (h : f ∈ l.take 31) : f ∈ skewWith frame l := by
  unfold skewWith
  split
  · exact List.mem_of_mem_take h
  · exact List.mem_cons_of_mem _ h

/-- The close leaves the frames that the core has noted. -/
theorem skewed_of_bcloseDone {fx : Fx} (h : BcloseDone (argsOf key t k s.dev) (issued t k (coreOf s.dev key)) fx) :
    fx.core.skewed = (coreOf s.dev key).skewed := by
  obtain ⟨-, hskewed, -⟩ := h.writes.same .skew (by simp)
  obtain ⟨-, hissued, -⟩ := issued_same (p := .skew) t k (coreOf s.dev key) (by simp) (by simp)
  exact hskewed.trans hissued

/-- What a close counts of the tags stands apart from what its lanes count. -/
theorem dget_bcloseDone {fx : Fx} {x : IssueArgs} {c : Core} (h : BcloseDone x c fx) {r : Reg} (hr : r.key ≠ R.ACC_SAT.key) (d : Dev) :
    dget r (tookFx key fx (advTo t d)) = dget r d := by
  obtain ⟨-, -, -, hres⟩ := h.plain
  exact seb_tookFx (ks := [R.ACC_SAT.key]) (.inr List.mem_cons_self) (.inl hres) key (advTo t d) r (by simpa using hr)

theorem completes_bclose_skew {frame : Nat} {fs : List Nat} (h : Runs (isOp 0x04) key t k s.dev) (hdiff : closeDiffers k (coreOf s.dev key) = true)
    (hframe : frame = (argsOf key t k s.dev).frame) (hfs : fs = skewWith frame (coreOf s.dev key).skewed)
    (hrow : ∀ f ∈ fs, ¬ (f + 1 ∈ fs ∧ f + 2 ∈ fs)) (hissue : s.dev.grid.nextIssue ≤ frame) :
    Completes (exec (.bclose key []) s) s fun d =>
      (∀ i, i < 16 → (accOf (coreOf d key) i).poison = true) ∧ (coreOf d key).resync = true ∧ (coreOf d key).skewed = fs ∧
      (frameOf d frame).invalid = true ∧
      dget R.SCALE_SKEW_EVENTS d = satAdd32 (dget R.SCALE_SKEW_EVENTS s.dev) 1 ∧ dget R.SCALE_SKEW_LAST d = key ∧
      dget R.SCALE_SKEW_LAST_FRAME d = frame ∧ LastFault 0x1043 d ∧ (∀ j, j ≠ key → coreOf d j = coreOf s.dev j) := by
  have hlock := locked_of_op (opOf_isOp (sel_of_issues h.1)) (by decide)
  refine completes_bclose_differ h hdiff fun fx hfx => ?_
  have hskewed := skewed_of_bcloseDone hfx
  have hnone : ∀ f, skewRow fs f = false := fun f => by
    rw [Bool.eq_false_iff, ne_eq, skewRow_iff]
    exact fun ⟨h0, h12⟩ => hrow f h0 h12
  have hgrid : (tookFx key fx (advTo t s.dev)).grid = s.dev.grid := only_issueFx key t fx s.dev .grid (by decide)
  have hevents := dget_bcloseDone (key := key) (t := t) hfx (r := R.SCALE_SKEW_EVENTS) (by decide) s.dev
  rw [← hframe, skewCheck_differ, tookFx_core, hskewed, ← hfs, hnone, hnone, hnone]
  obtain ⟨d0, hd0⟩ : ∃ d0, d0 = tookFx key fx (advTo t s.dev) := ⟨_, rfl⟩
  rw [← hd0] at hgrid hevents ⊢
  have hcore0 : coreOf d0 key = fx.core := hd0 ▸ tookFx_core _ _ _
  rw [if_neg (by simp)]
  have honly := only_report (c := 0x1043) (by decide) key frame (skewNoted key frame (bits k.word 51 43) d0)
  have hcores (j : Nat) : coreOf (report 0x1043 key frame (skewNoted key frame (bits k.word 51 43) d0)) j =
      coreOf (setCore key (skewedCore frame (bits k.word 51 43) (coreOf d0 key)) d0) j :=
    (congrArg (fun l => tget Core.rest l j) (honly .cores (by decide))).trans (coreOf_skewNoted j)
  have hget {r : Reg} (hr : r.key ∉ reportKeys) := dget_report (c := 0x1043) (by decide) key frame (skewNoted key frame (bits k.word 51 43) d0) r hr
  obtain ⟨hcount, hlast, hlastFrame⟩ := events_skewNoted (key := key) (frame := frame) (rcd := bits k.word 51 43) (d := d0)
  refine ⟨fun i hi => ?_, ?_, ?_, ?_, ?_, ?_, ?_, lastFault_report (by decide) _ _ _, fun j hj => ?_⟩
  · rw [hcores, coreOf_setCore_same, hcore0]
    exact (hfx.poison i hi).trans (by rw [bclosePoison_issued hlock, hdiff, Bool.true_or])
  · rw [hcores, coreOf_setCore_same]
    rfl
  · rw [hcores, coreOf_setCore_same, hcore0, hfs, ← hskewed]
    rfl
  · rw [frameOf_of_only honly (by decide)]
    exact invalid_skewNoted (hgrid ▸ hissue)
  · rw [hget (by decide), hcount, hevents]
  · rw [hget (by decide), hlast]
  · rw [hget (by decide), hlastFrame]
  · rw [hcores, coreOf_setCore_ne _ _ (Ne.symm hj), hd0, tookFx_other hj, coreOf_advTo]

theorem completes_bclose_third {frame : Nat} (h : Runs (isOp 0x04) key t k s.dev) (hdiff : closeDiffers k (coreOf s.dev key) = true)
    (hframe : frame = (argsOf key t k s.dev).frame) (hone : frame + 1 ∈ (coreOf s.dev key).skewed.take 31)
    (htwo : frame + 2 ∈ (coreOf s.dev key).skewed.take 31) (hj : JobRuns s.dev) :
    Completes (exec (.bclose key []) s) s fun d =>
      dget R.SCALE_SKEW_EVENTS d = satAdd32 (dget R.SCALE_SKEW_EVENTS s.dev) 1 ∧ LastFault 0x2043 d ∧ Retired key s.dev d := by
  refine completes_bclose_differ h hdiff fun fx hfx => ?_
  have hskewed := skewed_of_bcloseDone hfx
  have hrow : skewRow (skewWith frame (coreOf s.dev key).skewed) frame = true :=
    (skewRow_iff _ _).mpr ⟨mem_skewWith_self _ _, mem_skewWith_of_take hone, mem_skewWith_of_take htwo⟩
  have honly := only_issueFx key t fx s.dev
  have hevents := dget_bcloseDone (key := key) (t := t) hfx (r := R.SCALE_SKEW_EVENTS) (by decide) s.dev
  have hjob := jobRuns_of hj (congrArg Flt.dev (honly .flt (by decide))) (dget_bcloseDone (key := key) (t := t) hfx (by decide) s.dev)
  rw [← hframe, skewCheck_differ, tookFx_core, hskewed, hrow, if_pos (by simp)]
  have hnoted := jobRuns_skewNoted (key := key) (frame := frame) (rcd := bits k.word 51 43) hjob
  obtain ⟨hmem, hpending⟩ := retired_report (code := 0x2043) (by decide) key frame key hnoted
  have hchain := honly.then (only_skewNoted (key := key) (frame := frame) (rcd := bits k.word 51 43))
    (rs := [.enc, .undef, .freeCtr, .now, .time, .cores, .dict, .frames]) (by decide) (by decide)
  have hfuses := hchain .fuses (by decide)
  have hldr := hchain .ldr (by decide)
  refine ⟨?_, lastFault_retireCoreP (jobRuns_report (by decide) _ _ hnoted) _ (lastFault_report (by decide) _ _ _), ?_, fun hu => ?_⟩
  · rw [dget, retireCoreP_dict (jobRuns_report (by decide) _ _ hnoted), ← dget, dget_report (by decide) _ _ _ _ (by decide),
      events_skewNoted.1, hevents]
  · simp only [retiredSet] at hmem ⊢
    rwa [hfuses, hldr] at hmem
  · exact hpending ((coreUsed_congr hfuses hldr key).trans hu)

end Close

/-- Settles O8: a MAC operation works on the MAC state its lock gives it, and a close compares its tags once its lanes are done. -/
theorem macOperations : Obligations.MacOperations :=
  ⟨fun _ _ _ _ _ _ _ => completes_lutmac, fun _ _ _ _ _ _ _ => completes_omac, fun _ _ _ _ _ _ => completes_zcorr,
    fun _ _ _ _ _ _ _ => completes_bclose_agree, fun _ _ _ _ _ _ => completes_bclose_skew,
    fun _ _ _ _ _ h hdiff hframe hone htwo _ hdev hrestart => completes_bclose_third h hdiff hframe hone htwo ⟨hdev, hrestart⟩⟩

end Sys2Proof.Machine
end

section
/-! SUPPORT. The firing rule over all operations of Table 5.5 (R103, R111 to R114, R118, R449), and what settles O6. -/

namespace Sys2Proof.Machine

/-! ### What each operation writes -/

/-- Every part of a core that an operation may write. -/
def allParts : List CorePart := [.ar, .acc, .pred, .sreg, .mac, .zero, .skew, .outs, .mems]

theorem CoreWrites.all {ps : List CorePart} {a b : Core} (h : CoreWrites ps a b) : CoreWrites allParts a b :=
  h.mono fun p _ => by cases p <;> decide

/-- An operation leaves the scheduling of its core alone and, where it is no BCLOSE, compares no tags. -/
def Tame (sel : Nat → Bool) (f : IssueArgs → Core → Fx) : Prop :=
  ∀ x c, x.bad = false → sel x.w = true → opOf x.w ≠ 4 → CoreWrites allParts c (f x c).core ∧ (f x c).skew = none

theorem tame_of {sel : Nat → Bool} {f : IssueArgs → Core → Fx} {ps : List CorePart} (h : ∀ x c, CoreWrites ps c (f x c).core)
    (hs : ∀ x c, (f x c).skew = none) : Tame sel f := fun x c _ _ _ => ⟨(h x c).all, hs x c⟩

/-- A run of registers is written one by one. -/
theorem writes_putArs (land n : Nat) (i : Nat → Nat) (v : Nat → Int) (p : Nat → Bool) (c : Core) :
    CoreWrites [.ar] c ((List.range n).foldl (fun core j => putAr land (i j) (v j) (p j) core) c) :=
  CoreWrites.foldl (fun _ _ => writes_putAr _ _ _ _ _) _ _

theorem writes_putStateRun (x : IssueArgs) (n : Nat) (i : Nat → Nat) (v : Nat → Int) (p : Nat → Bool) (c : Core) :
    CoreWrites [.sreg] c ((List.range n).foldl (fun core j => putState x (i j) (v j) (p j) core) c) :=
  CoreWrites.foldl (fun _ _ => writes_putState _ _ _ _ _) _ _

theorem writes_poisonCode (land code : Nat) (c : Core) : CoreWrites allParts c (poisonCode land code c) := by
  unfold poisonCode
  split
  · exact (writes_putAr _ _ _ _ _).all
  · split
    · exact (writes_putAcc _ _ _ _ _).all
    · exact (writes_putPred _ _ _ _ _).all

theorem writes_zero (c : Core) (zw : Nat) (za : Int) (p : Bool) (l : Tab Nat) :
    CoreWrites [.zero] c { c with zw := zw, za := za, zPoison := p, land := l } :=
  ⟨rfl, rfl, rfl, rfl, rfl, fun p hp => by cases p <;> simp_all [CorePart.same]⟩

theorem tame_skipped (x : IssueArgs) (c : Core) : CoreWrites allParts c (fxSkipped x c).core ∧ (fxSkipped x c).skew = none := by
  unfold fxSkipped
  split
  · exact ⟨(writes_putStateRun _ _ _ _ _ _).all, rfl⟩
  · exact ⟨CoreWrites.refl _ _, rfl⟩

theorem tame_poisoned (x : IssueArgs) (c : Core) : CoreWrites allParts c (fxPoisoned x c).core ∧ (fxPoisoned x c).skew = none := by
  have hp : CoreWrites allParts c ((writesOf x.w).foldl (fun c k => poisonCode x.land k c) c) :=
    CoreWrites.foldl (fun _ _ => writes_poisonCode _ _ _) _ _
  unfold fxPoisoned
  dsimp only
  generalize (writesOf x.w).foldl (fun c k => poisonCode x.land k c) c = c' at hp
  split
  · exact ⟨hp.trans (writes_mac c' c'.pAcc c'.aSum true c'.latch c'.blockLen).all, rfl⟩
  · split
    · exact ⟨hp.trans (writes_zero c' c'.zw c'.za true _).all, rfl⟩
    · split
      · exact ⟨hp.trans (writes_mac c' c'.pAcc c'.aSum true c'.latch c'.blockLen).all, rfl⟩
      · split
        · exact ⟨hp.trans (writes_putStateRun _ _ _ _ _ _).all, rfl⟩
        · exact ⟨hp, rfl⟩

theorem Tame.guarded {sel : Nat → Bool} {f : IssueArgs → Core → Fx} (h : Tame sel f) : Tame sel (guarded f) := fun x c hb hsel hop => by
  unfold Machine.guarded
  split
  · exact h x c hb hsel hop
  · exact tame_skipped x c
  · exact tame_poisoned x c

theorem tame_lutmac : Tame (isOp 0x01) fxLutmac := fun x c hb _ _ =>
  ⟨(lutmacDone x c hb).writes.all, (lutmacDone x c hb).plain.1⟩

theorem tame_omac : Tame (isOp 0x02) fxOmac :=
  tame_of (ps := [.acc]) (fun x c => by rw [fxOmac, outliers_eq]; exact writes_outlierCore _ _ _) (fun x c => by rw [fxOmac, outliers_eq]; rfl)

theorem tame_zcorr : Tame (isOp 0x03) fxZcorr := tame_of (fun _ c => writes_zero c _ _ _ _) (fun _ _ => rfl)

theorem tame_bclose : Tame (isOp 0x04) fxBclose := fun _ _ _ hsel hop => absurd (opOf_isOp hsel) hop

theorem tame_rescale : Tame (isOp 0x05) fxRescale := fun x c hb _ _ => by
  rw [fxRescale_eq hb]
  obtain ⟨hwrites, ⟨hskew, -⟩, -⟩ := rescaled_all (x := x) (c := c) (bits x.w 37 33 + 1)
  exact ⟨hwrites.all, hskew⟩

theorem tame_actlut : Tame (isOp 0x06) fxActlut := tame_of (fun _ _ => writes_putArs _ _ _ _ _ _) (fun _ _ => rfl)
theorem tame_stateRead : Tame (isState false) fxStateRead := tame_of (fun x c => writes_readStates x c _) (fun _ _ => rfl)
theorem tame_stateWrite : Tame (isState true) fxStateWrite := tame_of (fun _ _ => writes_putStateRun _ _ _ _ _ _) (fun _ _ => rfl)
theorem tame_send : Tame (isOp 0x08) fxSend := tame_of (ps := []) (fun _ _ => CoreWrites.refl _ _) (fun _ _ => rfl)

theorem tame_recv : Tame (isOp 0x09) fxRecv := by
  intro x c _ _ _
  unfold fxRecv
  dsimp only
  split
  · exact ⟨(writes_putAcc _ _ _ _ _).all, rfl⟩
  · exact ⟨(writes_putArs _ _ _ _ _ _).all, rfl⟩

theorem tame_reduce : Tame (isOp 0x0A) fxReduce := by
  intro x c _ _ _
  unfold fxReduce
  dsimp only
  split
  · exact ⟨(writes_putAcc _ _ _ _ _).all, rfl⟩
  · exact ⟨(writes_putArs _ _ _ _ _ _).all, rfl⟩

theorem tame_cmp : Tame (isOp 0x0B) fxCmp := tame_of (fun _ _ => writes_putPred _ _ _ _ _) (fun _ _ => rfl)
theorem tame_sel : Tame (isOp 0x0C) fxSel := tame_of (fun _ _ => writes_putArs _ _ _ _ _ _) (fun _ _ => rfl)
theorem tame_maxp : Tame (isOp 0x0D) fxMaxp :=
  tame_of (fun _ _ => CoreWrites.ite ((writes_putAr _ _ _ _ _).trans (writes_putAr _ _ _ _ _)) (writes_putAr _ _ _ _ _)) (fun _ _ => rfl)
theorem tame_movRun : Tame (isMode 0x0E 0) fxMovRun := tame_of (fun _ _ => writes_putArs _ _ _ _ _ _) (fun _ _ => rfl)
theorem tame_movImm : Tame (isMode 0x0E 1) fxMovImm := tame_of (fun _ _ => writes_putArs _ _ _ _ _ _) (fun _ _ => rfl)
theorem tame_movClear : Tame (isMode 0x0E 2) fxMovClear :=
  tame_of (fun _ _ => CoreWrites.foldl (fun _ _ => CoreWrites.ite (writes_putAcc _ _ _ _ _) (CoreWrites.refl _ _)) _ _) (fun _ _ => rfl)
theorem tame_ldw : Tame (isOp 0x0F) fxLdw := tame_of (fun _ _ => writes_putArs _ _ _ _ _ _) (fun _ _ => rfl)
theorem tame_ring : Tame (isOp 0x11) fxRing := tame_of (ps := []) (fun _ _ => CoreWrites.refl _ _) (fun _ _ => rfl)
theorem tame_none {sel : Nat → Bool} : Tame sel fxNone := tame_of (ps := []) (fun _ _ => CoreWrites.refl _ _) (fun _ _ => rfl)

/-- A command of Table 5.5 issues an operation of its row. -/
def IssuesOp (o : (Nat → List Upset → Instr) × (Nat → Bool)) (f : IssueArgs → Core → Fx) : Prop :=
  (∀ key up s, exec (o.1 key up) s = opCmd o.2 f key up s) ∧ Tame o.2 f

theorem issuesOp_of_mem {o : (Nat → List Upset → Instr) × (Nat → Bool)} (h : o ∈ coreOps) : ∃ f, IssuesOp o f := by
  simp only [coreOps, List.mem_cons, List.not_mem_nil, or_false] at h
  rcases h with rfl | rfl | rfl | rfl | rfl | rfl | rfl | rfl | rfl | rfl | rfl | rfl | rfl | rfl | rfl | rfl | rfl | rfl | rfl | rfl | rfl | rfl | rfl
  · exact ⟨_, fun _ _ _ => rfl, tame_none⟩
  · exact ⟨_, fun _ _ _ => rfl, tame_lutmac.guarded⟩
  · exact ⟨_, fun _ _ _ => rfl, tame_omac.guarded⟩
  · exact ⟨_, fun _ _ _ => rfl, tame_zcorr.guarded⟩
  · exact ⟨_, fun _ _ _ => rfl, tame_bclose.guarded⟩
  · exact ⟨_, fun _ _ _ => rfl, tame_rescale.guarded⟩
  · exact ⟨_, fun _ _ _ => rfl, tame_actlut.guarded⟩
  · exact ⟨_, fun _ _ _ => rfl, tame_stateRead.guarded⟩
  · exact ⟨_, fun _ _ _ => rfl, tame_stateWrite.guarded⟩
  · exact ⟨_, fun _ _ _ => rfl, tame_send⟩
  · exact ⟨_, fun _ _ _ => rfl, tame_recv.guarded⟩
  · exact ⟨_, fun _ _ _ => rfl, tame_reduce.guarded⟩
  · exact ⟨_, fun _ _ _ => rfl, tame_cmp.guarded⟩
  · exact ⟨_, fun _ _ _ => rfl, tame_sel⟩
  · exact ⟨_, fun _ _ _ => rfl, tame_maxp.guarded⟩
  · exact ⟨_, fun _ _ _ => rfl, tame_movRun.guarded⟩
  · exact ⟨_, fun _ _ _ => rfl, tame_movImm.guarded⟩
  · exact ⟨_, fun _ _ _ => rfl, tame_movClear.guarded⟩
  · exact ⟨_, fun _ _ _ => rfl, tame_ldw.guarded⟩
  · exact ⟨_, fun _ _ _ => rfl, tame_none⟩
  · exact ⟨_, fun _ _ _ => rfl, tame_none⟩
  · exact ⟨_, fun _ _ _ => rfl, tame_none⟩
  · exact ⟨_, fun _ _ _ => rfl, tame_ring⟩

/-! ### The hand-over, for every operation -/

/-- The comparison of tags, the token to emit and the write to the hub that an operation may hand over. -/
def compared (key frame : Nat) (c : Option (Bool × Nat)) (d : Dev) : Dev :=
  match c with | some (m, r) => skewCheck key frame r m d | none => d
def emitted (key t : Nat) (e : Option (Nat × Tok)) (d : Dev) : Dev :=
  match e with | some (m, tok) => emitAll key t m tok d | none => d
def hubWritten (t tag : Nat) (w : Option (Nat × Nat × Bool)) (d : Dev) : Dev :=
  match w with
  | some (sl, v, p) => { d with fab := { d.fab with rwrites := d.fab.rwrites ++ [⟨t + 8, tag, sl, v, p⟩] } }
  | none => d

theorem applyFx_eq (key t frame tag : Nat) (fx : Fx) (d : Dev) : applyFx key t frame tag fx d =
    hubWritten t tag fx.ringW (emitted key t fx.emit (compared key frame fx.skew (tookFx key fx d))) := rfl

theorem only_hubWritten (t tag : Nat) (w : Option (Nat × Nat × Bool)) (d : Dev) : ChangesOnly [.fab] d (hubWritten t tag w d) := by
  rcases w with _ | ⟨sl, v, p⟩
  · exact ChangesOnly.refl _ _
  · exact only_fab _ _

theorem coreStep_emitted (key t : Nat) (e : Option (Nat × Tok)) (d : Dev) : CoreStep [.outs] key d (emitted key t e d) := by
  rcases e with _ | ⟨m, tok⟩
  · exact CoreStep.refl _ _ _
  · exact coreStep_emitAll _ _ _ _ _

/-- An operation that compares no tags changes its outputs alone behind its own writes. -/
theorem coreStep_applyFx {fx : Fx} (hs : fx.skew = none) (key t frame tag : Nat) (d : Dev) :
    CoreStep [.outs] key (tookFx key fx d) (applyFx key t frame tag fx d) := by
  rw [applyFx_eq, hs]
  exact (coreStep_emitted _ _ _ _).trans (coreStep_of_only (only_hubWritten _ _ _ _) (by decide) (by decide))

/-! ### The issue (R111 to R114) -/

section Issue

variable {o : (Nat → List Upset → Instr) × (Nat → Bool)} {f : IssueArgs → Core → Fx} {key t : Nat} {k : Cand} {s : State}

theorem completes_issue (ho : IssuesOp o f) (h : Issues o.2 key t k s.dev) (hop : opOf k.word ≠ 0x04) :
    Completes (exec (o.1 key []) s) s fun d =>
      d.now = max t s.dev.now ∧ (coreOf d key).lastIssue = some t ∧ stepInst t k ∈ (coreOf d key).insts ∧
      (coreOf d key).slots = (consume (coreOf s.dev key) k).slots ∧ (coreOf d key).wdCount = 0 ∧ (coreOf d key).wdAt = t + 1 ∧
      (∀ j, j ≠ key → coreOf d j = coreOf s.dev j) := by
  obtain ⟨hexec, htame⟩ := ho
  have hpick : pick (coreOf s.dev key) (issueFrom key s.dev) = some (t, k) := by
    obtain ⟨-, -, -, hpick, -⟩ := h
    exact hpick
  obtain ⟨hwrites, hskew⟩ := htame (argsOf key t k s.dev) (issued t k (coreOf s.dev key)) rfl (sel_of_issues h) hop
  rw [hexec]
  refine completes_op h ?_
  generalize f (argsOf key t k s.dev) (issued t k (coreOf s.dev key)) = fx at hwrites hskew
  obtain ⟨hstep, hother, hnow⟩ := coreStep_applyFx hskew key t (argsOf key t k s.dev).frame k.tag (advTo t s.dev)
  rw [tookFx_core] at hstep
  have hall := hwrites.trans hstep.all
  refine ⟨hnow.trans (only_tookFx key fx (advTo t s.dev) .now (by decide)), hall.lastIssue.trans (issued_lastIssue _ _ _), ?_,
    hall.slots.trans (issued_slots _ _ _), hall.wdCount.trans (issued_wdCount _ _ _), hall.wdAt.trans (issued_wdAt _ _ _), fun j hj => ?_⟩
  · rw [hall.insts]
    exact stepInst_mem hpick
  · rw [hother j hj, tookFx_other hj, coreOf_advTo]

/-- What is not the core's next instruction changes nothing (R113, R118). -/
theorem exec_notNext (ho : IssuesOp o f) {up : List Upset} (hkey : coreKey key = true) (h : coresOn s.dev = false ∨ coreRuns s.dev key = false ∨
    ∀ t k, pick (coreOf s.dev key) (issueFrom key s.dev) = some (t, k) → o.2 k.word = false) : exec (o.1 key up) s = .next s := by
  have hdev : (if coresOn s.dev then issueOn o.2 f key up s.dev else s.dev) = s.dev := by
    split
    · next hon =>
      unfold issueOn
      dsimp only
      split
      · rfl
      · next t k hsome =>
        refine if_pos ?_
        rcases h with hoff | hruns | hnext
        · exact absurd hon (by simp [hoff])
        · exact .inr hruns
        · exact .inl (hnext t k hsome)
    · rfl
  rw [ho.1]
  refine (run_ok hkey).trans ?_
  rw [hdev]

/-! ### Upsets (R103) -/

theorem mem_of_upsetHits {c : Core} {up : List Upset} {u : Upset} (h : u ∈ upsetHits c k up) : u ∈ up := by
  obtain ⟨w, -, hw⟩ := List.mem_filterMap.mp h
  exact List.mem_of_find?_eq_some hw

theorem exec_singleUpsets (ho : IssuesOp o f) {up : List Upset} (h : Issues o.2 key t k s.dev) (hs : ∀ u ∈ up, u.double = false) :
    ∃ d, exec (o.1 key []) s = .next { s with dev := d } ∧
      exec (o.1 key up) s = .next { s with dev := (upsetHits (coreOf s.dev key) k up).foldl (fun d _ => bump R.ECC_CORRECTED d) d } := by
  have hsingle : ∀ u ∈ upsetHits (coreOf s.dev key) k up, u.double = false := fun u hu => hs u (mem_of_upsetHits hu)
  have hbad : (upsetHits (coreOf s.dev key) k up).any (fun u => u.double) = false := by
    rw [List.any_eq_false]
    exact fun u hu => by simp [hsingle u hu]
  refine ⟨issueOn o.2 f key [] s.dev, by rw [ho.1, opCmd_issues h], ?_⟩
  rw [ho.1, opCmd_issues h, issueOn_up h f up, hbad, issueOn_issues h]
  have hcount : ∀ d, (upsetHits (coreOf s.dev key) k up).foldl (takeUpset key) d =
      (upsetHits (coreOf s.dev key) k up).foldl (fun d _ => bump R.ECC_CORRECTED d) d := fun d =>
    List.foldl_ext _ _ d fun d u hu => by simp [takeUpset, hsingle u hu]
  rw [hcount]
  rfl

/-- A word that is read once has its upset once. -/
theorem filterMap_eraseDups_eq {α β : Type} [BEq α] [LawfulBEq α] [DecidableEq α] (a : α) (b : β) (l : List α) (h : a ∈ l) :
    l.eraseDups.filterMap (fun w => if a = w then some b else none) = [b] := by
  induction hn : l.length using Nat.strong_induction_on generalizing l with
  | _ n ih =>
    rcases l with _ | ⟨c, l⟩
    · exact absurd h List.not_mem_nil
    · rw [List.eraseDups_cons]
      by_cases hc : a = c
      · subst hc
        have hnone : (l.filter (fun x => !x == a)).eraseDups.filterMap (fun w => if a = w then some b else none) = [] :=
          List.filterMap_eq_nil_iff.mpr fun w hw => by
            have hne := (List.mem_filter.mp (List.mem_eraseDups.mp hw)).2
            refine if_neg fun e => ?_
            simp [e] at hne
        simp [hnone]
      · have hmem : a ∈ l.filter (fun x => !x == c) :=
          List.mem_filter.mpr ⟨(List.mem_cons.mp h).resolve_left hc, by simp [hc]⟩
        have hlt : (l.filter (fun x => !x == c)).length < n := by
          have := List.length_filter_le (fun x => !x == c) l
          rw [← hn, List.length_cons]
          omega
        simp [hc, ih _ hlt _ hmem rfl]

theorem upsetHits_single {c : Core} {u : Upset} (h : (sramReads c k).contains (u.mem, u.word) = true) : upsetHits c k [u] = [u] := by
  have hfind : (fun w : Nat × Nat => [u].find? (fun u => decide ((u.mem, u.word) = w))) = fun w => if (u.mem, u.word) = w then some u else none := by
    funext w
    by_cases hw : (u.mem, u.word) = w <;> simp [hw]
  rw [upsetHits, hfind]
  exact filterMap_eraseDups_eq _ _ _ (by simpa using h)

end Issue

/-! ### What an uncorrectable error needs of the block that an operation leaves -/

/-- From block a to block b the map, the loaded contexts, a held class D fault, a restart and the count of R103 stay. -/
structure JobKeeps (a b : Dev) : Prop where
  fuses : b.fuses = a.fuses
  map : b.ldr.map = a.ldr.map
  ctxs : b.ldr.ctxs = a.ldr.ctxs
  dev : b.flt.dev = a.flt.dev
  restart : dget R.RESTART_STATE b = dget R.RESTART_STATE a
  count : dget R.ECC_UNCORRECTED b = dget R.ECC_UNCORRECTED a

theorem JobKeeps.refl (a : Dev) : JobKeeps a a := ⟨rfl, rfl, rfl, rfl, rfl, rfl⟩

theorem JobKeeps.trans {a b c : Dev} (h : JobKeeps a b) (g : JobKeeps b c) : JobKeeps a c :=
  ⟨g.fuses.trans h.fuses, g.map.trans h.map, g.ctxs.trans h.ctxs, g.dev.trans h.dev, g.restart.trans h.restart, g.count.trans h.count⟩

theorem JobKeeps.foldl {α : Type} {f : Dev → α → Dev} (h : ∀ d x, JobKeeps d (f d x)) (l : List α) (d : Dev) : JobKeeps d (l.foldl f d) := by
  induction l generalizing d with
  | nil => exact JobKeeps.refl _
  | cons x l ih => exact (h d x).trans (ih _)

theorem jobKeeps_of {ps : List Part} {ks : List Nat} {a b : Dev} (h : ChangesOnly ps a b) (hseb : SameEntriesBut ks a b) (hd : b.flt.dev = a.flt.dev)
    (hf : Part.fuses ∉ ps) (hl : Part.ldr ∉ ps) (hr : R.RESTART_STATE.key ∉ ks) (he : R.ECC_UNCORRECTED.key ∉ ks) : JobKeeps a b :=
  ⟨h .fuses hf, congrArg Ldr.map (h .ldr hl), congrArg Ldr.ctxs (h .ldr hl), hd, hseb _ hr, hseb _ he⟩

/-- A step that leaves the faults alone. -/
theorem jobKeeps_of_only {ps : List Part} {ks : List Nat} {a b : Dev} (h : ChangesOnly ps a b) (hseb : SameEntriesBut ks a b) (ht : Part.flt ∉ ps)
    (hf : Part.fuses ∉ ps) (hl : Part.ldr ∉ ps) (hr : R.RESTART_STATE.key ∉ ks) (he : R.ECC_UNCORRECTED.key ∉ ks) : JobKeeps a b :=
  jobKeeps_of h hseb (congrArg Flt.dev (h .flt ht)) hf hl hr he

theorem JobKeeps.runs {a b : Dev} (h : JobKeeps a b) (hj : JobRuns a) : JobRuns b := jobRuns_of hj h.dev h.restart

theorem JobKeeps.used {a b : Dev} (h : JobKeeps a b) (key : Nat) : coreUsed b key = coreUsed a key := by
  have hparts (d : Dev) : coreUsed d key = coreUsed { Dev.reset with
      fuses := d.fuses, ldr := { Dev.reset.ldr with map := d.ldr.map, ctxs := d.ldr.ctxs } } key := rfl
  rw [hparts b, hparts a, h.fuses, h.map, h.ctxs]

theorem jobKeeps_report {code : Nat} (h : code < 0x3000) (a0 a1 : Nat) (d : Dev) : JobKeeps d (report code a0 a1 d) :=
  jobKeeps_of (only_report h a0 a1 d) (seb_report h a0 a1 d) (report_dev h a0 a1 d) (by decide) (by decide) (by decide) (by decide)

theorem jobKeeps_retireCoreP {d : Dev} (h : JobRuns d) (key : Nat) : JobKeeps d (retireCoreP key d) := by
  obtain ⟨l, f, he, hdev, hmap, hctxs, -, -⟩ := retireCoreP_eq h key
  rw [he]
  exact ⟨rfl, hmap, hctxs, hdev.trans h.1.symm, rfl, rfl⟩

theorem jobKeeps_skewNoted (key frame rcd : Nat) (d : Dev) : JobKeeps d (skewNoted key frame rcd d) :=
  jobKeeps_of_only only_skewNoted seb_skewNoted (by decide) (by decide) (by decide) (by decide) (by decide)

theorem jobKeeps_skewCheck (key frame rcd : Nat) (m : Bool) {d : Dev} (h : JobRuns d) : JobKeeps d (skewCheck key frame rcd m d) := by
  have hnoted := jobKeeps_skewNoted key frame rcd d
  cases m
  · exact jobKeeps_of_only (skewCheck_agree key frame rcd d).2 (seb_dict ((skewCheck_agree key frame rcd d).2 .dict (by decide))) (ks := [])
      (by decide) (by decide) (by decide) (by decide) (by decide)
  · rw [skewCheck_differ]
    split
    · exact (hnoted.trans (jobKeeps_report (by decide) _ _ _)).trans (jobKeeps_retireCoreP (jobRuns_report (by decide) _ _ (hnoted.runs h)) key)
    · exact hnoted.trans (jobKeeps_report (by decide) _ _ _)

theorem jobKeeps_schedFault (row n : Nat) (r : Reg) (h1 : r.key ≠ R.RESTART_STATE.key) (h2 : r.key ≠ R.ECC_UNCORRECTED.key) (d : Dev) :
    JobKeeps d (schedFault row n r d) := by
  have hframe (d : Dev) : JobKeeps d (schedFrame row n d) := by
    have hdev : (schedFrame row n d).flt.dev = d.flt.dev := by
      unfold schedFrame
      dsimp only
      refine (congrArg Flt.dev (only_invalidate n _ .flt (by decide))).trans ((report_dev (by decide) _ _ _).trans ?_)
      split
      · rfl
      · exact congrArg Flt.dev (bump_flt R.SCHEDULE_FAULT_FRAMES _)
    exact jobKeeps_of (only_schedFrame row n d) (seb_schedFrame row n d) hdev (by decide) (by decide) (by decide) (by decide)
  have hbump : JobKeeps d (bump r d) :=
    jobKeeps_of_only (only_bump r d) (seb_bump (ks := [r.key]) List.mem_cons_self d) (by decide) (by decide) (by decide) (by simpa using Ne.symm h1)
      (by simpa using Ne.symm h2)
  exact hbump.trans (hframe _)

theorem jobKeeps_setCore (key : Nat) (c : Core) (d : Dev) : JobKeeps d (setCore key c d) := ⟨rfl, rfl, rfl, rfl, rfl, rfl⟩

theorem jobKeeps_emitTo (key t out : Nat) (tok : Tok) (d : Dev) : JobKeeps d (emitTo key t out tok d) := by
  by_cases h : out = 4 → (coreOf d key).egress.length < 2
  · rw [emitTo_room h]
    exact jobKeeps_setCore _ _ _
  · obtain ⟨rfl, hfull⟩ := Classical.not_imp.mp h
    rw [emitTo_full (Nat.not_lt.mp hfull)]
    exact jobKeeps_schedFault _ _ _ (by decide) (by decide) _

theorem jobKeeps_emitted (key t : Nat) (e : Option (Nat × Tok)) (d : Dev) : JobKeeps d (emitted key t e d) := by
  rcases e with _ | ⟨m, tok⟩
  · exact JobKeeps.refl _
  · refine JobKeeps.foldl (fun d out => ?_) _ _
    split
    · exact jobKeeps_emitTo _ _ _ _ _
    · exact JobKeeps.refl _

theorem jobKeeps_hubWritten (t tag : Nat) (w : Option (Nat × Nat × Bool)) (d : Dev) : JobKeeps d (hubWritten t tag w d) :=
  jobKeeps_of_only (ks := []) (only_hubWritten t tag w d) (seb_dict (only_hubWritten t tag w d .dict (by decide))) (by decide) (by decide) (by decide)
    (by decide) (by decide)

theorem jobKeeps_tookFx (key : Nat) (fx : Fx) (d : Dev) : JobKeeps d (tookFx key fx d) :=
  jobKeeps_of_only (only_tookFx key fx d) (seb_tookFx (ks := [R.ACC_SAT.key, R.RESCALE_SAT.key]) (.inr (by decide)) (.inr (by decide)) key d)
    (by decide) (by decide) (by decide) (by decide) (by decide)

/-- Whatever an operation hands over, its job runs on. -/
theorem jobKeeps_applyFx {d : Dev} (h : JobRuns d) (key t frame tag : Nat) (fx : Fx) : JobKeeps d (applyFx key t frame tag fx d) := by
  have htook := jobKeeps_tookFx key fx d
  have hcompared : JobKeeps (tookFx key fx d) (compared key frame fx.skew (tookFx key fx d)) := by
    rcases fx.skew with _ | ⟨m, r⟩
    · exact JobKeeps.refl _
    · exact jobKeeps_skewCheck _ _ _ _ (htook.runs h)
  rw [applyFx_eq]
  exact ((htook.trans hcompared).trans (jobKeeps_emitted key t fx.emit _)).trans (jobKeeps_hubWritten t tag fx.ringW _)

theorem completes_doubleUpset {o : (Nat → List Upset → Instr) × (Nat → Bool)} {f : IssueArgs → Core → Fx} {key t : Nat} {k : Cand} {s : State}
    {u : Upset} (ho : IssuesOp o f) (h : Issues o.2 key t k s.dev) (hk : key < 65536) (hd : u.double = true)
    (hread : (sramReads (coreOf s.dev key) k).contains (u.mem, u.word) = true) (hj : JobRuns s.dev) :
    Completes (exec (o.1 key [u]) s) s fun d =>
      dget R.ECC_UNCORRECTED d = satAdd32 (dget R.ECC_UNCORRECTED s.dev) 1 ∧ LastFault 0x2041 d ∧ Retired key s.dev d := by
  have hadv : JobKeeps s.dev (advTo t s.dev) := ⟨rfl, rfl, rfl, rfl, rfl, rfl⟩
  refine ⟨_, by rw [ho.1, opCmd_issues h], ?_⟩
  rw [issueOn_up h f [u], upsetHits_single hread]
  generalize f _ (issued t k (coreOf s.dev key)) = fx
  have hkeeps := hadv.trans (jobKeeps_applyFx (hadv.runs hj) key t (argsOf key t k s.dev).frame k.tag fx)
  generalize applyFx key t (argsOf key t k s.dev).frame k.tag fx (advTo t s.dev) = d at hkeeps
  have hruns := hkeeps.runs hj
  have herror : [u].foldl (takeUpset key) d = eccError key u.mem u.word false d := by simp [takeUpset, hd]
  rw [herror]
  obtain ⟨hmem, hpending⟩ := retired_eccError (mem := u.mem) (word := u.word) (scrub := false) hk hruns
  refine ⟨(eccError_counts hk hruns).trans (by rw [hkeeps.count]), lastFault_eccError hk hruns, ?_, fun hu => hpending ((hkeeps.used key).trans hu)⟩
  rwa [retiredSet, hkeeps.fuses, hkeeps.map] at hmem

/-- Settles O6: every command of Table 5.5 is one use of the firing rule, whatever its operation. -/
theorem firingRule : Obligations.FiringRule := by
  refine ⟨fun o ho key t k s h hop => ?_, fun o ho key up s hkey h => ?_, fun o ho key t k up s h hs => ?_,
    fun o ho key t k u s h hk hd hread hdev hrestart => ?_⟩
  · obtain ⟨f, hf⟩ := issuesOp_of_mem ho
    exact completes_issue hf h hop
  · obtain ⟨f, hf⟩ := issuesOp_of_mem ho
    exact exec_notNext hf hkey h
  · obtain ⟨f, hf⟩ := issuesOp_of_mem ho
    exact exec_singleUpsets hf h hs
  · obtain ⟨f, hf⟩ := issuesOp_of_mem ho
    exact completes_doubleUpset hf h hk hd hread ⟨hdev, hrestart⟩

end Sys2Proof.Machine
end

section
/-! SUPPORT. The weight encoder's update (R188 to R198, R258): its overlays, its states, what its effect writes and what it leaves alone. -/

namespace Sys2Proof.Machine

/-! ### One change of a list of cores -/

/-- A change that does nothing a second time, made in each core of a list, which may name a core twice. -/
theorem coreOf_foldl_modCore {f : Core → Core} (hf : ∀ c, f (f c) = f c) (l : List Nat) (d : Dev) (k : Nat) :
    coreOf (l.foldl (fun d k => modCore k f d) d) k = if l.contains k then f (coreOf d k) else coreOf d k := by
  induction l generalizing d with
  | nil => rfl
  | cons x l ih =>
    rw [List.foldl_cons, ih]
    by_cases hk : x = k
    · subst hk
      simp [hf]
    · rw [coreOf_modCore_ne _ _ hk]
      simp [Ne.symm hk]

theorem only_foldl_modCore (f : Core → Core) (l : List Nat) (d : Dev) : ChangesOnly [.cores] d (l.foldl (fun d k => modCore k f d) d) :=
  ChangesOnly.foldl (fun d k => only_modCore k f d) l d

theorem coreOf_congr {a b : Dev} (h : b.cores = a.cores) (k : Nat) : coreOf b k = coreOf a k := by unfold coreOf; rw [h]

/-! ### Rises of a counter -/

theorem rose_zero_iff {r : Reg} {a d : Dev} : Rose r 0 a d ↔ dget r d = dget r a := by simp [Rose]

/-- A counter that stays before or after its rise has risen by that much. -/
theorem rose_of_stays_before {r : Reg} {n : Nat} {a b d : Dev} (h : dget r b = dget r a) (g : Rose r n b d) : Rose r n a d := by
  unfold Rose at g ⊢
  rwa [h] at g

theorem rose_of_stays_after {r : Reg} {n : Nat} {a b d : Dev} (h : Rose r n a b) (g : dget r d = dget r b) : Rose r n a d := g.trans h

/-! ### ENC_STATE (R363) -/

theorem dget_encState (v : Nat) (d : Dev) : dget R.ENC_STATE (encState v d) = v := by
  unfold encState
  split
  · assumption
  · rw [dget_msi, dget_dset_same]

theorem seb_encState (v : Nat) (d : Dev) : SameEntriesBut [R.ENC_STATE.key] d (encState v d) :=
  seb_ite (seb_refl _ _) ((seb_dset List.mem_cons_self _ _).trans (seb_dict (msi_dict _ _)))

theorem only_encState (v : Nat) (d : Dev) : ChangesOnly [.dict, .host] d (encState v d) :=
  (ChangesOnly.refl _ _).ite ((only_dset _ _ _).then (only_msi _ _) (by decide) (by decide))

theorem dget_encState_ne {r : Reg} (h : r.key ≠ R.ENC_STATE.key) (v : Nat) (d : Dev) : dget r (encState v d) = dget r d :=
  seb_encState v d r (by simpa using h)

theorem encState_enc (v : Nat) (d : Dev) : (encState v d).enc = d.enc := only_encState v d .enc (by decide)

theorem encState_cores (v : Nat) (d : Dev) : (encState v d).cores = d.cores := only_encState v d .cores (by decide)

/-! ### The staged blocks leave the overlays (R189) -/

/-- The overlays of a core are empty. -/
def withoutOverlays (c : Core) : Core := { c with ovl := [], ovlFrom := none, ovlHeld := none }

theorem dropStaged_eq (d : Dev) : ∃ e : Dev, e = (encCores d).foldl (fun d k => modCore k withoutOverlays d) d ∧
    dropStaged d = { e with enc := { e.enc with staged := [], next := 0, read := [], toCopy := [] } } := ⟨_, rfl, rfl⟩

theorem dropStaged_dict (d : Dev) : (dropStaged d).dict = d.dict := only_foldl_modCore withoutOverlays (encCores d) d .dict (by decide)

theorem only_dropStaged (d : Dev) : ChangesOnly [.cores, .enc] d (dropStaged d) :=
  (only_foldl_modCore withoutOverlays (encCores d) d).then (only_enc _ _) (by decide) (by decide)

/-- The encoder and the cores of the block before and after decide whether an update has been dropped. -/
theorem encDropped_congr {a b d e : Dev} (h : EncDropped a d) (hae : b.enc = a.enc) (hac : b.cores = a.cores) (hde : e.enc = d.enc)
    (hdc : e.cores = d.cores) : EncDropped b e := by
  have hcores : encCores b = encCores a := by unfold encCores; rw [hae]
  obtain ⟨henc, hcore⟩ := h
  refine ⟨by rw [hde, hae, henc], fun k => ?_⟩
  rw [coreOf_congr hdc, hcore, hcores, coreOf_congr hac]

theorem encDropped_dropStaged (d : Dev) : EncDropped d (dropStaged d) := by
  obtain ⟨e, he, hdrop⟩ := dropStaged_eq d
  have henc : e.enc = d.enc := he ▸ only_foldl_modCore withoutOverlays (encCores d) d .enc (by decide)
  rw [hdrop]
  refine ⟨by rw [henc], fun k => ?_⟩
  have hcore := coreOf_foldl_modCore (f := withoutOverlays) (fun _ => rfl) (encCores d) d k
  rwa [← he] at hcore

/-! ### A refusal (R198) -/

/-- The update is refused with a cause, at the block that stood next. -/
def EncRefused (cause : Nat) (a d : Dev) : Prop :=
  dget R.ENC_STATE d = 5 ∧ dget R.ENC_ERROR d = cause * 2 ^ 24 + a.enc.next % 2 ^ 24 ∧ EncDropped a d ∧ LastFault 0x0341 d ∧
  SameEntriesBut (R.ENC_STATE.key :: R.ENC_ERROR.key :: reportKeys) a d ∧ ChangesOnly [.dict, .cores, .enc, .host, .flt] a d

theorem encRefused_encRefuse (cause : Nat) (d : Dev) : EncRefused cause d (encRefuse cause d) := by
  unfold encRefuse
  dsimp only
  generalize herr : cause * 2 ^ 24 + d.enc.next % 2 ^ 24 = e
  have hset : dget R.ENC_ERROR (dset R.ENC_ERROR e (dropStaged d)) = e := dget_dset_same _ _ _
  have honly := only_report (c := 0x0341) (by decide) e 0 (dset R.ENC_ERROR e (dropStaged d))
  have hseb := seb_report (c := 0x0341) (by decide) e 0 (dset R.ENC_ERROR e (dropStaged d))
  have hlast := lastFault_report (c := 0x0341) (by decide) e 0 (dset R.ENC_ERROR e (dropStaged d))
  generalize report 0x0341 e 0 (dset R.ENC_ERROR e (dropStaged d)) = r at honly hseb hlast
  refine ⟨dget_encState _ _, ?_, ?_, ?_, ?_, ?_⟩
  · rw [dget_encState_ne (by decide), hseb _ (by decide), hset, herr]
  · exact encDropped_congr (encDropped_dropStaged d) rfl rfl ((encState_enc _ _).trans (honly .enc (by decide)))
      ((encState_cores _ _).trans (honly .cores (by decide)))
  · exact hlast.of_same (dget_encState_ne (by decide) _ _) (only_encState 5 r .undef (by decide))
  · exact (seb_dict (dropStaged_dict d)).trans ((seb_dset (by simp) _ _).trans ((hseb.mono (by simp)).trans ((seb_encState _ _).mono (by simp))))
  · exact ((only_dropStaged d).mono (by decide)).trans (((only_dset _ _ _).mono (by decide)).trans ((honly.mono (by decide)).trans
      ((only_encState _ _).mono (by decide))))

/-! ### The command entries (Table 7.13) -/

/-- Entry r is a command that takes the value 1 alone and has effect f, with the code of its refusal. -/
structure EncCommand (r : Reg) (f : Dev → Dev × Nat) : Prop where
  row : rowIs r ⟨0x3810, 1, r.key % 256, 1, .u8, .wo, .range 1 1, .none, false⟩ = true
  effect : ∀ c d, command c r.key 1 none d = ((f d).1, (f d).2, r.key)

theorem encCommand_start : EncCommand R.ENC_START encStart := ⟨by decide +kernel, fun _ _ => rfl⟩
theorem encCommand_commit : EncCommand R.ENC_COMMIT encCommit := ⟨by decide +kernel, fun _ _ => rfl⟩
theorem encCommand_abandon : EncCommand R.ENC_ABANDON encAbandon := ⟨by decide +kernel, fun _ _ => rfl⟩

section Commands

variable {c code : Nat} {r : Reg} {f : Dev → Dev × Nat} {d e : Dev}

theorem EncCommand.entryWrite_eq (h : EncCommand r f) (ha : Asks c d) :
    entryWrite c (r.key / 256) (r.key % 256) (natural 1) none (asked c d) = ((f (asked c d)).1, (f (asked c d)).2, r.key) :=
  (entryWrite_row _ ha h.row ⟨nofun, nofun⟩ (by simp [tyBytes]) rfl rfl rfl).trans (h.effect c _)

/-- A command that is not refused has its effect on the block as the request marked it. -/
theorem EncCommand.rowWrite_eq (h : EncCommand r f) (ha : Asks c d) (hf : f (asked c d) = (e, 0)) : rowWrite c r 1 d = e :=
  rowWrite_admitted ha (by rw [h.entryWrite_eq ha, hf])

/-- A command that is refused turns its client away. -/
theorem EncCommand.turnedAway (h : EncCommand r f) (ha : Asks c d) (h0 : code ≠ 0) (hlt : code < 2 ^ 16)
    (hf : f (asked c d) = (asked c d, code)) : TurnedAway c code d (rowWrite c r 1 d) :=
  request_refused (key := r.key) ha h0 hlt (by rw [h.entryWrite_eq ha, hf])

end Commands

theorem encStart_refused {d : Dev} (h : (dget R.ENC_STATE d ≠ 0 ∧ dget R.ENC_STATE d ≠ 5) ∨ preparing d = true) : encStart d = (d, 0xA00B) :=
  if_pos h

theorem encStart_empty {d : Dev} (h : dget R.ENC_STATE d = 0 ∨ dget R.ENC_STATE d = 5) (hp : preparing d = false)
    (h0 : dget R.ENC_LIST_COUNT d = 0) : encStart d = (d, 0xA006) := by
  unfold encStart
  dsimp only
  rw [if_neg (by simp [hp]; omega), if_pos h0]

theorem encStart_begins {d : Dev} (h : dget R.ENC_STATE d = 0 ∨ dget R.ENC_STATE d = 5) (hp : preparing d = false)
    (h0 : dget R.ENC_LIST_COUNT d ≠ 0) : encStart d = (encState 1 (dset R.ENC_ERROR 0 (dropStaged d)), 0) := by
  unfold encStart
  dsimp only
  rw [if_neg (by simp [hp]; omega), if_neg h0]

theorem encCommit_refused {d : Dev} (h : dget R.ENC_STATE d ≠ 2) : encCommit d = (d, 0xA00B) := if_pos h

theorem encCommit_armed {d : Dev} (h : dget R.ENC_STATE d = 2) (ha : armed d = true) : encCommit d = (encState 3 d, 0) := by
  unfold encCommit
  rw [if_neg (by simp [h]), if_pos ha]

theorem encCommit_disarmed {d : Dev} (h : dget R.ENC_STATE d = 2) (ha : armed d = false) : encCommit d = (encApply 0 (encState 3 d), 0) := by
  unfold encCommit
  rw [if_neg (by simp [h]), if_neg (by simp [ha])]

theorem encAbandon_refused {d : Dev} (h1 : dget R.ENC_STATE d ≠ 1) (h2 : dget R.ENC_STATE d ≠ 2) (h5 : dget R.ENC_STATE d ≠ 5) :
    encAbandon d = (d, 0xA00B) := if_neg (by tauto)

theorem encAbandon_drops {d : Dev} (h : dget R.ENC_STATE d = 1 ∨ dget R.ENC_STATE d = 2 ∨ dget R.ENC_STATE d = 5) :
    encAbandon d = (encState 0 (dropStaged d), 0) := if_pos h

/-! ### What the effect of an update writes (R187, R190, R258) -/

/-- The entries beyond its own that an update's effect may write: the monitors' summary, and entries from CLIP_SHARE on in the tables. -/
def shownByEffect (k : Nat) : Prop := k = R.STALE_MONITORS.key ∨ k = R.FIRST_STALE_MONITOR.key ∨ (R.CLIP_SHARE 0).key ≤ k

/-- From block a to block b the update itself stays, as do all other parts of the block and the entries below those of the monitors. -/
structure EffectKeeps (a b : Dev) : Prop where
  only : ChangesOnly [.dict, .enc, .sec] a b
  staged : b.enc.staged = a.enc.staged
  read : b.enc.read = a.enc.read
  entries : ∀ r : Reg, ¬ shownByEffect r.key → dget r b = dget r a

theorem EffectKeeps.refl (a : Dev) : EffectKeeps a a := ⟨ChangesOnly.refl _ _, rfl, rfl, fun _ _ => rfl⟩

theorem EffectKeeps.trans {a b c : Dev} (h : EffectKeeps a b) (g : EffectKeeps b c) : EffectKeeps a c :=
  ⟨h.only.trans g.only, g.staged.trans h.staged, g.read.trans h.read, fun r hr => (g.entries r hr).trans (h.entries r hr)⟩

theorem EffectKeeps.ite {p : Prop} [Decidable p] {a b c : Dev} (h : EffectKeeps a b) (g : EffectKeeps a c) :
    EffectKeeps a (if p then b else c) := by split <;> assumption

theorem EffectKeeps.foldl {α : Type} {f : Dev → α → Dev} (h : ∀ d x, EffectKeeps d (f d x)) (l : List α) (d : Dev) :
    EffectKeeps d (l.foldl f d) := by
  induction l generalizing d with
  | nil => exact EffectKeeps.refl _
  | cons x l ih => exact (h d x).trans (ih _)

theorem effectKeeps_dset {r : Reg} (h : shownByEffect r.key) (v : Nat) (d : Dev) : EffectKeeps d (dset r v d) :=
  ⟨(only_dset r v d).mono (by decide), rfl, rfl, fun _ hq => dget_dset_ne v d (fun e => hq (e ▸ h))⟩

theorem effectKeeps_bump {r : Reg} (h : shownByEffect r.key) (d : Dev) : EffectKeeps d (bump r d) :=
  ⟨(only_bump r d).mono (by decide), by rw [bump_enc], by rw [bump_enc], fun _ hq => dget_bump_ne d (fun e => hq (e ▸ h))⟩

theorem effectKeeps_enc {x : Enc} {d : Dev} (hs : x.staged = d.enc.staged) (hr : x.read = d.enc.read) : EffectKeeps d { d with enc := x } :=
  ⟨(only_enc x d).mono (by decide), hs, hr, fun _ _ => rfl⟩

theorem effectKeeps_extend (i ev : Nat) (dg : List Nat) (d : Dev) : EffectKeeps d (extend i ev dg d) := by
  have hmr : shownByEffect (R.MR i).key := .inr (.inr (by simp only [R.CLIP_SHARE, R.MR]; omega))
  have hsec (x : Sec) (d : Dev) : EffectKeeps d { d with sec := x } := ⟨(only_sec x d).mono (by decide), rfl, rfl, fun _ _ => rfl⟩
  unfold extend
  dsimp only
  exact (effectKeeps_dset hmr _ _).trans (((hsec _ _).ite (effectKeeps_bump (.inr (.inr (by decide))) _)).trans
    (effectKeeps_bump (.inr (.inr (by decide))) _))

theorem effectKeeps_countsFrom (k g : Nat) (d : Dev) : EffectKeeps d (countsFrom' k g d) := effectKeeps_enc rfl rfl

theorem effectKeeps_showMons (d : Dev) : EffectKeeps d (showMons d) :=
  (effectKeeps_dset (r := R.STALE_MONITORS) (.inl rfl) _ d).trans (effectKeeps_dset (r := R.FIRST_STALE_MONITOR) (.inr (.inl rfl)) _ _)

theorem effectKeeps_clearMons (k : Nat) (d : Dev) : EffectKeeps d (clearMons k d) := by
  have hshare (m : Nat) : shownByEffect (R.CLIP_SHARE m).key := .inr (.inr (by simp only [R.CLIP_SHARE]; omega))
  have hshares := EffectKeeps.foldl (fun d m => effectKeeps_dset (hshare m) 0 d)
    ((d.enc.mons.map Prod.fst).filter (fun m => decide (slotOfMon d m = some k))) d
  unfold clearMons
  refine hshares.trans (EffectKeeps.trans ?_ (effectKeeps_showMons _))
  exact effectKeeps_enc rfl rfl

/-- Slot k takes the digest of its weights, a measurement of it, and empty monitors that count from frame g on. -/
def slotEffect (g : Nat) (d : Dev) (k : Nat) : Dev :=
  clearMons k (countsFrom' k g (extend 3 9 (sm3 ([k] ++ bytesOf g 8 ++ bytesOf (liveAfter d k) 32))
    (dset (R.LIVE_WEIGHT_DIGEST k) (liveAfter d k) d)))

theorem encEffect_eq (g : Nat) (d : Dev) :
    encEffect g d = encState 4 ((encSlots d).foldl (slotEffect g) (dset R.ENC_COMMIT_FRAME g d)) := rfl

theorem effectKeeps_slotEffect (g k : Nat) (d : Dev) :
    EffectKeeps (dset (R.LIVE_WEIGHT_DIGEST k) (liveAfter d k) d) (slotEffect g d k) :=
  (effectKeeps_extend _ _ _ _).trans ((effectKeeps_countsFrom _ _ _).trans (effectKeeps_clearMons _ _))

theorem only_slotEffect (g k : Nat) (d : Dev) : ChangesOnly [.dict, .enc, .sec] d (slotEffect g d k) :=
  ((only_dset _ _ _).mono (by decide)).trans (effectKeeps_slotEffect g k d).only

theorem liveDigest_notShown {k : Nat} (h : k < 4) : ¬ shownByEffect (R.LIVE_WEIGHT_DIGEST k).key := by
  simp only [shownByEffect, R.STALE_MONITORS, R.FIRST_STALE_MONITOR, R.CLIP_SHARE, R.LIVE_WEIGHT_DIGEST]
  omega

theorem dget_slotEffect_live {g k : Nat} (h : k < 4) (d : Dev) : dget (R.LIVE_WEIGHT_DIGEST k) (slotEffect g d k) = liveAfter d k :=
  ((effectKeeps_slotEffect g k d).entries _ (liveDigest_notShown h)).trans (dget_dset_same _ _ _)

theorem dget_slotEffect_ne {g k : Nat} {r : Reg} (hr : ¬ shownByEffect r.key) (hk : (R.LIVE_WEIGHT_DIGEST k).key ≠ r.key) (d : Dev) :
    dget r (slotEffect g d k) = dget r d :=
  ((effectKeeps_slotEffect g k d).entries r hr).trans (dget_dset_ne _ _ hk)

theorem liveAfter_congr {a b : Dev} {k : Nat} (hd : dget (R.LIVE_WEIGHT_DIGEST k) b = dget (R.LIVE_WEIGHT_DIGEST k) a)
    (hr : b.enc.read = a.enc.read) : liveAfter b k = liveAfter a k := by unfold liveAfter; rw [hd, hr]

theorem liveDigest_key_ne {j k : Nat} (h : j ≠ k) : (R.LIVE_WEIGHT_DIGEST j).key ≠ (R.LIVE_WEIGHT_DIGEST k).key := by
  simp only [R.LIVE_WEIGHT_DIGEST]; omega

/-- Over a run of slots the update and the other parts stay, and so do the entries that are none of theirs. -/
theorem foldl_slotEffect (g : Nat) (l : List Nat) (d : Dev) :
    ChangesOnly [.dict, .enc, .sec] d (l.foldl (slotEffect g) d) ∧ (l.foldl (slotEffect g) d).enc.staged = d.enc.staged ∧
    ∀ r : Reg, ¬ shownByEffect r.key → (∀ k ∈ l, (R.LIVE_WEIGHT_DIGEST k).key ≠ r.key) →
      dget r (l.foldl (slotEffect g) d) = dget r d := by
  induction l generalizing d with
  | nil => exact ⟨ChangesOnly.refl _ _, rfl, fun _ _ _ => rfl⟩
  | cons k l ih =>
    obtain ⟨honly, hstaged, hentries⟩ := ih (slotEffect g d k)
    refine ⟨(only_slotEffect g k d).trans honly, hstaged.trans (effectKeeps_slotEffect g k d).staged, fun r hr hl => ?_⟩
    exact (hentries r hr fun j hj => hl j (List.mem_cons_of_mem _ hj)).trans (dget_slotEffect_ne hr (hl k List.mem_cons_self) d)

/-- Each slot of the run takes its new digest from the one it had, and the others keep theirs. -/
theorem dget_foldl_slotEffect {g k : Nat} (h : k < 4) {l : List Nat} (hl : l.Nodup) (d : Dev) :
    dget (R.LIVE_WEIGHT_DIGEST k) (l.foldl (slotEffect g) d) = if l.contains k then liveAfter d k else dget (R.LIVE_WEIGHT_DIGEST k) d := by
  induction l generalizing d with
  | nil => rfl
  | cons j l ih =>
    obtain ⟨hj, hnodup⟩ := List.nodup_cons.1 hl
    rw [List.foldl_cons, ih hnodup]
    by_cases hjk : j = k
    · subst hjk
      simp [hj, dget_slotEffect_live h]
    · have hkeep := dget_slotEffect_ne (g := g) (liveDigest_notShown h) (liveDigest_key_ne hjk) d
      rw [liveAfter_congr hkeep (effectKeeps_slotEffect g j d).read, hkeep]
      simp [Ne.symm hjk]

theorem nodup_encSlots (d : Dev) : (encSlots d).Nodup := List.nodup_range.filter _

theorem lt_of_mem_encSlots {d : Dev} {k : Nat} (h : k ∈ encSlots d) : k < 4 := List.mem_range.1 (List.mem_of_mem_filter h)

/-- The update is in effect from frame g on: the encoder APPLIED, its frame shown, the digests of its slots taken anew. -/
structure InEffect (g : Nat) (a d : Dev) : Prop where
  state : dget R.ENC_STATE d = 4
  frame : dget R.ENC_COMMIT_FRAME d = g
  live : ∀ k, k < 4 → dget (R.LIVE_WEIGHT_DIGEST k) d =
    if (encSlots a).contains k then liveAfter a k else dget (R.LIVE_WEIGHT_DIGEST k) a
  staged : d.enc.staged = a.enc.staged

theorem InEffect.congr {g : Nat} {a b d e : Dev} (h : InEffect g a d) (hae : b.enc = a.enc)
    (had : ∀ k, k < 4 → dget (R.LIVE_WEIGHT_DIGEST k) b = dget (R.LIVE_WEIGHT_DIGEST k) a)
    (hdd : e.dict = d.dict) (hds : e.enc.staged = d.enc.staged) : InEffect g b e := by
  have hsame (r : Reg) : dget r e = dget r d := seb_dict (ks := []) hdd r (by simp)
  have hslots : encSlots b = encSlots a := by unfold encSlots; rw [hae]
  refine ⟨(hsame _).trans h.state, (hsame _).trans h.frame, fun k hk => ?_, by rw [hds, h.staged, hae]⟩
  rw [hsame, h.live k hk, hslots, liveAfter_congr (had k hk) (by rw [hae]), had k hk]

/-- The entries that are none of an update's digests and no monitor's keep their values, but for the encoder's own two. -/
theorem dget_encEffect {r : Reg} (hs : r.key ≠ R.ENC_STATE.key) (hr : ¬ shownByEffect r.key)
    (hl : r.key < (R.LIVE_WEIGHT_DIGEST 0).key ∨ (R.LIVE_WEIGHT_DIGEST 4).key ≤ r.key) (g : Nat) (d : Dev) :
    dget r (encEffect g d) = dget r (dset R.ENC_COMMIT_FRAME g d) := by
  rw [encEffect_eq, dget_encState_ne hs]
  refine (foldl_slotEffect g (encSlots d) _).2.2 r hr fun k hk => ?_
  have hk4 := lt_of_mem_encSlots hk
  simp only [R.LIVE_WEIGHT_DIGEST] at hl ⊢
  omega

theorem arrayState_encEffect (g : Nat) (d : Dev) : dget R.ARRAY_STATE (encEffect g d) = dget R.ARRAY_STATE d :=
  (dget_encEffect (by decide) (by unfold shownByEffect; decide) (by decide) g d).trans (dget_dset_ne _ _ (by decide))

theorem inEffect_encEffect (g : Nat) (d : Dev) : InEffect g d (encEffect g d) := by
  refine ⟨dget_encState _ _, ?_, fun k hk => ?_, ?_⟩
  · rw [dget_encEffect (by decide) (by unfold shownByEffect; decide) (by decide), dget_dset_same]
  · have hcommit : dget (R.LIVE_WEIGHT_DIGEST k) (dset R.ENC_COMMIT_FRAME g d) = dget (R.LIVE_WEIGHT_DIGEST k) d :=
      dget_dset_ne _ _ (by simp only [R.ENC_COMMIT_FRAME, R.LIVE_WEIGHT_DIGEST]; omega)
    rw [encEffect_eq, dget_encState_ne (by simp only [R.ENC_STATE, R.LIVE_WEIGHT_DIGEST]; omega), dget_foldl_slotEffect hk (nodup_encSlots d),
      liveAfter_congr hcommit rfl, hcommit]
  · rw [encEffect_eq, encState_enc]
    exact (foldl_slotEffect g (encSlots d) _).2.1

theorem only_encEffect (g : Nat) (d : Dev) : ChangesOnly [.dict, .enc, .sec, .host] d (encEffect g d) := by
  rw [encEffect_eq]
  exact ((only_dset _ _ _).mono (by decide)).trans (((foldl_slotEffect g _ _).1.mono (by decide)).trans ((only_encState _ _).mono (by decide)))

/-! ### The overlays of an update that takes effect while the array is not armed (R193) -/

/-- The update applies from frame 0 on: in effect, its cores still to copy it, and in each of them no hold left. -/
structure AppliedAtOnce (a d : Dev) : Prop extends InEffect 0 a d where
  toCopy : d.enc.toCopy = encCores a
  cores : ∀ k, coreOf d k = if (encCores a).contains k then { coreOf a k with ovlFrom := some 0, ovlHeld := none } else coreOf a k

/-- The hold of a resynchronisation as it stands once the update of frame g applies (R181). -/
def heldAfter (g : Nat) (d : Dev) (h : Option Nat) : Option Nat :=
  match h with
  | some x => if x ≤ g ∨ armed d = false then none else some x
  | none => none

theorem heldAfter_disarmed {d : Dev} (h : armed d = false) (g : Nat) (x : Option Nat) : heldAfter g d x = none := by
  cases x <;> simp [heldAfter, h]

/-- A core's overlays apply from frame 0 on, and no hold is left. -/
def appliedNow (c : Core) : Core := { c with ovlFrom := some 0, ovlHeld := none }

theorem encApply_disarmed {d : Dev} (h : armed d = false) :
    ∃ e : Dev, e = (encCores d).foldl (fun e k => modCore k appliedNow e) (encEffect 0 d) ∧
      encApply 0 d = { e with enc := { e.enc with toCopy := encCores d } } := by
  have hcore : (fun c : Core => { c with ovlFrom := some 0, ovlHeld := heldAfter 0 (encEffect 0 d) c.ovlHeld }) = appliedNow := by
    funext c
    rw [heldAfter_disarmed ((armed_congr (arrayState_encEffect 0 d)).trans h)]
    rfl
  refine ⟨_, rfl, ?_⟩
  rw [← hcore]
  rfl

theorem appliedAtOnce_encApply {d : Dev} (h : armed d = false) : AppliedAtOnce d (encApply 0 d) := by
  have heffect := inEffect_encEffect 0 d
  obtain ⟨e, he, happly⟩ := encApply_disarmed h
  have honly : ChangesOnly [.cores] (encEffect 0 d) e := he ▸ only_foldl_modCore appliedNow (encCores d) (encEffect 0 d)
  have hstaged : e.enc.staged = (encEffect 0 d).enc.staged := congrArg Enc.staged (honly .enc (by decide))
  rw [happly]
  refine ⟨heffect.congr rfl (fun _ _ => rfl) (honly .dict (by decide)) hstaged, rfl, fun k => ?_⟩
  have hcore := coreOf_foldl_modCore (f := appliedNow) (fun _ => rfl) (encCores d) (encEffect 0 d) k
  rwa [← he, coreOf_congr (only_encEffect 0 d .cores (by decide))] at hcore

theorem arrayState_encApply {d : Dev} (h : armed d = false) : dget R.ARRAY_STATE (encApply 0 d) = dget R.ARRAY_STATE d := by
  obtain ⟨e, he, happly⟩ := encApply_disarmed h
  have honly : ChangesOnly [.cores] (encEffect 0 d) e := he ▸ only_foldl_modCore appliedNow (encCores d) (encEffect 0 d)
  rw [happly, ← arrayState_encEffect 0 d]
  exact seb_dict (ks := []) (honly .dict (by decide)) _ (by simp)

theorem AppliedAtOnce.congr {a b d : Dev} (h : AppliedAtOnce a d) (hae : b.enc = a.enc) (hac : b.cores = a.cores)
    (had : ∀ k, k < 4 → dget (R.LIVE_WEIGHT_DIGEST k) b = dget (R.LIVE_WEIGHT_DIGEST k) a) : AppliedAtOnce b d := by
  have hcores : encCores b = encCores a := by unfold encCores; rw [hae]
  refine ⟨h.toInEffect.congr hae had rfl rfl, by rw [hcores, h.toCopy], fun k => ?_⟩
  rw [h.cores, hcores, coreOf_congr hac]

/-! ### Retirement (R191, R193, R437) -/

theorem only_retainBlk (d : Dev) (e : EncBlock) : ChangesOnly [.ldr] d (retainBlk d e) := by
  unfold retainBlk
  split
  · exact ChangesOnly.refl _ _
  · exact fun p hp => by cases p <;> first | exact absurd (by decide) hp | rfl

/-- The update is over: the encoder IDLE, nothing staged any more, its blocks counted. -/
structure UpdateOver (a d : Dev) : Prop where
  state : dget R.ENC_STATE d = 0
  enc : d.enc = { a.enc with staged := [], next := 0, read := [], toCopy := [] }
  counted : Rose R.ENC_BLOCKS_APPLIED a.enc.staged.length a d
  entries : SameEntriesBut [R.ENC_STATE.key, R.ENC_BLOCKS_APPLIED.key] a d
  only : ChangesOnly [.dict, .enc, .host, .ldr] a d

theorem updateOver_encDone (d : Dev) : UpdateOver d (encDone d) := by
  have hrose := rose_bumpBy R.ENC_BLOCKS_APPLIED d.enc.staged.length d
  have henc := bumpBy_enc R.ENC_BLOCKS_APPLIED d.enc.staged.length d
  have hseb := seb_bumpBy (ks := [R.ENC_STATE.key, R.ENC_BLOCKS_APPLIED.key]) (r := R.ENC_BLOCKS_APPLIED) (by simp) d.enc.staged.length d
  have honly := only_bumpBy R.ENC_BLOCKS_APPLIED d.enc.staged.length d
  unfold encDone
  dsimp only
  generalize bumpBy R.ENC_BLOCKS_APPLIED d.enc.staged.length d = e at hrose henc hseb honly
  refine ⟨dget_encState _ _, by rw [encState_enc, henc], rose_of_stays_after hrose (dget_encState_ne (by decide) _ _), ?_, ?_⟩
  · exact hseb.trans ((seb_dict rfl).trans ((seb_encState _ _).mono (by simp)))
  · exact (honly.mono (by decide)).trans (((only_enc _ _).mono (by decide)).trans ((only_encState _ _).mono (by decide)))

theorem updateOver_encRetired (d : Dev) : UpdateOver d (encRetired d) := by
  have hretain : ChangesOnly [.ldr] d (d.enc.staged.foldl retainBlk d) := ChangesOnly.foldl only_retainBlk _ d
  have henc : (d.enc.staged.foldl retainBlk d).enc = d.enc := hretain .enc (by decide)
  have hdict : SameEntriesBut [] d (d.enc.staged.foldl retainBlk d) := seb_dict (hretain .dict (by decide))
  obtain ⟨hstate, hupdate, hcounted, hentries, honly⟩ := updateOver_encDone (d.enc.staged.foldl retainBlk d)
  rw [henc] at hcounted
  exact ⟨hstate, hupdate.trans (by rw [henc]), rose_of_stays_before (hdict _ (by simp)) hcounted, (hdict.mono (by simp)).trans hentries,
    (hretain.mono (by decide)).trans honly⟩

theorem copyOverlays_of_empty {c : Core} (h : c.ovl = []) : copyOverlays c = withoutOverlays c := by
  simp [copyOverlays, withoutOverlays, List.range_succ, h]

theorem copyOverlays_twice (c : Core) : copyOverlays (copyOverlays c) = copyOverlays c :=
  (copyOverlays_of_empty (c := copyOverlays c) rfl).trans rfl

/-- Every core that still has to copy its overlays has copied them. -/
def overlaysCopied (d : Dev) : Dev := d.enc.toCopy.foldl (fun d k => modCore k copyOverlays d) d

theorem only_overlaysCopied (d : Dev) : ChangesOnly [.cores] d (overlaysCopied d) := only_foldl_modCore _ _ _

theorem coreOf_overlaysCopied (d : Dev) (k : Nat) :
    coreOf (overlaysCopied d) k = if d.enc.toCopy.contains k then copyOverlays (coreOf d k) else coreOf d k :=
  coreOf_foldl_modCore copyOverlays_twice _ d k

theorem encRetire_copied {d : Dev} (h : dget R.ENC_STATE d = 4) (hc : d.enc.toCopy = []) : encRetire d = encRetired d := by
  have hsettle : encSettle d = encRetired d := by
    unfold encSettle
    rw [if_pos h, hc]
    rfl
  unfold encRetire
  split
  · exact hsettle
  · exact if_pos ⟨h, hc⟩

theorem encRetire_atRest {d : Dev} (h : dget R.ENC_STATE d = 4) (ha : arrayState d ≠ 2) : encRetire d = encRetired (overlaysCopied d) :=
  (if_pos ha).trans (if_pos h)

theorem encRetire_waits {d : Dev} (h : dget R.ENC_STATE d ≠ 4 ∨ (arrayState d = 2 ∧ d.enc.toCopy ≠ [])) : encRetire d = d := by
  unfold encRetire encSettle
  split
  · exact if_neg (by tauto)
  · exact if_neg (by tauto)

/-! ### Staging (R188, R195 to R197) -/

/-- A block has been read and lies in the overlays of core key. -/
def laidBlock (key : Nat) (ws : List Nat) (d : Dev) : Dev :=
  let e := modCore key (putOverlay (encodeBlk key ws).1) (bumpBy R.ENC_CLAMPS (encodeBlk key ws).2 d)
  { e with enc := { e.enc with staged := e.enc.staged ++ [(encodeBlk key ws).1], next := e.enc.next + 1, read := e.enc.read ++ ws } }

section Staging

variable {ws : List Nat} {key : Nat} {d : Dev}

theorem encBlockStaged_laid (h1 : dget R.ENC_STATE d = 1) (hon : encoderOn d = true) (hc : blkCause d ws = 0)
    (hp : physOf d (blkX ws) (blkY ws) = some key) :
    encBlockStaged ws d = if (laidBlock key ws d).enc.next = dget R.ENC_LIST_COUNT (laidBlock key ws d) then encState 2 (laidBlock key ws d)
      else laidBlock key ws d := by
  unfold encBlockStaged
  dsimp only
  rw [if_neg (by simp [h1, hon]), if_neg (by simp [hc]), hp]
  rfl

theorem encBlockStaged_refused (h1 : dget R.ENC_STATE d = 1) (hon : encoderOn d = true) (hc : blkCause d ws ≠ 0) :
    encBlockStaged ws d = encRefuse (blkCause d ws) d := by
  unfold encBlockStaged
  dsimp only
  rw [if_neg (by simp [h1, hon]), if_pos hc]

theorem laidBlock_enc : (laidBlock key ws d).enc = { d.enc with
    staged := d.enc.staged ++ [(encodeBlk key ws).1], next := d.enc.next + 1, read := d.enc.read ++ ws } := by
  show { (bumpBy R.ENC_CLAMPS (encodeBlk key ws).2 d).enc with
    staged := (bumpBy R.ENC_CLAMPS (encodeBlk key ws).2 d).enc.staged ++ [(encodeBlk key ws).1]
    next := (bumpBy R.ENC_CLAMPS (encodeBlk key ws).2 d).enc.next + 1
    read := (bumpBy R.ENC_CLAMPS (encodeBlk key ws).2 d).enc.read ++ ws } = _
  rw [bumpBy_enc]

theorem coreOf_laidBlock_same : coreOf (laidBlock key ws d) key = putOverlay (encodeBlk key ws).1 (coreOf d key) :=
  (coreOf_modCore_same _ _ _).trans (by rw [coreOf_bumpBy])

theorem coreOf_laidBlock_ne {k : Nat} (h : k ≠ key) : coreOf (laidBlock key ws d) k = coreOf d k :=
  (coreOf_modCore_ne _ _ (Ne.symm h)).trans (coreOf_bumpBy _ _ _ _)

theorem rose_laidBlock : Rose R.ENC_CLAMPS (encodeBlk key ws).2 d (laidBlock key ws d) := rose_bumpBy _ _ _

theorem seb_laidBlock : SameEntriesBut [R.ENC_CLAMPS.key] d (laidBlock key ws d) := seb_bumpBy (r := R.ENC_CLAMPS) List.mem_cons_self _ d

theorem only_laidBlock : ChangesOnly [.dict, .cores, .enc] d (laidBlock key ws d) :=
  ((only_bumpBy _ _ _).mono (by decide)).trans (((only_modCore _ _ _).mono (by decide)).trans ((only_enc _ _).mono (by decide)))

end Staging

/-! ### A committed update at the end of a stop (R193, R497) -/

theorem only_showAll (d : Dev) : ChangesOnly [.dict] d (showAll d) := by
  have hone (p : Prop) [Decidable p] (r : Reg) (v : Nat) (d : Dev) : ChangesOnly [.dict] d (if p then d else dset r v d) :=
    (ChangesOnly.refl _ _).ite (only_dset _ _ _)
  have hlinks (d : Dev) : ChangesOnly [.dict] d (showLinks d) :=
    (ChangesOnly.refl _ _).ite ((only_dset _ _ _).trans ((only_dset _ _ _).trans (only_dset _ _ _)))
  exact (only_showPresent d).trans ((hone _ _ _ _).trans ((hlinks _).trans (hone _ _ _ _)))

/-- A fault loses no frames any more, and forbids no rejoining. -/
def faultsSettled (d : Dev) : Dev := { d with flt := { d.flt with losing := false, noRejoin := false } }

theorem seb_faultsSettled (ks : List Nat) (d : Dev) : SameEntriesBut ks d (faultsSettled d) := seb_dict rfl

/-- The array is STOPPED. -/
def stopOver (d : Dev) : Dev := faultsSettled (showAll (dset R.ARRAY_STATE 0 d))

theorem only_stopOver (d : Dev) : ChangesOnly [.dict, .flt] d (stopOver d) :=
  ((only_dset _ _ _).mono (by decide)).trans (((only_showAll _).mono (by decide)).trans ((only_flt _ _).mono (by decide)))

theorem seb_stopOver (d : Dev) : SameEntriesBut (R.ARRAY_STATE.key :: (presenceKeys ++ summaryKeys)) d (stopOver d) :=
  (seb_dset List.mem_cons_self _ _).trans (((seb_showAll _).mono (List.subset_cons_self _ _)).trans (seb_faultsSettled _ _))

theorem arrayState_stopOver (d : Dev) : dget R.ARRAY_STATE (stopOver d) = 0 :=
  (seb_faultsSettled [] _ _ (by simp)).trans ((seb_showAll _ R.ARRAY_STATE (by decide)).trans (dget_dset_same _ _ _))

/-- No record of the verdict ring waits for its gap. -/
theorem gapAtEnd_of_rest {d : Dev} (h : (ringOf d 0).loss = Loss.rest) : gapAtEnd d = d := by
  unfold gapAtEnd
  split
  · rfl
  · simp [h, Loss.rest, lossPending]

/-- The last frame before that of the stop has been issued: with no restart in progress and no gap to write, the stop is over, and a
committed update applies with it. -/
theorem stopEnds_committed {n : Nat} {d : Dev} (ha : arrayState d = 2) (he : d.grid.endF = some n) (hn : d.grid.nextIssue = n)
    (hr : dget R.RESTART_STATE d = 0) (hl : (ringOf d 0).loss = Loss.rest) (h3 : dget R.ENC_STATE d = 3) :
    stopEnds d = encApply 0 (stopOver d) := by
  have hending : ending d = true := by simp [ending, ha, he]
  have hpending : lossPending 0 d = false := by simp [lossPending, hl, Loss.rest]
  have hend : endStop d = stopOver d := by
    unfold endStop
    rw [he]
    dsimp only
    rw [if_neg (by simp [hending, hn, hr]), gapAtEnd_of_rest hl, if_neg (by simp [hpending])]
    rfl
  have hdisarmed : armed (stopOver d) = false := by simp [armed, arrayState, arrayState_stopOver]
  have hstate : dget R.ENC_STATE (stopOver d) = 3 := (seb_stopOver d _ (by decide)).trans h3
  unfold stopEnds encAtStop
  dsimp only
  rw [if_neg (by simp [hending]), hend, if_neg (by simp [hdisarmed]), if_pos hstate]

/-- The entries that the issue of a frame's word writes. -/
def issueKeys : List Nat := [R.FRAME_NUMBER.key, R.VLINE_STATE.key, R.INVALID_FRAMES.key]

/-- The issue of the last frame before that of a stop, up to the end of the stop: the parts and the entries that it leaves alone. -/
theorem verdictIssue_ends {n : Nat} {d : Dev} (hn : n = d.grid.nextIssue) (he : d.grid.endF = some (n + 1)) (hf : FrameOn n d)
    (hd : n < d.grid.nextDead) (hm : dget R.MIRROR_ROLE d = 0) (ht : RingTakes 0 d) :
    ∃ b, verdictIssue d = stopEnds b ∧ ChangesOnly [.freeCtr, .now, .time, .grid, .dict, .frames, .trig, .host] d b ∧
      SameEntriesBut issueKeys d b ∧ b.grid = { d.grid with nextIssue := n + 1 } ∧ (ringOf b 0).loss = Loss.rest := by
  obtain ⟨w, hw⟩ : ∃ w, w = (freeClass (verdictWord d n) d).1 := ⟨_, rfl⟩
  obtain ⟨safe, hs⟩ : ∃ safe, safe = (decide (dget R.MIRROR_ROLE d = 2 ∧ dget R.MIRROR_LINE_POLICY d = 1 ∧ drivesLines n d = false) ||
    decide (n < d.flt.safeBelow)) := ⟨_, rfl⟩
  have hissue := verdictIssue_frame hn (by simp [he]) hf hd (fun h => absurd hm h) hw hs
  have honly := only_issuedLines n w safe d
  have hhost : (lineEdges n w safe (issuedFrame n w d)).host = d.host := honly .host (by decide)
  have hring : ringOf (lineEdges n w safe (issuedFrame n w d)) 0 = ringOf d 0 := congrArg (fun x : HostPort => tget Ring.rest x.rings 0) hhost
  have hseb := seb_issuedLines n w safe d
  have hgrid := (wordIssued_lineEdges n w safe d).grid
  obtain ⟨ep, t, hpush⟩ := pushRec_takes (e := verdictRec (issuedFrame n w d) n w) (d := lineEdges n w safe (issuedFrame n w d))
    (r := 0) (by unfold RingTakes; rw [hring]; exact ht)
  have hloss : (ringOf (pushRec 0 (verdictRec (issuedFrame n w d) n w) (lineEdges n w safe (issuedFrame n w d))) 0).loss = Loss.rest := by
    rw [hpush, ringOf_setRing_same, hring]
    exact ht.2.1
  refine ⟨_, hissue.trans (by rw [gapAtEnd_of_rest hloss]), honly.then (only_pushRec _ _ _) (by decide) (by decide),
    hseb.trans (seb_dict (only_pushRec _ _ _ .dict (by decide))), (only_pushRec _ _ _ .grid (by decide)).trans hgrid, hloss⟩

/-! ### What settles O22 -/

theorem asked_enc (c : Nat) (d : Dev) : (asked c d).enc = d.enc := only_asked c d .enc (by decide)
theorem asked_cores (c : Nat) (d : Dev) : (asked c d).cores = d.cores := only_asked c d .cores (by decide)
theorem preparing_asked (c : Nat) (d : Dev) : preparing (asked c d) = preparing d := by simp [preparing]

theorem encDropped_asked {c : Nat} {a d : Dev} (h : EncDropped (asked c a) d) : EncDropped a d :=
  encDropped_congr h (asked_enc c a).symm (asked_cores c a).symm rfl rfl

section Requests

variable {c : Nat} {r : Reg} {f : Dev → Dev × Nat} {i : Instr} {s : State}

theorem EncCommand.completes {e : Dev} {P : Dev → Prop} (h : EncCommand r f) (hi : exec i s = run (decide (c < 10)) (rowWrite c r 1) s)
    (ha : Asks c s.dev) (hf : f (asked c s.dev) = (e, 0)) (hP : P e) : Completes (exec i s) s P :=
  ⟨_, hi.trans (run_ok (by simpa using ha.1)), by rwa [h.rowWrite_eq ha hf]⟩

theorem EncCommand.completes_refused {code : Nat} (h : EncCommand r f) (hi : exec i s = run (decide (c < 10)) (rowWrite c r 1) s)
    (ha : Asks c s.dev) (h0 : code ≠ 0) (hlt : code < 2 ^ 16) (hf : f (asked c s.dev) = (asked c s.dev, code)) :
    Completes (exec i s) s (TurnedAway c code s.dev) :=
  ⟨_, hi.trans (run_ok (by simpa using ha.1)), h.turnedAway ha h0 hlt hf⟩

end Requests

theorem completes_encStart {c : Nat} {s : State} (ha : Asks c s.dev) (hst : dget R.ENC_STATE s.dev = 0 ∨ dget R.ENC_STATE s.dev = 5)
    (hcount : dget R.ENC_LIST_COUNT s.dev ≠ 0) (hp : preparing s.dev = false) :
    Completes (exec (.encStart c) s) s fun d =>
      dget R.ENC_STATE d = 1 ∧ dget R.ENC_ERROR d = 0 ∧ EncDropped s.dev d ∧ SameEntriesBut [R.ENC_STATE.key, R.ENC_ERROR.key] s.dev d ∧
      ChangesOnly [.dict, .cores, .enc, .host] (asked c s.dev) d := by
  refine encCommand_start.completes rfl ha (encStart_begins (by simpa using hst) (by rwa [preparing_asked]) (by simpa using hcount)) ?_
  refine ⟨dget_encState _ _, ?_, encDropped_asked (c := c) ?_, ?_, ?_⟩
  · rw [dget_encState_ne (by decide), dget_dset_same]
  · exact encDropped_congr (encDropped_dropStaged _) rfl rfl (encState_enc _ _) (encState_cores _ _)
  · exact (seb_asked _ c s.dev).trans ((seb_dict (dropStaged_dict _)).trans ((seb_dset (by simp) _ _).trans ((seb_encState _ _).mono (by simp))))
  · exact ((only_dropStaged _).mono (by decide)).trans (((only_dset _ _ _).mono (by decide)).trans ((only_encState _ _).mono (by decide)))

theorem completes_encBlockStaged {ws : List Nat} {s : State} {P : Dev → Prop} (hlen : ws.length = 140) (hws : ∀ w ∈ ws, w < 2 ^ 64)
    (h : P (encBlockStaged ws s.dev)) : Completes (exec (.encBlockStaged ws) s) s P :=
  ⟨_, run_ok (by simpa [hlen] using hws), h⟩

theorem completes_encBlockStaged_laid {ws : List Nat} {key : Nat} {s : State} (hlen : ws.length = 140) (hws : ∀ w ∈ ws, w < 2 ^ 64)
    (h1 : dget R.ENC_STATE s.dev = 1) (hon : encoderOn s.dev = true) (hc : blkCause s.dev ws = 0)
    (hp : physOf s.dev (blkX ws) (blkY ws) = some key) :
    Completes (exec (.encBlockStaged ws) s) s fun d =>
      d.enc = { s.dev.enc with
        staged := s.dev.enc.staged ++ [(encodeBlk key ws).1], next := s.dev.enc.next + 1, read := s.dev.enc.read ++ ws } ∧
      coreOf d key = putOverlay (encodeBlk key ws).1 (coreOf s.dev key) ∧ (∀ k, k ≠ key → coreOf d k = coreOf s.dev k) ∧
      dget R.ENC_STATE d = (if s.dev.enc.next + 1 = dget R.ENC_LIST_COUNT s.dev then 2 else 1) ∧
      Rose R.ENC_CLAMPS (encodeBlk key ws).2 s.dev d ∧ SameEntriesBut [R.ENC_STATE.key, R.ENC_CLAMPS.key] s.dev d ∧
      ChangesOnly [.dict, .cores, .enc, .host] s.dev d := by
  have hnext : (laidBlock key ws s.dev).enc.next = s.dev.enc.next + 1 := by rw [laidBlock_enc]
  have hcount : dget R.ENC_LIST_COUNT (laidBlock key ws s.dev) = dget R.ENC_LIST_COUNT s.dev := seb_laidBlock _ (by decide)
  have hrose : Rose R.ENC_CLAMPS (encodeBlk key ws).2 s.dev (laidBlock key ws s.dev) := rose_laidBlock
  have hseb : SameEntriesBut [R.ENC_STATE.key, R.ENC_CLAMPS.key] s.dev (laidBlock key ws s.dev) := seb_laidBlock.mono (by simp)
  have honly : ChangesOnly [.dict, .cores, .enc, .host] s.dev (laidBlock key ws s.dev) := only_laidBlock.mono (by decide)
  refine completes_encBlockStaged hlen hws ?_
  rw [encBlockStaged_laid h1 hon hc hp, hnext, hcount]
  split
  · refine ⟨(encState_enc _ _).trans laidBlock_enc, (coreOf_congr (encState_cores _ _) _).trans coreOf_laidBlock_same,
      fun k hk => (coreOf_congr (encState_cores _ _) _).trans (coreOf_laidBlock_ne hk), dget_encState _ _,
      rose_of_stays_after hrose (dget_encState_ne (by decide) _ _), hseb.trans ((seb_encState _ _).mono (by simp)),
      honly.trans ((only_encState _ _).mono (by decide))⟩
  · exact ⟨laidBlock_enc, coreOf_laidBlock_same, fun k hk => coreOf_laidBlock_ne hk, (seb_laidBlock _ (by decide)).trans h1, hrose, hseb, honly⟩

theorem completes_encCommit_armed {c : Nat} {s : State} (ha : Asks c s.dev) (h2 : dget R.ENC_STATE s.dev = 2) (harmed : armed s.dev = true) :
    Completes (exec (.encCommit c) s) s fun d =>
      dget R.ENC_STATE d = 3 ∧ SameEntriesBut [R.ENC_STATE.key] s.dev d ∧ ChangesOnly [.dict, .host] (asked c s.dev) d := by
  refine encCommand_commit.completes rfl ha (encCommit_armed (by simpa using h2) (by rwa [armed_asked])) ?_
  exact ⟨dget_encState _ _, (seb_asked _ c s.dev).trans (seb_encState _ _), only_encState _ _⟩

theorem completes_encCommit_disarmed {c : Nat} {s : State} (ha : Asks c s.dev) (h2 : dget R.ENC_STATE s.dev = 2) (harmed : armed s.dev = false) :
    Completes (exec (.encCommit c) s) s (AppliedAtOnce s.dev) := by
  have hkeep {r : Reg} (hr : r.key ≠ R.ENC_STATE.key) : dget r s.dev = dget r (encState 3 (asked c s.dev)) :=
    ((dget_encState_ne hr _ _).trans (dget_asked r c s.dev)).symm
  have hdisarmed : armed (encState 3 (asked c s.dev)) = false := (armed_congr (hkeep (by decide)).symm).trans harmed
  refine encCommand_commit.completes rfl ha (encCommit_disarmed (by simpa using h2) (by rwa [armed_asked])) ?_
  refine (appliedAtOnce_encApply hdisarmed).congr ?_ ?_ fun k hk => hkeep ?_
  · rw [encState_enc, asked_enc]
  · rw [encState_cores, asked_cores]
  · simp only [R.LIVE_WEIGHT_DIGEST, R.ENC_STATE]; omega

theorem completes_encAbandon {c : Nat} {s : State} (ha : Asks c s.dev)
    (hst : dget R.ENC_STATE s.dev = 1 ∨ dget R.ENC_STATE s.dev = 2 ∨ dget R.ENC_STATE s.dev = 5) :
    Completes (exec (.encAbandon c) s) s fun d =>
      dget R.ENC_STATE d = 0 ∧ EncDropped s.dev d ∧ SameEntriesBut [R.ENC_STATE.key] s.dev d ∧
      ChangesOnly [.dict, .cores, .enc, .host] (asked c s.dev) d := by
  refine encCommand_abandon.completes rfl ha (encAbandon_drops (by simpa using hst)) ?_
  exact ⟨dget_encState _ _, encDropped_asked (encDropped_congr (encDropped_dropStaged _) rfl rfl (encState_enc _ _) (encState_cores _ _)),
    (seb_asked _ c s.dev).trans ((seb_dict (dropStaged_dict _)).trans (seb_encState _ _)),
    ((only_dropStaged _).mono (by decide)).trans ((only_encState _ _).mono (by decide))⟩

theorem completes_encRetire_atRest {s : State} (h4 : dget R.ENC_STATE s.dev = 4) (ha : arrayState s.dev ≠ 2) :
    Completes (exec .encRetire s) s fun d =>
      dget R.ENC_STATE d = 0 ∧ d.enc.staged = [] ∧ (∀ k ∈ s.dev.enc.toCopy, (coreOf d k).ovl = [] ∧ (coreOf d k).ovlFrom = none) ∧
      Rose R.ENC_BLOCKS_APPLIED s.dev.enc.staged.length s.dev d ∧
      (∀ k, k ∉ s.dev.enc.toCopy → coreOf d k = coreOf s.dev k) ∧ ChangesOnly [.dict, .cores, .enc, .host, .ldr] s.dev d := by
  have hcopied := only_overlaysCopied s.dev
  have hover := updateOver_encRetired (overlaysCopied s.dev)
  have hcore (k : Nat) := (coreOf_congr (hover.only .cores (by decide)) k).trans (coreOf_overlaysCopied s.dev k)
  have hcounted := hover.counted
  have henc : (overlaysCopied s.dev).enc = s.dev.enc := hcopied .enc (by decide)
  refine ⟨_, run_ok rfl, ?_⟩
  rw [encRetire_atRest h4 ha]
  refine ⟨hover.state, by rw [hover.enc], fun k hk => ?_, ?_, fun k hk => ?_, (hcopied.mono (by decide)).trans (hover.only.mono (by decide))⟩
  · rw [hcore, if_pos (by simpa using hk)]
    exact ⟨rfl, rfl⟩
  · rw [henc] at hcounted
    exact rose_of_stays_before (seb_dict (ks := []) (hcopied .dict (by decide)) _ (by simp)) hcounted
  · rw [hcore, if_neg (by simpa using hk)]

/-- The verdict of the last frame before a stop ends the stop, and the update applies (R193). -/
theorem completes_verdictIssue_committed {n : Nat} {s : State} (hn : n = s.dev.grid.nextIssue) (he : s.dev.grid.endF = some (n + 1))
    (ha : arrayState s.dev = 2) (h3 : dget R.ENC_STATE s.dev = 3) (hf : FrameOn n s.dev) (hd : n < s.dev.grid.nextDead)
    (hm : dget R.MIRROR_ROLE s.dev = 0) (ht : RingTakes 0 s.dev) (hr : dget R.RESTART_STATE s.dev = 0) :
    Completes (exec .verdictIssue s) s fun d => dget R.ARRAY_STATE d = 0 ∧ AppliedAtOnce s.dev d := by
  obtain ⟨b, hissue, honly, hseb, hgrid, hloss⟩ := verdictIssue_ends hn he hf hd hm ht
  have hstop : stopEnds b = encApply 0 (stopOver b) := stopEnds_committed (n := n + 1) ((hseb R.ARRAY_STATE (by decide)).trans ha)
    (by rw [hgrid]; exact he) (by rw [hgrid]) ((hseb R.RESTART_STATE (by decide)).trans hr) hloss ((hseb R.ENC_STATE (by decide)).trans h3)
  have hdisarmed : armed (stopOver b) = false := by simp [armed, arrayState, arrayState_stopOver]
  have hover := only_stopOver b
  refine completes_verdictIssue ?_
  rw [hissue, hstop]
  refine ⟨(arrayState_encApply hdisarmed).trans (arrayState_stopOver b), (appliedAtOnce_encApply hdisarmed).congr
    ((hover .enc (by decide)).trans (honly .enc (by decide))).symm ((hover .cores (by decide)).trans (honly .cores (by decide))).symm
    fun k hk => ((seb_stopOver b _ ?_).trans (hseb _ ?_)).symm⟩
  · simp only [presenceKeys, summaryKeys, R.LIVE_WEIGHT_DIGEST, R.ARRAY_STATE, R.FE_PRESENT, R.CLOCK_REF_PORT, R.CLOCK_STATE, R.HOST_LINK,
      R.RING_SIZE, R.MIRROR_LINK, R.RING_LINKS, R.TIME_SOURCE, List.cons_append, List.nil_append, List.mem_cons, List.not_mem_nil, or_false]
    omega
  · simp only [issueKeys, R.LIVE_WEIGHT_DIGEST, R.FRAME_NUMBER, R.VLINE_STATE, R.INVALID_FRAMES, List.mem_cons, List.not_mem_nil, or_false]
    omega

/-- Settles O22: each command's own equation gives its outcome; what an update's effect writes is `inEffect_encEffect`, and both commands that
apply it at frame 0, the commit and the end of a stop, come to `appliedAtOnce_encApply`. -/
theorem weightEncoder : Obligations.WeightEncoder := by
  refine ⟨fun c s ha hst hcount hp => completes_encStart ha hst hcount hp, fun c s ha => ⟨?busy, ?preparing, ?empty, ?unstaged, ?idle⟩,
    fun ws key s hlen hws h1 hon hc hp => completes_encBlockStaged_laid hlen hws h1 hon hc hp, ?refused, ?timeout, ?noTimeout,
    fun c s ha h2 harmed => completes_encCommit_armed ha h2 harmed, ?atOnce, fun c s ha hst => completes_encAbandon ha hst, ?retired,
    fun s h4 ha => completes_encRetire_atRest h4 ha, ?stopped, ?waits⟩
  case busy =>
    intro h0 h5
    exact encCommand_start.completes_refused rfl ha (by decide) (by decide) (encStart_refused (.inl (by simpa using ⟨h0, h5⟩)))
  case preparing =>
    intro hp
    exact encCommand_start.completes_refused rfl ha (by decide) (by decide) (encStart_refused (.inr (by rwa [preparing_asked])))
  case empty =>
    intro h0 hcount hp
    exact encCommand_start.completes_refused rfl ha (by decide) (by decide)
      (encStart_empty (.inl (by simpa using h0)) (by rwa [preparing_asked]) (by simpa using hcount))
  case unstaged =>
    intro h2
    exact encCommand_commit.completes_refused rfl ha (by decide) (by decide) (encCommit_refused (by simpa using h2))
  case idle =>
    intro h1 h2 h5
    exact encCommand_abandon.completes_refused rfl ha (by decide) (by decide)
      (encAbandon_refused (by simpa using h1) (by simpa using h2) (by simpa using h5))
  case refused =>
    intro ws s hlen hws h1 hon hc
    refine completes_encBlockStaged hlen hws ?_
    rw [encBlockStaged_refused h1 hon hc]
    exact encRefused_encRefuse _ _
  case timeout =>
    intro s h1
    refine ⟨_, run_ok rfl, ?_⟩
    rw [if_pos h1]
    exact encRefused_encRefuse 8 _
  case noTimeout =>
    intro s h1
    refine (run_ok rfl : execEncReadTimeout s = _).trans ?_
    rw [if_neg h1]
  case atOnce =>
    intro c s ha h2 harmed
    obtain ⟨d, hd, happlied⟩ := completes_encCommit_disarmed ha h2 harmed
    exact ⟨d, hd, happlied.state, happlied.frame, happlied.toCopy, happlied.staged, happlied.live, happlied.cores⟩
  case retired =>
    intro s h4 _ hcopied
    have hover := updateOver_encRetired s.dev
    refine ⟨_, run_ok rfl, ?_⟩
    rw [encRetire_copied h4 hcopied]
    exact ⟨hover.state, hover.enc, hover.counted, hover.entries, hover.only⟩
  case stopped =>
    intro n s hn he ha h3 hf hd hm _ ht hr
    obtain ⟨d, hd', harray, happlied⟩ := completes_verdictIssue_committed hn he ha h3 hf hd hm ht hr
    exact ⟨d, hd', harray, happlied.state, happlied.frame, happlied.toCopy, happlied.staged, happlied.cores, happlied.live⟩
  case waits =>
    intro s h
    refine (run_ok rfl : execEncRetire s = _).trans ?_
    rw [encRetire_waits h]

end Sys2Proof.Machine
end

section
/-! SUPPORT. The merge of a run frame's clip counts (R183 to R187). -/

namespace Sys2Proof.Machine

/-! ### One monitor (R185, R186) -/

theorem clipCount_key_ne {m k : Nat} (h : m ≠ k) : (R.CLIP_COUNT m).key ≠ (R.CLIP_COUNT k).key := by
  simp only [R.CLIP_COUNT]; omega

/-- From block a to block b the monitors change, with what the dictionary shows of them and what is reported of them, but no CLIP_COUNT. -/
structure MonitorsMove (a b : Dev) : Prop where
  only : ChangesOnly [.dict, .enc, .host, .flt] a b
  enc : b.enc = { a.enc with mons := b.enc.mons }
  clips : ∀ m, m < 4096 → dget (R.CLIP_COUNT m) b = dget (R.CLIP_COUNT m) a

theorem MonitorsMove.trans {a b c : Dev} (h : MonitorsMove a b) (g : MonitorsMove b c) : MonitorsMove a c :=
  ⟨h.only.trans g.only, by rw [g.enc, h.enc], fun m hm => (g.clips m hm).trans (h.clips m hm)⟩

theorem monitorsMove_dset {r : Reg} (h : r.key < (R.CLIP_COUNT 0).key ∨ (R.CLIP_SHARE 0).key ≤ r.key) (v : Nat) (d : Dev) :
    MonitorsMove d (dset r v d) :=
  ⟨(only_dset _ _ _).mono (by decide), rfl, fun m hm => dget_dset_ne _ _ (by simp only [R.CLIP_COUNT, R.CLIP_SHARE] at h ⊢; omega)⟩

theorem monitorsMove_mons (t : Tab Mon) (d : Dev) : MonitorsMove d { d with enc := { d.enc with mons := t } } :=
  ⟨(only_enc _ _).mono (by decide), rfl, fun _ _ => rfl⟩

theorem monitorsMove_reportLim {c : Nat} (h : c < 0x3000) (t u a0 a1 : Nat) (d : Dev) : MonitorsMove d (reportLim t u c a0 a1 d) :=
  ⟨(only_reportLim h t u a0 a1 d).mono (by decide), by rw [reportLim_enc _ _ _ _ _ h],
    fun m hm => dget_reportLim h t u a0 a1 d _ (notMem_reportKeys_of_lt (by simp only [R.CLIP_COUNT]; omega))⟩

theorem monitorsMove_showMons (d : Dev) : MonitorsMove d (showMons d) :=
  (monitorsMove_dset (r := R.STALE_MONITORS) (.inl (by decide)) _ d).trans (monitorsMove_dset (r := R.FIRST_STALE_MONITOR) (.inl (by decide)) _ _)

/-- The counts that enter a monitor raise its CLIP_COUNT, and all else is the monitor's own. -/
theorem monitorsMove_countMon (n m outs clips : Nat) (d : Dev) :
    MonitorsMove (bumpBy (R.CLIP_COUNT m) clips d) (countMon n m outs clips d) := by
  have hshare (v : Nat) (e : Dev) : MonitorsMove e (dset (R.CLIP_SHARE m) v e) :=
    monitorsMove_dset (.inr (by simp only [R.CLIP_SHARE]; omega)) v e
  unfold countMon
  dsimp only
  generalize bumpBy (R.CLIP_COUNT m) clips d = d
  split
  · exact monitorsMove_mons _ _
  · split
    · exact ((monitorsMove_mons _ _).trans (hshare _ _)).trans (monitorsMove_reportLim (by decide) _ _ _ _ _)
    · exact (monitorsMove_mons _ _).trans (hshare _ _)

theorem only_countMon (n m outs clips : Nat) (d : Dev) : ChangesOnly [.dict, .enc, .host, .flt] d (countMon n m outs clips d) :=
  ((only_bumpBy _ _ _).mono (by decide)).trans (monitorsMove_countMon n m outs clips d).only

theorem countMon_enc (n m outs clips : Nat) (d : Dev) :
    (countMon n m outs clips d).enc = { d.enc with mons := (countMon n m outs clips d).enc.mons } := by
  rw [(monitorsMove_countMon n m outs clips d).enc, bumpBy_enc]

theorem rose_countMon_same {m : Nat} (h : m < 4096) (n outs clips : Nat) (d : Dev) :
    Rose (R.CLIP_COUNT m) clips d (countMon n m outs clips d) :=
  rose_of_stays_after (rose_bumpBy _ _ _) ((monitorsMove_countMon n m outs clips d).clips m h)

theorem clipCount_countMon_ne {m k : Nat} (h : k < 4096) (hk : m ≠ k) (n outs clips : Nat) (d : Dev) :
    dget (R.CLIP_COUNT k) (countMon n m outs clips d) = dget (R.CLIP_COUNT k) d :=
  ((monitorsMove_countMon n m outs clips d).clips k h).trans (dget_bumpBy_ne _ _ (clipCount_key_ne hk))

/-! ### The monitors of a frame -/

/-- The counts of a frame enter the monitors of a list, each with its outputs and its clips. -/
def countAll (n : Nat) (outs clips : Nat → Nat) (ms : List Nat) (d : Dev) : Dev :=
  ms.foldl (fun d m => countMon n m (outs m) (clips m) d) d

section CountAll

variable (n : Nat) (outs clips : Nat → Nat) (ms : List Nat) (d : Dev)

theorem only_countAll : ChangesOnly [.dict, .enc, .host, .flt] d (countAll n outs clips ms d) :=
  ChangesOnly.foldl (fun d m => only_countMon n m (outs m) (clips m) d) ms d

theorem countAll_enc : (countAll n outs clips ms d).enc = { d.enc with mons := (countAll n outs clips ms d).enc.mons } := by
  induction ms generalizing d with
  | nil => rfl
  | cons m ms ih =>
    show (countAll n outs clips ms (countMon n m (outs m) (clips m) d)).enc = _
    rw [ih, countMon_enc]
    rfl

/-- Each monitor of a list without repeats takes its clips once. -/
theorem rose_countAll {m : Nat} (h : m < 4096) (hms : ms.Nodup) :
    Rose (R.CLIP_COUNT m) (if m ∈ ms then clips m else 0) d (countAll n outs clips ms d) := by
  induction ms generalizing d with
  | nil => exact rose_zero_iff.2 rfl
  | cons j ms ih =>
    obtain ⟨hj, hnodup⟩ := List.nodup_cons.1 hms
    have hrest := ih (countMon n j (outs j) (clips j) d) hnodup
    by_cases hjm : j = m
    · subst hjm
      rw [if_neg hj] at hrest
      rw [if_pos List.mem_cons_self]
      exact rose_of_stays_after (rose_countMon_same h n (outs j) (clips j) d) (rose_zero_iff.1 hrest)
    · have hmem : m ∈ j :: ms ↔ m ∈ ms := by simp [Ne.symm hjm]
      simp only [hmem]
      exact rose_of_stays_before (clipCount_countMon_ne h hjm n (outs j) (clips j) d) hrest

end CountAll

/-- The numbers of a list, each once. -/
def listedOnce (l : List Nat) : List Nat := l.foldl (fun l m => if l.contains m then l else l ++ [m]) []

theorem nodup_foldl_listed (l acc : List Nat) (h : acc.Nodup) :
    (l.foldl (fun l m => if l.contains m then l else l ++ [m]) acc).Nodup ∧
    ∀ m, m ∈ l.foldl (fun l m => if l.contains m then l else l ++ [m]) acc ↔ m ∈ acc ∨ m ∈ l := by
  induction l generalizing acc with
  | nil => simp [h]
  | cons j l ih =>
    rw [List.foldl_cons]
    by_cases hj : j ∈ acc
    · rw [if_pos (by simpa using hj)]
      obtain ⟨hnodup, hmem⟩ := ih acc h
      refine ⟨hnodup, fun m => ?_⟩
      rw [hmem, List.mem_cons]
      constructor
      · tauto
      · rintro (hm | rfl | hm) <;> tauto
    · rw [if_neg (by simpa using hj)]
      obtain ⟨hnodup, hmem⟩ := ih (acc ++ [j])
        (List.nodup_append.2 ⟨h, List.nodup_singleton j, fun a ha b hb hab => hj (List.mem_singleton.1 hb ▸ hab ▸ ha)⟩)
      exact ⟨hnodup, fun m => by rw [hmem]; simp [or_assoc]⟩

theorem nodup_listedOnce (l : List Nat) : (listedOnce l).Nodup := (nodup_foldl_listed l [] List.nodup_nil).1

theorem mem_listedOnce {l : List Nat} {m : Nat} : m ∈ listedOnce l ↔ m ∈ l :=
  ((nodup_foldl_listed l [] List.nodup_nil).2 m).trans (by simp)

/-! ### One frame (R184) -/

/-- Counts of frames before this one do not enter monitor m (R187). -/
def floorOf (d : Dev) (m : Nat) : Nat := match slotOfMon d m with | some k => tget 0 d.enc.floor k | none => 0

theorem floorOf_congr {a b : Dev} (hd : b.dict = a.dict) (he : b.enc = a.enc) (hl : b.ldr = a.ldr) (m : Nat) : floorOf b m = floorOf a m := by
  unfold floorOf slotOfMon dget loadedOf
  rw [hd, he, hl]

/-- The counts of frame n that enter their monitors. -/
def mergedCounts (n : Nat) (d : Dev) : List ClipCount := d.enc.counts.filter (fun c => decide (c.frame = n ∧ floorOf d c.mon ≤ n))

/-- What the counts of a list hold for monitor m. -/
def totalOf (l : List ClipCount) (f : ClipCount → Nat) (m : Nat) : Nat := ((l.filter (fun c => decide (c.mon = m))).map f).sum

theorem totalOf_notListed {l : List ClipCount} {f : ClipCount → Nat} {m : Nat} (h : m ∉ listedOnce (l.map (fun c => c.mon))) :
    totalOf l f m = 0 := by
  have hnone : l.filter (fun c => decide (c.mon = m)) = [] := by
    refine List.filter_eq_nil_iff.2 fun c hc => ?_
    simpa using fun e : c.mon = m => h (mem_listedOnce.2 (List.mem_map.2 ⟨c, hc, e⟩))
  rw [totalOf, hnone]
  rfl

/-- The counts of frame n no longer wait. -/
def withoutCounts (n : Nat) (d : Dev) : Dev := { d with enc := { d.enc with counts := d.enc.counts.filter (fun c => decide (c.frame ≠ n)) } }

/-- Frame n heads the run frames merged, with the slots that have a stale monitor after it. -/
def withMerged (n : Nat) (d : Dev) : Dev := { d with enc := { d.enc with merged := ((n, staleSlots d) :: d.enc.merged).take 8 } }

/-- The counts of frame n in the monitors, before they are shown. -/
def countedFrame (n : Nat) (d : Dev) : Dev :=
  countAll n (totalOf (mergedCounts n d) (fun c => c.outs)) (totalOf (mergedCounts n d) (fun c => c.clips))
    (listedOnce ((mergedCounts n d).map (fun c => c.mon))) (withoutCounts n d)

theorem mergeFrame_eq (n : Nat) (d : Dev) : mergeFrame n d = refreshSave (withMerged n (showMons (countedFrame n d))) := by
  have htotal (f : ClipCount → Nat) : totalOf (mergedCounts n d) f =
      fun m => (((mergedCounts n d).filter (fun c => decide (c.mon = m))).map f).foldl (· + ·) 0 := by
    funext m
    rw [totalOf, List.sum_eq_foldl]
  unfold countedFrame
  rw [htotal, htotal]
  rfl

theorem only_refreshSave (d : Dev) : ChangesOnly [.ctx] d (refreshSave d) :=
  (ChangesOnly.refl _ _).ite (only_ctx _ _)

theorem only_countedFrame (n : Nat) (d : Dev) : ChangesOnly [.dict, .enc, .host, .flt] d (countedFrame n d) :=
  ((only_enc _ _).mono (by decide)).trans (only_countAll _ _ _ _ _)

theorem only_mergeFrame (n : Nat) (d : Dev) : ChangesOnly [.dict, .enc, .host, .flt, .ctx] d (mergeFrame n d) := by
  rw [mergeFrame_eq]
  exact ((only_countedFrame n d).mono (by decide)).trans (((monitorsMove_showMons _).only.mono (by decide)).trans
    (((only_enc _ _).mono (by decide)).trans ((only_refreshSave _).mono (by decide))))

theorem mergeFrame_enc (n : Nat) (d : Dev) : ∃ mons mask, (mergeFrame n d).enc = { d.enc with
    mons := mons, counts := d.enc.counts.filter (fun c => decide (c.frame ≠ n)), merged := ((n, mask) :: d.enc.merged).take 8 } := by
  have hshown : (showMons (countedFrame n d)).enc = { (withoutCounts n d).enc with mons := (showMons (countedFrame n d)).enc.mons } := by
    rw [(monitorsMove_showMons _).enc, countedFrame, countAll_enc]
  refine ⟨(showMons (countedFrame n d)).enc.mons, staleSlots (showMons (countedFrame n d)), ?_⟩
  rw [mergeFrame_eq, only_refreshSave _ .enc (by decide)]
  show { (showMons (countedFrame n d)).enc with
    merged := ((n, staleSlots (showMons (countedFrame n d))) :: (showMons (countedFrame n d)).enc.merged).take 8 } = _
  generalize staleSlots (showMons (countedFrame n d)) = mask
  rw [hshown]
  rfl

theorem rose_mergeFrame {m : Nat} (h : m < 4096) (n : Nat) (d : Dev) :
    Rose (R.CLIP_COUNT m) (totalOf (mergedCounts n d) (fun c => c.clips) m) d (mergeFrame n d) := by
  have hcounted := rose_countAll n (totalOf (mergedCounts n d) (fun c => c.outs)) (totalOf (mergedCounts n d) (fun c => c.clips))
    (listedOnce ((mergedCounts n d).map (fun c => c.mon))) (withoutCounts n d) h (nodup_listedOnce _)
  have htotal : (if m ∈ listedOnce ((mergedCounts n d).map (fun c => c.mon)) then totalOf (mergedCounts n d) (fun c => c.clips) m else 0) =
      totalOf (mergedCounts n d) (fun c => c.clips) m := by
    split
    · rfl
    · next hm => exact (totalOf_notListed hm).symm
  rw [htotal] at hcounted
  have hdict : (mergeFrame n d).dict = (showMons (countedFrame n d)).dict := by
    rw [mergeFrame_eq]
    exact only_refreshSave _ .dict (by decide)
  exact rose_of_stays_after hcounted ((seb_dict (ks := []) hdict _ (by simp)).trans ((monitorsMove_showMons _).clips m h))

/-! ### The next run frame -/

/-- The frames up to n are passed over: their counts are never merged, but for those of n itself, which still wait. -/
def passedOver (n : Nat) (d : Dev) : Dev := { d with enc := { d.enc with
  nextMerge := n + 1, counts := d.enc.counts.filter (fun c => decide (c.frame < d.enc.nextMerge ∨ n ≤ c.frame)) } }

theorem isRun_congr {a b : Dev} (h : b.frames = a.frames) (n : Nat) : isRun b n = isRun a n := by unfold isRun frameOf; rw [h]

theorem mergeTo_done {n : Nat} {d : Dev} (h : ¬ d.enc.nextMerge < n) (fuel : Nat) : mergeTo n fuel d = d := by
  cases fuel with
  | zero => rfl
  | succ fuel => exact if_neg h

theorem mergeNext_run {d : Dev} (h : isRun d d.enc.nextMerge = true) : mergeNext d = mergeFrame d.enc.nextMerge (passedOver d.enc.nextMerge d) := by
  have hall : d.enc.counts.filter (fun c => decide (c.frame < d.enc.nextMerge ∨ d.enc.nextMerge ≤ c.frame)) = d.enc.counts :=
    List.filter_eq_self.2 fun c _ => by simpa using Nat.lt_or_ge _ _
  have hpassed : passedOver d.enc.nextMerge d = { d with enc := { d.enc with nextMerge := d.enc.nextMerge + 1 } } := by
    unfold passedOver
    rw [hall]
  rw [hpassed]
  exact if_pos h

theorem mergeNext_passed {d : Dev} (h : isRun d d.enc.nextMerge = false) : mergeNext d = { d with enc := { d.enc with
    nextMerge := d.enc.nextMerge + 1, counts := d.enc.counts.filter (fun c => decide (c.frame ≠ d.enc.nextMerge)) } } :=
  if_neg (by rw [Bool.not_eq_true]; exact h)

/-- A frame that is passed over is passed over on the way to a later one. -/
theorem passedOver_mergeNext {n : Nat} {d : Dev} (h : isRun d d.enc.nextMerge = false) (hn : d.enc.nextMerge < n) :
    passedOver n (mergeNext d) = passedOver n d := by
  have hcounts : (d.enc.counts.filter (fun c => decide (c.frame ≠ d.enc.nextMerge))).filter
      (fun c => decide (c.frame < d.enc.nextMerge + 1 ∨ n ≤ c.frame)) =
      d.enc.counts.filter (fun c => decide (c.frame < d.enc.nextMerge ∨ n ≤ c.frame)) := by
    rw [List.filter_filter]
    congr 1
    funext c
    rw [← Bool.decide_and, decide_eq_decide]
    omega
  rw [mergeNext_passed h]
  unfold passedOver
  dsimp only
  rw [hcounts]

/-- With frame n the next run frame, a merge up to it passes over the frames before it and merges it. -/
theorem mergeTo_nextRun {n fuel : Nat} {d : Dev} (hle : d.enc.nextMerge ≤ n) (hfuel : n < d.enc.nextMerge + fuel) (hrun : isRun d n = true)
    (hpass : ∀ k, d.enc.nextMerge ≤ k → k < n → isRun d k = false) : mergeTo (n + 1) fuel d = mergeFrame n (passedOver n d) := by
  induction fuel generalizing d with
  | zero => omega
  | succ fuel ih =>
    have hstep : mergeTo (n + 1) (fuel + 1) d = mergeTo (n + 1) fuel (mergeNext d) := if_pos (Nat.lt_succ_of_le hle)
    rw [hstep]
    rcases Nat.eq_or_lt_of_le hle with rfl | hlt
    · obtain ⟨mons, mask, henc⟩ := mergeFrame_enc d.enc.nextMerge (passedOver d.enc.nextMerge d)
      rw [mergeNext_run hrun]
      refine mergeTo_done ?_ fuel
      rw [henc]
      exact Nat.lt_irrefl _
    · have hskip := hpass _ (Nat.le_refl _) hlt
      have hnext : (mergeNext d).enc.nextMerge = d.enc.nextMerge + 1 := by rw [mergeNext_passed hskip]
      have hframes : (mergeNext d).frames = d.frames := by rw [mergeNext_passed hskip]
      rw [← passedOver_mergeNext hskip hlt]
      refine ih (by omega) (by omega) ((isRun_congr hframes n).trans hrun) fun k hk hkn => (isRun_congr hframes k).trans (hpass k ?_ hkn)
      omega

theorem nextRun_some {d : Dev} {fuel k n : Nat} (h : nextRun d fuel k = some n) :
    k ≤ n ∧ isRun d n = true ∧ ∀ j, k ≤ j → j < n → isRun d j = false := by
  induction fuel generalizing k with
  | zero => cases h
  | succ fuel ih =>
    unfold nextRun at h
    split_ifs at h with hdue hrun
    · obtain rfl := Option.some.inj h
      exact ⟨Nat.le_refl _, hrun, fun j hj hjn => by omega⟩
    · obtain ⟨hle, hn, hpass⟩ := ih h
      refine ⟨by omega, hn, fun j hj hjn => ?_⟩
      rcases Nat.eq_or_lt_of_le hj with rfl | hlt
      · simpa using hrun
      · exact hpass j hlt hjn

theorem nextRun_notDue {d : Dev} {n : Nat} (h : mergeDue d n = false) (fuel : Nat) : nextRun d fuel n = none := by
  cases fuel with
  | zero => rfl
  | succ fuel => exact if_pos h

/-- The block at the merge of frame n: once the growth ring of frame n + 3 has passed the array, or at once if there will be none (R184). -/
def atMerge (n : Nat) (d : Dev) : Dev := if n + 3 < d.grid.nextT then advTo (t0At d (n + 3) + dget R.GROWTH_RING_SPAN d) d else d

theorem only_atMerge (n : Nat) (d : Dev) : ChangesOnly [.now, .time] d (atMerge n d) := (only_advTo _ _).ite (ChangesOnly.refl _ _)

theorem clipCountMerge_eq {n : Nat} {d : Dev} (h : nextRun d (d.grid.nextClose - d.enc.nextMerge) d.enc.nextMerge = some n) :
    clipCountMerge d = mergeFrame n (passedOver n (atMerge n d)) := by
  obtain ⟨hle, hrun, hpass⟩ := nextRun_some h
  have honly := only_atMerge n d
  have henc : (atMerge n d).enc = d.enc := honly .enc (by decide)
  have hisRun (k : Nat) : isRun (atMerge n d) k = isRun d k := isRun_congr (honly .frames (by decide)) k
  have hmerged : mergeTo (n + 1) (n + 1) (atMerge n d) = mergeFrame n (passedOver n (atMerge n d)) :=
    mergeTo_nextRun (by rwa [henc]) (by omega) ((hisRun n).trans hrun) fun k hk hkn => (hisRun k).trans (hpass k (by rwa [henc] at hk) hkn)
  unfold clipCountMerge
  rw [h]
  exact hmerged

/-- What enters monitor m is what the counts of frame n hold for it, unless its slot's monitors were cleared later (R187). -/
theorem totalOf_mergedCounts (n m : Nat) (d : Dev) : totalOf (mergedCounts n (passedOver n d)) (fun c => c.clips) m =
    ((d.enc.counts.filter (fun c => decide (c.frame = n ∧ c.mon = m ∧ floorOf d m ≤ n))).map (fun c => c.clips)).sum := by
  have hfloor (k : Nat) : floorOf (passedOver n d) k = floorOf d k := rfl
  unfold totalOf mergedCounts
  show ((List.filter _ (List.filter _ (d.enc.counts.filter fun c => decide (c.frame < d.enc.nextMerge ∨ n ≤ c.frame)))).map _).sum = _
  simp only [List.filter_filter, hfloor]
  congr 3
  funext c
  simp only [← Bool.decide_and, decide_eq_decide]
  constructor
  · rintro ⟨rfl, ⟨rfl, hf⟩, -⟩
    exact ⟨rfl, rfl, hf⟩
  · rintro ⟨rfl, rfl, hf⟩
    exact ⟨rfl, ⟨rfl, hf⟩, .inr (Nat.le_refl _)⟩

theorem counts_passedOver {n : Nat} {d : Dev} (h : d.enc.nextMerge ≤ n) :
    (passedOver n d).enc.counts.filter (fun c => decide (c.frame ≠ n)) =
      d.enc.counts.filter (fun c => decide (c.frame < d.enc.nextMerge ∨ n < c.frame)) := by
  show (d.enc.counts.filter _).filter _ = _
  rw [List.filter_filter]
  congr 1
  funext c
  rw [← Bool.decide_and, decide_eq_decide]
  omega

/-- Settles O23: `clipCountMerge_eq` says which frame is merged, `rose_mergeFrame` what its counts add. -/
theorem clipCounts : Obligations.ClipCounts := by
  refine ⟨fun n s h _ => ⟨_, run_ok rfl, ?_⟩, fun s h => ?_⟩
  · have hle := (nextRun_some h).1
    have hmerge := only_atMerge n s.dev
    have henc : (atMerge n s.dev).enc = s.dev.enc := hmerge .enc (by decide)
    have honly := only_mergeFrame n (passedOver n (atMerge n s.dev))
    obtain ⟨mons, mask, hmerged⟩ := mergeFrame_enc n (passedOver n (atMerge n s.dev))
    have hcounts := counts_passedOver (n := n) (d := atMerge n s.dev) (by rwa [henc])
    rw [henc] at hcounts
    have hdict : (atMerge n s.dev).dict = s.dev.dict := hmerge .dict (by decide)
    have hfloor := floorOf_congr hdict henc (hmerge .ldr (by decide))
    have hstaged : (atMerge n s.dev).enc.staged = s.dev.enc.staged := congrArg Enc.staged henc
    rw [clipCountMerge_eq h]
    refine ⟨?_, by rw [hmerged]; rfl, by rw [hmerged]; exact hcounts, fun m hm => ?_, by rw [hmerged]; rfl, ?_, ?_⟩
    · refine (honly .now (by decide)).trans ?_
      show (atMerge n s.dev).now = _
      unfold atMerge
      split <;> rfl
    · have hrose := rose_mergeFrame hm n (passedOver n (atMerge n s.dev))
      rw [totalOf_mergedCounts, henc, hfloor] at hrose
      exact rose_of_stays_before (seb_dict (ks := []) (b := passedOver n (atMerge n s.dev)) hdict _ (by simp)) hrose
    · rw [hmerged]
      exact hstaged
    · exact (hmerge.mono (by decide)).trans (((only_enc _ _).mono (by decide)).trans (honly.mono (by decide)))
  · refine (run_ok rfl : execClipCountMerge s = _).trans ?_
    rw [clipCountMerge, nextRun_notDue h]

end Sys2Proof.Machine
end

section
/-! SUPPORT. What the end of a load job and the emptying of a slot write, and what they leave alone (R228 to R231, R345, R377). -/

namespace Sys2Proof.Machine

/-! ### Steps that write one part of the block -/

theorem only_ldr (x : Ldr) (d : Dev) : ChangesOnly [.ldr] d { d with ldr := x } :=
  fun p hp => by cases p <;> first | exact absurd (by decide) hp | rfl
theorem only_clus (x : Tab Clus) (d : Dev) : ChangesOnly [.clus] d { d with clus := x } :=
  fun p hp => by cases p <;> first | exact absurd (by decide) hp | rfl
theorem only_showReading (d : Dev) : ChangesOnly [.store] d (showReading d) :=
  fun p hp => by cases p <;> first | exact absurd (by decide) hp | rfl
theorem only_clearSlot (slot : Nat) (d : Dev) : ChangesOnly [.cores, .fab] d (clearSlot slot d) :=
  fun p hp => by cases p <;> first | exact absurd (by decide) hp | rfl

/-! ### LOAD_STATE (R363) -/

theorem dget_loadState (v : Nat) (d : Dev) : dget R.LOAD_STATE (loadState v d) = v := by
  unfold loadState
  split
  · rw [dget_msi, dget_dset_same]
  · exact dget_dset_same _ _ _

theorem seb_loadState (v : Nat) (d : Dev) : SameEntriesBut [R.LOAD_STATE.key] d (loadState v d) :=
  (seb_dset List.mem_cons_self v d).trans (seb_ite (seb_dict (msi_dict _ _)) (seb_refl _ _))

theorem dget_loadState_ne {r : Reg} (h : r.key ≠ R.LOAD_STATE.key) (v : Nat) (d : Dev) : dget r (loadState v d) = dget r d :=
  seb_loadState v d r (by simpa using h)

theorem only_loadState (v : Nat) (d : Dev) : ChangesOnly [.dict, .host] d (loadState v d) :=
  ((only_dset _ _ _).mono (by decide)).trans (((only_msi _ _).mono (by decide)).ite (ChangesOnly.refl _ _))

/-- A state in which a job goes on signals no vector. -/
theorem loadState_onWay {v : Nat} (h6 : v ≠ 6) (h7 : v ≠ 7) (d : Dev) : loadState v d = dset R.LOAD_STATE v d :=
  if_neg (by simp [h6, h7])

/-! ### The loader's staged groups go (R377) -/

theorem seb_dropHolds (c : Nat) (d : Dev) : SameEntriesBut [R.HOLDS_DISCARDED.key] d (dropHolds c d) := by
  unfold dropHolds
  generalize heldStaging d c = l
  induction l generalizing d with
  | nil => exact seb_refl _ _
  | cons g l ih => exact ((seb_dict rfl).trans (seb_bump List.mem_cons_self (freeGroup g d))).trans (ih _)

theorem only_freeGroup (g : Nat) (d : Dev) : ChangesOnly [.ctl] d (freeGroup g d) := by
  unfold freeGroup setGrp
  exact only_modCtl _ d

theorem only_dropHolds (c : Nat) (d : Dev) : ChangesOnly [.dict, .ctl] d (dropHolds c d) :=
  ChangesOnly.foldl (ps := [.dict, .ctl]) (fun d g => (only_freeGroup g d).then (only_bump _ _) (by decide) (by decide)) _ _

/-! ### A job is over -/

/-- No load job is in progress. -/
def jobGone (d : Dev) : Dev := { d with ldr := { d.ldr with job := none } }

/-- What the end of a job leaves, before LOAD_STATE is written. -/
def jobDropped (d : Dev) : Dev := dropHolds 1 (jobGone d)

theorem jobDropped_ldr (d : Dev) : (jobDropped d).ldr = { d.ldr with job := none } := only_dropHolds 1 (jobGone d) .ldr (by decide)

theorem seb_jobDropped (d : Dev) : SameEntriesBut [R.HOLDS_DISCARDED.key] d (jobDropped d) :=
  (seb_dict rfl).trans (seb_dropHolds 1 (jobGone d))

theorem loadDone_eq (d : Dev) : loadDone d = loadState 6 (jobDropped d) := rfl

theorem loadDone_ldr (d : Dev) : (loadDone d).ldr = { d.ldr with job := none } :=
  (only_loadState 6 _ .ldr (by decide)).trans (jobDropped_ldr d)

theorem dget_loadDone_ne {r : Reg} (hs : r.key ≠ R.LOAD_STATE.key) (hh : r.key ≠ R.HOLDS_DISCARDED.key) (d : Dev) :
    dget r (loadDone d) = dget r d :=
  (dget_loadState_ne hs 6 _).trans (seb_jobDropped d r (by simpa using hh))

/-- A job that succeeds reads as state 6, and is gone. -/
theorem loadDone_over (d : Dev) : dget R.LOAD_STATE (loadDone d) = 6 ∧ (loadDone d).ldr.job = none :=
  ⟨dget_loadState 6 _, congrArg Ldr.job (loadDone_ldr d)⟩

/-! ### A step that writes no entry below the review engine's -/

/-- Block b differs from a in no entry below those of the review engine (0x3070), and in no part but those listed. -/
def LowKeeps (ps : List Part) (a b : Dev) : Prop := (∀ r : Reg, r.key < 0x307000 → dget r b = dget r a) ∧ ChangesOnly ps a b

section LowKeeps

variable {ps : List Part}

theorem LowKeeps.refl (a : Dev) : LowKeeps ps a a := ⟨fun _ _ => rfl, ChangesOnly.refl _ _⟩

theorem LowKeeps.trans {a b c : Dev} (h : LowKeeps ps a b) (g : LowKeeps ps b c) : LowKeeps ps a c :=
  ⟨fun r hr => (g.1 r hr).trans (h.1 r hr), h.2.trans g.2⟩

theorem LowKeeps.mono {qs : List Part} {a b : Dev} (h : LowKeeps ps a b) (hs : ps ⊆ qs) : LowKeeps qs a b := ⟨h.1, h.2.mono hs⟩

theorem LowKeeps.ite {p : Prop} [Decidable p] {a b c : Dev} (h : LowKeeps ps a b) (g : LowKeeps ps a c) :
    LowKeeps ps a (if p then b else c) := by split <;> assumption

theorem LowKeeps.foldl {α : Type} {f : Dev → α → Dev} (h : ∀ d x, LowKeeps ps d (f d x)) (l : List α) (d : Dev) :
    LowKeeps ps d (l.foldl f d) := by
  induction l generalizing d with
  | nil => exact LowKeeps.refl _
  | cons x l ih => exact (h d x).trans (ih _)

/-- A step that leaves the dictionary alone. -/
theorem LowKeeps.of_only {qs : List Part} {a b : Dev} (h : ChangesOnly qs a b) (hd : Part.dict ∉ qs) (hs : qs ⊆ ps) : LowKeeps ps a b :=
  ⟨fun r _ => seb_dict (ks := []) (h .dict hd) r (by simp), h.mono hs⟩

theorem lowKeeps_dset {r : Reg} (h : 0x307000 ≤ r.key) (hd : Part.dict ∈ ps) (v : Nat) (d : Dev) : LowKeeps ps d (dset r v d) :=
  ⟨fun _ hq => dget_dset_ne v d (by omega), (only_dset r v d).mono (by simpa using hd)⟩

theorem lowKeeps_bump {r : Reg} (h : 0x307000 ≤ r.key) (hd : Part.dict ∈ ps) (d : Dev) : LowKeeps ps d (bump r d) :=
  ⟨fun _ hq => dget_bump_ne d (by omega), (only_bump r d).mono (by simpa using hd)⟩

end LowKeeps

/-! ### A slot's networks leave (R331, R345) -/

/-- The parts that the end of a slot's review jobs may write. -/
def netParts : List Part := [.dict, .host, .store, .clus]

theorem lowKeeps_endJob (j : Job) (status : Nat) (ran : Bool) (d : Dev) : LowKeeps netParts d (endJob j status ran d) := by
  have hcount (r : Reg) (h : 0x307000 ≤ r.key) (e : Dev) : LowKeeps netParts e (bump r e) := lowKeeps_bump h (by decide) e
  unfold endJob
  dsimp only
  generalize hrec : pushRec 4 _ d = e
  have hpushed : LowKeeps netParts d e := hrec ▸ LowKeeps.of_only (only_pushRec 4 _ d) (by decide) (by decide)
  exact hpushed.trans (.ite (hcount _ (by decide) _) (.ite (hcount _ (by decide) _) (.ite (hcount _ (by decide) _) (.refl _))))

theorem lowKeeps_setClus (c : Nat) (x : Clus) (d : Dev) : LowKeeps netParts d (setClus c x d) :=
  (LowKeeps.of_only (only_clus _ d) (by decide) (by decide)).trans
    (lowKeeps_dset (by simp only [R.CLUSTER_QUEUED]; omega) (by decide) _ _)

theorem lowKeeps_leaveClus (c st : Nat) (d : Dev) : LowKeeps netParts d (leaveClus c st d) := by
  have hstate (e : Dev) : LowKeeps netParts e (dset (R.CLUSTER_STATE c) st e) :=
    lowKeeps_dset (by simp only [R.CLUSTER_STATE]; omega) (by decide) _ _
  exact (lowKeeps_setClus c _ d).trans ((LowKeeps.ite (.refl _) (hstate _)).trans
    (LowKeeps.of_only (only_showReading _) (by decide) (by decide)))

theorem lowKeeps_finishJob (c status : Nat) (d : Dev) : LowKeeps netParts d (finishJob c status d) := by
  unfold finishJob
  split
  · exact .refl _
  · exact (lowKeeps_leaveClus _ _ d).trans (lowKeeps_endJob _ _ _ _)

theorem lowKeeps_endNetJobs (slot : Nat) (d : Dev) : LowKeeps netParts d (endNetJobs slot d) := by
  refine LowKeeps.foldl (fun e c => ?_) _ _
  dsimp only
  refine LowKeeps.trans (b := match (clusOf e c).job with
    | some j => if decide (j.net / 4 = slot) then finishJob c 6 e else e
    | none => e) ?_ ((lowKeeps_setClus _ _ _).trans (LowKeeps.foldl (fun _ _ => lowKeeps_endJob _ _ _ _) _ _))
  split
  · exact .ite (lowKeeps_finishJob _ _ _) (.refl _)
  · exact .refl _

theorem lowKeeps_showNets (d : Dev) : LowKeeps [.dict] d (showNets d) := by
  have hpages (n v : Nat) (e : Dev) : LowKeeps [.dict] e (dset (R.NET_PAGES n) v e) :=
    lowKeeps_dset (by simp only [R.NET_PAGES]; omega) (by decide) _ _
  have hstate (n v : Nat) (e : Dev) : LowKeeps [.dict] e (dset (R.NET_STATE n) v e) :=
    lowKeeps_dset (by simp only [R.NET_STATE]; omega) (by decide) _ _
  exact (LowKeeps.foldl (fun e n => (hstate n _ e).trans (hpages n _ _)) _ d).trans (lowKeeps_dset (by decide) (by decide) _ _)

theorem unloadNets_ldr (slot : Nat) (d : Dev) : ∃ nets, (unloadNets slot d).ldr = { d.ldr with nets := nets } := by
  have hjobs : (endNetJobs slot d).ldr = d.ldr := (lowKeeps_endNetJobs slot d).2 .ldr (by decide)
  refine ⟨(List.range 4).foldl (fun t k => tset none t (4 * slot + k) none) d.ldr.nets, ?_⟩
  rw [← hjobs]
  exact (lowKeeps_showNets _).2 .ldr (by decide)

/-! ### A slot holds nothing any more (R231) -/

/-- The parts that the emptying of a slot may write. -/
def slotParts : List Part := [.dict, .host, .store, .clus, .enc, .ldr, .cores, .fab]

theorem lowKeeps_clearMons (slot : Nat) (d : Dev) : LowKeeps [.dict, .enc] d (clearMons slot d) := by
  have hshare (m : Nat) (e : Dev) : LowKeeps [.dict, .enc] e (dset (R.CLIP_SHARE m) 0 e) :=
    lowKeeps_dset (by simp only [R.CLIP_SHARE]; omega) (by decide) _ _
  exact (LowKeeps.foldl (fun e m => hshare m e) _ d).trans ((LowKeeps.of_only (only_enc _ _) (by decide) (by decide)).trans
    ((lowKeeps_dset (by decide) (by decide) _ _).trans (lowKeeps_dset (by decide) (by decide) _ _)))

theorem only_forgetMons (slot : Nat) (d : Dev) : ChangesOnly [.enc] d (forgetMons slot d) := (only_enc _ d).trans (only_enc _ _)

theorem lowKeeps_unloadNets (slot : Nat) (d : Dev) : LowKeeps slotParts d (unloadNets slot d) := by
  unfold unloadNets
  dsimp only
  have hjobs := (lowKeeps_endNetJobs slot d).mono (qs := slotParts) (by decide)
  generalize endNetJobs slot d = e at hjobs
  exact hjobs.trans ((LowKeeps.of_only (only_ldr _ e) (by decide) (by decide)).trans ((lowKeeps_showNets _).mono (by decide)))

/-- The context of a slot, its monitors and its networks are gone; the slot's entries still show them. -/
def contentsGone (slot : Nat) (d : Dev) : Dev := unloadNets slot (forgetMons slot (clearMons slot (clearSlot slot d)))

theorem lowKeeps_contentsGone (slot : Nat) (d : Dev) : LowKeeps slotParts d (contentsGone slot d) := by
  have hcleared : LowKeeps slotParts d (clearSlot slot d) := LowKeeps.of_only (only_clearSlot slot d) (by decide) (by decide)
  have hmons := hcleared.trans ((lowKeeps_clearMons slot _).mono (by decide))
  have hforgot := hmons.trans (LowKeeps.of_only (only_forgetMons slot _) (by decide) (by decide))
  exact hforgot.trans (lowKeeps_unloadNets slot _)

theorem contentsGone_ldr (slot : Nat) (d : Dev) : ∃ nets, (contentsGone slot d).ldr = { d.ldr with nets := nets } := by
  have hmons : (forgetMons slot (clearMons slot (clearSlot slot d))).ldr = d.ldr :=
    (only_forgetMons slot _ .ldr (by decide)).trans ((lowKeeps_clearMons slot _).2 .ldr (by decide))
  obtain ⟨nets, h⟩ := unloadNets_ldr slot (forgetMons slot (clearMons slot (clearSlot slot d)))
  exact ⟨nets, h.trans (by rw [hmons])⟩

/-- The slot is listed with no context. -/
def contextGone (slot : Nat) (d : Dev) : Dev := { d with ldr := { d.ldr with ctxs := tset Loaded.rest d.ldr.ctxs slot Loaded.rest } }

theorem dget_contextGone (r : Reg) (slot : Nat) (d : Dev) : dget r (contextGone slot d) = dget r d := rfl

/-- The entries of the slot, and those of the loader, show that the slot is empty. -/
def shownEmpty (slot : Nat) (d : Dev) : Dev :=
  showLoader (dset (R.MONITOR_BASE slot) 0xFFFF (dset (R.SLOT_STATE slot) 0 (dset (R.WEIGHT_DIGEST slot) 0
    (dset (R.LIVE_WEIGHT_DIGEST slot) 0 (dset (R.VERDICT_EXPECTED slot) 0 (dset (R.PROGRAM_DIGEST slot) 0 d))))))

theorem emptySlot_eq (slot : Nat) (d : Dev) : emptySlot slot d = shownEmpty slot (contextGone slot (contentsGone slot d)) := rfl

theorem only_shownEmpty (slot : Nat) (d : Dev) : ChangesOnly [.dict] d (shownEmpty slot d) :=
  (only_dset _ _ _).trans ((only_dset _ _ _).trans ((only_dset _ _ _).trans ((only_dset _ _ _).trans ((only_dset _ _ _).trans
    ((only_dset _ _ _).trans ((only_dset _ _ _).trans (only_dset _ _ _)))))))

theorem emptySlot_ldr (slot : Nat) (d : Dev) :
    ∃ nets, (emptySlot slot d).ldr = { d.ldr with nets := nets, ctxs := tset Loaded.rest d.ldr.ctxs slot Loaded.rest } := by
  obtain ⟨nets, h⟩ := contentsGone_ldr slot d
  refine ⟨nets, ?_⟩
  rw [emptySlot_eq, only_shownEmpty slot _ .ldr (by decide), contextGone, h]

theorem loadedOf_emptySlot (slot : Nat) (d : Dev) : loadedOf (emptySlot slot d) slot = Loaded.rest := by
  obtain ⟨nets, h⟩ := emptySlot_ldr slot d
  simp [loadedOf, h]

theorem only_emptySlot (slot : Nat) (d : Dev) : ChangesOnly slotParts d (emptySlot slot d) := by
  rw [emptySlot_eq]
  exact (lowKeeps_contentsGone slot d).2.trans (ChangesOnly.then (only_ldr _ _) (only_shownEmpty slot _) (by decide) (by decide))

/-- The entries of a slot that its emptying writes, and those of the loader that follow. -/
def slotKeys (slot : Nat) : List Nat :=
  [(R.MONITOR_BASE slot).key, (R.SLOT_STATE slot).key, (R.WEIGHT_DIGEST slot).key, (R.LIVE_WEIGHT_DIGEST slot).key,
    (R.VERDICT_EXPECTED slot).key, (R.PROGRAM_DIGEST slot).key, R.RETAINED_BYTES.key, R.WINDTHROW_COUNT.key]

theorem seb_shownEmpty (slot : Nat) (d : Dev) : SameEntriesBut (slotKeys slot) d (shownEmpty slot d) := by
  have hset (q : Reg) (hq : q.key ∈ slotKeys slot) (v : Nat) (e : Dev) : SameEntriesBut (slotKeys slot) e (dset q v e) := seb_dset hq v e
  have hloader (e : Dev) : SameEntriesBut (slotKeys slot) e (showLoader e) :=
    (hset R.WINDTHROW_COUNT (by simp [slotKeys]) _ _).trans (hset R.RETAINED_BYTES (by simp [slotKeys]) _ _)
  exact (hset (R.PROGRAM_DIGEST slot) (by simp [slotKeys]) _ _).trans ((hset (R.VERDICT_EXPECTED slot) (by simp [slotKeys]) _ _).trans
    ((hset (R.LIVE_WEIGHT_DIGEST slot) (by simp [slotKeys]) _ _).trans ((hset (R.WEIGHT_DIGEST slot) (by simp [slotKeys]) _ _).trans
      ((hset (R.SLOT_STATE slot) (by simp [slotKeys]) _ _).trans ((hset (R.MONITOR_BASE slot) (by simp [slotKeys]) _ _).trans (hloader _))))))

theorem dget_emptySlot_ne {r : Reg} {slot : Nat} (hr : r.key < 0x307000) (h : r.key ∉ slotKeys slot) (d : Dev) :
    dget r (emptySlot slot d) = dget r d := by
  rw [emptySlot_eq, seb_shownEmpty slot _ r h, dget_contextGone]
  exact (lowKeeps_contentsGone slot d).1 r hr

theorem dget_showLoader_ne {r : Reg} (hb : R.RETAINED_BYTES.key ≠ r.key) (hc : R.WINDTHROW_COUNT.key ≠ r.key) (d : Dev) :
    dget r (showLoader d) = dget r d :=
  (dget_dset_ne _ _ hb).trans (dget_dset_ne _ _ hc)

theorem only_showLoader (d : Dev) : ChangesOnly [.dict] d (showLoader d) := (only_dset _ _ _).trans (only_dset _ _ _)

/-- What the entries of an empty slot read (Table 8.13). -/
theorem emptySlot_entries {slot : Nat} (h : slot < 4) (d : Dev) :
    dget (R.SLOT_STATE slot) (emptySlot slot d) = 0 ∧ dget (R.PROGRAM_DIGEST slot) (emptySlot slot d) = 0 ∧
    dget (R.WEIGHT_DIGEST slot) (emptySlot slot d) = 0 ∧ dget (R.MONITOR_BASE slot) (emptySlot slot d) = 0xFFFF ∧
    dget (R.VERDICT_EXPECTED slot) (emptySlot slot d) = 0 := by
  have hshow (k v : Nat) (hb : 0x303009 ≠ k) (hc : 0x30300A ≠ k) (d : Dev) : dget ⟨k, v⟩ (showLoader d) = dget ⟨k, v⟩ d :=
    dget_showLoader_ne (r := ⟨k, v⟩) hb hc d
  rw [emptySlot_eq, shownEmpty]
  simp only [R.SLOT_STATE, R.PROGRAM_DIGEST, R.WEIGHT_DIGEST, R.LIVE_WEIGHT_DIGEST, R.MONITOR_BASE, R.VERDICT_EXPECTED]
  refine ⟨?_, ?_, ?_, ?_, ?_⟩
  all_goals
    rw [hshow _ _ (by omega) (by omega)]
    simp only [dget_dset_lit]
    simp
    try omega

end Sys2Proof.Machine
end

section
/-! SUPPORT. LOAD_COMMAND and RETIRE_CORE as the loader takes them (R228, R229, R232, R454), and what settles O24. -/

namespace Sys2Proof.Machine

/-! ### What a load command starts with -/

/-- The job of a LOAD_COMMAND, as the loader's entries name it. -/
def newJob (cmd : Nat) (d : Dev) : LoadJob where
  cmd := cmd
  slot := dget R.LOAD_SLOT d
  addr := dget R.LOAD_ADDR d
  bytes := dget R.LOAD_BYTES d
  obj := []
  map := []
  base := 0
  keys := []
  keyed := false
  was := dget (R.SLOT_STATE (dget R.LOAD_SLOT d)) d

/-- The job is in progress, and the errors of the last one are cleared. -/
def jobBegun (cmd : Nat) (d : Dev) : Dev :=
  dset R.LOAD_ERROR 0 (dset R.LOAD_ERROR_DETAIL 0 { d with ldr := { d.ldr with job := some (newJob cmd d) } })

theorem only_jobBegun (cmd : Nat) (d : Dev) : ChangesOnly [.dict, .ldr] d (jobBegun cmd d) :=
  ((only_ldr _ d).mono (by decide)).trans (((only_dset _ _ _).trans (only_dset _ _ _)).mono (by decide))

theorem seb_jobBegun (cmd : Nat) (d : Dev) : SameEntriesBut [R.LOAD_ERROR.key, R.LOAD_ERROR_DETAIL.key] d (jobBegun cmd d) :=
  (seb_dict rfl).trans ((seb_dset (by simp) _ _).trans (seb_dset (by simp) _ _))

theorem jobBegun_job (cmd : Nat) (d : Dev) : (jobBegun cmd d).ldr.job = some (newJob cmd d) := rfl

theorem jobBegun_errors (cmd : Nat) (d : Dev) : dget R.LOAD_ERROR (jobBegun cmd d) = 0 ∧ dget R.LOAD_ERROR_DETAIL (jobBegun cmd d) = 0 :=
  ⟨dget_dset_same _ _ _, (dget_dset_ne _ _ (by decide)).trans (dget_dset_same _ _ _)⟩

/-- The rest of the block says whether a slot may be touched by these entries and the staged blocks alone. -/
theorem slotBarred_congr {a b : Dev} {slot : Nat} (hs : dget (R.SLOT_STATE slot) b = dget (R.SLOT_STATE slot) a)
    (he : dget R.ENC_STATE b = dget R.ENC_STATE a) (hf : dget R.FALLBACK_ENABLE b = dget R.FALLBACK_ENABLE a) (hb : b.enc = a.enc)
    (cmd : Nat) : slotBarred b cmd slot = slotBarred a cmd slot := by
  unfold slotBarred encHolds
  rw [hs, he, hf, hb]

theorem slotState_key_notMem (slot : Nat) : (R.SLOT_STATE slot).key ∉ [R.LOAD_STATE.key, R.LOAD_ERROR.key, R.LOAD_ERROR_DETAIL.key] := by
  simp only [R.SLOT_STATE, R.LOAD_STATE, R.LOAD_ERROR, R.LOAD_ERROR_DETAIL, List.mem_cons, List.not_mem_nil, or_false]
  omega

theorem slotBarred_jobBegun (cmd slot : Nat) (d : Dev) : slotBarred (jobBegun cmd d) cmd slot = slotBarred d cmd slot := by
  have hsame := seb_jobBegun cmd d
  exact slotBarred_congr (hsame _ fun h => slotState_key_notMem slot (List.mem_cons_of_mem _ h)) (hsame _ (by decide)) (hsame _ (by decide)) rfl cmd

theorem slotBarred_asked (c cmd slot : Nat) (d : Dev) : slotBarred (asked c d) cmd slot = slotBarred d cmd slot :=
  slotBarred_congr (dget_asked _ c d) (dget_asked _ c d) (dget_asked _ c d) (asked_enc c d) cmd

theorem loadIdle_asked {c : Nat} {d : Dev} (h : LoadIdle d) : LoadIdle (asked c d) := by
  unfold LoadIdle
  rwa [dget_asked, preparing_asked]

/-! ### The outcomes of LOAD_COMMAND (R228, R229) -/

theorem loadIdle_notBusy {d : Dev} (h : LoadIdle d) : ¬ ((1 ≤ dget R.LOAD_STATE d ∧ dget R.LOAD_STATE d ≤ 5) ∨ preparing d = true) := by
  obtain ⟨hjob, hprep⟩ := h
  simpa [hprep] using hjob

theorem loadCommand_busy {d : Dev} (cmd : Nat) (h : (1 ≤ dget R.LOAD_STATE d ∧ dget R.LOAD_STATE d ≤ 5) ∨ preparing d = true) :
    loadCommand cmd d = (d, 0xA00B) := if_pos h

/-- A job that its slot bars has ended with its error, before LOAD_STATE says so. -/
def jobBarred (cmd : Nat) (d : Dev) : Dev := report 0x0381 0x0019 0 (dset R.LOAD_ERROR 0x0019 (jobGone (jobBegun cmd d)))

theorem loadCommand_barred {cmd : Nat} {d : Dev} (hi : LoadIdle d) (hc : cmd ≠ 3) (hb : slotBarred d cmd (dget R.LOAD_SLOT d) = true) :
    loadCommand cmd d = (loadState 7 (jobBarred cmd d), 0) := by
  rw [← slotBarred_jobBegun] at hb
  exact (if_neg (loadIdle_notBusy hi)).trans (if_pos ⟨hc, hb⟩)

/-- A check leaves its slot's state; a load and an unload have the slot LOADING. -/
def slotTaken (cmd : Nat) (d : Dev) : Dev := if cmd = 3 then jobBegun cmd d else dset (R.SLOT_STATE (dget R.LOAD_SLOT d)) 1 (jobBegun cmd d)

theorem loadCommand_starts {cmd : Nat} {d : Dev} (hi : LoadIdle d) (h : cmd = 3 ∨ slotBarred d cmd (dget R.LOAD_SLOT d) = false) :
    loadCommand cmd d = (loadState (if cmd = 2 then 5 else 1) (slotTaken cmd d), 0) := by
  have hfree : ¬ (cmd ≠ 3 ∧ slotBarred (jobBegun cmd d) cmd (dget R.LOAD_SLOT d) = true) := by
    rw [slotBarred_jobBegun]
    rcases h with h | h <;> simp [h]
  exact (if_neg (loadIdle_notBusy hi)).trans (if_neg hfree)

/-- A job that has started reads so: LOAD_STATE, the errors, and nothing else but its slot. -/
theorem loadStarted (cmd v : Nat) (h6 : v ≠ 6) (h7 : v ≠ 7) (d : Dev) :
    dget R.LOAD_STATE (loadState v (slotTaken cmd d)) = v ∧ dget R.LOAD_ERROR (loadState v (slotTaken cmd d)) = 0 ∧
    dget R.LOAD_ERROR_DETAIL (loadState v (slotTaken cmd d)) = 0 ∧ (loadState v (slotTaken cmd d)).ldr.job = some (newJob cmd d) ∧
    ChangesOnly [.dict, .ldr] d (loadState v (slotTaken cmd d)) := by
  have hslot (r : Reg) (hr : r.key ∈ [R.LOAD_STATE.key, R.LOAD_ERROR.key, R.LOAD_ERROR_DETAIL.key]) :
      dget r (slotTaken cmd d) = dget r (jobBegun cmd d) := by
    unfold slotTaken
    split
    · rfl
    · exact dget_dset_ne _ _ fun h => slotState_key_notMem _ (h ▸ hr)
  have hldr : (slotTaken cmd d).ldr = (jobBegun cmd d).ldr := by unfold slotTaken; split <;> rfl
  have honly : ChangesOnly [.dict, .ldr] d (slotTaken cmd d) :=
    (only_jobBegun cmd d).ite ((only_jobBegun cmd d).trans ((only_dset _ _ _).mono (by decide)))
  obtain ⟨herr, hdetail⟩ := jobBegun_errors cmd d
  refine ⟨dget_loadState _ _, ?_, ?_, ?_, ?_⟩
  · rw [dget_loadState_ne (by decide), hslot _ (by simp), herr]
  · rw [dget_loadState_ne (by decide), hslot _ (by simp), hdetail]
  · rw [only_loadState _ _ .ldr (by decide), hldr, jobBegun_job]
  · rw [loadState_onWay h6 h7]
    exact honly.trans ((only_dset _ _ _).mono (by decide))

theorem slotState_slotTaken {cmd : Nat} (h : cmd ≠ 3) (v : Nat) (d : Dev) :
    dget (R.SLOT_STATE (dget R.LOAD_SLOT d)) (loadState v (slotTaken cmd d)) = 1 := by
  have hne := List.ne_of_not_mem_cons (slotState_key_notMem (dget R.LOAD_SLOT d))
  rw [dget_loadState_ne hne, slotTaken, if_neg h]
  exact dget_dset_same _ _ _

theorem seb_slotTaken (cmd v : Nat) (d : Dev) : SameEntriesBut (loadKeys (dget R.LOAD_SLOT d)) d (loadState v (slotTaken cmd d)) := by
  have hbegun : SameEntriesBut (loadKeys (dget R.LOAD_SLOT d)) d (jobBegun cmd d) := (seb_jobBegun cmd d).mono (by simp [loadKeys])
  exact (seb_ite hbegun (hbegun.trans (seb_dset (by simp [loadKeys]) _ _))).trans ((seb_loadState _ _).mono (by simp [loadKeys]))

theorem seb_checkTaken (v : Nat) (d : Dev) :
    SameEntriesBut [R.LOAD_STATE.key, R.LOAD_ERROR.key, R.LOAD_ERROR_DETAIL.key] d (loadState v (slotTaken 3 d)) :=
  ((seb_jobBegun 3 d).mono (by simp)).trans ((seb_loadState v (jobBegun 3 d)).mono (by simp))

/-- The command ends at once, and the error is reported. -/
theorem loadFailed_jobBarred (cmd : Nat) (d : Dev) :
    LoadFailed (0x0019, 0) (loadState 7 (jobBarred cmd d)) ∧ LastFault 0x0381 (loadState 7 (jobBarred cmd d)) := by
  have hseb := seb_report (c := 0x0381) (by decide) 0x0019 0 (dset R.LOAD_ERROR 0x0019 (jobGone (jobBegun cmd d)))
  have hldr : (jobBarred cmd d).ldr = (jobGone (jobBegun cmd d)).ldr := only_report (by decide) _ _ _ .ldr (by decide)
  refine ⟨⟨dget_loadState _ _, ?_, ?_, ?_⟩, ?_⟩
  · rw [dget_loadState_ne (by decide), jobBarred, hseb _ (by decide), dget_dset_same]
  · rw [dget_loadState_ne (by decide), jobBarred, hseb _ (by decide), dget_dset_ne _ _ (by decide)]
    exact (jobBegun_errors cmd d).2
  · rw [only_loadState _ _ .ldr (by decide), hldr]
    rfl
  · exact (lastFault_report (by decide) _ _ _).of_same (dget_loadState_ne (by decide) _ _) (only_loadState _ _ .undef (by decide))

/-! ### The write of LOAD_COMMAND -/

theorem rowIs_loadCommand : rowIs R.LOAD_COMMAND ⟨0x3030, 1, 0x04, 1, .u8, .wo, .range 1 3, .none, false⟩ = true := by decide +kernel

section Requests

variable {c v : Nat} {i : Instr} {s : State}

theorem entryWrite_loadCommand (ha : Asks c s.dev) (h1 : 1 ≤ v) (h3 : v ≤ 3) :
    entryWrite c (R.LOAD_COMMAND.key / 256) (R.LOAD_COMMAND.key % 256) (natural v) none (asked c s.dev) =
      if v ≠ 2 ∧ dget R.STORE_STATE s.dev ≠ 2 then (asked c s.dev, 0xA00B, R.LOAD_COMMAND.key)
      else ((loadCommand v (asked c s.dev)).1, (loadCommand v (asked c s.dev)).2, R.LOAD_COMMAND.key) := by
  rw [entryWrite_row _ ha rowIs_loadCommand ⟨nofun, nofun⟩ (by simp [tyBytes]; omega) rfl (by simp [chkValue, h1, h3]) rfl,
    ← dget_asked R.STORE_STATE c s.dev]
  rfl

/-- A load command that is not refused has its effect on the block as the request marked it. -/
theorem completes_loadCommand {e : Dev} {P : Dev → Prop} (hi : exec i s = run (decide (c < 10)) (rowWrite c R.LOAD_COMMAND v) s)
    (ha : Asks c s.dev) (h1 : 1 ≤ v) (h3 : v ≤ 3) (hs : v = 2 ∨ dget R.STORE_STATE s.dev = 2) (hf : loadCommand v (asked c s.dev) = (e, 0))
    (hP : P e) : Completes (exec i s) s P := by
  have hready : ¬ (v ≠ 2 ∧ dget R.STORE_STATE s.dev ≠ 2) := fun h => hs.elim h.1 h.2
  have hwrite := entryWrite_loadCommand ha h1 h3
  rw [if_neg hready, hf] at hwrite
  exact ⟨_, hi.trans (run_ok (by simpa using ha.1)), by rwa [rowWrite_admitted ha hwrite]⟩

/-- A load command while another is in progress, or while a power transition is being prepared, and one that needs the store before it is
ready, is turned away. -/
theorem completes_loadCommand_refused (hi : exec i s = run (decide (c < 10)) (rowWrite c R.LOAD_COMMAND v) s) (ha : Asks c s.dev) (h1 : 1 ≤ v)
    (h3 : v ≤ 3)
    (h : (v ≠ 2 ∧ dget R.STORE_STATE s.dev ≠ 2) ∨ (1 ≤ dget R.LOAD_STATE s.dev ∧ dget R.LOAD_STATE s.dev ≤ 5) ∨ preparing s.dev = true) :
    Completes (exec i s) s (TurnedAway c 0xA00B s.dev) := by
  have hbusy (hb : (1 ≤ dget R.LOAD_STATE s.dev ∧ dget R.LOAD_STATE s.dev ≤ 5) ∨ preparing s.dev = true) :
      loadCommand v (asked c s.dev) = (asked c s.dev, 0xA00B) :=
    loadCommand_busy v (by rwa [dget_asked, preparing_asked])
  have hwrite : entryWrite c (R.LOAD_COMMAND.key / 256) (R.LOAD_COMMAND.key % 256) (natural v) none (asked c s.dev) =
      (asked c s.dev, 0xA00B, R.LOAD_COMMAND.key) := by
    rw [entryWrite_loadCommand ha h1 h3]
    by_cases hs : v ≠ 2 ∧ dget R.STORE_STATE s.dev ≠ 2
    · exact if_pos hs
    · rw [if_neg hs, hbusy (h.resolve_left hs)]
  exact ⟨_, hi.trans (run_ok (by simpa using ha.1)), request_refused ha (by decide) (by decide) hwrite⟩

/-- A slot that may not be touched ends a load or an unload at once (R229). -/
theorem completes_loadCommand_barred (hi : exec i s = run (decide (c < 10)) (rowWrite c R.LOAD_COMMAND v) s) (ha : Asks c s.dev) (h1 : 1 ≤ v)
    (h3 : v < 3) (hs : dget R.STORE_STATE s.dev = 2) (hidle : LoadIdle s.dev) (hb : slotBarred s.dev v (dget R.LOAD_SLOT s.dev) = true) :
    Completes (exec i s) s fun d => LoadFailed (0x0019, 0) d ∧ LastFault 0x0381 d := by
  have hbarred : slotBarred (asked c s.dev) v (dget R.LOAD_SLOT (asked c s.dev)) = true := by rwa [dget_asked, slotBarred_asked]
  exact completes_loadCommand hi ha h1 (by omega) (.inr hs) (loadCommand_barred (loadIdle_asked hidle) (by omega) hbarred)
    (loadFailed_jobBarred v _)

/-- What a load command does that starts its job. -/
theorem completes_loadCommand_starts {P : Dev → Prop} (hi : exec i s = run (decide (c < 10)) (rowWrite c R.LOAD_COMMAND v) s)
    (ha : Asks c s.dev) (h1 : 1 ≤ v) (h3 : v ≤ 3) (hs : v = 2 ∨ dget R.STORE_STATE s.dev = 2) (hidle : LoadIdle s.dev)
    (hfree : v = 3 ∨ slotBarred s.dev v (dget R.LOAD_SLOT s.dev) = false)
    (hP : P (loadState (if v = 2 then 5 else 1) (slotTaken v (asked c s.dev)))) : Completes (exec i s) s P :=
  completes_loadCommand hi ha h1 h3 hs (loadCommand_starts (loadIdle_asked hidle) (by rwa [dget_asked, slotBarred_asked])) hP

end Requests

theorem newJob_asked (cmd c : Nat) (d : Dev) : newJob cmd (asked c d) = newJob cmd d := by simp [newJob]

/-! ### RETIRE_CORE (R232) -/

theorem rowIs_retireCore : rowIs R.RETIRE_CORE ⟨0x3030, 1, 0x0B, 1, .u16, .wo, .coreName, .none, false⟩ = true := by decide +kernel

theorem entryWrite_retireCore {c x y : Nat} {d : Dev} (ha : Asks c d) (hx : x < 200) (hy : y < 128) :
    entryWrite c (R.RETIRE_CORE.key / 256) (R.RETIRE_CORE.key % 256) (natural (x * 256 + y)) none (asked c d) =
      (retireCmd (x * 256 + y) (asked c d), 0, R.RETIRE_CORE.key) := by
  have hname : chkValue d .coreName (x * 256 + y) = 0 := by
    have hxq : (x * 256 + y) / 256 ≤ 199 := by omega
    have hyr : (x * 256 + y) % 256 ≤ 127 := by omega
    simp only [chkValue, hxq, hyr, and_self, decide_true, if_true]
  rw [entryWrite_row _ ha rowIs_retireCore ⟨nofun, nofun⟩ (by simp [tyBytes]; omega) rfl hname rfl]
  rfl

/-- A name that no core has is refused. -/
theorem entryWrite_noCore {c x y : Nat} {d : Dev} (ha : Asks c d) (hx : x < 256) (hy : y < 256) (h : 199 < x ∨ 127 < y) :
    entryWrite c (R.RETIRE_CORE.key / 256) (R.RETIRE_CORE.key % 256) (natural (x * 256 + y)) none (asked c d) =
      (asked c d, 0xA005, R.RETIRE_CORE.key) := by
  have hentry : EntryAt (R.RETIRE_CORE.key / 256) (R.RETIRE_CORE.key % 256)
      ⟨0x3030, 1, 0x0B, 1, .u16, .wo, .coreName, .none, false⟩ := by
    have hrow := rowIs_retireCore
    simp only [rowIs, Bool.and_eq_true, decide_eq_true_eq, Option.isNone_iff_eq_none] at hrow
    obtain ⟨⟨⟨⟨hidx, hsub⟩, hstaging⟩, hfind⟩, -⟩ := hrow
    exact ⟨hidx, hsub, hstaging, hfind⟩
  have hname : chkValue (asked c d) .coreName (x * 256 + y) = 0xA005 := by
    have hne : ¬ ((x * 256 + y) / 256 ≤ 199 ∧ (x * 256 + y) % 256 ≤ 127) := by omega
    simp only [chkValue, hne, decide_false]
    rfl
  have hfits : x * 256 + y < 2 ^ 16 := by omega
  rw [entryWrite_entry (w := x * 256 + y) hentry nofun nofun (if_pos hfits) (mayWrite_asks ha _), hname]
  rfl

theorem retireCmd_eq (key : Nat) (d : Dev) : retireCmd key d = { d with ldr := { d.ldr with
    pend := if (retiredSet d).contains key ∨ d.ldr.pend.contains key then d.ldr.pend else d.ldr.pend ++ [key] } } := by
  unfold retireCmd
  split <;> rfl

/-- Settles O24: `loadCommand_busy`, `loadCommand_barred` and `loadCommand_starts` say what a load command comes to, `retireCmd_eq` what
RETIRE_CORE does. -/
theorem loadCommands : Obligations.LoadCommands := by
  refine ⟨?load, ?unload, ?check, ?barred, ?busy, ?store, ?retire, ?noCore⟩
  case load =>
    rintro c k s ha rfl - hstore hidle hfree
    refine completes_loadCommand_starts (v := 1) rfl ha (by decide) (by decide) (.inr hstore) hidle (.inr hfree) ?_
    obtain ⟨hstate, herr, hdetail, hjob, honly⟩ := loadStarted 1 1 (by decide) (by decide) (asked c s.dev)
    have hslot := slotState_slotTaken (cmd := 1) (by decide) 1 (asked c s.dev)
    have hseb := seb_slotTaken 1 1 (asked c s.dev)
    rw [dget_asked] at hslot hseb
    rw [newJob_asked] at hjob
    exact ⟨hstate, hslot, herr, hdetail, ⟨_, hjob, rfl, rfl, rfl, rfl, rfl⟩, (seb_asked _ c s.dev).trans hseb, honly⟩
  case unload =>
    rintro c k s ha rfl - hidle hfree
    refine completes_loadCommand_starts (v := 2) rfl ha (by decide) (by decide) (.inl rfl) hidle (.inr hfree) ?_
    obtain ⟨hstate, herr, -, hjob, honly⟩ := loadStarted 2 5 (by decide) (by decide) (asked c s.dev)
    have hslot := slotState_slotTaken (cmd := 2) (by decide) 5 (asked c s.dev)
    have hseb := seb_slotTaken 2 5 (asked c s.dev)
    rw [dget_asked] at hslot hseb
    rw [newJob_asked] at hjob
    exact ⟨hstate, hslot, herr, ⟨_, hjob, rfl, rfl⟩, (seb_asked _ c s.dev).trans hseb, honly⟩
  case check =>
    rintro c k s ha rfl hstore hidle
    refine completes_loadCommand_starts (v := 3) rfl ha (by decide) (by decide) (.inr hstore) hidle (.inl rfl) ?_
    obtain ⟨hstate, herr, -, hjob, honly⟩ := loadStarted 3 1 (by decide) (by decide) (asked c s.dev)
    rw [newJob_asked] at hjob
    exact ⟨hstate, herr, ⟨_, hjob, rfl, rfl⟩, (seb_asked _ c s.dev).trans (seb_checkTaken 1 _), honly⟩
  case barred =>
    rintro c k s ha rfl hidle hstore
    exact ⟨completes_loadCommand_barred rfl ha (by decide) (by decide) hstore hidle,
      completes_loadCommand_barred rfl ha (by decide) (by decide) hstore hidle⟩
  case busy =>
    intro c s ha h
    exact ⟨completes_loadCommand_refused rfl ha (by decide) (by decide) (.inr h), completes_loadCommand_refused rfl ha (by decide) (by decide) (.inr h),
      completes_loadCommand_refused rfl ha (by decide) (by decide) (.inr h)⟩
  case store =>
    intro c s ha h
    exact ⟨completes_loadCommand_refused rfl ha (by decide) (by decide) (.inl ⟨by decide, h⟩),
      completes_loadCommand_refused rfl ha (by decide) (by decide) (.inl ⟨by decide, h⟩)⟩
  case retire =>
    intro c x y s ha hx hy
    have hldr : (asked c s.dev).ldr = s.dev.ldr := only_asked c s.dev .ldr (by decide)
    have hretired : retiredSet (asked c s.dev) = retiredSet s.dev := by
      unfold retiredSet
      rw [hldr, only_asked c s.dev .fuses (by decide)]
    refine ⟨_, run_ok (by simp [ha.1]; omega), ?_⟩
    rw [rowWrite_admitted ha (entryWrite_retireCore ha hx hy), retireCmd_eq, hldr, hretired]
    exact ⟨rfl, fun r _ => dget_asked r c s.dev, only_ldr _ _⟩
  case noCore =>
    intro c x y s ha hx hy h
    exact ⟨_, run_ok (by simp [ha.1, hx, hy]), request_refused ha (by decide) (by decide) (entryWrite_noCore ha hx hy h)⟩

end Sys2Proof.Machine
end

section
/-! SUPPORT. The failure of a load job, and the phases of a load (R201, R214, R215, R228 to R231, Tables 8.11 and 8.12), and what settles O25. -/

namespace Sys2Proof.Machine

/-! ### The failure of a job (R230) -/

/-- The job is gone, and the error shown. -/
def errorShown (e : LoadErr) (d : Dev) : Dev := dset R.LOAD_ERROR_DETAIL e.2 (dset R.LOAD_ERROR e.1 (jobDropped d))

/-- The slot of a load or unload that fails: as it was after a patch, else empty (log entry 130). -/
def slotLeft (j : LoadJob) (d : Dev) : Dev := if jobPatches j then dset (R.SLOT_STATE j.slot) j.was d else emptySlot j.slot d

theorem failLoad_check {j : LoadJob} {d : Dev} (hj : d.ldr.job = some j) (hc : j.cmd = 3) (e : LoadErr) :
    failLoad e d = loadState 7 (errorShown e d) := by
  unfold failLoad
  rw [hj]
  exact congrArg (loadState 7) (if_pos hc)

theorem failLoad_slot {j : LoadJob} {d : Dev} (hj : d.ldr.job = some j) (hc : j.cmd ≠ 3) (e : LoadErr) :
    failLoad e d = loadState 7 (report 0x0381 e.1 e.2 (slotLeft j (errorShown e d))) := by
  unfold failLoad
  rw [hj]
  exact congrArg (loadState 7) (if_neg hc)

theorem errorShown_ldr (e : LoadErr) (d : Dev) : (errorShown e d).ldr = { d.ldr with job := none } := jobDropped_ldr d

theorem errorShown_errors (e : LoadErr) (d : Dev) :
    dget R.LOAD_ERROR (errorShown e d) = e.1 ∧ dget R.LOAD_ERROR_DETAIL (errorShown e d) = e.2 :=
  ⟨(dget_dset_ne _ _ (by decide)).trans (dget_dset_same _ _ _), dget_dset_same _ _ _⟩

theorem seb_errorShown (e : LoadErr) (d : Dev) :
    SameEntriesBut [R.HOLDS_DISCARDED.key, R.LOAD_ERROR.key, R.LOAD_ERROR_DETAIL.key] d (errorShown e d) :=
  ((seb_jobDropped d).mono (by simp)).trans ((seb_dset (by simp) _ _).trans (seb_dset (by simp) _ _))

theorem slotState_errorShown (slot : Nat) (e : LoadErr) (d : Dev) :
    dget (R.SLOT_STATE slot) (errorShown e d) = dget (R.SLOT_STATE slot) d := by
  refine seb_errorShown e d _ ?_
  simp only [R.SLOT_STATE, R.HOLDS_DISCARDED, R.LOAD_ERROR, R.LOAD_ERROR_DETAIL, List.mem_cons, List.not_mem_nil, or_false]
  omega

/-- A slot's emptying writes neither the state of a job nor its errors. -/
theorem loadEntries_notMem_slotKeys {slot k : Nat} (h : slot < 4) (hk : k ∈ [R.LOAD_STATE.key, R.LOAD_ERROR.key, R.LOAD_ERROR_DETAIL.key]) :
    k < 0x307000 ∧ k ∉ slotKeys slot ∧ k ≠ (R.SLOT_STATE slot).key := by
  simp only [slotKeys, R.MONITOR_BASE, R.SLOT_STATE, R.WEIGHT_DIGEST, R.LIVE_WEIGHT_DIGEST, R.VERDICT_EXPECTED, R.PROGRAM_DIGEST,
    R.RETAINED_BYTES, R.WINDTHROW_COUNT, R.LOAD_STATE, R.LOAD_ERROR, R.LOAD_ERROR_DETAIL, List.mem_cons, List.not_mem_nil, or_false] at hk ⊢
  omega

theorem dget_slotLeft {j : LoadJob} {r : Reg} (h : j.slot < 4) (hr : r.key ∈ [R.LOAD_STATE.key, R.LOAD_ERROR.key, R.LOAD_ERROR_DETAIL.key])
    (d : Dev) : dget r (slotLeft j d) = dget r d := by
  obtain ⟨hlow, hslot, hstate⟩ := loadEntries_notMem_slotKeys h hr
  unfold slotLeft
  split
  · exact dget_dset_ne _ _ (Ne.symm hstate)
  · exact dget_emptySlot_ne hlow hslot d

/-- Neither way the loader's map, what is pending on it, or its job change. -/
theorem slotLeft_ldr (j : LoadJob) (d : Dev) :
    (slotLeft j d).ldr.job = d.ldr.job ∧ (slotLeft j d).ldr.map = d.ldr.map ∧ (slotLeft j d).ldr.pend = d.ldr.pend := by
  unfold slotLeft
  split
  · exact ⟨rfl, rfl, rfl⟩
  · obtain ⟨nets, h⟩ := emptySlot_ldr j.slot d
    rw [h]
    exact ⟨rfl, rfl, rfl⟩

section Failure

variable {j : LoadJob} {d : Dev} (hj : d.ldr.job = some j) (e : LoadErr)

include hj

/-- A job that fails reads as state 7 with its error, and is gone. -/
theorem loadFailed_failLoad (hs : j.slot < 4) : LoadFailed e (failLoad e d) := by
  obtain ⟨herr, hdetail⟩ := errorShown_errors e d
  have hjob : (errorShown e d).ldr.job = none := congrArg Ldr.job (errorShown_ldr e d)
  by_cases hc : j.cmd = 3
  · rw [failLoad_check hj hc]
    exact ⟨dget_loadState _ _, (dget_loadState_ne (by decide) _ _).trans herr, (dget_loadState_ne (by decide) _ _).trans hdetail,
      (congrArg Ldr.job (only_loadState _ _ .ldr (by decide))).trans hjob⟩
  · have hreport (r : Reg) (hr : r.key ∈ [R.LOAD_STATE.key, R.LOAD_ERROR.key, R.LOAD_ERROR_DETAIL.key]) (hn : r.key ∉ reportKeys) :
        dget r (report 0x0381 e.1 e.2 (slotLeft j (errorShown e d))) = dget r (errorShown e d) :=
      (dget_report (by decide) _ _ _ _ hn).trans (dget_slotLeft hs hr _)
    have hldr := only_report (c := 0x0381) (by decide) e.1 e.2 (slotLeft j (errorShown e d)) .ldr (by decide)
    rw [failLoad_slot hj hc]
    exact ⟨dget_loadState _ _, (dget_loadState_ne (by decide) _ _).trans ((hreport _ (by simp) (by decide)).trans herr),
      (dget_loadState_ne (by decide) _ _).trans ((hreport _ (by simp) (by decide)).trans hdetail),
      (congrArg Ldr.job ((only_loadState _ _ .ldr (by decide)).trans hldr)).trans ((slotLeft_ldr j _).1.trans hjob)⟩

/-- A failure leaves the map in force and the retirements that are pending (R201). -/
theorem failLoad_map : (failLoad e d).ldr.map = d.ldr.map ∧ (failLoad e d).ldr.pend = d.ldr.pend := by
  have hshown := errorShown_ldr e d
  by_cases hc : j.cmd = 3
  · rw [failLoad_check hj hc, only_loadState _ _ .ldr (by decide), hshown]
    exact ⟨rfl, rfl⟩
  · obtain ⟨-, hmap, hpend⟩ := slotLeft_ldr j (errorShown e d)
    rw [failLoad_slot hj hc, only_loadState _ _ .ldr (by decide), only_report (by decide) _ _ _ .ldr (by decide), hmap, hpend, hshown]
    exact ⟨rfl, rfl⟩

/-- A check that fails leaves its slot as it was. -/
theorem slotState_failLoad_check (hc : j.cmd = 3) : dget (R.SLOT_STATE j.slot) (failLoad e d) = dget (R.SLOT_STATE j.slot) d := by
  rw [failLoad_check hj hc, dget_loadState_ne (List.ne_of_not_mem_cons (slotState_key_notMem j.slot))]
  exact slotState_errorShown j.slot e d

/-- A load that fails leaves its slot empty, or as it was when the object is a patch. -/
theorem slotState_failLoad_load (hc : j.cmd = 1) (hs : j.slot < 4) :
    dget (R.SLOT_STATE j.slot) (failLoad e d) = if objPatch j.obj then j.was else 0 := by
  have hreport : (R.SLOT_STATE j.slot).key ∉ reportKeys := notMem_reportKeys_of_lt (by simp only [R.SLOT_STATE]; omega)
  have hpatch : jobPatches j = objPatch j.obj := by simp [jobPatches, hc]
  rw [failLoad_slot hj (by omega), dget_loadState_ne (List.ne_of_not_mem_cons (slotState_key_notMem j.slot)),
    dget_report (by decide) _ _ _ _ hreport, slotLeft, hpatch]
  split
  · exact dget_dset_same _ _ _
  · exact (emptySlot_entries hs _).1

end Failure

/-! ### Measurements (R483) -/

theorem seb_extend (i ev : Nat) (dg : List Nat) (d : Dev) : SameEntriesBut (extendKeysOf i) d (extend i ev dg d) := by
  have hmr : (R.MR i).key ∈ extendKeysOf i := by simp [extendKeysOf]
  have hcount : R.LOG_COUNT.key ∈ extendKeysOf i := by simp [extendKeysOf, R.LOG_COUNT]
  have hdropped : R.LOG_DROPPED.key ∈ extendKeysOf i := by simp [extendKeysOf, R.LOG_DROPPED]
  have hlog (x : Sec) (e : Dev) : SameEntriesBut (extendKeysOf i) e { e with sec := x } := seb_dict rfl
  unfold extend
  dsimp only
  exact (seb_dset hmr _ _).trans ((seb_ite (hlog _ _) (seb_bump hdropped _)).trans (seb_bump hcount _))

theorem only_extend (i ev : Nat) (dg : List Nat) (d : Dev) : ChangesOnly [.dict, .sec] d (extend i ev dg d) := by
  unfold extend
  dsimp only
  exact ((only_dset _ _ _).mono (by decide)).trans ((((only_sec _ _).mono (by decide)).ite ((only_bump _ _).mono (by decide))).trans
    ((only_bump _ _).mono (by decide)))

/-- A job that is measured as it ends leaves the entries below the review engine's but LOAD_STATE and HOLDS_DISCARDED. -/
theorem dget_measuredDone {r : Reg} (hlow : r.key < 0x307000) (hs : r.key ≠ R.LOAD_STATE.key) (hh : r.key ≠ R.HOLDS_DISCARDED.key)
    (i ev : Nat) (dg : List Nat) (d : Dev) : dget r (loadDone (extend i ev dg d)) = dget r d := by
  have hmr : r.key ∉ extendKeysOf i := by
    simp only [extendKeysOf, R.MR, R.LOG_COUNT, R.LOG_DROPPED, List.mem_cons, List.not_mem_nil, or_false]
    omega
  rw [dget_loadDone_ne hs hh, seb_extend i ev dg d r hmr]

/-- The entries of a slot are among those. -/
theorem slotEntry_measuredDone {slot : Nat} (h : slot < 4) {r : Reg}
    (hr : r.key ∈ [(R.SLOT_STATE slot).key, (R.PROGRAM_DIGEST slot).key, (R.WEIGHT_DIGEST slot).key, (R.MONITOR_BASE slot).key,
      (R.VERDICT_EXPECTED slot).key]) (i ev : Nat) (dg : List Nat) (d : Dev) : dget r (loadDone (extend i ev dg d)) = dget r d := by
  simp only [R.SLOT_STATE, R.PROGRAM_DIGEST, R.WEIGHT_DIGEST, R.MONITOR_BASE, R.VERDICT_EXPECTED, List.mem_cons, List.not_mem_nil,
    or_false] at hr
  exact dget_measuredDone (by omega) (by simp only [R.LOAD_STATE]; omega) (by simp only [R.HOLDS_DISCARDED]; omega) i ev dg d

/-! ### What a full load writes (R205 to R207, R223) -/

theorem only_writeCores (gone o : List Nat) (pad : Tab (Option Nat)) (slot : Nat) (rows : Bool) (d : Dev) :
    ChangesOnly [.cores] d (writeCores gone o pad slot rows d) := by
  refine ChangesOnly.foldl (fun e r => ?_) _ _
  split
  · exact ChangesOnly.refl _ _
  · exact only_modCore _ _ _

/-- The weights of the streamed object are in the cores. -/
def weightsWritten (gone o : List Nat) (d : Dev) : Dev :=
  (coreRecs o).foldl (fun d r => match physOn d gone (recX r) (recY r) with
    | some key => modCore key (writeRows o r) d
    | none => d) d

theorem only_weightsWritten (gone o : List Nat) (d : Dev) : ChangesOnly [.cores] d (weightsWritten gone o d) := by
  refine ChangesOnly.foldl (fun e r => ?_) _ _
  split
  · exact only_modCore _ _ _
  · exact ChangesOnly.refl _ _

/-- The loader's map is that of the load. -/
def mapTaken (m : List Nat) (d : Dev) : Dev :=
  { d with ldr := { d.ldr with map := m, pend := d.ldr.pend.filter (fun k => !m.contains k) } }

/-- The context is in its cores and in its slot, and the entries do not show it yet. -/
def contextWritten (j : LoadJob) (m : List Nat) (p : Plan) (o : List Nat) (d : Dev) : Dev :=
  let gone := d.fuses.windthrow ++ m
  let e := mapTaken m (emptySlot j.slot d)
  let e := weightsWritten gone o (writeCores gone (p.layers.headD []) p.pad j.slot false { e with fab := { e.fab with fb := p.fb } })
  { e with ldr := { e.ldr with ctxs := tset Loaded.rest e.ldr.ctxs j.slot (loadedAs j p) } }

theorem only_contextWritten (j : LoadJob) (m : List Nat) (p : Plan) (o : List Nat) (d : Dev) :
    ChangesOnly slotParts d (contextWritten j m p o d) := by
  have hmap (e : Dev) : ChangesOnly slotParts e (mapTaken m e) := (only_ldr _ e).mono (by decide)
  have hfab (x : Fabric) (e : Dev) : ChangesOnly slotParts e { e with fab := x } := (only_fab x e).mono (by decide)
  have hldr (x : Ldr) (e : Dev) : ChangesOnly slotParts e { e with ldr := x } := (only_ldr x e).mono (by decide)
  have hcores (gone : List Nat) (e : Dev) :
      ChangesOnly slotParts e (weightsWritten gone o (writeCores gone (p.layers.headD []) p.pad j.slot false e)) :=
    ((only_writeCores _ _ _ _ _ e).trans (only_weightsWritten _ _ _)).mono (by decide)
  unfold contextWritten
  dsimp only
  exact ((only_emptySlot j.slot d).trans ((hmap _).trans (hfab _ _))).trans ((hcores _ _).trans (hldr _ _))

/-- The digests and the monitor base of the loaded slot. -/
def digestsShown (j : LoadJob) (d : Dev) : Dev :=
  dset (R.PROGRAM_DIGEST j.slot) (progDigest j.obj) (dset (R.WEIGHT_DIGEST j.slot) (weightDigest j.obj)
    (dset (R.LIVE_WEIGHT_DIGEST j.slot) (weightDigest j.obj) (dset (R.MONITOR_BASE j.slot) j.base d)))

/-- The counts of the slot's monitors begin at 0. -/
def countsBegun (j : LoadJob) (d : Dev) : Dev :=
  (List.range (objMons j.obj)).foldl (fun d i => dset (R.CLIP_COUNT (j.base + i)) 0 (dset (R.CLIP_SHARE (j.base + i)) 0 d)) d

theorem lowKeeps_countsBegun (j : LoadJob) (d : Dev) : LowKeeps [.dict] d (countsBegun j d) :=
  LowKeeps.foldl (fun _ _ => (lowKeeps_dset (by simp only [R.CLIP_SHARE]; omega) (by decide) _ _).trans
    (lowKeeps_dset (by simp only [R.CLIP_COUNT]; omega) (by decide) _ _)) _ _

theorem lowKeeps_placeNets (slot : Nat) (o : List Nat) (d : Dev) : LowKeeps [.dict, .ldr] d (placeNets slot o d) := by
  unfold placeNets
  dsimp only
  exact (LowKeeps.of_only (only_ldr _ d) (by decide) (by decide)).trans ((lowKeeps_showNets _).mono (by decide))

/-- The entries that follow a load beside the slot's own. -/
def loadShown (j : LoadJob) (p : Plan) (o : List Nat) (d : Dev) : Dev :=
  showLoader (placeNets j.slot o (dset (R.VERDICT_EXPECTED j.slot) (verdictPaths p.layers [])
    (dset R.GROWTH_RING_SPAN (markerSpan d) (dset R.PAD_MARGIN p.margin d))))

theorem writeLoad_eq (j : LoadJob) (m : List Nat) (p : Plan) (o : List Nat) (d : Dev) :
    writeLoad j m p o d = loadShown j p o (countsBegun j (digestsShown j (contextWritten j m p o d))) := rfl

theorem only_loadShown (j : LoadJob) (p : Plan) (o : List Nat) (d : Dev) : ChangesOnly [.dict, .ldr] d (loadShown j p o d) := by
  have hset (r : Reg) (v : Nat) (e : Dev) : ChangesOnly [.dict, .ldr] e (dset r v e) := (only_dset r v e).mono (by decide)
  exact (hset _ _ _).trans ((hset _ _ _).trans ((hset _ _ _).trans ((lowKeeps_placeNets _ _ _).2.trans ((only_showLoader _).mono (by decide)))))

theorem dget_loadShown {j : LoadJob} {r : Reg} (h : j.slot < 4) (hr : r.key ∈ [(R.PROGRAM_DIGEST j.slot).key, (R.WEIGHT_DIGEST j.slot).key])
    (p : Plan) (o : List Nat) (d : Dev) : dget r (loadShown j p o d) = dget r d := by
  simp only [R.PROGRAM_DIGEST, R.WEIGHT_DIGEST, List.mem_cons, List.not_mem_nil, or_false] at hr
  unfold loadShown
  rw [dget_showLoader_ne (by simp only [R.RETAINED_BYTES]; omega) (by simp only [R.WINDTHROW_COUNT]; omega),
    (lowKeeps_placeNets _ _ _).1 r (by omega), dget_dset_ne _ _ (by simp only [R.VERDICT_EXPECTED]; omega),
    dget_dset_ne _ _ (by simp only [R.GROWTH_RING_SPAN]; omega), dget_dset_ne _ _ (by simp only [R.PAD_MARGIN]; omega)]

theorem writeLoad_ctl (j : LoadJob) (m : List Nat) (p : Plan) (o : List Nat) (d : Dev) : (writeLoad j m p o d).ctl = d.ctl := by
  have hcontext := only_contextWritten j m p o d .ctl (by decide)
  rw [writeLoad_eq]
  exact (only_loadShown _ _ _ _ .ctl (by decide)).trans (((lowKeeps_countsBegun _ _).2 .ctl (by decide)).trans hcontext)

/-- The slot's digests are the object's. -/
theorem writeLoad_digests {j : LoadJob} (h : j.slot < 4) (m : List Nat) (p : Plan) (o : List Nat) (d : Dev) :
    dget (R.PROGRAM_DIGEST j.slot) (writeLoad j m p o d) = progDigest j.obj ∧
    dget (R.WEIGHT_DIGEST j.slot) (writeLoad j m p o d) = weightDigest j.obj := by
  have hkey : (R.PROGRAM_DIGEST j.slot).key ≠ (R.WEIGHT_DIGEST j.slot).key := by simp [R.PROGRAM_DIGEST, R.WEIGHT_DIGEST]
  rw [writeLoad_eq, dget_loadShown h (by simp), dget_loadShown h (by simp),
    (lowKeeps_countsBegun _ _).1 _ (by simp only [R.PROGRAM_DIGEST]; omega), (lowKeeps_countsBegun _ _).1 _ (by simp only [R.WEIGHT_DIGEST]; omega)]
  exact ⟨dget_dset_same _ _ _, (dget_dset_ne _ _ hkey).trans (dget_dset_same _ _ _)⟩

/-! ### DICT_INIT (R215) -/

/-- A load without DICT_INIT, of a loader that holds no group, writes and commits nothing. -/
theorem dictInit_nothing {o : List Nat} {d : Dev} (ho : initList o = []) (hd : heldStaging d 1 = []) : dictInit o d = (d, none) := by
  unfold dictInit
  rw [ho]
  exact if_pos (.inr hd)

/-! ### The outcomes of the write phase (R201, R229, log entry 161) -/

section WritePhase

variable {j : LoadJob} {data : List Nat} {d : Dev} {p : Plan}

/-- The plan of the write phase: the job's context on the job's map. -/
def jobPlan (j : LoadJob) (d : Dev) : Except LoadErr Plan :=
  planOf d (d.fuses.windthrow ++ j.map) j.slot j.base (reviewBase d j.slot j.obj) (newLayers d j)

/-- The load is written, with its slot READY, before DICT_INIT. -/
def loadWritten (j : LoadJob) (p : Plan) (data : List Nat) (d : Dev) : Dev :=
  dset (R.SLOT_STATE j.slot) 2 (writeLoad j j.map p (streamed j.obj data) d)

theorem writePhase_stale {e : LoadErr} (h : staleErr d j.obj = some e) : writePhase j data d = failLoad e d := by
  unfold writePhase
  rw [h]

theorem writePhase_noPlan {e : LoadErr} (h : staleErr d j.obj = none) (hp : jobPlan j d = .error e) : writePhase j data d = failLoad e d := by
  unfold jobPlan at hp
  unfold writePhase
  rw [h, hp]

theorem writePhase_patch (h : staleErr d j.obj = none) (hp : jobPlan j d = .ok p) (ho : objPatch j.obj = true) :
    writePhase j data d = loadDone (measureLoad j.slot (writePatch j j.map p d)) := by
  unfold jobPlan at hp
  unfold writePhase
  rw [h, hp]
  exact if_pos ho

theorem writePhase_badStream {e : LoadErr} (h : staleErr d j.obj = none) (hp : jobPlan j d = .ok p) (ho : objPatch j.obj = false)
    (hs : streamErr (streamed j.obj data) = some e) : writePhase j data d = failLoad e d := by
  unfold jobPlan at hp
  unfold writePhase
  rw [h, hp]
  simp only [ho, Bool.false_eq_true, if_false, hs]

theorem writePhase_badInit {n : Nat} (h : staleErr d j.obj = none) (hp : jobPlan j d = .ok p) (ho : objPatch j.obj = false)
    (hs : streamErr (streamed j.obj data) = none) (hi : (dictInit (p.layers.headD []) (loadWritten j p data d)).2 = some n) :
    writePhase j data d = failLoad (0x001E, n) d := by
  unfold jobPlan at hp
  unfold loadWritten at hi
  unfold writePhase
  rw [h, hp]
  simp only [ho, Bool.false_eq_true, if_false, hs]
  split
  · next m heq => rw [heq] at hi; rw [Option.some.inj hi]
  · next heq => rw [heq] at hi; cases hi

theorem writePhase_loaded (h : staleErr d j.obj = none) (hp : jobPlan j d = .ok p) (ho : objPatch j.obj = false)
    (hs : streamErr (streamed j.obj data) = none) (hi : initList (p.layers.headD []) = []) (hg : heldStaging d 1 = []) :
    writePhase j data d = loadDone (measureLoad j.slot (loadWritten j p data d)) := by
  have hheld : heldStaging (loadWritten j p data d) 1 = [] := by
    unfold heldStaging at hg ⊢
    rwa [loadWritten, dset_ctl, writeLoad_ctl]
  have hinit := dictInit_nothing hi hheld
  unfold jobPlan at hp
  unfold loadWritten at hinit ⊢
  unfold writePhase
  rw [h, hp]
  simp only [ho, Bool.false_eq_true, if_false, hs, hinit]

/-- A full load leaves its slot READY with the object's digests. -/
theorem loadWritten_done (hs : j.slot < 4) (p : Plan) (data : List Nat) (d : Dev) :
    dget (R.SLOT_STATE j.slot) (loadDone (measureLoad j.slot (loadWritten j p data d))) = 2 ∧
    dget (R.PROGRAM_DIGEST j.slot) (loadDone (measureLoad j.slot (loadWritten j p data d))) = progDigest j.obj ∧
    dget (R.WEIGHT_DIGEST j.slot) (loadDone (measureLoad j.slot (loadWritten j p data d))) = weightDigest j.obj := by
  obtain ⟨hprog, hweight⟩ := writeLoad_digests hs j.map p (streamed j.obj data) d
  have hkey : (R.SLOT_STATE j.slot).key ≠ (R.PROGRAM_DIGEST j.slot).key ∧ (R.SLOT_STATE j.slot).key ≠ (R.WEIGHT_DIGEST j.slot).key := by
    simp [R.SLOT_STATE, R.PROGRAM_DIGEST, R.WEIGHT_DIGEST]
  unfold measureLoad
  refine ⟨?_, ?_, ?_⟩ <;> rw [slotEntry_measuredDone hs (by simp), loadWritten]
  · exact dget_dset_same _ _ _
  · rw [dget_dset_ne _ _ hkey.1, hprog]
  · rw [dget_dset_ne _ _ hkey.2, hweight]

end WritePhase

/-! ### LOAD_PHASE_DONE by the phase in progress (Table 8.11) -/

/-- A phase that only looks: with nothing wrong the load goes on in state v, else it fails. -/
def looked (v : Nat) (wrong : Option LoadErr) (d : Dev) : Dev :=
  match wrong with
  | some e => failLoad e d
  | none => loadState v d

theorem loadPhaseDone_idle {data : List Nat} {d : Dev} (h : d.ldr.job = none ∨ loaderOn d = false) : loadPhaseDone data d = d := by
  unfold loadPhaseDone
  split
  · rfl
  · next hj =>
    rw [hj] at h
    exact if_pos (h.resolve_left nofun)

section Phases

variable {data : List Nat} {j : LoadJob} {d : Dev} (hj : d.ldr.job = some j) (hon : loaderOn d = true)

include hj hon

theorem loadPhaseDone_unload (hc : j.cmd = 2) : loadPhaseDone data d = unloadDone j d := by
  unfold loadPhaseDone
  rw [hj]
  exact (if_neg (by simp [hon])).trans (if_pos hc)

/-- A load or a check goes by LOAD_STATE. -/
theorem loadPhaseDone_eq (hc : j.cmd ≠ 2) : loadPhaseDone data d =
    if dget R.LOAD_STATE d = 1 then readPhase j data d
    else if dget R.LOAD_STATE d = 2 then looked 3 (verifyErr d j) d
    else if dget R.LOAD_STATE d = 3 then looked 4 (checkErr d j.cmd j.obj j.slot) d
    else if dget R.LOAD_STATE d = 4 then mapDone j d
    else writePhase j data d := by
  unfold loadPhaseDone
  rw [hj]
  exact (if_neg (by simp [hon])).trans (if_neg hc)

end Phases

/-- What has been read is kept: the whole object, or less. -/
theorem readPhase_short {j : LoadJob} {data : List Nat} {d : Dev} (h : data.length < (j.bytes + 7) / 8) :
    readPhase j data d = modJobL (fun j' => { j' with obj := data }) d := by
  have hall : data.take ((j.bytes + 7) / 8) = data := List.take_of_length_le (by omega)
  have hread : readPhase j data d = modJobL (fun j' => { j' with obj := data.take ((j.bytes + 7) / 8) }) d := if_pos h
  rw [hread, hall]

theorem readPhase_whole {j : LoadJob} {data : List Nat} {d : Dev} (hj : d.ldr.job = some j) (h : (j.bytes + 7) / 8 ≤ data.length) :
    readPhase j data d = dset R.LOAD_STATE 2 { d with ldr := { d.ldr with
      job := some { j with obj := data.take ((j.bytes + 7) / 8), keys := goodKeys d, keyed := provisioned d } } } := by
  have hread : readPhase j data d = loadState 2 (modJobL (fun j' => { j' with keys := goodKeys d, keyed := provisioned d })
      (modJobL (fun j' => { j' with obj := data.take ((j.bytes + 7) / 8) }) d)) := if_neg (by omega)
  rw [hread, loadState_onWay (by decide) (by decide)]
  unfold modJobL
  dsimp only
  rw [hj]
  rfl

theorem only_modJobL (f : LoadJob → LoadJob) (d : Dev) : ChangesOnly [.ldr] d (modJobL f d) := only_ldr _ d

theorem modJobL_job {j : LoadJob} {d : Dev} (hj : d.ldr.job = some j) (f : LoadJob → LoadJob) : (modJobL f d).ldr.job = some (f j) :=
  congrArg (Option.map f) hj

theorem mapDone_failed {j : LoadJob} {d : Dev} {e : LoadErr} (h : mapPhase d j.slot (monBase d j) j.obj = .error e) :
    mapDone j d = failLoad e d := by
  unfold mapDone
  dsimp only
  rw [h]

theorem mapDone_mapped {j : LoadJob} {d : Dev} {r : List Nat × Plan} (h : mapPhase d j.slot (monBase d j) j.obj = .ok r) :
    mapDone j d = if j.cmd = 3 then loadDone d else loadState 5 (modJobL (fun j' => { j' with map := r.1, base := monBase d j }) d) := by
  unfold mapDone
  dsimp only
  rw [h]

/-- A read that fails ends the load, in a phase that reads (R230). -/
theorem loadReadTimeout_reading {j : LoadJob} {d : Dev} (hj : d.ldr.job = some j) (hc : j.cmd ≠ 2)
    (h : dget R.LOAD_STATE d = 1 ∨ dget R.LOAD_STATE d = 5) : loadReadTimeout d = failLoad (0x001D, 0) d := by
  unfold loadReadTimeout
  rw [hj]
  exact if_pos ⟨h, hc⟩

theorem loadReadTimeout_idle {d : Dev} (hj : d.ldr.job = none) : loadReadTimeout d = d := by
  unfold loadReadTimeout
  rw [hj]

theorem unloadDone_eq (j : LoadJob) (d : Dev) : unloadDone j d = loadDone (extend 2 7 (sm3 [j.slot]) (emptySlot j.slot d)) := rfl

theorem unloadDone_over (j : LoadJob) (d : Dev) : dget R.LOAD_STATE (unloadDone j d) = 6 ∧ (unloadDone j d).ldr.job = none := by
  rw [unloadDone_eq]
  exact loadDone_over _

/-- The end of a job and its measurement leave what a slot holds. -/
theorem loadedOf_measuredDone (slot i ev : Nat) (dg : List Nat) (d : Dev) : loadedOf (loadDone (extend i ev dg d)) slot = loadedOf d slot := by
  have hldr : (extend i ev dg d).ldr = d.ldr := only_extend i ev dg d .ldr (by decide)
  unfold loadedOf
  rw [loadDone_ldr, hldr]

/-- A slot that has been unloaded reads as empty, and holds nothing. -/
theorem unloadDone_empty {j : LoadJob} (h : j.slot < 4) (d : Dev) :
    dget (R.SLOT_STATE j.slot) (unloadDone j d) = 0 ∧ dget (R.PROGRAM_DIGEST j.slot) (unloadDone j d) = 0 ∧
    dget (R.WEIGHT_DIGEST j.slot) (unloadDone j d) = 0 ∧ dget (R.MONITOR_BASE j.slot) (unloadDone j d) = 0xFFFF ∧
    dget (R.VERDICT_EXPECTED j.slot) (unloadDone j d) = 0 ∧ loadedOf (unloadDone j d) j.slot = Loaded.rest := by
  obtain ⟨hstate, hprog, hweight, hbase, hverdict⟩ := emptySlot_entries h d
  have hdone {r : Reg} (hr : r.key ∈ [(R.SLOT_STATE j.slot).key, (R.PROGRAM_DIGEST j.slot).key, (R.WEIGHT_DIGEST j.slot).key,
      (R.MONITOR_BASE j.slot).key, (R.VERDICT_EXPECTED j.slot).key]) : dget r (unloadDone j d) = dget r (emptySlot j.slot d) :=
    slotEntry_measuredDone h hr 2 7 _ _
  refine ⟨(hdone (by simp)).trans hstate, (hdone (by simp)).trans hprog, (hdone (by simp)).trans hweight, (hdone (by simp)).trans hbase,
    (hdone (by simp)).trans hverdict, ?_⟩
  rw [unloadDone_eq, ← loadedOf_emptySlot j.slot d]
  exact loadedOf_measuredDone _ _ _ _ _

/-! ### What settles O25 -/

theorem completes_loadPhaseDone {data : List Nat} {s : State} {P : Dev → Prop} (hw : ∀ w ∈ data, w < 2 ^ 64)
    (hP : P (loadPhaseDone data s.dev)) : Completes (exec (.loadPhaseDone data) s) s P :=
  ⟨_, run_ok (by simpa [words64] using hw), hP⟩

/-- What is claimed of a phase that only looks. -/
theorem looked_claim {j : LoadJob} {d : Dev} {v : Nat} (hj : d.ldr.job = some j) (hs : j.slot < 4) (h6 : v ≠ 6) (h7 : v ≠ 7)
    (wrong : Option LoadErr) :
    (wrong = none → dget R.LOAD_STATE (looked v wrong d) = v ∧ SameEntriesBut [R.LOAD_STATE.key] d (looked v wrong d) ∧
      ChangesOnly [.dict] d (looked v wrong d)) ∧ (∀ e, wrong = some e → LoadFailed e (looked v wrong d)) := by
  refine ⟨fun h => ?_, fun e h => ?_⟩ <;> subst h
  · refine ⟨dget_loadState v d, seb_loadState v d, ?_⟩
    show ChangesOnly [.dict] d (loadState v d)
    rw [loadState_onWay h6 h7]
    exact only_dset _ _ _
  · exact loadFailed_failLoad hj e hs

/-- What is claimed of the map phase. -/
theorem mapDone_claim {j : LoadJob} {d : Dev} (hj : d.ldr.job = some j) (hs : j.slot < 4) :
    (∀ e, mapPhase d j.slot (monBase d j) j.obj = .error e → LoadFailed e (mapDone j d)) ∧
    (∀ r, mapPhase d j.slot (monBase d j) j.obj = .ok r → j.cmd = 3 → dget R.LOAD_STATE (mapDone j d) = 6 ∧ (mapDone j d).ldr.job = none) ∧
    (∀ r, mapPhase d j.slot (monBase d j) j.obj = .ok r → j.cmd ≠ 3 →
      dget R.LOAD_STATE (mapDone j d) = 5 ∧ (mapDone j d).ldr.job = some { j with map := r.1, base := monBase d j } ∧
      ChangesOnly [.dict, .ldr] d (mapDone j d)) := by
  refine ⟨fun e h => ?_, fun r h hc => ?_, fun r h hc => ?_⟩
  · rw [mapDone_failed h]
    exact loadFailed_failLoad hj e hs
  · rw [mapDone_mapped h, if_pos hc]
    exact loadDone_over d
  · rw [mapDone_mapped h, if_neg hc, loadState_onWay (by decide) (by decide)]
    exact ⟨dget_dset_same _ _ _, modJobL_job hj _, (only_modJobL _ d).then (only_dset _ _ _) (by decide) (by decide)⟩

/-- Settles O25: each phase by its own equation; a failure by `loadFailed_failLoad`, a load that succeeds by `loadWritten_done`. -/
theorem loadPhases : Obligations.LoadPhases := by
  refine ⟨?readWhole, ?verify, ?check, ?map, ?write, ?unload, ?idle, ?timeout, ?noJob, ?readShort, ?timeoutSlot⟩
  case readWhole =>
    rintro data j s hw hj hon hc - hst hlen
    refine completes_loadPhaseDone hw ?_
    rw [loadPhaseDone_eq hj hon hc, if_pos hst, readPhase_whole hj hlen]
    exact ⟨dget_dset_same _ _ _, rfl, (seb_dict rfl).trans (seb_dset List.mem_cons_self _ _),
      (only_ldr _ s.dev).then (only_dset _ _ _) (by decide) (by decide)⟩
  case verify =>
    intro data j s hw hj hon hc hs hst
    refine completes_loadPhaseDone hw ?_
    rw [loadPhaseDone_eq hj hon hc, hst]
    exact looked_claim hj hs (by decide) (by decide) _
  case check =>
    intro data j s hw hj hon hc hs hst
    refine completes_loadPhaseDone hw ?_
    rw [loadPhaseDone_eq hj hon hc, hst]
    exact looked_claim hj hs (by decide) (by decide) _
  case map =>
    intro data j s hw hj hon hc hs hst
    refine completes_loadPhaseDone hw ?_
    rw [loadPhaseDone_eq hj hon hc, hst]
    exact mapDone_claim hj hs
  case write =>
    intro data j s hw hj hon hc hs hst
    refine completes_loadPhaseDone hw ?_
    have hwrite : loadPhaseDone data s.dev = writePhase j data s.dev := by
      rw [loadPhaseDone_eq hj hon hc, hst]
      rfl
    rw [hwrite]
    have hfail (e : LoadErr) : LoadFailed e (failLoad e s.dev) := loadFailed_failLoad hj e hs
    refine ⟨fun e h => ?_, fun h => ⟨fun e hp => ?_, fun p hp ho => ⟨fun e hd => ?_, fun hd hi hg => ?_, fun hd n hi => ?_⟩, fun p hp ho => ?_⟩⟩
    · rw [writePhase_stale h]
      exact hfail e
    · rw [writePhase_noPlan h hp]
      exact hfail e
    · rw [writePhase_badStream h hp ho hd]
      exact hfail e
    · rw [writePhase_loaded h hp ho hd hi hg]
      obtain ⟨hstate, hjob⟩ := loadDone_over (measureLoad j.slot (loadWritten j p data s.dev))
      exact ⟨hstate, hjob, loadWritten_done hs p data s.dev⟩
    · rw [writePhase_badInit h hp ho hd hi]
      exact ⟨hfail _, failLoad_map hj _⟩
    · rw [writePhase_patch h hp ho]
      exact loadDone_over _
  case unload =>
    intro data j s hw hj hon hc hs
    refine completes_loadPhaseDone hw ?_
    rw [loadPhaseDone_unload hj hon hc]
    obtain ⟨hstate, hjob⟩ := unloadDone_over j s.dev
    obtain ⟨hslot, hprog, hweight, hbase, hverdict, hloaded⟩ := unloadDone_empty hs s.dev
    exact ⟨hstate, hjob, hslot, hprog, hweight, hbase, hverdict, congrArg Loaded.present hloaded⟩
  case idle =>
    intro data s hw h
    refine (run_ok (by simpa [words64] using hw) : execLoadPhaseDone data s = _).trans ?_
    rw [loadPhaseDone_idle h]
  case timeout =>
    intro j s hj hc hs hst
    refine ⟨_, run_ok rfl, ?_⟩
    rw [loadReadTimeout_reading hj hc hst]
    exact ⟨loadFailed_failLoad hj _ hs, slotState_failLoad_check hj _⟩
  case noJob =>
    intro s hj
    refine (run_ok rfl : execLoadReadTimeout s = _).trans ?_
    rw [loadReadTimeout_idle hj]
  case readShort =>
    rintro data j s hw hj hon hc - hst hlen
    refine completes_loadPhaseDone hw ?_
    rw [loadPhaseDone_eq hj hon hc, if_pos hst, readPhase_short hlen]
    exact ⟨modJobL_job hj _, seb_dict rfl, only_modJobL _ s.dev⟩
  case timeoutSlot =>
    intro j s hj hc hs hst
    refine ⟨_, run_ok rfl, ?_⟩
    rw [loadReadTimeout_reading hj (by omega) hst]
    exact slotState_failLoad_load hj _ hc hs

end Sys2Proof.Machine
end

section
/-! SUPPORT. The end of a job restart that may not rejoin (R516), and what refutes O42. -/

namespace Sys2Proof.Machine

/-! ### The end of a stop (R193, R497) -/

theorem endStop_cases (d : Dev) : endStop d = d ∨ endStop d = gapAtEnd d ∨ endStop d = stopOver (gapAtEnd d) := by
  unfold endStop
  split
  · exact .inl rfl
  · split
    · exact .inl rfl
    · dsimp only
      split
      · exact .inr (.inl rfl)
      · exact .inr (.inr rfl)

theorem only_endStop (d : Dev) : ChangesOnly [.dict, .host, .flt] d (endStop d) := by
  have hgap : ChangesOnly [.dict, .host, .flt] d (gapAtEnd d) := (only_gapAtEnd d).mono (by decide)
  obtain h | h | h := endStop_cases d <;> rw [h]
  · exact ChangesOnly.refl _ _
  · exact hgap
  · exact hgap.trans ((only_stopOver _).mono (by decide))

theorem dget_gapAtEnd (r : Reg) (d : Dev) : dget r (gapAtEnd d) = dget r d :=
  seb_dict (ks := []) (only_gapAtEnd d .dict (by decide)) r (by simp)

theorem dget_endStop {r : Reg} (hr : r.key ∉ R.ARRAY_STATE.key :: (presenceKeys ++ summaryKeys)) (d : Dev) : dget r (endStop d) = dget r d := by
  obtain h | h | h := endStop_cases d <;> rw [h]
  · exact dget_gapAtEnd r d
  · exact (seb_stopOver _ r hr).trans (dget_gapAtEnd r d)

/-- With the monitors in range, what has been reported stands through the end of a stop. -/
theorem lastFault_stopEnds {code : Nat} {d : Dev} (h : LastFault code d) (hm : MonsInRange d) : LastFault code (stopEnds d) := by
  have henc : (endStop d).enc = d.enc := only_endStop d .enc (by decide)
  have hrange : MonsInRange (endStop d) := fun x hx => hm x (henc ▸ hx)
  have hended : LastFault code (endStop d) := h.of_same (dget_endStop (by decide) d) (only_endStop d .undef (by decide))
  have hupdate : LastFault code (encAtStop (endStop d)) :=
    hended.of_same ((updateKeeps_encAtStop _ hrange).1 _ lastFault_notMem_updateKeys)
      (((stopKeeps_encApply 0 _).ite (StopKeeps.refl _)).2 .undef (by decide))
  unfold stopEnds
  dsimp only
  split
  · exact h
  · split
    · exact hended
    · exact hupdate

/-! ### The end of a restart (R233, R360, R442, R516) -/

theorem only_raiseEpochs (d : Dev) : ChangesOnly [.host] d (raiseEpochs d) :=
  ChangesOnly.foldl (fun _ _ => only_setRing _ _ _) _ _

theorem only_freeQueued (d : Dev) : ChangesOnly [.host] d (freeQueued d) := by
  unfold freeQueued
  exact (only_host _ _).ite (ChangesOnly.refl _ _)

/-- The parts that the end of a restart may change, but for a stop that ends with it. -/
def restartParts : List Part := [.dict, .host, .flt, .undef]

theorem only_restartOver (first last : Nat) (d : Dev) : ChangesOnly restartParts d (restartOver first last d) := by
  have hundef (b : Bool) (e : Dev) : ChangesOnly restartParts e { e with undef := b } :=
    fun p hp => by cases p <;> first | exact absurd (by decide) hp | rfl
  have hshown (g : Flt → Flt) : ChangesOnly restartParts d (showLoader (modFlt g (dset R.RESTART_STATE 0 d))) :=
    ((only_dset _ _ d).mono (by decide)).trans (((only_flt _ _).mono (by decide)).trans ((only_showLoader _).mono (by decide)))
  unfold restartOver
  refine ChangesOnly.trans ?_ ((only_report (by decide) _ _ _).mono (by decide))
  exact (hshown _).trans (((only_freeQueued _).mono (by decide)).trans (hundef _ _))

/-- The rings of a restart that ends without a rejoin: a gap at the grid's end is written, and the epochs rise. -/
def ringsAtRestartEnd (d : Dev) : Dev :=
  raiseEpochs (match d.grid.endF with
    | some s => flushGap (closeGap s d)
    | none => d)

theorem only_ringsAtRestartEnd (d : Dev) : ChangesOnly [.host] d (ringsAtRestartEnd d) := by
  unfold ringsAtRestartEnd
  refine ChangesOnly.trans ?_ (only_raiseEpochs _)
  split
  · exact (only_closeGap _ _).trans (only_flushGap _)
  · exact ChangesOnly.refl _ _

/-- The block of a restart that has ended, before a stop may end with it. -/
def restartEnded (d : Dev) : Dev :=
  modFlt (fun f => { f with noRejoin := false }) (restartOver d.flt.firstLost (2 ^ 64 - 1) (ringsAtRestartEnd d))

theorem restartEnd_eq (d : Dev) : restartEnd d = stopEnds (restartEnded d) := rfl

theorem only_restartEnded (d : Dev) : ChangesOnly restartParts d (restartEnded d) :=
  ((only_ringsAtRestartEnd d).mono (by decide)).trans ((only_restartOver _ _ _).trans ((only_flt _ _).mono (by decide)))

theorem lastFault_restartEnded (d : Dev) : LastFault 0x0541 (restartEnded d) :=
  LastFault.of_same (lastFault_report (by decide) _ _ _) rfl rfl

theorem lastFault_restartEnd {d : Dev} (hm : MonsInRange d) : LastFault 0x0541 (restartEnd d) := by
  have henc : (restartEnded d).enc = d.enc := only_restartEnded d .enc (by decide)
  rw [restartEnd_eq]
  exact lastFault_stopEnds (lastFault_restartEnded d) fun x hx => hm x (henc ▸ hx)

/-! ### RESTART_PHASE_DONE after phase 4 -/

theorem exec_restartPhaseDone {data : List (Nat × List Nat)} (h : hostCopy data = true) (s : State) :
    exec (.restartPhaseDone data) s = .next { s with dev := restartPhaseDone data s.dev } := run_ok h

/-- What is claimed of a completed RESTART_PHASE_DONE is claimed of `restartPhaseDone`. -/
theorem restartPhaseDone_of_completes {data : List (Nat × List Nat)} {s : State} {P : Dev → Prop} (hd : hostCopy data = true)
    (h : Completes (exec (.restartPhaseDone data) s) s P) : P (restartPhaseDone data s.dev) := by
  obtain ⟨d, hnext, hP⟩ := h
  rw [exec_restartPhaseDone hd] at hnext
  obtain rfl : restartPhaseDone data s.dev = d := congrArg State.dev (Host.Outcome.next.inj hnext)
  exact hP

theorem restartPhaseDone_noRejoin {d : Dev} (h4 : dget R.RESTART_STATE d = 4) (hn : d.flt.noRejoin = true) (data : List (Nat × List Nat)) :
    restartPhaseDone data d = restartEnd { d with fab := { d.fab with misaligned := [] } } := by
  have halign : restartPhaseDone data d = phaseAlign d := by
    unfold restartPhaseDone restartState
    rw [h4]
    rfl
  rw [halign]
  exact if_pos hn

/-- What O42 says of the event of a restart that may not rejoin holds while the block's clip monitors are those that the part has. -/
theorem restart_reports_end {data : List (Nat × List Nat)} {s : State} (hd : hostCopy data = true) (h4 : dget R.RESTART_STATE s.dev = 4)
    (hn : s.dev.flt.noRejoin = true) (hm : MonsInRange s.dev) : Completes (exec (.restartPhaseDone data) s) s (LastFault 0x0541) := by
  refine ⟨_, exec_restartPhaseDone hd s, ?_⟩
  rw [restartPhaseDone_noRejoin h4 hn]
  exact lastFault_restartEnd hm

/-! ### The refutation of O42 -/

/-- A restart after phase 4 that may not rejoin, in an array whose stop ends with it and whose update of slot 0 is committed, with the clip
monitor number 516097: no state that the part reaches, but one of the state type, over which O42 speaks. -/
def restartEndingWithStrayMonitor : State := { State.reset with dev := { Dev.reset with
  dict := [(R.ARRAY_STATE, 2), (R.RESTART_STATE, 4), (R.ENC_STATE, 3), (R.MONITOR_BASE 0, 516097)].foldl
    (fun t x => tset x.1.dflt t x.1.key x.2) []
  grid := { Dev.reset.grid with endF := some 0 }
  flt := { Dev.reset.flt with noRejoin := true }
  ldr := { Dev.reset.ldr with ctxs := [(0, { Loaded.rest with present := true, monCount := 1 })] }
  enc := { Dev.reset.enc with
    staged := [{ core := 0, kind := 3, ctx := 0, row := 0, tword := 0, oq := 0, words := [], record := [], tag := 0 }]
    mons := [(516097, { Mon.rest with stale := true })] } } }

/-- The effect of the update clears the monitor's CLIP_SHARE, whose number is that of LAST_FAULT_CODE (`clipShare_strayMonitor_key`). -/
theorem restartPhaseDone_strayMonitor_lastFault :
    (restartPhaseDone [] restartEndingWithStrayMonitor.dev).undef = false ∧
    dget R.LAST_FAULT_CODE (restartPhaseDone [] restartEndingWithStrayMonitor.dev) = 0 := by
  decide +kernel

/-- Refutes O42: its clause on phase 4 claims event 0x0541 for a restart that may not rejoin in every state, and where a committed update
clears a monitor beyond the 4,096 of R183, which no hypothesis keeps out, the write of its CLIP_SHARE falls on LAST_FAULT_CODE
(`restart_reports_end` gives the clause for monitors in range). -/
theorem not_restartPhases : ¬ Obligations.RestartPhases := by
  unfold Obligations.RestartPhases
  rintro ⟨-, -, -, -, haligned, -⟩
  have hends := (haligned [] restartEndingWithStrayMonitor rfl (by decide +kernel)).2 rfl
  obtain ⟨-, hlast, -⟩ := restartPhaseDone_of_completes rfl hends
  obtain ⟨hundef, hcode⟩ := restartPhaseDone_strayMonitor_lastFault
  exact absurd (hcode.symm.trans (hlast hundef)) (by decide)

end Sys2Proof.Machine
end

section
/-! SUPPORT. Writes of the context and pause entries by a client: the row that admits each, the operation it comes to, and the frame that it
names (R237, R242, R245, R247, R371, R424). -/

namespace Sys2Proof.Machine

/-! ### A write that comes to one operation -/

/-- A write of v to entry r by client c passes the checks and comes to operation f on the block as the request marked it. -/
def WriteIs (c : Nat) (r : Reg) (v : Nat) (f : Dev → Dev × Nat) (d : Dev) : Prop :=
  entryWrite c (r.key / 256) (r.key % 256) (natural v) none (asked c d) = ((f (asked c d)).1, (f (asked c d)).2, r.key)

section Write

variable {c v : Nat} {r : Reg} {f : Dev → Dev × Nat} {s : State} {o : Host.Outcome State Fault Refusal}

theorem WriteIs.completes {e : Dev} {P : Dev → Prop} (h : WriteIs c r v f s.dev) (ha : Asks c s.dev)
    (ho : o = .next { s with dev := rowWrite c r v s.dev }) (hf : f (asked c s.dev) = (e, 0)) (hP : P e) : Completes o s P := by
  have hwrite : rowWrite c r v s.dev = e := rowWrite_admitted ha (h.trans (by rw [hf]))
  exact ⟨e, by rw [ho, hwrite], hP⟩

theorem WriteIs.completes_refused {code : Nat} (h : WriteIs c r v f s.dev) (ha : Asks c s.dev)
    (ho : o = .next { s with dev := rowWrite c r v s.dev }) (h0 : code ≠ 0) (hlt : code < 2 ^ 16)
    (hf : f (asked c s.dev) = (asked c s.dev, code)) : Completes o s (TurnedAway c code s.dev) :=
  ⟨_, ho, request_refused ha h0 hlt (h.trans (by rw [hf]))⟩

end Write

/-! ### The rows of Table 9.7 -/

theorem rowIs_contextSwitch : rowIs R.CONTEXT_SWITCH ⟨0x3050, 1, 0x02, 1, .u64, .wo, .framed, .none, false⟩ = true := by decide +kernel
theorem rowIs_fallbackEnable : rowIs R.FALLBACK_ENABLE ⟨0x3050, 1, 0x07, 1, .u8, .rw, .range 0 1, .none, false⟩ = true := by decide +kernel
theorem rowIs_pauseCommand : rowIs R.PAUSE_COMMAND ⟨0x3050, 1, 0x09, 1, .u64, .wo, .framedCmd, .none, false⟩ = true := by decide +kernel

section Rows

variable {c k v f code : Nat} {d : Dev} {s : State}

theorem chkValue_framed (hk : k < 4) : chkValue d .framed (f * 256 + k) = 0 := by
  have hlow : bits (f * 256 + k) 7 2 = 0 := by unfold bits; omega
  simp [chkValue, hlow]

theorem chkValue_framedCmd (h0 : 0 < code) (h3 : code < 4) : chkValue d .framedCmd (f * 256 + code) = 0 := by
  have hlow : bits (f * 256 + code) 7 2 = 0 := by unfold bits; omega
  have hcode : (f * 256 + code) % 4 ≠ 0 := by omega
  simp [chkValue, hlow, hcode]

theorem writeIs_contextSwitch (ha : Asks c d) (hk : k < 4) (hf : f < 2 ^ 56) :
    WriteIs c R.CONTEXT_SWITCH (f * 256 + k) (switchCmd (f * 256 + k)) d :=
  (entryWrite_row _ ha rowIs_contextSwitch ⟨nofun, nofun⟩ (by simp [tyBytes]; omega) rfl (chkValue_framed hk) rfl).trans rfl

theorem writeIs_fallbackEnable (ha : Asks c d) (hv : v < 2) : WriteIs c R.FALLBACK_ENABLE v (fallbackEnable v) d :=
  (entryWrite_row _ ha rowIs_fallbackEnable ⟨nofun, nofun⟩ (by simp [tyBytes]; omega) rfl (by simp [chkValue]; omega) rfl).trans rfl

theorem command_pauseCommand (c v : Nat) (d : Dev) : command c R.PAUSE_COMMAND.key v none d =
    if v % 4 = 1 then ((pause (v / 256) d).1, (pause (v / 256) d).2, R.PAUSE_COMMAND.key)
    else ((resume (decide (v % 4 = 2)) (v / 256) d).1, (resume (decide (v % 4 = 2)) (v / 256) d).2, R.PAUSE_COMMAND.key) := rfl

/-- What a code of PAUSE_COMMAND with frame f comes to. -/
def pauseCmd (code f : Nat) (d : Dev) : Dev × Nat := if code = 1 then pause f d else resume (decide (code = 2)) f d

theorem writeIs_pauseCommand (ha : Asks c d) (h0 : 0 < code) (h3 : code < 4) (hf : f < 2 ^ 56) :
    WriteIs c R.PAUSE_COMMAND (f * 256 + code) (pauseCmd code f) d := by
  have hcode : (f * 256 + code) % 4 = code := by omega
  have hframe : (f * 256 + code) / 256 = f := by omega
  refine (entryWrite_row _ ha rowIs_pauseCommand ⟨nofun, nofun⟩ (by simp [tyBytes]; omega) rfl (chkValue_framedCmd h0 h3) rfl).trans ?_
  refine (command_pauseCommand c (f * 256 + code) (asked c d)).trans ?_
  rw [hcode, hframe]
  unfold pauseCmd
  split <;> rfl

/-! ### The commands whose operands are in order -/

theorem exec_contextSwitch (hc : c < 10) (hf : f < 2 ^ 56) (hk : k < 4) :
    exec (.contextSwitch c f k) s = .next { s with dev := rowWrite c R.CONTEXT_SWITCH (f * 256 + k) s.dev } :=
  run_ok (decide_eq_true ⟨hc, hf, hk⟩)

theorem exec_fallbackEnable (hc : c < 10) (hv : v < 256) :
    exec (.fallbackEnable c v) s = .next { s with dev := rowWrite c R.FALLBACK_ENABLE v s.dev } :=
  run_ok (decide_eq_true ⟨hc, hv⟩)

theorem exec_pause (hc : c < 10) (hf : f < 2 ^ 56) :
    exec (.pause c f) s = .next { s with dev := rowWrite c R.PAUSE_COMMAND (f * 256 + 1) s.dev } :=
  run_ok (decide_eq_true ⟨hc, hf⟩)

theorem exec_resume (hc : c < 10) (hf : f < 2 ^ 56) :
    exec (.resume c f) s = .next { s with dev := rowWrite c R.PAUSE_COMMAND (f * 256 + 2) s.dev } :=
  run_ok (decide_eq_true ⟨hc, hf⟩)

theorem exec_resumeNoRestore (hc : c < 10) (hf : f < 2 ^ 56) :
    exec (.resumeNoRestore c f) s = .next { s with dev := rowWrite c R.PAUSE_COMMAND (f * 256 + 3) s.dev } :=
  run_ok (decide_eq_true ⟨hc, hf⟩)

end Rows

/-! ### What a request's own mark leaves as it was -/

theorem asked_ctx (c : Nat) (d : Dev) : (asked c d).ctx = d.ctx := only_asked c d .ctx (by decide)
theorem asked_grid (c : Nat) (d : Dev) : (asked c d).grid = d.grid := only_asked c d .grid (by decide)
theorem running_asked (c : Nat) (d : Dev) : running (asked c d) = running d := running_congr (dget_asked _ c d) (asked_grid c d)

theorem ending_asked (c : Nat) (d : Dev) : ending (asked c d) = ending d := by
  unfold ending arrayState
  rw [dget_asked, asked_grid]

theorem switchable_asked (c : Nat) (d : Dev) (k : Nat) : switchable (asked c d) k = switchable d k := by simp [switchable]

theorem imageFits_asked (c : Nat) (d : Dev) : imageFits (asked c d) = imageFits d := by
  unfold imageFits
  rw [asked_ctx]
  simp

theorem nextCut_asked (c : Nat) (d : Dev) : nextCut (asked c d) = nextCut d := by
  unfold nextCut
  rw [running_asked, asked_grid]

/-! ### The frame that a write names (R237, R371) -/

theorem armed_of_running {d : Dev} (h : running d = true) : armed d = true := by simp [armed, arrayState_of_running h]

theorem ending_of_running {d : Dev} (h : running d = true) : ending d = false := by
  simp only [running, Bool.and_eq_true, Option.isNone_iff_eq_none] at h
  obtain ⟨-, hend⟩ := h
  simp [ending, hend]

theorem nextCut_of_running {d : Dev} (h : running d = true) : nextCut d = d.grid.nextC := if_pos h

theorem frameFor_ended {d : Dev} (h : armed d = false ∨ ending d = true) (next g : Nat) : frameFor d next g = none := if_pos h

theorem frameFor_past {d : Dev} {next g : Nat} (h0 : g ≠ 0) (h : g < next) : frameFor d next g = none := by
  unfold frameFor
  rw [if_neg h0, if_pos h, ite_self]

theorem frameFor_meets {d : Dev} {next g : Nat} (hr : running d = true) (h : g = 0 ∨ next ≤ g) :
    frameFor d next g = some (if g = 0 then next else g) := by
  have hon : ¬ (armed d = false ∨ ending d = true) := by simp [armed_of_running hr, ending_of_running hr]
  unfold frameFor
  rw [if_neg hon]
  split
  · rfl
  · exact if_neg (by omega)

end Sys2Proof.Machine
end

section
/-! SUPPORT. The operations of chapter 9 case by case: the switch and the end of a slot's draining (R235, R237), the fallback (R242), pause,
resume, the save image and its restore (R245 to R248), and the audit timeout (R269). -/

namespace Sys2Proof.Machine

/-! ### The switch (R237, R424, R425) -/

section Switch

variable {next v g : Nat} {d : Dev}

theorem contextSwitch_pends (hg : frameFor d next (v / 256) = some g) (hs : switchable d (v % 4) = true) :
    contextSwitch next v d = (dset R.PENDING_SWITCH (g % 2 ^ 56 * 256 + 128 + v % 4) d, 0) := by
  unfold contextSwitch
  rw [hg]
  exact if_pos hs

theorem contextSwitch_refused (h : frameFor d next (v / 256) = none ∨ switchable d (v % 4) = false) : contextSwitch next v d = (d, 0xA00B) := by
  unfold contextSwitch
  split
  · rfl
  · next g hg =>
    have hs : switchable d (v % 4) = false := h.resolve_left (by simp [hg])
    exact if_neg (by simp [hs])

theorem switchCmd_follows (h : follows d = true) : switchCmd v d = (d, 0xA011) := if_pos h

/-- The first frame that a client's switch can meet: a primary that forwards it leaves its partner the time to take it. -/
def switchNext (d : Dev) : Nat := if forwards d && running d then nextFwdFrame d else nextCut d

theorem switchNext_unforwarded (h : forwards d = false) : switchNext d = nextCut d := by simp [switchNext, h]

theorem switchCmd_refused (hf : follows d = false) (h : frameFor d (switchNext d) (v / 256) = none ∨ switchable d (v % 4) = false) :
    switchCmd v d = (d, 0xA00B) := by
  have hr : contextSwitch (if forwards d && running d then nextFwdFrame d else nextCut d) v d = (d, 0xA00B) := contextSwitch_refused h
  unfold switchCmd
  dsimp only
  rw [if_neg (by simp [hf]), hr]
  exact (if_neg (by simp)).trans (if_neg (by simp))

/-- A switch that is not forwarded is pending; a primary whose link has been down from the start loses the synchronisation (R425). -/
theorem switchCmd_pends (hf : follows d = false) (hw : forwards d = false) (hg : frameFor d (nextCut d) (v / 256) = some g)
    (hs : switchable d (v % 4) = true) :
    switchCmd v d = (if unsent d then syncLost (dset R.PENDING_SWITCH (g % 2 ^ 56 * 256 + 128 + v % 4) d)
      else dset R.PENDING_SWITCH (g % 2 ^ 56 * 256 + 128 + v % 4) d, 0) := by
  unfold switchCmd
  simp only [hf, hw, contextSwitch_pends hg hs, Bool.false_and, Bool.false_eq_true, if_false, and_false, true_and]
  split <;> rfl

end Switch

/-! ### The end of a slot's draining (R235) -/

section Drain

variable {k g : Nat} {d : Dev}

theorem slotDrained_idle (h : tget none d.ctx.drain k = none) : slotDrained k d = d := by
  unfold slotDrained
  rw [h]

/-- The block when the growth ring of frame g + 2 has passed the last core; in ARMING the grid gives it no time. -/
def ringOver (g : Nat) (d : Dev) : Dev := if arrayState d = 1 then d else advTo (t0At d (g + 2) + dget R.GROWTH_RING_SPAN d) d

/-- Slot k is LOADED, and drains no more. -/
def slotFreed (k : Nat) (d : Dev) : Dev := dset (R.SLOT_STATE k) 2 (modCtx (fun c => { c with drain := tset none c.drain k none }) d)

theorem slotDrained_frees (hg : tget none d.ctx.drain k = some g) (ht : running d = true → g + 2 < d.grid.nextT) (he : egressFree d k = true) :
    slotDrained k d = slotFreed k (ringOver g d) := by
  have hpassed : ¬ ((running d = true ∧ d.grid.nextT ≤ g + 2) ∨ egressFree d k = false) := by
    rintro (⟨hr, hle⟩ | hheld)
    · exact absurd (ht hr) (by omega)
    · simp [he] at hheld
  unfold slotDrained
  rw [hg]
  exact if_neg hpassed

theorem only_ringOver (g : Nat) (d : Dev) : ChangesOnly [.now, .time] d (ringOver g d) := (ChangesOnly.refl _ _).ite (only_advTo _ _)

theorem ringOver_now (g : Nat) (d : Dev) :
    (ringOver g d).now = if arrayState d = 1 then d.now else max (t0At d (g + 2) + dget R.GROWTH_RING_SPAN d) d.now := by
  unfold ringOver
  split <;> rfl

theorem only_slotFreed (k : Nat) (d : Dev) : ChangesOnly [.dict, .ctx] d (slotFreed k d) :=
  (only_modCtx _ _).then (only_dset _ _ _) (by decide) (by decide)

theorem seb_slotFreed (k : Nat) (d : Dev) : SameEntriesBut [(R.SLOT_STATE k).key] d (slotFreed k d) :=
  (seb_dict rfl).trans (seb_dset List.mem_cons_self _ _)

theorem drain_slotFreed (k j : Nat) (d : Dev) : tget none (slotFreed k d).ctx.drain j = if j = k then none else tget none d.ctx.drain j := by
  refine (tget_tset none d.ctx.drain k j none).trans ?_
  simp only [eq_comm]

end Drain

/-! ### Pause and resume (R245, R247, R248) -/

section Pause

variable {f : Nat} {restore : Bool} {d : Dev}

theorem fallbackEnable_admitted {v : Nat} (h : v = 1 → switchable d 3 = true) : fallbackEnable v d = (dset R.FALLBACK_ENABLE v d, 0) :=
  if_neg fun ⟨hv, hs⟩ => by simp [h hv] at hs

theorem fallbackEnable_refused (h : switchable d 3 = false) : fallbackEnable 1 d = (d, 0xA00B) := if_pos ⟨rfl, h⟩

theorem pause_requested {p : Nat} (hf : frameFor d (nextCut d) f = some p) (h0 : dget R.PAUSE_STATE d = 0) :
    pause f d = (dset R.PAUSE_FRAME p (dset R.PAUSE_STATE 1 d), 0) := by
  unfold pause
  rw [hf]
  exact if_neg (not_not_intro h0)

theorem pause_refused (h : armed d = false ∨ dget R.PAUSE_STATE d ≠ 0) : pause f d = (d, 0xA00B) := by
  unfold pause
  split
  · rfl
  · next p hp =>
    have harmed : armed d ≠ false := fun ha => by simp [frameFor_ended (.inl ha)] at hp
    exact if_pos (h.resolve_left harmed)

/-- The device restores what is saved, or begins afresh, and waits for the growth ring of frame r. -/
def resumed (restore : Bool) (r : Nat) (d : Dev) : Dev := dset R.PAUSE_STATE 4 (modCtx (fun c => { c with resumeAt := r, restore := restore }) d)

theorem resumed_ctx (r : Nat) : (resumed restore r d).ctx = { d.ctx with resumeAt := r, restore := restore } := rfl

theorem resume_requested {r : Nat} (hf : frameFor d (nextCut d) f = some r) (h3 : dget R.PAUSE_STATE d = 3) (hp : dget R.POWER_STATE d = 0)
    (hq : preparing d = false) (hi : restore = true → imageFits d = true) : resume restore f d = (resumed restore r d, 0) := by
  have hfit : ¬ (restore = true ∧ imageFits d = false) := fun ⟨hr, hn⟩ => by simp [hi hr] at hn
  unfold resume
  rw [hf]
  exact if_neg (by simp only [pauseState, h3, hp, hq, hfit, ne_eq, not_true, Bool.false_eq_true, or_false, not_false_iff])

theorem resume_refused
    (h : dget R.PAUSE_STATE d ≠ 3 ∨ dget R.POWER_STATE d ≠ 0 ∨ preparing d = true ∨ (restore = true ∧ imageFits d = false)) :
    resume restore f d = (d, 0xA00B) := by
  unfold resume
  split
  · rfl
  · exact if_pos h

theorem restoreDone_waits (h4 : dget R.PAUSE_STATE d = 4) (h0 : dget R.RESTART_STATE d = 0) : restoreDone d = dset R.PAUSE_STATE 5 d :=
  if_pos ⟨h4, h0⟩

theorem restoreDone_idle (h : dget R.PAUSE_STATE d ≠ 4) : restoreDone d = d := if_neg fun ⟨h4, _⟩ => h h4

end Pause

/-! ### The save image (R245, R246) -/

section Image

variable {h : Save} {d : Dev}

/-- The state registers that the image holds, of every logical core of its slot. -/
def imageRegs (slot : Nat) (d : Dev) : Tab (Tab SReg) :=
  (loadedOf d slot).cores.foldl (fun (t : Tab (Tab SReg)) xy =>
    match physOf d (xy / 256) (xy % 256) with
    | some key => tset [] t xy (slotRegs (coreOf d key) slot)
    | none => t) []

/-- The image with header h of a pause at frame p. -/
def imageOf (p : Nat) (h : Save) (d : Dev) : Save :=
  saveMons d { h with sregs := imageRegs h.slot d, chans := d.chans, edges := d.edges.map (fun e => (e.1, edgeBefore d p e.2)), pats := d.trig.pats }

/-- While the array runs, the image is written once the growth ring of frame p + 2 has passed the last core. -/
def imageDue (p : Nat) (d : Dev) : Dev := if running d then advTo (t0At d (p + 2) + dget R.GROWTH_RING_SPAN d) d else d

/-- The image is kept, and the four words of its digest are drawn. -/
def imageKept (p : Nat) (h : Save) (d : Dev) : Dev :=
  { d with freeCtr := d.freeCtr + 4, ctx := { d.ctx with save := some (imageOf p h d) } }

theorem only_imageKept (p : Nat) (h : Save) (d : Dev) : ChangesOnly [.ctx, .freeCtr] d (imageKept p h d) :=
  fun q hq => by cases q <;> first | exact absurd (by decide) hq | rfl

theorem saveImageWritten_idle (h2 : dget R.PAUSE_STATE d ≠ 2) : saveImageWritten d = d := if_pos (.inl h2)

theorem imageDue_eq (p : Nat) (d : Dev) : ∃ n t, imageDue p d = { d with now := n, time := t } := by
  unfold imageDue
  split
  · exact ⟨_, _, rfl⟩
  · exact ⟨_, _, rfl⟩

theorem only_imageDue (p : Nat) (d : Dev) : ChangesOnly [.now, .time] d (imageDue p d) := (only_advTo _ _).ite (ChangesOnly.refl _ _)

/-- The time at which an image is written is no part of it. -/
theorem imageOf_imageDue (p : Nat) (h : Save) (d : Dev) : imageOf p h (imageDue p d) = imageOf p h d := by
  obtain ⟨n, t, hdue⟩ := imageDue_eq p d
  rw [hdue]
  rfl

/-- The header of the image: the one that the growth ring of frame p fixed. -/
def imageHeader (p : Nat) (d : Dev) : Save :=
  match d.ctx.save with
  | some s => s
  | none => newSave d p

theorem imageHeader_imageDue (p : Nat) (hs : d.ctx.save = some h) : imageHeader p (imageDue p d) = h := by
  have hkeep : (imageDue p d).ctx = d.ctx := only_imageDue p d .ctx (by decide)
  unfold imageHeader
  rw [hkeep, hs]

theorem saveImageWritten_saves {p : Nat} (h2 : dget R.PAUSE_STATE d = 2) (h0 : dget R.RESTART_STATE d = 0) (hp : p = dget R.PAUSE_FRAME d)
    (ht : running d = true → p + 2 < d.grid.nextT) :
    ∃ digest, saveImageWritten d =
      dset R.SAVE_DIGEST digest (dset R.PAUSE_STATE 3 (imageKept p (imageHeader p (imageDue p d)) (imageDue p d))) := by
  subst hp
  have hdue : ¬ (pauseState d ≠ 2 ∨ dget R.RESTART_STATE d ≠ 0 ∨ (running d = true ∧ d.grid.nextT ≤ dget R.PAUSE_FRAME d + 2)) := by
    rintro (hne | hne | ⟨hr, hle⟩)
    · exact hne h2
    · exact hne h0
    · exact absurd (ht hr) (by omega)
  exact ⟨_, if_neg hdue⟩

end Image

/-! ### The audit timeout (R269) -/

section Audit

variable {r i : Nat} {e : Rec} {d : Dev}

/-- A record whose digest could still be outstanding. -/
def awaitsDigest (e : Rec) : Bool := e.audit && decide (e.kind = 2 ∨ e.kind = 3 ∨ e.kind = 4)

/-- The record with zeros in place of its digest. -/
def digestZeroed (e : Rec) : Rec :=
  { e with audit := false, words := e.words.mapIdx (fun j w => if auditAt e.kind ≤ j ∧ j < auditAt e.kind + 4 then 0 else w) }

theorem findIdx_awaitsDigest {q : List Rec} (hi : q[i]? = some e) (he : awaitsDigest e = true) (hb : ∀ x ∈ q.take i, x.audit = false) :
    q.findIdx awaitsDigest = i := by
  obtain ⟨hlt, rfl⟩ := List.getElem?_eq_some_iff.mp hi
  refine (List.findIdx_eq hlt).mpr ⟨he, fun j hj => ?_⟩
  have hbefore : q[j].audit = false := hb _ (List.mem_take_iff_getElem.mpr ⟨j, by omega, rfl⟩)
  simp [awaitsDigest, hbefore]

theorem auditTimeout_zeroes (hi : (ringOf d r).queue[i]? = some e) (he : awaitsDigest e = true)
    (hb : ∀ x ∈ (ringOf d r).queue.take i, x.audit = false) :
    auditTimeout r d = bump R.AUDIT_SKIPPED (setRing r { ringOf d r with queue := (ringOf d r).queue.set i (digestZeroed e) } d) := by
  have hfind : (ringOf d r).queue.findIdx (fun e => e.audit && decide (e.kind = 2 ∨ e.kind = 3 ∨ e.kind = 4)) = i :=
    findIdx_awaitsDigest hi he hb
  unfold auditTimeout
  dsimp only
  rw [hfind, hi]
  rfl

end Audit

end Sys2Proof.Machine
end

section
/-! SUPPORT. What settles O26: each command of chapter 9 as it completes. -/

namespace Sys2Proof.Machine

/-! ### A client's switch (R237) -/

section Switch

variable {c k f : Nat} {s : State}

/-- A switch that its client may ask for and whose frame can still be met. -/
structure SwitchMeets (c k f : Nat) (d : Dev) : Prop where
  asks : Asks c d
  slot : k < 4
  frame : f < 2 ^ 56
  leads : follows d = false
  alone : forwards d = false
  runs : running d = true
  meets : f = 0 ∨ d.grid.nextC ≤ f
  next : d.grid.nextC < 2 ^ 56
  loaded : switchable d k = true

/-- The switch of PENDING_SWITCH to slot k at frame g. -/
def switchSet (g k : Nat) (d : Dev) : Dev := dset R.PENDING_SWITCH (g * 256 + 128 + k) d

theorem SwitchMeets.switchCmd_asked {d : Dev} (h : SwitchMeets c k f d) :
    switchCmd (f * 256 + k) (asked c d) =
      (if unsent d then syncLost (switchSet (if f = 0 then d.grid.nextC else f) k (asked c d))
        else switchSet (if f = 0 then d.grid.nextC else f) k (asked c d), 0) := by
  obtain ⟨-, hk, hf, hfollows, hforwards, hr, hmeets, hnext, hloaded⟩ := h
  have hslot : (f * 256 + k) % 4 = k := by omega
  have hframe : (f * 256 + k) / 256 = f := by omega
  have hcut : nextCut (asked c d) = d.grid.nextC := (nextCut_asked c d).trans (nextCut_of_running hr)
  have hnamed : frameFor (asked c d) (nextCut (asked c d)) ((f * 256 + k) / 256) = some (if f = 0 then d.grid.nextC else f) := by
    rw [hframe, hcut]
    exact frameFor_meets (by rwa [running_asked]) hmeets
  have hfits : (if f = 0 then d.grid.nextC else f) % 2 ^ 56 = if f = 0 then d.grid.nextC else f := by
    split
    · exact Nat.mod_eq_of_lt hnext
    · exact Nat.mod_eq_of_lt hf
  rw [switchCmd_pends (by rwa [follows_asked]) (by rwa [forwards_asked]) hnamed (by rwa [hslot, switchable_asked]), unsent_asked, hfits, hslot]
  rfl

theorem SwitchMeets.completes (h : SwitchMeets c k f s.dev) (hu : unsent s.dev = false) :
    Completes (exec (.contextSwitch c f k) s) s fun d =>
      dget R.PENDING_SWITCH d = (if f = 0 then s.dev.grid.nextC else f) * 256 + 128 + k ∧ SameEntriesBut [R.PENDING_SWITCH.key] s.dev d ∧
      ChangesOnly [.dict] (asked c s.dev) d := by
  have hcmd := h.switchCmd_asked
  rw [if_neg (by simp [hu])] at hcmd
  exact (writeIs_contextSwitch h.asks h.slot h.frame).completes h.asks (exec_contextSwitch h.asks.1 h.frame h.slot) hcmd
    ⟨dget_dset_same _ _ _, (seb_asked _ c s.dev).trans (seb_dset List.mem_cons_self _ _), only_dset _ _ _⟩

theorem SwitchMeets.completes_unsent (h : SwitchMeets c k f s.dev) (hu : unsent s.dev = true) :
    Completes (exec (.contextSwitch c f k) s) s fun d =>
      dget R.PENDING_SWITCH d = (if f = 0 then s.dev.grid.nextC else f) * 256 + 128 + k ∧ dget R.MIRROR_SYNC_STATE d = 3 ∧ LastFault 0x0445 d ∧
      SameEntriesBut (R.PENDING_SWITCH.key :: R.MIRROR_SYNC_STATE.key :: reportKeys) s.dev d := by
  have hcmd := h.switchCmd_asked
  rw [if_pos hu] at hcmd
  refine (writeIs_contextSwitch h.asks h.slot h.frame).completes h.asks (exec_contextSwitch h.asks.1 h.frame h.slot) hcmd
    ⟨?_, dget_syncLost_state _, lastFault_syncLost _, ?_⟩
  · rw [seb_syncLost _ R.PENDING_SWITCH (by decide)]
    exact dget_dset_same _ _ _
  · exact (seb_asked _ c s.dev).trans ((seb_dset List.mem_cons_self _ _).trans ((seb_syncLost _).mono (List.subset_cons_self _ _)))

theorem completes_contextSwitch_refused (ha : Asks c s.dev) (hk : k < 4) (hf : f < 2 ^ 56) (hfollows : follows s.dev = false)
    (h : frameFor (asked c s.dev) (switchNext (asked c s.dev)) f = none ∨ switchable s.dev k = false) :
    Completes (exec (.contextSwitch c f k) s) s (TurnedAway c 0xA00B s.dev) := by
  have hslot : (f * 256 + k) % 4 = k := by omega
  have hframe : (f * 256 + k) / 256 = f := by omega
  exact (writeIs_contextSwitch ha hk hf).completes_refused ha (exec_contextSwitch ha.1 hf hk) (by decide) (by decide)
    (switchCmd_refused (by rwa [follows_asked]) (by rwa [hslot, hframe, switchable_asked]))

/-- No frame is named in an array that is not armed or is ending, nor by a frame that has passed. -/
theorem frameFor_switchNext_asked {d : Dev}
    (h : armed d = false ∨ ending d = true ∨ (running d = true ∧ forwards d = false ∧ f ≠ 0 ∧ f < d.grid.nextC)) :
    frameFor (asked c d) (switchNext (asked c d)) f = none := by
  rcases h with harmed | hending | ⟨hr, hforwards, h0, hpast⟩
  · exact frameFor_ended (.inl (by rwa [armed_asked])) _ _
  · exact frameFor_ended (.inr (by rwa [ending_asked])) _ _
  · have hnext : switchNext (asked c d) = d.grid.nextC :=
      (switchNext_unforwarded (by rwa [forwards_asked])).trans ((nextCut_asked c d).trans (nextCut_of_running hr))
    exact frameFor_past h0 (by rwa [hnext])

end Switch

/-! ### A client's pause and resume (R245, R247, R248) -/

section Pause

variable {c f : Nat} {restore : Bool} {s : State} {o : Host.Outcome State Fault Refusal}

/-- The frame that a pause or resume names, as the request finds the block. -/
theorem frameFor_nextCut_asked {d : Dev} (hr : running d = true) (hmeets : f = 0 ∨ d.grid.nextC ≤ f) :
    frameFor (asked c d) (nextCut (asked c d)) f = some (if f = 0 then d.grid.nextC else f) := by
  rw [nextCut_asked, nextCut_of_running hr]
  exact frameFor_meets (by rwa [running_asked]) hmeets

theorem completes_pause (ha : Asks c s.dev) (hf : f < 2 ^ 56) (hr : running s.dev = true) (hmeets : f = 0 ∨ s.dev.grid.nextC ≤ f)
    (h0 : dget R.PAUSE_STATE s.dev = 0) :
    Completes (exec (.pause c f) s) s fun d =>
      dget R.PAUSE_STATE d = 1 ∧ dget R.PAUSE_FRAME d = (if f = 0 then s.dev.grid.nextC else f) ∧
      SameEntriesBut [R.PAUSE_STATE.key, R.PAUSE_FRAME.key] s.dev d ∧ ChangesOnly [.dict] (asked c s.dev) d := by
  refine (writeIs_pauseCommand ha (by decide) (by decide) hf).completes ha (exec_pause ha.1 hf)
    (pause_requested (frameFor_nextCut_asked hr hmeets) (by rwa [dget_asked])) ⟨?_, dget_dset_same _ _ _, ?_, ?_⟩
  · rw [dget_dset_ne _ _ (by decide), dget_dset_same]
  · exact (seb_asked _ c s.dev).trans ((seb_dset (by simp) _ _).trans (seb_dset (by simp) _ _))
  · exact (only_dset _ _ _).trans (only_dset _ _ _)

/-- The code of PAUSE_COMMAND that resumes with the restore, or without. -/
def resumeCode (restore : Bool) : Nat := if restore then 2 else 3

theorem pauseCmd_resumeCode (d : Dev) : pauseCmd (resumeCode restore) f d = resume restore f d := by cases restore <;> rfl

theorem writeIs_resume (ha : Asks c s.dev) (hf : f < 2 ^ 56) :
    WriteIs c R.PAUSE_COMMAND (f * 256 + resumeCode restore) (resume restore f) s.dev := by
  have hwrite := writeIs_pauseCommand (code := resumeCode restore) ha (by cases restore <;> decide) (by cases restore <;> decide) hf
  rwa [funext (pauseCmd_resumeCode (restore := restore) (f := f))] at hwrite

theorem completes_resume (ha : Asks c s.dev) (hf : f < 2 ^ 56)
    (ho : o = .next { s with dev := rowWrite c R.PAUSE_COMMAND (f * 256 + resumeCode restore) s.dev })
    (hr : running s.dev = true) (hmeets : f = 0 ∨ s.dev.grid.nextC ≤ f) (h3 : dget R.PAUSE_STATE s.dev = 3)
    (hp : dget R.POWER_STATE s.dev = 0) (hq : preparing s.dev = false) (hi : restore = true → imageFits s.dev = true) :
    Completes o s fun d =>
      dget R.PAUSE_STATE d = 4 ∧ d.ctx = { s.dev.ctx with resumeAt := if f = 0 then s.dev.grid.nextC else f, restore := restore } ∧
      SameEntriesBut [R.PAUSE_STATE.key] s.dev d ∧ ChangesOnly [.dict, .ctx] (asked c s.dev) d := by
  have hresume := resume_requested (restore := restore) (frameFor_nextCut_asked (c := c) hr hmeets) (by rwa [dget_asked]) (by rwa [dget_asked])
    (by rwa [preparing_asked]) (by rwa [imageFits_asked])
  refine (writeIs_resume ha hf).completes ha ho hresume ⟨dget_dset_same _ _ _, ?_, ?_, ?_⟩
  · rw [resumed_ctx, asked_ctx]
  · exact (seb_asked _ c s.dev).trans ((seb_dict rfl).trans (seb_dset List.mem_cons_self _ _))
  · exact (only_modCtx _ _).then (only_dset _ _ _) (by decide) (by decide)

theorem completes_resume_refused (ha : Asks c s.dev) (hf : f < 2 ^ 56)
    (ho : o = .next { s with dev := rowWrite c R.PAUSE_COMMAND (f * 256 + resumeCode restore) s.dev })
    (h : dget R.PAUSE_STATE s.dev ≠ 3 ∨ dget R.POWER_STATE s.dev ≠ 0 ∨ preparing s.dev = true ∨ (restore = true ∧ imageFits s.dev = false)) :
    Completes o s (TurnedAway c 0xA00B s.dev) :=
  (writeIs_resume ha hf).completes_refused ha ho (by decide) (by decide)
    (resume_refused (by rwa [dget_asked, dget_asked, preparing_asked, imageFits_asked]))

end Pause

/-! ### The commands of the device itself (R235, R246, R269) -/

theorem completes_slotDrained {k g : Nat} {s : State} (hk : k < 4) (hg : tget none s.dev.ctx.drain k = some g)
    (ht : running s.dev = true → g + 2 < s.dev.grid.nextT) (he : egressFree s.dev k = true) :
    Completes (exec (.slotDrained k) s) s fun d =>
      dget (R.SLOT_STATE k) d = 2 ∧ (∀ j, tget none d.ctx.drain j = if j = k then none else tget none s.dev.ctx.drain j) ∧
      d.now = (if arrayState s.dev = 1 then s.dev.now else max (t0At s.dev (g + 2) + dget R.GROWTH_RING_SPAN s.dev) s.dev.now) ∧
      SameEntriesBut [(R.SLOT_STATE k).key] s.dev d ∧ ChangesOnly [.now, .time, .dict, .ctx] s.dev d := by
  have hover := only_ringOver g s.dev
  refine ⟨_, run_ok (decide_eq_true hk), ?_⟩
  rw [slotDrained_frees hg ht he]
  refine ⟨dget_dset_same _ _ _, fun j => ?_, ringOver_now g s.dev, ?_, hover.then (only_slotFreed _ _) (by decide) (by decide)⟩
  · rw [drain_slotFreed, hover .ctx (by decide)]
  · exact (seb_dict (hover .dict (by decide))).trans (seb_slotFreed _ _)

theorem completes_saveImageWritten {p : Nat} {h : Save} {s : State} (h2 : dget R.PAUSE_STATE s.dev = 2) (h0 : dget R.RESTART_STATE s.dev = 0)
    (hp : p = dget R.PAUSE_FRAME s.dev) (ht : running s.dev = true → p + 2 < s.dev.grid.nextT) (hs : s.dev.ctx.save = some h) :
    Completes (exec .saveImageWritten s) s fun d =>
      dget R.PAUSE_STATE d = 3 ∧ d.freeCtr = s.dev.freeCtr + 4 ∧
      (∃ regs, d.ctx.save = some (saveMons s.dev
        { h with sregs := regs, chans := s.dev.chans, edges := s.dev.edges.map (fun e => (e.1, edgeBefore s.dev p e.2)), pats := s.dev.trig.pats })) ∧
      SameEntriesBut [R.PAUSE_STATE.key, R.SAVE_DIGEST.key] s.dev d ∧ ChangesOnly [.now, .time, .dict, .ctx, .freeCtr] s.dev d := by
  obtain ⟨digest, hsaved⟩ := saveImageWritten_saves h2 h0 hp ht
  have hdue := only_imageDue p s.dev
  refine ⟨_, run_ok rfl, ?_⟩
  rw [hsaved, imageHeader_imageDue p hs]
  refine ⟨?_, congrArg (· + 4) (hdue .freeCtr (by decide)), ⟨_, congrArg some (imageOf_imageDue p h s.dev)⟩, ?_, ?_⟩
  · rw [dget_dset_ne _ _ (by decide), dget_dset_same]
  · have hkept : SameEntriesBut [R.PAUSE_STATE.key, R.SAVE_DIGEST.key] s.dev (imageKept p h (imageDue p s.dev)) := seb_dict (hdue .dict (by decide))
    exact hkept.trans ((seb_dset (by simp) _ _).trans (seb_dset (by simp) _ _))
  · have hset := (only_dset R.PAUSE_STATE 3 (imageKept p h (imageDue p s.dev))).trans (only_dset R.SAVE_DIGEST digest _)
    exact (hdue.mono (by decide)).trans (((only_imageKept p h _).mono (by decide)).trans (hset.mono (by decide)))

theorem completes_auditTimeout {r i : Nat} {e : Rec} {s : State} (hr : r = 1 ∨ r = 2 ∨ r = 4) (hi : (ringOf s.dev r).queue[i]? = some e)
    (he : awaitsDigest e = true) (hb : ∀ x ∈ (ringOf s.dev r).queue.take i, x.audit = false) :
    Completes (exec (.auditTimeout r) s) s fun d =>
      (ringOf d r).queue = (ringOf s.dev r).queue.set i (digestZeroed e) ∧ (∀ q, q ≠ r → ringOf d q = ringOf s.dev q) ∧
      dget R.AUDIT_SKIPPED d = satAdd32 (dget R.AUDIT_SKIPPED s.dev) 1 ∧
      SameEntriesBut [R.AUDIT_SKIPPED.key] s.dev d ∧ ChangesOnly [.dict, .host] s.dev d := by
  refine ⟨_, run_ok (decide_eq_true hr), ?_⟩
  rw [auditTimeout_zeroes hi he hb]
  refine ⟨?_, fun q hq => ?_, dget_bump_same _ _, ?_, (only_setRing _ _ _).then (only_bump _ _) (by decide) (by decide)⟩
  · rw [ringOf_bump, ringOf_setRing_same]
  · rw [ringOf_bump, ringOf_setRing_ne _ _ hq.symm]
  · exact (seb_dict rfl).trans (seb_bump List.mem_cons_self _)

/-- Settles O26: a client's switch, pause or resume is the operation that its row comes to (`WriteIs`), on the frame that it names
(`frameFor_meets`); the device's own commands are each what their equation says. -/
theorem contextsAndPause : Obligations.ContextsAndPause := by
  refine ⟨?switch, ?switchRefused, ?follower, fun k g s hk hg ht he => completes_slotDrained hk hg ht he, ?notDraining, ?fallback,
    ?fallbackRefused, fun c f s ha hf hr hmeets h0 => completes_pause ha hf hr hmeets h0, ?pauseRefused, ?resume, ?resumeRefused,
    fun p h s h2 h0 hp ht hs => completes_saveImageWritten h2 h0 hp ht hs, ?notSaving, ?restore, ?notRestoring, ?audit⟩
  case switch =>
    intro c k f s ha hk hf hfollows hforwards hr hmeets hnext hloaded
    have hswitch : SwitchMeets c k f s.dev := ⟨ha, hk, hf, hfollows, hforwards, hr, hmeets, hnext, hloaded⟩
    exact ⟨hswitch.completes, hswitch.completes_unsent⟩
  case switchRefused =>
    intro c k f s ha hk hf hfollows h
    refine completes_contextSwitch_refused ha hk hf hfollows ?_
    rcases h with harmed | hending | hloaded | hpast
    · exact .inl (frameFor_switchNext_asked (.inl harmed))
    · exact .inl (frameFor_switchNext_asked (.inr (.inl hending)))
    · exact .inr hloaded
    · exact .inl (frameFor_switchNext_asked (.inr (.inr hpast)))
  case follower =>
    intro c k f s ha hk hf hfollows
    exact (writeIs_contextSwitch ha hk hf).completes_refused ha (exec_contextSwitch ha.1 hf hk) (by decide) (by decide)
      (switchCmd_follows (by rwa [follows_asked]))
  case notDraining =>
    intro k s hk hg
    exact (run_ok (decide_eq_true hk)).trans (by rw [slotDrained_idle hg])
  case fallback =>
    intro c v s ha hv hloaded
    exact (writeIs_fallbackEnable ha hv).completes ha (exec_fallbackEnable ha.1 (by omega))
      (fallbackEnable_admitted (by rwa [switchable_asked]))
      ⟨dget_dset_same _ _ _, (seb_asked _ c s.dev).trans (seb_dset List.mem_cons_self _ _), only_dset _ _ _⟩
  case fallbackRefused =>
    intro c s ha hloaded
    exact (writeIs_fallbackEnable ha (by decide)).completes_refused ha (exec_fallbackEnable ha.1 (by decide)) (by decide) (by decide)
      (fallbackEnable_refused (by rwa [switchable_asked]))
  case pauseRefused =>
    intro c f s ha hf h
    exact (writeIs_pauseCommand ha (by decide) (by decide) hf).completes_refused ha (exec_pause ha.1 hf) (by decide) (by decide)
      (pause_refused (by rwa [armed_asked, dget_asked]))
  case resume =>
    intro c f s ha hf hr hmeets h3 hp hq
    refine ⟨fun hi => ?_, fun hi => ?_, ?_⟩
    · exact completes_resume (restore := true) ha hf (exec_resume ha.1 hf) hr hmeets h3 hp hq fun _ => hi
    · exact completes_resume_refused (restore := true) ha hf (exec_resume ha.1 hf) (.inr (.inr (.inr ⟨rfl, hi⟩)))
    · exact completes_resume (restore := false) ha hf (exec_resumeNoRestore ha.1 hf) hr hmeets h3 hp hq nofun
  case resumeRefused =>
    intro c f s ha hf h
    have hbarred (restore : Bool) : dget R.PAUSE_STATE s.dev ≠ 3 ∨ dget R.POWER_STATE s.dev ≠ 0 ∨ preparing s.dev = true ∨
        (restore = true ∧ imageFits s.dev = false) := h.imp_right (·.imp_right .inl)
    exact ⟨completes_resume_refused (restore := true) ha hf (exec_resume ha.1 hf) (hbarred true),
      completes_resume_refused (restore := false) ha hf (exec_resumeNoRestore ha.1 hf) (hbarred false)⟩
  case notSaving =>
    intro s h2
    exact (run_ok rfl : execSaveImageWritten s = _).trans (by rw [saveImageWritten_idle h2])
  case restore =>
    intro s h4 h0
    refine ⟨_, run_ok rfl, ?_⟩
    rw [restoreDone_waits h4 h0]
    exact ⟨dget_dset_same _ _ _, seb_dset List.mem_cons_self _ _, only_dset _ _ _⟩
  case notRestoring =>
    intro s h4
    exact (run_ok rfl : execRestoreDone s = _).trans (by rw [restoreDone_idle h4])
  case audit =>
    intro r i e s hr hi haudit hkind hb
    exact completes_auditTimeout hr hi (by simp [awaitsDigest, haudit, hkind]) hb

end Sys2Proof.Machine
end

section
/-! SUPPORT. Flits on a joined link (R406, R408), barrier messages and SYNC (R259 to R261, R418). -/

namespace Sys2Proof.Machine

/-! ### What only links take part in -/

/-- Block b is a but for its links. -/
def LinksMove (a b : Dev) : Prop := ∃ l, b = { a with lnk := { a.lnk with links := l } }

theorem LinksMove.refl (a : Dev) : LinksMove a a := ⟨_, rfl⟩

theorem LinksMove.trans {a b c : Dev} (h : LinksMove a b) (g : LinksMove b c) : LinksMove a c := by
  obtain ⟨_, rfl⟩ := h
  obtain ⟨l, rfl⟩ := g
  exact ⟨l, rfl⟩

theorem LinksMove.ite {p : Prop} [Decidable p] {a b c : Dev} (h : LinksMove a b) (g : LinksMove a c) : LinksMove a (if p then b else c) := by
  split <;> assumption

theorem LinksMove.foldl {f : Dev → Nat → Dev} (h : ∀ d x, LinksMove d (f d x)) (l : List Nat) (d : Dev) : LinksMove d (l.foldl f d) := by
  induction l generalizing d with
  | nil => exact LinksMove.refl d
  | cons x l ih => exact (h d x).trans (ih _)

theorem LinksMove.only {a b : Dev} (h : LinksMove a b) : ChangesOnly [.lnk] a b := by
  obtain ⟨_, rfl⟩ := h
  exact only_lnk _ a

theorem LinksMove.dict {a b : Dev} (h : LinksMove a b) : b.dict = a.dict := h.only .dict (by decide)

theorem LinksMove.now {a b : Dev} (h : LinksMove a b) : b.now = a.now := h.only .now (by decide)

theorem LinksMove.waiting {a b : Dev} (h : LinksMove a b) : b.lnk.waiting = a.lnk.waiting := by
  obtain ⟨_, rfl⟩ := h
  rfl

theorem LinksMove.barEdge {a b : Dev} (h : LinksMove a b) : b.lnk.barEdge = a.lnk.barEdge := by
  obtain ⟨_, rfl⟩ := h
  rfl

/-! ### A flit arrives (R406, R408) -/

/-- The block after its link p has noted flit q (log entry 166). -/
def noteFlit (p q : Nat) (d : Dev) : Dev := noteGot p q (modLink p (fun x => { x with failed := tset none x.failed q none }) d)

theorem linksMove_noteFlit (p q : Nat) (d : Dev) : LinksMove d (noteFlit p q d) := ⟨_, rfl⟩

theorem linkOf_noteFlit (p q : Nat) (d : Dev) : linkOf (noteFlit p q d) p = AfterFlit q d.now (linkOf d p) := by
  unfold noteFlit noteGot AfterFlit
  simp only [linkOf_modLink_same, modLink_now]
  split <;> rfl

theorem flitNoted_noteFlit (p q : Nat) (d : Dev) : FlitNoted p q d.now d (noteFlit p q d) :=
  ⟨linkOf_noteFlit p q d, fun _ hk => (linkOf_modLink_ne _ _ hk.symm).trans (linkOf_modLink_ne _ _ hk.symm)⟩

theorem lat_noteFlit (p q : Nat) (d : Dev) : (linkOf (noteFlit p q d) p).lat = (linkOf d p).lat := by rw [linkOf_noteFlit]; rfl

theorem recv_arrives {p q : Nat} {d : Dev} (h : Arrives p q d) (f : Dev → Dev) : recv p q f d = f (noteFlit p q d) := by
  obtain ⟨hjoined, hfailed, hgot⟩ := h
  unfold recv noteFlit
  simp only [hjoined, hfailed, hgot]
  rfl

theorem recv_notJoined {p : Nat} {d : Dev} (h : linkState d p ≠ 2) (q : Nat) (f : Dev → Dev) : recv p q f d = d := if_pos h

/-- A flit that has not been acted on within the life of its LINK_SEQ has not been later on. -/
theorem gotBefore_false_mono {x : Link} {q t u : Nat} (h : gotBefore x q t = false) (hu : t ≤ u) : gotBefore x q u = false := by
  unfold gotBefore at h ⊢
  split at h
  · rfl
  · simp only [decide_eq_false_iff_not] at h ⊢
    omega

theorem arrives_advTo {p q : Nat} {d : Dev} (h : Arrives p q d) (t : Nat) : Arrives p q (advTo t d) := by
  obtain ⟨hjoined, hfailed, hgot⟩ := h
  exact ⟨hjoined, hfailed, gotBefore_false_mono hgot (le_max_right _ _)⟩

/-! ### A flit leaves (R408, R426) -/

theorem linksMove_sendFlit (p ty : Nat) (ws : List Nat) (d : Dev) : LinksMove d (sendFlit p ty ws d) := by
  unfold sendFlit
  exact LinksMove.ite ⟨_, rfl⟩ (LinksMove.refl _)

theorem linkOf_sendFlit_ne {p k : Nat} (h : k ≠ p) (ty : Nat) (ws : List Nat) (d : Dev) : linkOf (sendFlit p ty ws d) k = linkOf d k := by
  unfold sendFlit
  dsimp only
  split
  · exact linkOf_setLink_ne _ _ h.symm
  · rfl

theorem flitSent_of_linkOf {p ty : Nat} {ws : List Nat} {a b c : Dev} (h : FlitSent p ty ws a b) (hl : linkOf c p = linkOf b p) :
    FlitSent p ty ws a c := by
  unfold FlitSent
  rwa [hl]

/-- A flit of another type than HELLO, sent by a block whose link and entries are those of block a. -/
theorem flitSent_sendFlit {p ty : Nat} {a b : Dev} (hty : ty ≠ 2) (hl : linkOf b p = linkOf a p) (hd : b.dict = a.dict) (ws : List Nat) :
    FlitSent p ty ws a (sendFlit p ty ws b) := by
  have hdget (r : Reg) : dget r b = dget r a := seb_dict (ks := []) hd r (by simp)
  unfold FlitSent sendFlit linkState
  rw [hdget, hdget]
  refine ⟨fun hjoined hpower => ?_, fun hbarred => ?_⟩
  · rw [if_pos ⟨.inl hjoined, hpower⟩, linkOf_setLink_same, hl]
    exact ⟨rfl, rfl⟩
  · rw [if_neg (by rintro ⟨hup, hpower⟩; omega), hl]

/-! ### A barrier message goes on (R259) -/

/-- A barrier message leaves on port p, unless it is the one left out. -/
def sendBut (but : Nat) (ws : List Nat) (d : Dev) (p : Nat) : Dev := if p = but then d else sendFlit p 4 ws d

theorem sendBarrier_eq (but kind half pos size k path : Nat) (d : Dev) :
    sendBarrier but kind half pos size k path d = [0, 1, 2].foldl (sendBut but [kind, half, pos, size, k, path]) d := rfl

theorem linksMove_sendBut (but : Nat) (ws : List Nat) (d : Dev) (p : Nat) : LinksMove d (sendBut but ws d p) :=
  (LinksMove.refl d).ite (linksMove_sendFlit p 4 ws d)

theorem linksMove_sendBarrier (but kind half pos size k path : Nat) (d : Dev) : LinksMove d (sendBarrier but kind half pos size k path d) :=
  LinksMove.foldl (linksMove_sendBut but _) _ d

theorem linkOf_sendBut {but p j : Nat} (h : j ≠ p ∨ j = but) (ws : List Nat) (d : Dev) : linkOf (sendBut but ws d p) j = linkOf d j := by
  unfold sendBut
  split
  · rfl
  · exact linkOf_sendFlit_ne (by omega) _ _ _

/-- A link that no message of the run is sent on stays as it is. -/
theorem linkOf_foldl_sendBut {but j : Nat} {l : List Nat} (h : j ∉ l ∨ j = but) (ws : List Nat) (d : Dev) :
    linkOf (l.foldl (sendBut but ws) d) j = linkOf d j := by
  induction l generalizing d with
  | nil => rfl
  | cons p l ih =>
    have hp : j ≠ p ∨ j = but := h.imp_left fun hj => List.ne_of_not_mem_cons hj
    exact (ih (h.imp_left fun hj => List.not_mem_of_not_mem_cons hj) _).trans (linkOf_sendBut hp ws d)

theorem flitSent_foldl_sendBut {but j : Nat} {l : List Nat} {a d : Dev} (hl : l.Nodup) (hj : j ∈ l) (hbut : j ≠ but)
    (hlink : linkOf d j = linkOf a j) (hdict : d.dict = a.dict) (ws : List Nat) : FlitSent j 4 ws a (l.foldl (sendBut but ws) d) := by
  induction l generalizing d with
  | nil => exact absurd hj List.not_mem_nil
  | cons p l ih =>
    obtain ⟨hp, hl⟩ := List.nodup_cons.1 hl
    obtain rfl | hj := List.mem_cons.1 hj
    · have hsent : FlitSent j 4 ws a (sendBut but ws d j) := by
        rw [sendBut, if_neg hbut]
        exact flitSent_sendFlit (by decide) hlink hdict ws
      exact flitSent_of_linkOf hsent (linkOf_foldl_sendBut (.inl hp) ws _)
    · have hne : j ≠ p := fun e => hp (e ▸ hj)
      exact ih hl hj ((linkOf_sendBut (.inl hne) ws d).trans hlink) ((linksMove_sendBut but ws d p).dict.trans hdict)

theorem linkOf_sendBarrier_but (but kind half pos size k path : Nat) (d : Dev) :
    linkOf (sendBarrier but kind half pos size k path d) but = linkOf d but := linkOf_foldl_sendBut (.inr rfl) _ d

theorem flitSent_sendBarrier {but j : Nat} {a d : Dev} (hj : j < 3) (hbut : j ≠ but) (hlink : linkOf d j = linkOf a j) (hdict : d.dict = a.dict)
    (kind half pos size k path : Nat) :
    FlitSent j 4 [kind, half, pos, size, k, path] a (sendBarrier but kind half pos size k path d) :=
  flitSent_foldl_sendBut (by decide) (by simp; omega) hbut hlink hdict _

/-! ### BARRIER (R259, R418) -/

/-- Whose ring a message that comes on port p speaks of: 0 the device's own, 1 the partner's. -/
def ringHalf (p half : Nat) : Nat := if p = 2 then 1 - half % 2 else half % 2

/-- What a WAITING leaves in the list of the members known to wait. -/
def waitMarks (h role pos size : Nat) : List Nat := (if h = 1 then [32 * h + pos, 1000 + size] else [32 * h + pos]) ++ roleMark h role

section Message

variable {p q half pos size k path t : Nat} {s : State}

theorem waits_congr {a b : Dev} (hw : b.lnk.waiting = a.lnk.waiting) (hn : b.now = a.now)
    (ht : dget R.BARRIER_TIMEOUT b = dget R.BARRIER_TIMEOUT a) : waits b = waits a := by
  unfold waits
  rw [hw, hn, ht]

theorem waits_noteFlit (t p q : Nat) (d : Dev) : waits (advTo t (noteFlit p q d)) = waits (advTo t d) := waits_congr rfl rfl rfl

theorem barrier_waiting_new {d : Dev} (h : (waits (advTo t d)).contains (32 * ringHalf p half + pos) = false) :
    barrier p 0 half pos size k path t d =
      sendBarrier p 0 (ringHalf p half + 2 * (half / 2)) pos size k (path + (linkOf d p).lat)
        (addWaits (waitMarks (ringHalf p half) (half / 2) pos size) (advTo t d)) := by
  unfold barrier
  dsimp only
  rw [if_pos rfl, if_neg (by exact h ▸ Bool.false_ne_true)]
  rfl

theorem barrier_waiting_known {d : Dev} (h : (waits (advTo t d)).contains (32 * ringHalf p half + pos) = true) :
    barrier p 0 half pos size k path t d = advTo t d := by
  unfold barrier
  dsimp only
  rw [if_pos rfl]
  exact if_pos h

theorem barrier_leader {d : Dev} (hw : dget R.BARRIER_STATE d = 1) (he : d.lnk.barEdge = none) :
    barrier p 1 half pos size k path t d =
      sendBarrier p 1 (ringHalf p half + 2 * (half / 2)) pos size k (path + (linkOf d p).lat)
        (barrierEdge k (path + (linkOf d p).lat) t (advTo t d)) := by
  unfold barrier
  dsimp only
  rw [if_neg (by decide)]
  exact if_pos ⟨hw, he⟩

theorem barrier_leader_unawaited {d : Dev} (h : dget R.BARRIER_STATE d ≠ 1 ∨ d.lnk.barEdge.isSome = true) :
    barrier p 1 half pos size k path t d = advTo t d := by
  unfold barrier
  dsimp only
  rw [if_neg (by decide)]
  refine if_neg fun ⟨hw, he⟩ => h.elim (absurd hw) fun hsome => ?_
  rw [show d.lnk.barEdge = none from he] at hsome
  exact absurd hsome (by decide)

theorem exec_barrier {kind : Nat} (hp : p < 3) (hq : q < 4096) (hkind : kind < 2) (hhalf : half < 6) (hpos : pos < 32) (hsize : size ≤ 32)
    (hk : k < 65536) : exec (.barrier p q kind half pos size k path t) s =
      .next { s with dev := recv p q (barrier p kind half pos size k path t) s.dev } :=
  run_ok (decide_eq_true ⟨hp, hq, hkind, hhalf, hpos, hsize, hk⟩)

/-- A message that changes nothing but the time, beside its link's note. -/
theorem only_advTo_noteFlit (t p q : Nat) (d : Dev) : ChangesOnly [.now, .time, .lnk] d (advTo t (noteFlit p q d)) :=
  (linksMove_noteFlit p q d).only.then (only_advTo t _) (by decide) (by decide)

/-- What the message that goes on comes to: block e sends it, whose links are as the one that came has left them. -/
theorem goesOn_sendBarrier {d e : Dev} (hsender : ChangesOnly [.now, .time, .lnk] d e) (hlink : ∀ j, linkOf e j = linkOf (noteFlit p q d) j)
    (kind h pos size k path : Nat) :
    (∀ j, j < 3 → j ≠ p → FlitSent j 4 [kind, h, pos, size, k, path] d (sendBarrier p kind h pos size k path e)) ∧
    linkOf (sendBarrier p kind h pos size k path e) p = AfterFlit q d.now (linkOf d p) ∧
    SameEntriesBut [] d (sendBarrier p kind h pos size k path e) ∧
    ChangesOnly [.now, .time, .lnk] d (sendBarrier p kind h pos size k path e) := by
  have hdict : e.dict = d.dict := hsender .dict (by decide)
  have hframe := hsender.trans ((linksMove_sendBarrier p kind h pos size k path e).only.mono (by decide))
  obtain ⟨hnoted, hothers⟩ := flitNoted_noteFlit p q d
  refine ⟨fun j hj hjp => ?_, ?_, seb_dict (hframe .dict (by decide)), hframe⟩
  · exact flitSent_sendBarrier hj hjp ((hlink j).trans (hothers j hjp)) hdict kind h pos size k path
  · exact (linkOf_sendBarrier_but _ _ _ _ _ _ _ e).trans ((hlink p).trans hnoted)

theorem waiting_addWaits_noteFlit (l : List Nat) (t p q : Nat) (d : Dev) : (addWaits l (advTo t (noteFlit p q d))).lnk.waiting =
    l.map (fun m => (m, max t d.now)) ++ d.lnk.waiting.filter (fun w => (waits (advTo t d)).contains w.1 && !l.contains w.1) := by
  rw [← waits_noteFlit t p q d]
  rfl

theorem linkOf_addWaits (k : Nat) (l : List Nat) (d : Dev) : linkOf (addWaits l d) k = linkOf d k := rfl

theorem only_addWaits (l : List Nat) (d : Dev) : ChangesOnly [.lnk] d (addWaits l d) := only_lnk _ d

end Message

/-! The arming edge that the leader's message names (R260). -/

theorem barEdge_barrierEdge {k path t l per : Nat} {d : Dev} (hl : d.pll.lastEdge = some l)
    (hper : per = max (sysrefPeriod d (dget R.CLOCK_REF_PORT d)) 1) : (barrierEdge k path t d).lnk.barEdge =
      some ((l : Int) + rneDiv ((t : Int) - ((path / 16 : Nat) : Int) - l) per * per + (k * per : Nat)).toNat := by
  subst hper
  unfold barrierEdge
  simp only [hl]

theorem barrierEdge_of_noEdge {d : Dev} (h : d.pll.lastEdge = none) (k path t : Nat) : barrierEdge k path t d = d := by
  unfold barrierEdge
  simp only [h]

theorem only_barrierEdge (k path t : Nat) (d : Dev) : ChangesOnly [.lnk] d (barrierEdge k path t d) := by
  unfold barrierEdge
  dsimp only
  split
  · exact ChangesOnly.refl _ _
  · exact only_lnk _ d

theorem linkOf_barrierEdge (j k path t : Nat) (d : Dev) : linkOf (barrierEdge k path t d) j = linkOf d j := by
  unfold barrierEdge
  dsimp only
  split <;> rfl

theorem waiting_barrierEdge (k path t : Nat) (d : Dev) : (barrierEdge k path t d).lnk.waiting = d.lnk.waiting := by
  unfold barrierEdge
  dsimp only
  split <;> rfl

/-! ### SYNC (R261) -/

/-- How far, in ac, the neighbour's t0 of frame n lies from the device's own, by a flit that came on port p at ac `at16` / 16. -/
def skewOf (p n at16 : Nat) (d : Dev) : Int := rneDiv ((at16 : Int) - (linkOf d p).lat - (16 * t0At d n : Nat)) 16

/-- BARRIER_SKEW_MAX follows a skew. -/
def skewShown (off : Int) (d : Dev) : Dev :=
  if dget R.BARRIER_SKEW_MAX d < min off.natAbs 255 then dset R.BARRIER_SKEW_MAX (min off.natAbs 255) d else d

theorem dget_skewShown (off : Int) (d : Dev) :
    dget R.BARRIER_SKEW_MAX (skewShown off d) = max (dget R.BARRIER_SKEW_MAX d) (min off.natAbs 255) := by
  unfold skewShown
  split
  case isTrue h => rw [dget_dset_same, max_eq_right h.le]
  case isFalse h => rw [max_eq_left (Nat.le_of_not_lt h)]

theorem seb_skewShown (off : Int) (d : Dev) : SameEntriesBut [R.BARRIER_SKEW_MAX.key] d (skewShown off d) :=
  seb_ite (seb_dset List.mem_cons_self _ _) (seb_refl _ _)

theorem only_skewShown (off : Int) (d : Dev) : ChangesOnly [.dict] d (skewShown off d) := (only_dset _ _ _).ite (ChangesOnly.refl _ _)

theorem syncActs {p : Nat} {d : Dev} (hr : running d = true) (hp : p < 2) : ¬ (running d = false ∨ p = 2) := by
  rintro (h | h)
  · exact absurd (hr.symm.trans h) (by decide)
  · omega

theorem syncFlit_near {p n at16 : Nat} {d : Dev} (hr : running d = true) (hp : p < 2) (h : (skewOf p n at16 d).natAbs ≤ 3) :
    syncFlit p n at16 d = skewShown (skewOf p n at16 d) d := by
  unfold syncFlit
  rw [if_neg (syncActs hr hp)]
  exact if_neg (Nat.not_lt.2 h)

theorem syncFlit_far {p n at16 : Nat} {d : Dev} (hr : running d = true) (hp : p < 2) (h : 3 < (skewOf p n at16 d).natAbs) :
    ∃ a0 a1, syncFlit p n at16 d = reportLim acPerS 0 0x0442 a0 a1 (bump R.BARRIER_SKEW_EVENTS (skewShown (skewOf p n at16 d) d)) := by
  unfold syncFlit
  rw [if_neg (syncActs hr hp)]
  exact ⟨_, _, if_pos h⟩

theorem syncFlit_idle {p : Nat} {d : Dev} (h : running d = false ∨ p = 2) (n at16 : Nat) : syncFlit p n at16 d = d := if_pos h

section Running

variable {p n at16 : Nat} {d : Dev}

theorem skewMax_syncFlit (hr : running d = true) (hp : p < 2) :
    dget R.BARRIER_SKEW_MAX (syncFlit p n at16 d) = max (dget R.BARRIER_SKEW_MAX d) (min (skewOf p n at16 d).natAbs 255) := by
  obtain hnear | hfar := le_or_gt (skewOf p n at16 d).natAbs 3
  · rw [syncFlit_near hr hp hnear, dget_skewShown]
  · obtain ⟨a0, a1, heq⟩ := syncFlit_far hr hp hfar
    rw [heq, dget_reportLim (by decide) _ _ _ _ _ _ (by decide), dget_bump_ne _ (by decide), dget_skewShown]

theorem skewEvent_syncFlit (hr : running d = true) (hp : p < 2) (hfar : 3 < (skewOf p n at16 d).natAbs) :
    dget R.BARRIER_SKEW_EVENTS (syncFlit p n at16 d) = satAdd32 (dget R.BARRIER_SKEW_EVENTS d) 1 ∧ LastFault 0x0442 (syncFlit p n at16 d) := by
  obtain ⟨a0, a1, heq⟩ := syncFlit_far hr hp hfar
  rw [heq]
  refine ⟨?_, fun hu => lastCode_reportLim (by decide) _ _ _ _ _ ((reportLim_undef _ _ _ _ _ (by decide)).symm.trans hu)⟩
  rw [dget_reportLim (by decide) _ _ _ _ _ _ (by decide), dget_bump_same, seb_skewShown _ _ _ (by decide)]

theorem seb_syncFlit_near (hr : running d = true) (hp : p < 2) (hnear : (skewOf p n at16 d).natAbs ≤ 3) :
    SameEntriesBut [R.BARRIER_SKEW_MAX.key] d (syncFlit p n at16 d) := by
  rw [syncFlit_near hr hp hnear]
  exact seb_skewShown _ d

theorem syncFlit_frame (hr : running d = true) (hp : p < 2) :
    SameEntriesBut (R.BARRIER_SKEW_MAX.key :: R.BARRIER_SKEW_EVENTS.key :: reportKeys) d (syncFlit p n at16 d) ∧
    ChangesOnly [.dict, .host, .flt] d (syncFlit p n at16 d) := by
  have hshown := seb_skewShown (skewOf p n at16 d) d
  obtain hnear | hfar := le_or_gt (skewOf p n at16 d).natAbs 3
  · rw [syncFlit_near hr hp hnear]
    exact ⟨hshown.mono (by decide), (only_skewShown _ d).mono (by decide)⟩
  · obtain ⟨a0, a1, heq⟩ := syncFlit_far hr hp hfar
    rw [heq]
    exact ⟨(hshown.mono (by decide)).trans ((seb_bump (by decide) _).trans ((seb_reportLim (by decide) _ _ _ _ _).mono (by decide))),
      ((only_skewShown _ d).mono (by decide)).trans (((only_bump _ _).mono (by decide)).trans (only_reportLim (by decide) _ _ _ _ _))⟩

end Running

theorem exec_sync {p q n at16 : Nat} {s : State} (hp : p < 3) (hq : q < 4096) (hn : n < 2 ^ 64) :
    exec (.sync p q n at16) s = .next { s with
      dev := recv p q (syncFlit p n at16) (if linkState s.dev p = 2 then advTo (at16 / 16) s.dev else s.dev) } :=
  (run_ok (decide_eq_true ⟨hp, hq, hn⟩) : execSync p q n at16 s = _)

/-- The block as a SYNC flit that arrives finds it. -/
def syncNoted (p q at16 : Nat) (d : Dev) : Dev := noteFlit p q (advTo (at16 / 16) d)

theorem exec_sync_arrives {p q n at16 : Nat} {s : State} (hp : p < 3) (hq : q < 4096) (hn : n < 2 ^ 64) (ha : Arrives p q s.dev) :
    exec (.sync p q n at16) s = .next { s with dev := syncFlit p n at16 (syncNoted p q at16 s.dev) } := by
  rw [exec_sync hp hq hn, if_pos ha.1, recv_arrives (arrives_advTo ha _)]
  rfl

theorem flitNoted_syncNoted (p q at16 : Nat) (d : Dev) : FlitNoted p q (max (at16 / 16) d.now) d (syncNoted p q at16 d) :=
  flitNoted_noteFlit p q (advTo (at16 / 16) d)

theorem only_syncNoted (p q at16 : Nat) (d : Dev) : ChangesOnly [.now, .time, .lnk] d (syncNoted p q at16 d) :=
  (only_advTo _ d).then (linksMove_noteFlit p q _).only (by decide) (by decide)

theorem seb_syncNoted (ks : List Nat) (p q at16 : Nat) (d : Dev) : SameEntriesBut ks d (syncNoted p q at16 d) :=
  seb_dict (only_syncNoted p q at16 d .dict (by decide))

theorem skewOf_syncNoted (p q n at16 : Nat) (d : Dev) : skewOf p n at16 (syncNoted p q at16 d) = skewOf p n at16 d := by
  unfold skewOf
  rw [show (linkOf (syncNoted p q at16 d) p).lat = (linkOf d p).lat from lat_noteFlit p q _]
  rfl

theorem flitNoted_of_lnk {p q now : Nat} {a b c : Dev} (h : FlitNoted p q now a b) (hl : c.lnk = b.lnk) : FlitNoted p q now a c := by
  unfold FlitNoted linkOf at h ⊢
  rwa [hl]

end Sys2Proof.Machine
end

section
/-! SUPPORT. The end of an arming whose barrier does not complete in time (R496, R497). -/

namespace Sys2Proof.Machine

/-! ### What an arming that ends leaves -/

/-- The numbers of `updateKeys`: those of the whole block, LIVE_WEIGHT_DIGEST of the four slots, CLIP_SHARE of the 4,096 monitors. -/
theorem notMem_updateKeys {n : Nat} (hblock : n ∉ updateKeysOfBlock) (hlive : n < 0x306101 ∨ 0x306104 < n)
    (hshare : n < 0x384001 ∨ 0x385F80 < n) : n ∉ updateKeys := by
  simp only [updateKeys, List.mem_append, List.mem_map, List.mem_range, not_or, not_exists, not_and]
  refine ⟨⟨hblock, fun k hk => ?_⟩, fun m hm => ?_⟩
  · simp only [R.LIVE_WEIGHT_DIGEST]; omega
  · simp only [R.CLIP_SHARE]; omega

theorem only_encAtStop (d : Dev) : ChangesOnly stopParts d (encAtStop d) := (stopKeeps_encApply 0 d).2.ite (ChangesOnly.refl _ _)

/-- With the monitors in range, a committed update and the summary entries are all that an arming's end writes after `armDropped`. -/
theorem dget_armEnds {r : Reg} {d : Dev} (hm : MonsInRange d) (hupdate : r.key ∉ updateKeys) (hsummary : r.key ∉ presenceKeys ++ summaryKeys) :
    dget r (armEnds d) = dget r (armDropped d) := by
  have henc : (armDropped d).enc = d.enc := only_armDropped d .enc (by decide)
  have hrange : MonsInRange (armDropped d) := fun x hx => hm x (henc ▸ hx)
  rw [armEnds_eq]
  exact (seb_showAll _ r hsummary).trans ((updateKeeps_encAtStop _ hrange).1 r hupdate)

/-- The parts that the end of an arming may change after the device has ceased to wait. -/
def armEndParts : List Part := [.dict, .host, .flt, .enc, .sec, .cores]

theorem only_armEnds (d : Dev) : ChangesOnly armEndParts (dropWait d) (armEnds d) := by
  rw [armEnds_eq]
  refine ChangesOnly.trans ?_ (((only_encAtStop _).mono (by decide)).trans ((only_showAll _).mono (by decide)))
  exact ((only_dropSwitch 0 _).mono (by decide)).trans (((only_pauseAtStop _).mono (by decide)).trans
    (((only_dset _ _ _).mono (by decide)).trans ((only_dset _ _ _).mono (by decide))))

theorem seb_dropSwitch (n : Nat) (d : Dev) : SameEntriesBut (R.PENDING_SWITCH.key :: reportKeys) d (dropSwitch n d) := by
  unfold dropSwitch
  split
  · exact (seb_dset List.mem_cons_self _ _).trans ((seb_report (by decide) _ _ _).mono (List.subset_cons_self _ _))
  · exact seb_refl _ _

theorem pendingSwitch_dropSwitch (n : Nat) (d : Dev) : pendingSwitch (dropSwitch n d) = none := by
  cases h : pendingSwitch d with
  | none => rw [dropSwitch, h]; exact h
  | some x =>
    have hzero : dget R.PENDING_SWITCH (dropSwitch n d) = 0 := by
      rw [dropSwitch_eq h, dget_report (by decide) _ _ _ _ (by decide), dget_dset_same]
    unfold pendingSwitch
    rw [hzero]
    rfl

/-! ### BARRIER_TIMEOUT (R496) -/

/-- The block at the end of BARRIER_TIMEOUT, before the arming ends. -/
def overdue (d : Dev) : Dev := dset R.BARRIER_STATE 3 (advTo (d.grid.reqAt + dget R.BARRIER_TIMEOUT d * acPerMs) d)

theorem barrierTimeout_arming {d : Dev} (h : arrayState d = 1) :
    ∃ a0 a1, barrierTimeout d = report 0x0441 a0 a1 (armEnds (overdue d)) := by
  unfold barrierTimeout
  rw [if_neg (not_not.2 h)]
  exact ⟨_, _, rfl⟩

theorem barrierTimeout_notArming {d : Dev} (h : arrayState d ≠ 1) : barrierTimeout d = d := if_pos h

theorem dget_overdue {r : Reg} (h : R.BARRIER_STATE.key ≠ r.key) (d : Dev) : dget r (overdue d) = dget r d :=
  (dget_dset_ne _ _ h).trans (dget_advTo r _ d)

/-- The entries and the time are all that is not as it was. -/
theorem only_overdue (d : Dev) : ChangesOnly [.now, .time, .dict] d (overdue d) :=
  (only_advTo _ d).then (only_dset _ _ _) (by decide) (by decide)

theorem now_overdue (d : Dev) : (overdue d).now = max (d.grid.reqAt + dget R.BARRIER_TIMEOUT d * acPerMs) d.now := rfl

theorem dget_dropWait (r : Reg) (d : Dev) : dget r (dropWait d) = dget r d := rfl

theorem only_barrierTimeout {d : Dev} (h : arrayState d = 1) : ChangesOnly armEndParts (dropWait (overdue d)) (barrierTimeout d) := by
  obtain ⟨a0, a1, heq⟩ := barrierTimeout_arming h
  rw [heq]
  exact (only_armEnds _).trans ((only_report (by decide) _ _ _).mono (by decide))

/-- What a barrier that does not complete in time leaves of the arming, as O39 says it. -/
def ArmingFailed (a d : Dev) : Prop :=
  dget R.ARRAY_STATE d = 0 ∧ dget R.BARRIER_STATE d = 3 ∧ dget (R.SLOT_STATE (dget R.CURRENT_CONTEXT a)) d = 2 ∧ LastFault 0x0441 d ∧
  d.now = max (a.grid.reqAt + dget R.BARRIER_TIMEOUT a * acPerMs) a.now ∧ (∀ p, p < 16 → portOf d p = portOf a p) ∧
  pendingSwitch d = none ∧ d.store = a.store ∧
  d.lnk = { a.lnk with waiting := a.lnk.waiting.filter (fun w => decide (w.1 ≠ dget R.RING_POSITION a)), barEdge := none }

section Overdue

variable {d : Dev}

/-- With the monitors in range, the entries of the arming itself are as the arming's own end leaves them. -/
theorem dget_barrierTimeout {r : Reg} (h : arrayState d = 1) (hm : MonsInRange d) (hupdate : r.key ∉ updateKeys)
    (hother : r.key ∉ presenceKeys ++ summaryKeys ∧ r.key ∉ reportKeys) : dget r (barrierTimeout d) = dget r (armDropped (overdue d)) := by
  obtain ⟨a0, a1, heq⟩ := barrierTimeout_arming h
  have henc : (overdue d).enc = d.enc := only_overdue d .enc (by decide)
  have hrange : MonsInRange (overdue d) := fun x hx => hm x (henc ▸ hx)
  rw [heq, dget_report (by decide) _ _ _ _ hother.2]
  exact dget_armEnds hrange hupdate hother.1

theorem arrayState_barrierTimeout (h : arrayState d = 1) (hm : MonsInRange d) : dget R.ARRAY_STATE (barrierTimeout d) = 0 :=
  (dget_barrierTimeout h hm (notMem_updateKeys (by decide) (by decide) (by decide)) (by decide)).trans (dget_dset_same _ _ _)

theorem slotState_barrierTimeout (h : arrayState d = 1) (hk : dget R.CURRENT_CONTEXT d < 4) (hm : MonsInRange d) :
    dget (R.SLOT_STATE (dget R.CURRENT_CONTEXT d)) (barrierTimeout d) = 2 := by
  have hslot : dget (R.SLOT_STATE (dget R.CURRENT_CONTEXT d)) (armDropped (overdue d)) = 2 := by
    have harray : R.ARRAY_STATE.key ≠ (R.SLOT_STATE (dget R.CURRENT_CONTEXT d)).key := by simp only [R.ARRAY_STATE, R.SLOT_STATE]; omega
    rw [armDropped, dget_dset_ne _ _ harray, dget_overdue (by decide), dget_dset_same]
  have hkeys : ∀ k < 4, (R.SLOT_STATE k).key ∉ updateKeysOfBlock ∧ (R.SLOT_STATE k).key ∉ presenceKeys ++ summaryKeys ∧
      (R.SLOT_STATE k).key ∉ reportKeys := by decide
  obtain ⟨hblock, hother⟩ := hkeys _ hk
  refine (dget_barrierTimeout h hm (notMem_updateKeys hblock ?_ ?_) hother).trans hslot <;> simp only [R.SLOT_STATE] <;> omega

/-- An entry beyond the table of slots, which a dropped pause does not write. -/
theorem dget_armDropped_overdue {r : Reg} (hk : dget R.CURRENT_CONTEXT d < 4) (harray : R.ARRAY_STATE.key ≠ r.key)
    (hslot : r.key < 0x305101 ∨ 0x305104 < r.key) (hpause : r.key ∉ [R.PAUSE_STATE.key]) :
    dget r (armDropped (overdue d)) = dget r (dropSwitch 0 (dropWait (overdue d))) := by
  have hne : (R.SLOT_STATE (dget R.CURRENT_CONTEXT (overdue d))).key ≠ r.key := by
    rw [dget_overdue (by decide)]
    simp only [R.SLOT_STATE]; omega
  exact (dget_dset_ne _ _ harray).trans ((dget_dset_ne _ _ hne).trans (seb_pauseAtStop _ _ hpause))

theorem barrierState_barrierTimeout (h : arrayState d = 1) (hk : dget R.CURRENT_CONTEXT d < 4) (hm : MonsInRange d) :
    dget R.BARRIER_STATE (barrierTimeout d) = 3 := by
  rw [dget_barrierTimeout h hm (notMem_updateKeys (by decide) (by decide) (by decide)) (by decide),
    dget_armDropped_overdue hk (by decide) (by decide) (by decide), seb_dropSwitch 0 _ _ (by decide), dget_dropWait, overdue,
    dget_dset_same]

theorem pendingSwitch_barrierTimeout (h : arrayState d = 1) (hk : dget R.CURRENT_CONTEXT d < 4) (hm : MonsInRange d) :
    pendingSwitch (barrierTimeout d) = none := by
  have hkept : dget R.PENDING_SWITCH (barrierTimeout d) = dget R.PENDING_SWITCH (dropSwitch 0 (dropWait (overdue d))) :=
    (dget_barrierTimeout h hm (notMem_updateKeys (by decide) (by decide) (by decide)) (by decide)).trans
      (dget_armDropped_overdue hk (by decide) (by decide) (by decide))
  exact (pendingSwitch_congr hkept).trans (pendingSwitch_dropSwitch 0 _)

theorem lnk_barrierTimeout (h : arrayState d = 1) : (barrierTimeout d).lnk =
    { d.lnk with waiting := d.lnk.waiting.filter (fun w => decide (w.1 ≠ dget R.RING_POSITION d)), barEdge := none } := by
  have hlnk : (overdue d).lnk = d.lnk := only_overdue d .lnk (by decide)
  rw [only_barrierTimeout h .lnk (by decide), ← dget_overdue (r := R.RING_POSITION) (by decide) d, ← hlnk]
  rfl

/-- What O39 says of BARRIER_TIMEOUT holds while the block's clip monitors are those that the part has. -/
theorem armingFailed_barrierTimeout (h : arrayState d = 1) (hk : dget R.CURRENT_CONTEXT d < 4) (hm : MonsInRange d) :
    ArmingFailed d (barrierTimeout d) := by
  have honly : ChangesOnly (.lnk :: armEndParts) (overdue d) (barrierTimeout d) :=
    (only_dropWait _).then (only_barrierTimeout h) (by decide) (by decide)
  have hframe : ChangesOnly (.now :: .time :: .lnk :: armEndParts) d (barrierTimeout d) :=
    (only_overdue d).then honly (by decide) (by decide)
  have hnow : (barrierTimeout d).now = (overdue d).now := honly .now (by decide)
  have hlast : LastFault 0x0441 (barrierTimeout d) := by
    obtain ⟨a0, a1, heq⟩ := barrierTimeout_arming h
    exact heq ▸ lastFault_report (by decide) _ _ _
  have hports : (barrierTimeout d).ports = d.ports := hframe .ports (by decide)
  exact ⟨arrayState_barrierTimeout h hm, barrierState_barrierTimeout h hk hm, slotState_barrierTimeout h hk hm, hlast,
    hnow.trans (now_overdue d), fun p _ => congrArg (fun x => tget Port.rest x p) hports, pendingSwitch_barrierTimeout h hk hm,
    hframe .store (by decide), lnk_barrierTimeout h⟩

end Overdue

end Sys2Proof.Machine
end

section
/-! SUPPORT. What O39 comes to: its clause on BARRIER_TIMEOUT, which a clip monitor beyond those of R183 refutes. -/

namespace Sys2Proof.Machine

theorem exec_barrierTimeout (s : State) : exec .barrierTimeout s = .next { s with dev := barrierTimeout s.dev } := rfl

/-- What is claimed of a completed BARRIER_TIMEOUT is claimed of `barrierTimeout`. -/
theorem barrierTimeout_of_completes {s : State} {P : Dev → Prop} (h : Completes (exec .barrierTimeout s) s P) : P (barrierTimeout s.dev) := by
  obtain ⟨d, hnext, hP⟩ := h
  rw [exec_barrierTimeout] at hnext
  obtain rfl : barrierTimeout s.dev = d := congrArg State.dev (Host.Outcome.next.inj hnext)
  exact hP

/-- Every clause of O39 but that on BARRIER_TIMEOUT holds. -/
theorem barrierAndSync_iff : Obligations.BarrierAndSync ↔
    ∀ s : State, arrayState s.dev = 1 → dget R.CURRENT_CONTEXT s.dev < 4 → Completes (exec .barrierTimeout s) s (ArmingFailed s.dev) := by
  unfold Obligations.BarrierAndSync
  refine ⟨fun ⟨_, _, _, _, htimeout, _⟩ => htimeout, fun htimeout =>
    ⟨?waiting, ?leader, ?leaderWithoutEdge, ?leaderUnawaited, htimeout, ?timeoutIdle, ?sync, ?syncIdle, ?notJoined⟩⟩
  case waiting =>
    rintro p q half pos size k path t h role s hp hq hhalf rfl hpos hsize hk ha hh
    obtain rfl : h = ringHalf p half := hh
    have hexec := exec_barrier (path := path) (t := t) (s := s) hp hq (kind := 0) (by decide) hhalf hpos hsize hk
    rw [recv_arrives ha] at hexec
    refine ⟨fun l hl hnew => ⟨_, hexec, ?_⟩, fun hknown => ⟨_, hexec, ?_⟩⟩
    · obtain rfl : l = waitMarks (ringHalf p half) (half / 2) pos size := hl
      rw [← waits_noteFlit t p q] at hnew
      rw [barrier_waiting_new hnew, lat_noteFlit]
      have hmove := linksMove_sendBarrier p 0 (ringHalf p half + 2 * (half / 2)) pos size k (path + (linkOf s.dev p).lat)
        (addWaits (waitMarks (ringHalf p half) (half / 2) pos size) (advTo t (noteFlit p q s.dev)))
      exact ⟨hmove.now, Eq.trans hmove.waiting (waiting_addWaits_noteFlit _ t p q s.dev),
        goesOn_sendBarrier ((only_advTo_noteFlit t p q s.dev).trans ((only_addWaits _ _).mono (by decide)))
          (fun j => (linkOf_addWaits j _ _).trans (linkOf_advTo j t _)) _ _ _ _ _ _⟩
    · rw [← waits_noteFlit t p q] at hknown
      rw [barrier_waiting_known hknown]
      exact ⟨rfl, rfl, flitNoted_noteFlit p q s.dev, rfl, seb_dict rfl, only_advTo_noteFlit t p q s.dev⟩
  case leader =>
    intro p q half pos size k path t l per s hp hq hhalf hpos hsize hk ha hw he hl hper
    refine ⟨_, exec_barrier hp hq (by decide) hhalf hpos hsize hk, ?_⟩
    rw [recv_arrives ha, barrier_leader (d := noteFlit p q s.dev) hw he, lat_noteFlit]
    have hmove := linksMove_sendBarrier p 1 (ringHalf p half + 2 * (half / 2)) pos size k (path + (linkOf s.dev p).lat)
      (barrierEdge k (path + (linkOf s.dev p).lat) t (advTo t (noteFlit p q s.dev)))
    have hedge := only_barrierEdge k (path + (linkOf s.dev p).lat) t (advTo t (noteFlit p q s.dev))
    obtain ⟨-, -, hentries, hframe⟩ := goesOn_sendBarrier ((only_advTo_noteFlit t p q s.dev).trans (hedge.mono (by decide)))
      (fun j => (linkOf_barrierEdge j _ _ _ _).trans (linkOf_advTo j t _)) 1 (ringHalf p half + 2 * (half / 2)) pos size k
      (path + (linkOf s.dev p).lat)
    exact ⟨hmove.barEdge.trans (barEdge_barrierEdge hl hper), hmove.waiting.trans (waiting_barrierEdge _ _ _ _),
      hmove.now.trans (hedge .now (by decide)), hentries, hframe⟩
  case leaderWithoutEdge =>
    intro p q half pos size k path t s hp hq hhalf hpos hsize hk ha hw he hl
    refine ⟨_, exec_barrier hp hq (by decide) hhalf hpos hsize hk, ?_⟩
    rw [recv_arrives ha, barrier_leader (d := noteFlit p q s.dev) hw he, barrierEdge_of_noEdge (by exact hl)]
    obtain ⟨-, -, hentries, hframe⟩ := goesOn_sendBarrier (only_advTo_noteFlit t p q s.dev) (fun j => linkOf_advTo j t _) 1
      (ringHalf p half + 2 * (half / 2)) pos size k (path + (linkOf (noteFlit p q s.dev) p).lat)
    exact ⟨(linksMove_sendBarrier _ _ _ _ _ _ _ _).barEdge.trans he, hentries, hframe⟩
  case leaderUnawaited =>
    intro p q half pos size k path t s hp hq hhalf hpos hsize hk ha h
    refine ⟨_, exec_barrier hp hq (by decide) hhalf hpos hsize hk, ?_⟩
    rw [recv_arrives ha, barrier_leader_unawaited (d := noteFlit p q s.dev) h]
    exact ⟨rfl, rfl, flitNoted_noteFlit p q s.dev, seb_dict rfl, only_advTo_noteFlit t p q s.dev⟩
  case timeoutIdle =>
    intro s h
    rw [exec_barrierTimeout, barrierTimeout_notArming h]
  case sync =>
    intro p q n at16 off s hp hq hn ha hr hoff
    refine ⟨_, exec_sync_arrives (by omega) hq hn ha, ?_⟩
    have hrun : running (syncNoted p q at16 s.dev) = true := hr
    have hskew : skewOf p n at16 (syncNoted p q at16 s.dev) = off := (skewOf_syncNoted p q n at16 s.dev).trans hoff.symm
    have hnoted (ks : List Nat) := seb_syncNoted ks p q at16 s.dev
    have hmax := skewMax_syncFlit (n := n) (at16 := at16) hrun hp
    have hevent := skewEvent_syncFlit (n := n) (at16 := at16) hrun hp
    have hnear := seb_syncFlit_near (n := n) (at16 := at16) hrun hp
    obtain ⟨hentries, hframe⟩ := syncFlit_frame (n := n) (at16 := at16) hrun hp
    rw [hskew, hnoted [] _ (by simp)] at hmax hevent
    rw [hskew] at hnear
    exact ⟨hmax, hframe .now (by decide), hevent, fun h => (hnoted _).trans (hnear h), (hnoted _).trans hentries,
      flitNoted_of_lnk (flitNoted_syncNoted p q at16 s.dev) (hframe .lnk (by decide)),
      (only_syncNoted p q at16 s.dev).then hframe (by decide) (by decide)⟩
  case syncIdle =>
    intro p q n at16 s hp hq hn ha h
    refine ⟨_, exec_sync_arrives hp hq hn ha, ?_⟩
    rw [syncFlit_idle (d := syncNoted p q at16 s.dev) h]
    exact ⟨flitNoted_syncNoted p q at16 s.dev, seb_dict rfl, only_syncNoted p q at16 s.dev⟩
  case notJoined =>
    intro p q kind half pos size k path t n s hp hq hkind hhalf hpos hsize hk hn hlink
    rw [exec_barrier hp hq hkind hhalf hpos hsize hk, exec_sync hp hq hn, if_neg hlink, recv_notJoined hlink, recv_notJoined hlink]
    exact ⟨rfl, rfl⟩

/-- What O39 says of BARRIER_TIMEOUT holds while the block's clip monitors are those that the part has. -/
theorem barrierTimeout_ends_arming {s : State} (h : arrayState s.dev = 1) (hk : dget R.CURRENT_CONTEXT s.dev < 4) (hm : MonsInRange s.dev) :
    Completes (exec .barrierTimeout s) s (ArmingFailed s.dev) :=
  ⟨_, exec_barrierTimeout s, armingFailed_barrierTimeout h hk hm⟩

/-! ### The refutation of O39 -/

/-- An arming that waits at the barrier, with an update of slot 0 committed, whose one clip monitor is number 258051: no state that the part
reaches, but one of the state type, over which O39 speaks. -/
def barrierOverdueWithStrayMonitor : State := { State.reset with dev := { Dev.reset with
  dict := [(R.ARRAY_STATE, 1), (R.BARRIER_STATE, 1), (R.ENC_STATE, 3), (R.MONITOR_BASE 0, 258051)].foldl
    (fun t x => tset x.1.dflt t x.1.key x.2) []
  ldr := { Dev.reset.ldr with ctxs := [(0, { Loaded.rest with present := true, monCount := 1 })] }
  enc := { Dev.reset.enc with
    staged := [{ core := 0, kind := 3, ctx := 0, row := 0, tword := 0, oq := 0, words := [], record := [], tag := 0 }]
    mons := [(258051, { Mon.rest with stale := true })] } } }

/-- CLIP_SHARE of that monitor would have the number of BARRIER_STATE. -/
theorem clipShare_overdueMonitor_key : (R.CLIP_SHARE 258051).key = R.BARRIER_STATE.key := by simp [R.CLIP_SHARE, R.BARRIER_STATE]

/-- The effect of the update clears the monitor's CLIP_SHARE, and with it the 3 in BARRIER_STATE. -/
theorem barrierTimeout_strayMonitor_state : dget R.BARRIER_STATE (barrierTimeout barrierOverdueWithStrayMonitor.dev) = 0 := by
  decide +kernel

/-- Refutes O39: its clause on BARRIER_TIMEOUT, the one that decides it (`barrierAndSync_iff`), claims BARRIER_STATE 3 in every state, and
where a committed update clears a monitor beyond the 4,096 of R183, which no hypothesis keeps out, the write of its CLIP_SHARE falls on
BARRIER_STATE (`barrierTimeout_ends_arming` gives the clause for monitors in range). -/
theorem not_barrierAndSync : ¬ Obligations.BarrierAndSync := by
  intro h
  have hcompletes := barrierAndSync_iff.1 h barrierOverdueWithStrayMonitor (by decide +kernel) (by decide +kernel)
  obtain ⟨-, hclaimed, -⟩ := barrierTimeout_of_completes hcompletes
  exact absurd (barrierTimeout_strayMonitor_state.symm.trans hclaimed) (by decide)

end Sys2Proof.Machine
end
